-- ==== Sys2Proof/Word.lean ====
section
/-! DEFINITION. The word types of the KQ7063: 32-bit registers and memory words (00 R11, R14), 64-bit stack time
(00 R3) and queue entries (08 R267), 72-bit accumulators (06 R202), and bytes. -/

namespace Sys2Proof

/-- A 32-bit register or memory word. -/
abbrev Word := BitVec 32

/-- A byte of memory. -/
abbrev Byte := BitVec 8

/-- A 64-bit value: stack time, a queue entry, a CAP word pair. -/
abbrev DWord := BitVec 64

/-- A 72-bit accumulator. -/
abbrev Acc := BitVec 72

end Sys2Proof
end

