-- ==== Sys2Proof/Syntax.lean ====
section
/-! DEFINITION. The commands of the KQ7063, one constructor per row of spec/opcode_table.json, with the operands the
rules give it. Which command happens, and with which operands from outside (a frame, a word, a measured value, a pin),
is the sender's choice; what it does is Machine/. -/

namespace Sys2Proof

/-- The requesters of the chip-wide order, by their index (08 R253). -/
inductive Requester where
  | pair | ce | cs | lnk | rng | core0 | core1 | core2 | core3 | net | host
  deriving DecidableEq, Repr

/-- A programmable processor by its PROC number (06 R203): 0 to 3 core n, 4 the safety pair, 5 the Control Engine. -/
abbrev ProcId := Fin 6

/-- A core-profile processor by its PROC number: 0 to 3 core n, 4 the safety pair. -/
abbrev CoreId := Fin 5

/-- A general register number (06 R201). -/
abbrev Gpr := Fin 32

/-- An engine lane register number (06 R202). -/
abbrev Vreg := Fin 16

/-- A hardware queue (08 R267). -/
abbrev QueueId := Fin 32

/-- One of the 126 link ports and cell contexts: k = 0 to 62 is P01 to P63, k = 63 to 125 is E01 to E63
(00 R10, 07 R164). Index 0 and index 64 do not exist. -/
abbrev PortId := Fin 126

/-- The index i of a port or context: 1 to 63 own, 65 to 127 escrow (07 R164). -/
def PortId.idx (p : PortId) : Nat := if p.val < 63 then p.val + 1 else p.val + 2

/-- The three lane and scalar multiply-accumulate operations (06 R209, R217). -/
inductive MacOp where
  | mac | msu | mla
  deriving DecidableEq, Repr

/-- A receiver of a cell link: the chip's port, or the primary or the escrow port of the endpoint (03 R76). -/
inductive LinkEnd where
  | chip | primary | escrow
  deriving DecidableEq, Repr

/-- What a GRANT frame carries (09 R297): a refusal, the position, whether the role is STANDBY_MASTER, an observer
(R298), the chips of the stack, P, STM_ORIGIN, G, EPOCH, and whether every plan is held by then. -/
structure Grant where
  refused : Bool
  pos : Fin 64
  standby : Bool
  observer : Bool
  nchip : Fin 65
  p : BitVec 19
  origin : DWord
  g : BitVec 8
  epoch : BitVec 16
  plans : Bool
  deriving DecidableEq, Repr

/-- The header of a CAN frame (14 R425). -/
structure CanHeader where
  fdf : Bool
  brs : Bool
  esi : Bool
  ide : Bool
  rtr : Bool
  dlc : BitVec 4
  id : BitVec 29
  deriving DecidableEq, Repr

/-- How a CAN attempt ends (14 R427), with the error code of R428. -/
inductive CanTxOutcome where
  | done
  | arbLost
  | error (code : BitVec 4)
  deriving DecidableEq, Repr

/-- The outcome of the TRU's key and fuse check (15 R444). -/
inductive KeyCheck where
  | good
  | keyBad
  | fuseBad
  deriving DecidableEq, Repr

/-- What a write names: a register of the peripheral windows by its address (00 R11 to R13), or one of the tables of a
set-up to which the text gives no address: entry idx of a class's pattern table (01 R20), interlock pair j of a class
(01 R21), the naming word of a port or context, an arm block's word, and a participant's N_j (log 27). -/
inductive WriteTarget where
  | addr (a : Nat)
  | pattern (cls : Fin 16) (idx : Fin 32)
  | pair (cls : Fin 16) (j : Fin 8)
  | cell (p : PortId)
  | arm (a : Fin 16)
  | armPart (san : Fin 512) (pos : Fin 64)
  deriving DecidableEq, Repr

/-- A command of the KQ7063: one constructor per row of the opcode table, in its order. -/
inductive Instr where
  /-- VBED_POWER_UP (R454): VBED becomes valid and PD0 Bedrock powers up after 64 SLOWCLK periods, clearing the PD0 registers. -/
  | vbedPowerUp
  /-- VBED_REMOVAL (R364): Removal of VBED ends the Bedrock domain, which is the only thing that clears the grave latch. -/
  | vbedRemoval
  /-- SUPPLY_COLLAPSE (R482): VCORE falls below 0.70 V or VIO18 below 1.40 V, and the Bedrock supervisor powers every domain above PD0 down at once. -/
  | supplyCollapse
  /-- RESET_N_ASSERT (R464): RESET_N is held low for at least 10 SLOWCLK periods and resets the chip to BEDROCK or to STANDBY. -/
  | resetNAssert
  /-- SYSC_RESET_WRITE (R464): A write of SYSC_RESET with KEY 0x0A5C from the power authority or core 0 resets the chip. -/
  | syscResetWrite (req : Requester) (key : BitVec 16)
  /-- RESET_RELEASE (R439): On release of reset the straps are sampled, grave bits are set, and the key and fuse check, AS0 extension and ROM stages begin. -/
  | resetRelease (s1 s2 s3 : BitVec 4) (key : KeyCheck)
  /-- ROM_HAND_OVER (R435): The ROM completes its copy and hash stages, the TRU computes the Assay summary, and core 0 and the safety pair start at their entries. -/
  | romHandOver
  /-- POWER_COMMAND_BEDROCK (R457): SYSC_PCMD with GO and target BEDROCK is checked under R458 and starts the power sequence. -/
  | powerCommandBedrock (req : Requester) (opt : BitVec 12)
  /-- POWER_COMMAND_STANDBY (R457): SYSC_PCMD with GO and target STANDBY is checked under R458 and starts the power sequence. -/
  | powerCommandStandby (req : Requester) (opt : BitVec 12)
  /-- POWER_COMMAND_READY (R457): SYSC_PCMD with GO and target READY is checked under R458 and starts the power sequence. -/
  | powerCommandReady (req : Requester) (opt : BitVec 12)
  /-- POWER_COMMAND_RUN (R457): SYSC_PCMD with GO and target RUN is checked under R458 and starts the power sequence. -/
  | powerCommandRun (req : Requester) (opt : BitVec 12)
  /-- DOMAIN_POWER_UP_DONE (R455): A domain completes its switch-on, isolation release and SRAM clearing, and the sequencer moves on to the next domain. -/
  | domainPowerUpDone (d : Fin 12)
  /-- DOMAIN_POWER_DOWN_DONE (R459): A domain completes its shutdown and its 10 µs power-down, and the sequencer moves on to the next domain. -/
  | domainPowerDownDone (d : Fin 12)
  /-- POWER_SEQUENCE_DONE (R457): The sequence ends: BUSY clears, DONE sets, source 5 asserts, and any pending command starts. -/
  | powerSequenceDone
  /-- NOCLK_TIMEOUT (R456): PD1 does not lock within 1 ms, so it is powered down again and the sequence ends with RESULT NOCLK in BEDROCK. -/
  | noclkTimeout
  /-- SYSC_AUTH_WRITE (R461): A host-port write of SYSC_AUTH.RING gives power authority to the local host or to the master. -/
  | syscAuthWrite (req : Requester) (ring : Bool)
  /-- SYSC_MODE_WRITE (R466): The authority writes the requested service mode, which takes effect at the next period boundary. -/
  | syscModeWrite (req : Requester) (commission : Bool)
  /-- CORE_START (R465): Core 0 writes a SYSC_CORESTART bit, and core n starts at SYSC_CENTRYn at thread level with IE = 0. -/
  | coreStart (req : Requester) (start : BitVec 4)
  /-- CAN_WAKE_UP_PATTERN (R431): The PD0 detector sees the wake-up pattern on CANn_RX, sets WUP and drives WAKE_OUT. -/
  | canWakeUpPattern (n : Fin 2)
  /-- BEDROCK_ALARM (R463): SYSC_BSEC reaches SYSC_ALARM and sets the ALARM wake cause. -/
  | bedrockAlarm
  /-- WAKE_CAUSE_CLEAR (R463): The host clears wake causes in CAN_WAKESTAT or SYSC_WAKE, and WAKE_OUT follows. -/
  | wakeCauseClear (req : Requester) (alarm : Bool) (can : BitVec 6)
  /-- HP_STATUS (R468): Host-port STATUS transaction returning the 8-bit status byte. -/
  | hpStatus
  /-- HP_READ (R469): Host-port READ, performed after the address phase; it returns 0 with HERR and LATE if not complete in time. -/
  | hpRead (addr : Word) (late : Bool)
  /-- HP_WRITE (R469): Host-port WRITE, performed after the last data clock under the access rules of the service mode. -/
  | hpWrite (addr data : Word)
  /-- HP_TRANSACTION_ERROR (R468): An unlisted opcode or an early rise of HP_CS_N leaves the transaction without effect and sets HERR. -/
  | hpTransactionError
  /-- MBXPUSH (R470): The host pushes a 64-bit entry to Q25; a push to a full queue is dropped and sets MBXDROP. -/
  | mbxPush (entry : DWord)
  /-- MBXPOP (R470): The host pops the oldest Q26 entry; an empty queue returns 0 and sets MBXEMPTY. -/
  | mbxPop
  /-- HPD_DOORBELL_WRITE (R470): The host writes HPD_DOORBELL, which sets DOOR. -/
  | hpdDoorbellWrite (data : Word)
  /-- DEBUG_ATTACH (R471): HPD_DBGCTL.ATTACH extends AS5 and sets DBGATT. -/
  | debugAttach
  /-- DEBUG_DETACH (R471): HPD_DBGCTL.DETACH clears DBGATT. -/
  | debugDetach
  /-- DEBUG_HALT (R467): In COMMISSION, halting the named processors hard-stops the bridge port and makes a link stop request; in NORMAL it is counted in DBGREJ. -/
  | debugHalt (procs : BitVec 5)
  /-- DEBUG_RESUME (R471): A RESUME bit restarts the processor where it stopped, and the outputs stay stopped. -/
  | debugResume (procs : BitVec 5)
  /-- DLL_ENABLE (R51): A write of CLK_CTRL.DLL_EN with REFCLK present starts the DLL lock. -/
  | dllEnable
  /-- DLL_LOCK (R51): The DLL locks, sets LOCKED and restarts every measurement clock channel at tap 0 plus DELAY. -/
  | dllLock
  /-- DLL_LOCK_LOSS (R52): The lock monitor declares loss of lock, clears LOCKED and raises source 1; stack time runs on with the tap frozen. -/
  | dllLockLoss
  /-- DLL_RELOCK (R52): After 256 consecutive good cycles the DLL relocks by itself. -/
  | dllRelock
  /-- TIMELO_READ (R57): A read of STM_TIMELO returns stack time [31:0] and latches [63:32] for the requester. -/
  | timeloRead (req : Requester)
  /-- STM_LOAD (R56): STM_CTRL.SET loads the stack time as a step when allowed; otherwise it sets SETREJ. -/
  | stmLoad (req : Requester)
  /-- PERIOD_BOUNDARY (R59): Stack time reaches T_k: inputs are snapshotted, outputs commit, and context transitions are evaluated in the order of R46. -/
  | periodBoundary
  /-- COMPARE_ARM (R60): A write of STM_CMPnHI with EN arms the 40-bit target of channel n. -/
  | compareArm (n : Fin 8) (target : BitVec 40) (int : Bool)
  /-- COMPARE_FIRE (R60): Stack time reaches the target: FIRED sets, EN clears, and the VIC source or TPO is driven. -/
  | compareFire (n : Fin 8)
  /-- SLEW_STEP (R62): Slew moves the time-base tap one position towards zero error, at most once per 200 cycles. -/
  | slewStep
  /-- TIME_STEP (R63): Stack time steps by e, sets STEPPED, writes a Ledger record and shifts the domain map DREF. -/
  | timeStep
  /-- TIME_TAKEBACK (R64): After 64 periods with abs(e) at most 8 ticks, no DRIFTBAD and no COAST, the chip takes its cells back. -/
  | timeTakeback
  /-- FORWARDED_CLOCK_LOST (R66): RA_RXCLK stops or jumps, SRC becomes COAST, the tap is held and source 20 is raised. -/
  | forwardedClockLost (jump : Bool)
  /-- FORWARDED_CLOCK_QUALIFY (R68): RA_RXCLK runs clean for 1,024 cycles and the tap starts moving towards the forwarded tap. -/
  | forwardedClockQualify (tap : Fin 64)
  /-- FWD_RESUME (R68): The tap positions meet and SRC changes to FWD. -/
  | fwdResume
  /-- SETTLE_END (R68): abs(e) reaches 8 ticks in FWD, so SETTLE clears and source 20 is released. -/
  | settleEnd
  /-- MCLK_START (R70): Setting CLK_MCLKn.EN starts the channel at the next cycle boundary plus DELAY. -/
  | mclkStart (n : Fin 4)
  /-- MCLK_STOP (R70): Clearing EN completes the high phase and holds the output low. -/
  | mclkStop (n : Fin 4)
  /-- SYNC_IN_EDGE (R71): A SYNC_IN edge is captured and aligns or restarts each SYNCEN channel, possibly opening a realignment window. -/
  | syncInEdge (ph : Fin 64)
  /-- REALIGNMENT_WINDOW_END (R71): The SYNCWIN window of a channel closes. -/
  | realignmentWindowEnd (n : Fin 4)
  /-- LINK_SLOT (R96): At each word slot, each port's transmitter sends the first ready item in priority order. -/
  | linkSlot
  /-- LINK_ALIGN (R76): A receiver that has seen ALIGN in place in 2 consecutive periods becomes aligned. -/
  | linkAlign (p : PortId) (rx : LinkEnd)
  /-- LINK_ALIGN_LOSS (R76): After 3 periods without ALIGN in place the receiver loses alignment and discards words. -/
  | linkAlignLoss (p : PortId) (rx : LinkEnd)
  /-- UPLINK_WORD_RECEIVE (R98): The chip receives an uplink word and writes report words into the owning context. -/
  | uplinkWordReceive (p : PortId) (good : Bool) (ty : BitVec 3) (seq : BitVec 4) (data trx : Word)
  /-- ECHO_RECEIVE (R99): An ECHO word gives the round trip, D is recomputed, and LONG is set when D exceeds 15,360 ticks. -/
  | echoReceive (p : PortId) (seq : BitVec 4) (echo trx : Word)
  /-- NAK_RECEIVE (R102): A NAK makes the chip resend the named downlink word if R101 still allows it. -/
  | nakReceive (p : PortId) (seq named : BitVec 4)
  /-- CAPSET_COMPLETE (R94): A full good set of CAP0 to CAP3 takes LSTATE to UP, or to PROTOBAD for a foreign major protocol. -/
  | capsetComplete (p : PortId)
  /-- LINK_LOST (R103): A port exhausted in 3 consecutive periods raises source 11 and starts the bypass sequence. -/
  | linkLost (p : PortId)
  /-- STOP_REQUEST (R109): A stop request from the SFU, LNK_STOP or the CS sends STOP twice on every enabled port. -/
  | stopRequest
  /-- LNK_CMD_WRITE (R89): A write of LNK_CMD with CAPREQ or SVC sets PEND and queues the CMD word; other ops are rejected. -/
  | lnkCmdWrite (p : PortId) (op : BitVec 4) (arg : BitVec 24)
  /-- ADMITTED_DELAY_EXCEEDED (R252): A port exceeds its admitted delay for 8 consecutive periods, so ADM_LONGMAP is set and source 31 raised. -/
  | admittedDelayExceeded (p : PortId)
  /-- ENDPOINT_BEACON (R80): The endpoint sets its time to BEACON + D at the beacon's first code bit. -/
  | endpointBeacon (p : PortId) (escrow : Bool) (seq : BitVec 4) (beacon : Word)
  /-- ENDPOINT_DELAY_WORD (R80): The endpoint takes the new D from the DELAY word of the period. -/
  | endpointDelayWord (p : PortId) (escrow : Bool) (seq : BitVec 4) (delay : BitVec 24)
  /-- ENDPOINT_BAD_WORD (R102): An endpoint receiving a bad downlink word sends a NAK for it. -/
  | endpointBadWord (p : PortId) (escrow : Bool)
  /-- EDGE_COMMAND (R81): The endpoint takes an EDGE word with its CONT into the bundle of the next period. -/
  | edgeCommand (p : PortId) (escrow : Bool) (seq : BitVec 4) (edge cont : Word)
  /-- BUNDLE_DEADLINE (R82): At T_k+1 − L_ep the endpoint accepts a complete bundle, or discards it and repeats its previous one. -/
  | bundleDeadline (p : PortId)
  /-- EDGE_DUE (R83): At DUE the endpoint applies the entry with dead time, floors and the interlock check. -/
  | edgeDue (p : PortId)
  /-- CADENCE_COMMAND (R85): The endpoint takes a CADENCE command, or ignores it as ILLEGAL if invalid. -/
  | cadenceCommand (p : PortId) (escrow : Bool) (seq : BitVec 4) (cad c1 c2 c3 : Word)
  /-- CADENCE_START (R85): At START the new cadence replaces the running one. -/
  | cadenceStart (p : PortId) (group : Fin 5)
  /-- CADENCE_EDGE (R85): A cadence applies pattern A or pattern B at its grid instant. -/
  | cadenceEdge (p : PortId) (group : Fin 5)
  /-- CMD_STOP (R86): STOP applies BLOCK, halts cadences, discards pending edges and enters STOPPED. -/
  | cmdStop (p : PortId) (escrow : Bool) (seq : BitVec 4)
  /-- CMD_BYPASS (R86): BYPASS schedules a BYPASS entry at the due tick and enters BYPASS. -/
  | cmdBypass (p : PortId) (escrow : Bool) (seq : BitVec 4) (idx : Fin 32) (due : Word)
  /-- BYPASS_DUE (R114): At its due tick the BYPASS entry is applied and any arm-group edge due at the same tick is discarded. -/
  | bypassDue (p : PortId)
  /-- CMD_CLEAR (R108): CLEAR clears the DESAT, cell-fault or STOPPED and FALLBACK latches that it names. -/
  | cmdClear (p : PortId) (escrow : Bool) (seq : BitVec 4) (clrStop clrCell : Bool) (mask : BitVec 16)
  /-- CMD_TAKE (R112): A valid TAKE is acknowledged with TOKACK and schedules the change of active port at T_b. -/
  | cmdTake (p : PortId) (escrow : Bool) (seq : BitVec 4) (tb : Word)
  /-- CMD_RETURN (R86): RETURN leaves BYPASS for RUN. -/
  | cmdReturn (p : PortId) (escrow : Bool) (seq : BitVec 4)
  /-- CMD_REPLAY (R102): The endpoint resends the named uplink word if it still holds it. -/
  | cmdReplay (p : PortId) (escrow : Bool) (seq named : BitVec 4)
  /-- CMD_CAPREQ (R86): The endpoint sends CAP0 to CAP3 on the requesting port. -/
  | cmdCapreq (p : PortId) (escrow : Bool) (seq : BitVec 4)
  /-- CMD_SVC (R86): SVC sets the endpoint service mode. -/
  | cmdSvc (p : PortId) (escrow : Bool) (seq : BitVec 4) (commission : Bool)
  /-- CMD_UNLISTED_OP (R86): An unlisted OP, or a non-standby OP arriving on the standby port, is ignored and reported as BADCMD. -/
  | cmdUnlistedOp (p : PortId) (escrow : Bool) (seq op : BitVec 4)
  /-- CAL_WORD (R88): A CAL word sets the rising or falling trim of one gate. -/
  | calWord (p : PortId) (escrow : Bool) (seq : BitVec 4) (falling : Bool) (gate : Fin 16) (trim : BitVec 12)
  /-- CFG_WRITE (R89): A CFG word replaces one shadow configuration value. -/
  | cfgWrite (p : PortId) (escrow : Bool) (seq : BitVec 4) (addr : BitVec 8) (value : BitVec 24)
  /-- CFG_COMMIT (R89): A write to COMMIT with the correct sum applies the shadow at the next boundary; otherwise the shadow is discarded; CFGACK answers. -/
  | cfgCommit (p : PortId) (escrow : Bool) (seq : BitVec 4) (sum : BitVec 16)
  /-- ENDPOINT_BOUNDARY (R110): At its own boundary the endpoint counts SIL, rides through, or enters FALLBACK when SIL reaches 5. -/
  | endpointBoundary (p : PortId)
  /-- REPORT_SAMPLE (R97): The endpoint samples its measurements at uplink slot S − RPTADV and starts the report block. -/
  | reportSample (p : PortId) (vcap : BitVec 15) (current : BitVec 14) (temps : BitVec 27)
  /-- FAULT_LATCH (R108): A DESAT or cell fault latches at the endpoint and holds its gate off. -/
  | faultLatch (p : PortId) (mask present : BitVec 29)
  /-- CADENCE_PASS (R119): At TCUT the CS forms the cadence commands, including the DAB secondary phase moves. -/
  | cadencePass
  /-- ARM_PASS (R131): At RCUT the CS reads the arm inputs and forms the bundles in PSC, NLM or MTL. -/
  | armPass
  /-- PASS_END (R123): A CS pass completes and its words stand in the link buffers, or LATE is set if it missed a slot. -/
  | passEnd
  /-- FOM_WINDOW_END (R134): At a line-cycle start or after 1,000 periods, T and Λ are copied, FOMX is judged and the credit resets. -/
  | fomWindowEnd (a : Fin 16)
  /-- CELLCMD_BYPASS (R149): Firmware requests bypass of the addressed contexts at the next boundary. -/
  | cellcmdBypass (esc : Bool) (cell : Fin 64)
  /-- CELLCMD_RETURN (R151): Firmware requests the return of the addressed contexts, which sets PEND_RET. -/
  | cellcmdReturn (esc : Bool) (cell : Fin 64)
  /-- CELLCMD_CLEAR (R152): Firmware requests CLEAR then BYPASS for FAULTED contexts. -/
  | cellcmdClear (esc : Bool) (cell : Fin 64) (clrStop clrCell : Bool) (gates : BitVec 16)
  /-- CELLCMD_RESUME (R152): Firmware sends CLEAR with CLRSTOP to endpoints that report STOPPED or FALLBACK. -/
  | cellcmdResume (esc : Bool) (cell : Fin 64)
  /-- CELLCMD_INVALID_OP (R149): A CS_CELLCMD write with an invalid OP counts once in NOEFFECT. -/
  | cellcmdInvalidOp (op : BitVec 4)
  /-- SUPERVISION (R187): The CE evaluates every feedback descriptor and substitutes predictions where needed. -/
  | supervision
  /-- FEEDBACK_IMPLAUSIBLE (R189): MCNT reaches M, the feedback becomes IMPLAUSIBLE, source 14 is raised and substitution begins. -/
  | feedbackImplausible (n : Fin 512)
  /-- FEEDBACK_FROZEN (R189): FCNT reaches F or the echo stalls, the feedback becomes FROZEN and source 15 is raised. -/
  | feedbackFrozen (n : Fin 512)
  /-- FEEDBACK_EXPIRY (R190): COASTCNT reaches TCOAST, so SF1 is requested or a ramp starts and the descriptor is EXPIRED. -/
  | feedbackExpiry (n : Fin 512)
  /-- FEEDBACK_RECOVERY (R191): RCNT reaches RECOV and the feedback returns to VALID. -/
  | feedbackRecovery (n : Fin 512)
  /-- FBEXP_WRITE (R191): A write of 1 to a CE_FBEXP bit returns an EXPIRED descriptor with full RCNT to VALID. -/
  | fbexpWrite (w : Fin 16) (bits : Word)
  /-- BUMPLESS_RECOMPUTE (R178): In the swap slot the bumpless integrators are recomputed under the new bank. -/
  | bumplessRecompute
  /-- PROGRAM_START (R162): An engine program that is due starts at its admitted offset. -/
  | programStart (slot : Fin 8)
  /-- PROGRAM_OVERRUN (R163): A program that has not ended by its deadline offset is stopped, with OVERRUN and source 13. -/
  | programOverrun
  /-- COMMIT_WINDOW (R159): At P − 200 trackers advance, ramps scale and the commit buffer loads. -/
  | commitWindow
  /-- CE_LOAD (R173): CE_LOAD.GO copies entries from the master copy into the pending bank. -/
  | ceLoad (first last : BitVec 14)
  /-- LOAD_DONE (R173): The copy and limit check end, PBAD is set or cleared and LOADBUSY clears. -/
  | loadDone
  /-- BANK_SWAP_REQUEST (R174): CE_BANK.SWAP sets SWAPPEND. -/
  | bankSwapRequest
  /-- RAMP_CLEAR (R195): CE_RAMPg.CLR restores the gain, or becomes pending while the ramp runs. -/
  | rampClear (g : Fin 8)
  /-- PARAM_WRITE (R160): A processor write to the parameter area during the snapshot phase is held until that phase ends. -/
  | paramWrite (j : Fin 2048) (v : Word)
  /-- ANGLE_TABLE_WRITE (R180): A processor write to an angle table is accepted only if the table is LIVE while admitted. -/
  | angleTableWrite (p : CoreId) (t : Fin 64) (i : Fin 1024) (v : Word)
  /-- TRACKER_MODE_WRITE (R184): A write of MODE takes effect in the next commit window. -/
  | trackerModeWrite (n : Fin 4) (forming : Bool)
  /-- CE_PARITY_ERROR (R196): A persistent CE memory parity error restores a coefficient or raises source 10. -/
  | ceParityError (off : Fin 0x80000)
  /-- PARITY_RESTORATION (R198): A read with persistent bad parity is restored from its source, or raises its source and the PARITY or FETCH exception. -/
  | parityRestoration (p : ProcId) (addr : Word) (fetch persists : Bool)
  /-- RESTORATION_DONE (R198): A restoration completes, the word is written back and the stalled read completes. -/
  | restorationDone (data : Word)
  /-- ADD (R208): d ← a + b. -/
  | add (p : ProcId) (d a b : Gpr)
  /-- SUB (R208): d ← a − b. -/
  | sub (p : ProcId) (d a b : Gpr)
  /-- AND (R208): Bitwise AND. -/
  | and (p : ProcId) (d a b : Gpr)
  /-- OR (R208): Bitwise OR. -/
  | or (p : ProcId) (d a b : Gpr)
  /-- XOR (R208): Bitwise XOR. -/
  | xor (p : ProcId) (d a b : Gpr)
  /-- SLL (R208): Shift left logical. -/
  | sll (p : ProcId) (d a b : Gpr)
  /-- SRL (R208): Shift right logical. -/
  | srl (p : ProcId) (d a b : Gpr)
  /-- SRA (R208): Shift right arithmetic. -/
  | sra (p : ProcId) (d a b : Gpr)
  /-- SLT (R208): Set if less than, signed. -/
  | slt (p : ProcId) (d a b : Gpr)
  /-- SLTU (R208): Set if less than, unsigned. -/
  | sltu (p : ProcId) (d a b : Gpr)
  /-- ADDS (R208): Saturating add; saturation sets SAT. -/
  | adds (p : ProcId) (d a b : Gpr)
  /-- SUBS (R208): Saturating subtract; saturation sets SAT. -/
  | subs (p : ProcId) (d a b : Gpr)
  /-- MIN (R208): Signed minimum. -/
  | min (p : ProcId) (d a b : Gpr)
  /-- MAX (R208): Signed maximum. -/
  | max (p : ProcId) (d a b : Gpr)
  /-- CLZ (R208): Count leading zeros. -/
  | clz (p : ProcId) (d a : Gpr)
  /-- MUL (R208): Low 32 bits of the product. -/
  | mul (p : ProcId) (d a b : Gpr)
  /-- MULH (R208): High 32 bits of the signed product. -/
  | mulh (p : ProcId) (d a b : Gpr)
  /-- MULHU (R208): High 32 bits of the unsigned product. -/
  | mulhu (p : ProcId) (d a b : Gpr)
  /-- DIV (R210): Signed quotient in 18 cycles, with DZ and OV rules. -/
  | div (p : ProcId) (d a b : Gpr)
  /-- DIVU (R210): Unsigned quotient in 18 cycles. -/
  | divu (p : ProcId) (d a b : Gpr)
  /-- REM (R210): Signed remainder in 18 cycles. -/
  | rem (p : ProcId) (d a b : Gpr)
  /-- REMU (R210): Unsigned remainder in 18 cycles. -/
  | remu (p : ProcId) (d a b : Gpr)
  /-- MAC (R209): Adds the rounded product to an accumulator. -/
  | mac (p : ProcId) (n : Fin 4) (sh : Fin 32) (a b : Gpr)
  /-- MSU (R209): Subtracts the rounded product from an accumulator. -/
  | msu (p : ProcId) (n : Fin 4) (sh : Fin 32) (a b : Gpr)
  /-- MLA (R209): Loads the rounded product into an accumulator. -/
  | mla (p : ProcId) (n : Fin 4) (sh : Fin 32) (a b : Gpr)
  /-- RDA (R209): Reads out an accumulator with rounding and saturation. -/
  | rda (p : ProcId) (d : Gpr) (n : Fin 4) (sh : Fin 32)
  /-- CLA (R208): Clears an accumulator. -/
  | cla (p : ProcId) (n : Fin 4)
  /-- RDW (R208): Reads one word of an accumulator. -/
  | rdw (p : ProcId) (d : Gpr) (n : Fin 4) (w : Fin 4)
  /-- WRW (R208): Writes one word of an accumulator. -/
  | wrw (p : ProcId) (n : Fin 4) (w : Fin 4) (a : Gpr)
  /-- ADDI (R208): Adds a sign-extended immediate. -/
  | addi (p : ProcId) (d a : Gpr) (imm : BitVec 16)
  /-- ANDI (R208): AND with a zero-extended immediate. -/
  | andi (p : ProcId) (d a : Gpr) (imm : BitVec 16)
  /-- ORI (R208): OR with a zero-extended immediate. -/
  | ori (p : ProcId) (d a : Gpr) (imm : BitVec 16)
  /-- XORI (R208): XOR with a zero-extended immediate. -/
  | xori (p : ProcId) (d a : Gpr) (imm : BitVec 16)
  /-- SLTI (R208): Set if less than an immediate, signed. -/
  | slti (p : ProcId) (d a : Gpr) (imm : BitVec 16)
  /-- LUI (R208): Loads the immediate into the upper half. -/
  | lui (p : ProcId) (d : Gpr) (imm : BitVec 16)
  /-- SLLI (R208): Shift left by an immediate. -/
  | slli (p : ProcId) (d a : Gpr) (sh : Fin 32)
  /-- SRLI (R208): Shift right logical by an immediate. -/
  | srli (p : ProcId) (d a : Gpr) (sh : Fin 32)
  /-- SRAI (R208): Shift right arithmetic by an immediate. -/
  | srai (p : ProcId) (d a : Gpr) (sh : Fin 32)
  /-- LW (R208): Load word. -/
  | lw (p : ProcId) (d a : Gpr) (imm : BitVec 16)
  /-- LH (R208): Load halfword, signed. -/
  | lh (p : ProcId) (d a : Gpr) (imm : BitVec 16)
  /-- LHU (R208): Load halfword, unsigned. -/
  | lhu (p : ProcId) (d a : Gpr) (imm : BitVec 16)
  /-- LB (R208): Load byte, signed. -/
  | lb (p : ProcId) (d a : Gpr) (imm : BitVec 16)
  /-- LBU (R208): Load byte, unsigned. -/
  | lbu (p : ProcId) (d a : Gpr) (imm : BitVec 16)
  /-- SW (R208): Store word. -/
  | sw (p : ProcId) (d a : Gpr) (imm : BitVec 16)
  /-- SH (R208): Store halfword. -/
  | sh (p : ProcId) (d a : Gpr) (imm : BitVec 16)
  /-- SB (R208): Store byte. -/
  | sb (p : ProcId) (d a : Gpr) (imm : BitVec 16)
  /-- BEQ (R208): Branch if equal. -/
  | beq (p : ProcId) (a b : Gpr) (off : BitVec 16)
  /-- BNE (R208): Branch if not equal. -/
  | bne (p : ProcId) (a b : Gpr) (off : BitVec 16)
  /-- BLT (R208): Branch if less than, signed. -/
  | blt (p : ProcId) (a b : Gpr) (off : BitVec 16)
  /-- BGE (R208): Branch if greater or equal, signed. -/
  | bge (p : ProcId) (a b : Gpr) (off : BitVec 16)
  /-- BLTU (R208): Branch if less than, unsigned. -/
  | bltu (p : ProcId) (a b : Gpr) (off : BitVec 16)
  /-- BGEU (R208): Branch if greater or equal, unsigned. -/
  | bgeu (p : ProcId) (a b : Gpr) (off : BitVec 16)
  /-- J (R207): Jump. -/
  | j (p : ProcId) (off : BitVec 26)
  /-- CALL (R212): Pushes the return address on the call stack and jumps. -/
  | call (p : ProcId) (off : BitVec 26)
  /-- RET (R212): Pops the call stack and jumps there. -/
  | ret (p : ProcId)
  /-- TWAITP (R214): Waits until T_k + offset cycles. -/
  | twaitp (p : ProcId) (off : BitVec 18)
  /-- TWAIT (R214): Waits until stack time reaches a. -/
  | twait (p : ProcId) (a : Gpr)
  /-- TWAIT_COMPLETE (R214): The wait target is reached and the waiting instruction completes. -/
  | twaitComplete (p : ProcId)
  /-- JT (R213): Dispatches through a jump table. -/
  | jt (p : ProcId) (a : Gpr) (imm : BitVec 16)
  /-- LOOP (R211): Loop with a register count clamped to a bound. -/
  | loop (p : ProcId) (body : Fin 32) (a : Gpr) (bound : BitVec 16)
  /-- LOOPI (R211): Loop with an immediate count. -/
  | loopi (p : ProcId) (body : Fin 32) (count : BitVec 16)
  /-- MFS (R203): Reads a special register. -/
  | mfs (p : ProcId) (d : Gpr) (n : Fin 32)
  /-- MTS (R203): Writes a special register. -/
  | mts (p : ProcId) (n : Fin 32) (a : Gpr)
  /-- DI (R226): Clears IE. -/
  | di (p : ProcId)
  /-- EI (R226): Sets IE. -/
  | ei (p : ProcId)
  /-- IRET (R225): Normal or chained return from a handler. -/
  | iret (p : ProcId)
  /-- BRK (R221): Breakpoint exception, or a debugger halt in COMMISSION. -/
  | brk (p : ProcId)
  /-- WFI (R227): Stops the core clock until an interrupt is taken. -/
  | wfi (p : ProcId)
  /-- ATW (R215): Queues a timed peripheral write. -/
  | atw (p : ProcId) (d a b : Gpr)
  /-- TIMED_WRITE_PERFORM (R215): A queued timed write reaches its tick and is performed, setting TWERR if refused. -/
  | timedWritePerform (p : ProcId)
  /-- SYS (R221): System call exception. -/
  | sys (p : ProcId) (code : BitVec 8)
  /-- QPUSH (R216): Pushes a 64-bit entry to a queue. -/
  | qpush (p : ProcId) (a b : Gpr) (q : QueueId)
  /-- QPOP (R216): Pops a 64-bit entry from a queue. -/
  | qpop (p : ProcId) (d : Gpr) (q : QueueId)
  /-- QCNT (R208): Returns the number of entries in a queue. -/
  | qcnt (p : ProcId) (d : Gpr) (q : QueueId)
  /-- VADD (R217): Lane add. -/
  | vadd (vd va vb : Vreg)
  /-- VSUB (R217): Lane subtract. -/
  | vsub (vd va vb : Vreg)
  /-- VAND (R217): Lane AND. -/
  | vand (vd va vb : Vreg)
  /-- VOR (R217): Lane OR. -/
  | vor (vd va vb : Vreg)
  /-- VXOR (R217): Lane XOR. -/
  | vxor (vd va vb : Vreg)
  /-- VADDS (R217): Lane saturating add. -/
  | vadds (vd va vb : Vreg)
  /-- VSUBS (R217): Lane saturating subtract. -/
  | vsubs (vd va vb : Vreg)
  /-- VMIN (R217): Lane signed minimum. -/
  | vmin (vd va vb : Vreg)
  /-- VMAX (R217): Lane signed maximum. -/
  | vmax (vd va vb : Vreg)
  /-- VABS (R217): Lane saturating absolute value. -/
  | vabs (vd va : Vreg)
  /-- VNEG (R217): Lane saturating negation. -/
  | vneg (vd va : Vreg)
  /-- VCLT (R217): Lane signed less-than mask. -/
  | vclt (vd va vb : Vreg)
  /-- VMOV (R217): Lane move. -/
  | vmov (vd va : Vreg)
  /-- VSRA (R217): Lane arithmetic shift right. -/
  | vsra (vd va : Vreg) (t : Fin 32)
  /-- VSLL (R217): Lane shift left. -/
  | vsll (vd va : Vreg) (t : Fin 32)
  /-- VCMAC (R217): Lane coefficient multiply-accumulate. -/
  | vcmac (op : MacOp) (n : Fin 4) (lx : Bool) (va : Vreg) (c : BitVec 14)
  /-- VCM (R169): Lane coefficient multiply. -/
  | vcm (vd va : Vreg) (lx : Bool) (c : BitVec 14)
  /-- VRDA (R170): Lane accumulator readout. -/
  | vrda (vd : Vreg) (n : Fin 4) (t : Fin 32)
  /-- VCLA (R217): Lane accumulator clear. -/
  | vcla (n : Fin 4)
  /-- VVMAC (R217): Lane-by-lane multiply-accumulate. -/
  | vvmac (n : Fin 4) (t : Fin 32) (va vb : Vreg)
  /-- VLD (R220): 16-word lane load. -/
  | vld (vd : Vreg) (base : Fin 16) (bc : Bool) (w : BitVec 12)
  /-- VST (R220): 16-word lane store. -/
  | vst (va : Vreg) (base : Fin 16) (w : BitVec 12)
  /-- VINT (R177): Steps 16 integrator descriptors. -/
  | vint (vd va : Vreg) (n : BitVec 8)
  /-- VANG (R179): Angle table interpolation. -/
  | vang (vd va : Vreg) (t : Fin 64)
  /-- POST (R166): Starts the transfer of a post group. -/
  | post (g : Fin 4)
  /-- END (R217): Ends the engine program. -/
  | endProgram
  /-- VBC (R217): Broadcasts a scalar to every lane. -/
  | vbc (vd : Vreg) (r : Gpr)
  /-- VEXT (R217): Extracts one lane to a scalar. -/
  | vext (va : Vreg) (l : Fin 16) (r : Gpr)
  /-- VLANE (R217): Writes each lane index. -/
  | vlane (vd : Vreg)
  /-- VIC_ARBITRATION (R262): Each cycle the VIC routes pending sources to eligible processors. -/
  | vicArbitration
  /-- INTERRUPT_ENTRY (R224): A core latches the winning source, reads the vector, pushes its state and enters the handler in 6 cycles. -/
  | interruptEntry (p : CoreId)
  /-- NMI_ENTRY (R266): Source 0 is entered at LEVEL 15 on its configured processor regardless of IE. -/
  | nmiEntry
  /-- VIC_SRC_WRITE (R265): A write to VIC_SRCn takes effect in the next arbitration cycle. -/
  | vicSrcWrite (n : Fin 256) (en : Bool) (route : BitVec 5) (prio : BitVec 4)
  /-- VIC_SWSET (R260): Sets software source bits without read-modify-write. -/
  | vicSwset (bits : Word)
  /-- VIC_SWCLR (R260): Clears software source bits without read-modify-write. -/
  | vicSwclr (bits : Word)
  /-- SEMAPHORE_ACQUIRE (R257): A read of HQ_SEMn acquires the semaphore if it is free. -/
  | semaphoreAcquire (req : Requester) (n : Fin 64)
  /-- SEMAPHORE_RELEASE (R257): The owner frees the semaphore; writes by others are ignored and counted. -/
  | semaphoreRelease (req : Requester) (n : Fin 64)
  /-- HARDWARE_PUSH (R270): A hardware producer pushes an entry, or it is dropped with OVF at a full queue. -/
  | hardwarePush (q : QueueId) (entry : DWord)
  /-- HARDWARE_POP (R270): A hardware consumer takes an entry from its queue. -/
  | hardwarePop (q : QueueId)
  /-- QUEUE_FLUSH (R272): HQ_FLUSH empties the queue at the end of the cycle. -/
  | queueFlush (q : QueueId)
  /-- ADMIT (R240): SYS 0x40 on core 0 runs the admission checks in order. -/
  | admitRequest (buddyOwn buddyEscrow : Option (BitVec 192))
  /-- ADMISSION_RESULT (R237): Admission ends and writes its result record, warnings and ADM registers. -/
  | admissionResult
  /-- ADMISSION_LOCK (R238): At the next boundary an accepted set-up locks, dispatchers are written and contexts enter ADMITTED. -/
  | admissionLock
  /-- UNLOAD (R235): SYS 0x41 starts the unload shutdown: stop to the cells, contexts to DISCOVERED, locks released. -/
  | unload
  /-- UNLOAD_DONE (R238): The unload shutdown completes and every lock is released. -/
  | unloadDone
  /-- DISPATCH_PROGRAM (R250): The dispatcher starts a due core program at its START. -/
  | dispatchProgram (q : CoreId) (slot : Fin 8)
  /-- DEADLINE_MISS (R250): A program past its DEADLINE raises source 31 and counts DLMISS. -/
  | deadlineMiss (q : CoreId) (slot : Fin 8)
  /-- DI_WINDOW_OVERRUN (R251): A disabled window reaches 401 cycles and raises source 31. -/
  | diWindowOverrun (q : CoreId)
  /-- RING_SLOT (R280): At each frame slot a chip transmits or forwards a frame on the ring grid. -/
  | ringSlot (inA inB : Option (List Word))
  /-- RING_PORT_UP (R276): A receive port is qualified after 1,024 clean cycles and enters UP. -/
  | ringPortUp (portB : Bool)
  /-- RING_PORT_BROKEN (R276): The clock stops or words fail, the port enters BROKEN and sends a BREAK notice. -/
  | ringPortBroken (portB : Bool)
  /-- RING_BAD_WORD (R284): A bad word poisons the frame downstream and sends a NAK back. -/
  | ringBadWord (portB : Bool)
  /-- RING_NAK (R285): On a NAK the chip resends the frame in the next slot, or counts it lost. -/
  | ringNak (portB : Bool)
  /-- RING_FRAMES_LOST (R286): Losses in 3 consecutive periods on a receive port raise source 12. -/
  | ringFramesLost (portB : Bool)
  /-- RING_BEACON_RECEIVE (R288): A chip takes a BEACON, adds its hop delay to ACC and forwards it. -/
  | ringBeaconReceive (portB : Bool) (f : List Word) (arrival : DWord)
  /-- RING_HOP_RECEIVE (R287): A HOP frame gives the captures from which the hop delay is computed. -/
  | ringHopReceive (portB : Bool) (f : List Word) (capture : Word)
  /-- REFB_RECEIVE (R289): A chip takes its share entries and the firmware words of the reference broadcast. -/
  | refbReceive (f : List Word) (nshare : BitVec 8)
  /-- ESCROW_FRAME_RECEIVE (R295): The holder writes the escrow records into its contexts, or counts them stale. -/
  | escrowFrameReceive (f : List Word)
  /-- SAFETY_FRAME_RECEIVE (R286): The Ring Port compares the two safety copies and raises source 4 on a mismatch. -/
  | safetyFrameReceive (f : List Word)
  /-- ARMCNT_RECEIVE (R498): A receiver keeps each participant's last ACTIVE count of a shared arm. -/
  | armcntReceive (f : List Word)
  /-- MGMT_FRAME_RECEIVE (R278): A MGMT frame for this chip is queued in Q12. -/
  | mgmtFrameReceive (f : List Word)
  /-- BULK_FRAME_RECEIVE (R278): A BULK frame for this chip is queued in Q13. -/
  | bulkFrameReceive (f : List Word)
  /-- BREAK_NOTICE (R283): A BREAK notice makes the chip switch to the plan for that break at the next boundary. -/
  | breakNotice (u : Fin 64)
  /-- JOIN (R297): RNG_CTRL.JOIN starts sending JOIN frames every 16 periods. -/
  | join
  /-- JOIN_RECEIVE (R297): The master grants or refuses a JOIN. -/
  | joinReceive (serial : BitVec 48) (own : BitVec 8) (summary : DWord) (hops : Fin 64) (longHop : Bool)
  /-- GRANT_RECEIVE (R297): The member writes its period and origin, steps its time and joins once it holds the plans. -/
  | grantReceive (g : Grant)
  /-- ROLECMD_MASTER (R35): The host commands the MASTER role. -/
  | rolecmdMaster
  /-- ROLECMD_MEMBER (R35): The host commands the MEMBER role. -/
  | rolecmdMember
  /-- ROLE_SWAP (R302): RNG_CTRL.SWAP exchanges master and standby at the next boundary and increments EPOCH. -/
  | roleSwap
  /-- LEAVE (R297): RNG_CTRL.LEAVE leaves the stack at the next boundary, or is rejected while driving. -/
  | leave
  /-- BUDDY_LOSS (R303): Two periods of silence from the buddy declare loss, raise source 18 and send TAKE. -/
  | buddyLoss
  /-- OFFER_RECEIVE (R305): The buddy receiving an OFFER sends TAKE for T_d+2. -/
  | offerReceive (cell : Fin 64)
  /-- TAKEN_RECEIVE (R305): The owner receiving TAKEN lets its context enter ESCROWED at T_b. -/
  | takenReceive (cell : Fin 64)
  /-- TOKACK_RECEIVE (R304): The chip takes a TOKACK for a TAKE it sent. -/
  | tokackReceive (p : PortId) (tb : BitVec 16)
  /-- HANDOVER (R307): RNG_HOCMD HANDOVER sends a HO_REQ to give driven cells to the buddy. -/
  | handover (cell : Fin 64)
  /-- HANDBACK (R307): RNG_HOCMD HANDBACK sends a HO_REQ to take own cells back. -/
  | handback (cell : Fin 64)
  /-- HANDOVER_CANCEL (R308): CANCEL before the TAKE words are sent ends the request as CANCELLED. -/
  | handoverCancel
  /-- HO_REQ_RECEIVE (R308): The receiver answers with HO_ACK or a refusal. -/
  | hoReqReceive (back : Bool) (cell : Fin 64) (held : BitVec 64)
  /-- HO_ACK_RECEIVE (R309): An accepted request runs the TAKE sequence to T_b, with held-back cells giving PARTIAL. -/
  | hoAckReceive (result : BitVec 8) (held : BitVec 64)
  /-- MGMT_TRANSMIT (R297): RNG_MTXCTL.GO sends RNG_MTX as a MGMT or BULK frame in the next planned slot. -/
  | mgmtTransmit (dst : Fin 64) (bc bulk : Bool)
  /-- BRP_ENSET (R314): Starts the named channels at the next aligned instant, or leaves the enable pending. -/
  | brpEnset (ch : BitVec 8)
  /-- BRP_ENCLR (R331): Starts a soft stop of the named channels. -/
  | brpEnclr (ch : BitVec 8)
  /-- SOFT_STOP_DONE (R331): The STOPLO hold ends, both gates are off and STOPDONE is set. -/
  | softStopDone (c : Fin 8)
  /-- PWM_BOUNDARY (R316): A channel boundary transfers a committed set and forms the period from duty, carry, runt rules and refresh. -/
  | pwmBoundary (c : Fin 8)
  /-- PWM_EDGE (R315): A scheduled gate edge of a channel is executed. -/
  | pwmEdge (c : Fin 8)
  /-- SHADOW_WRITE (R318): A write of BRP_PER or BRP_DUTY sets DIRTY and withdraws COMMITTED. -/
  | shadowWrite (req : Requester) (c : Fin 8) (duty : Bool) (value : BitVec 24)
  /-- SHADOW_COMMIT (R318): COMMIT sets COMMITTED when DIRTY. -/
  | shadowCommit (c : Fin 8)
  /-- SHADOW_DISCARD (R318): DISCARD reloads the shadow from the active values. -/
  | shadowDiscard (c : Fin 8)
  /-- FORCE_SET (R321): BRP_FORCE SET takes channels out of PWM with the gate bits, or applies the interlock command. -/
  | forceSet (set : BitVec 8) (gates : BitVec 16)
  /-- FORCE_RELEASE (R321): BRP_FORCE REL returns the channel to PWM at its next boundary. -/
  | forceRelease (rel : BitVec 8)
  /-- BOTHON_SENSED (R323): Both gates are sensed on for 2 cycles, so BOTHON latches and source 3 is raised. -/
  | bothonSensed (c : Fin 8)
  /-- BOOTSTRAP_UNDERVOLTAGE (R325): BOOTLOW while HO is on or due turns both gates off, latches BOOTUV and raises source 22. -/
  | bootstrapUndervoltage (c : Fin 8)
  /-- SHORT_CIRCUIT (R327): An ISN excursion for FILT cycles turns both gates off, latches SC and raises source 21. -/
  | shortCircuit (c : Fin 8)
  /-- TRIP_INPUT (R328): A trip input outside blanking stops the channels in CHMASK and raises source 23. -/
  | tripInput (t : Fin 8)
  /-- TRIP_BLANK_END (R328): A blanking window ends, and an input still asserted then acts. -/
  | tripBlankEnd (t : Fin 8)
  /-- CLEAR_SC (R329): BRP_CLR with SC clears the short-circuit latch. -/
  | clearSc (ch : BitVec 8)
  /-- CLEAR_BOOT (R329): BRP_CLR with BOOT clears the BOOTUV latch. -/
  | clearBoot (ch : BitVec 8)
  /-- CLEAR_TRIP (R329): BRP_CLR with TRIP clears the TRIP latch. -/
  | clearTrip (ch : BitVec 8)
  /-- VGD_LOW (R313): VGD undervoltage holds every gate off and sets VGDLOW. -/
  | vgdLow
  /-- VGD_RECOVER (R313): VGDLOW clears and channels resume at their next boundary. -/
  | vgdRecover
  /-- SAR_CONVERSION (R335): A converter samples a sequence entry's input and completes the result 90 cycles later. -/
  | sarConversion (e : Fin 32) (code : BitVec 16)
  /-- OFFSET_CONVERSION (R336): The offset slot converts ground and updates OFFn. -/
  | offsetConversion (b : Bool) (code : BitVec 16)
  /-- SIGMA_DELTA_OUTPUT (R337): The sinc3 filter produces one output every OSR clocks. -/
  | sigmaDeltaOutput (s : Fin 8) (value : BitVec 30) (stuck : Bool)
  /-- COMPARATOR_OUTPUT (R338): A comparator changes state after FILT cycles beyond its threshold. -/
  | comparatorOutput (t : Fin 8) (out : Bool)
  /-- COMPARATOR_THRESHOLD_WRITE (R339): A new THR applies from the next cycle and restarts the filter count. -/
  | comparatorThresholdWrite (t : Fin 8) (thr : BitVec 8)
  /-- SUPPLY_OUT_OF_WINDOW (R340): A rail outside its window raises source 24. -/
  | supplyOutOfWindow (rail : Fin 6) (mv : BitVec 16)
  /-- JUNCTION_TEMPERATURE_HIGH (R341): A sensor reaching TJHI sets TJHI and raises source 25. -/
  | junctionTemperatureHigh (sensor : Fin 4) (quarter : BitVec 12)
  /-- SERIAL_ACCEPT (R343): An MSR_SERLO write accepts a replacement serial at the next boundary, or sets REJ. -/
  | serialAccept (serlo : Word)
  /-- TRIMSET_WRITE (R351): Firmware sets a stage-group gate trim, which the CAL round then carries. -/
  | trimsetWrite (fall : Bool) (i : BitVec 7) (gate : Fin 16) (trim : BitVec 12)
  /-- GATE_CHARGE_MEASURE (R344): MSR_GQCMD.GO pulses the gates and measures the charge, or returns REFUSED. -/
  | gateChargeMeasure (c : Fin 8) (hs hsok : Bool)
  /-- GATE_CHARGE_DONE (R344): The measurement ends with its result and sets GQDONE. -/
  | gateChargeDone (qg : BitVec 16)
  /-- FAULT_SOURCE_SET (R358): An FSW bit changes from 0 to 1 and takes its reaction, record and ERR_N once. -/
  | faultSourceSet (src : Fin 64) (unit : Fin 6)
  /-- DUAL_RAIL_EQUAL (R355): A dual-rail pair at equal levels for 2 cycles is treated as asserted. -/
  | dualRailEqual (src : Fin 8)
  /-- FSW_CLEAR (R356): A write of 1 clears FSW bits; only the safety pair may clear bits 0 to 7. -/
  | fswClear (req : Requester) (lo hi : Word)
  /-- FSRC_REARM (R361): A write of 1 to FSRC.VALID re-arms the first-source latch. -/
  | fsrcRearm
  /-- REACT_WRITE (R357): A write of FCU_REACTs, refused with REACTREJ if invalid. -/
  | reactWrite (src : Fin 64) (v : Word)
  /-- FCU_SWSET (R366): Asserts firmware sources. -/
  | fcuSwset (bits : Word)
  /-- FCU_SWCLR (R366): Deasserts firmware sources. -/
  | fcuSwclr (bits : Word)
  /-- WATCHDOG_KICK (R367): KICK restarts the watchdog count. -/
  | watchdogKick (q : CoreId)
  /-- WATCHDOG_EXPIRY (R367): The count reaches TIMEOUT, so EXP sets and source 26 is raised. -/
  | watchdogExpiry (q : CoreId)
  /-- LEDGER_WRITE (R371): The FCU writes a buffered record to the Ledger and optionally exports it to Q24. -/
  | ledgerWrite
  /-- FIRMWARE_RECORD (R373): A write of FCU_LWCODEq enters a firmware record, or is refused. -/
  | firmwareRecord (q : CoreId) (src : BitVec 8) (code : BitVec 16) (data : Word)
  /-- FAULT_INJECT (R375): In factory test mode FCU_INJ asserts a source or drives a pair equal. -/
  | faultInject (rail : Bool) (src : Fin 64)
  /-- SAFE_INPUT_DEMAND (R381): A SAFE_IN input low past its filter demands SF1, and SF2 if mapped. -/
  | safeInputDemand (b chA chB : Bool)
  /-- SF1_DEMAND (R378): An SF1 demand is latched, STOP is sent on every port, the bridge port hard-stops and pending commands are discarded. -/
  | sf1Demand (cause : BitVec 8) (pos : Fin 64)
  /-- FWDEM_WRITE (R381): The safety pair demands functions through FWDEM. -/
  | fwdemWrite (req : Requester) (v : BitVec 4)
  /-- MONITOR_THRESHOLD_DEMAND (R389): A channel B threshold violated past DELAY or CONF demands SF3 or SF4. -/
  | monitorThresholdDemand (m : Fin 6) (j : Fin 4)
  /-- SAFETY_RESET (R383): SRESET clears the held demands and returns the outputs to permit, or is refused. -/
  | safetyReset (req : Requester)
  /-- SFU_ARM (R390): ARM checks and locks the SFU configuration, or sets CFGERR. -/
  | sfuArm (req : Requester)
  /-- CHANNEL_LOST (R384): A channel loses its cause check, raises source 27 and starts T_deg. -/
  | channelLost (b : Bool) (row : Fin 5)
  /-- TDEG_EXPIRY (R385): T_deg reaches 0 and the remaining channel enters the safe state. -/
  | tdegExpiry
  /-- REQUAL (R386): REQUAL pulse-tests the lost channel's outputs and clears the loss if all pass. -/
  | requal (req : Requester)
  /-- PULSE_TEST_START (R392): A scheduled pulse test drives an output to trip level. -/
  | pulseTestStart (o : Fin 6)
  /-- PULSE_TEST_RESULT (R391): A readback window decides pass or fail; a failure loses the channel. -/
  | pulseTestResult (o : Fin 6) (pass : Bool)
  /-- XDIS (R387): The channels disagree beyond XWIN, so XDIS is set and a record written. -/
  | xdis
  /-- SINDISC (R381): The inputs differ for more than DISC ms, so SINDISC is set. -/
  | sindisc
  /-- ESUB_SUBMIT (R397): The safety pair submits an Ethernet safety copy for comparison. -/
  | esubSubmit (req : Requester) (mac : Bool)
  /-- SAFETY_WINDOW_CLOSE (R398): A comparison window closes and accepts, counts missing or enters the safe state. -/
  | safetyWindowClose
  /-- FOLLOW_WATCHDOG (R399): A followed sender silent for WDOG ms demands SF1 or sets PATHDEG. -/
  | followWatchdog (p : Fin 64)
  /-- ETH_FRAME_RECEIVE (R403): A MAC accepts, stores and queues a frame, or counts it. -/
  | ethFrameReceive (m : Fin 2) (frame : List Byte) (fcsOk : Bool)
  /-- ETH_RXREL_WRITE (R405): Returns receive slots in order. -/
  | ethRxrelWrite (m : Fin 2) (count : BitVec 12)
  /-- ETH_LAUNCH (R410): The MAC starts the head entry of a queue when it is due, or discards it when too late. -/
  | ethLaunch (m low : Fin 2)
  /-- PTP_EVENT (R416): An event message pushes a TSINFO record and asserts TSEV. -/
  | ptpEvent (m : Fin 2) (tx : Bool) (mtype : BitVec 4) (seqId : BitVec 16)
  /-- TSINFO_READ (R416): A read of ETH_TSINFO pops one record. -/
  | tsinfoRead (m : Fin 2)
  /-- DOMAIN_MAP_COMMIT (R419): COMMIT transfers DREF, DNS and DRATE together and sets VALID. -/
  | domainMapCommit
  /-- DTIMELO_READ (R419): A read returns domain time and latches its high word. -/
  | dtimeloRead (req : Requester)
  /-- PRPSET_WRITE (R407): Sets both PRP sequence counters. -/
  | prpsetWrite (v : BitVec 16)
  /-- TPO_PULSE_END (R421): WIDTH expires and TPO returns to its inactive level. -/
  | tpoPulseEnd (n : Fin 2)
  /-- MDIO_GO (R402): Starts a clause 22 MDIO read or write. -/
  | mdioGo (m : Fin 2) (read : Bool) (phy reg : BitVec 5) (data : BitVec 16)
  /-- MDIO_DONE (R402): The MDIO transaction completes and GO clears. -/
  | mdioDone (m : Fin 2) (data : BitVec 16)
  /-- ETH_LINK_CHANGE (R402): In-band status changes the link, or refuses half duplex. -/
  | ethLinkChange (m : Fin 2) (up : Bool) (speed : BitVec 2) (half : Bool)
  /-- CAN_ENABLE (R423): A write of CAN_CFG.EN checks the bit timing, or sets CFGERR. -/
  | canEnable (n : Fin 2) (fden strict tdcen listen : Bool)
  /-- CAN_FRAME_RECEIVE (R425): A received frame is stored and queued in Q23. -/
  | canFrameReceive (n : Fin 2) (h : CanHeader) (data : List Byte) (err : BitVec 4)
  /-- CAN_TRANSMIT (R426): The block pops a Q22 entry and makes one attempt, or discards it. -/
  | canTransmit
  /-- CAN_TRANSMIT_OUTCOME (R427): The attempt ends with TXDONE, ARBLOST or TXERR. -/
  | canTransmitOutcome (n : Fin 2) (out : CanTxOutcome) (tdcv : BitVec 8)
  /-- CAN_BUS_OFF (R429): A controller enters bus-off and asserts source 29. -/
  | canBusOff (n : Fin 2)
  /-- CAN_RECOVER (R429): RECOVER starts bus-off recovery in STRICT mode. -/
  | canRecover (n : Fin 2)
  /-- CAN_RESET (R429): RESET clears the protocol state and the counters. -/
  | canReset (n : Fin 2)
  /-- CAN_RECOVERY_DONE (R429): 128 sequences of 11 recessive bits end recovery. -/
  | canRecoveryDone (n : Fin 2)
  /-- CAN_SLEEP (R430): The controller completes its frame and enters SLEEP. -/
  | canSleep (n : Fin 2)
  /-- CAN_WAKE (R430): CAN_CMD.WAKE leaves SLEEP. -/
  | canWake (n : Fin 2)
  /-- CAN_WAKE_UP_FRAME (R431): A matching wake-up frame sets WUF. -/
  | canWakeUpFrame (n : Fin 2) (h : CanHeader) (data : List Byte)
  /-- CAN_FRAME_ERROR_WAKE (R431): The frame error counter reaches 32 and sets the FEC cause. -/
  | canFrameErrorWake (n : Fin 2)
  /-- ASSAY_EXTEND (R433): TRU_EXTCMD extends AS6 or AS7, or sets EXTREJ. -/
  | assayExtend (req : Requester) (n : Fin 8)
  /-- EXTENSION_DONE (R434): An extension completes after 24 cycles. -/
  | extensionDone
  /-- REPORT_REQUEST (R442): TRU_REQb.GO requests an Assay report, or sets BUSY. -/
  | reportRequest (req : Requester) (b : Fin 2) (key : KeyCheck)
  /-- RING_REPORT_REQUEST (R442): A MGMT subtype 0x40 frame requests a report over the ring. -/
  | ringReportRequest (f : List Word) (key : KeyCheck)
  /-- REPORT_DONE (R441): The report is assembled and signed, and DONE sets or reply frames are sent. -/
  | reportDone
  /-- FLASH_PROGRAM (R448): TRU_FLCMD programs one page, or refuses within the active slot. -/
  | flashProgram
  /-- FLASH_ERASE (R448): TRU_FLCMD erases one sector, or refuses within the active slot. -/
  | flashErase
  /-- FLASH_OPERATION_DONE (R448): The flash operation ends, with FAIL when the flash reports a failure. -/
  | flashOperationDone (fail : Bool)
  /-- CONFIRM (R449): TRU_BOOTSEL.CONFIRM clears TRIAL and TRIED while the trial runs. -/
  | confirm
  /-- IDENT_LOCK (R450): TRU_IDENT.LOCK locks STACKID until reset. -/
  | identLock (stackId : BitVec 14)
  /-- MGMT_STATUS (R446): Mailbox STATUS request. -/
  | mgmtStatus (ring : Option (DWord × List DWord))
  /-- MGMT_ASSAY (R446): Mailbox ASSAY request returning a report. -/
  | mgmtAssay (ring : Option (DWord × List DWord))
  /-- MGMT_ADMIT (R446): Mailbox ADMIT through SYS 0x40. -/
  | mgmtAdmit (ring : Option (DWord × List DWord))
  /-- MGMT_UNLOAD (R446): Mailbox UNLOAD through SYS 0x41. -/
  | mgmtUnload (ring : Option (DWord × List DWord))
  /-- MGMT_HANDOVER (R446): Mailbox HANDOVER or HANDBACK. -/
  | mgmtHandover (ring : Option (DWord × List DWord))
  /-- MGMT_FLASH_WRITE (R446): Mailbox flash page write. -/
  | mgmtFlashWrite (ring : Option (DWord × List DWord))
  /-- MGMT_FLASH_ERASE (R446): Mailbox flash sector erase. -/
  | mgmtFlashErase (ring : Option (DWord × List DWord))
  /-- BOOT_TRIAL (R446): Mailbox request that sets NEXT and TRIAL. -/
  | bootTrial (ring : Option (DWord × List DWord))
  /-- MGMT_CONFIRM (R449): Mailbox request that confirms the trial and writes the directory. -/
  | mgmtConfirm (ring : Option (DWord × List DWord))
  /-- REBOOT (R446): Mailbox request that resets the chip after the response. -/
  | reboot (ring : Option (DWord × List DWord))
  /-- MGMT_POWER (R447): Mailbox POWER request served according to the authority. -/
  | mgmtPower (ring : Option (DWord × List DWord))
  /-- MGMT_UNKNOWN_OP (R446): An unlisted OP is answered UNKNOWN. -/
  | mgmtUnknownOp (ring : Option (DWord × List DWord))
  /-- REGISTER_WRITE (R256): A write to a register without behaviour of its own updates its writable fields. -/
  | registerWrite (req : Requester) (t : WriteTarget) (value : Word)
  /-- ENDPOINT_POWER_UP (R87): A cell endpoint powers up in UNCONF and COMMISSION with zero configuration, its primary port active and no previous executed bundle, and sends CAP words unasked. -/
  | endpointPowerUp (p : PortId) (cap0 cap1 cap2 cap3 : Word)
  /-- SAFE_INPUT_RELEASE (R382): A SAFE_IN input returns high, its live demand in DEM ends, and SINDISC clears once both inputs are high together. -/
  | safeInputRelease (b : Bool)
  /-- SUPPLY_IN_WINDOW (R340): A monitored rail comes back inside its window by its hysteresis, source 24 and MSR_STATUS.SUPPLY deassert, and VANA SAR results stop carrying INVALID. -/
  | supplyInWindow (rail : Fin 6) (mv : BitVec 16)
  /-- JUNCTION_TEMPERATURE_NORMAL (R341): Every junction sensor falls 5 °C below TJHI, so TJHI clears and source 25 deasserts. -/
  | junctionTemperatureNormal (quarters : BitVec 48)
  /-- BOOTLOW_CHANGE (R325): A bootstrap monitor crosses 8.0 V falling or 8.6 V rising while no HO conduction is on or due, changing BOOTLOW without latching. -/
  | bootlowChange (c : Fin 8) (low : Bool)
  /-- BMON_MEASURE_UPDATE (R388): A channel B monitor produces a new V, F or OVL measure, updating SFU_BVALm and starting or ending threshold violations and their timers. -/
  | bmonMeasureUpdate (m : Fin 6) (raw : Word)
  deriving DecidableEq, Repr

end Sys2Proof
end

