-- ==== Sys2Proof/Decode.lean ====
section
/-! DEFINITION. Decoding. The opcode table of this block gives its rows no bits, so no word of the table spells a
command. The Yalirti instruction words that the chip's own processors run (06 R206 to R208, R217) are decoded here for
admission, which bounds every program from its code. -/

namespace Sys2Proof

/-- The command that a word spells by the opcode table's bits: its rows give none. -/
def decodeTableWord (_nbits _w : Nat) : Option Instr := none

/-- Bits [hi:lo] of an instruction word. -/
def yBits (w : Word) (hi lo : Nat) : Nat := w.toNat / 2 ^ lo % 2 ^ (hi + 1 - lo)

/-- A register field. -/
def yReg (w : Word) (lo : Nat) : Gpr := ⟨w.toNat / 2 ^ lo % 32, Nat.mod_lt _ (by decide)⟩

/-- A four-bit field. -/
def yFour (w : Word) (lo : Nat) : Fin 16 := ⟨w.toNat / 2 ^ lo % 16, Nat.mod_lt _ (by decide)⟩

/-- A two-bit field. -/
def yTwo (w : Word) (lo : Nat) : Fin 4 := ⟨w.toNat / 2 ^ lo % 4, Nat.mod_lt _ (by decide)⟩

/-- The fields d, a, b of formats F-R and F-I, a and b of F-C. -/
def yD (w : Word) : Gpr := yReg w 21
def yA (w : Word) : Gpr := yReg w 16
def yB (w : Word) : Gpr := yReg w 11

/-- The lane fields vd, va, vb of format F-V. -/
def yVd (w : Word) : Vreg := yFour w 22
def yVa (w : Word) : Vreg := yFour w 18
def yVb (w : Word) : Vreg := yFour w 14

/-- The immediate or offset [15:0]. -/
def yImm (w : Word) : BitVec 16 := w.extractLsb' 0 16

/-- A condition that an encoding requires. -/
def yWhen (c : Bool) (i : Instr) : Option Instr := if c then some i else none

/-- op 0x00, by function. -/
def decodeAlu (p : ProcId) (w : Word) : Option Instr :=
  let d := yD w
  let a := yA w
  let b := yB w
  match yBits w 10 0 with
  | 0x00 => some (.add p d a b)
  | 0x01 => some (.sub p d a b)
  | 0x02 => some (.and p d a b)
  | 0x03 => some (.or p d a b)
  | 0x04 => some (.xor p d a b)
  | 0x05 => some (.sll p d a b)
  | 0x06 => some (.srl p d a b)
  | 0x07 => some (.sra p d a b)
  | 0x08 => some (.slt p d a b)
  | 0x09 => some (.sltu p d a b)
  | 0x0A => some (.adds p d a b)
  | 0x0B => some (.subs p d a b)
  | 0x0C => some (.min p d a b)
  | 0x0D => some (.max p d a b)
  | 0x0E => yWhen (b.val == 0) (.clz p d a)
  | 0x10 => some (.mul p d a b)
  | 0x11 => some (.mulh p d a b)
  | 0x12 => some (.mulhu p d a b)
  | 0x14 => some (.div p d a b)
  | 0x15 => some (.divu p d a b)
  | 0x16 => some (.rem p d a b)
  | 0x17 => some (.remu p d a b)
  | _ => none

/-- op 0x01, the accumulators, by sub: n in [10:9], s in [8:4], sub in [3:0]; w is s[1:0]. -/
def decodeAcc (p : ProcId) (w : Word) : Option Instr :=
  let n := yTwo w 9
  let s := yReg w 4
  match yBits w 3 0 with
  | 0 => some (.mac p n s (yA w) (yB w))
  | 1 => some (.msu p n s (yA w) (yB w))
  | 2 => some (.mla p n s (yA w) (yB w))
  | 3 => some (.rda p (yD w) n s)
  | 4 => some (.cla p n)
  | 5 => yWhen (yBits w 8 6 == 0) (.rdw p (yD w) n (yTwo w 4))
  | 6 => yWhen (yBits w 8 6 == 0) (.wrw p n (yTwo w 4) (yA w))
  | _ => none

/-- op 0x30, by function; a field that the operation does not use is 0. -/
def decodeSys (p : ProcId) (w : Word) : Option Instr :=
  let d := yD w
  let a := yA w
  let b := yB w
  match yBits w 10 0 with
  | 0 => yWhen (b.val == 0) (.mfs p d a)
  | 1 => yWhen (p.val != 5 && b.val == 0) (.mts p d a)
  | 2 => yWhen (p.val != 5 && yBits w 25 11 == 0) (.di p)
  | 3 => yWhen (p.val != 5 && yBits w 25 11 == 0) (.ei p)
  | 4 => yWhen (p.val != 5 && yBits w 25 11 == 0) (.iret p)
  | 5 => yWhen (p.val != 5 && yBits w 25 11 == 0) (.brk p)
  | 6 => yWhen (p.val != 5 && yBits w 25 11 == 0) (.wfi p)
  | 7 => yWhen (p.val != 5 && d.val == 0 && b.val == 0) (.twait p a)
  | 8 => yWhen (p.val != 5) (.atw p d a b)
  | _ => none

/-- op 0x38, the two-source lane operations, by function [13:0]. -/
def decodeLane (w : Word) : Option Instr :=
  let vd := yVd w
  let va := yVa w
  let vb := yVb w
  let f := yBits w 13 0
  match f with
  | 0x0 => some (.vadd vd va vb)
  | 0x1 => some (.vsub vd va vb)
  | 0x2 => some (.vand vd va vb)
  | 0x3 => some (.vor vd va vb)
  | 0x4 => some (.vxor vd va vb)
  | 0x5 => some (.vadds vd va vb)
  | 0x6 => some (.vsubs vd va vb)
  | 0x7 => some (.vmin vd va vb)
  | 0x8 => some (.vmax vd va vb)
  | 0x9 => yWhen (vb.val == 0) (.vabs vd va)
  | 0xA => yWhen (vb.val == 0) (.vneg vd va)
  | 0xB => some (.vclt vd va vb)
  | 0xC => some (.vmov vd va)
  | _ =>
    if f / 32 = 8 then some (.vsra vd va (yReg w 0))
    else if f / 32 = 9 then some (.vsll vd va (yReg w 0))
    else none

/-- ops 0x39 to 0x3F (R217). -/
def decodeLane2 (op : Nat) (w : Word) : Option Instr :=
  let vd := yVd w
  let va := yVa w
  let vb := yVb w
  let c : BitVec 14 := w.extractLsb' 0 14
  match op with
  | 0x39 =>
    let n := yTwo w 24
    let lx := w.getLsbD 23
    if w.getLsbD 22 then none
    else match vb.val with
      | 0 => some (.vcmac .mac n lx va c)
      | 1 => some (.vcmac .msu n lx va c)
      | 2 => some (.vcmac .mla n lx va c)
      | _ => none
  | 0x3A => yWhen (yBits w 16 14 == 0) (.vcm vd va (w.getLsbD 17) c)
  | 0x3B =>
    match yBits w 13 12 with
    | 0 => yWhen (yBits w 9 5 == 0) (.vrda vd (yTwo w 10) (yReg w 0))
    | 1 => some (.vcla (yTwo w 10))
    | 2 => some (.vvmac (yTwo w 10) (yReg w 0) va vb)
    | _ => none
  | 0x3C =>
    if w.getLsbD 13 then yWhen (!w.getLsbD 12 && vd.val == 0) (.vst va vb (w.extractLsb' 0 12))
    else some (.vld vd vb (w.getLsbD 12) (w.extractLsb' 0 12))
  | 0x3D => yWhen (yBits w 13 8 == 0) (.vint vd va (w.extractLsb' 0 8))
  | 0x3E => yWhen (yBits w 13 6 == 0) (.vang vd va ⟨w.toNat % 64, Nat.mod_lt _ (by decide)⟩)
  | 0x3F =>
    match yBits w 13 11 with
    | 0 => some (.post (yTwo w 0))
    | 1 => some .endProgram
    | 2 => some (.vbc vd (yReg w 0))
    | 3 => yWhen (vd.val == 0) (.vext va (yFour w 5) (yReg w 0))
    | 4 => some (.vlane vd)
    | _ => none
  | _ => none

/-- The scalar immediate, memory, branch and jump formats. -/
def decodeImm (p : ProcId) (op : Nat) (w : Word) : Option Instr :=
  let d := yD w
  let a := yA w
  let imm := yImm w
  let off : BitVec 26 := w.extractLsb' 0 26
  match op with
  | 0x02 => some (.addi p d a imm)
  | 0x03 => some (.andi p d a imm)
  | 0x04 => some (.ori p d a imm)
  | 0x05 => some (.xori p d a imm)
  | 0x06 => some (.slti p d a imm)
  | 0x07 => yWhen (a.val == 0) (.lui p d imm)
  | 0x08 => yWhen (yBits w 15 5 == 0) (.slli p d a (yReg w 0))
  | 0x09 => yWhen (yBits w 15 5 == 0) (.srli p d a (yReg w 0))
  | 0x0A => yWhen (yBits w 15 5 == 0) (.srai p d a (yReg w 0))
  | 0x10 => some (.lw p d a imm)
  | 0x11 => some (.lh p d a imm)
  | 0x12 => some (.lhu p d a imm)
  | 0x13 => some (.lb p d a imm)
  | 0x14 => some (.lbu p d a imm)
  | 0x15 => some (.sw p d a imm)
  | 0x16 => some (.sh p d a imm)
  | 0x17 => some (.sb p d a imm)
  | 0x20 => some (.beq p d a imm)
  | 0x21 => some (.bne p d a imm)
  | 0x22 => some (.blt p d a imm)
  | 0x23 => some (.bge p d a imm)
  | 0x24 => some (.bltu p d a imm)
  | 0x25 => some (.bgeu p d a imm)
  | 0x28 => some (.j p off)
  | 0x29 => some (.call p off)
  | 0x2A => yWhen (off == 0) (.ret p)
  | 0x2B => yWhen (p.val != 5 && yBits w 25 18 == 0) (.twaitp p (w.extractLsb' 0 18))
  | 0x2C => yWhen (d.val == 0 && decide (1 ≤ imm.toNat ∧ imm.toNat ≤ 256)) (.jt p a imm)
  | 0x2D => yWhen (d.val != 0) (.loop p d a imm)
  | 0x2E => yWhen (d.val != 0 && a.val == 0) (.loopi p d imm)
  | 0x31 => yWhen (p.val != 5 && yBits w 25 8 == 0) (.sys p (w.extractLsb' 0 8))
  | 0x32 => yWhen (p.val != 5 && d.val == 0 && yBits w 10 5 == 0) (.qpush p a (yB w) (yReg w 0))
  | 0x33 => yWhen (p.val != 5 && yBits w 10 5 == 0) (.qpop p d (yReg w 0))
  | 0x34 => yWhen (p.val != 5 && yBits w 10 5 == 0) (.qcnt p d (yReg w 0))
  | _ => none

/-- The instruction that a word spells on processor p, or none where it raises ILLOP for its encoding or profile (06
R207, R208, R217). -/
def decodeWord (p : ProcId) (w : Word) : Option Instr :=
  let op := yBits w 31 26
  if op = 0 then decodeAlu p w
  else if op = 1 then (if p.val = 5 then none else decodeAcc p w)
  else if op = 0x30 then decodeSys p w
  else if op = 0x38 then (if p.val = 5 then decodeLane w else none)
  else if 0x39 ≤ op then (if p.val = 5 then decodeLane2 op w else none)
  else decodeImm p op w

end Sys2Proof
end

