-- ==== Sys2Proof/Config.lean ====
section
/-! DEFINITION. What one chip fixes and the spec leaves open: opaque constants, so that nothing can be proved of their
values. Each is a free value of the assumption log (notes/assumptions). -/

namespace Sys2Proof

/-- A fresh free value of 64 bits for each count of the model's free counter (values the spec leaves open). -/
opaque Config.freeValue : Nat → DWord

/-- The contents of the boot ROM (00 R14 gives its place, no rule its bytes). -/
opaque Config.bootRom : Nat → Byte

/-- The 64-byte fuse lifecycle block (15 R433). -/
opaque Config.fuseBlock : Nat → Byte

/-- The 48-byte digest of the marker that the ROM extends AS0 with for a corrupt slot (15 R438). -/
opaque Config.slotMarker : Nat → List Byte

/-- The 48-byte event block of an extension of AS5 (15 R433): whether it is a debug attach, and a count of the use. -/
opaque Config.eventBlock : Bool → Nat → List Byte

/-- The ECDSA signature of a report by this chip's key (15 R441, FIPS 186-5), as bytes. -/
opaque Config.sign : List Byte → List Byte

/-- This chip's certificate: its bytes and their number (15 R443). -/
opaque Config.cert : Nat → Byte
opaque Config.certLen : Nat

/-- The 64-bit serial of this chip (15 R450). -/
opaque Config.serial : DWord

/-- The 192-bit digest of a set-up's own part (07 R234): the text gives no encoding to hash. -/
opaque Config.escrowDigest : List Byte → BitVec 192

/-- The bytes of the dispatcher that admission writes for a processor (07 R238): processor, offset. -/
opaque Config.dispatcher : Nat → Nat → Byte

/-- A quotient that does not divide, rounded to its storage format where the text names no rounding (11 R336, R348):
numerator, denominator, and the number of the use. -/
opaque Config.roundQuot : Int → Int → Nat → Int

/-- The rounding of a mean whose divisor does not divide the sum (02 R61): sum, divisor. -/
opaque Config.meanRound : Int → Nat → Int

/-- The width in ticks that 04 R131 gives no value for, where a cell's voltage is not positive: the volts wanted and the
voltage. -/
opaque Config.widthOpen : Int → Int → Int

/-- The slope of the error trend over the last 64 periods (02 R67), in 1/16 ppm: the errors oldest first, and the
period in cycles. The text names no fit. -/
opaque Config.driftTrend : List Int → Nat → Int

/-- Which way a value half-way between two steps rounds, where the text rounds to the nearest and names no tie rule
(04 R131, R140; 09 R289; 11 R336, R350): numerator, denominator; true is upwards. -/
opaque Config.tieUp : Int → Nat → Bool

end Sys2Proof
end

