-- ==== Sys2Proof/Machine/Bits.lean ====
section
/-! DEFINITION. Bit-field, sign and rounding helpers that every block uses. A field value is a natural number
(its bits read unsigned); `sx` reads it as a two's complement number (00, Registers and numbers). -/

namespace Sys2Proof.Machine

/-- Bits [hi:lo] of a bit vector, as an unsigned number. -/
def fld {n : Nat} (w : BitVec n) (hi lo : Nat) : Nat := w.toNat / 2 ^ lo % 2 ^ (hi + 1 - lo)

/-- The mask with ones at [hi:lo]. -/
def maskOf (hi lo : Nat) : Word := BitVec.ofNat 32 ((2 ^ (hi + 1 - lo) - 1) * 2 ^ lo)

/-- A word with bits [hi:lo] replaced by the low bits of `v`. -/
def setFld (w : Word) (hi lo v : Nat) : Word :=
  (w &&& ~~~ maskOf hi lo) ||| (BitVec.ofNat 32 (v * 2 ^ lo) &&& maskOf hi lo)

/-- Bit i of a bit vector. -/
def bitAt {n : Nat} (w : BitVec n) (i : Nat) : Bool := w.getLsbD i

/-- Truth as a bit. -/
def b2n (b : Bool) : Nat := if b then 1 else 0

/-- The two's complement value of the low `n` bits of `v`. -/
def sx (n v : Nat) : Int :=
  let m := v % 2 ^ n
  if 2 * m < 2 ^ n then (m : Int) else (m : Int) - (2 ^ n : Nat)

/-- The low `n` bits of an integer, as an unsigned number. -/
def ux (n : Nat) (v : Int) : Nat := (v % ((2 ^ n : Nat) : Int)).toNat

/-- An integer as a 32-bit word, modulo 2^32. -/
def w32 (v : Int) : Word := BitVec.ofInt 32 v

/-- A natural number as a 32-bit word, modulo 2^32. -/
def wN (v : Nat) : Word := BitVec.ofNat 32 v

/-- The signed value of a word. -/
def sg (w : Word) : Int := w.toInt

/-- Saturation of an integer to `n` bits, signed. -/
def satS (n : Nat) (v : Int) : Int :=
  let hi : Int := ((2 ^ (n - 1) : Nat) : Int) - 1
  if v > hi then hi else if v < -hi - 1 then -hi - 1 else v

/-- Clamp into [lo, hi]. -/
def clampI (lo hi v : Int) : Int := if v < lo then lo else if hi < v then hi else v

/-- floor (n / d) on integers, d > 0. -/
def fdiv (n : Int) (d : Nat) : Int := n / (d : Int)

/-- n / d rounded to the nearest integer, halves upwards: floor (n / d + 1/2), d > 0. -/
def rdiv (n : Int) (d : Nat) : Int := (2 * n + (d : Int)) / (2 * (d : Int))

/-- n / d to the nearest integer; a tie goes to one of its two neighbours, and the text does not say which (log 34). -/
def nearest (n : Int) (d : Nat) : Int :=
  if d = 0 then 0
  else if 2 * (n % (d : Int)) = d then n / (d : Int) + (if Config.tieUp n d then 1 else 0)
  else rdiv n d

/-- The rounding right shift of 05 R169, R170: (p + 2^(s-1)) >> s for s ≥ 1, and p for s = 0. -/
def rsh (p : Int) (s : Nat) : Int :=
  if s = 0 then p else (p + ((2 ^ (s - 1) : Nat) : Int)) / ((2 ^ s : Nat) : Int)

/-- The signed difference a - b of two times kept modulo 2^n (00 R7: 40 bits for compare channels, 32 for due times). -/
def timeDiff (n a b : Nat) : Int := sx n (ux n ((a : Int) - (b : Int)))

/-- A count held modulo 2^n, advanced by d. -/
def wrapAdd (n v d : Nat) : Nat := (v + d) % 2 ^ n

/-- A count that saturates at 2^n - 1, advanced by d. -/
def satAdd (n v d : Nat) : Nat := min (v + d) (2 ^ n - 1)

/-- The absolute value of an integer. -/
def absI (v : Int) : Int := if v < 0 then -v else v

/-- The number of ones among the low `n` bits. -/
def popCount (n v : Nat) : Nat := ((List.range n).filter fun i => v.testBit i).length

/-- The indices of the ones among the low `n` bits, ascending. -/
def bitsOf (n v : Nat) : List Nat := (List.range n).filter fun i => v.testBit i

/-- A number with bit i set or cleared. -/
def putBit (v i : Nat) (b : Bool) : Nat :=
  if b = v.testBit i then v else if b then v + 2 ^ i else v - 2 ^ i

/-- A value put into a sorted list, before the values it may stand before. -/
def insertBy {α : Type} (le : α → α → Bool) (a : α) : List α → List α
  | [] => [a]
  | b :: l => if le a b then a :: b :: l else b :: insertBy le a l

/-- A list sorted, equal values in their order. -/
def sortBy {α : Type} (le : α → α → Bool) (l : List α) : List α := l.foldr (insertBy le) []

end Sys2Proof.Machine
end

