-- ==== Sys2Proof/Machine/RegMap.lean ====
section
/-! DEFINITION. The register map of the KQ7063: one address per register (`R.REG`), one bit range per field
(`F.REG.FIELD`, the manual's REGISTER.FIELD) and one row per register with its reset value, power domain and access
types, from the register tables of the chapters (00 R11 to R13 and the register sections of spec/02 to spec/16).
Indexed registers take their index as an argument: `R.LNK_PSTAT i` is the register of port i (03, 07 R164). -/

namespace Sys2Proof.Machine

/-- A field of a register: its address and its bits [hi:lo]. -/
structure Field where
  addr : Nat
  hi : Nat
  lo : Nat
  deriving DecidableEq, Repr

/-- One row of a register table: the base address at index 0, the index ranges (first, last, stride), the reset value,
the power domain, and the masks of its RW (and RWS), RWL and W1C bits (00, the table of types). -/
structure RegRow where
  base : Nat
  dims : List (Nat × Nat × Nat)
  reset : Word
  dom : Nat
  rw : Word
  rwl : Word
  w1c : Word
  deriving DecidableEq, Repr

def R.CLK_CTRL : Nat := 0x40010000
def R.CLK_STATUS : Nat := 0x40010004
def R.CLK_MCLK (n : Nat) : Nat := 0x40010010 + n * 0x8
def R.CLK_MDLY (n : Nat) : Nat := 0x40010014 + n * 0x8
def R.CLK_SYNC : Nat := 0x40010030
def R.STM_TIMELO : Nat := 0x40020000
def R.STM_TIMEHI : Nat := 0x40020004
def R.STM_CTRL : Nat := 0x40020008
def R.STM_SETLO : Nat := 0x4002000C
def R.STM_SETHI : Nat := 0x40020010
def R.STM_STATUS : Nat := 0x40020014
def R.STM_ERR : Nat := 0x40020018
def R.STM_DRIFT : Nat := 0x4002001C
def R.STM_PHASE : Nat := 0x40020020
def R.STM_PERIOD : Nat := 0x40020024
def R.STM_ORIGINLO : Nat := 0x40020028
def R.STM_ORIGINHI : Nat := 0x4002002C
def R.STM_KLO : Nat := 0x40020030
def R.STM_SYNCCAPLO : Nat := 0x40020034
def R.STM_SYNCCAPHI : Nat := 0x40020038
def R.STM_CMPLO (n : Nat) : Nat := 0x40020040 + n * 0x8
def R.STM_CMPHI (n : Nat) : Nat := 0x40020044 + n * 0x8
def R.LNK_CTRL : Nat := 0x40090000
def R.LNK_MARGIN : Nat := 0x40090004
def R.LNK_STOP : Nat := 0x40090008
def R.LNK_UPMAP (n : Nat) : Nat := 0x40090010 + n * 0x4
def R.LNK_LOSTMAP (n : Nat) : Nat := 0x40090020 + n * 0x4
def R.LNK_PCFG (i : Nat) : Nat := 0x40091000 + i * 0x40
def R.LNK_PCFG2 (i : Nat) : Nat := 0x40091004 + i * 0x40
def R.LNK_PSTAT (i : Nat) : Nat := 0x40091008 + i * 0x40
def R.LNK_RTT (i : Nat) : Nat := 0x4009100C + i * 0x40
def R.LNK_DELAY (i : Nat) : Nat := 0x40091010 + i * 0x40
def R.LNK_ASYM (i : Nat) : Nat := 0x40091014 + i * 0x40
def R.LNK_ERRCNT (i : Nat) : Nat := 0x40091018 + i * 0x40
def R.LNK_REPCNT (i : Nat) : Nat := 0x4009101C + i * 0x40
def R.LNK_REPEAT (i : Nat) : Nat := 0x40091020 + i * 0x40
def R.LNK_CAP (i m : Nat) : Nat := 0x40091024 + i * 0x40 + m * 0x4
def R.LNK_CMD (i : Nat) : Nat := 0x40091034 + i * 0x40
def R.CS_CTRL : Nat := 0x40080000
def R.CS_TIMING : Nat := 0x40080004
def R.CS_STATUS : Nat := 0x40080008
def R.CS_CELLCMD : Nat := 0x4008000C
def R.CS_CMDSTAT : Nat := 0x40080010
def R.CS_CARRYDROP : Nat := 0x40080014
def R.CS_WEARW : Nat := 0x40080018
def R.CS_WEART : Nat := 0x4008001C
def R.CS_CLASS (c : Nat) : Nat := 0x40080020 + c * 0x4
def R.CS_ACFG (a : Nat) : Nat := 0x40080100 + a * 0x40
def R.CS_ALVL (a : Nat) : Nat := 0x40080104 + a * 0x40
def R.CS_ACPER (a : Nat) : Nat := 0x40080108 + a * 0x40
def R.CS_ADAB (a : Nat) : Nat := 0x4008010C + a * 0x40
def R.CS_AREF (a : Nat) : Nat := 0x40080110 + a * 0x40
def R.CS_AIN (a : Nat) : Nat := 0x40080114 + a * 0x40
def R.CS_ASTAT (a : Nat) : Nat := 0x40080118 + a * 0x40
def R.CS_ACNT (a : Nat) : Nat := 0x4008011C + a * 0x40
def R.CS_AFOMT (a : Nat) : Nat := 0x40080120 + a * 0x40
def R.CS_AFOML (a : Nat) : Nat := 0x40080124 + a * 0x40
def R.CS_ACARRY (a : Nat) : Nat := 0x40080128 + a * 0x40
def R.CS_AROT (a : Nat) : Nat := 0x4008012C + a * 0x40
def R.CS_ACREDIT (a : Nat) : Nat := 0x40080130 + a * 0x40
def R.CS_AREPEAT (a : Nat) : Nat := 0x40080134 + a * 0x40
def R.CS_SACFG (m : Nat) : Nat := 0x40080600 + m * 0x8
def R.CS_SAREF (m : Nat) : Nat := 0x40080604 + m * 0x8
def R.CS_TRIM (i : Nat) : Nat := 0x40080A00 + i * 0x4
def R.CE_CTRL : Nat := 0x40070000
def R.CE_STATUS : Nat := 0x40070004
def R.CE_START : Nat := 0x40070008
def R.CE_END : Nat := 0x4007000C
def R.CE_BANK : Nat := 0x40070010
def R.CE_MCOPY (b : Nat) : Nat := 0x40070014 + b * 0x4
def R.CE_LOAD : Nat := 0x4007001C
def R.CE_CODE : Nat := 0x40070020
def R.CE_LISTS : Nat := 0x40070024
def R.CE_LISTS2 : Nat := 0x40070028
def R.CE_RBBASE : Nat := 0x4007002C
def R.CE_POST (g : Nat) : Nat := 0x40070030 + g * 0x4
def R.CE_CYCLES : Nat := 0x40070040
def R.CE_MAXCYC : Nat := 0x40070044
def R.CE_FBSUBST (n : Nat) : Nat := 0x40070080 + n * 0x4
def R.CE_FBEXP (n : Nat) : Nat := 0x400700C0 + n * 0x4
def R.CE_RAMP (g : Nat) : Nat := 0x40070100 + g * 0x4
def R.CE_ATLIVE0 : Nat := 0x40070120
def R.CE_ATLIVE1 : Nat := 0x40070124
def R.CE_PROGS (j : Nat) : Nat := 0x40070140 + j * 0x8
def R.CE_PROGD (j : Nat) : Nat := 0x40070144 + j * 0x8
def R.CE_TRKCFG (n : Nat) : Nat := 0x40070200 + n * 0x20
def R.CE_TRKADDR (n : Nat) : Nat := 0x40070204 + n * 0x20
def R.CE_TRKW0 (n : Nat) : Nat := 0x40070208 + n * 0x20
def R.CE_TRKSLEW (n : Nat) : Nat := 0x4007020C + n * 0x20
def R.CE_TRKTHETA (n : Nat) : Nat := 0x40070210 + n * 0x20
def R.CE_TRKOMEGA (n : Nat) : Nat := 0x40070214 + n * 0x20
def R.CE_TRKX (n : Nat) : Nat := 0x40070218 + n * 0x20
def R.CE_TRKSTAT (n : Nat) : Nat := 0x4007021C + n * 0x20
def R.ADM_STATUS : Nat := 0x40000800
def R.ADM_FIGD : Nat := 0x40000804
def R.ADM_FIGA : Nat := 0x40000808
def R.ADM_OBJ : Nat := 0x4000080C
def R.ADM_POL (q : Nat) : Nat := 0x40000810 + q * 0x4
def R.ADM_LONGMAP (n : Nat) : Nat := 0x40000830 + n * 0x4
def R.VIC_CTRL : Nat := 0x40030000
def R.VIC_SWSRC : Nat := 0x40030004
def R.VIC_SWSET : Nat := 0x40030008
def R.VIC_SWCLR : Nat := 0x4003000C
def R.VIC_NMICFG : Nat := 0x40030010
def R.VIC_VTBASE (q : Nat) : Nat := 0x40030020 + q * 0x4
def R.VIC_LEVEL (q : Nat) : Nat := 0x40030040 + q * 0x4
def R.VIC_WDRAW : Nat := 0x40030060
def R.VIC_RAW (n : Nat) : Nat := 0x40030080 + n * 0x4
def R.VIC_PEND (n : Nat) : Nat := 0x400300A0 + n * 0x4
def R.VIC_SERV (n : Nat) : Nat := 0x400300C0 + n * 0x4
def R.VIC_SRC (n : Nat) : Nat := 0x40030400 + n * 0x4
def R.HQ_CTRL : Nat := 0x40040000
def R.HQ_SEMREJ : Nat := 0x40040004
def R.HQ_CFG (q : Nat) : Nat := 0x40040100 + q * 0x20
def R.HQ_ACL (q : Nat) : Nat := 0x40040104 + q * 0x20
def R.HQ_THR (q : Nat) : Nat := 0x40040108 + q * 0x20
def R.HQ_STAT (q : Nat) : Nat := 0x4004010C + q * 0x20
def R.HQ_DROP (q : Nat) : Nat := 0x40040110 + q * 0x20
def R.HQ_FLUSH (q : Nat) : Nat := 0x40040114 + q * 0x20
def R.HQ_SEM (n : Nat) : Nat := 0x40041000 + n * 0x4
def R.HQ_CTXOWN (i : Nat) : Nat := 0x40042000 + i * 0x4
def R.RNG_CTRL : Nat := 0x400A0000
def R.RNG_STATUS : Nat := 0x400A0004
def R.RNG_GEN : Nat := 0x400A0008
def R.RNG_EPOCH : Nat := 0x400A000C
def R.RNG_TOPO : Nat := 0x400A0010
def R.RNG_HOPA : Nat := 0x400A0014
def R.RNG_HOPB : Nat := 0x400A0018
def R.RNG_HOPASYM : Nat := 0x400A001C
def R.RNG_PRES (n : Nat) : Nat := 0x400A0020 + n * 0x4
def R.RNG_OBS (n : Nat) : Nat := 0x400A0028 + n * 0x4
def R.RNG_HOCMD : Nat := 0x400A0030
def R.RNG_HOSTAT : Nat := 0x400A0034
def R.RNG_ESCSTAT : Nat := 0x400A0038
def R.RNG_DIRTY : Nat := 0x400A003C
def R.RNG_ESCSYNC (n : Nat) : Nat := 0x400A0040 + n * 0x4
def R.RNG_ERRA : Nat := 0x400A0048
def R.RNG_ERRB : Nat := 0x400A004C
def R.RNG_LOST : Nat := 0x400A0050
def R.RNG_COUNT : Nat := 0x400A0054
def R.RNG_SAFEMIS : Nat := 0x400A0058
def R.RNG_BCCFG : Nat := 0x400A005C
def R.RNG_BCBASE : Nat := 0x400A0060
def R.RNG_PLANBASE : Nat := 0x400A0064
def R.RNG_MTXCTL : Nat := 0x400A0070
def R.RNG_MTX (w : Nat) : Nat := 0x400A0080 + w * 0x4
def R.RNG_POS (m : Nat) : Nat := 0x400A0100 + m * 0x8
def R.RNG_POSSERLO (m : Nat) : Nat := 0x400A0104 + m * 0x8
def R.BRP_CTRL : Nat := 0x400B0000
def R.BRP_ENSET : Nat := 0x400B0004
def R.BRP_ENCLR : Nat := 0x400B0008
def R.BRP_STATUS : Nat := 0x400B000C
def R.BRP_FORCE : Nat := 0x400B0010
def R.BRP_CLR : Nat := 0x400B0014
def R.BRP_ILKCNT : Nat := 0x400B0018
def R.BRP_CARRYDROP : Nat := 0x400B001C
def R.BRP_TRIPSTAT : Nat := 0x400B0020
def R.BRP_TRIP (t : Nat) : Nat := 0x400B0040 + t * 0x4
def R.BRP_CFG (c : Nat) : Nat := 0x400B0100 + c * 0x40
def R.BRP_TIM (c : Nat) : Nat := 0x400B0104 + c * 0x40
def R.BRP_TCHG (c : Nat) : Nat := 0x400B0108 + c * 0x40
def R.BRP_PHASE (c : Nat) : Nat := 0x400B010C + c * 0x40
def R.BRP_PER (c : Nat) : Nat := 0x400B0110 + c * 0x40
def R.BRP_DUTY (c : Nat) : Nat := 0x400B0114 + c * 0x40
def R.BRP_SHCTL (c : Nat) : Nat := 0x400B0118 + c * 0x40
def R.BRP_ACTPER (c : Nat) : Nat := 0x400B011C + c * 0x40
def R.BRP_ACTDUTY (c : Nat) : Nat := 0x400B0120 + c * 0x40
def R.BRP_STAT (c : Nat) : Nat := 0x400B0124 + c * 0x40
def R.BRP_IEN (c : Nat) : Nat := 0x400B0128 + c * 0x40
def R.BRP_CARRY (c : Nat) : Nat := 0x400B012C + c * 0x40
def R.BRP_CNT (c : Nat) : Nat := 0x400B0130 + c * 0x40
def R.BRP_SC (c : Nat) : Nat := 0x400B0134 + c * 0x40
def R.MSR_CTRL : Nat := 0x400C0000
def R.MSR_STATUS : Nat := 0x400C0004
def R.MSR_IEN : Nat := 0x400C0008
def R.MSR_CALCFG : Nat := 0x400C000C
def R.MSR_PINIT : Nat := 0x400C0010
def R.MSR_OFF (n : Nat) : Nat := 0x400C0014 + n * 0x4
def R.MSR_CMPSTAT : Nat := 0x400C0020
def R.MSR_GQCMD : Nat := 0x400C0024
def R.MSR_GQWIN : Nat := 0x400C0028
def R.MSR_GQRES : Nat := 0x400C002C
def R.MSR_SERHI : Nat := 0x400C0030
def R.MSR_SERLO : Nat := 0x400C0034
def R.MSR_TRIMSET : Nat := 0x400C0038
def R.MSR_TJLIM : Nat := 0x400C003C
def R.MSR_SERNEW (n : Nat) : Nat := 0x400C0040 + n * 0x4
def R.MSR_SEQ (e : Nat) : Nat := 0x400C0080 + e * 0x4
def R.MSR_SDCFG (s : Nat) : Nat := 0x400C0100 + s * 0x4
def R.MSR_CMP (t : Nat) : Nat := 0x400C0120 + t * 0x4
def R.MSR_ARMV (a : Nat) : Nat := 0x400C0140 + a * 0x4
def R.MSR_RES (c : Nat) : Nat := 0x400C0200 + c * 0x4
def R.FCU_CTRL : Nat := 0x40050000
def R.FCU_FSW0 : Nat := 0x40050004
def R.FCU_FSW1 : Nat := 0x40050008
def R.FCU_FDYN0 : Nat := 0x4005000C
def R.FCU_FDYN1 : Nat := 0x40050010
def R.FCU_FSRC : Nat := 0x40050014
def R.FCU_FTIMELO : Nat := 0x40050018
def R.FCU_FTIMEHI : Nat := 0x4005001C
def R.FCU_RAIL : Nat := 0x40050020
def R.FCU_SWFLT : Nat := 0x40050024
def R.FCU_SWSET : Nat := 0x40050028
def R.FCU_SWCLR : Nat := 0x4005002C
def R.FCU_LEDGER : Nat := 0x40050030
def R.FCU_LDGPTR : Nat := 0x40050034
def R.FCU_LDGLOST : Nat := 0x40050038
def R.FCU_LWDATA (q : Nat) : Nat := 0x40050040 + q * 0x8
def R.FCU_LWCODE (q : Nat) : Nat := 0x40050044 + q * 0x8
def R.FCU_PARCNT : Nat := 0x40050080
def R.FCU_RSTCAUSE : Nat := 0x40050084
def R.FCU_GRAVE : Nat := 0x40050088
def R.FCU_INJ : Nat := 0x4005008C
def R.FCU_WDT (q : Nat) : Nat := 0x400500A0 + q * 0x4
def R.FCU_REACT (s : Nat) : Nat := 0x40050100 + s * 0x4
def R.SFU_CTRL : Nat := 0x40060000
def R.SFU_STATUS : Nat := 0x40060004
def R.SFU_CAUSE : Nat := 0x40060008
def R.SFU_SIN : Nat := 0x4006000C
def R.SFU_SFCFG : Nat := 0x40060010
def R.SFU_SOCFG : Nat := 0x40060014
def R.SFU_TDEG : Nat := 0x40060018
def R.SFU_TDEGREM : Nat := 0x4006001C
def R.SFU_AHB : Nat := 0x40060020
def R.SFU_XWIN : Nat := 0x40060024
def R.SFU_FRCFG : Nat := 0x40060028
def R.SFU_FOLLOW (n : Nat) : Nat := 0x4006002C + n * 0x4
def R.SFU_FRCNT : Nat := 0x40060034
def R.SFU_IEN : Nat := 0x40060038
def R.SFU_ESUB : Nat := 0x4006003C
def R.SFU_EBUF (w : Nat) : Nat := 0x40060040 + w * 0x4
def R.SFU_PTCFG (o : Nat) : Nat := 0x40060080 + o * 0x8
def R.SFU_PTSTAT (o : Nat) : Nat := 0x40060084 + o * 0x8
def R.SFU_BMON (m : Nat) : Nat := 0x40060100 + m * 0x20
def R.SFU_BSCALE (m : Nat) : Nat := 0x40060104 + m * 0x20
def R.SFU_BTHR (m j : Nat) : Nat := 0x40060108 + m * 0x20 + j * 0x4
def R.SFU_BVAL (m : Nat) : Nat := 0x40060118 + m * 0x20
def R.ETH_DMAPCTL : Nat := 0x400D0000
def R.ETH_DREFLO : Nat := 0x400D0004
def R.ETH_DREFHI : Nat := 0x400D0008
def R.ETH_DNSLO : Nat := 0x400D000C
def R.ETH_DNSHI : Nat := 0x400D0010
def R.ETH_DRATE : Nat := 0x400D0014
def R.ETH_DTIMELO : Nat := 0x400D0018
def R.ETH_DTIMEHI : Nat := 0x400D001C
def R.ETH_PRPSET : Nat := 0x400D0020
def R.ETH_PRPCFG : Nat := 0x400D0024
def R.TPO_CFG (n : Nat) : Nat := 0x400D0040 + n * 0x10
def R.TPO_INTVLO (n : Nat) : Nat := 0x400D0044 + n * 0x10
def R.TPO_INTVHI (n : Nat) : Nat := 0x400D0048 + n * 0x10
def R.ETH_MCFG (mac : Nat) : Nat := 0x400D1000 + mac * 0x400
def R.ETH_MSTAT (mac : Nat) : Nat := 0x400D1004 + mac * 0x400
def R.ETH_MIEN (mac : Nat) : Nat := 0x400D1008 + mac * 0x400
def R.ETH_ADDRLO (mac : Nat) : Nat := 0x400D100C + mac * 0x400
def R.ETH_ADDRHI (mac : Nat) : Nat := 0x400D1010 + mac * 0x400
def R.ETH_HASHLO (mac : Nat) : Nat := 0x400D1014 + mac * 0x400
def R.ETH_HASHHI (mac : Nat) : Nat := 0x400D1018 + mac * 0x400
def R.ETH_VID (mac k : Nat) : Nat := 0x400D1020 + mac * 0x400 + k * 0x4
def R.ETH_TXBASE (mac : Nat) : Nat := 0x400D1040 + mac * 0x400
def R.ETH_RXBASE (mac : Nat) : Nat := 0x400D1048 + mac * 0x400
def R.ETH_TXCFG (mac : Nat) : Nat := 0x400D1044 + mac * 0x400
def R.ETH_RXCFG (mac : Nat) : Nat := 0x400D104C + mac * 0x400
def R.ETH_RXREL (mac : Nat) : Nat := 0x400D1050 + mac * 0x400
def R.ETH_SAFETYPE (mac : Nat) : Nat := 0x400D1054 + mac * 0x400
def R.ETH_TSINFO (mac : Nat) : Nat := 0x400D1058 + mac * 0x400
def R.ETH_TXQ (mac h : Nat) : Nat := 0x400D1064 + mac * 0x400 + h * 0x4
def R.ETH_CNT (mac : Nat) : Nat := 0x400D106C + mac * 0x400
def R.ETH_MDIO (mac : Nat) : Nat := 0x400D1070 + mac * 0x400
def R.CAN_CFG (n : Nat) : Nat := 0x400E0000 + n * 0x100
def R.CAN_NBT (n : Nat) : Nat := 0x400E0004 + n * 0x100
def R.CAN_DBT (n : Nat) : Nat := 0x400E0008 + n * 0x100
def R.CAN_TDC (n : Nat) : Nat := 0x400E000C + n * 0x100
def R.CAN_STAT (n : Nat) : Nat := 0x400E0010 + n * 0x100
def R.CAN_ERRCNT (n : Nat) : Nat := 0x400E0014 + n * 0x100
def R.CAN_CMD (n : Nat) : Nat := 0x400E0018 + n * 0x100
def R.CAN_LASTCOLL (n : Nat) : Nat := 0x400E001C + n * 0x100
def R.CAN_CNT (n : Nat) : Nat := 0x400E0020 + n * 0x100
def R.CAN_TXBASE (n : Nat) : Nat := 0x400E0024 + n * 0x100
def R.CAN_RXBASE (n : Nat) : Nat := 0x400E0028 + n * 0x100
def R.CAN_RXCFG (n : Nat) : Nat := 0x400E002C + n * 0x100
def R.CAN_RXREL (n : Nat) : Nat := 0x400E0030 + n * 0x100
def R.CAN_IEN (n : Nat) : Nat := 0x400E0034 + n * 0x100
def R.CAN_WUFID (n : Nat) : Nat := 0x400E0040 + n * 0x100
def R.CAN_WUFMASK (n : Nat) : Nat := 0x400E0044 + n * 0x100
def R.CAN_WUFDATALO (n : Nat) : Nat := 0x400E0048 + n * 0x100
def R.CAN_WUFDATAHI (n : Nat) : Nat := 0x400E004C + n * 0x100
def R.CAN_WUFDLC (n : Nat) : Nat := 0x400E0050 + n * 0x100
def R.CAN_WAKECFG : Nat := 0x400E0800
def R.CAN_WAKESTAT : Nat := 0x400E0804
def R.TRU_CTRL : Nat := 0x400F0000
def R.TRU_STATUS : Nat := 0x400F0004
def R.TRU_IDENT : Nat := 0x400F0008
def R.TRU_BOOTSEL : Nat := 0x400F000C
def R.TRU_BOOTCNT : Nat := 0x400F0010
def R.TRU_EXTCMD : Nat := 0x400F0014
def R.TRU_FLCMD : Nat := 0x400F0018
def R.TRU_FLADDR : Nat := 0x400F001C
def R.TRU_CERTLEN : Nat := 0x400F0020
def R.TRU_SUMLO : Nat := 0x400F0024
def R.TRU_SUMHI : Nat := 0x400F0028
def R.TRU_EXTD (w : Nat) : Nat := 0x400F0040 + w * 0x4
def R.TRU_REQ (b : Nat) : Nat := 0x400F0080 + b * 0x40
def R.TRU_NONCE (b w : Nat) : Nat := 0x400F0084 + b * 0x40 + w * 0x4
def R.TRU_AS (n w : Nat) : Nat := 0x400F0100 + n * 0x40 + w * 0x4
def R.HPD_STATUS : Nat := 0x40100000
def R.HPD_IEN : Nat := 0x40100004
def R.HPD_DOORBELL : Nat := 0x40100008
def R.HPD_HERRADDR : Nat := 0x4010000C
def R.HPD_DBGCTL : Nat := 0x40100010
def R.HPD_DBGSTAT : Nat := 0x40100014
def R.SYSC_PCMD : Nat := 0x40000000
def R.SYSC_PSTAT : Nat := 0x40000004
def R.SYSC_AUTH : Nat := 0x40000008
def R.SYSC_MODE : Nat := 0x4000000C
def R.SYSC_WAKE : Nat := 0x40000010
def R.SYSC_WAKEEN : Nat := 0x40000014
def R.SYSC_BSEC : Nat := 0x40000018
def R.SYSC_ALARM : Nat := 0x4000001C
def R.SYSC_CORESTART : Nat := 0x40000020
def R.SYSC_CENTRY (n : Nat) : Nat := 0x40000020 + n * 0x4
def R.SYSC_RESET : Nat := 0x40000030
def R.SYSC_STRAP : Nat := 0x40000034
def R.TRU_REPORT (b w : Nat) : Nat := 0x400F0400 + b * 0x400 + w * 0x4
def R.TRU_CERT (w : Nat) : Nat := 0x400F1000 + w * 0x4
def R.TRU_FLDATA (w : Nat) : Nat := 0x400F2000 + w * 0x4

def F.CLK_CTRL.FWD_EN : Field := ⟨R.CLK_CTRL, 1, 1⟩
def F.CLK_CTRL.DLL_EN : Field := ⟨R.CLK_CTRL, 0, 0⟩
def F.CLK_STATUS.LOCKCNT : Field := ⟨R.CLK_STATUS, 31, 24⟩
def F.CLK_STATUS.UNSYNC : Field := ⟨R.CLK_STATUS, 15, 12⟩
def F.CLK_STATUS.MCLKBAD : Field := ⟨R.CLK_STATUS, 11, 8⟩
def F.CLK_STATUS.FWD_QUAL : Field := ⟨R.CLK_STATUS, 5, 5⟩
def F.CLK_STATUS.FWD_PRESENT : Field := ⟨R.CLK_STATUS, 4, 4⟩
def F.CLK_STATUS.SRC : Field := ⟨R.CLK_STATUS, 3, 2⟩
def F.CLK_STATUS.LOCKED : Field := ⟨R.CLK_STATUS, 0, 0⟩
def F.CLK_MCLK.EN (n : Nat) : Field := ⟨(R.CLK_MCLK n), 31, 31⟩
def F.CLK_MCLK.SYNCEN (n : Nat) : Field := ⟨(R.CLK_MCLK n), 30, 30⟩
def F.CLK_MCLK.DIV (n : Nat) : Field := ⟨(R.CLK_MCLK n), 15, 0⟩
def F.CLK_MDLY.DELAY (n : Nat) : Field := ⟨(R.CLK_MDLY n), 21, 0⟩
def F.CLK_SYNC.SYNCWIN : Field := ⟨R.CLK_SYNC, 31, 16⟩
def F.CLK_SYNC.SYNCTOL : Field := ⟨R.CLK_SYNC, 15, 8⟩
def F.CLK_SYNC.SYNCIGN : Field := ⟨R.CLK_SYNC, 7, 0⟩
def F.STM_TIMELO.TIME : Field := ⟨R.STM_TIMELO, 31, 0⟩
def F.STM_TIMEHI.TIME : Field := ⟨R.STM_TIMEHI, 31, 0⟩
def F.STM_CTRL.SET : Field := ⟨R.STM_CTRL, 0, 0⟩
def F.STM_SETLO.VALUE : Field := ⟨R.STM_SETLO, 31, 0⟩
def F.STM_SETHI.VALUE : Field := ⟨R.STM_SETHI, 31, 0⟩
def F.STM_STATUS.HOLDCNT : Field := ⟨R.STM_STATUS, 31, 16⟩
def F.STM_STATUS.JOINED : Field := ⟨R.STM_STATUS, 9, 9⟩
def F.STM_STATUS.SETREJ : Field := ⟨R.STM_STATUS, 8, 8⟩
def F.STM_STATUS.STEPPED : Field := ⟨R.STM_STATUS, 7, 7⟩
def F.STM_STATUS.THANDOVER : Field := ⟨R.STM_STATUS, 6, 6⟩
def F.STM_STATUS.DRIFTBAD : Field := ⟨R.STM_STATUS, 5, 5⟩
def F.STM_STATUS.FARSLEW : Field := ⟨R.STM_STATUS, 4, 4⟩
def F.STM_STATUS.SLEWING : Field := ⟨R.STM_STATUS, 3, 3⟩
def F.STM_STATUS.BEACON_OK : Field := ⟨R.STM_STATUS, 2, 2⟩
def F.STM_STATUS.COAST : Field := ⟨R.STM_STATUS, 1, 1⟩
def F.STM_STATUS.SETTLE : Field := ⟨R.STM_STATUS, 0, 0⟩
def F.STM_ERR.E : Field := ⟨R.STM_ERR, 31, 0⟩
def F.STM_DRIFT.DRIFT : Field := ⟨R.STM_DRIFT, 15, 0⟩
def F.STM_PHASE.SLEWCNT : Field := ⟨R.STM_PHASE, 31, 16⟩
def F.STM_PHASE.TAP : Field := ⟨R.STM_PHASE, 5, 0⟩
def F.STM_PERIOD.P : Field := ⟨R.STM_PERIOD, 18, 0⟩
def F.STM_ORIGINLO.ORIGIN : Field := ⟨R.STM_ORIGINLO, 31, 0⟩
def F.STM_ORIGINHI.ORIGIN : Field := ⟨R.STM_ORIGINHI, 31, 0⟩
def F.STM_KLO.K : Field := ⟨R.STM_KLO, 31, 0⟩
def F.STM_SYNCCAPLO.T_S : Field := ⟨R.STM_SYNCCAPLO, 31, 0⟩
def F.STM_SYNCCAPHI.T_S : Field := ⟨R.STM_SYNCCAPHI, 31, 0⟩
def F.STM_CMPLO.TGT (n : Nat) : Field := ⟨(R.STM_CMPLO n), 31, 0⟩
def F.STM_CMPHI.EN (n : Nat) : Field := ⟨(R.STM_CMPHI n), 31, 31⟩
def F.STM_CMPHI.INT (n : Nat) : Field := ⟨(R.STM_CMPHI n), 30, 30⟩
def F.STM_CMPHI.FIRED (n : Nat) : Field := ⟨(R.STM_CMPHI n), 29, 29⟩
def F.STM_CMPHI.LATE (n : Nat) : Field := ⟨(R.STM_CMPHI n), 28, 28⟩
def F.STM_CMPHI.TGT (n : Nat) : Field := ⟨(R.STM_CMPHI n), 7, 0⟩
def F.LNK_CTRL.ESCEN : Field := ⟨R.LNK_CTRL, 1, 1⟩
def F.LNK_CTRL.EN : Field := ⟨R.LNK_CTRL, 0, 0⟩
def F.LNK_MARGIN.M : Field := ⟨R.LNK_MARGIN, 15, 0⟩
def F.LNK_STOP.STOP : Field := ⟨R.LNK_STOP, 0, 0⟩
def F.LNK_UPMAP.UP (n : Nat) : Field := ⟨(R.LNK_UPMAP n), 31, 0⟩
def F.LNK_LOSTMAP.LOST (n : Nat) : Field := ⟨(R.LNK_LOSTMAP n), 31, 0⟩
def F.LNK_PCFG.EN (i : Nat) : Field := ⟨(R.LNK_PCFG i), 31, 31⟩
def F.LNK_PCFG.EDGEMODE (i : Nat) : Field := ⟨(R.LNK_PCFG i), 30, 30⟩
def F.LNK_PCFG.BSLOT (i : Nat) : Field := ⟨(R.LNK_PCFG i), 25, 13⟩
def F.LNK_PCFG.CSLOT (i : Nat) : Field := ⟨(R.LNK_PCFG i), 12, 0⟩
def F.LNK_PCFG2.RPTADV (i : Nat) : Field := ⟨(R.LNK_PCFG2 i), 12, 0⟩
def F.LNK_PSTAT.LSTATE (i : Nat) : Field := ⟨(R.LNK_PSTAT i), 31, 29⟩
def F.LNK_PSTAT.ACTIVE (i : Nat) : Field := ⟨(R.LNK_PSTAT i), 28, 28⟩
def F.LNK_PSTAT.LONG (i : Nat) : Field := ⟨(R.LNK_PSTAT i), 27, 27⟩
def F.LNK_PSTAT.DOLD (i : Nat) : Field := ⟨(R.LNK_PSTAT i), 26, 26⟩
def F.LNK_PSTAT.ESTATE (i : Nat) : Field := ⟨(R.LNK_PSTAT i), 25, 23⟩
def F.LNK_PSTAT.SILCNT (i : Nat) : Field := ⟨(R.LNK_PSTAT i), 22, 20⟩
def F.LNK_PSTAT.EXHCONS (i : Nat) : Field := ⟨(R.LNK_PSTAT i), 19, 18⟩
def F.LNK_RTT.RTT (i : Nat) : Field := ⟨(R.LNK_RTT i), 15, 0⟩
def F.LNK_DELAY.DINT (i : Nat) : Field := ⟨(R.LNK_DELAY i), 23, 4⟩
def F.LNK_DELAY.DFRAC (i : Nat) : Field := ⟨(R.LNK_DELAY i), 3, 0⟩
def F.LNK_ASYM.ASYM (i : Nat) : Field := ⟨(R.LNK_ASYM i), 15, 0⟩
def F.LNK_ERRCNT.DNNAK (i : Nat) : Field := ⟨(R.LNK_ERRCNT i), 31, 16⟩
def F.LNK_ERRCNT.UPERR (i : Nat) : Field := ⟨(R.LNK_ERRCNT i), 15, 0⟩
def F.LNK_REPCNT.DNEXH (i : Nat) : Field := ⟨(R.LNK_REPCNT i), 31, 16⟩
def F.LNK_REPCNT.UPEXH (i : Nat) : Field := ⟨(R.LNK_REPCNT i), 15, 0⟩
def F.LNK_REPEAT.REPEATS (i : Nat) : Field := ⟨(R.LNK_REPEAT i), 31, 16⟩
def F.LNK_REPEAT.ILLEGALS (i : Nat) : Field := ⟨(R.LNK_REPEAT i), 15, 0⟩
def F.LNK_CAP.CAP (i m : Nat) : Field := ⟨(R.LNK_CAP i m), 31, 0⟩
def F.LNK_CMD.PEND (i : Nat) : Field := ⟨(R.LNK_CMD i), 31, 31⟩
def F.LNK_CMD.OP (i : Nat) : Field := ⟨(R.LNK_CMD i), 27, 24⟩
def F.LNK_CMD.ARG (i : Nat) : Field := ⟨(R.LNK_CMD i), 23, 0⟩
def F.CS_CTRL.EN : Field := ⟨R.CS_CTRL, 0, 0⟩
def F.CS_TIMING.TCUT : Field := ⟨R.CS_TIMING, 28, 16⟩
def F.CS_TIMING.RCUT : Field := ⟨R.CS_TIMING, 12, 0⟩
def F.CS_STATUS.PASSCYC : Field := ⟨R.CS_STATUS, 31, 16⟩
def F.CS_STATUS.STOPREQ : Field := ⟨R.CS_STATUS, 3, 3⟩
def F.CS_STATUS.LATE : Field := ⟨R.CS_STATUS, 2, 2⟩
def F.CS_STATUS.CPASS : Field := ⟨R.CS_STATUS, 1, 1⟩
def F.CS_STATUS.APASS : Field := ⟨R.CS_STATUS, 0, 0⟩
def F.CS_CELLCMD.OP : Field := ⟨R.CS_CELLCMD, 31, 28⟩
def F.CS_CELLCMD.ESC : Field := ⟨R.CS_CELLCMD, 27, 27⟩
def F.CS_CELLCMD.CELL : Field := ⟨R.CS_CELLCMD, 26, 21⟩
def F.CS_CELLCMD.CLRSTOP : Field := ⟨R.CS_CELLCMD, 17, 17⟩
def F.CS_CELLCMD.CLRCELL : Field := ⟨R.CS_CELLCMD, 16, 16⟩
def F.CS_CELLCMD.GATES : Field := ⟨R.CS_CELLCMD, 15, 0⟩
def F.CS_CMDSTAT.BUSY : Field := ⟨R.CS_CMDSTAT, 31, 31⟩
def F.CS_CMDSTAT.NOEFFECT : Field := ⟨R.CS_CMDSTAT, 15, 0⟩
def F.CS_CARRYDROP.DROPS : Field := ⟨R.CS_CARRYDROP, 31, 0⟩
def F.CS_WEARW.W3 : Field := ⟨R.CS_WEARW, 31, 24⟩
def F.CS_WEARW.W2 : Field := ⟨R.CS_WEARW, 23, 16⟩
def F.CS_WEARW.W1 : Field := ⟨R.CS_WEARW, 15, 8⟩
def F.CS_WEARW.W0 : Field := ⟨R.CS_WEARW, 7, 0⟩
def F.CS_WEART.CONDW : Field := ⟨R.CS_WEART, 31, 24⟩
def F.CS_WEART.T3 : Field := ⟨R.CS_WEART, 23, 16⟩
def F.CS_WEART.T2 : Field := ⟨R.CS_WEART, 15, 8⟩
def F.CS_WEART.T1 : Field := ⟨R.CS_WEART, 7, 0⟩
def F.CS_CLASS.TMIN (c : Nat) : Field := ⟨(R.CS_CLASS c), 31, 16⟩
def F.CS_CLASS.TDEAD (c : Nat) : Field := ⟨(R.CS_CLASS c), 15, 0⟩
def F.CS_ACFG.MODE (a : Nat) : Field := ⟨(R.CS_ACFG a), 31, 30⟩
def F.CS_ACFG.VCOMP (a : Nat) : Field := ⟨(R.CS_ACFG a), 29, 29⟩
def F.CS_ACFG.FOMFIX (a : Nat) : Field := ⟨(R.CS_ACFG a), 28, 28⟩
def F.CS_ACFG.FLTMAX (a : Nat) : Field := ⟨(R.CS_ACFG a), 26, 24⟩
def F.CS_ACFG.BAND (a : Nat) : Field := ⟨(R.CS_ACFG a), 23, 16⟩
def F.CS_ACFG.TIEV (a : Nat) : Field := ⟨(R.CS_ACFG a), 15, 8⟩
def F.CS_ACFG.WEARLIM (a : Nat) : Field := ⟨(R.CS_ACFG a), 7, 0⟩
def F.CS_ALVL.NREQ (a : Nat) : Field := ⟨(R.CS_ALVL a), 24, 16⟩
def F.CS_ALVL.VLVL (a : Nat) : Field := ⟨(R.CS_ALVL a), 15, 0⟩
def F.CS_ACPER.STEPMAX (a : Nat) : Field := ⟨(R.CS_ACPER a), 31, 24⟩
def F.CS_ACPER.TC (a : Nat) : Field := ⟨(R.CS_ACPER a), 23, 0⟩
def F.CS_ADAB.STAG (a : Nat) : Field := ⟨(R.CS_ADAB a), 31, 24⟩
def F.CS_ADAB.HALF (a : Nat) : Field := ⟨(R.CS_ADAB a), 23, 0⟩
def F.CS_AREF.REF (a : Nat) : Field := ⟨(R.CS_AREF a), 31, 0⟩
def F.CS_AIN.VALID (a : Nat) : Field := ⟨(R.CS_AIN a), 31, 31⟩
def F.CS_AIN.INEG (a : Nat) : Field := ⟨(R.CS_AIN a), 30, 30⟩
def F.CS_AIN.DABPH (a : Nat) : Field := ⟨(R.CS_AIN a), 23, 0⟩
def F.CS_ASTAT.NACT (a : Nat) : Field := ⟨(R.CS_ASTAT a), 31, 26⟩
def F.CS_ASTAT.NFLT (a : Nat) : Field := ⟨(R.CS_ASTAT a), 25, 20⟩
def F.CS_ASTAT.DEFICIT (a : Nat) : Field := ⟨(R.CS_ASTAT a), 19, 19⟩
def F.CS_ASTAT.CLAMP (a : Nat) : Field := ⟨(R.CS_ASTAT a), 18, 18⟩
def F.CS_ASTAT.REFOLD (a : Nat) : Field := ⟨(R.CS_ASTAT a), 17, 17⟩
def F.CS_ASTAT.FOMX (a : Nat) : Field := ⟨(R.CS_ASTAT a), 16, 16⟩
def F.CS_ACNT.CLAMPS (a : Nat) : Field := ⟨(R.CS_ACNT a), 31, 16⟩
def F.CS_ACNT.REFOLDS (a : Nat) : Field := ⟨(R.CS_ACNT a), 15, 0⟩
def F.CS_AFOMT.COUNT (a : Nat) : Field := ⟨(R.CS_AFOMT a), 31, 0⟩
def F.CS_AFOML.COUNT (a : Nat) : Field := ⟨(R.CS_AFOML a), 31, 0⟩
def F.CS_ACARRY.AGE (a : Nat) : Field := ⟨(R.CS_ACARRY a), 25, 24⟩
def F.CS_ACARRY.CARRY (a : Nat) : Field := ⟨(R.CS_ACARRY a), 23, 0⟩
def F.CS_AROT.BANDROT (a : Nat) : Field := ⟨(R.CS_AROT a), 31, 16⟩
def F.CS_AROT.WEARROT (a : Nat) : Field := ⟨(R.CS_AROT a), 15, 0⟩
def F.CS_ACREDIT.CREDIT (a : Nat) : Field := ⟨(R.CS_ACREDIT a), 31, 0⟩
def F.CS_AREPEAT.REPEATS (a : Nat) : Field := ⟨(R.CS_AREPEAT a), 15, 0⟩
def F.CS_SACFG.EN (m : Nat) : Field := ⟨(R.CS_SACFG m), 31, 31⟩
def F.CS_SACFG.SAN (m : Nat) : Field := ⟨(R.CS_SACFG m), 8, 0⟩
def F.CS_SAREF.REF (m : Nat) : Field := ⟨(R.CS_SAREF m), 31, 0⟩
def F.CS_TRIM.TRIM (i : Nat) : Field := ⟨(R.CS_TRIM i), 15, 0⟩
def F.CE_CTRL.PLOCK : Field := ⟨R.CE_CTRL, 1, 1⟩
def F.CE_CTRL.EN : Field := ⟨R.CE_CTRL, 0, 0⟩
def F.CE_STATUS.SUBST : Field := ⟨R.CE_STATUS, 6, 6⟩
def F.CE_STATUS.RAMPING : Field := ⟨R.CE_STATUS, 5, 5⟩
def F.CE_STATUS.ACCSAT : Field := ⟨R.CE_STATUS, 4, 4⟩
def F.CE_STATUS.OSAT : Field := ⟨R.CE_STATUS, 3, 3⟩
def F.CE_STATUS.LATEPOST : Field := ⟨R.CE_STATUS, 2, 2⟩
def F.CE_STATUS.OVERRUN : Field := ⟨R.CE_STATUS, 1, 1⟩
def F.CE_STATUS.RUN : Field := ⟨R.CE_STATUS, 0, 0⟩
def F.CE_START.CYC : Field := ⟨R.CE_START, 18, 0⟩
def F.CE_END.CYC : Field := ⟨R.CE_END, 18, 0⟩
def F.CE_BANK.SWAP : Field := ⟨R.CE_BANK, 31, 31⟩
def F.CE_BANK.SWAPPEND : Field := ⟨R.CE_BANK, 30, 30⟩
def F.CE_BANK.LOADBUSY : Field := ⟨R.CE_BANK, 29, 29⟩
def F.CE_BANK.PBAD : Field := ⟨R.CE_BANK, 28, 28⟩
def F.CE_BANK.SWAPERR : Field := ⟨R.CE_BANK, 27, 27⟩
def F.CE_BANK.LOADREJ : Field := ⟨R.CE_BANK, 26, 26⟩
def F.CE_BANK.ACTIVE : Field := ⟨R.CE_BANK, 16, 16⟩
def F.CE_BANK.SWAPS : Field := ⟨R.CE_BANK, 15, 0⟩
def F.CE_MCOPY.BASE (b : Nat) : Field := ⟨(R.CE_MCOPY b), 31, 0⟩
def F.CE_LOAD.GO : Field := ⟨R.CE_LOAD, 31, 31⟩
def F.CE_LOAD.LAST : Field := ⟨R.CE_LOAD, 29, 16⟩
def F.CE_LOAD.FIRST : Field := ⟨R.CE_LOAD, 13, 0⟩
def F.CE_CODE.BANK : Field := ⟨R.CE_CODE, 2, 0⟩
def F.CE_LISTS.NOUT : Field := ⟨R.CE_LISTS, 27, 16⟩
def F.CE_LISTS.NIN : Field := ⟨R.CE_LISTS, 11, 0⟩
def F.CE_LISTS2.NFB : Field := ⟨R.CE_LISTS2, 25, 16⟩
def F.CE_LISTS2.NINT : Field := ⟨R.CE_LISTS2, 8, 0⟩
def F.CE_RBBASE.BASE : Field := ⟨R.CE_RBBASE, 31, 0⟩
def F.CE_POST.LASTAT (g : Nat) : Field := ⟨(R.CE_POST g), 31, 13⟩
def F.CE_POST.CUT (g : Nat) : Field := ⟨(R.CE_POST g), 12, 0⟩
def F.CE_CYCLES.CYC : Field := ⟨R.CE_CYCLES, 18, 0⟩
def F.CE_MAXCYC.CYC : Field := ⟨R.CE_MAXCYC, 18, 0⟩
def F.CE_FBSUBST.SUBST (n : Nat) : Field := ⟨(R.CE_FBSUBST n), 31, 0⟩
def F.CE_FBEXP.EXP (n : Nat) : Field := ⟨(R.CE_FBEXP n), 31, 0⟩
def F.CE_RAMP.CLR (g : Nat) : Field := ⟨(R.CE_RAMP g), 31, 31⟩
def F.CE_RAMP.PENDCLR (g : Nat) : Field := ⟨(R.CE_RAMP g), 30, 30⟩
def F.CE_RAMP.ACTIVE (g : Nat) : Field := ⟨(R.CE_RAMP g), 29, 29⟩
def F.CE_RAMP.ZERO (g : Nat) : Field := ⟨(R.CE_RAMP g), 28, 28⟩
def F.CE_RAMP.RAMPN (g : Nat) : Field := ⟨(R.CE_RAMP g), 27, 16⟩
def F.CE_RAMP.GAIN (g : Nat) : Field := ⟨(R.CE_RAMP g), 15, 0⟩
def F.CE_ATLIVE0.LIVE : Field := ⟨R.CE_ATLIVE0, 31, 0⟩
def F.CE_ATLIVE1.LIVE : Field := ⟨R.CE_ATLIVE1, 31, 0⟩
def F.CE_PROGS.CYC (j : Nat) : Field := ⟨(R.CE_PROGS j), 18, 0⟩
def F.CE_PROGD.CYC (j : Nat) : Field := ⟨(R.CE_PROGD j), 18, 0⟩
def F.CE_TRKCFG.EN (n : Nat) : Field := ⟨(R.CE_TRKCFG n), 31, 31⟩
def F.CE_TRKCFG.MODE (n : Nat) : Field := ⟨(R.CE_TRKCFG n), 30, 30⟩
def F.CE_TRKCFG.KADDR (n : Nat) : Field := ⟨(R.CE_TRKCFG n), 29, 16⟩
def F.CE_TRKCFG.ARMS (n : Nat) : Field := ⟨(R.CE_TRKCFG n), 15, 0⟩
def F.CE_TRKADDR.WADDR (n : Nat) : Field := ⟨(R.CE_TRKADDR n), 30, 16⟩
def F.CE_TRKADDR.EADDR (n : Nat) : Field := ⟨(R.CE_TRKADDR n), 14, 0⟩
def F.CE_TRKW0.W0 (n : Nat) : Field := ⟨(R.CE_TRKW0 n), 31, 0⟩
def F.CE_TRKSLEW.MAXSLEW (n : Nat) : Field := ⟨(R.CE_TRKSLEW n), 15, 0⟩
def F.CE_TRKTHETA.VALUE (n : Nat) : Field := ⟨(R.CE_TRKTHETA n), 31, 0⟩
def F.CE_TRKOMEGA.VALUE (n : Nat) : Field := ⟨(R.CE_TRKOMEGA n), 31, 0⟩
def F.CE_TRKX.VALUE (n : Nat) : Field := ⟨(R.CE_TRKX n), 31, 0⟩
def F.CE_TRKSTAT.RELOCK (n : Nat) : Field := ⟨(R.CE_TRKSTAT n), 31, 31⟩
def F.CE_TRKSTAT.MODEACT (n : Nat) : Field := ⟨(R.CE_TRKSTAT n), 30, 30⟩
def F.CE_TRKSTAT.RELOCKS (n : Nat) : Field := ⟨(R.CE_TRKSTAT n), 15, 0⟩
def F.ADM_STATUS.CODE : Field := ⟨R.ADM_STATUS, 31, 16⟩
def F.ADM_STATUS.WARN : Field := ⟨R.ADM_STATUS, 3, 3⟩
def F.ADM_STATUS.UNLOADING : Field := ⟨R.ADM_STATUS, 2, 2⟩
def F.ADM_STATUS.BUSY : Field := ⟨R.ADM_STATUS, 1, 1⟩
def F.ADM_STATUS.ADMITTED : Field := ⟨R.ADM_STATUS, 0, 0⟩
def F.ADM_FIGD.FIG : Field := ⟨R.ADM_FIGD, 31, 0⟩
def F.ADM_FIGA.FIG : Field := ⟨R.ADM_FIGA, 31, 0⟩
def F.ADM_OBJ.KIND : Field := ⟨R.ADM_OBJ, 31, 24⟩
def F.ADM_OBJ.OBJ : Field := ⟨R.ADM_OBJ, 23, 0⟩
def F.ADM_POL.DLMISS (q : Nat) : Field := ⟨(R.ADM_POL q), 31, 24⟩
def F.ADM_POL.SKIP (q : Nat) : Field := ⟨(R.ADM_POL q), 23, 16⟩
def F.ADM_POL.DIOVR (q : Nat) : Field := ⟨(R.ADM_POL q), 15, 8⟩
def F.ADM_POL.RATE (q : Nat) : Field := ⟨(R.ADM_POL q), 7, 0⟩
def F.ADM_LONGMAP.LONG (n : Nat) : Field := ⟨(R.ADM_LONGMAP n), 31, 0⟩
def F.VIC_CTRL.EN : Field := ⟨R.VIC_CTRL, 0, 0⟩
def F.VIC_SWSRC.SW : Field := ⟨R.VIC_SWSRC, 31, 0⟩
def F.VIC_SWSET.BITS : Field := ⟨R.VIC_SWSET, 31, 0⟩
def F.VIC_SWCLR.BITS : Field := ⟨R.VIC_SWCLR, 31, 0⟩
def F.VIC_NMICFG.PROC : Field := ⟨R.VIC_NMICFG, 2, 0⟩
def F.VIC_VTBASE.BASE (q : Nat) : Field := ⟨(R.VIC_VTBASE q), 31, 10⟩
def F.VIC_LEVEL.IE (q : Nat) : Field := ⟨(R.VIC_LEVEL q), 31, 31⟩
def F.VIC_LEVEL.ENTRY (q : Nat) : Field := ⟨(R.VIC_LEVEL q), 30, 30⟩
def F.VIC_LEVEL.WFI (q : Nat) : Field := ⟨(R.VIC_LEVEL q), 29, 29⟩
def F.VIC_LEVEL.SRC (q : Nat) : Field := ⟨(R.VIC_LEVEL q), 15, 8⟩
def F.VIC_LEVEL.LEVEL (q : Nat) : Field := ⟨(R.VIC_LEVEL q), 3, 0⟩
def F.VIC_WDRAW.COUNT : Field := ⟨R.VIC_WDRAW, 15, 0⟩
def F.VIC_RAW.BITS (n : Nat) : Field := ⟨(R.VIC_RAW n), 31, 0⟩
def F.VIC_PEND.BITS (n : Nat) : Field := ⟨(R.VIC_PEND n), 31, 0⟩
def F.VIC_SERV.BITS (n : Nat) : Field := ⟨(R.VIC_SERV n), 31, 0⟩
def F.VIC_SRC.EN (n : Nat) : Field := ⟨(R.VIC_SRC n), 31, 31⟩
def F.VIC_SRC.ROUTE (n : Nat) : Field := ⟨(R.VIC_SRC n), 20, 16⟩
def F.VIC_SRC.PRIO (n : Nat) : Field := ⟨(R.VIC_SRC n), 3, 0⟩
def F.HQ_CTRL.EN : Field := ⟨R.HQ_CTRL, 0, 0⟩
def F.HQ_SEMREJ.CTXREJ : Field := ⟨R.HQ_SEMREJ, 31, 16⟩
def F.HQ_SEMREJ.SEMREJ : Field := ⟨R.HQ_SEMREJ, 15, 0⟩
def F.HQ_CFG.EN (q : Nat) : Field := ⟨(R.HQ_CFG q), 31, 31⟩
def F.HQ_CFG.SIZE (q : Nat) : Field := ⟨(R.HQ_CFG q), 27, 24⟩
def F.HQ_CFG.BASE (q : Nat) : Field := ⟨(R.HQ_CFG q), 15, 0⟩
def F.HQ_ACL.POPM (q : Nat) : Field := ⟨(R.HQ_ACL q), 20, 16⟩
def F.HQ_ACL.PUSHM (q : Nat) : Field := ⟨(R.HQ_ACL q), 4, 0⟩
def F.HQ_THR.DIR (q : Nat) : Field := ⟨(R.HQ_THR q), 31, 31⟩
def F.HQ_THR.WM (q : Nat) : Field := ⟨(R.HQ_THR q), 12, 0⟩
def F.HQ_STAT.TCOND (q : Nat) : Field := ⟨(R.HQ_STAT q), 31, 31⟩
def F.HQ_STAT.OVF (q : Nat) : Field := ⟨(R.HQ_STAT q), 30, 30⟩
def F.HQ_STAT.FULL (q : Nat) : Field := ⟨(R.HQ_STAT q), 29, 29⟩
def F.HQ_STAT.EMPTY (q : Nat) : Field := ⟨(R.HQ_STAT q), 28, 28⟩
def F.HQ_STAT.COUNT (q : Nat) : Field := ⟨(R.HQ_STAT q), 12, 0⟩
def F.HQ_DROP.FULLREJ (q : Nat) : Field := ⟨(R.HQ_DROP q), 31, 16⟩
def F.HQ_DROP.HWDROP (q : Nat) : Field := ⟨(R.HQ_DROP q), 15, 0⟩
def F.HQ_FLUSH.FLUSH (q : Nat) : Field := ⟨(R.HQ_FLUSH q), 0, 0⟩
def F.HQ_SEM.GOT (n : Nat) : Field := ⟨(R.HQ_SEM n), 31, 31⟩
def F.HQ_SEM.HELD (n : Nat) : Field := ⟨(R.HQ_SEM n), 30, 30⟩
def F.HQ_SEM.OWNER (n : Nat) : Field := ⟨(R.HQ_SEM n), 3, 0⟩
def F.HQ_SEM.REL (n : Nat) : Field := ⟨(R.HQ_SEM n), 0, 0⟩
def F.HQ_CTXOWN.OWNER (i : Nat) : Field := ⟨(R.HQ_CTXOWN i), 2, 0⟩
def F.RNG_CTRL.SWAP : Field := ⟨R.RNG_CTRL, 7, 7⟩
def F.RNG_CTRL.ROLECMD : Field := ⟨R.RNG_CTRL, 6, 5⟩
def F.RNG_CTRL.JOIN : Field := ⟨R.RNG_CTRL, 4, 4⟩
def F.RNG_CTRL.LEAVE : Field := ⟨R.RNG_CTRL, 3, 3⟩
def F.RNG_CTRL.PBEN : Field := ⟨R.RNG_CTRL, 2, 2⟩
def F.RNG_CTRL.PAEN : Field := ⟨R.RNG_CTRL, 1, 1⟩
def F.RNG_CTRL.EN : Field := ⟨R.RNG_CTRL, 0, 0⟩
def F.RNG_STATUS.ROLE : Field := ⟨R.RNG_STATUS, 31, 30⟩
def F.RNG_STATUS.POS : Field := ⟨R.RNG_STATUS, 29, 24⟩
def F.RNG_STATUS.JOINED : Field := ⟨R.RNG_STATUS, 23, 23⟩
def F.RNG_STATUS.OBSERVER : Field := ⟨R.RNG_STATUS, 22, 22⟩
def F.RNG_STATUS.NOBUDDY : Field := ⟨R.RNG_STATUS, 21, 21⟩
def F.RNG_STATUS.CONFLICT : Field := ⟨R.RNG_STATUS, 20, 20⟩
def F.RNG_STATUS.STRAPRES : Field := ⟨R.RNG_STATUS, 19, 19⟩
def F.RNG_STATUS.JOINREF : Field := ⟨R.RNG_STATUS, 18, 18⟩
def F.RNG_STATUS.BUDDYLOST : Field := ⟨R.RNG_STATUS, 17, 17⟩
def F.RNG_STATUS.ESCSTALE : Field := ⟨R.RNG_STATUS, 16, 16⟩
def F.RNG_STATUS.LEAVEREJ : Field := ⟨R.RNG_STATUS, 15, 15⟩
def F.RNG_STATUS.PASTATE : Field := ⟨R.RNG_STATUS, 14, 12⟩
def F.RNG_STATUS.PBSTATE : Field := ⟨R.RNG_STATUS, 11, 9⟩
def F.RNG_GEN.HOLD : Field := ⟨R.RNG_GEN, 24, 24⟩
def F.RNG_GEN.STACK : Field := ⟨R.RNG_GEN, 23, 16⟩
def F.RNG_GEN.NEXT : Field := ⟨R.RNG_GEN, 15, 8⟩
def F.RNG_GEN.OWN : Field := ⟨R.RNG_GEN, 7, 0⟩
def F.RNG_EPOCH.EPOCH : Field := ⟨R.RNG_EPOCH, 15, 0⟩
def F.RNG_TOPO.BRKV : Field := ⟨R.RNG_TOPO, 31, 31⟩
def F.RNG_TOPO.ISOL : Field := ⟨R.RNG_TOPO, 30, 30⟩
def F.RNG_TOPO.BRKPOS : Field := ⟨R.RNG_TOPO, 29, 24⟩
def F.RNG_TOPO.NCHIP : Field := ⟨R.RNG_TOPO, 22, 16⟩
def F.RNG_TOPO.BUDDYV : Field := ⟨R.RNG_TOPO, 15, 15⟩
def F.RNG_TOPO.BUDDYPOS : Field := ⟨R.RNG_TOPO, 13, 8⟩
def F.RNG_TOPO.MASTERPOS : Field := ⟨R.RNG_TOPO, 5, 0⟩
def F.RNG_HOPA.VALID : Field := ⟨R.RNG_HOPA, 31, 31⟩
def F.RNG_HOPA.LONG : Field := ⟨R.RNG_HOPA, 30, 30⟩
def F.RNG_HOPA.DELAY : Field := ⟨R.RNG_HOPA, 15, 0⟩
def F.RNG_HOPB.VALID : Field := ⟨R.RNG_HOPB, 31, 31⟩
def F.RNG_HOPB.LONG : Field := ⟨R.RNG_HOPB, 30, 30⟩
def F.RNG_HOPB.DELAY : Field := ⟨R.RNG_HOPB, 15, 0⟩
def F.RNG_HOPASYM.ASYMB : Field := ⟨R.RNG_HOPASYM, 31, 16⟩
def F.RNG_HOPASYM.ASYMA : Field := ⟨R.RNG_HOPASYM, 15, 0⟩
def F.RNG_PRES.MAP (n : Nat) : Field := ⟨(R.RNG_PRES n), 31, 0⟩
def F.RNG_OBS.MAP (n : Nat) : Field := ⟨(R.RNG_OBS n), 31, 0⟩
def F.RNG_HOCMD.OP : Field := ⟨R.RNG_HOCMD, 31, 28⟩
def F.RNG_HOCMD.CELL : Field := ⟨R.RNG_HOCMD, 5, 0⟩
def F.RNG_HOSTAT.BUSY : Field := ⟨R.RNG_HOSTAT, 31, 31⟩
def F.RNG_HOSTAT.PHASE : Field := ⟨R.RNG_HOSTAT, 30, 28⟩
def F.RNG_HOSTAT.RESULT : Field := ⟨R.RNG_HOSTAT, 23, 16⟩
def F.RNG_HOSTAT.TBK : Field := ⟨R.RNG_HOSTAT, 15, 0⟩
def F.RNG_ESCSTAT.MISSES : Field := ⟨R.RNG_ESCSTAT, 31, 16⟩
def F.RNG_ESCSTAT.PARTIAL : Field := ⟨R.RNG_ESCSTAT, 15, 8⟩
def F.RNG_ESCSTAT.MISSCONS : Field := ⟨R.RNG_ESCSTAT, 1, 0⟩
def F.RNG_DIRTY.MAXWAIT : Field := ⟨R.RNG_DIRTY, 31, 16⟩
def F.RNG_DIRTY.COUNT : Field := ⟨R.RNG_DIRTY, 9, 0⟩
def F.RNG_ESCSYNC.SYNC (n : Nat) : Field := ⟨(R.RNG_ESCSYNC n), 31, 0⟩
def F.RNG_ERRA.NAKSENT : Field := ⟨R.RNG_ERRA, 31, 16⟩
def F.RNG_ERRA.BADWORDS : Field := ⟨R.RNG_ERRA, 15, 0⟩
def F.RNG_ERRB.NAKSENT : Field := ⟨R.RNG_ERRB, 31, 16⟩
def F.RNG_ERRB.BADWORDS : Field := ⟨R.RNG_ERRB, 15, 0⟩
def F.RNG_LOST.LOST : Field := ⟨R.RNG_LOST, 31, 16⟩
def F.RNG_LOST.CONSA : Field := ⟨R.RNG_LOST, 3, 2⟩
def F.RNG_LOST.CONSB : Field := ⟨R.RNG_LOST, 1, 0⟩
def F.RNG_COUNT.SHAREOLD : Field := ⟨R.RNG_COUNT, 31, 16⟩
def F.RNG_COUNT.TAKEOVERS : Field := ⟨R.RNG_COUNT, 15, 8⟩
def F.RNG_COUNT.TOKFAIL : Field := ⟨R.RNG_COUNT, 7, 0⟩
def F.RNG_SAFEMIS.MISSING : Field := ⟨R.RNG_SAFEMIS, 31, 16⟩
def F.RNG_SAFEMIS.MISMATCH : Field := ⟨R.RNG_SAFEMIS, 15, 0⟩
def F.RNG_BCCFG.VALUE : Field := ⟨R.RNG_BCCFG, 8, 0⟩
def F.RNG_BCBASE.VALUE : Field := ⟨R.RNG_BCBASE, 31, 0⟩
def F.RNG_PLANBASE.VALUE : Field := ⟨R.RNG_PLANBASE, 31, 0⟩
def F.RNG_MTXCTL.GO : Field := ⟨R.RNG_MTXCTL, 31, 31⟩
def F.RNG_MTXCTL.PEND : Field := ⟨R.RNG_MTXCTL, 30, 30⟩
def F.RNG_MTXCTL.DST : Field := ⟨R.RNG_MTXCTL, 21, 16⟩
def F.RNG_MTXCTL.BC : Field := ⟨R.RNG_MTXCTL, 15, 15⟩
def F.RNG_MTXCTL.BULK : Field := ⟨R.RNG_MTXCTL, 14, 14⟩
def F.RNG_MTX.DATA (w : Nat) : Field := ⟨(R.RNG_MTX w), 31, 0⟩
def F.RNG_POS.VALID (m : Nat) : Field := ⟨(R.RNG_POS m), 31, 31⟩
def F.RNG_POS.PRESENT (m : Nat) : Field := ⟨(R.RNG_POS m), 30, 30⟩
def F.RNG_POS.OBSERVER (m : Nat) : Field := ⟨(R.RNG_POS m), 29, 29⟩
def F.RNG_POS.GEN (m : Nat) : Field := ⟨(R.RNG_POS m), 23, 16⟩
def F.RNG_POS.SERIALHI (m : Nat) : Field := ⟨(R.RNG_POS m), 15, 0⟩
def F.RNG_POSSERLO.SERIALLO (m : Nat) : Field := ⟨(R.RNG_POSSERLO m), 31, 0⟩
def F.BRP_CTRL.VGDLOW : Field := ⟨R.BRP_CTRL, 31, 31⟩
def F.BRP_CTRL.EN : Field := ⟨R.BRP_CTRL, 0, 0⟩
def F.BRP_ENSET.CH : Field := ⟨R.BRP_ENSET, 7, 0⟩
def F.BRP_ENCLR.CH : Field := ⟨R.BRP_ENCLR, 7, 0⟩
def F.BRP_STATUS.RUN : Field := ⟨R.BRP_STATUS, 31, 24⟩
def F.BRP_STATUS.STOPPING : Field := ⟨R.BRP_STATUS, 23, 16⟩
def F.BRP_STATUS.PENDEN : Field := ⟨R.BRP_STATUS, 15, 8⟩
def F.BRP_STATUS.LATCHED : Field := ⟨R.BRP_STATUS, 7, 0⟩
def F.BRP_FORCE.REL : Field := ⟨R.BRP_FORCE, 31, 24⟩
def F.BRP_FORCE.SET : Field := ⟨R.BRP_FORCE, 23, 16⟩
def F.BRP_FORCE.GATES : Field := ⟨R.BRP_FORCE, 15, 0⟩
def F.BRP_CLR.TRIP : Field := ⟨R.BRP_CLR, 18, 18⟩
def F.BRP_CLR.BOOT : Field := ⟨R.BRP_CLR, 17, 17⟩
def F.BRP_CLR.SC : Field := ⟨R.BRP_CLR, 16, 16⟩
def F.BRP_CLR.CH : Field := ⟨R.BRP_CLR, 7, 0⟩
def F.BRP_ILKCNT.COUNT : Field := ⟨R.BRP_ILKCNT, 15, 0⟩
def F.BRP_CARRYDROP.DROPS : Field := ⟨R.BRP_CARRYDROP, 31, 0⟩
def F.BRP_TRIPSTAT.BLANKED : Field := ⟨R.BRP_TRIPSTAT, 15, 8⟩
def F.BRP_TRIPSTAT.ASSERTED : Field := ⟨R.BRP_TRIPSTAT, 7, 0⟩
def F.BRP_TRIP.EN (t : Nat) : Field := ⟨(R.BRP_TRIP t), 31, 31⟩
def F.BRP_TRIP.TMR (t : Nat) : Field := ⟨(R.BRP_TRIP t), 30, 28⟩
def F.BRP_TRIP.TMREN (t : Nat) : Field := ⟨(R.BRP_TRIP t), 27, 27⟩
def F.BRP_TRIP.CHMASK (t : Nat) : Field := ⟨(R.BRP_TRIP t), 23, 16⟩
def F.BRP_TRIP.BLANK (t : Nat) : Field := ⟨(R.BRP_TRIP t), 15, 0⟩
def F.BRP_CFG.USE (c : Nat) : Field := ⟨(R.BRP_CFG c), 31, 31⟩
def F.BRP_CFG.FULL (c : Nat) : Field := ⟨(R.BRP_CFG c), 30, 30⟩
def F.BRP_CFG.NOREFRESH (c : Nat) : Field := ⟨(R.BRP_CFG c), 29, 29⟩
def F.BRP_CFG.HSUPPLY (c : Nat) : Field := ⟨(R.BRP_CFG c), 28, 28⟩
def F.BRP_CFG.ALIGN (c : Nat) : Field := ⟨(R.BRP_CFG c), 27, 27⟩
def F.BRP_CFG.REFRESH (c : Nat) : Field := ⟨(R.BRP_CFG c), 25, 16⟩
def F.BRP_CFG.STOPLO (c : Nat) : Field := ⟨(R.BRP_CFG c), 15, 0⟩
def F.BRP_TIM.TMIN (c : Nat) : Field := ⟨(R.BRP_TIM c), 31, 16⟩
def F.BRP_TIM.DT (c : Nat) : Field := ⟨(R.BRP_TIM c), 15, 0⟩
def F.BRP_TCHG.TCHG (c : Nat) : Field := ⟨(R.BRP_TCHG c), 15, 0⟩
def F.BRP_PHASE.PHASE (c : Nat) : Field := ⟨(R.BRP_PHASE c), 24, 0⟩
def F.BRP_PER.VALUE (c : Nat) : Field := ⟨(R.BRP_PER c), 23, 0⟩
def F.BRP_DUTY.VALUE (c : Nat) : Field := ⟨(R.BRP_DUTY c), 23, 0⟩
def F.BRP_SHCTL.COMMIT (c : Nat) : Field := ⟨(R.BRP_SHCTL c), 31, 31⟩
def F.BRP_SHCTL.DISCARD (c : Nat) : Field := ⟨(R.BRP_SHCTL c), 30, 30⟩
def F.BRP_SHCTL.COMMITTED (c : Nat) : Field := ⟨(R.BRP_SHCTL c), 29, 29⟩
def F.BRP_SHCTL.DIRTY (c : Nat) : Field := ⟨(R.BRP_SHCTL c), 28, 28⟩
def F.BRP_SHCTL.CEPEND (c : Nat) : Field := ⟨(R.BRP_SHCTL c), 27, 27⟩
def F.BRP_ACTPER.VALUE (c : Nat) : Field := ⟨(R.BRP_ACTPER c), 23, 0⟩
def F.BRP_ACTDUTY.VALUE (c : Nat) : Field := ⟨(R.BRP_ACTDUTY c), 23, 0⟩
def F.BRP_STAT.RUN (c : Nat) : Field := ⟨(R.BRP_STAT c), 31, 31⟩
def F.BRP_STAT.STOPPING (c : Nat) : Field := ⟨(R.BRP_STAT c), 30, 30⟩
def F.BRP_STAT.PENDEN (c : Nat) : Field := ⟨(R.BRP_STAT c), 29, 29⟩
def F.BRP_STAT.FORCED (c : Nat) : Field := ⟨(R.BRP_STAT c), 28, 28⟩
def F.BRP_STAT.SAFEHOLD (c : Nat) : Field := ⟨(R.BRP_STAT c), 27, 27⟩
def F.BRP_STAT.BOOTLOW (c : Nat) : Field := ⟨(R.BRP_STAT c), 26, 26⟩
def F.BRP_STAT.SC (c : Nat) : Field := ⟨(R.BRP_STAT c), 24, 24⟩
def F.BRP_STAT.BOOTUV (c : Nat) : Field := ⟨(R.BRP_STAT c), 23, 23⟩
def F.BRP_STAT.TRIP (c : Nat) : Field := ⟨(R.BRP_STAT c), 22, 22⟩
def F.BRP_STAT.ILK (c : Nat) : Field := ⟨(R.BRP_STAT c), 21, 21⟩
def F.BRP_STAT.TORN (c : Nat) : Field := ⟨(R.BRP_STAT c), 20, 20⟩
def F.BRP_STAT.BOTHON (c : Nat) : Field := ⟨(R.BRP_STAT c), 19, 19⟩
def F.BRP_STAT.STOPDONE (c : Nat) : Field := ⟨(R.BRP_STAT c), 18, 18⟩
def F.BRP_IEN.STOPDONE (c : Nat) : Field := ⟨(R.BRP_IEN c), 6, 6⟩
def F.BRP_IEN.TORN (c : Nat) : Field := ⟨(R.BRP_IEN c), 5, 5⟩
def F.BRP_IEN.ILK (c : Nat) : Field := ⟨(R.BRP_IEN c), 4, 4⟩
def F.BRP_IEN.TRIP (c : Nat) : Field := ⟨(R.BRP_IEN c), 3, 3⟩
def F.BRP_IEN.BOOTUV (c : Nat) : Field := ⟨(R.BRP_IEN c), 2, 2⟩
def F.BRP_IEN.SC (c : Nat) : Field := ⟨(R.BRP_IEN c), 1, 1⟩
def F.BRP_IEN.BOTHON (c : Nat) : Field := ⟨(R.BRP_IEN c), 0, 0⟩
def F.BRP_CARRY.AGE (c : Nat) : Field := ⟨(R.BRP_CARRY c), 25, 24⟩
def F.BRP_CARRY.CARRY (c : Nat) : Field := ⟨(R.BRP_CARRY c), 23, 0⟩
def F.BRP_CNT.REFRESHES (c : Nat) : Field := ⟨(R.BRP_CNT c), 31, 16⟩
def F.BRP_CNT.RUNTS (c : Nat) : Field := ⟨(R.BRP_CNT c), 15, 0⟩
def F.BRP_SC.EN (c : Nat) : Field := ⟨(R.BRP_SC c), 31, 31⟩
def F.BRP_SC.BLANK (c : Nat) : Field := ⟨(R.BRP_SC c), 23, 16⟩
def F.BRP_SC.FILT (c : Nat) : Field := ⟨(R.BRP_SC c), 15, 8⟩
def F.BRP_SC.THR (c : Nat) : Field := ⟨(R.BRP_SC c), 7, 0⟩
def F.MSR_CTRL.TRIMEN : Field := ⟨R.MSR_CTRL, 6, 6⟩
def F.MSR_CTRL.GAINEN : Field := ⟨R.MSR_CTRL, 5, 5⟩
def F.MSR_CTRL.CMPEN : Field := ⟨R.MSR_CTRL, 4, 4⟩
def F.MSR_CTRL.SDEN : Field := ⟨R.MSR_CTRL, 3, 3⟩
def F.MSR_CTRL.SAREN_B : Field := ⟨R.MSR_CTRL, 2, 2⟩
def F.MSR_CTRL.SAREN_A : Field := ⟨R.MSR_CTRL, 1, 1⟩
def F.MSR_CTRL.EN : Field := ⟨R.MSR_CTRL, 0, 0⟩
def F.MSR_STATUS.STUCK : Field := ⟨R.MSR_STATUS, 31, 24⟩
def F.MSR_STATUS.GAINX : Field := ⟨R.MSR_STATUS, 7, 7⟩
def F.MSR_STATUS.TJHI : Field := ⟨R.MSR_STATUS, 6, 6⟩
def F.MSR_STATUS.SUPPLY : Field := ⟨R.MSR_STATUS, 5, 5⟩
def F.MSR_STATUS.OFFBAD_B : Field := ⟨R.MSR_STATUS, 4, 4⟩
def F.MSR_STATUS.OFFBAD_A : Field := ⟨R.MSR_STATUS, 3, 3⟩
def F.MSR_STATUS.SERNEW : Field := ⟨R.MSR_STATUS, 2, 2⟩
def F.MSR_STATUS.GQDONE : Field := ⟨R.MSR_STATUS, 1, 1⟩
def F.MSR_IEN.IEN : Field := ⟨R.MSR_IEN, 7, 1⟩
def F.MSR_CALCFG.LAMBDA : Field := ⟨R.MSR_CALCFG, 31, 28⟩
def F.MSR_CALCFG.TRIMAVG : Field := ⟨R.MSR_CALCFG, 27, 24⟩
def F.MSR_CALCFG.TRIMSTEP : Field := ⟨R.MSR_CALCFG, 23, 16⟩
def F.MSR_CALCFG.MINV : Field := ⟨R.MSR_CALCFG, 15, 8⟩
def F.MSR_CALCFG.GAINLIM : Field := ⟨R.MSR_CALCFG, 7, 0⟩
def F.MSR_PINIT.PINIT : Field := ⟨R.MSR_PINIT, 31, 0⟩
def F.MSR_OFF.VALID (n : Nat) : Field := ⟨(R.MSR_OFF n), 31, 31⟩
def F.MSR_OFF.OFF (n : Nat) : Field := ⟨(R.MSR_OFF n), 23, 0⟩
def F.MSR_CMPSTAT.OUT : Field := ⟨R.MSR_CMPSTAT, 7, 0⟩
def F.MSR_GQCMD.GO : Field := ⟨R.MSR_GQCMD, 31, 31⟩
def F.MSR_GQCMD.HS : Field := ⟨R.MSR_GQCMD, 30, 30⟩
def F.MSR_GQCMD.HSOK : Field := ⟨R.MSR_GQCMD, 29, 29⟩
def F.MSR_GQCMD.CH : Field := ⟨R.MSR_GQCMD, 2, 0⟩
def F.MSR_GQWIN.QMAX : Field := ⟨R.MSR_GQWIN, 31, 16⟩
def F.MSR_GQWIN.QMIN : Field := ⟨R.MSR_GQWIN, 15, 0⟩
def F.MSR_GQRES.BUSY : Field := ⟨R.MSR_GQRES, 31, 31⟩
def F.MSR_GQRES.RES : Field := ⟨R.MSR_GQRES, 30, 28⟩
def F.MSR_GQRES.SIDE : Field := ⟨R.MSR_GQRES, 27, 27⟩
def F.MSR_GQRES.QG : Field := ⟨R.MSR_GQRES, 15, 0⟩
def F.MSR_SERHI.REJ : Field := ⟨R.MSR_SERHI, 31, 31⟩
def F.MSR_SERHI.CTX : Field := ⟨R.MSR_SERHI, 22, 16⟩
def F.MSR_SERHI.SER : Field := ⟨R.MSR_SERHI, 15, 0⟩
def F.MSR_SERLO.SER : Field := ⟨R.MSR_SERLO, 31, 0⟩
def F.MSR_TRIMSET.FALL : Field := ⟨R.MSR_TRIMSET, 31, 31⟩
def F.MSR_TRIMSET.CTX : Field := ⟨R.MSR_TRIMSET, 30, 24⟩
def F.MSR_TRIMSET.GATE : Field := ⟨R.MSR_TRIMSET, 23, 20⟩
def F.MSR_TRIMSET.TRIM : Field := ⟨R.MSR_TRIMSET, 11, 0⟩
def F.MSR_TJLIM.TJHI : Field := ⟨R.MSR_TJLIM, 11, 0⟩
def F.MSR_SERNEW.NEW (n : Nat) : Field := ⟨(R.MSR_SERNEW n), 31, 0⟩
def F.MSR_SEQ.EN (e : Nat) : Field := ⟨(R.MSR_SEQ e), 31, 31⟩
def F.MSR_SEQ.QEN (e : Nat) : Field := ⟨(R.MSR_SEQ e), 30, 30⟩
def F.MSR_SEQ.SLOT (e : Nat) : Field := ⟨(R.MSR_SEQ e), 19, 8⟩
def F.MSR_SEQ.AIN (e : Nat) : Field := ⟨(R.MSR_SEQ e), 3, 0⟩
def F.MSR_SDCFG.EN (s : Nat) : Field := ⟨(R.MSR_SDCFG s), 31, 31⟩
def F.MSR_SDCFG.CLK (s : Nat) : Field := ⟨(R.MSR_SDCFG s), 30, 29⟩
def F.MSR_SDCFG.OSRC (s : Nat) : Field := ⟨(R.MSR_SDCFG s), 26, 24⟩
def F.MSR_CMP.EN (t : Nat) : Field := ⟨(R.MSR_CMP t), 31, 31⟩
def F.MSR_CMP.POL (t : Nat) : Field := ⟨(R.MSR_CMP t), 30, 30⟩
def F.MSR_CMP.HYST (t : Nat) : Field := ⟨(R.MSR_CMP t), 23, 20⟩
def F.MSR_CMP.FILT (t : Nat) : Field := ⟨(R.MSR_CMP t), 19, 16⟩
def F.MSR_CMP.THR (t : Nat) : Field := ⟨(R.MSR_CMP t), 7, 0⟩
def F.MSR_ARMV.EN (a : Nat) : Field := ⟨(R.MSR_ARMV a), 31, 31⟩
def F.MSR_ARMV.SD (a : Nat) : Field := ⟨(R.MSR_ARMV a), 26, 24⟩
def F.MSR_ARMV.SCALE (a : Nat) : Field := ⟨(R.MSR_ARMV a), 23, 0⟩
def F.MSR_RES.INVALID (c : Nat) : Field := ⟨(R.MSR_RES c), 31, 31⟩
def F.MSR_RES.STALE (c : Nat) : Field := ⟨(R.MSR_RES c), 30, 30⟩
def F.MSR_RES.VALUE (c : Nat) : Field := ⟨(R.MSR_RES c), 29, 0⟩
def F.FCU_CTRL.INJEN : Field := ⟨R.FCU_CTRL, 31, 31⟩
def F.FCU_CTRL.PRIVREJ : Field := ⟨R.FCU_CTRL, 9, 9⟩
def F.FCU_CTRL.REACTREJ : Field := ⟨R.FCU_CTRL, 8, 8⟩
def F.FCU_CTRL.ERRCLASS : Field := ⟨R.FCU_CTRL, 2, 0⟩
def F.FCU_FSW0.FSW : Field := ⟨R.FCU_FSW0, 31, 0⟩
def F.FCU_FSW1.FSW : Field := ⟨R.FCU_FSW1, 31, 0⟩
def F.FCU_FDYN0.FDYN : Field := ⟨R.FCU_FDYN0, 31, 0⟩
def F.FCU_FDYN1.FDYN : Field := ⟨R.FCU_FDYN1, 31, 0⟩
def F.FCU_FSRC.VALID : Field := ⟨R.FCU_FSRC, 31, 31⟩
def F.FCU_FSRC.OVF : Field := ⟨R.FCU_FSRC, 30, 30⟩
def F.FCU_FSRC.TINV : Field := ⟨R.FCU_FSRC, 29, 29⟩
def F.FCU_FSRC.CLASS : Field := ⟨R.FCU_FSRC, 26, 24⟩
def F.FCU_FSRC.NLATER : Field := ⟨R.FCU_FSRC, 23, 16⟩
def F.FCU_FSRC.SRC : Field := ⟨R.FCU_FSRC, 5, 0⟩
def F.FCU_FTIMELO.TIME : Field := ⟨R.FCU_FTIMELO, 31, 0⟩
def F.FCU_FTIMEHI.TIME : Field := ⟨R.FCU_FTIMEHI, 31, 0⟩
def F.FCU_RAIL.EQ : Field := ⟨R.FCU_RAIL, 7, 0⟩
def F.FCU_SWFLT.BITS : Field := ⟨R.FCU_SWFLT, 31, 0⟩
def F.FCU_SWSET.BITS : Field := ⟨R.FCU_SWSET, 31, 0⟩
def F.FCU_SWCLR.BITS : Field := ⟨R.FCU_SWCLR, 31, 0⟩
def F.FCU_LEDGER.EXPEN : Field := ⟨R.FCU_LEDGER, 31, 31⟩
def F.FCU_LEDGER.COLD : Field := ⟨R.FCU_LEDGER, 30, 30⟩
def F.FCU_LDGPTR.WRAPS : Field := ⟨R.FCU_LDGPTR, 31, 16⟩
def F.FCU_LDGPTR.WPTR : Field := ⟨R.FCU_LDGPTR, 13, 0⟩
def F.FCU_LDGLOST.LOST : Field := ⟨R.FCU_LDGLOST, 31, 16⟩
def F.FCU_LDGLOST.WREJ : Field := ⟨R.FCU_LDGLOST, 15, 0⟩
def F.FCU_LWDATA.DATA (q : Nat) : Field := ⟨(R.FCU_LWDATA q), 31, 0⟩
def F.FCU_LWCODE.SRC (q : Nat) : Field := ⟨(R.FCU_LWCODE q), 23, 16⟩
def F.FCU_LWCODE.CODE (q : Nat) : Field := ⟨(R.FCU_LWCODE q), 15, 0⟩
def F.FCU_PARCNT.REREAD : Field := ⟨R.FCU_PARCNT, 31, 16⟩
def F.FCU_PARCNT.RESTORED : Field := ⟨R.FCU_PARCNT, 15, 0⟩
def F.FCU_RSTCAUSE.CAUSE : Field := ⟨R.FCU_RSTCAUSE, 9, 8⟩
def F.FCU_RSTCAUSE.SRC : Field := ⟨R.FCU_RSTCAUSE, 5, 0⟩
def F.FCU_GRAVE.SECS : Field := ⟨R.FCU_GRAVE, 31, 8⟩
def F.FCU_GRAVE.GRAVE : Field := ⟨R.FCU_GRAVE, 7, 0⟩
def F.FCU_INJ.GO : Field := ⟨R.FCU_INJ, 31, 31⟩
def F.FCU_INJ.RAIL : Field := ⟨R.FCU_INJ, 30, 30⟩
def F.FCU_INJ.SRC : Field := ⟨R.FCU_INJ, 5, 0⟩
def F.FCU_WDT.KICK (q : Nat) : Field := ⟨(R.FCU_WDT q), 31, 31⟩
def F.FCU_WDT.EXP (q : Nat) : Field := ⟨(R.FCU_WDT q), 30, 30⟩
def F.FCU_WDT.TIMEOUT (q : Nat) : Field := ⟨(R.FCU_WDT q), 15, 0⟩
def F.FCU_REACT.ERREN (s : Nat) : Field := ⟨(R.FCU_REACT s), 31, 31⟩
def F.FCU_REACT.COUNT (s : Nat) : Field := ⟨(R.FCU_REACT s), 23, 16⟩
def F.FCU_REACT.CLASS (s : Nat) : Field := ⟨(R.FCU_REACT s), 10, 8⟩
def F.FCU_REACT.REACT (s : Nat) : Field := ⟨(R.FCU_REACT s), 2, 0⟩
def F.SFU_CTRL.SRESET : Field := ⟨R.SFU_CTRL, 31, 31⟩
def F.SFU_CTRL.REQUAL : Field := ⟨R.SFU_CTRL, 30, 30⟩
def F.SFU_CTRL.ARM : Field := ⟨R.SFU_CTRL, 29, 29⟩
def F.SFU_CTRL.WREJ : Field := ⟨R.SFU_CTRL, 15, 8⟩
def F.SFU_CTRL.FWDEM : Field := ⟨R.SFU_CTRL, 3, 0⟩
def F.SFU_STATUS.ARMED : Field := ⟨R.SFU_STATUS, 31, 31⟩
def F.SFU_STATUS.SAFE : Field := ⟨R.SFU_STATUS, 30, 30⟩
def F.SFU_STATUS.DEGA : Field := ⟨R.SFU_STATUS, 29, 29⟩
def F.SFU_STATUS.DEGB : Field := ⟨R.SFU_STATUS, 28, 28⟩
def F.SFU_STATUS.PATHDEG : Field := ⟨R.SFU_STATUS, 27, 27⟩
def F.SFU_STATUS.XDIS : Field := ⟨R.SFU_STATUS, 26, 26⟩
def F.SFU_STATUS.SINDISC : Field := ⟨R.SFU_STATUS, 25, 25⟩
def F.SFU_STATUS.RSTREJ : Field := ⟨R.SFU_STATUS, 24, 24⟩
def F.SFU_STATUS.HELD : Field := ⟨R.SFU_STATUS, 23, 20⟩
def F.SFU_STATUS.DEM : Field := ⟨R.SFU_STATUS, 19, 16⟩
def F.SFU_STATUS.CFGERR : Field := ⟨R.SFU_STATUS, 15, 13⟩
def F.SFU_STATUS.PTFAIL : Field := ⟨R.SFU_STATUS, 12, 12⟩
def F.SFU_CAUSE.POS : Field := ⟨R.SFU_CAUSE, 23, 18⟩
def F.SFU_CAUSE.CAUSE : Field := ⟨R.SFU_CAUSE, 7, 0⟩
def F.SFU_SIN.FILT : Field := ⟨R.SFU_SIN, 31, 24⟩
def F.SFU_SIN.DISC : Field := ⟨R.SFU_SIN, 23, 16⟩
def F.SFU_SIN.SF2MAP : Field := ⟨R.SFU_SIN, 2, 2⟩
def F.SFU_SIN.INB : Field := ⟨R.SFU_SIN, 1, 1⟩
def F.SFU_SIN.INA : Field := ⟨R.SFU_SIN, 0, 0⟩
def F.SFU_SFCFG.TRIP : Field := ⟨R.SFU_SFCFG, 7, 4⟩
def F.SFU_SFCFG.EN : Field := ⟨R.SFU_SFCFG, 3, 0⟩
def F.SFU_SOCFG.MASK : Field := ⟨R.SFU_SOCFG, 15, 0⟩
def F.SFU_TDEG.SECS : Field := ⟨R.SFU_TDEG, 17, 0⟩
def F.SFU_TDEGREM.SECS : Field := ⟨R.SFU_TDEGREM, 17, 0⟩
def F.SFU_AHB.HB : Field := ⟨R.SFU_AHB, 31, 0⟩
def F.SFU_XWIN.PER : Field := ⟨R.SFU_XWIN, 7, 0⟩
def F.SFU_FRCFG.RINGEN : Field := ⟨R.SFU_FRCFG, 31, 31⟩
def F.SFU_FRCFG.ETHEN : Field := ⟨R.SFU_FRCFG, 30, 30⟩
def F.SFU_FRCFG.WDACT : Field := ⟨R.SFU_FRCFG, 29, 29⟩
def F.SFU_FRCFG.WIN : Field := ⟨R.SFU_FRCFG, 20, 16⟩
def F.SFU_FRCFG.WDOG : Field := ⟨R.SFU_FRCFG, 15, 8⟩
def F.SFU_FRCFG.MISSMAX : Field := ⟨R.SFU_FRCFG, 7, 0⟩
def F.SFU_FOLLOW.MAP (n : Nat) : Field := ⟨(R.SFU_FOLLOW n), 31, 0⟩
def F.SFU_FRCNT.MISSING : Field := ⟨R.SFU_FRCNT, 31, 16⟩
def F.SFU_FRCNT.MISMATCH : Field := ⟨R.SFU_FRCNT, 15, 0⟩
def F.SFU_IEN.IEN : Field := ⟨R.SFU_IEN, 31, 12⟩
def F.SFU_ESUB.GO : Field := ⟨R.SFU_ESUB, 31, 31⟩
def F.SFU_ESUB.MAC : Field := ⟨R.SFU_ESUB, 0, 0⟩
def F.SFU_EBUF.DATA (w : Nat) : Field := ⟨(R.SFU_EBUF w), 31, 0⟩
def F.SFU_PTCFG.EN (o : Nat) : Field := ⟨(R.SFU_PTCFG o), 31, 31⟩
def F.SFU_PTCFG.INTV (o : Nat) : Field := ⟨(R.SFU_PTCFG o), 23, 16⟩
def F.SFU_PTCFG.TPW (o : Nat) : Field := ⟨(R.SFU_PTCFG o), 8, 0⟩
def F.SFU_PTSTAT.RUNNING (o : Nat) : Field := ⟨(R.SFU_PTSTAT o), 31, 31⟩
def F.SFU_PTSTAT.FAIL (o : Nat) : Field := ⟨(R.SFU_PTSTAT o), 30, 30⟩
def F.SFU_PTSTAT.ABORTS (o : Nat) : Field := ⟨(R.SFU_PTSTAT o), 23, 16⟩
def F.SFU_PTSTAT.TESTS (o : Nat) : Field := ⟨(R.SFU_PTSTAT o), 15, 0⟩
def F.SFU_BMON.EN (m : Nat) : Field := ⟨(R.SFU_BMON m), 31, 31⟩
def F.SFU_BMON.MODE (m : Nat) : Field := ⟨(R.SFU_BMON m), 30, 29⟩
def F.SFU_BMON.SD (m : Nat) : Field := ⟨(R.SFU_BMON m), 28, 26⟩
def F.SFU_BMON.OSRC (m : Nat) : Field := ⟨(R.SFU_BMON m), 25, 23⟩
def F.SFU_BMON.CONF (m : Nat) : Field := ⟨(R.SFU_BMON m), 22, 20⟩
def F.SFU_BSCALE.SCALE (m : Nat) : Field := ⟨(R.SFU_BSCALE m), 23, 0⟩
def F.SFU_BTHR.EN (m j : Nat) : Field := ⟨(R.SFU_BTHR m j), 31, 31⟩
def F.SFU_BTHR.DIR (m j : Nat) : Field := ⟨(R.SFU_BTHR m j), 30, 30⟩
def F.SFU_BTHR.DELAY (m j : Nat) : Field := ⟨(R.SFU_BTHR m j), 29, 18⟩
def F.SFU_BTHR.LEVEL (m j : Nat) : Field := ⟨(R.SFU_BTHR m j), 17, 0⟩
def F.SFU_BVAL.VIOL (m : Nat) : Field := ⟨(R.SFU_BVAL m), 31, 28⟩
def F.SFU_BVAL.VALUE (m : Nat) : Field := ⟨(R.SFU_BVAL m), 17, 0⟩
def F.ETH_DMAPCTL.COMMIT : Field := ⟨R.ETH_DMAPCTL, 31, 31⟩
def F.ETH_DMAPCTL.VALID : Field := ⟨R.ETH_DMAPCTL, 30, 30⟩
def F.ETH_DREFLO.VALUE : Field := ⟨R.ETH_DREFLO, 31, 0⟩
def F.ETH_DREFHI.VALUE : Field := ⟨R.ETH_DREFHI, 31, 0⟩
def F.ETH_DNSLO.VALUE : Field := ⟨R.ETH_DNSLO, 31, 0⟩
def F.ETH_DNSHI.VALUE : Field := ⟨R.ETH_DNSHI, 31, 0⟩
def F.ETH_DRATE.DRATE : Field := ⟨R.ETH_DRATE, 31, 0⟩
def F.ETH_DTIMELO.TIME : Field := ⟨R.ETH_DTIMELO, 31, 0⟩
def F.ETH_DTIMEHI.TIME : Field := ⟨R.ETH_DTIMEHI, 31, 0⟩
def F.ETH_PRPSET.SEQ1 : Field := ⟨R.ETH_PRPSET, 31, 16⟩
def F.ETH_PRPSET.SEQ0 : Field := ⟨R.ETH_PRPSET, 15, 0⟩
def F.ETH_PRPCFG.FORGET : Field := ⟨R.ETH_PRPCFG, 11, 0⟩
def F.TPO_CFG.EN (n : Nat) : Field := ⟨(R.TPO_CFG n), 31, 31⟩
def F.TPO_CFG.POL (n : Nat) : Field := ⟨(R.TPO_CFG n), 30, 30⟩
def F.TPO_CFG.REP (n : Nat) : Field := ⟨(R.TPO_CFG n), 29, 29⟩
def F.TPO_CFG.WIDTH (n : Nat) : Field := ⟨(R.TPO_CFG n), 23, 0⟩
def F.TPO_INTVLO.INTV (n : Nat) : Field := ⟨(R.TPO_INTVLO n), 31, 0⟩
def F.TPO_INTVHI.INTV (n : Nat) : Field := ⟨(R.TPO_INTVHI n), 7, 0⟩
def F.ETH_MCFG.EN (mac : Nat) : Field := ⟨(R.ETH_MCFG mac), 31, 31⟩
def F.ETH_MCFG.TXEN (mac : Nat) : Field := ⟨(R.ETH_MCFG mac), 30, 30⟩
def F.ETH_MCFG.RXEN (mac : Nat) : Field := ⟨(R.ETH_MCFG mac), 29, 29⟩
def F.ETH_MCFG.AUTO (mac : Nat) : Field := ⟨(R.ETH_MCFG mac), 28, 28⟩
def F.ETH_MCFG.SPEED (mac : Nat) : Field := ⟨(R.ETH_MCFG mac), 27, 26⟩
def F.ETH_MCFG.TXDLY (mac : Nat) : Field := ⟨(R.ETH_MCFG mac), 25, 25⟩
def F.ETH_MCFG.RXDLY (mac : Nat) : Field := ⟨(R.ETH_MCFG mac), 24, 24⟩
def F.ETH_MCFG.PROMISC (mac : Nat) : Field := ⟨(R.ETH_MCFG mac), 23, 23⟩
def F.ETH_MCFG.UNTAG (mac : Nat) : Field := ⟨(R.ETH_MCFG mac), 22, 22⟩
def F.ETH_MSTAT.LINK (mac : Nat) : Field := ⟨(R.ETH_MSTAT mac), 31, 31⟩
def F.ETH_MSTAT.PSPEED (mac : Nat) : Field := ⟨(R.ETH_MSTAT mac), 30, 29⟩
def F.ETH_MSTAT.LINKBAD (mac : Nat) : Field := ⟨(R.ETH_MSTAT mac), 28, 28⟩
def F.ETH_MSTAT.SAFERX (mac : Nat) : Field := ⟨(R.ETH_MSTAT mac), 27, 27⟩
def F.ETH_MSTAT.TSEV (mac : Nat) : Field := ⟨(R.ETH_MSTAT mac), 26, 26⟩
def F.ETH_MSTAT.RXLOW (mac : Nat) : Field := ⟨(R.ETH_MSTAT mac), 25, 25⟩
def F.ETH_MSTAT.LINKCHG (mac : Nat) : Field := ⟨(R.ETH_MSTAT mac), 24, 24⟩
def F.ETH_MIEN.IEN (mac : Nat) : Field := ⟨(R.ETH_MIEN mac), 31, 24⟩
def F.ETH_ADDRLO.ADDR (mac : Nat) : Field := ⟨(R.ETH_ADDRLO mac), 31, 0⟩
def F.ETH_ADDRHI.ADDR (mac : Nat) : Field := ⟨(R.ETH_ADDRHI mac), 15, 0⟩
def F.ETH_HASHLO.HASH (mac : Nat) : Field := ⟨(R.ETH_HASHLO mac), 31, 0⟩
def F.ETH_HASHHI.HASH (mac : Nat) : Field := ⟨(R.ETH_HASHHI mac), 31, 0⟩
def F.ETH_VID.EN (mac k : Nat) : Field := ⟨(R.ETH_VID mac k), 31, 31⟩
def F.ETH_VID.VID (mac k : Nat) : Field := ⟨(R.ETH_VID mac k), 11, 0⟩
def F.ETH_TXBASE.BASE (mac : Nat) : Field := ⟨(R.ETH_TXBASE mac), 31, 0⟩
def F.ETH_RXBASE.BASE (mac : Nat) : Field := ⟨(R.ETH_RXBASE mac), 31, 0⟩
def F.ETH_TXCFG.LATEMAX (mac : Nat) : Field := ⟨(R.ETH_TXCFG mac), 15, 0⟩
def F.ETH_RXCFG.FREE (mac : Nat) : Field := ⟨(R.ETH_RXCFG mac), 31, 16⟩
def F.ETH_RXCFG.COUNT (mac : Nat) : Field := ⟨(R.ETH_RXCFG mac), 11, 0⟩
def F.ETH_RXREL.COUNT (mac : Nat) : Field := ⟨(R.ETH_RXREL mac), 11, 0⟩
def F.ETH_SAFETYPE.SAFEDROP (mac : Nat) : Field := ⟨(R.ETH_SAFETYPE mac), 31, 16⟩
def F.ETH_SAFETYPE.TYPE (mac : Nat) : Field := ⟨(R.ETH_SAFETYPE mac), 15, 0⟩
def F.ETH_TSINFO.VALID (mac : Nat) : Field := ⟨(R.ETH_TSINFO mac), 31, 31⟩
def F.ETH_TSINFO.DIR (mac : Nat) : Field := ⟨(R.ETH_TSINFO mac), 30, 30⟩
def F.ETH_TSINFO.QUEUED (mac : Nat) : Field := ⟨(R.ETH_TSINFO mac), 29, 29⟩
def F.ETH_TSINFO.SLOW (mac : Nat) : Field := ⟨(R.ETH_TSINFO mac), 28, 28⟩
def F.ETH_TSINFO.MTYPE (mac : Nat) : Field := ⟨(R.ETH_TSINFO mac), 27, 24⟩
def F.ETH_TSINFO.TSLOST (mac : Nat) : Field := ⟨(R.ETH_TSINFO mac), 23, 16⟩
def F.ETH_TSINFO.SEQID (mac : Nat) : Field := ⟨(R.ETH_TSINFO mac), 15, 0⟩
def F.ETH_TXQ.DISC (mac h : Nat) : Field := ⟨(R.ETH_TXQ mac h), 31, 24⟩
def F.ETH_TXQ.LATE (mac h : Nat) : Field := ⟨(R.ETH_TXQ mac h), 23, 16⟩
def F.ETH_TXQ.DONE (mac h : Nat) : Field := ⟨(R.ETH_TXQ mac h), 15, 0⟩
def F.ETH_CNT.RXDROP (mac : Nat) : Field := ⟨(R.ETH_CNT mac), 31, 16⟩
def F.ETH_CNT.FCSERR (mac : Nat) : Field := ⟨(R.ETH_CNT mac), 15, 0⟩
def F.ETH_MDIO.GO (mac : Nat) : Field := ⟨(R.ETH_MDIO mac), 31, 31⟩
def F.ETH_MDIO.READ (mac : Nat) : Field := ⟨(R.ETH_MDIO mac), 30, 30⟩
def F.ETH_MDIO.PHYAD (mac : Nat) : Field := ⟨(R.ETH_MDIO mac), 29, 25⟩
def F.ETH_MDIO.REGAD (mac : Nat) : Field := ⟨(R.ETH_MDIO mac), 24, 20⟩
def F.ETH_MDIO.DATA (mac : Nat) : Field := ⟨(R.ETH_MDIO mac), 15, 0⟩
def F.CAN_CFG.EN (n : Nat) : Field := ⟨(R.CAN_CFG n), 31, 31⟩
def F.CAN_CFG.FDEN (n : Nat) : Field := ⟨(R.CAN_CFG n), 30, 30⟩
def F.CAN_CFG.CONF (n : Nat) : Field := ⟨(R.CAN_CFG n), 29, 29⟩
def F.CAN_CFG.TDCEN (n : Nat) : Field := ⟨(R.CAN_CFG n), 28, 28⟩
def F.CAN_CFG.LISTEN (n : Nat) : Field := ⟨(R.CAN_CFG n), 27, 27⟩
def F.CAN_CFG.CFGERR (n : Nat) : Field := ⟨(R.CAN_CFG n), 26, 26⟩
def F.CAN_NBT.NSJW (n : Nat) : Field := ⟨(R.CAN_NBT n), 31, 25⟩
def F.CAN_NBT.NBRP (n : Nat) : Field := ⟨(R.CAN_NBT n), 24, 16⟩
def F.CAN_NBT.NTSEG1 (n : Nat) : Field := ⟨(R.CAN_NBT n), 15, 8⟩
def F.CAN_NBT.NTSEG2 (n : Nat) : Field := ⟨(R.CAN_NBT n), 6, 0⟩
def F.CAN_DBT.DBRP (n : Nat) : Field := ⟨(R.CAN_DBT n), 31, 27⟩
def F.CAN_DBT.DTSEG1 (n : Nat) : Field := ⟨(R.CAN_DBT n), 26, 21⟩
def F.CAN_DBT.DTSEG2 (n : Nat) : Field := ⟨(R.CAN_DBT n), 20, 16⟩
def F.CAN_DBT.DSJW (n : Nat) : Field := ⟨(R.CAN_DBT n), 15, 11⟩
def F.CAN_TDC.TDCOVF (n : Nat) : Field := ⟨(R.CAN_TDC n), 31, 31⟩
def F.CAN_TDC.SSPOFS (n : Nat) : Field := ⟨(R.CAN_TDC n), 22, 16⟩
def F.CAN_TDC.TDCV (n : Nat) : Field := ⟨(R.CAN_TDC n), 14, 8⟩
def F.CAN_STAT.STATE (n : Nat) : Field := ⟨(R.CAN_STAT n), 31, 30⟩
def F.CAN_STAT.RECOVERING (n : Nat) : Field := ⟨(R.CAN_STAT n), 29, 29⟩
def F.CAN_STAT.SLEEP (n : Nat) : Field := ⟨(R.CAN_STAT n), 28, 28⟩
def F.CAN_STAT.TXBUSY (n : Nat) : Field := ⟨(R.CAN_STAT n), 27, 27⟩
def F.CAN_STAT.COLLSEEN (n : Nat) : Field := ⟨(R.CAN_STAT n), 26, 26⟩
def F.CAN_STAT.RXLOW (n : Nat) : Field := ⟨(R.CAN_STAT n), 25, 25⟩
def F.CAN_STAT.STATECHG (n : Nat) : Field := ⟨(R.CAN_STAT n), 24, 24⟩
def F.CAN_ERRCNT.RP (n : Nat) : Field := ⟨(R.CAN_ERRCNT n), 23, 23⟩
def F.CAN_ERRCNT.REC (n : Nat) : Field := ⟨(R.CAN_ERRCNT n), 22, 16⟩
def F.CAN_ERRCNT.TEC (n : Nat) : Field := ⟨(R.CAN_ERRCNT n), 8, 0⟩
def F.CAN_CMD.RECOVER (n : Nat) : Field := ⟨(R.CAN_CMD n), 31, 31⟩
def F.CAN_CMD.RESET (n : Nat) : Field := ⟨(R.CAN_CMD n), 30, 30⟩
def F.CAN_CMD.SLEEP (n : Nat) : Field := ⟨(R.CAN_CMD n), 29, 29⟩
def F.CAN_CMD.WAKE (n : Nat) : Field := ⟨(R.CAN_CMD n), 28, 28⟩
def F.CAN_LASTCOLL.VALID (n : Nat) : Field := ⟨(R.CAN_LASTCOLL n), 31, 31⟩
def F.CAN_LASTCOLL.IDE (n : Nat) : Field := ⟨(R.CAN_LASTCOLL n), 30, 30⟩
def F.CAN_LASTCOLL.ID (n : Nat) : Field := ⟨(R.CAN_LASTCOLL n), 28, 0⟩
def F.CAN_CNT.ERRS (n : Nat) : Field := ⟨(R.CAN_CNT n), 31, 16⟩
def F.CAN_CNT.ARBLOST (n : Nat) : Field := ⟨(R.CAN_CNT n), 15, 0⟩
def F.CAN_TXBASE.BASE (n : Nat) : Field := ⟨(R.CAN_TXBASE n), 31, 0⟩
def F.CAN_RXBASE.BASE (n : Nat) : Field := ⟨(R.CAN_RXBASE n), 31, 0⟩
def F.CAN_RXCFG.RXDROP (n : Nat) : Field := ⟨(R.CAN_RXCFG n), 31, 16⟩
def F.CAN_RXCFG.COUNT (n : Nat) : Field := ⟨(R.CAN_RXCFG n), 14, 0⟩
def F.CAN_RXREL.COUNT (n : Nat) : Field := ⟨(R.CAN_RXREL n), 14, 0⟩
def F.CAN_IEN.IEN (n : Nat) : Field := ⟨(R.CAN_IEN n), 31, 24⟩
def F.CAN_WUFID.EN (n : Nat) : Field := ⟨(R.CAN_WUFID n), 31, 31⟩
def F.CAN_WUFID.IDE (n : Nat) : Field := ⟨(R.CAN_WUFID n), 30, 30⟩
def F.CAN_WUFID.ID (n : Nat) : Field := ⟨(R.CAN_WUFID n), 28, 0⟩
def F.CAN_WUFMASK.ID (n : Nat) : Field := ⟨(R.CAN_WUFMASK n), 28, 0⟩
def F.CAN_WUFDATALO.DATA (n : Nat) : Field := ⟨(R.CAN_WUFDATALO n), 31, 0⟩
def F.CAN_WUFDATAHI.DATA (n : Nat) : Field := ⟨(R.CAN_WUFDATAHI n), 31, 0⟩
def F.CAN_WUFDLC.DLCEN (n : Nat) : Field := ⟨(R.CAN_WUFDLC n), 31, 31⟩
def F.CAN_WUFDLC.DLC (n : Nat) : Field := ⟨(R.CAN_WUFDLC n), 3, 0⟩
def F.CAN_WAKECFG.WUPMODE : Field := ⟨R.CAN_WAKECFG, 2, 2⟩
def F.CAN_WAKECFG.WUPEN1 : Field := ⟨R.CAN_WAKECFG, 1, 1⟩
def F.CAN_WAKECFG.WUPEN0 : Field := ⟨R.CAN_WAKECFG, 0, 0⟩
def F.CAN_WAKESTAT.FEC : Field := ⟨R.CAN_WAKESTAT, 5, 4⟩
def F.CAN_WAKESTAT.WUF : Field := ⟨R.CAN_WAKESTAT, 3, 2⟩
def F.CAN_WAKESTAT.WUP : Field := ⟨R.CAN_WAKESTAT, 1, 0⟩
def F.TRU_CTRL.IEN : Field := ⟨R.TRU_CTRL, 2, 0⟩
def F.TRU_STATUS.KEYBAD : Field := ⟨R.TRU_STATUS, 31, 31⟩
def F.TRU_STATUS.ROMREC : Field := ⟨R.TRU_STATUS, 30, 30⟩
def F.TRU_STATUS.EXTREJ : Field := ⟨R.TRU_STATUS, 29, 29⟩
def F.TRU_STATUS.EXTBUSY : Field := ⟨R.TRU_STATUS, 28, 28⟩
def F.TRU_STATUS.SIGBUSY : Field := ⟨R.TRU_STATUS, 27, 27⟩
def F.TRU_STATUS.DONE : Field := ⟨R.TRU_STATUS, 2, 0⟩
def F.TRU_IDENT.LOCK : Field := ⟨R.TRU_IDENT, 31, 31⟩
def F.TRU_IDENT.STACKID : Field := ⟨R.TRU_IDENT, 29, 16⟩
def F.TRU_BOOTSEL.CONFIRM : Field := ⟨R.TRU_BOOTSEL, 31, 31⟩
def F.TRU_BOOTSEL.TRIAL : Field := ⟨R.TRU_BOOTSEL, 30, 30⟩
def F.TRU_BOOTSEL.TRIED : Field := ⟨R.TRU_BOOTSEL, 29, 29⟩
def F.TRU_BOOTSEL.NEXT : Field := ⟨R.TRU_BOOTSEL, 28, 28⟩
def F.TRU_BOOTSEL.ACTIVE : Field := ⟨R.TRU_BOOTSEL, 27, 27⟩
def F.TRU_BOOTSEL.FALLBACK : Field := ⟨R.TRU_BOOTSEL, 26, 26⟩
def F.TRU_BOOTSEL.ROLLBACK : Field := ⟨R.TRU_BOOTSEL, 25, 25⟩
def F.TRU_BOOTCNT.COUNT : Field := ⟨R.TRU_BOOTCNT, 31, 0⟩
def F.TRU_EXTCMD.GO : Field := ⟨R.TRU_EXTCMD, 31, 31⟩
def F.TRU_EXTCMD.N : Field := ⟨R.TRU_EXTCMD, 2, 0⟩
def F.TRU_FLCMD.GO : Field := ⟨R.TRU_FLCMD, 31, 31⟩
def F.TRU_FLCMD.ERASE : Field := ⟨R.TRU_FLCMD, 30, 30⟩
def F.TRU_FLCMD.BUSY : Field := ⟨R.TRU_FLCMD, 29, 29⟩
def F.TRU_FLCMD.REFUSED : Field := ⟨R.TRU_FLCMD, 28, 28⟩
def F.TRU_FLCMD.FAIL : Field := ⟨R.TRU_FLCMD, 27, 27⟩
def F.TRU_FLADDR.ADDR : Field := ⟨R.TRU_FLADDR, 31, 0⟩
def F.TRU_CERTLEN.LEN : Field := ⟨R.TRU_CERTLEN, 11, 0⟩
def F.TRU_SUMLO.SUM : Field := ⟨R.TRU_SUMLO, 31, 0⟩
def F.TRU_SUMHI.SUM : Field := ⟨R.TRU_SUMHI, 31, 0⟩
def F.TRU_EXTD.D (w : Nat) : Field := ⟨(R.TRU_EXTD w), 31, 0⟩
def F.TRU_REQ.GO (b : Nat) : Field := ⟨(R.TRU_REQ b), 31, 31⟩
def F.TRU_REQ.BUSY (b : Nat) : Field := ⟨(R.TRU_REQ b), 30, 30⟩
def F.TRU_REQ.PEND (b : Nat) : Field := ⟨(R.TRU_REQ b), 29, 29⟩
def F.TRU_NONCE.NONCE (b w : Nat) : Field := ⟨(R.TRU_NONCE b w), 31, 0⟩
def F.TRU_AS.AS (n w : Nat) : Field := ⟨(R.TRU_AS n w), 31, 0⟩
def F.HPD_STATUS.LATE : Field := ⟨R.HPD_STATUS, 5, 5⟩
def F.HPD_STATUS.DOOR : Field := ⟨R.HPD_STATUS, 4, 4⟩
def F.HPD_STATUS.HERR : Field := ⟨R.HPD_STATUS, 3, 3⟩
def F.HPD_STATUS.MBXDROP : Field := ⟨R.HPD_STATUS, 2, 2⟩
def F.HPD_STATUS.MBXEMPTY : Field := ⟨R.HPD_STATUS, 1, 1⟩
def F.HPD_STATUS.DBGATT : Field := ⟨R.HPD_STATUS, 0, 0⟩
def F.HPD_IEN.IEN : Field := ⟨R.HPD_IEN, 5, 1⟩
def F.HPD_DOORBELL.DATA : Field := ⟨R.HPD_DOORBELL, 31, 0⟩
def F.HPD_HERRADDR.ADDR : Field := ⟨R.HPD_HERRADDR, 31, 0⟩
def F.HPD_DBGCTL.ATTACH : Field := ⟨R.HPD_DBGCTL, 31, 31⟩
def F.HPD_DBGCTL.DETACH : Field := ⟨R.HPD_DBGCTL, 30, 30⟩
def F.HPD_DBGCTL.RESUME : Field := ⟨R.HPD_DBGCTL, 20, 16⟩
def F.HPD_DBGCTL.HALT : Field := ⟨R.HPD_DBGCTL, 4, 0⟩
def F.HPD_DBGSTAT.ATTACHED : Field := ⟨R.HPD_DBGSTAT, 31, 31⟩
def F.HPD_DBGSTAT.HALTED : Field := ⟨R.HPD_DBGSTAT, 4, 0⟩
def F.SYSC_PCMD.GO : Field := ⟨R.SYSC_PCMD, 31, 31⟩
def F.SYSC_PCMD.STATE : Field := ⟨R.SYSC_PCMD, 30, 28⟩
def F.SYSC_PCMD.OPT : Field := ⟨R.SYSC_PCMD, 11, 0⟩
def F.SYSC_PSTAT.STATE : Field := ⟨R.SYSC_PSTAT, 31, 29⟩
def F.SYSC_PSTAT.BUSY : Field := ⟨R.SYSC_PSTAT, 28, 28⟩
def F.SYSC_PSTAT.PENDING : Field := ⟨R.SYSC_PSTAT, 27, 27⟩
def F.SYSC_PSTAT.DONE : Field := ⟨R.SYSC_PSTAT, 26, 26⟩
def F.SYSC_PSTAT.RESULT : Field := ⟨R.SYSC_PSTAT, 25, 22⟩
def F.SYSC_PSTAT.DOMAIN : Field := ⟨R.SYSC_PSTAT, 21, 18⟩
def F.SYSC_PSTAT.ON : Field := ⟨R.SYSC_PSTAT, 11, 0⟩
def F.SYSC_AUTH.RING : Field := ⟨R.SYSC_AUTH, 0, 0⟩
def F.SYSC_MODE.DBGREJ : Field := ⟨R.SYSC_MODE, 31, 16⟩
def F.SYSC_MODE.HALTED : Field := ⟨R.SYSC_MODE, 3, 3⟩
def F.SYSC_MODE.DBGATT : Field := ⟨R.SYSC_MODE, 2, 2⟩
def F.SYSC_MODE.MODEACT : Field := ⟨R.SYSC_MODE, 1, 1⟩
def F.SYSC_MODE.COMMISSION : Field := ⟨R.SYSC_MODE, 0, 0⟩
def F.SYSC_WAKE.ALARM : Field := ⟨R.SYSC_WAKE, 1, 1⟩
def F.SYSC_WAKE.CAN : Field := ⟨R.SYSC_WAKE, 0, 0⟩
def F.SYSC_WAKEEN.ALARM : Field := ⟨R.SYSC_WAKEEN, 1, 1⟩
def F.SYSC_WAKEEN.CAN : Field := ⟨R.SYSC_WAKEEN, 0, 0⟩
def F.SYSC_BSEC.SECS : Field := ⟨R.SYSC_BSEC, 31, 0⟩
def F.SYSC_ALARM.SECS : Field := ⟨R.SYSC_ALARM, 31, 0⟩
def F.SYSC_CORESTART.START : Field := ⟨R.SYSC_CORESTART, 3, 1⟩
def F.SYSC_CENTRY.PC (n : Nat) : Field := ⟨(R.SYSC_CENTRY n), 31, 2⟩
def F.SYSC_RESET.KEY : Field := ⟨R.SYSC_RESET, 15, 0⟩
def F.SYSC_STRAP.TESTMODE : Field := ⟨R.SYSC_STRAP, 3, 2⟩
def F.SYSC_STRAP.ROLE : Field := ⟨R.SYSC_STRAP, 1, 0⟩
def F.TRU_REPORT.DATA (b w : Nat) : Field := ⟨(R.TRU_REPORT b w), 31, 0⟩
def F.TRU_CERT.DATA (w : Nat) : Field := ⟨(R.TRU_CERT w), 31, 0⟩
def F.TRU_FLDATA.DATA (w : Nat) : Field := ⟨(R.TRU_FLDATA w), 31, 0⟩

/-- The register rows of the CLK block. -/
def regRowsCLK : List RegRow := [
  ⟨0x40010000, [], 0x0, 1, 0x3, 0x0, 0x0⟩,
  ⟨0x40010004, [], 0x0, 1, 0x0, 0x0, 0x0⟩,
  ⟨0x40010010, [(0, 3, 0x8)], 0x0, 1, 0xC000FFFF, 0x0, 0x0⟩,
  ⟨0x40010014, [(0, 3, 0x8)], 0x0, 1, 0x3FFFFF, 0x0, 0x0⟩,
  ⟨0x40010030, [], 0x4000040, 1, 0xFFFFFF00, 0x0, 0x0⟩]

/-- The register rows of the STM block. -/
def regRowsSTM : List RegRow := [
  ⟨0x40020000, [], 0x0, 1, 0x0, 0x0, 0x0⟩,
  ⟨0x40020004, [], 0x0, 1, 0x0, 0x0, 0x0⟩,
  ⟨0x40020008, [], 0x0, 1, 0x0, 0x0, 0x0⟩,
  ⟨0x4002000C, [], 0x0, 1, 0xFFFFFFFF, 0x0, 0x0⟩,
  ⟨0x40020010, [], 0x0, 1, 0xFFFFFFFF, 0x0, 0x0⟩,
  ⟨0x40020014, [], 0x0, 1, 0x0, 0x0, 0x180⟩,
  ⟨0x40020018, [], 0x0, 1, 0x0, 0x0, 0x0⟩,
  ⟨0x4002001C, [], 0x0, 1, 0x0, 0x0, 0x0⟩,
  ⟨0x40020020, [], 0x0, 1, 0x0, 0x0, 0x0⟩,
  ⟨0x40020024, [], 0xFA0, 1, 0x0, 0x7FFFF, 0x0⟩,
  ⟨0x40020028, [], 0x0, 1, 0x0, 0xFFFFFFFF, 0x0⟩,
  ⟨0x4002002C, [], 0x0, 1, 0x0, 0xFFFFFFFF, 0x0⟩,
  ⟨0x40020030, [], 0x0, 1, 0x0, 0x0, 0x0⟩,
  ⟨0x40020034, [], 0x0, 1, 0x0, 0x0, 0x0⟩,
  ⟨0x40020038, [], 0x0, 1, 0x0, 0x0, 0x0⟩,
  ⟨0x40020040, [(0, 7, 0x8)], 0x0, 1, 0xFFFFFFFF, 0x0, 0x0⟩,
  ⟨0x40020044, [(0, 7, 0x8)], 0x0, 1, 0xC00000FF, 0x0, 0x30000000⟩]

/-- The register rows of the LNK block. -/
def regRowsLNK : List RegRow := [
  ⟨0x40090000, [], 0x0, 7, 0x3, 0x0, 0x0⟩,
  ⟨0x40090004, [], 0xC80, 7, 0x0, 0xFFFF, 0x0⟩,
  ⟨0x40090008, [], 0x0, 7, 0x0, 0x0, 0x0⟩,
  ⟨0x40090010, [(0, 3, 0x4)], 0x0, 7, 0x0, 0x0, 0x0⟩,
  ⟨0x40090020, [(0, 3, 0x4)], 0x0, 7, 0x0, 0x0, 0xFFFFFFFF⟩,
  ⟨0x40091000, [(1, 63, 0x40)], 0x0, 7, 0x0, 0xC3FFFFFF, 0x0⟩,
  ⟨0x40091000, [(65, 127, 0x40)], 0x0, 8, 0x0, 0xC3FFFFFF, 0x0⟩,
  ⟨0x40091004, [(1, 63, 0x40)], 0x1E, 7, 0x0, 0x1FFF, 0x0⟩,
  ⟨0x40091004, [(65, 127, 0x40)], 0x1E, 8, 0x0, 0x1FFF, 0x0⟩,
  ⟨0x40091008, [(1, 63, 0x40)], 0x0, 7, 0x0, 0x0, 0x0⟩,
  ⟨0x40091008, [(65, 127, 0x40)], 0x0, 8, 0x0, 0x0, 0x0⟩,
  ⟨0x4009100C, [(1, 63, 0x40)], 0x0, 7, 0x0, 0x0, 0x0⟩,
  ⟨0x4009100C, [(65, 127, 0x40)], 0x0, 8, 0x0, 0x0, 0x0⟩,
  ⟨0x40091010, [(1, 63, 0x40)], 0x0, 7, 0x0, 0x0, 0x0⟩,
  ⟨0x40091010, [(65, 127, 0x40)], 0x0, 8, 0x0, 0x0, 0x0⟩,
  ⟨0x40091014, [(1, 63, 0x40)], 0x0, 7, 0xFFFF, 0x0, 0x0⟩,
  ⟨0x40091014, [(65, 127, 0x40)], 0x0, 8, 0xFFFF, 0x0, 0x0⟩,
  ⟨0x40091018, [(1, 63, 0x40)], 0x0, 7, 0x0, 0x0, 0x0⟩,
  ⟨0x40091018, [(65, 127, 0x40)], 0x0, 8, 0x0, 0x0, 0x0⟩,
  ⟨0x4009101C, [(1, 63, 0x40)], 0x0, 7, 0x0, 0x0, 0x0⟩,
  ⟨0x4009101C, [(65, 127, 0x40)], 0x0, 8, 0x0, 0x0, 0x0⟩,
  ⟨0x40091020, [(1, 63, 0x40)], 0x0, 7, 0x0, 0x0, 0x0⟩,
  ⟨0x40091020, [(65, 127, 0x40)], 0x0, 8, 0x0, 0x0, 0x0⟩,
  ⟨0x40091024, [(1, 63, 0x40), (0, 3, 0x4)], 0x0, 7, 0x0, 0x0, 0x0⟩,
  ⟨0x40091024, [(65, 127, 0x40), (0, 3, 0x4)], 0x0, 8, 0x0, 0x0, 0x0⟩,
  ⟨0x40091034, [(1, 63, 0x40)], 0x0, 7, 0xFFFFFFF, 0x0, 0x0⟩,
  ⟨0x40091034, [(65, 127, 0x40)], 0x0, 8, 0xFFFFFFF, 0x0, 0x0⟩]

/-- The register rows of the CS block. -/
def regRowsCS : List RegRow := [
  ⟨0x40080000, [], 0x0, 6, 0x1, 0x0, 0x0⟩,
  ⟨0x40080004, [], 0x0, 6, 0x0, 0x1FFF1FFF, 0x0⟩,
  ⟨0x40080008, [], 0x0, 6, 0x0, 0x0, 0xC⟩,
  ⟨0x4008000C, [], 0x0, 6, 0x0, 0x0, 0x0⟩,
  ⟨0x40080010, [], 0x0, 6, 0x0, 0x0, 0x0⟩,
  ⟨0x40080014, [], 0x0, 6, 0x0, 0x0, 0x0⟩,
  ⟨0x40080018, [], 0x8040201, 6, 0x0, 0xFFFFFFFF, 0x0⟩,
  ⟨0x4008001C, [], 0x645028, 6, 0x0, 0xFFFFFFFF, 0x0⟩,
  ⟨0x40080020, [(1, 6, 0x4)], 0x0, 6, 0x0, 0xFFFFFFFF, 0x0⟩,
  ⟨0x40080100, [(0, 15, 0x40)], 0x0, 6, 0x0, 0xF7FFFFFF, 0x0⟩,
  ⟨0x40080104, [(0, 15, 0x40)], 0x0, 6, 0x0, 0x1FFFFFF, 0x0⟩,
  ⟨0x40080108, [(0, 15, 0x40)], 0x0, 6, 0x0, 0xFFFFFFFF, 0x0⟩,
  ⟨0x4008010C, [(0, 15, 0x40)], 0x0, 6, 0x0, 0xFFFFFFFF, 0x0⟩,
  ⟨0x40080110, [(0, 15, 0x40)], 0x0, 6, 0xFFFFFFFF, 0x0, 0x0⟩,
  ⟨0x40080114, [(0, 15, 0x40)], 0x0, 6, 0xC0FFFFFF, 0x0, 0x0⟩,
  ⟨0x40080118, [(0, 15, 0x40)], 0x0, 6, 0x0, 0x0, 0x70000⟩,
  ⟨0x4008011C, [(0, 15, 0x40)], 0x0, 6, 0x0, 0x0, 0x0⟩,
  ⟨0x40080120, [(0, 15, 0x40)], 0x0, 6, 0x0, 0x0, 0x0⟩,
  ⟨0x40080124, [(0, 15, 0x40)], 0x0, 6, 0x0, 0x0, 0x0⟩,
  ⟨0x40080128, [(0, 15, 0x40)], 0x0, 6, 0x0, 0x0, 0x0⟩,
  ⟨0x4008012C, [(0, 15, 0x40)], 0x0, 6, 0x0, 0x0, 0x0⟩,
  ⟨0x40080130, [(0, 15, 0x40)], 0x0, 6, 0x0, 0x0, 0x0⟩,
  ⟨0x40080134, [(0, 15, 0x40)], 0x0, 6, 0x0, 0x0, 0x0⟩,
  ⟨0x40080600, [(0, 63, 0x8)], 0x0, 6, 0x0, 0x800001FF, 0x0⟩,
  ⟨0x40080604, [(0, 63, 0x8)], 0x0, 6, 0xFFFFFFFF, 0x0, 0x0⟩,
  ⟨0x40080A00, [(1, 63, 0x4)], 0x0, 6, 0xFFFF, 0x0, 0x0⟩,
  ⟨0x40080A00, [(65, 127, 0x4)], 0x0, 6, 0xFFFF, 0x0, 0x0⟩]

/-- The register rows of the CE block. -/
def regRowsCE : List RegRow := [
  ⟨0x40070000, [], 0x0, 5, 0x3, 0x0, 0x0⟩,
  ⟨0x40070004, [], 0x0, 5, 0x0, 0x0, 0x1E⟩,
  ⟨0x40070008, [], 0x0, 5, 0x0, 0x7FFFF, 0x0⟩,
  ⟨0x4007000C, [], 0x0, 5, 0x0, 0x7FFFF, 0x0⟩,
  ⟨0x40070010, [], 0x0, 5, 0x0, 0x0, 0xC000000⟩,
  ⟨0x40070014, [(0, 1, 0x4)], 0x0, 5, 0x0, 0xFFFFFFFF, 0x0⟩,
  ⟨0x4007001C, [], 0x0, 5, 0x3FFF3FFF, 0x0, 0x0⟩,
  ⟨0x40070020, [], 0x0, 5, 0x0, 0x7, 0x0⟩,
  ⟨0x40070024, [], 0x0, 5, 0x0, 0xFFF0FFF, 0x0⟩,
  ⟨0x40070028, [], 0x0, 5, 0x0, 0x3FF01FF, 0x0⟩,
  ⟨0x4007002C, [], 0x0, 5, 0x0, 0xFFFFFFFF, 0x0⟩,
  ⟨0x40070030, [(0, 3, 0x4)], 0x0, 5, 0x0, 0x1FFF, 0x0⟩,
  ⟨0x40070040, [], 0x0, 5, 0x0, 0x0, 0x0⟩,
  ⟨0x40070044, [], 0x0, 5, 0x0, 0x0, 0x0⟩,
  ⟨0x40070080, [(0, 15, 0x4)], 0x0, 5, 0x0, 0x0, 0x0⟩,
  ⟨0x400700C0, [(0, 15, 0x4)], 0x0, 5, 0x0, 0x0, 0xFFFFFFFF⟩,
  ⟨0x40070100, [(0, 7, 0x4)], 0x8000, 5, 0x0, 0xFFF0000, 0x0⟩,
  ⟨0x40070120, [], 0x0, 5, 0x0, 0xFFFFFFFF, 0x0⟩,
  ⟨0x40070124, [], 0x0, 5, 0x0, 0xFFFFFFFF, 0x0⟩,
  ⟨0x40070140, [(0, 7, 0x8)], 0x0, 5, 0x0, 0x0, 0x0⟩,
  ⟨0x40070144, [(0, 7, 0x8)], 0x0, 5, 0x0, 0x0, 0x0⟩,
  ⟨0x40070200, [(0, 3, 0x20)], 0x0, 5, 0x40000000, 0xBFFFFFFF, 0x0⟩,
  ⟨0x40070204, [(0, 3, 0x20)], 0x0, 5, 0x0, 0x7FFF7FFF, 0x0⟩,
  ⟨0x40070208, [(0, 3, 0x20)], 0x0, 5, 0x0, 0xFFFFFFFF, 0x0⟩,
  ⟨0x4007020C, [(0, 3, 0x20)], 0x7D0, 5, 0xFFFF, 0x0, 0x0⟩,
  ⟨0x40070210, [(0, 3, 0x20)], 0x0, 5, 0x0, 0x0, 0x0⟩,
  ⟨0x40070214, [(0, 3, 0x20)], 0x0, 5, 0x0, 0x0, 0x0⟩,
  ⟨0x40070218, [(0, 3, 0x20)], 0x0, 5, 0x0, 0x0, 0x0⟩,
  ⟨0x4007021C, [(0, 3, 0x20)], 0x0, 5, 0x0, 0x0, 0x0⟩]

/-- The register rows of the ADM block. -/
def regRowsADM : List RegRow := [
  ⟨0x40000800, [], 0x0, 3, 0x0, 0x0, 0x0⟩,
  ⟨0x40000804, [], 0x0, 3, 0x0, 0x0, 0x0⟩,
  ⟨0x40000808, [], 0x0, 3, 0x0, 0x0, 0x0⟩,
  ⟨0x4000080C, [], 0x0, 3, 0x0, 0x0, 0x0⟩,
  ⟨0x40000810, [(0, 4, 0x4)], 0x0, 3, 0x0, 0x0, 0xFFFFFFFF⟩,
  ⟨0x40000830, [(0, 3, 0x4)], 0x0, 3, 0x0, 0x0, 0xFFFFFFFF⟩]

/-- The register rows of the VIC block. -/
def regRowsVIC : List RegRow := [
  ⟨0x40030000, [], 0x0, 3, 0x1, 0x0, 0x0⟩,
  ⟨0x40030004, [], 0x0, 3, 0xFFFFFFFF, 0x0, 0x0⟩,
  ⟨0x40030008, [], 0x0, 3, 0x0, 0x0, 0x0⟩,
  ⟨0x4003000C, [], 0x0, 3, 0x0, 0x0, 0x0⟩,
  ⟨0x40030010, [], 0x0, 3, 0x0, 0x7, 0x0⟩,
  ⟨0x40030020, [(0, 4, 0x4)], 0x100400, 3, 0x0, 0xFFFFFC00, 0x0⟩,
  ⟨0x40030040, [(0, 4, 0x4)], 0x0, 3, 0x0, 0x0, 0x0⟩,
  ⟨0x40030060, [], 0x0, 3, 0x0, 0x0, 0x0⟩,
  ⟨0x40030080, [(0, 7, 0x4)], 0x0, 3, 0x0, 0x0, 0x0⟩,
  ⟨0x400300A0, [(0, 7, 0x4)], 0x0, 3, 0x0, 0x0, 0x0⟩,
  ⟨0x400300C0, [(0, 7, 0x4)], 0x0, 3, 0x0, 0x0, 0x0⟩,
  ⟨0x40030400, [(1, 255, 0x4)], 0x0, 3, 0x80000000, 0x1F000F, 0x0⟩]

/-- The register rows of the HQ block. -/
def regRowsHQ : List RegRow := [
  ⟨0x40040000, [], 0x0, 3, 0x1, 0x0, 0x0⟩,
  ⟨0x40040004, [], 0x0, 3, 0x0, 0x0, 0x0⟩,
  ⟨0x40040100, [(0, 31, 0x20)], 0x0, 3, 0x0, 0x8F00FFFF, 0x0⟩,
  ⟨0x40040104, [(0, 31, 0x20)], 0x0, 3, 0x0, 0x1F001F, 0x0⟩,
  ⟨0x40040108, [(0, 31, 0x20)], 0x0, 3, 0x80001FFF, 0x0, 0x0⟩,
  ⟨0x4004010C, [(0, 31, 0x20)], 0x10000000, 3, 0x0, 0x0, 0x40000000⟩,
  ⟨0x40040110, [(0, 31, 0x20)], 0x0, 3, 0x0, 0x0, 0x0⟩,
  ⟨0x40040114, [(0, 31, 0x20)], 0x0, 3, 0x0, 0x0, 0x0⟩,
  ⟨0x40041000, [(0, 63, 0x4)], 0xF, 3, 0x0, 0x0, 0x0⟩,
  ⟨0x40042000, [(1, 63, 0x4)], 0x0, 3, 0x0, 0x7, 0x0⟩,
  ⟨0x40042000, [(65, 127, 0x4)], 0x0, 3, 0x0, 0x7, 0x0⟩]

/-- The register rows of the RNG block. -/
def regRowsRNG : List RegRow := [
  ⟨0x400A0000, [], 0x0, 9, 0x7, 0x0, 0x0⟩,
  ⟨0x400A0004, [], 0x0, 9, 0x0, 0x0, 0x48000⟩,
  ⟨0x400A0008, [], 0x0, 9, 0x10000FF, 0x0, 0x0⟩,
  ⟨0x400A000C, [], 0x0, 9, 0x0, 0x0, 0x0⟩,
  ⟨0x400A0010, [], 0x0, 9, 0x0, 0x0, 0x0⟩,
  ⟨0x400A0014, [], 0x0, 9, 0x0, 0x0, 0x0⟩,
  ⟨0x400A0018, [], 0x0, 9, 0x0, 0x0, 0x0⟩,
  ⟨0x400A001C, [], 0x0, 9, 0xFFFFFFFF, 0x0, 0x0⟩,
  ⟨0x400A0020, [(0, 1, 0x4)], 0x0, 9, 0x0, 0x0, 0x0⟩,
  ⟨0x400A0028, [(0, 1, 0x4)], 0x0, 9, 0x0, 0x0, 0x0⟩,
  ⟨0x400A0030, [], 0x0, 9, 0x0, 0x0, 0x0⟩,
  ⟨0x400A0034, [], 0x0, 9, 0x0, 0x0, 0x0⟩,
  ⟨0x400A0038, [], 0x0, 9, 0x0, 0x0, 0x0⟩,
  ⟨0x400A003C, [], 0x0, 9, 0x0, 0x0, 0x0⟩,
  ⟨0x400A0040, [(0, 1, 0x4)], 0x0, 9, 0x0, 0x0, 0x0⟩,
  ⟨0x400A0048, [], 0x0, 9, 0x0, 0x0, 0x0⟩,
  ⟨0x400A004C, [], 0x0, 9, 0x0, 0x0, 0x0⟩,
  ⟨0x400A0050, [], 0x0, 9, 0x0, 0x0, 0x0⟩,
  ⟨0x400A0054, [], 0x0, 9, 0x0, 0x0, 0x0⟩,
  ⟨0x400A0058, [], 0x0, 9, 0x0, 0x0, 0x0⟩,
  ⟨0x400A005C, [], 0x0, 9, 0x0, 0x1FF, 0x0⟩,
  ⟨0x400A0060, [], 0x0, 9, 0x0, 0xFFFFFFFF, 0x0⟩,
  ⟨0x400A0064, [], 0x0, 9, 0x0, 0xFFFFFFFF, 0x0⟩,
  ⟨0x400A0070, [], 0x0, 9, 0x3FC000, 0x0, 0x0⟩,
  ⟨0x400A0080, [(0, 11, 0x4)], 0x0, 9, 0xFFFFFFFF, 0x0, 0x0⟩,
  ⟨0x400A0100, [(0, 63, 0x8)], 0x0, 9, 0x0, 0x0, 0x0⟩,
  ⟨0x400A0104, [(0, 63, 0x8)], 0x0, 9, 0x0, 0x0, 0x0⟩]

/-- The register rows of the BRP block. -/
def regRowsBRP : List RegRow := [
  ⟨0x400B0000, [], 0x0, 11, 0x1, 0x0, 0x0⟩,
  ⟨0x400B0004, [], 0x0, 11, 0x0, 0x0, 0x0⟩,
  ⟨0x400B0008, [], 0x0, 11, 0x0, 0x0, 0x0⟩,
  ⟨0x400B000C, [], 0x0, 11, 0x0, 0x0, 0x0⟩,
  ⟨0x400B0010, [], 0x0, 11, 0x0, 0x0, 0x0⟩,
  ⟨0x400B0014, [], 0x0, 11, 0x0, 0x0, 0x0⟩,
  ⟨0x400B0018, [], 0x0, 11, 0x0, 0x0, 0x0⟩,
  ⟨0x400B001C, [], 0x0, 11, 0x0, 0x0, 0x0⟩,
  ⟨0x400B0020, [], 0x0, 11, 0x0, 0x0, 0x0⟩,
  ⟨0x400B0040, [(0, 7, 0x4)], 0x0, 11, 0x0, 0xF8FFFFFF, 0x0⟩,
  ⟨0x400B0100, [(0, 7, 0x40)], 0x0, 11, 0x0, 0xFBFFFFFF, 0x0⟩,
  ⟨0x400B0104, [(0, 7, 0x40)], 0x0, 11, 0x0, 0xFFFFFFFF, 0x0⟩,
  ⟨0x400B0108, [(0, 7, 0x40)], 0x0, 11, 0x0, 0xFFFF, 0x0⟩,
  ⟨0x400B010C, [(0, 7, 0x40)], 0x0, 11, 0x0, 0x1FFFFFF, 0x0⟩,
  ⟨0x400B0110, [(0, 7, 0x40)], 0x0, 11, 0xFFFFFF, 0x0, 0x0⟩,
  ⟨0x400B0114, [(0, 7, 0x40)], 0x0, 11, 0xFFFFFF, 0x0, 0x0⟩,
  ⟨0x400B0118, [(0, 7, 0x40)], 0x0, 11, 0x0, 0x0, 0x0⟩,
  ⟨0x400B011C, [(0, 7, 0x40)], 0x0, 11, 0x0, 0x0, 0x0⟩,
  ⟨0x400B0120, [(0, 7, 0x40)], 0x0, 11, 0x0, 0x0, 0x0⟩,
  ⟨0x400B0124, [(0, 7, 0x40)], 0x0, 11, 0x0, 0x0, 0x140000⟩,
  ⟨0x400B0128, [(0, 7, 0x40)], 0x0, 11, 0x7F, 0x0, 0x0⟩,
  ⟨0x400B012C, [(0, 7, 0x40)], 0x0, 11, 0x0, 0x0, 0x0⟩,
  ⟨0x400B0130, [(0, 7, 0x40)], 0x0, 11, 0x0, 0x0, 0x0⟩,
  ⟨0x400B0134, [(0, 7, 0x40)], 0x0, 11, 0x0, 0x80FFFFFF, 0x0⟩]

/-- The register rows of the MSR block. -/
def regRowsMSR : List RegRow := [
  ⟨0x400C0000, [], 0x0, 11, 0x7F, 0x0, 0x0⟩,
  ⟨0x400C0004, [], 0x0, 11, 0x0, 0x0, 0x82⟩,
  ⟨0x400C0008, [], 0x0, 11, 0xFE, 0x0, 0x0⟩,
  ⟨0x400C000C, [], 0xA3643264, 11, 0x0, 0xFFFFFFFF, 0x0⟩,
  ⟨0x400C0010, [], 0x10C6F8, 11, 0x0, 0xFFFFFFFF, 0x0⟩,
  ⟨0x400C0014, [(0, 1, 0x4)], 0x0, 11, 0x0, 0x0, 0x0⟩,
  ⟨0x400C0020, [], 0x0, 11, 0x0, 0x0, 0x0⟩,
  ⟨0x400C0024, [], 0x0, 11, 0x0, 0x0, 0x0⟩,
  ⟨0x400C0028, [], 0x0, 11, 0xFFFFFFFF, 0x0, 0x0⟩,
  ⟨0x400C002C, [], 0x0, 11, 0x0, 0x0, 0x0⟩,
  ⟨0x400C0030, [], 0x0, 11, 0x7FFFFF, 0x0, 0x80000000⟩,
  ⟨0x400C0034, [], 0x0, 11, 0x0, 0x0, 0x0⟩,
  ⟨0x400C0038, [], 0x0, 11, 0x0, 0x0, 0x0⟩,
  ⟨0x400C003C, [], 0x1F4, 11, 0xFFF, 0x0, 0x0⟩,
  ⟨0x400C0040, [(0, 3, 0x4)], 0x0, 11, 0x0, 0x0, 0x0⟩,
  ⟨0x400C0080, [(0, 31, 0x4)], 0x0, 11, 0x0, 0xC00FFF0F, 0x0⟩,
  ⟨0x400C0100, [(0, 7, 0x4)], 0x0, 11, 0x0, 0xE7000000, 0x0⟩,
  ⟨0x400C0120, [(0, 7, 0x4)], 0x0, 11, 0xFF, 0xC0FF0000, 0x0⟩,
  ⟨0x400C0140, [(0, 15, 0x4)], 0x0, 11, 0x0, 0x87FFFFFF, 0x0⟩,
  ⟨0x400C0200, [(0, 63, 0x4)], 0x40000000, 11, 0x0, 0x0, 0x0⟩]

/-- The register rows of the FCU block. -/
def regRowsFCU : List RegRow := [
  ⟨0x40050000, [], 0x3, 2, 0x7, 0x0, 0x300⟩,
  ⟨0x40050004, [], 0x0, 2, 0x0, 0x0, 0xFFFFFFFF⟩,
  ⟨0x40050008, [], 0x0, 2, 0x0, 0x0, 0xFFFFFFFF⟩,
  ⟨0x4005000C, [], 0x0, 2, 0x0, 0x0, 0x0⟩,
  ⟨0x40050010, [], 0x0, 2, 0x0, 0x0, 0x0⟩,
  ⟨0x40050014, [], 0x0, 2, 0x0, 0x0, 0x80000000⟩,
  ⟨0x40050018, [], 0x0, 2, 0x0, 0x0, 0x0⟩,
  ⟨0x4005001C, [], 0x0, 2, 0x0, 0x0, 0x0⟩,
  ⟨0x40050020, [], 0x0, 2, 0x0, 0x0, 0x0⟩,
  ⟨0x40050024, [], 0x0, 2, 0xFFFFFFFF, 0x0, 0x0⟩,
  ⟨0x40050028, [], 0x0, 2, 0x0, 0x0, 0x0⟩,
  ⟨0x4005002C, [], 0x0, 2, 0x0, 0x0, 0x0⟩,
  ⟨0x40050030, [], 0x0, 2, 0x80000000, 0x0, 0x40000000⟩,
  ⟨0x40050034, [], 0x0, 0, 0x0, 0x0, 0x0⟩,
  ⟨0x40050038, [], 0x0, 2, 0x0, 0x0, 0x0⟩,
  ⟨0x40050040, [(0, 4, 0x8)], 0x0, 2, 0xFFFFFFFF, 0x0, 0x0⟩,
  ⟨0x40050044, [(0, 4, 0x8)], 0x0, 2, 0x0, 0x0, 0x0⟩,
  ⟨0x40050080, [], 0x0, 2, 0x0, 0x0, 0x0⟩,
  ⟨0x40050084, [], 0x0, 0, 0x0, 0x0, 0x0⟩,
  ⟨0x40050088, [], 0x0, 0, 0x0, 0x0, 0x0⟩,
  ⟨0x4005008C, [], 0x0, 2, 0x0, 0x0, 0x0⟩,
  ⟨0x400500A0, [(0, 4, 0x4)], 0x0, 2, 0x0, 0xFFFF, 0x40000000⟩,
  ⟨0x40050100, [(0, 63, 0x4)], 0x0, 2, 0x0, 0x80000007, 0x0⟩]

/-- The register rows of the SFU block. -/
def regRowsSFU : List RegRow := [
  ⟨0x40060000, [], 0x0, 2, 0xF, 0x0, 0x0⟩,
  ⟨0x40060004, [], 0x300000, 2, 0x0, 0x0, 0x5001000⟩,
  ⟨0x40060008, [], 0x0, 2, 0x0, 0x0, 0x0⟩,
  ⟨0x4006000C, [], 0xA080000, 2, 0x0, 0xFFFF0004, 0x0⟩,
  ⟨0x40060010, [], 0x23, 2, 0x0, 0xFF, 0x0⟩,
  ⟨0x40060014, [], 0x1111, 2, 0x0, 0xFFFF, 0x0⟩,
  ⟨0x40060018, [], 0x7080, 2, 0x0, 0x3FFFF, 0x0⟩,
  ⟨0x4006001C, [], 0x7080, 2, 0x0, 0x0, 0x0⟩,
  ⟨0x40060020, [], 0x5A5AA5A5, 2, 0xFFFFFFFF, 0x0, 0x0⟩,
  ⟨0x40060024, [], 0x4, 2, 0x0, 0xFF, 0x0⟩,
  ⟨0x40060028, [], 0x146404, 2, 0x0, 0xE01FFFFF, 0x0⟩,
  ⟨0x4006002C, [(0, 1, 0x4)], 0x0, 2, 0x0, 0xFFFFFFFF, 0x0⟩,
  ⟨0x40060034, [], 0x0, 2, 0x0, 0x0, 0x0⟩,
  ⟨0x40060038, [], 0x0, 2, 0xFFFFF000, 0x0, 0x0⟩,
  ⟨0x4006003C, [], 0x0, 2, 0x0, 0x0, 0x0⟩,
  ⟨0x40060040, [(0, 12, 0x4)], 0x0, 2, 0xFFFFFFFF, 0x0, 0x0⟩,
  ⟨0x40060080, [(0, 5, 0x8)], 0x0, 2, 0x0, 0x80FF01FF, 0x0⟩,
  ⟨0x40060084, [(0, 5, 0x8)], 0x0, 2, 0x0, 0x0, 0x40000000⟩,
  ⟨0x40060100, [(0, 5, 0x20)], 0x0, 2, 0x0, 0xFFF00000, 0x0⟩,
  ⟨0x40060104, [(0, 5, 0x20)], 0x0, 2, 0x0, 0xFFFFFF, 0x0⟩,
  ⟨0x40060108, [(0, 5, 0x20), (0, 3, 0x4)], 0x0, 2, 0x0, 0xFFFFFFFF, 0x0⟩,
  ⟨0x40060118, [(0, 5, 0x20)], 0x0, 2, 0x0, 0x0, 0x0⟩]

/-- The register rows of the ETH block. -/
def regRowsETH : List RegRow := [
  ⟨0x400D0000, [], 0x0, 10, 0x0, 0x0, 0x0⟩,
  ⟨0x400D0004, [], 0x0, 10, 0xFFFFFFFF, 0x0, 0x0⟩,
  ⟨0x400D0008, [], 0x0, 10, 0xFFFFFFFF, 0x0, 0x0⟩,
  ⟨0x400D000C, [], 0x0, 10, 0xFFFFFFFF, 0x0, 0x0⟩,
  ⟨0x400D0010, [], 0x0, 10, 0xFFFFFFFF, 0x0, 0x0⟩,
  ⟨0x400D0014, [], 0x0, 10, 0xFFFFFFFF, 0x0, 0x0⟩,
  ⟨0x400D0018, [], 0x0, 10, 0x0, 0x0, 0x0⟩,
  ⟨0x400D001C, [], 0x0, 10, 0x0, 0x0, 0x0⟩,
  ⟨0x400D0020, [], 0x0, 10, 0xFFFF, 0x0, 0x0⟩,
  ⟨0x400D0024, [], 0x190, 10, 0xFFF, 0x0, 0x0⟩,
  ⟨0x400D1000, [(0, 1, 0x400)], 0x10000000, 10, 0xFFC00000, 0x0, 0x0⟩,
  ⟨0x400D1004, [(0, 1, 0x400)], 0x0, 10, 0x0, 0x0, 0x9000000⟩,
  ⟨0x400D1008, [(0, 1, 0x400)], 0x0, 10, 0xFF000000, 0x0, 0x0⟩,
  ⟨0x400D100C, [(0, 1, 0x400)], 0x0, 10, 0xFFFFFFFF, 0x0, 0x0⟩,
  ⟨0x400D1010, [(0, 1, 0x400)], 0x0, 10, 0xFFFF, 0x0, 0x0⟩,
  ⟨0x400D1014, [(0, 1, 0x400)], 0x0, 10, 0xFFFFFFFF, 0x0, 0x0⟩,
  ⟨0x400D1018, [(0, 1, 0x400)], 0x0, 10, 0xFFFFFFFF, 0x0, 0x0⟩,
  ⟨0x400D1020, [(0, 1, 0x400), (0, 7, 0x4)], 0x0, 10, 0x80000FFF, 0x0, 0x0⟩,
  ⟨0x400D1040, [(0, 1, 0x400)], 0x0, 10, 0xFFFFFFFF, 0x0, 0x0⟩,
  ⟨0x400D1048, [(0, 1, 0x400)], 0x0, 10, 0xFFFFFFFF, 0x0, 0x0⟩,
  ⟨0x400D1044, [(0, 1, 0x400)], 0xC8, 10, 0xFFFF, 0x0, 0x0⟩,
  ⟨0x400D104C, [(0, 1, 0x400)], 0x0, 10, 0xFFF, 0x0, 0x0⟩,
  ⟨0x400D1050, [(0, 1, 0x400)], 0x0, 10, 0x0, 0x0, 0x0⟩,
  ⟨0x400D1054, [(0, 1, 0x400)], 0x88B5, 10, 0xFFFF, 0x0, 0x0⟩,
  ⟨0x400D1058, [(0, 1, 0x400)], 0x0, 10, 0x0, 0x0, 0x0⟩,
  ⟨0x400D1064, [(0, 1, 0x400), (0, 1, 0x4)], 0x0, 10, 0x0, 0x0, 0x0⟩,
  ⟨0x400D106C, [(0, 1, 0x400)], 0x0, 10, 0x0, 0x0, 0x0⟩,
  ⟨0x400D1070, [(0, 1, 0x400)], 0x0, 10, 0xFFF0FFFF, 0x0, 0x0⟩]

/-- The register rows of the TPO block. -/
def regRowsTPO : List RegRow := [
  ⟨0x400D0040, [(0, 1, 0x10)], 0x0, 10, 0xE0FFFFFF, 0x0, 0x0⟩,
  ⟨0x400D0044, [(0, 1, 0x10)], 0x0, 10, 0xFFFFFFFF, 0x0, 0x0⟩,
  ⟨0x400D0048, [(0, 1, 0x10)], 0x0, 10, 0xFF, 0x0, 0x0⟩]

/-- The register rows of the CAN block. -/
def regRowsCAN : List RegRow := [
  ⟨0x400E0000, [(0, 1, 0x100)], 0x0, 10, 0xF8000000, 0x0, 0x4000000⟩,
  ⟨0x400E0004, [(0, 1, 0x100)], 0x0, 10, 0xFFFFFF7F, 0x0, 0x0⟩,
  ⟨0x400E0008, [(0, 1, 0x100)], 0x0, 10, 0xFFFFF800, 0x0, 0x0⟩,
  ⟨0x400E000C, [(0, 1, 0x100)], 0x0, 10, 0x7F0000, 0x0, 0x80000000⟩,
  ⟨0x400E0010, [(0, 1, 0x100)], 0x0, 10, 0x0, 0x0, 0x5000000⟩,
  ⟨0x400E0014, [(0, 1, 0x100)], 0x0, 10, 0x0, 0x0, 0x0⟩,
  ⟨0x400E0018, [(0, 1, 0x100)], 0x0, 10, 0x0, 0x0, 0x0⟩,
  ⟨0x400E001C, [(0, 1, 0x100)], 0x0, 10, 0x0, 0x0, 0x80000000⟩,
  ⟨0x400E0020, [(0, 1, 0x100)], 0x0, 10, 0x0, 0x0, 0x0⟩,
  ⟨0x400E0024, [(0, 1, 0x100)], 0x0, 10, 0xFFFFFFFF, 0x0, 0x0⟩,
  ⟨0x400E0028, [(0, 1, 0x100)], 0x0, 10, 0xFFFFFFFF, 0x0, 0x0⟩,
  ⟨0x400E002C, [(0, 1, 0x100)], 0x0, 10, 0x7FFF, 0x0, 0x0⟩,
  ⟨0x400E0030, [(0, 1, 0x100)], 0x0, 10, 0x0, 0x0, 0x0⟩,
  ⟨0x400E0034, [(0, 1, 0x100)], 0x0, 10, 0xFF000000, 0x0, 0x0⟩,
  ⟨0x400E0040, [(0, 1, 0x100)], 0x0, 10, 0xDFFFFFFF, 0x0, 0x0⟩,
  ⟨0x400E0044, [(0, 1, 0x100)], 0x0, 10, 0x1FFFFFFF, 0x0, 0x0⟩,
  ⟨0x400E0048, [(0, 1, 0x100)], 0x0, 10, 0xFFFFFFFF, 0x0, 0x0⟩,
  ⟨0x400E004C, [(0, 1, 0x100)], 0x0, 10, 0xFFFFFFFF, 0x0, 0x0⟩,
  ⟨0x400E0050, [(0, 1, 0x100)], 0x0, 10, 0x8000000F, 0x0, 0x0⟩,
  ⟨0x400E0800, [], 0x0, 0, 0x7, 0x0, 0x0⟩,
  ⟨0x400E0804, [], 0x0, 0, 0x0, 0x0, 0x3F⟩]

/-- The register rows of the TRU block. -/
def regRowsTRU : List RegRow := [
  ⟨0x400F0000, [], 0x0, 2, 0x7, 0x0, 0x0⟩,
  ⟨0x400F0004, [], 0x0, 2, 0x0, 0x0, 0x20000007⟩,
  ⟨0x400F0008, [], 0x0, 2, 0xBFFF0000, 0x0, 0x0⟩,
  ⟨0x400F000C, [], 0x0, 0, 0x50000000, 0x0, 0x0⟩,
  ⟨0x400F0010, [], 0x0, 0, 0x0, 0x0, 0x0⟩,
  ⟨0x400F0014, [], 0x0, 2, 0x0, 0x0, 0x0⟩,
  ⟨0x400F0018, [], 0x0, 2, 0x0, 0x0, 0x18000000⟩,
  ⟨0x400F001C, [], 0x0, 2, 0xFFFFFFFF, 0x0, 0x0⟩,
  ⟨0x400F0020, [], 0x0, 2, 0x0, 0x0, 0x0⟩,
  ⟨0x400F0024, [], 0x0, 2, 0x0, 0x0, 0x0⟩,
  ⟨0x400F0028, [], 0x0, 2, 0x0, 0x0, 0x0⟩,
  ⟨0x400F0040, [(0, 11, 0x4)], 0x0, 2, 0xFFFFFFFF, 0x0, 0x0⟩,
  ⟨0x400F0080, [(0, 1, 0x40)], 0x0, 2, 0x0, 0x0, 0x40000000⟩,
  ⟨0x400F0084, [(0, 1, 0x40), (0, 7, 0x4)], 0x0, 2, 0xFFFFFFFF, 0x0, 0x0⟩,
  ⟨0x400F0100, [(0, 7, 0x40), (0, 11, 0x4)], 0x0, 2, 0x0, 0x0, 0x0⟩,
  ⟨0x400F0400, [(0, 1, 0x400), (0, 151, 0x4)], 0x0, 2, 0x0, 0x0, 0x0⟩,
  ⟨0x400F1000, [(0, 511, 0x4)], 0x0, 2, 0x0, 0x0, 0x0⟩,
  ⟨0x400F2000, [(0, 63, 0x4)], 0x0, 2, 0xFFFFFFFF, 0x0, 0x0⟩]

/-- The register rows of the HPD block. -/
def regRowsHPD : List RegRow := [
  ⟨0x40100000, [], 0x0, 3, 0x0, 0x0, 0x3E⟩,
  ⟨0x40100004, [], 0x0, 3, 0x3E, 0x0, 0x0⟩,
  ⟨0x40100008, [], 0x0, 3, 0x0, 0x0, 0x0⟩,
  ⟨0x4010000C, [], 0x0, 3, 0x0, 0x0, 0x0⟩,
  ⟨0x40100010, [], 0x0, 3, 0x0, 0x0, 0x0⟩,
  ⟨0x40100014, [], 0x0, 3, 0x0, 0x0, 0x0⟩]

/-- The register rows of the SYSC block. -/
def regRowsSYSC : List RegRow := [
  ⟨0x40000000, [], 0x0, 0, 0x0, 0x0, 0x0⟩,
  ⟨0x40000004, [], 0x20000001, 0, 0x0, 0x0, 0x4000000⟩,
  ⟨0x40000008, [], 0x0, 0, 0x1, 0x0, 0x0⟩,
  ⟨0x4000000C, [], 0x0, 0, 0x1, 0x0, 0x0⟩,
  ⟨0x40000010, [], 0x0, 0, 0x0, 0x0, 0x2⟩,
  ⟨0x40000014, [], 0x0, 0, 0x3, 0x0, 0x0⟩,
  ⟨0x40000018, [], 0x0, 0, 0x0, 0x0, 0x0⟩,
  ⟨0x4000001C, [], 0x0, 0, 0xFFFFFFFF, 0x0, 0x0⟩,
  ⟨0x40000020, [], 0x0, 3, 0x0, 0x0, 0x0⟩,
  ⟨0x40000020, [(1, 3, 0x4)], 0x0, 3, 0xFFFFFFFC, 0x0, 0x0⟩,
  ⟨0x40000030, [], 0x0, 0, 0x0, 0x0, 0x0⟩,
  ⟨0x40000034, [], 0x0, 0, 0x0, 0x0, 0x0⟩]

/-- The register tables by window (00 R13: one 64 KB window per block; ADM stands in the SYSC window and TPO in the
ETH window). -/
def regRowsOf (w : Nat) : List RegRow :=
  match w with
  | 0 => regRowsSYSC ++ regRowsADM
  | 1 => regRowsCLK
  | 2 => regRowsSTM
  | 3 => regRowsVIC
  | 4 => regRowsHQ
  | 5 => regRowsFCU
  | 6 => regRowsSFU
  | 7 => regRowsCE
  | 8 => regRowsCS
  | 9 => regRowsLNK
  | 10 => regRowsRNG
  | 11 => regRowsBRP
  | 12 => regRowsMSR
  | 13 => regRowsETH ++ regRowsTPO
  | 14 => regRowsCAN
  | 15 => regRowsTRU
  | 16 => regRowsHPD
  | _ => []

/-- The index of a register address in one dimension list: true when some choice of indices gives the offset. -/
def dimsHit : List (Nat × Nat × Nat) → Nat → Bool
  | [], off => off == 0
  | (lo, hi, st) :: ds, off =>
    decide (lo ≤ off / st) && decide (off / st ≤ hi) && dimsHit ds (off % st)

/-- The row that holds a register address, if the address is a register (00 R12: a reserved offset is none). -/
def regRow? (a : Nat) : Option RegRow :=
  if 0x40000000 ≤ a ∧ a < 0x40110000 then
    (regRowsOf ((a - 0x40000000) / 0x10000)).find? fun r =>
      decide (r.base ≤ a) && dimsHit r.dims (a - r.base)
  else none

/-- The reset value of FCU_REACTs (12 R354, R356, R366): source s at ERREN [31], CLASS [10:8] and REACT [2:0]. -/
def reactReset (s : Nat) : Word :=
  let cls : Nat :=
    if s = 2 ∨ s = 5 then 4
    else if s < 11 ∨ s = 17 ∨ s = 24 ∨ s = 26 ∨ s = 28 then 3
    else if s = 19 ∨ s = 29 ∨ s = 30 ∨ 32 ≤ s then 1 else 2
  let react : Nat :=
    if s = 2 ∨ s = 5 then 4 else if s < 8 ∨ s = 28 then 2 else if s < 32 then 1 else 0
  BitVec.ofNat 32 ((if s < 8 then 0x80000000 else 0) + cls * 0x100 + react)

/-- The value a register reads right after the power-up of its domain (the reset column of the register tables). -/
def regReset (a : Nat) : Word :=
  if R.FCU_REACT 0 ≤ a ∧ a ≤ R.FCU_REACT 63 ∧ a % 4 = 0 then reactReset ((a - R.FCU_REACT 0) / 4)
  else match regRow? a with
    | some r => r.reset
    | none => 0

/-- The power domain that holds a register (16 R454); 12 for an address that is no register. -/
def regDom (a : Nat) : Nat :=
  match regRow? a with
  | some r => r.dom
  | none => 12

end Sys2Proof.Machine
end

