-- ==== Sys2Proof/Machine/Table.lean ====
section
/-! DEFINITION. Sparse tables: a list of (key, value) pairs in ONE canonical form, keys strictly rising and no entry
equal to what an unlisted key reads as (`d`, the default). Memory, the registers and every indexed piece of state are
held so; writing the default value removes the entry, so that equal contents are equal lists. -/

namespace Sys2Proof.Machine

/-- A sparse table from keys to values. -/
abbrev Tbl (α : Type) := List (Nat × α)

/-- The value at a key: the listed one, or the default. -/
def tblGet {α : Type} (d : Nat → α) : Tbl α → Nat → α
  | [], k => d k
  | (j, v) :: t, k => if j = k then v else tblGet d t k

/-- The table without any entry of key `k`. -/
def tblDel {α : Type} (t : Tbl α) (k : Nat) : Tbl α := t.filter fun e => decide (e.1 ≠ k)

/-- The table with `v` at key `k`, in canonical form: the keys below `k` stay in front, and no other entry of `k` is
left behind it. -/
def tblSet {α : Type} [DecidableEq α] (d : Nat → α) : Tbl α → Nat → α → Tbl α
  | [], k, v => if v = d k then [] else [(k, v)]
  | (j, w) :: t, k, v =>
    if j < k then (j, w) :: tblSet d t k v
    else if v = d k then tblDel ((j, w) :: t) k else (k, v) :: tblDel ((j, w) :: t) k

/-- Every key of the table is above `b`. -/
def tblAbove {α : Type} (b : Nat) : Tbl α → Bool
  | [] => true
  | (j, _) :: t => decide (b < j) && tblAbove b t

/-- The canonical form: keys strictly rising, and no entry equal to its default. -/
def tblWf {α : Type} [DecidableEq α] (d : Nat → α) : Tbl α → Bool
  | [] => true
  | (j, v) :: t => decide (v ≠ d j) && tblAbove j t && tblWf d t

/-- The table without the keys that satisfy `p`. -/
def tblDrop {α : Type} (p : Nat → Bool) (t : Tbl α) : Tbl α := t.filter fun e => !p e.1

end Sys2Proof.Machine
end

