-- ==== Sys2Proof/Machine/State.lean ====
section
/-! DEFINITION. The state of the KQ7063: every register of the peripheral windows, every memory, the processors, the
hidden state of each block that the rules of the spec imply, and the queue of waiting commands. Plain data only.
INVENTORY.md lists each piece with the rule that names it and its reset value. -/

namespace Sys2Proof.Machine

/-- Why a command stops the model. No meaning of this model stops so: every row of the table has an effect by its
rules. The name is kept for an access the spec would forbid outright; it would be safe. -/
inductive Fault where
  /-- An access outside every region of 00 R14 that no exception of 06 R221 covers. Raised by nothing here; safe. -/
  | noSuchAddress (addr : Nat)
  deriving DecidableEq, Repr

/-- Why a command is refused. -/
inductive Refusal where
  /-- The command has no meaning in the model yet. Raised only by an arm of `exec`; safe. -/
  | notModelled (mnemonic : String)
  deriving DecidableEq, Repr

/-! ## Processors (06) -/

/-- What a processor is doing. `waitPeriod t` is TWAITP with its 64-bit target, `waitTime w` TWAIT with its 32-bit
target (06 R214), `sleeping` WFI (R227), `stopped` the stop of R223, `restart` a block reset that waits for the next
period boundary, `dead` one without an admitted set-up (12 R359). -/
inductive RunState where
  | halted
  | running
  | waitPeriod (target : Nat)
  | waitTime (target : Word)
  | sleeping
  | stopped
  | restart
  | dead
  deriving DecidableEq, Repr

/-- One level of the loop stack (06 R211): the body's first and last instruction addresses, the iterations left, and the
depths of the call stack and of the interrupt stack at which the loop began. -/
structure LoopLevel where
  first : Word
  last : Word
  left : Nat
  calls : Nat
  depth : Nat
  deriving DecidableEq, Repr

/-- One timed-write slot (06 R215). -/
structure TimedWrite where
  addr : Word
  value : Word
  due : Word
  deriving DecidableEq, Repr

/-- One entry of the interrupt stack (06 R222 to R225): EPC, ESTAT. -/
structure StackEntry where
  epc : Word
  estat : Word
  deriving DecidableEq, Repr

/-- A programmable processor: core 0 to 3, the safety pair, or the scalar unit of the Control Engine (06 R201 to
R227). `status` is STATUS without ISD, which is the depth of `istack`. -/
structure Proc where
  run : RunState := .halted
  dbgHalt : Bool := false
  g : Tbl Word := []
  gi : Tbl Word := []
  acc : Tbl Acc := []
  pc : Word := 0
  status : Word := 0
  istack : List StackEntry := []
  epc0 : Word := 0
  estat0 : Word := 0
  calls : List Word := []
  loops : List LoopLevel := []
  timed : List TimedWrite := []
  hiThread : Word := 0
  hiHandler : Word := 0
  latched : Option Nat := none
  serv : List (Option Nat) := []
  diAt : Option Nat := none
  diDone : Bool := false
  entries : Tbl Nat := []
  slot : Option Nat := none
  slotEnd : Nat := 0
  missed : Bool := false
  deriving DecidableEq, Repr

/-! ## Stack time and clocking (02) -/

/-- One error measurement of a member (02 R61): the error, already reduced by the slew and steps since its capture. -/
structure ErrSample where
  err : Int
  fromB : Bool
  k : Nat
  deriving DecidableEq, Repr

/-- A measurement clock (02 R69 to R72): the local tick of a rising edge, from which its edges are counted, and the
REFCLK cycle in which its realignment window ends. -/
structure MeasClock where
  edge : Nat := 0
  windowEnd : Option Nat := none
  deriving DecidableEq, Repr

/-- The stack time unit and the time base. `count` is stack time (00 R3), `refclk` the REFCLK cycles since power-up,
`k` the index of the period in progress, `lastT` the stack time of the last boundary generated (02 R65). -/
structure TimeUnit where
  count : DWord := 0
  refclk : Nat := 0
  started : Bool := false
  k : Nat := 0
  lastT : Option Nat := none
  errs : List ErrSample := []
  history : List Int := []
  beaconK : Option Nat := none
  okPeriods : Nat := 0
  stepDue : Bool := false
  fwdTap : Nat := 0
  lastSlew : Option Nat := none
  lastSync : Option Nat := none
  hiLatch : Tbl Word := []
  clocks : Tbl MeasClock := []
  takeBack : Bool := false
  lockLost : Bool := false
  dueArmed : Tbl Bool := []
  deriving DecidableEq, Repr

/-! ## Power (16) -/

/-- What the boot ROM is doing on core 0 (15 R439). -/
inductive RomStage where
  | idle
  | running
  | handedOver
  | recovery
  deriving DecidableEq, Repr

/-- The power sequencer and reset logic (16 R454 to R465). -/
structure PowerUnit where
  vbed : Bool := true
  inReset : Bool := true
  downs : List Nat := []
  ups : List Nat := []
  target : Nat := 0
  opt : Nat := 0
  pend : Option (Nat × Nat) := none
  rom : RomStage := .idle
  deriving DecidableEq, Repr

/-! ## Fault Collector (12) -/

/-- A Ledger record before it is written (12 R369). -/
structure LedgerRec where
  time : DWord
  source : BitVec 16
  code : BitVec 16
  data : Word
  deriving DecidableEq, Repr

/-- The Fault Collector's hidden state: the Ledger input buffer (12 R371), the watchdog counts (R367), and the word
being restored with the processor that waits for it (06 R198). -/
structure FaultUnit where
  ledger : List LedgerRec := []
  wdt : Tbl Nat := []
  restoring : Option (Nat × Nat) := none
  deriving DecidableEq, Repr

/-! ## CAN (14) -/

/-- A CAN controller's hidden state: the entry in transmission (14 R426), the next receive slot and the slots in use
(R425), the frame error counter of the wake method (R431), and a SLEEP waiting for the frame in progress (R430). -/
structure CanCtl where
  tx : Option DWord := none
  rxSlot : Nat := 0
  rxUsed : Nat := 0
  fec : Nat := 0
  sleepPend : Bool := false
  deriving DecidableEq, Repr

/-! ## Admission (07) -/

/-- A PROGRAM record of a set-up, with its bound (07 R232, R241). -/
structure ProgramRec where
  proc : Nat
  slot : Nat
  mult : Nat
  phase : Nat
  code : Nat
  len : Nat
  start : Nat
  deadline : Nat
  image : Nat
  wcet : Nat
  deriving DecidableEq, Repr

/-- A HANDLER record of a set-up, with its bound (07 R233, R241). -/
structure HandlerRec where
  source : Nat
  nmax : Nat
  code : Nat
  len : Nat
  image : Nat
  wcet : Nat
  deriving DecidableEq, Repr

/-- The result of an admission request (07 R237, R249); `warns` holds (CODE, KIND, OBJ). -/
structure AdmResult where
  code : Nat := 0
  kind : Nat := 0
  obj : Nat := 0
  figd : Nat := 0
  figa : Nat := 0
  addr : Nat := 0
  brk : Nat := 0xFFFFFFFF
  warns : List (Nat × Nat × Nat) := []
  deriving DecidableEq, Repr

/-- The admission unit (07): the request that waits or runs, the descriptor's record count and tag, the records, the
result of a finished run, an acceptance waiting for its boundary with the period in which it was made, the period in which an unload
started, the core programs due that have not started (processor, slot, period), and what the running chip is policed
against. -/
structure AdmUnit where
  request : Option Nat := none
  count : Nat := 0
  tag : Word := 0
  progs : List ProgramRec := []
  handlers : List HandlerRec := []
  result : Option AdmResult := none
  lockPend : Bool := false
  lockK : Nat := 0
  unloadK : Nat := 0
  due : List (Nat × Nat × Nat) := []
  escrowEmpty : Bool := false
  escrowDigest : BitVec 192 := 0
  dAdm : Tbl Nat := []
  longCnt : Tbl Nat := []
  cells : Tbl Word := []
  arms : Tbl Word := []
  figures : Tbl Word := []
  unloadReq : Bool := false
  waiting : Bool := false
  deriving DecidableEq, Repr

/-! ## Control Engine (05) -/

/-- An entry of the commit buffer: its KIND (2 BRP, 3 SRAM, 4 MSR), its address and the value (05 R165, R167). -/
structure CommitEntry where
  kind : Nat
  addr : Nat
  value : Word
  deriving DecidableEq, Repr

/-- The Control Engine's hidden state (05). `v` holds the lane registers at 16 n + l and `vacc` the lane accumulators
at 4 l + n; `held` the parameter writes held during the snapshot phase (R160); `commit` the loaded commit buffer
(R167); `rampJ` the commit windows since each ramp's start (R194); `load` the FIRST and LAST of a running load and
`loadAt` the REFCLK cycle of its start (R173);
`swapNow` a swap taken at this boundary (R174); `fbExp` the EXP writes that wait for the next evaluation (R191);
`fbLive` the descriptors evaluated in the last period (R192); `echo` the last ECHO word per descriptor and `echoStuck` the descriptors
whose echo did not advance in this period (R188);
`wcmd` the last clamped WCMD per tracker (R184); `lineStart` the arm blocks to be signalled (R185). -/
structure CeUnit where
  v : Tbl Word := []
  vacc : Tbl Acc := []
  overrun : Bool := false
  snapOpen : Bool := false
  held : List (Nat × Word) := []
  param : Tbl Word := []
  commit : List CommitEntry := []
  rampJ : Tbl Nat := []
  clrReq : Tbl Bool := []
  load : Option (Nat × Nat) := none
  loadAt : Nat := 0
  swapNow : Bool := false
  slot : Option Nat := none
  ran : List Nat := []
  lastEnd : Nat := 0
  fbExp : List Nat := []
  fbLive : Tbl Bool := []
  echo : Tbl Word := []
  echoStuck : List Nat := []
  wcmd : Tbl Word := []
  lineStart : Nat := 0
  supDone : Bool := false
  windowDone : Bool := false
  deriving DecidableEq, Repr
/-! ## Ethernet, network time and time pulses (14) -/

/-- A committed domain map (14 R419). -/
structure DomainMap where
  dref : DWord := 0
  dns : DWord := 0
  drate : Word := 0
  deriving DecidableEq, Repr

/-- One MAC's hidden state (14): the next receive slot and the slots in use (R405), the next safety slot (R413), the
TSINFO records that wait and the REFCLK cycle since which the FIFO is not empty (R416), the REFCLK cycle in which the
frame in progress and its gap end (R411), and the last frame sent. -/
structure MacUnit where
  rxSlot : Nat := 0
  rxUsed : Nat := 0
  safeSlot : Nat := 0
  ts : List Word := []
  tsSince : Nat := 0
  txEnd : Nat := 0
  out : List Byte := []
  deriving DecidableEq, Repr

/-- The network block's hidden state (14): the committed domain map (R419), the domain-time latch of each requester,
per time-pulse output the REFCLK cycle in which the pulse ends (R421), the two MACs, and the duplicate table, oldest
first: source address, SeqNr, and the REFCLK cycle of entry (R408). -/
structure EthUnit where
  dmap : DomainMap := {}
  domLatch : Tbl Word := []
  tpo : Tbl (Option Nat) := []
  mac0 : MacUnit := {}
  mac1 : MacUnit := {}
  dups : List (List Byte × Nat × Nat) := []
  deriving DecidableEq, Repr
/-! ## Cell link (03): the chip's ports -/

/-- A downlink word that waits or was sent (03 R79, R101): TYPE, data, whether it may be resent and the deadline of a
copy at the endpoint in stack time (none: the end of the period), and whether it is the word of LNK_CMD. -/
structure LinkWord where
  ty : Nat
  data : Word
  resend : Bool := false
  deadline : Option Nat := none
  lnkCmd : Bool := false
  deriving DecidableEq, Repr

/-- The hidden state of one link port (03 R74 to R103). `tx` and `rx` are the last SEQ sent and received (R78); `cont`
the words that must follow directly; `sched` the scheduled words with their slots (R95); `sent` the last 16 new words by
SEQ (R102); `rtts` the last round trips in sixteenths of a tick (R99); `got` the report words of this period (R98);
`capMask` its CAP words (R94); `missing` the SEQ numbers of lost uplink words (R103) and `late` those of the period
before (R101); `dNew` the next D in sixteenths of a tick and `dPrev` the
one before the D in force; `out` the word on the line: TYPE, data and SEQ. -/
structure LinkPort where
  tx : Nat := 15
  rx : Option Nat := none
  quotaR : Nat := 0
  quotaC : Nat := 0
  stops : Nat := 0
  stopAt : Nat := 0
  cont : List LinkWord := []
  resends : List (Nat × LinkWord) := []
  replays : List Nat := []
  cmds : List (List LinkWord) := []
  sched : List (Nat × List LinkWord) := []
  cfgs : List LinkWord := []
  again : List LinkWord := []
  sent : List (Nat × LinkWord) := []
  rtts : List Nat := []
  got : Nat := 0
  capMask : Nat := 0
  capFull : Bool := false
  capReq : Bool := false
  missing : List Nat := []
  late : List Nat := []
  dnExh : Bool := false
  upExh : Bool := false
  lostDone : Bool := false
  good : Bool := false
  edgeSent : Bool := false
  dNew : Nat := 0
  dPrev : Nat := 0
  out : Option (Nat × Word × Nat) := none
  deriving DecidableEq, Repr

/-- The Link Engine: the next word slot of the period (03 R74) and the ports by index. -/
structure LinkUnit where
  slot : Nat := 0
  ports : Tbl LinkPort := []
  deriving DecidableEq, Repr

/-! ## Cell endpoints (03 R104): one per port, outside the chip -/

/-- An edge of a bundle (03 R81): entry, copy of its gates, CAP, and its due tick. -/
structure EpEdge where
  bidx : Nat
  last : Bool
  idx : Nat
  gates : Nat
  cap : Bool
  due : Word
  deriving DecidableEq, Repr

/-- A cadence of a stage group (03 R84, R85): `n` the index of its next edge; a HALT applies pattern A once. -/
structure EpCadence where
  group : Nat
  halt : Bool
  a : Nat
  b : Nat
  half : Nat
  phase : Nat
  start : Word
  n : Nat := 0
  deriving DecidableEq, Repr

/-- A uplink word the endpoint has sent or waits to send: port (true: escrow), TYPE, data, SEQ. -/
structure EpWord where
  escrow : Bool
  ty : Nat
  data : Word
  seq : Nat
  deriving DecidableEq, Repr

/-- What one port of an endpoint has received (03 R78, R91): the last SEQ, whether it is aligned, good and bad words of
this and the last period, its SEQ for sending, and the TAKE that waits there. -/
structure EpPort where
  aligned : Bool := false
  rx : Nat := 15
  tx : Nat := 15
  good : Nat := 0
  bad : Nat := 0
  goodLast : Nat := 0
  badLast : Nat := 0
  deriving DecidableEq, Repr

/-- A cell endpoint (03). `off` is its time minus stack time modulo 2^32 and `tk` its last boundary; `d` the D in
force in sixteenths of a tick, `dGot` that this period's DELAY word has come and `dOld` that the last one was lost
(R80); `cfg` and `shadow` the configuration space and `commit` an accepted shadow (R89); `take` the accepted TAKE, its
port and boundary (R112); `gates` the gates on, `lastOn` and `lastOff` the stack time of each gate's last change, and
`changes` the changes that dead time, floors and trims put later, in the order they were planned (R83, R106); `bundle` to `decided` the
bundle being received (R82); `edges` the accepted edges not yet executed and `prev` the previous executed bundle;
`bypassAt` a scheduled BYPASS; `sil` the silent periods (R110); `counts` to `tallyGate` the tallies (R91); `out` the
word last sent and `kept` the last 16 per port (R102). -/
structure Endpoint where
  powered : Bool := false
  caps : Tbl Word := []
  estate : Nat := 0
  commission : Bool := true
  active : Bool := false
  off : Word := 0
  tk : Word := 0
  d : Nat := 0
  dGot : Bool := false
  dOld : Bool := false
  cfg : Tbl Word := []
  shadow : Tbl Word := []
  commit : Option (Tbl Word) := none
  take : Option (Bool × Nat) := none
  gates : Nat := 0
  lastOn : Tbl Nat := []
  lastOff : Tbl Nat := []
  changes : List (Nat × Bool × Nat) := []
  fault : Nat := 0
  causes : Nat := 0
  bundle : List EpEdge := []
  hold : Bool := false
  sawEdge : Bool := false
  outside : Bool := false
  decided : Bool := false
  edges : List EpEdge := []
  prev : Option (List EpEdge) := none
  bypassAt : Option (Nat × Word) := none
  cadences : List EpCadence := []
  nextCads : List EpCadence := []
  trimR : Tbl Nat := []
  trimF : Tbl Nat := []
  lastIdx : Nat := 0
  illegal : Bool := false
  floor : Bool := false
  repeating : Bool := false
  ride : Bool := false
  sil : Nat := 0
  counts : Tbl Nat := []
  periodCount : Nat := 0
  lastPeriodCount : Nat := 0
  tallyGate : Nat := 0
  timeWord : Word := 0
  prim : EpPort := {}
  esc : EpPort := {}
  out : Option EpWord := none
  kept : List EpWord := []
  deriving DecidableEq, Repr

/-! ## Cell Scheduler (04) -/

/-- An edge that the Cell Scheduler emits for an arm cell (04 R123): context, due tick in stack time, entry. -/
structure CsEdge where
  ctx : Nat
  due : Nat
  idx : Nat
  deriving DecidableEq, Repr

/-- What the Cell Scheduler keeps per arm block beside its registers (04 R125, R134, R155; 09 R289, R290): the polarity,
the reference and current sign last read, T, Λ and the rotations of the window, the period of the window's start, and
the share received with its period. -/
structure ArmAux where
  neg : Bool := false
  ref : Word := 0
  ineg : Bool := false
  tCount : Nat := 0
  lam : Nat := 0
  passes : Nat := 0
  band : Nat := 0
  wear : Nat := 0
  share : Word := 0
  shareK : Option Nat := none
  deriving DecidableEq, Repr

/-- What the chip keeps per cell context beside its context words: the boundary at which its bypass sequence started
(04 R150), a CLEAR that stands (R152), a RETURN to be sent, the periods with VCAP stale (R132), whether the primary
cadence was sent and the START of the last secondary one (R147, R148), the insertion edges of the scheduled period, the
period before and the one before that, with the level at their start (11 R346), a driving change and the state to take
at the next boundary (01 R44; 09 R304 to R310), a pending repeat note (R154), whether an escrow record of the last
period shows the other context driving (01 R495), a parity error in the context (01 R44), and whether an arm-group edge
was ever sent (04 R497), and what a repeat of the bundle goes back to: the pattern, the last edge and whether there was
one when the bundle was formed, and whether one was formed (R154). -/
structure CellAux where
  bypStart : Option Nat := none
  clear : Option Word := none
  stale : Nat := 0
  primSent : Bool := false
  secStart : Option Nat := none
  edges : List CsEdge := []
  startLevel : Int := 0
  edgesPrev : List CsEdge := []
  startPrev : Int := 0
  repeated : Bool := false
  moved : Bool := false
  otherDrives : Option Nat := none
  recState : Nat := 0
  recSerial : Tbl Word := []
  recBusy : Bool := false
  takeAt : Option Nat := none
  giveAt : Option Nat := none
  parityBad : Bool := false
  synced : Bool := false
  dripGot : Nat := 0
  offerK : Option Nat := none
  inStateK : Nat := 0
  hasEdge : Bool := false
  beforeIdx : Nat := 0
  beforeLast : Word := 0
  beforeHas : Bool := false
  sentBundle : Bool := false
  deriving DecidableEq, Repr

/-- The Cell Scheduler's hidden state: the pattern tables (class × 32 + index) and interlock pairs (class × 8 + j) of
01 R20 to R26, the waiting CELLCMD (R149), the passes that run with their end (R119, R123), and the arm blocks and
cells. -/
structure CsUnit where
  pat : Tbl Word := []
  pairs : Tbl Word := []
  cmd : Option Word := none
  cadEnd : Option Nat := none
  armEnd : Option Nat := none
  cadDone : Bool := false
  armDone : Bool := false
  arms : Tbl ArmAux := []
  cells : Tbl CellAux := []
  counts : Tbl Nat := []
  deriving DecidableEq, Repr

/-! ## Measurement (11) -/

/-- An output of a sigma-delta filter: its input, twice the stack time of its centre, its value, and whether it is invalid. -/
structure SdOutput where
  sd : Nat
  centre2 : Int
  value : Int
  invalid : Bool
  deriving DecidableEq, Repr

/-- The measurement unit's hidden state. The edge-delay trims (11 R350, R351), keyed by 32 i + 2 gate + (1 rising):
samples and sum of the average in progress, the period until which samples are discarded, the changed trims that wait
for a CAL word, oldest first, the next pair of the round per port, and the pair that the bundle's CAP edge samples. The
last completed result per channel and the channels with a new one since T_k (R334), the entries converted in this
period, the offset conversions since the enable (R336), the outputs of each sigma-delta input since its enable or reset
(R337) and those of the last two periods with twice the instant of their centre, the REFCLK cycle at which a comparator's filter
count restarted (R339), the rails outside their windows (R340), a serial acceptance that waits (R343), the contexts whose
gain limit was recorded (R348), and the gate-charge measurement that runs (R344): channel and high side. -/
structure MsrUnit where
  pairN : Tbl Nat := []
  pairSum : Tbl Int := []
  pairHold : Tbl Nat := []
  changed : List Nat := []
  round : Tbl Nat := []
  capPair : Tbl (Option Nat) := []
  cur : Tbl Word := []
  fresh : List Nat := []
  sarDone : List Nat := []
  offN : Tbl Nat := []
  sdN : Tbl Nat := []
  sdOut : List SdOutput := []
  cmpAt : Tbl Nat := []
  rails : Nat := 0
  serReq : Option (Nat × Nat) := none
  gainNoted : List Nat := []
  gq : Option (Nat × Bool) := none
  deriving DecidableEq, Repr

/-! ## Marur ring (09) -/

/-- What waits to be sent on the ring: a frame of 16 words, or a notice whose encoding the text does not give (log 30),
by its kind (1 JOIN, 2 GRANT, 3 refusal of a JOIN, 4 BREAK, 5 LOSS, 6 OFFER, 7 TAKEN, 8 HO_REQ, 9 HO_ACK, 10 REPAIR,
11 report reply, 12 PLAN, 13 SWAP, 14 LEAVE, 15 a poisoned frame) and its arguments. -/
inductive RingMsg where
  | frame (w : List Word)
  | notice (kind : Nat) (args : List Nat)
  deriving DecidableEq, Repr

/-- A waiting message with the ports on which it still has to go. -/
structure RingOut where
  msg : RingMsg
  a : Bool
  b : Bool
  mtx : Bool := false
  deriving DecidableEq, Repr

/-- One ring port: what it sent last and the last 4 frames for a resend with whether each was resent (R285), the NAK
that its next word carries (an output, R284), whether the frame in progress is poisoned (R284), losses of this period, captures of the HOP frames
sent by FSEQ and of the last one received with its FSEQ, and the last 16 hop delays (R287). -/
structure RingPort where
  out : Option RingMsg := none
  kept : List (RingMsg × Bool) := []
  resend : List RingMsg := []
  nak : Bool := false
  poison : Bool := false
  lossNow : Bool := false
  txHop : List (Nat × Word) := []
  txLast : Word := 0
  rxLast : Option (Word × Nat) := none
  delays : List Int := []
  deriving DecidableEq, Repr

/-- A TAKE sent on a port (R304 to R309): its boundary k, how often it was sent, whether TOKACK has come, its cause
(0 loss of the buddy, 1 an offer, 2 a handover), and the last edge of the record from which the passes start once they
count the cell (R304, R309). -/
structure TakeRec where
  tb : Nat
  count : Nat := 1
  acked : Bool := false
  cause : Nat := 0
  base : Option Word := none
  deriving DecidableEq, Repr

/-- A handover in progress (R307 to R310): handback, cell, whether this chip asked and whether it takes, T_b, the cells
held back, and whether the request has gone out. -/
structure Handover where
  back : Bool
  cell : Nat
  mine : Bool
  taking : Bool
  tb : Nat
  held : Nat := 0
  accepted : Bool := false
  sent : Bool := false
  deriving DecidableEq, Repr

/-- The Ring Port's hidden state (09): the next slot; the waiting messages; FSEQ per class; the frames seen (R279); the
positions heard in this period; the periods the buddy has been silent; a yield, swap or leave due at the next boundary;
joining; a break or a return of the healthy plan that waits (R283); an announced generation (R299); TAKEs by port; the
handover; firmware-area words that wait for the drip (context, offset, period) and the round (R294); the firmware words
received (R289); the shares last sent and held (R291); whether own beacons came round the ring in each
direction; the contexts held back from a handover (R310). -/
structure RingUnit where
  slot : Nat := 0
  pa : RingPort := {}
  pb : RingPort := {}
  outQ : List RingOut := []
  fseq : Tbl Nat := []
  seen : List (Nat × Nat × Nat × Nat) := []
  heard : List Nat := []
  escGot : Bool := false
  escSent : Bool := false
  refbSent : Bool := false
  buddySilent : Nat := 0
  yieldDue : Option Nat := none
  swapDue : Bool := false
  leaveDue : Bool := false
  joining : Bool := false
  granted : Bool := false
  joinWait : Nat := 0
  brkPend : List Nat := []
  healthyAt : Option Nat := none
  /-- The Assay summary a JOIN brought, by position (15 R435 says RNG_POSm carries it; the register's two words have no
  field for it, so it is held beside them: log 58). -/
  posSums : Tbl Nat := []
  genAt : Option (Nat × Nat) := none
  takes : List (Nat × TakeRec) := []
  ho : Option Handover := none
  hoReqK : Option Nat := none
  dirty : List (Nat × Nat × Nat) := []
  drip : Tbl Nat := []
  fw : Tbl Word := []
  lastShare : Tbl Word := []
  absentSent : List Nat := []
  roundA : Bool := false
  roundB : Bool := false
  heldBack : List Nat := []
  deriving DecidableEq, Repr

/-! ## Bridge port (10) -/

/-- A gate edge that waits: its stack time, high side or low side, on or off (10 R315, R321, R324). -/
structure GateEdge where
  at_ : Nat
  hi : Bool
  on : Bool
  deriving DecidableEq, Repr

/-- A bridge-port channel's hidden state (10): the next boundary, whether a boundary has been passed since the start, the
gates and when each last changed, when HO last turned on, the edges that wait, a release that waits for its boundary, the
end of the low-side hold of a soft stop, whether a processor wrote the shadow since the last transfer (R320), the wait
for a boundary after VGDLOW (R313), and the last rising edge of either gate (R327). -/
structure BrpChan where
  bnd : Option Nat := none
  ho : Bool := false
  lo : Bool := false
  hoAt : Option Nat := none
  loAt : Option Nat := none
  honAt : Nat := 0
  edges : List GateEdge := []
  rel : Bool := false
  softEnd : Option Nat := none
  procWr : Bool := false
  vgdWait : Bool := false
  roseAt : Option Nat := none
  deriving DecidableEq, Repr

/-- The bridge port's hidden state: the channels, and the end of each trip input's blanking window (10 R328). -/
structure BrpUnit where
  ch : Tbl BrpChan := []
  blank : Tbl (Option Nat) := []
  deriving DecidableEq, Repr


/-! ## Safety unit (13) -/

/-- A level demand that lasts (13 R382): its CAUSE, the sender's position, and the functions demanded. -/
structure SfuLive where
  cause : Nat
  pos : Nat
  funcs : Nat
  deriving DecidableEq, Repr

/-- An open comparison window (13 R397, R398): Ethernet or ring, the key that pairs its copies, the sender, the REFCLK
cycle at which it opened, and the copies by MAC or direction; a copy that R396 discards stands as none. -/
structure SfuWindow where
  eth : Bool
  key : Nat × Nat
  openAt : Nat
  copies : List (Bool × Option (List Word))
  deriving DecidableEq, Repr

/-- The Safety unit's hidden state: the live demands; the reset hold (R382); the functions each channel has demanded with the periods since the
two differed and the functions already reported (13 R387); the cycle since which the inputs differ; whether the
heartbeat was written in this period and the periods it was missed, and the periods without a loss cause of each channel
(R384, R386); the Bedrock second in which T_deg ends and whether it has expired (R385); the pulse tests' next instants,
running tests and last ends, all in REFCLK cycles plus 1 where 0 stands for none (R391 to R393); the requalification in
progress (R394); the monitors' violations (R389); the windows, the next SSEQ, and the followed senders (R395 to R399). -/
structure SfuUnit where
  live : List SfuLive := []
  resetHold : Bool := true
  madeA : Nat := 0
  madeB : Nat := 0
  xAge : Nat := 0
  xNoted : Nat := 0
  discSince : Option Nat := none
  hbOk : Bool := false
  hbMiss : Nat := 0
  cleanA : Nat := 0
  cleanB : Nat := 0
  tdegEnd : Option Nat := none
  tdegExp : Bool := false
  ptNext : Tbl Nat := []
  ptRun : Tbl Nat := []
  ptEnd : Tbl Nat := []
  requal : Option (Bool × List Nat) := none
  viol : Tbl Nat := []
  ovl : Tbl Nat := []
  windows : List SfuWindow := []
  sseq : Nat := 0
  lastOk : Tbl Nat := []
  silent : List Nat := []
  missRun : Tbl Nat := []
  eqRun : Nat := 0
  armedAt : Nat := 0
  deriving DecidableEq, Repr

/-! ## Trust unit (15) -/

/-- A report request that waits or is being signed (15 R442): the buffer (2 for the ring), the nonce, the requester's
position, and the outcome of its key and fuse check (R444). -/
structure TruReq where
  buf : Nat
  nonce : List Byte
  dst : Nat
  key : KeyCheck
  deriving DecidableEq, Repr

/-- A management request whose final answer is still due (15 R446): its operation and tag, and whether it came over the
ring. -/
structure MgmtOpen where
  op : Nat
  tag : Nat
  ring : Bool
  deriving DecidableEq, Repr

/-- The trust unit's hidden state: the extensions that run or wait with the REFCLK cycle in which the first started
(15 R434), whether AS5 was extended and the GEN of the header booted (R440), the report requests and the report being
signed, the two report windows, the flash operation that runs (erase, address, page data; R448), the management requests
still open, and the response entries that wait for room in Q26 (R446). -/
structure TruUnit where
  ext : List (Nat × List Byte) := []
  extStart : Nat := 0
  dbgSeen : Bool := false
  hdrGen : Nat := 0
  reqs : List TruReq := []
  body : Option (List Byte) := none
  win0 : List Byte := []
  win1 : List Byte := []
  fl : Option (Bool × Nat × List Byte) := none
  mgmt : List MgmtOpen := []
  mbxOut : List DWord := []
  deriving DecidableEq, Repr

/-! ## The whole machine -/

/-- The state of the chip, of the cell endpoints at its ports, and of the queue of waiting commands. -/
structure State where
  /-- Every peripheral register, by its address (00 R11 to R13); an unlisted one reads its reset value. -/
  regs : Tbl Word
  /-- Every byte of memory, by its address (00 R14); an unlisted one reads `memDefault`. -/
  mem : List Host.Cell
  /-- The words whose stored parity is bad and cannot be restored (06 R198), by word address. -/
  badWords : Tbl Bool
  pwr : PowerUnit
  tm : TimeUnit
  procs : Tbl Proc
  queues : Tbl (List DWord)
  fcu : FaultUnit
  can : Tbl CanCtl
  /-- Admission (07). -/
  adm : AdmUnit
  /-- Control Engine (05). -/
  ce : CeUnit
  /-- Ethernet, network time and time pulses (14). -/
  eth : EthUnit
  /-- The Link Engine (03). -/
  lnk : LinkUnit
  /-- The cell endpoints, one per port index (03 R104). -/
  eps : Tbl Endpoint
  /-- The Cell Scheduler (04). -/
  cs : CsUnit
  /-- Measurement and calibration (11). -/
  msr : MsrUnit
  /-- The Ring Port (09). -/
  ring : RingUnit
  /-- The bridge port (10). -/
  brp : BrpUnit
  /-- The Safety unit (13). -/
  sfu : SfuUnit
  /-- The trust unit (15). -/
  tru : TruUnit
  /-- The data of the last read that a command names (a host read, a TIMELO read, a queue pop). -/
  busOut : DWord
  /-- The model's own counter of free values (not the spec's). -/
  freeCtr : Nat
  /-- The commands that wait, first in, first out. -/
  pending : List Instr
  deriving DecidableEq, Repr

/-- The machine right after reset: VBED has become valid and PD0 has powered up (16 R454), the chip stands in BEDROCK,
every register at its reset value, memory with nothing listed, and no command waits. -/
def State.reset : State where
  regs := []
  mem := []
  badWords := []
  pwr := {}
  tm := {}
  procs := []
  queues := []
  fcu := {}
  can := []
  adm := {}
  ce := {}
  eth := {}
  lnk := {}
  eps := []
  cs := {}
  msr := {}
  ring := {}
  brp := {}
  sfu := {}
  tru := {}
  busOut := 0
  freeCtr := 0
  pending := []

end Sys2Proof.Machine
end

