-- ==== Sys2Proof/Machine/Ops.lean ====
section
/-! DEFINITION. The named operations over the registers, the memory, the processors and stack time, which every block
uses: registers and fields (00 R11 to R13), bytes and words of memory (00 R14, R15), powered domains (16 R454), stack
time (02 R56), and Ledger records entering the input buffer (12 R371). -/

namespace Sys2Proof.Machine

/-- The outcome type of a command. -/
abbrev Out := Host.Outcome State Fault Refusal

/-! ## Registers -/

/-- The stored word of a register; an unlisted register holds its reset value. -/
def State.reg (s : State) (a : Nat) : Word := tblGet regReset s.regs a

/-- The state with a register's stored word replaced. -/
def State.setReg (s : State) (a : Nat) (v : Word) : State := { s with regs := tblSet regReset s.regs a v }

/-- A field of a register, unsigned. -/
def State.f (s : State) (x : Field) : Nat := fld (s.reg x.addr) x.hi x.lo

/-- A one-bit field of a register. -/
def State.fb (s : State) (x : Field) : Bool := bitAt (s.reg x.addr) x.lo

/-- The state with a field replaced. -/
def State.setF (s : State) (x : Field) (v : Nat) : State :=
  s.setReg x.addr (setFld (s.reg x.addr) x.hi x.lo v)

/-- The state with a one-bit field replaced. -/
def State.setB (s : State) (x : Field) (b : Bool) : State := s.setF x (b2n b)

/-- A field counted up modulo its width. -/
def State.incF (s : State) (x : Field) (d : Nat) : State :=
  s.setF x (wrapAdd (x.hi + 1 - x.lo) (s.f x) d)

/-- A field counted up, saturating at its width. -/
def State.satF (s : State) (x : Field) (d : Nat) : State :=
  s.setF x (satAdd (x.hi + 1 - x.lo) (s.f x) d)

/-- Bits of a register cleared where the mask holds a 1 (a W1C write). -/
def State.w1c (s : State) (a : Nat) (m : Word) : State := s.setReg a (s.reg a &&& ~~~ m)

/-! ## Domains, modes and time -/

/-- Power domain d is on (16 SYSC_PSTAT.ON). -/
def State.on (s : State) (d : Nat) : Bool := bitAt (s.reg R.SYSC_PSTAT) d

/-- The chip drives itself: PD2 on and the reset released. -/
def State.live (s : State) : Bool := s.on 2 && !s.pwr.inReset

/-- Stack time as a count of ticks. -/
def State.now (s : State) : Nat := s.tm.count.toNat

/-- Stack time is valid while LOCKED is 1 (02 R56). -/
def State.timeValid (s : State) : Bool := s.fb F.CLK_STATUS.LOCKED

/-- The control period in ticks (02 R59). -/
def State.periodTicks (s : State) : Nat := s.f F.STM_PERIOD.P * 64

/-- STM_ORIGIN as one number. -/
def State.origin (s : State) : Nat := (s.reg R.STM_ORIGINLO).toNat + (s.reg R.STM_ORIGINHI).toNat * 2 ^ 32

/-- T_k, the stack time of boundary k (02 R59). -/
def State.boundary (s : State) (k : Nat) : Nat := s.origin + k * s.periodTicks

/-- A set-up is admitted (07). -/
def State.admitted (s : State) : Bool := s.fb F.ADM_STATUS.ADMITTED

/-- The service mode in force is COMMISSION (16 R466). -/
def State.commission (s : State) : Bool := s.fb F.SYSC_MODE.MODEACT

/-- A class-4 fault is latched (12 R364). -/
def State.grave (s : State) : Bool := decide (s.f F.FCU_GRAVE.GRAVE ≠ 0)

/-- Stack time moved forward to an instant that is still ahead (log 4); an instant already passed moves nothing. -/
def State.advanceTo (s : State) (t : Nat) : State :=
  if s.now < t then
    { s with tm := { s.tm with count := BitVec.ofNat 64 t, refclk := s.tm.refclk + (t - s.now + 63) / 64 } }
  else s

/-! ## Requesters and processors -/

/-- The requester index of 08 R253. -/
def reqIdx : Requester → Nat
  | .pair => 0 | .ce => 1 | .cs => 2 | .lnk => 3 | .rng => 4 | .core0 => 5 | .core1 => 6 | .core2 => 7 | .core3 => 8
  | .net => 9 | .host => 10

/-- The requester of a processor's accesses. -/
def procReq (p : Nat) : Requester :=
  match p with
  | 0 => .core0 | 1 => .core1 | 2 => .core2 | 3 => .core3 | 4 => .pair | _ => .ce

/-- The PROC number of a requester that is a processor (06 R203). -/
def reqProc? : Requester → Option Nat
  | .core0 => some 0 | .core1 => some 1 | .core2 => some 2 | .core3 => some 3 | .pair => some 4 | .ce => some 5
  | _ => none

/-- The power domain of a processor (06, the table of processors). -/
def procDom (p : Nat) : Nat := if p = 0 then 3 else if p < 4 then 4 else if p = 4 then 2 else 5

/-- A processor's state. -/
def State.proc (s : State) (p : Nat) : Proc := tblGet (fun _ => ({} : Proc)) s.procs p

/-- The state with a processor replaced. -/
def State.setProc (s : State) (p : Nat) (q : Proc) : State :=
  { s with procs := tblSet (fun _ => ({} : Proc)) s.procs p q }

/-- The state with a processor changed. -/
def State.modProc (s : State) (p : Nat) (h : Proc → Proc) : State := s.setProc p (h (s.proc p))

/-! ## Memory -/

/-- The regions of 00 R14 by physical address. -/
inductive Region where
  | rom
  | tcm (n : Nat)
  | pairTcm
  | sram
  | context
  | ceMem
  | angle
  | buffers
  | pool
  | ledger
  | periph
  | flash
  | hole
  deriving DecidableEq, Repr

/-- The region of a physical address (00 R12 to R15; the queue pool is the upper half of the buffers, 08 R267). -/
def regionOf (a : Nat) : Region :=
  if a < 0x20000 then .rom
  else if a < 0x140000 then .hole
  else if a < 0x240000 then .tcm ((a - 0x140000) / 0x40000)
  else if a < 0x260000 then .pairTcm
  else if a < 0x20000000 then .hole
  else if a < 0x20400000 then .sram
  else if a < 0x30000000 then .hole
  else if a < 0x30040000 then .context
  else if a < 0x31000000 then .hole
  else if a < 0x31080000 then .ceMem
  else if a < 0x32000000 then .hole
  else if a < 0x32040000 then .angle
  else if a < 0x33000000 then .hole
  else if a < 0x33080000 then .buffers
  else if a < 0x33100000 then .pool
  else if a < 0x34000000 then .hole
  else if a < 0x34040000 then .ledger
  else if a < 0x40000000 then .hole
  else if a < 0x40110000 then .periph
  else if a < 0x60000000 then .hole
  else if a < 0x70000000 then .flash
  else .hole

/-- The power domain of a region (16 R454); the boot ROM stands with core 0, the external flash with no domain. -/
def Region.dom : Region → Option Nat
  | .rom => some 3
  | .tcm n => some (procDom n)
  | .pairTcm => some 2
  | .sram => some 3
  | .context => some 6
  | .ceMem => some 5
  | .angle => some 5
  | .buffers => some 3
  | .pool => some 3
  | .ledger => some 2
  | .periph => none
  | .flash => none
  | .hole => none

/-- What a byte of memory that nothing has written reads as: 0 in every SRAM (16 R455), the ROM's contents in the
boot ROM, and 0xFF, the erased state, in the external flash (log 6). -/
def memDefault (a : Nat) : Byte :=
  if a < 0x20000 then Config.bootRom a else if 0x60000000 ≤ a then 0xFF else 0

/-- The canonical form of memory: addresses strictly rising, and no entry equal to what an unlisted address reads as. -/
def Memory.wf (m : List Host.Cell) : Bool := tblWf memDefault m

/-- The byte at an address. -/
def State.ldb (s : State) (a : Nat) : Byte := tblGet memDefault s.mem a

/-- The state with a byte stored. -/
def State.stb (s : State) (a : Nat) (v : Byte) : State := { s with mem := tblSet memDefault s.mem a v }

/-- The little-endian word at an address. -/
def State.ldw (s : State) (a : Nat) : Word := s.ldb (a + 3) ++ s.ldb (a + 2) ++ s.ldb (a + 1) ++ s.ldb a

/-- The state with a little-endian word stored. -/
def State.stw (s : State) (a : Nat) (v : Word) : State :=
  (((s.stb a (v.extractLsb' 0 8)).stb (a + 1) (v.extractLsb' 8 8)).stb (a + 2) (v.extractLsb' 16 8)).stb (a + 3)
    (v.extractLsb' 24 8)

/-- A word of memory as a number. -/
def State.ldn (s : State) (a : Nat) : Nat := (s.ldw a).toNat

/-- A number stored as a word. -/
def State.stn (s : State) (a v : Nat) : State := s.stw a (wN v)

/-- The little-endian double word at an address. -/
def State.ldd (s : State) (a : Nat) : DWord := s.ldw (a + 4) ++ s.ldw a

/-- The state with a double word stored. -/
def State.std (s : State) (a : Nat) (v : DWord) : State :=
  (s.stw a (v.extractLsb' 0 32)).stw (a + 4) (v.extractLsb' 32 32)

/-- `n` bytes from an address, lowest first. -/
def State.bytes (s : State) (a n : Nat) : List Byte := (List.range n).map fun i => s.ldb (a + i)

/-- The state with a list of bytes stored from an address upwards. -/
def State.putBytes : State → Nat → List Byte → State
  | s, _, [] => s
  | s, a, b :: bs => State.putBytes (s.stb a b) (a + 1) bs

/-- `n` words from an address. -/
def State.words (s : State) (a n : Nat) : List Word := (List.range n).map fun i => s.ldw (a + 4 * i)

/-- The state with a list of words stored from an address upwards. -/
def State.putWords : State → Nat → List Word → State
  | s, _, [] => s
  | s, a, w :: ws => State.putWords (s.stw a w) (a + 4) ws

/-- The base address of context i: own cell nn at 0x3000_0000 + nn × 0x800, escrow Enn at 0x3002_0000 + nn × 0x800
(00 R15), with i = nn or 64 + nn (07 R164). -/
def ctxBase (i : Nat) : Nat := 0x30000000 + i * 0x800

/-- A word of context i. -/
def State.ctx (s : State) (i off : Nat) : Word := s.ldw (ctxBase i + off)

/-- The state with a word of context i stored. -/
def State.setCtx (s : State) (i off : Nat) (v : Word) : State := s.stw (ctxBase i + off) v

/-- A word of context i as a number. -/
def State.ctxN (s : State) (i off : Nat) : Nat := (s.ctx i off).toNat

/-- Bits [hi:lo] of a word of context i replaced. -/
def State.setCtxF (s : State) (i off hi lo v : Nat) : State := s.setCtx i off (setFld (s.ctx i off) hi lo v)

/-- Bits [hi:lo] of a word of context i. -/
def State.ctxF (s : State) (i off hi lo : Nat) : Nat := fld (s.ctx i off) hi lo

/-- The 126 context and port indices: 1 to 63 and 65 to 127. -/
def ctxIdx : List Nat := ((List.range 63).map (· + 1)) ++ ((List.range 63).map (· + 65))

/-- The other port of one cell: own i and escrow i + 64. -/
def otherIdx (i : Nat) : Nat := if i < 64 then i + 64 else i - 64

/-! ## Free values -/

/-- The next free value (a value the spec leaves open). -/
def State.free (s : State) : DWord := Config.freeValue s.freeCtr

/-- The state after a free value was used. -/
def State.freeNext (s : State) : State := { s with freeCtr := s.freeCtr + 1 }

/-! ## Ledger records -/

/-- A record enters the Ledger's input buffer of 32 records with the time of the event; a full buffer loses it and
counts LOST (12 R369, R371). -/
def State.record (s : State) (block src code data : Nat) : State :=
  if s.on 2 then
    if s.fcu.ledger.length < 32 then
      { s with fcu := { s.fcu with ledger := s.fcu.ledger ++
          [{ time := s.tm.count,
             source := BitVec.ofNat 16 (b2n (!s.timeValid) * 0x8000 + block % 128 * 256 + src % 256),
             code := BitVec.ofNat 16 code, data := BitVec.ofNat 32 data }] } }
    else s.incF F.FCU_LDGLOST.LOST 1
  else s

/-- A record without a fault source. -/
def State.note (s : State) (block code data : Nat) : State := s.record block 0xFF code data

/-- Fold a state operation over a list. -/
def State.forAll {α : Type} (s : State) (l : List α) (h : State → α → State) : State := l.foldl h s

/-- Apply an operation when a condition holds. -/
def State.when (s : State) (c : Bool) (h : State → State) : State := if c then h s else s

end Sys2Proof.Machine
end

