-- ==== Sys2Proof/Machine/Reset.lean ====
section
/-! DEFINITION. What a power-down and a reset do to the state of a domain (16 R455, R464; 12 R359, R360). -/

namespace Sys2Proof.Machine

/-- The registers of a domain return to their reset values; CLK_STATUS.LOCKCNT counts from the power-up of the
Bedrock domain and stays (02, CLK_STATUS; log 8). -/
def State.dropRegs (s : State) (d : Nat) : State :=
  let n := s.f F.CLK_STATUS.LOCKCNT
  let t : State := { s with regs := tblDrop (fun a => regDom a == d) s.regs }
  if d = 1 then t.setF F.CLK_STATUS.LOCKCNT n else t

/-- The memories of a domain lose their contents (16 R455). -/
def State.dropMem (s : State) (d : Nat) : State :=
  { s with
    mem := tblDrop (fun a => (regionOf a).dom == some d) s.mem
    badWords := tblDrop (fun a => (regionOf a).dom == some d) s.badWords }

/-- The hidden state of a domain's blocks returns to its state at reset; the Ledger's input buffer is kept
(12 R360, R371). -/
def State.initUnits (s : State) (d : Nat) : State :=
  match d with
  | 1 => { s with tm := {} }
  | 2 => { (s.setProc 4 {}) with fcu := { s.fcu with wdt := [] }, sfu := {}, tru := {} }
  | 3 => { (s.setProc 0 {}) with queues := [], adm := {} }
  | 4 => ((s.setProc 1 {}).setProc 2 {}).setProc 3 {}
  | 5 => { (s.setProc 5 {}) with ce := {} }
  | 6 => { s with cs := {} }
  | 7 => { s with lnk := { s.lnk with slot := 0, ports := tblDrop (fun i => decide (i < 64)) s.lnk.ports } }
  | 8 => { s with lnk := { s.lnk with ports := tblDrop (fun i => decide (64 ≤ i)) s.lnk.ports } }
  | 9 => { s with ring := {} }
  | 10 => { s with can := [], eth := {} }
  | 11 => { s with brp := {}, msr := {} }
  | _ => s

/-- Domain d is switched off: its registers, memories and units are lost (16 R455). -/
def State.powerOff (s : State) (d : Nat) : State :=
  let t := ((s.dropRegs d).dropMem d).initUnits d
  let u := if d = 2 then { t with fcu := {} } else t
  u.setReg R.SYSC_PSTAT (setFld (u.reg R.SYSC_PSTAT) d d 0)

/-- Domain d is switched on: every SRAM word of it is 0 and its registers hold their reset values (16 R455). When PD2
powers up from off, WPTR is 0 and COLD is set (12 R371). -/
def State.powerOn (s : State) (d : Nat) : State :=
  let t := ((s.dropRegs d).dropMem d).initUnits d
  let u := t.setReg R.SYSC_PSTAT (setFld (t.reg R.SYSC_PSTAT) d d 1)
  if d = 2 then (u.setF F.FCU_LDGPTR.WPTR 0).setB F.FCU_LEDGER.COLD true else u

/-- The internal reset of 16 R464: from BEDROCK every domain above PD0 is off; from a higher state every domain above
PD3 is powered down at once and PD0 to PD3 stay on with their registers at reset and their memories kept (log 9).
The other PD0 registers keep their values; RESULT takes RESET. -/
def State.chipReset (s : State) : State :=
  let bed := decide (s.f F.SYSC_PSTAT.STATE = 1)
  let offs := (List.range 12).filter fun d => (if bed then decide (1 ≤ d) else decide (4 ≤ d)) && s.on d
  let keep := if bed then [] else (List.range 4).filter fun d => decide (1 ≤ d) && s.on d
  let s1 := s.forAll offs State.powerOff
  let s2 := s1.forAll keep fun t d => (t.dropRegs d).initUnits d
  let s3 := (s2.setReg R.SYSC_AUTH 0).setReg R.SYSC_MODE 0
  let s4 := ((s3.setF F.SYSC_PSTAT.BUSY 0).setF F.SYSC_PSTAT.PENDING 0).setF F.SYSC_PSTAT.RESULT 9
  let s5 := s4.setF F.SYSC_PSTAT.STATE (if bed then 1 else 2);
  { s5 with pwr := { s5.pwr with inReset := true, downs := [], ups := [], pend := none, rom := .idle } }

/-- The semaphores that a requester holds are freed (08 R257). -/
def State.freeSems (s : State) (idx : Nat) : State :=
  s.forAll (List.range 64) fun t n => if t.f (F.HQ_SEM.OWNER n) = idx then t.setF (F.HQ_SEM.OWNER n) 0xF else t

/-- A block reset of processor p (12 R359): registers, accumulators, stacks, slots and latches are cleared, its
semaphores freed and its watchdog's EXP cleared; with a set-up admitted it restarts in the dispatcher at the next
boundary, else it stays `dead`, halted until the next chip reset. -/
def State.resetProc (s : State) (p : Nat) : State :=
  let t := s.setProc p { run := if s.admitted then .restart else .dead }
  let u := t.freeSems (reqIdx (procReq p));
  { (u.setB (F.FCU_WDT.EXP p) false) with
    tm := { u.tm with hiLatch := tblSet (fun _ => (0 : Word)) u.tm.hiLatch (reqIdx (procReq p)) 0 } }

/-- A CAN controller's hidden state. -/
def State.canCtl (s : State) (n : Nat) : CanCtl := tblGet (fun _ => ({} : CanCtl)) s.can n

/-- The state with a CAN controller's hidden state changed. -/
def State.modCan (s : State) (n : Nat) (h : CanCtl → CanCtl) : State :=
  { s with can := tblSet (fun _ => ({} : CanCtl)) s.can n (h (s.canCtl n)) }

/-- CAN_CMD.RESET and the block reset of a CAN controller (12 R359, 14 R429): the protocol state and both counters
clear, the configuration stays, and the controller waits for 128 occurrences of 11 recessive bits. -/
def State.resetCan (s : State) (n : Nat) : State :=
  let t := (s.setReg (R.CAN_ERRCNT n) 0).setB (F.CAN_STAT.TXBUSY n) false
  let u := if t.f (F.CAN_STAT.STATE n) = 0 then t
    else (t.setF (F.CAN_STAT.STATE n) 0).setB (F.CAN_STAT.STATECHG n) true
  (u.setB (F.CAN_STAT.RECOVERING n) true).modCan n fun c => { c with tx := none }

end Sys2Proof.Machine
end

