-- ==== Sys2Proof/Machine/Fault.lean ====
section
/-! DEFINITION. The Fault Collector (12): live levels, the setting of an FSW bit with its first-source latch, record,
count and reaction, the clearing rules, ERR_N, the firmware sources, the watchdogs and the Ledger; and the commands of
its family. -/

namespace Sys2Proof.Machine

/-- FCU_FSW bit of a source. -/
def fswField (src : Nat) : Field :=
  if src < 32 then ⟨R.FCU_FSW0, src, src⟩ else ⟨R.FCU_FSW1, src - 32, src - 32⟩

/-- Some channel of 0 to 7 holds the given status bit. -/
def State.anyChannel (s : State) (x : Nat → Field) : Bool := (List.range 8).any fun c => s.fb (x c)

/-- The live level of a source (12 R353, R354, R362): the conditions of the level sources; an event source reads 0
outside the cycle of its event. The lines of sources 0, 3, 4, 6 and 7, which no register shows, read 0 (log 10). -/
def State.level (s : State) (src : Nat) : Bool :=
  match src with
  | 1 => s.tm.lockLost
  | 5 => s.fb F.TRU_STATUS.KEYBAD
  | 11 => (List.range 4).any fun n => decide (s.reg (R.LNK_LOSTMAP n) ≠ 0)
  | 16 => s.on 6 && ctxIdx.any fun i => decide (s.ctxN i 0x06C % 2 ^ 29 ≠ 0)
  | 18 => s.fb F.RNG_STATUS.BUDDYLOST
  | 20 => s.fb F.STM_STATUS.COAST || s.fb F.STM_STATUS.SETTLE || s.fb F.STM_STATUS.FARSLEW
  | 21 => s.anyChannel F.BRP_STAT.SC
  | 22 => s.anyChannel F.BRP_STAT.BOOTUV
  | 23 => s.anyChannel F.BRP_STAT.TRIP
  | 24 => s.fb F.MSR_STATUS.SUPPLY
  | 25 => s.fb F.MSR_STATUS.TJHI
  | 26 => (List.range 5).any fun q => decide ((s.proc q).run = .stopped) || s.fb (F.FCU_WDT.EXP q)
  | 27 => s.fb F.SFU_STATUS.DEGA || s.fb F.SFU_STATUS.DEGB || s.fb F.SFU_STATUS.PATHDEG
  | 29 => (List.range 2).any fun n => decide (s.f (F.CAN_STAT.STATE n) = 2)
  | _ => decide (32 ≤ src) && bitAt (s.reg R.FCU_SWFLT) (src - 32)

/-- The FSW bit of a source is set. -/
def State.fsw (s : State) (src : Nat) : Bool := s.fb (fswField src)

/-- FCU_FSRC latches the first source with its class and time; a later setting sets OVF and counts (12 R361). -/
def State.latchFirst (s : State) (src : Nat) : State :=
  if s.fb F.FCU_FSRC.VALID then (s.setB F.FCU_FSRC.OVF true).satF F.FCU_FSRC.NLATER 1
  else
    let w := 0x80000000 + b2n (!s.timeValid) * 2 ^ 29 + s.f (F.FCU_REACT.CLASS src) * 2 ^ 24 + src
    ((s.setReg R.FCU_FSRC (wN w)).setReg R.FCU_FTIMELO (s.tm.count.extractLsb' 0 32)).setReg R.FCU_FTIMEHI
      (s.tm.count.extractLsb' 32 32)

/-- The grave latch of a class-4 source, with the Bedrock seconds of the first (12 R364). -/
def State.latchGrave (s : State) (src : Nat) : State :=
  let t := if s.grave then s else s.setF F.FCU_GRAVE.SECS (min (s.f F.SYSC_BSEC.SECS) (2 ^ 24 - 1))
  t.setReg R.FCU_GRAVE (setFld (t.reg R.FCU_GRAVE) (src % 8) (src % 8) 1)

/-- The records of a CHIP_RESET stand ahead of every record that waits (12 R360). -/
def State.recordsAhead (s : State) (l : List LedgerRec) : State :=
  { s with fcu := { s.fcu with ledger := l ++ s.fcu.ledger } }

/-- A record of the FCU's own block as data. -/
def State.fcuRec (s : State) (src code data : Nat) : LedgerRec :=
  { time := s.tm.count, source := BitVec.ofNat 16 (b2n (!s.timeValid) * 0x8000 + 5 * 256 + src % 256),
    code := BitVec.ofNat 16 code, data := BitVec.ofNat 32 data }

/-- DATA of record 0x0001: FIRST, OVF, class and reaction (12 R370). -/
def State.fswData (s : State) (src : Nat) (first : Bool) : Nat :=
  b2n first * 0x200 + b2n (s.fb F.FCU_FSRC.OVF) * 0x100 + s.f (F.FCU_REACT.CLASS src) * 0x10 +
    s.f (F.FCU_REACT.REACT src)

/-- The reaction of a source, taken once (12 R357 to R360). `unit` names the processor of source 26 or the controller
of source 29; a class-4 source also records its grave latch (R370). INT and NMI act through the level of VIC sources 1 and 0. -/
def State.react (s : State) (src unit : Nat) (first : Bool) : State :=
  match s.f (F.FCU_REACT.REACT src) with
  | 3 =>
    let t := s.record 5 src 1 (s.fswData src first)
    if src = 26 then t.resetProc unit else if src = 29 then t.resetCan unit else t
  | 4 =>
    let recs := [s.fcuRec src 1 (s.fswData src first)] ++
      (if s.f (F.FCU_REACT.CLASS src) = 4 then [s.fcuRec src 3 src] else []) ++ [s.fcuRec src 2 src]
    let t := (s.setReg R.FCU_RSTCAUSE (wN (2 * 256 + src)))
    (t.recordsAhead recs).chipReset
  | _ =>
    let t := s.record 5 src 1 (s.fswData src first)
    if s.f (F.FCU_REACT.CLASS src) = 4 then t.record 5 src 3 src else t

/-- A source sets its FSW bit (12 R353, R358, R361): the count of its assertions advances; a bit already set takes no
new reaction and writes no record. With PD2 off there is no FCU. -/
def State.raiseUnit (s : State) (src unit : Nat) : State :=
  if s.on 2 then
    let t := s.satF (F.FCU_REACT.COUNT src) 1
    if t.fsw src then t
    else
      let first := !t.fb F.FCU_FSRC.VALID
      let u := (t.setB (fswField src) true).latchFirst src
      let v := if u.f (F.FCU_REACT.CLASS src) = 4 then u.latchGrave src else u
      v.react src unit first
  else s

/-- A source that concerns no unit sets its FSW bit. -/
def State.raise (s : State) (src : Nat) : State := s.raiseUnit src 0

/-- After an operation, the level sources of the list that have risen set their bits (12 R353, R358). -/
def State.roseUnit (s0 s : State) (srcs : List Nat) (unit : Nat) : State :=
  s.forAll srcs fun t src => if !s0.level src && s.level src then t.raiseUnit src unit else t

/-- As `roseUnit`, for sources that concern no unit. -/
def State.rose (s0 s : State) (srcs : List Nat) : State := s0.roseUnit s srcs 0

/-- ERR_N is low (12 R363). -/
def State.errN (s : State) : Bool :=
  !s.on 2 || s.pwr.inReset || s.grave ||
    (List.range 64).any fun src => s.fsw src &&
      (s.fb (F.FCU_REACT.ERREN src) ||
        (let c := s.f F.FCU_CTRL.ERRCLASS
         decide (1 ≤ c ∧ c ≤ 4 ∧ c ≤ s.f (F.FCU_REACT.CLASS src))))

/-- A stop of a processor under 06 R223: it raises its watchdog source and writes a record. -/
def State.stopProc (s : State) (p : Nat) : State :=
  let q := s.proc p
  let t := (s.setProc p { q with run := .stopped }).note (0x20 + p) 1 q.pc.toNat
  s.roseUnit t [26] p

/-! ## Commands -/

/-- A source's line is asserted for one cycle (12 R353, R358). -/
def State.faultSourceSet (s : State) (src unit : Nat) : State := if s.live then s.raiseUnit src unit else s

/-- The two lines of a dual-rail pair stand at one level for 2 cycles (12 R355). -/
def State.dualRailEqual (s : State) (src : Nat) : State :=
  if s.live then
    let t := if bitAt (s.reg R.FCU_RAIL) src then s
      else (s.setReg R.FCU_RAIL (setFld (s.reg R.FCU_RAIL) src src 1)).record 5 src 0x11 src
    t.raise src
  else s

/-- A write of FCU_FSW (12 R353, R356, R364): bits 0 to 7 clear for the safety pair only, the bits of a grave latch do
not clear, and a bit whose level source is still asserted stays set. Clearing a bit clears its FCU_RAIL bit. -/
def State.fswClear (s : State) (req : Requester) (lo hi : Word) : State :=
  if s.on 2 then
    let pair := decide (req = .pair)
    let t := if !pair && decide (fld lo 7 0 ≠ 0) then s.setB F.FCU_CTRL.PRIVREJ true else s
    t.forAll (List.range 64) fun u src =>
      let asked := if src < 32 then bitAt lo src else bitAt hi (src - 32)
      let held := s.level src || (decide (src < 8) && (!pair || bitAt (s.reg R.FCU_GRAVE) src))
      if asked && !held then
        let v := u.setB (fswField src) false
        let w := if src < 8 then v.setReg R.FCU_RAIL (setFld (v.reg R.FCU_RAIL) src src 0) else v
        -- BOTHON clears with source 3 (10 R323, R329).
        if src = 3 then w.forAll (List.range 8) fun x c => x.setB (F.BRP_STAT.BOTHON c) false else w
      else u
  else s

/-- A write of 1 to FCU_FSRC.VALID re-arms the first-source latch: VALID, OVF, NLATER and the time with its TINV clear
(12 R361). -/
def State.fsrcRearm (s : State) : State :=
  if s.on 2 then
    let t := ((s.setB F.FCU_FSRC.VALID false).setB F.FCU_FSRC.OVF false).setB F.FCU_FSRC.TINV false
    ((t.setF F.FCU_FSRC.NLATER 0).setReg R.FCU_FTIMELO 0).setReg R.FCU_FTIMEHI 0
  else s

/-- A reaction code may be selected for a source (12 R356, R357, R366). -/
def reactOk (src react cls : Nat) : Bool :=
  decide (react ≤ 4) && (decide (react ≠ 3) || decide (src = 26 ∨ src = 29)) &&
    (decide (8 ≤ src) || decide (react = 2 ∨ react = 4)) &&
    (decide (src < 32) || decide (1 ≤ cls ∧ cls ≤ 3))

/-- A write of FCU_REACTs (12 R356, R357, R366): an invalid selection changes nothing and sets REACTREJ; the register
is RWL. -/
def State.reactWrite (s : State) (src : Nat) (v : Word) : State :=
  if s.on 2 then
    if s.admitted then s
    else if reactOk src (fld v 2 0) (fld v 10 8) then
      let a := R.FCU_REACT src
      let w := setFld (s.reg a) 2 0 (fld v 2 0)
      let w1 := if src < 8 then w else setFld w 31 31 (fld v 31 31)
      s.setReg a (if src < 32 then w1 else setFld w1 10 8 (fld v 10 8))
    else s.setB F.FCU_CTRL.REACTREJ true
  else s

/-- The firmware sources take a new value: each bit that rises asserts its source (12 R366). -/
def State.setSwFlt (s : State) (v : Word) : State :=
  if s.on 2 then
    s.rose (s.setReg R.FCU_SWFLT v) ((List.range 32).map (· + 32))
  else s

/-- A write of KICK restarts the count and leaves EXP set (12 R367). -/
def State.watchdogKick (s : State) (q : Nat) : State :=
  if s.on 2 then { s with fcu := { s.fcu with wdt := tblSet (fun _ => (0 : Nat)) s.fcu.wdt q 0 } } else s

/-- The watchdog of processor q reaches its TIMEOUT: EXP is set and source 26 asserted (12 R367). The count stands at
TIMEOUT when this happens. -/
def State.watchdogExpiry (s : State) (q : Nat) : State :=
  let n := s.f (F.FCU_WDT.TIMEOUT q)
  if s.live && decide (0 < n) && decide (tblGet (fun _ => (0 : Nat)) s.fcu.wdt q ≥ n) && !s.fb (F.FCU_WDT.EXP q) then
    s.roseUnit (s.setB (F.FCU_WDT.EXP q) true) [26] q
  else s

/-- The watchdogs count a period boundary (12 R367). -/
def State.wdtBoundary (s : State) : State :=
  if s.live then
    s.forAll (List.range 5) fun t q =>
      if 0 < t.f (F.FCU_WDT.TIMEOUT q) then
        { t with fcu := { t.fcu with
          wdt := tblSet (fun _ => (0 : Nat)) t.fcu.wdt q (tblGet (fun _ => (0 : Nat)) t.fcu.wdt q + 1) } }
      else t
  else s

/-- The address of Ledger record n (12 R369). -/
def ledgerAddr (n : Nat) : Nat := 0x34000000 + n * 16

/-- The oldest waiting record is written to the Ledger and the pointer advances, wrapping after 16,383 (12 R371). -/
def State.writeRecord (s : State) (r : LedgerRec) : State :=
  let n := s.f F.FCU_LDGPTR.WPTR
  let a := ledgerAddr n
  let t := (((s.std a r.time).stw (a + 8) (r.code ++ r.source)).stw (a + 12) r.data)
  if n = 16383 then (t.setF F.FCU_LDGPTR.WPTR 0).incF F.FCU_LDGPTR.WRAPS 1
  else t.setF F.FCU_LDGPTR.WPTR (n + 1)

/-- A record of processor q entered through FCU_LWCODEq (12 R373). -/
def State.firmwareRecord (s : State) (q src code : Nat) (data : Word) : State :=
  if s.on 2 then
    let t := s.setReg (R.FCU_LWDATA q) data
    if 0x8000 ≤ code ∧ (src = 0xFF ∨ (32 ≤ src ∧ src ≤ 63)) then t.record (0x20 + q) src code data.toNat
    else t.incF F.FCU_LDGLOST.WREJ 1
  else s

/-- Fault injection exists only in factory test mode, and every KQ7063-I has the test fuse blown: the write is ignored
(12 R375). INJEN shows the mode. -/
def State.faultInject (s : State) (rail : Bool) (src : Nat) : State :=
  if s.live && s.fb F.FCU_CTRL.INJEN then
    if rail then (if src < 8 then s.dualRailEqual src else s) else s.raise src
  else s

end Sys2Proof.Machine
end

