-- ==== Sys2Proof/Machine/Queue.lean ====
section
/-! DEFINITION. The hardware queues and semaphores (08 R257, R267 to R272), the push and pop of a processor and of a
hardware end, and the Ledger's write with its copy to Q24 (12 R371, R372). -/

namespace Sys2Proof.Machine

/-- The entries of queue q, oldest first. -/
def State.queue (s : State) (q : Nat) : List DWord := tblGet (fun _ => ([] : List DWord)) s.queues q

/-- The state with queue q's entries replaced. -/
def State.setQueue (s : State) (q : Nat) (l : List DWord) : State :=
  { s with queues := tblSet (fun _ => ([] : List DWord)) s.queues q l }

/-- The capacity of queue q (08 R267). -/
def State.qCap (s : State) (q : Nat) : Nat := 16 * 2 ^ s.f (F.HQ_CFG.SIZE q)

/-- The queue unit runs and queue q is in use (HQ_CTRL.EN, HQ_CFGq.EN). -/
def State.qOn (s : State) (q : Nat) : Bool := s.on 3 && s.fb F.HQ_CTRL.EN && s.fb (F.HQ_CFG.EN q)

/-- The threshold condition of queue q (08 R271). -/
def State.qCond (s : State) (q : Nat) : Bool :=
  if s.fb (F.HQ_THR.DIR q) then decide ((s.queue q).length ≤ s.f (F.HQ_THR.WM q))
  else decide (s.f (F.HQ_THR.WM q) ≤ (s.queue q).length)

/-- HQ_STATq as it reads (08, HQ registers): the stored OVF with the live count and flags. -/
def State.qStat (s : State) (q : Nat) : Word :=
  let n := (s.queue q).length
  wN (b2n (s.qCond q) * 2 ^ 31 + s.f (F.HQ_STAT.OVF q) * 2 ^ 30 + b2n (decide (n = s.qCap q)) * 2 ^ 29 +
    b2n (decide (n = 0)) * 2 ^ 28 + n % 2 ^ 13)

/-- A push by a hardware producer: a full queue discards it, counts it in HWDROP and sets OVF (08 R270). A queue that
does not run takes nothing. -/
def State.hwPush (s : State) (q : Nat) (e : DWord) : State :=
  if s.qOn q then
    if (s.queue q).length < s.qCap q then s.setQueue q (s.queue q ++ [e])
    else (s.incF (F.HQ_DROP.HWDROP q) 1).setB (F.HQ_STAT.OVF q) true
  else s

/-- The queues with a hardware producer (08 R268). -/
def hwProducer (q : Nat) : Bool :=
  decide (8 ≤ q ∧ q ≤ 15) || decide (q = 20 ∨ q = 21 ∨ q = 23 ∨ q = 24 ∨ q = 25 ∨ q = 27)

/-- The queues with a hardware consumer (08 R268). -/
def hwConsumer (q : Nat) : Bool := decide (16 ≤ q ∧ q ≤ 19) || decide (q = 22 ∨ q = 26)

/-- Processor p may push to queue q (08 R268). -/
def State.mayPush (s : State) (p q : Nat) : Bool :=
  !hwProducer q && bitAt (s.reg (R.HQ_ACL q)) p

/-- Processor p may pop queue q: Q28 to Q31 belong to the safety pair (08 R268). -/
def State.mayPop (s : State) (p q : Nat) : Bool :=
  !hwConsumer q && (if 28 ≤ q then decide (p = 4) else bitAt (s.reg (R.HQ_ACL q)) (16 + p))

/-- The result code of a queue instruction in STATUS.QR (06 R216): 0 done, 1 FULL or EMPTY, 2 DENIED. -/
def State.procPush (s : State) (p q : Nat) (e : DWord) : State × Nat :=
  if !s.qOn q || !s.mayPush p q then (s, 2)
  else if (s.queue q).length < s.qCap q then (s.setQueue q (s.queue q ++ [e]), 0)
  else (s.incF (F.HQ_DROP.FULLREJ q) 1, 1)

/-- A pop by processor p: the oldest entry, or none with its code (06 R216, 08 R269). -/
def State.procPop (s : State) (p q : Nat) : State × Option DWord × Nat :=
  if !s.qOn q || !s.mayPop p q then (s, none, 2)
  else match s.queue q with
    | [] => (s, none, 1)
    | e :: l => (s.setQueue q l, some e, 0)

/-- A pop by a hardware consumer: an empty queue gives nothing (08 R270). -/
def State.hwPop (s : State) (q : Nat) : State × Option DWord :=
  if s.qOn q then
    match s.queue q with
    | [] => (s, none)
    | e :: l => (s.setQueue q l, some e)
  else (s, none)

/-- A push that the hardware end of a queue makes, as a command; a queue without a hardware producer takes none. -/
def State.hardwarePush (s : State) (q : Nat) (e : DWord) : State := if hwProducer q then s.hwPush q e else s

/-- A pop that the hardware end of a queue makes, as a command; the entry stands in `busOut`. -/
def State.hardwarePop (s : State) (q : Nat) : State :=
  if hwConsumer q then
    match s.hwPop q with
    | (t, some e) => { t with busOut := e }
    | (t, none) => t
  else s

/-- A write of HQ_FLUSHq.FLUSH = 1 (08 R272). -/
def State.queueFlush (s : State) (q : Nat) : State := if s.on 3 then s.setQueue q [] else s

/-- Only the processors and the host port acquire semaphores (08 R257): the safety pair, the cores and the host. -/
def semUser : Requester → Bool
  | .pair | .core0 | .core1 | .core2 | .core3 | .host => true
  | _ => false

/-- A read of HQ_SEMn (08 R257): the state after it and the word it returns. -/
def State.semRead (s : State) (req : Requester) (n : Nat) : State × Word :=
  let o := s.f (F.HQ_SEM.OWNER n)
  if o = 0xF then
    if semUser req then (s.setF (F.HQ_SEM.OWNER n) (reqIdx req), wN (0xC0000000 + reqIdx req))
    else (s, wN 0xF)
  else (s, wN (0x40000000 + o))

/-- The acquire of a semaphore as a command: the word read stands in `busOut` (08 R257). -/
def State.semAcquire (s : State) (req : Requester) (n : Nat) : State :=
  if s.on 3 then
    let r := s.semRead req n
    { r.1 with busOut := r.2.setWidth 64 }
  else s

/-- A write of REL = 1: the owner frees the semaphore, any other requester is ignored and counted (08 R257). -/
def State.semRelease (s : State) (req : Requester) (n : Nat) : State :=
  if s.on 3 then
    if s.f (F.HQ_SEM.OWNER n) = reqIdx req then s.setF (F.HQ_SEM.OWNER n) 0xF
    else s.incF F.HQ_SEMREJ.SEMREJ 1
  else s

/-- The Ledger writes its oldest waiting record, and with EXPEN pushes it to Q24 as two entries when Q24 has room for
both; otherwise HWDROP counts 2 (12 R371, R372). -/
def State.ledgerWrite (s : State) : State :=
  if s.on 2 then
    match s.fcu.ledger with
    | [] => s
    | r :: l =>
      let t := State.writeRecord { s with fcu := { s.fcu with ledger := l } } r
      if t.fb F.FCU_LEDGER.EXPEN && t.qOn 24 then
        if (t.queue 24).length + 2 ≤ t.qCap 24 then
          t.setQueue 24 (t.queue 24 ++ [r.time, (r.source ++ r.code) ++ r.data])
        else (t.incF (F.HQ_DROP.HWDROP 24) 2).setB (F.HQ_STAT.OVF 24) true
      else t
  else s

end Sys2Proof.Machine
end

