-- ==== Sys2Proof/Machine/Interrupt.lean ====
section
/-! DEFINITION. Taking an exception and an interrupt, returning from one, and the interrupt controller's routing
(06 R221 to R227, 08 R259 to R266): ONE shared operation enters, one returns. -/

namespace Sys2Proof.Machine

/-! ## STATUS (06, special 0) -/

/-- STATUS as MFS reads it: the stored bits with ISD, the depth of the interrupt stack. -/
def statusWord (q : Proc) : Word := setFld q.status 19 15 q.istack.length

/-- LEVEL, the running priority. -/
def levelOf (q : Proc) : Nat := fld q.status 3 0

/-- IE, interrupts enabled. -/
def ieOf (q : Proc) : Bool := bitAt q.status 4

/-- BANK, the interrupt bank of g24 to g31 in use. -/
def bankOf (q : Proc) : Bool := bitAt q.status 5

/-- A field of STATUS replaced. -/
def setStatus (q : Proc) (hi lo v : Nat) : Proc := { q with status := setFld q.status hi lo v }

/-! ## Entry and return -/

/-- The Control Engine stops its program, as R163 stops one at its deadline (05 R163, 06 R220): OVERRUN is set, source
13 is raised, and no COMMIT entry transfers at the end of the period. -/
def State.engineStop (s : State) : State :=
  let t := (s.setB F.CE_STATUS.OVERRUN true).setB F.CE_STATUS.RUN false
  let u := t.modProc 5 fun q => { q with run := .halted };
  State.raise { u with ce := { u.ce with overrun := true, slot := none } } 13

/-- ENTRY, shared by exceptions and interrupts (06 R222 to R224): the return address and STATUS[19:0] are pushed with
INT and CODE, the interrupt bank is selected when LEVEL is 0, LEVEL takes `level` and the pc `target`. An entry that
finds 16 entries held stops the core (R223). -/
def State.enter (s : State) (p : Nat) (epc : Word) (isInt : Bool) (code level : Nat) (target : Word) : State :=
  let q := s.proc p
  if 16 ≤ q.istack.length then s.stopProc p
  else
    let e : StackEntry := { epc := epc &&& 0xFFFFFFFC#32,
                            estat := wN (b2n isInt * 2 ^ 31 + code % 256 * 2 ^ 23 + fld (statusWord q) 19 0) }
    let st := setFld (if levelOf q = 0 then setFld q.status 5 5 1 else q.status) 3 0 level
    s.setProc p { q with
      istack := e :: q.istack
      serv := (if isInt then some code else none) :: q.serv
      status := st
      pc := target
      run := .running
      latched := none }

/-- An exception of a processor (06 R221, R222): the handler stands at cause × 0x10 of the processor's own TCM; LEVEL
and IE stay. In an engine program it stops the program, with the cause in ESTAT and the address in EPC (R220). -/
def State.exception (s : State) (p cause : Nat) (epc : Word) : State :=
  if p = 5 then
    (s.modProc 5 fun q => { q with epc0 := epc, estat0 := wN (cause * 2 ^ 23) }).engineStop
  else s.enter p epc false cause (levelOf (s.proc p)) (wN (0x00100000 + cause * 0x10))

/-- The physical address of a processor's own TCM (00 R14): cores 0 to 3 and the safety pair. -/
def tcmBase (p : Nat) : Nat := if p = 4 then 0x240000 else 0x140000 + p * 0x40000

/-- The size of a processor's own TCM. -/
def tcmSize (p : Nat) : Nat := if p = 4 then 0x20000 else 0x40000

/-- The physical address of an address that processor p issues: the own alias stands for the own TCM (00 R14). -/
def physAddr (p a : Nat) : Nat :=
  if p < 5 ∧ 0x100000 ≤ a ∧ a < 0x100000 + tcmSize p then tcmBase p + (a - 0x100000) else a

/-- The handler address in entry n of processor p's vector table, bits [31:2] of the entry (08 R261; log 12). -/
def State.vector (s : State) (p n : Nat) : Word :=
  s.ldw (physAddr p (s.f (F.VIC_VTBASE.BASE p) * 1024 + 4 * n)) &&& 0xFFFFFFFC#32

/-- A counted entry of an admitted handler: beyond NMAX in a period it raises source 31 and counts in RATE
(07 R251). -/
def State.countEntry (s : State) (p n : Nat) : State :=
  match s.admitted, s.adm.handlers.find? fun h => h.source == n with
  | true, some h =>
    let c := tblGet (fun _ => (0 : Nat)) (s.proc p).entries n + 1
    let t := s.modProc p fun q => { q with entries := tblSet (fun _ => (0 : Nat)) q.entries n c }
    if h.nmax < c then (t.satF (F.ADM_POL.RATE p) 1).raise 31 else t
  | _, _ => s

/-- The priority of a source: 15 for the NMI (08 R266), PRIO otherwise. -/
def State.prio (s : State) (n : Nat) : Nat := if n = 0 then 15 else s.f (F.VIC_SRC.PRIO n)

/-- The entry of a committed interrupt (06 R224): the state the processor leaves is at its pc. -/
def State.enterInt (s : State) (p n : Nat) : State :=
  let full := decide (16 ≤ (s.proc p).istack.length)
  let t := s.enter p (s.proc p).pc true n (s.prio n) (s.vector p n)
  if full then t else t.countEntry p n

/-! ## The controller (08) -/

/-- A status bit of a register with its enable bit set. -/
def State.stEn (s : State) (st en : Nat) (mask : Word) : Bool :=
  decide ((s.reg st &&& s.reg en &&& mask) ≠ 0)

/-- Some FSW bit whose reaction is one of the list is set (12 R357). -/
def State.anyReact (s : State) (l : List Nat) : Bool :=
  (List.range 64).any fun src => s.fsw src && l.contains (s.f (F.FCU_REACT.REACT src))

/-- The status bits of a bridge-port channel that its enables select (10, BRP_STATc and BRP_IENc). -/
def State.brpInt (s : State) (c : Nat) : Bool :=
  (s.fb (F.BRP_STAT.BOTHON c) && s.fb (F.BRP_IEN.BOTHON c)) || (s.fb (F.BRP_STAT.SC c) && s.fb (F.BRP_IEN.SC c)) ||
    (s.fb (F.BRP_STAT.BOOTUV c) && s.fb (F.BRP_IEN.BOOTUV c)) || (s.fb (F.BRP_STAT.TRIP c) && s.fb (F.BRP_IEN.TRIP c)) ||
    (s.fb (F.BRP_STAT.ILK c) && s.fb (F.BRP_IEN.ILK c)) || (s.fb (F.BRP_STAT.TORN c) && s.fb (F.BRP_IEN.TORN c)) ||
    (s.fb (F.BRP_STAT.STOPDONE c) && s.fb (F.BRP_IEN.STOPDONE c))

/-- Source n is asserted: its block's condition holds (08 R259, R260). Sources 48 and 51 have no enable bit in the
register tables and are never asserted (log 13). -/
def State.asserted (s : State) (n : Nat) : Bool :=
  if n = 0 then s.anyReact [2]
  else if n = 1 then s.anyReact [1, 3]
  else if n = 2 then s.stEn R.SFU_STATUS R.SFU_IEN 0xFFFFF000
  else if n = 3 then s.on 1 && !s.fb F.CLK_STATUS.LOCKED
  else if n = 4 then s.adm.waiting
  else if n = 5 then s.fb F.SYSC_PSTAT.DONE || s.fb F.SYSC_WAKE.ALARM || decide (s.reg R.CAN_WAKESTAT ≠ 0)
  else if n < 8 then false
  else if n < 16 then s.fb (F.STM_CMPHI.FIRED (n - 8)) && s.fb (F.STM_CMPHI.INT (n - 8))
  else if n < 48 then s.qOn (n - 16) && s.qCond (n - 16)
  else if n = 49 then s.fb F.CS_STATUS.STOPREQ || s.fb F.CS_STATUS.LATE
  else if n = 50 then s.fb F.CE_STATUS.OVERRUN || s.fb F.CE_STATUS.LATEPOST || s.fb F.CE_STATUS.SUBST
  else if 52 ≤ n ∧ n < 60 then s.brpInt (n - 52)
  else if n = 60 then decide (s.f F.BRP_TRIPSTAT.ASSERTED ≠ 0)
  else if n = 61 then s.stEn R.MSR_STATUS R.MSR_IEN 0xFE
  else if n = 62 ∨ n = 63 then s.stEn (R.ETH_MSTAT (n - 62)) (R.ETH_MIEN (n - 62)) 0xFF000000
  else if n = 64 ∨ n = 65 then s.stEn (R.CAN_STAT (n - 64)) (R.CAN_IEN (n - 64)) 0xFF000000
  else if n = 66 then s.stEn R.TRU_STATUS R.TRU_CTRL 0x7
  else if n = 67 then s.stEn R.HPD_STATUS R.HPD_IEN 0x3E
  else if 224 ≤ n ∧ n < 256 then bitAt (s.reg R.VIC_SWSRC) (n - 224)
  else false

/-- Source n is in service on some processor (08 R263). -/
def State.inService (s : State) (n : Nat) : Bool :=
  (List.range 5).any fun p => (s.proc p).serv.contains (some n)

/-- Source n is pending (08 R259). -/
def State.isPending (s : State) (n : Nat) : Bool :=
  decide (n ≠ 0) && s.asserted n && s.fb (F.VIC_SRC.EN n) && decide (s.f (F.VIC_SRC.PRIO n) ≠ 0) && !s.inService n

/-- The NMIs processor (VIC_NMICFG: 5 to 7 act as 0). -/
def State.nmiProc (s : State) : Nat := if s.f F.VIC_NMICFG.PROC ≤ 4 then s.f F.VIC_NMICFG.PROC else 0

/-- A processor takes interrupts: powered, not halted or stopped. -/
def State.takesInt (s : State) (p : Nat) : Bool :=
  s.live && s.on (procDom p) && !(s.proc p).dbgHalt &&
    (match (s.proc p).run with
     | .running | .waitPeriod _ | .waitTime _ | .sleeping => true
     | _ => false)

/-- Processor p is eligible for source n at running priority `lev` (08 R262), its latch apart. -/
def State.eligible (s : State) (p n lev : Nat) : Bool :=
  s.fb F.VIC_CTRL.EN && bitAt (s.reg (R.VIC_SRC n)) (16 + p) && ieOf (s.proc p) && decide (lev < s.prio n) &&
    s.takesInt p

/-- A source latched in an entry that has not committed is excluded from routing (08 R263). -/
def State.isLatched (s : State) (n : Nat) : Bool := (List.range 5).any fun p => decide ((s.proc p).latched = some n)

/-- The pending sources by priority descending, then number ascending (08 R262). -/
def State.pendingOrder (s : State) : List Nat :=
  let l := (List.range 256).filter fun n => s.isPending n && !s.isLatched n
  ((List.range 15).map fun i => 15 - i).flatMap fun pr => l.filter fun n => decide (s.prio n = pr)

/-- Among processors, the one with the lowest level, ties to the lowest number (08 R262). -/
def State.lowest (s : State) : List Nat → Option Nat
  | [] => none
  | p :: l =>
    match State.lowest s l with
    | none => some p
    | some r => if levelOf (s.proc p) ≤ levelOf (s.proc r) then some p else some r

/-- One step of arbitration: a pending source takes the best eligible processor that no earlier source took. -/
def State.arbStep (s : State) (acc : List (Nat × Nat)) (n : Nat) : List (Nat × Nat) :=
  let c := (List.range 5).filter fun p =>
    s.eligible p n (levelOf (s.proc p)) && decide ((s.proc p).latched = none) && !(acc.any fun e => e.1 == p)
  match s.lowest c with
  | none => acc
  | some p => acc ++ [(p, n)]

/-- The winners of one arbitration (08 R262): (processor, source). -/
def State.winners (s : State) : List (Nat × Nat) := s.pendingOrder.foldl s.arbStep []

/-- VIC_ARBITRATION: the winners are latched, entry cycle 1 (06 R224, 08 R262, R263). -/
def State.arbitrate (s : State) : State :=
  s.forAll s.winners fun t e => t.modProc e.1 fun q => { q with latched := some e.2 }

/-- The best source other processors have not latched that processor p may take now at level `lev`. -/
def State.bestFor (s : State) (p lev : Nat) : Option Nat :=
  (s.pendingOrder.filter fun n => s.eligible p n lev).head?

/-- INTERRUPT_ENTRY of processor p (06 R224, 08 R263 to R265): in entry cycle 2 a higher priority replaces the latched
source; a source no longer pending is withdrawn and counted; otherwise the vector commits and the handler is
entered. -/
def State.interruptEntry (s : State) (p : Nat) : State :=
  match (s.proc p).latched with
  | none => s
  | some n =>
    if !s.takesInt p then s
    else
      let b := s.bestFor p (levelOf (s.proc p))
      if s.isPending n then
        match b with
        | some m => if s.prio n < s.prio m then s.enterInt p m else s.enterInt p n
        | none => s.enterInt p n
      else
        match b with
        | some m => s.enterInt p m
        | none => (s.modProc p fun q => { q with latched := none }).incF F.VIC_WDRAW.COUNT 1

/-- NMI_ENTRY: source 0 on the processor VIC_NMICFG names, whatever IE, EN and LEVEL, unless it is already in service
there; it replaces a latched source (08 R266). -/
def State.nmiEntry (s : State) : State :=
  let p := s.nmiProc
  if s.asserted 0 && s.takesInt p && !((s.proc p).serv.contains (some 0)) then s.enterInt p 0 else s

/-- The return from a handler, shared (06 R225): with a pending source that outranks the level returned to, the return
is chained, the top entry stays and the new handler runs on the interrupt bank; otherwise LEVEL, IE and BANK come back
from SSTATUS and the stream resumes at EPC. -/
def State.returnInt (s : State) (p : Nat) : State :=
  let q := s.proc p
  match q.istack, q.serv with
  | e :: l, _ :: sv =>
    let lev := fld e.estat 3 0
    -- The ending handler's source leaves service at this retirement (08 R263).
    let t := s.setProc p { q with serv := none :: sv }
    match t.bestFor p lev with
    | some n =>
      (t.setProc p { q with
        serv := some n :: sv
        status := setFld (setFld q.status 3 0 (t.prio n)) 5 5 1
        pc := t.vector p n }).countEntry p n
    | none =>
      t.setProc p { q with
        istack := l, serv := sv, pc := e.epc
        status := setFld (setFld (setFld q.status 3 0 lev) 4 4 (fld e.estat 4 4)) 5 5 (fld e.estat 5 5) }
  | _, _ => s

/-- A write of VIC_SRCn (08 R256, R265): EN takes the value; ROUTE and PRIO are RWL. Source 0 has no such register. -/
def State.vicSrcWrite (s : State) (n en route prio : Nat) : State :=
  if s.on 3 && decide (n ≠ 0) then
    let t := s.setF (F.VIC_SRC.EN n) en
    if s.admitted then t else (t.setF (F.VIC_SRC.ROUTE n) route).setF (F.VIC_SRC.PRIO n) prio
  else s

/-- VIC_SWSET and VIC_SWCLR (08 R260). -/
def State.vicSwSet (s : State) (bits : Word) : State :=
  if s.on 3 then s.setReg R.VIC_SWSRC (s.reg R.VIC_SWSRC ||| bits) else s

def State.vicSwClr (s : State) (bits : Word) : State :=
  if s.on 3 then s.setReg R.VIC_SWSRC (s.reg R.VIC_SWSRC &&& ~~~ bits) else s

/-- VIC_LEVELq as it reads (08, VIC registers). -/
def State.vicLevel (s : State) (p : Nat) : Word :=
  let q := s.proc p
  wN (b2n (ieOf q) * 2 ^ 31 + b2n q.latched.isSome * 2 ^ 30 + b2n (decide (q.run = .sleeping)) * 2 ^ 29 +
    q.latched.getD 0 * 2 ^ 8 + levelOf q)

/-- Thirty-two bits of a per-source predicate, source 32 n + b at bit b. -/
def bitMap32 (n : Nat) (h : Nat → Bool) : Word :=
  wN ((List.range 32).foldl (fun a b => if h (32 * n + b) then a + 2 ^ b else a) 0)

end Sys2Proof.Machine
end

