-- ==== Sys2Proof/Machine/Operands.lean ====
section
/-! DEFINITION. The operand forms of Yalirti (06): general registers with their two banks, accumulators, effective
addresses, branch targets, the retirement of an instruction with its loop stack, and the frame every instruction runs
in (fetch check and profile check). -/

namespace Sys2Proof.Machine

/-! ## Registers -/

/-- g[r] as the processor sees it: g0 reads 0, and BANK selects the bank of g24 to g31 (06 R201); the engine has no
interrupt bank (R202). -/
def gprOf (q : Proc) (r : Nat) : Word :=
  if r = 0 then 0
  else if 24 ≤ r ∧ bankOf q then tblGet (fun _ => (0 : Word)) q.gi r
  else tblGet (fun _ => (0 : Word)) q.g r

/-- The processor with g[r] written; a write to g0 is discarded. -/
def setGprOf (q : Proc) (r : Nat) (v : Word) : Proc :=
  if r = 0 then q
  else if 24 ≤ r ∧ bankOf q then { q with gi := tblSet (fun _ => (0 : Word)) q.gi r v }
  else { q with g := tblSet (fun _ => (0 : Word)) q.g r v }

/-- g[r] of processor p. -/
def State.gpr (s : State) (p r : Nat) : Word := gprOf (s.proc p) r

/-- The state with g[r] of processor p written. -/
def State.setGpr (s : State) (p r : Nat) (v : Word) : State := s.modProc p fun q => setGprOf q r v

/-- The 72-bit accumulator a_n of a core-profile processor (06 R202). -/
def accOf (q : Proc) (n : Nat) : Acc := tblGet (fun _ => (0 : Acc)) q.acc n

/-- The processor with an accumulator written. -/
def setAccOf (q : Proc) (n : Nat) (v : Acc) : Proc := { q with acc := tblSet (fun _ => (0 : Acc)) q.acc n v }

/-! ## Addresses and targets -/

/-- The effective address a + sext(imm) (06 R208). -/
def State.effAddr (s : State) (p a : Nat) (imm : BitVec 16) : Nat := (s.gpr p a + imm.signExtend 32).toNat

/-- A branch target PC + 4 + sext(offset) × 4 (06 R207). -/
def branchTo (pc : Word) {n : Nat} (off : BitVec n) : Word := pc + 4 + off.signExtend 32 * 4

/-! ## Retirement and control transfer (06 R211) -/

/-- The next pc after an instruction that does not transfer control: after the last instruction of a body, back to its
first while iterations are left, else on, ending the level. -/
def loopNext : List LoopLevel → Word → Word × List LoopLevel
  | [], pc => (pc + 4, [])
  | l :: ls, pc =>
    if l.last = pc then
      if 1 < l.left then (l.first, { l with left := l.left - 1 } :: ls) else loopNext ls pc
    else (pc + 4, l :: ls)

/-- The processor after an instruction retires without a transfer. -/
def retireProc (q : Proc) : Proc :=
  let r := loopNext q.loops q.pc
  { q with pc := r.1, loops := r.2, run := .running }

/-- The loop levels left after a taken branch or jump to `t`: a level whose body does not hold the target ends, level
by level from the innermost, among the levels begun at the present call and interrupt depth (log 14). -/
def loopExit (calls depth : Nat) (t : Word) : List LoopLevel → List LoopLevel
  | [] => []
  | l :: ls =>
    if l.calls = calls ∧ l.depth = depth ∧ ¬ (l.first.toNat ≤ t.toNat ∧ t.toNat ≤ l.last.toNat) then
      loopExit calls depth t ls
    else l :: ls

/-- The processor after a taken branch or jump. -/
def jumpProc (q : Proc) (t : Word) : Proc :=
  { q with pc := t, loops := loopExit q.calls.length q.istack.length t q.loops, run := .running }

/-- Retirement of processor p. -/
def State.retire (s : State) (p : Nat) : State := s.modProc p retireProc

/-- An instruction that retires and raises an exception: EPC is the next instruction (06 R221). -/
def State.retireWith (s : State) (p cause : Nat) : State :=
  let t := s.retire p
  t.exception p cause (t.proc p).pc

/-! ## The frame of an instruction -/

/-- Processor p executes instructions: reset released, its domain on, running, not halted for debug, and not stalled on
a word that is being restored (06 R198). -/
def State.canRun (s : State) (p : Nat) : Bool :=
  s.live && s.on (procDom p) && decide ((s.proc p).run = .running) && !(s.proc p).dbgHalt &&
    !(s.fcu.restoring.any fun x => decide (x.1 = p))

/-- A processor may fetch at an address (06 R200): the boot ROM, its own TCM, shared SRAM, and external flash while no
set-up is admitted; the engine fetches from its code bank (05 R162). -/
def State.fetchOk (s : State) (p : Nat) (pc : Nat) : Bool :=
  if p = 5 then true
  else
    decide (pc % 4 = 0) &&
    (match regionOf (physAddr p pc) with
     | .rom => true
     | .sram => true
     | .tcm n => decide (n = p)
     | .pairTcm => decide (p = 4)
     | .flash => !s.admitted
     | _ => false) && !tblGet (fun _ => false) s.badWords (physAddr p pc / 4 * 4)

/-- An instruction of processor p: nothing while the processor does not run; FETCH where the address may not be
fetched; ILLOP, without effect, outside the processor's profile (06 R200, R207, R221). -/
def State.instr (s : State) (p : Nat) (core engine : Bool) (body : State → State) : State :=
  if !s.canRun p then s
  else
    let pc := (s.proc p).pc
    if !s.fetchOk p pc.toNat then s.exception p 5 pc
    else if (if p = 5 then engine else core) then body s
    else s.exception p 1 pc

end Sys2Proof.Machine
end

