-- ==== Sys2Proof/Machine/Flags.lean ====
section
/-! DEFINITION. The flags of STATUS that instructions compute (06, special 0): the sticky SAT, OV, DZ and LB, and the
results TW of a timed write and QR of a queue instruction. -/

namespace Sys2Proof.Machine

/-- The sticky flag SAT [10] set when a saturation happened. -/
def flagSat (q : Proc) (b : Bool) : Proc := if b then setStatus q 10 10 1 else q

/-- The sticky flag OV [9]: DIV or REM of −2^31 by −1. -/
def flagOv (q : Proc) (b : Bool) : Proc := if b then setStatus q 9 9 1 else q

/-- The sticky flag DZ [8]: division by zero. -/
def flagDz (q : Proc) (b : Bool) : Proc := if b then setStatus q 8 8 1 else q

/-- The sticky flag LB [13]: a LOOP count was clamped. -/
def flagLb (q : Proc) (b : Bool) : Proc := if b then setStatus q 13 13 1 else q

/-- The sticky flag TWERR [14]: a timed write was refused by its register. -/
def flagTwErr (q : Proc) (b : Bool) : Proc := if b then setStatus q 14 14 1 else q

/-- TW [12:11], the result of the last ATW. -/
def flagTw (q : Proc) (v : Nat) : Proc := setStatus q 12 11 v

/-- QR [7:6], the result of the last queue instruction. -/
def flagQr (q : Proc) (v : Nat) : Proc := setStatus q 7 6 v

/-- Saturation of an exact result to 32 bits, with whether it saturated. -/
def sat32 (v : Int) : Word × Bool :=
  let r := satS 32 v
  (w32 r, decide (r ≠ v))

/-- Saturation of an accumulator at −2^71 and 2^71 − 1, with whether it saturated (05 R170). -/
def satAcc (v : Int) : Acc × Bool :=
  let r := satS 72 v
  (BitVec.ofInt 72 r, decide (r ≠ v))

/-- An accumulator read out with shift s: sat32 of the rounded shift (05 R170, 06 R209). -/
def accOut (a : Acc) (s : Nat) : Word × Bool := sat32 (rsh a.toInt s)

/-- Division as 06 R210 gives it: quotient, and the flags DZ and OV it sets. -/
def divS (a b : Word) : Word × Bool × Bool :=
  if b = 0 then (if a.msb then 0x80000000#32 else 0x7FFFFFFF#32, true, false)
  else if a = 0x80000000#32 ∧ b = 0xFFFFFFFF#32 then (0x7FFFFFFF#32, false, true)
  else (a.sdiv b, false, false)

def divU (a b : Word) : Word × Bool × Bool :=
  if b = 0 then (0xFFFFFFFF#32, true, false) else (a / b, false, false)

def remS (a b : Word) : Word × Bool × Bool :=
  if b = 0 then (a, true, false)
  else if a = 0x80000000#32 ∧ b = 0xFFFFFFFF#32 then (0, false, true)
  else (a.srem b, false, false)

def remU (a b : Word) : Word × Bool × Bool := if b = 0 then (a, true, false) else (a % b, false, false)

/-- The number of leading zeros of a word, 0 to 32. -/
def leadingZeros (a : Word) : Nat :=
  (List.range 32).foldl (fun n i => if n = i ∧ a.getLsbD (31 - i) = false then n + 1 else n) 0

end Sys2Proof.Machine
end

