-- ==== Sys2Proof/Machine/IsaAlu.lean ====
section
/-! DEFINITION. The arithmetic instructions of Yalirti, core and scalar (06 R208 to R210): one meaning per command over
the shared forms below. -/

namespace Sys2Proof.Machine

/-- d ← h(a, b), both profiles, one retirement. -/
def State.aluOp (s : State) (p d a b : Nat) (h : Word → Word → Word) : State :=
  s.instr p true true fun t => (t.setGpr p d (h (t.gpr p a) (t.gpr p b))).retire p

/-- d ← h(a), with an immediate folded into h. -/
def State.immOp (s : State) (p d a : Nat) (h : Word → Word) : State :=
  s.instr p true true fun t => (t.setGpr p d (h (t.gpr p a))).retire p

/-- d ← sat32 of an exact result; saturation sets SAT. -/
def State.satOp (s : State) (p d a b : Nat) (h : Int → Int → Int) : State :=
  s.instr p true true fun t =>
    let r := sat32 (h (sg (t.gpr p a)) (sg (t.gpr p b)))
    ((t.setGpr p d r.1).modProc p fun q => flagSat q r.2).retire p

/-- d ← a division result, with DZ and OV. -/
def State.divOp (s : State) (p d a b : Nat) (h : Word → Word → Word × Bool × Bool) : State :=
  s.instr p true true fun t =>
    let r := h (t.gpr p a) (t.gpr p b)
    ((t.setGpr p d r.1).modProc p fun q => flagOv (flagDz q r.2.1) r.2.2).retire p

/-- The comparison result 1 or 0. -/
def boolWord (b : Bool) : Word := if b then 1 else 0

/-- The accumulate of MAC, MSU and MLA with q = q(a × b, s) (06 R209). -/
def State.macOp (s : State) (p n sh a b : Nat) (h : Int → Int → Int) : State :=
  s.instr p true false fun t =>
    let q := rsh (sg (t.gpr p a) * sg (t.gpr p b)) sh
    let r := satAcc (h (accOf (t.proc p) n).toInt q)
    (t.modProc p fun x => flagSat (setAccOf x n r.1) r.2).retire p

def execAdd (p : ProcId) (d a b : Gpr) (s : State) : Out := .next (s.aluOp p d a b (· + ·))
def execSub (p : ProcId) (d a b : Gpr) (s : State) : Out := .next (s.aluOp p d a b (· - ·))
def execAnd (p : ProcId) (d a b : Gpr) (s : State) : Out := .next (s.aluOp p d a b (· &&& ·))
def execOr (p : ProcId) (d a b : Gpr) (s : State) : Out := .next (s.aluOp p d a b (· ||| ·))
def execXor (p : ProcId) (d a b : Gpr) (s : State) : Out := .next (s.aluOp p d a b (· ^^^ ·))
def execSll (p : ProcId) (d a b : Gpr) (s : State) : Out :=
  .next (s.aluOp p d a b fun x y => x <<< fld y 4 0)
def execSrl (p : ProcId) (d a b : Gpr) (s : State) : Out :=
  .next (s.aluOp p d a b fun x y => x >>> fld y 4 0)
def execSra (p : ProcId) (d a b : Gpr) (s : State) : Out :=
  .next (s.aluOp p d a b fun x y => x.sshiftRight (fld y 4 0))
def execSlt (p : ProcId) (d a b : Gpr) (s : State) : Out :=
  .next (s.aluOp p d a b fun x y => boolWord (x.slt y))
def execSltu (p : ProcId) (d a b : Gpr) (s : State) : Out :=
  .next (s.aluOp p d a b fun x y => boolWord (x.ult y))
def execAdds (p : ProcId) (d a b : Gpr) (s : State) : Out := .next (s.satOp p d a b (· + ·))
def execSubs (p : ProcId) (d a b : Gpr) (s : State) : Out := .next (s.satOp p d a b (· - ·))
def execMin (p : ProcId) (d a b : Gpr) (s : State) : Out :=
  .next (s.aluOp p d a b fun x y => if x.slt y then x else y)
def execMax (p : ProcId) (d a b : Gpr) (s : State) : Out :=
  .next (s.aluOp p d a b fun x y => if x.slt y then y else x)
def execClz (p : ProcId) (d a : Gpr) (s : State) : Out := .next (s.immOp p d a fun x => wN (leadingZeros x))
def execMul (p : ProcId) (d a b : Gpr) (s : State) : Out := .next (s.aluOp p d a b (· * ·))
def execMulh (p : ProcId) (d a b : Gpr) (s : State) : Out :=
  .next (s.aluOp p d a b fun x y => w32 (sg x * sg y / 2 ^ 32))
def execMulhu (p : ProcId) (d a b : Gpr) (s : State) : Out :=
  .next (s.aluOp p d a b fun x y => wN (x.toNat * y.toNat / 2 ^ 32))
def execDiv (p : ProcId) (d a b : Gpr) (s : State) : Out := .next (s.divOp p d a b divS)
def execDivu (p : ProcId) (d a b : Gpr) (s : State) : Out := .next (s.divOp p d a b divU)
def execRem (p : ProcId) (d a b : Gpr) (s : State) : Out := .next (s.divOp p d a b remS)
def execRemu (p : ProcId) (d a b : Gpr) (s : State) : Out := .next (s.divOp p d a b remU)
def execMac (p : ProcId) (n : Fin 4) (sh : Fin 32) (a b : Gpr) (s : State) : Out :=
  .next (s.macOp p n sh a b fun x q => x + q)
def execMsu (p : ProcId) (n : Fin 4) (sh : Fin 32) (a b : Gpr) (s : State) : Out :=
  .next (s.macOp p n sh a b fun x q => x - q)
def execMla (p : ProcId) (n : Fin 4) (sh : Fin 32) (a b : Gpr) (s : State) : Out :=
  .next (s.macOp p n sh a b fun _ q => q)

/-- RDA: the rounded, saturated readout of an accumulator (06 R208, R209). -/
def State.rdaOp (s : State) (p d n sh : Nat) : State :=
  s.instr p true false fun t =>
    let r := accOut (accOf (t.proc p) n) sh
    ((t.setGpr p d r.1).modProc p fun q => flagSat q r.2).retire p

def execRda (p : ProcId) (d : Gpr) (n : Fin 4) (sh : Fin 32) (s : State) : Out := .next (s.rdaOp p d n sh)

def execCla (p : ProcId) (n : Fin 4) (s : State) : Out :=
  .next (s.instr p true false fun t => (t.modProc p fun q => setAccOf q n 0).retire p)

/-- Word w of an accumulator: bits [31:0], [63:32], or [71:64] sign-extended (06 R208). -/
def accWord (a : Acc) (w : Nat) : Word :=
  if w = 0 then a.extractLsb' 0 32 else if w = 1 then a.extractLsb' 32 32 else (a.extractLsb' 64 8).signExtend 32

/-- An accumulator with word w replaced. -/
def accPut (a : Acc) (w : Nat) (v : Word) : Acc :=
  if w = 0 then a.extractLsb' 32 40 ++ v
  else if w = 1 then (a.extractLsb' 64 8 ++ v) ++ a.extractLsb' 0 32
  else v.extractLsb' 0 8 ++ a.extractLsb' 0 64

/-- RDW and WRW raise ILLOP for w = 3. -/
def execRdw (p : ProcId) (d : Gpr) (n w : Fin 4) (s : State) : Out :=
  .next (s.instr p true false fun t =>
    if w.val = 3 then t.exception p 1 (t.proc p).pc
    else (t.setGpr p d (accWord (accOf (t.proc p) n) w)).retire p)

def execWrw (p : ProcId) (n w : Fin 4) (a : Gpr) (s : State) : Out :=
  .next (s.instr p true false fun t =>
    if w.val = 3 then t.exception p 1 (t.proc p).pc
    else (t.modProc p fun q => setAccOf q n (accPut (accOf q n) w (gprOf q a))).retire p)

def execAddi (p : ProcId) (d a : Gpr) (imm : BitVec 16) (s : State) : Out :=
  .next (s.immOp p d a fun x => x + imm.signExtend 32)
def execAndi (p : ProcId) (d a : Gpr) (imm : BitVec 16) (s : State) : Out :=
  .next (s.immOp p d a fun x => x &&& imm.setWidth 32)
def execOri (p : ProcId) (d a : Gpr) (imm : BitVec 16) (s : State) : Out :=
  .next (s.immOp p d a fun x => x ||| imm.setWidth 32)
def execXori (p : ProcId) (d a : Gpr) (imm : BitVec 16) (s : State) : Out :=
  .next (s.immOp p d a fun x => x ^^^ imm.setWidth 32)
def execSlti (p : ProcId) (d a : Gpr) (imm : BitVec 16) (s : State) : Out :=
  .next (s.immOp p d a fun x => boolWord (x.slt (imm.signExtend 32)))
def execLui (p : ProcId) (d : Gpr) (imm : BitVec 16) (s : State) : Out :=
  .next (s.immOp p d 0 fun _ => imm.setWidth 32 <<< 16)
def execSlli (p : ProcId) (d a : Gpr) (sh : Fin 32) (s : State) : Out :=
  .next (s.immOp p d a fun x => x <<< sh.val)
def execSrli (p : ProcId) (d a : Gpr) (sh : Fin 32) (s : State) : Out :=
  .next (s.immOp p d a fun x => x >>> sh.val)
def execSrai (p : ProcId) (d a : Gpr) (sh : Fin 32) (s : State) : Out :=
  .next (s.immOp p d a fun x => x.sshiftRight sh.val)

end Sys2Proof.Machine
end

