-- ==== Sys2Proof/Machine/IsaControl.lean ====
section
/-! DEFINITION. Control transfer, loops, waits and the return of a program (06 R207, R208, R211 to R214; 07 R250). -/

namespace Sys2Proof.Machine

/-- A conditional branch: taken to PC + 4 + sext(offset) × 4, else on (06 R207, R208). -/
def State.branchOp (s : State) (p a b : Nat) (off : BitVec 16) (c : Word → Word → Bool) : State :=
  s.instr p true true fun t =>
    if c (t.gpr p a) (t.gpr p b) then t.modProc p fun q => jumpProc q (branchTo q.pc off) else t.retire p

def execBeq (p : ProcId) (a b : Gpr) (off : BitVec 16) (s : State) : Out :=
  .next (s.branchOp p a b off fun x y => decide (x = y))
def execBne (p : ProcId) (a b : Gpr) (off : BitVec 16) (s : State) : Out :=
  .next (s.branchOp p a b off fun x y => decide (x ≠ y))
def execBlt (p : ProcId) (a b : Gpr) (off : BitVec 16) (s : State) : Out :=
  .next (s.branchOp p a b off fun x y => x.slt y)
def execBge (p : ProcId) (a b : Gpr) (off : BitVec 16) (s : State) : Out :=
  .next (s.branchOp p a b off fun x y => !x.slt y)
def execBltu (p : ProcId) (a b : Gpr) (off : BitVec 16) (s : State) : Out :=
  .next (s.branchOp p a b off fun x y => x.ult y)
def execBgeu (p : ProcId) (a b : Gpr) (off : BitVec 16) (s : State) : Out :=
  .next (s.branchOp p a b off fun x y => !x.ult y)

def execJ (p : ProcId) (off : BitVec 26) (s : State) : Out :=
  .next (s.instr p true true fun t => t.modProc p fun q => jumpProc q (branchTo q.pc off))

/-- CALL pushes PC + 4 on the call stack of 16 and jumps; a call does not end a loop (06 R211, R212). -/
def execCall (p : ProcId) (off : BitVec 26) (s : State) : Out :=
  .next (s.instr p true true fun t =>
    let q := t.proc p
    if 16 ≤ q.calls.length then t.exception p 6 q.pc
    else t.setProc p { q with calls := (q.pc + 4) :: q.calls, pc := branchTo q.pc off })

/-- A dispatched program has returned to its dispatcher: a return after its DEADLINE raises source 31 and counts in
DLMISS, once per program and period (07 R250). -/
def State.programReturn (s : State) (p : Nat) : State :=
  let q := s.proc p
  let late := decide (q.slotEnd < s.now) && !q.missed
  let t := s.setProc p { q with slot := none, missed := false }
  if late then (t.satF (F.ADM_POL.DLMISS p) 1).raise 31 else t

/-- RET pops the call stack and jumps there; with none held it raises CSTK (06 R212). A RET to the dispatcher ends the
dispatched program (07 R250). -/
def execRet (p : ProcId) (s : State) : Out :=
  .next (s.instr p true true fun t =>
    let q := t.proc p
    match q.calls with
    | [] => t.exception p 6 q.pc
    | c :: cs =>
      let u := t.setProc p { q with calls := cs, pc := c }
      if q.slot.isSome && cs.isEmpty && q.istack.isEmpty then u.programReturn p else u)

/-- TWAITP waits until T_k + offset × 64 ticks of the period k in which it executes; a target already passed takes one
cycle (06 R214). -/
def execTwaitp (p : ProcId) (off : BitVec 18) (s : State) : Out :=
  .next (s.instr p true false fun t =>
    let target := t.boundary t.tm.k + off.toNat * 64
    if target ≤ t.now then t.retire p else t.modProc p fun q => { q with run := .waitPeriod target })

/-- TWAIT waits for stack time a by signed 32-bit difference (06 R214). -/
def execTwait (p : ProcId) (a : Gpr) (s : State) : Out :=
  .next (s.instr p true false fun t =>
    let w := t.gpr p a
    if timeDiff 32 w.toNat t.now ≤ 0 then t.retire p else t.modProc p fun q => { q with run := .waitTime w })

/-- TWAIT_COMPLETE: a waiting TWAITP or TWAIT completes in the first cycle at or past its target; a target still ahead
is where stack time moves to (06 R214; log 4). -/
def State.twaitComplete (s : State) (p : Nat) : State :=
  if s.live && s.on (procDom p) && !(s.proc p).dbgHalt then
    match (s.proc p).run with
    | .waitPeriod t => (s.advanceTo t).retire p
    | .waitTime w => (s.advanceTo (s.now + (max 0 (timeDiff 32 w.toNat s.now)).toNat)).retire p
    | _ => s
  else s

def execTwaitComplete (p : ProcId) (s : State) : Out := .next (s.twaitComplete p)

/-- JT: into the table when a < imm, unsigned, else past it (06 R213). -/
def execJt (p : ProcId) (a : Gpr) (imm : BitVec 16) (s : State) : Out :=
  .next (s.instr p true true fun t =>
    let i := min (t.gpr p a).toNat imm.toNat
    t.modProc p fun q => jumpProc q (q.pc + 4 + wN (i * 4)))

/-- LOOP and LOOPI: a body of `d` instructions run `c` times (06 R211). A count of 0 skips the body; a fifth level
raises LSTK; a body length of 0 is no encoding of R211 and raises ILLOP. -/
def State.loopOp (s : State) (p d : Nat) (count : Proc → Nat × Bool) : State :=
  s.instr p true true fun t =>
    let q := t.proc p
    let c := count q
    if d = 0 then t.exception p 1 q.pc
    else if c.1 = 0 then
      t.setProc p { flagLb q c.2 with pc := q.pc + 4 + wN (d * 4) }
    else if 4 ≤ q.loops.length then t.exception p 7 q.pc
    else
      t.setProc p { flagLb q c.2 with
        pc := q.pc + 4
        loops := { first := q.pc + 4, last := q.pc + wN (d * 4), left := c.1,
                   calls := q.calls.length, depth := q.istack.length } :: q.loops }

def execLoop (p : ProcId) (body : Fin 32) (a : Gpr) (bound : BitVec 16) (s : State) : Out :=
  .next (s.loopOp p body fun q =>
    let n := (gprOf q a).toNat
    if bound.toNat < n then (bound.toNat, true) else (n, false))

def execLoopi (p : ProcId) (body : Fin 32) (count : BitVec 16) (s : State) : Out :=
  .next (s.loopOp p body fun _ => (count.toNat, false))

end Sys2Proof.Machine
end

