-- ==== Sys2Proof/Machine/IsaSystem.lean ====
section
/-! DEFINITION. Special registers, interrupt control, system calls and queue instructions (06 R203, R204, R216, R221,
R225 to R227; 07 R235). -/

namespace Sys2Proof.Machine

/-- The ring position in CORE_ID: 0xFF while not joined (06, special 6). -/
def State.corePos (s : State) : Nat := if s.fb F.RNG_STATUS.JOINED then s.f F.RNG_STATUS.POS else 0xFF

/-- EPC and ESTAT show the top entry of the interrupt stack. -/
def epcOf (q : Proc) : Word := match q.istack with | e :: _ => e.epc | [] => q.epc0

def estatOf (q : Proc) : Word := match q.istack with | e :: _ => e.estat | [] => q.estat0

/-- TIMEHI as latched for the bank in use (06 R204). -/
def timeHiOf (q : Proc) : Word := if bankOf q then q.hiHandler else q.hiThread

/-- The processor with the TIMEHI latch of the bank in use written. -/
def latchHi (q : Proc) (v : Word) : Proc :=
  if bankOf q then { q with hiHandler := v } else { q with hiThread := v }

/-- The value MFS reads, or none where the profile lacks the register (06 R203). The engine's STATUS holds only SAT, LB,
DZ and OV. -/
def State.readSpecial (s : State) (p n : Nat) : Option Word :=
  let q := s.proc p
  match n with
  | 0 => some (if p = 5 then statusWord q &&& 0x2700#32 else statusWord q)
  | 1 => if p = 5 then none else some (epcOf q)
  | 2 => if p = 5 then none else some (estatOf q)
  | 3 => some (s.tm.count.extractLsb' 0 32)
  | 4 => some (timeHiOf q)
  | 5 => some (wN s.tm.k)
  | 6 => some (wN (s.corePos * 256 + (if p = 5 then 0x10 else 0) + p))
  | _ => none

/-- MFS: the read of TIMELO latches TIMEHI for the bank (06 R203, R204, 02 R57). -/
def execMfs (p : ProcId) (d : Gpr) (n : Fin 32) (s : State) : Out :=
  .next (s.instr p true true fun t =>
    match t.readSpecial p n with
    | some v =>
      let u := if n.val = 3 then t.modProc p fun q => latchHi q (t.tm.count.extractLsb' 32 32) else t
      (u.setGpr p d v).retire p
    | none => t.exception p 1 (t.proc p).pc)

/-- A special register written by MTS: five fields of STATUS, or the top entry's EPC or ESTAT (06 R203). -/
def writeSpecial (q : Proc) (n : Nat) (v : Word) : Option Proc :=
  match n with
  | 0 => some { q with status := (q.status &&& ~~~ (0x6700#32)) ||| (v &&& 0x6700#32) }
  | 1 => match q.istack with
    | e :: l => some { q with istack := { e with epc := v &&& 0xFFFFFFFC#32 } :: l }
    | [] => some { q with epc0 := v &&& 0xFFFFFFFC#32 }
  | 2 => match q.istack with
    | e :: l => some { q with istack := { e with estat := v &&& 0xFF8FFFFF#32 } :: l }
    | [] => some { q with estat0 := v &&& 0xFF8FFFFF#32 }
  | _ => none

def execMts (p : ProcId) (n : Fin 32) (a : Gpr) (s : State) : Out :=
  .next (s.instr p true false fun t =>
    match writeSpecial (t.proc p) n (t.gpr p a) with
    | some q => (t.setProc p q).retire p
    | none => t.exception p 1 (t.proc p).pc)

/-- DI clears IE and opens a disabled window (06 R226, 07 R251). -/
def execDi (p : ProcId) (s : State) : Out :=
  .next (s.instr p true false fun t =>
    (t.modProc p fun q => { setStatus q 4 4 0 with
      diAt := if ieOf q || (q.diAt.isNone && !q.diDone) then some t.tm.refclk else q.diAt
      diDone := !ieOf q && q.diDone }).retire p)

/-- EI sets IE and ends the window. -/
def execEi (p : ProcId) (s : State) : Out :=
  .next (s.instr p true false fun t =>
    (t.modProc p fun q => { setStatus q 4 4 1 with diAt := none, diDone := false }).retire p)

/-- IRET: ILLOP when no entry is held (06 R208, R225). A return that restores IE = 1 ends a disabled window. -/
def execIret (p : ProcId) (s : State) : Out :=
  .next (s.instr p true false fun t =>
    if (t.proc p).istack.isEmpty then t.exception p 1 (t.proc p).pc
    else (t.returnInt p).modProc p fun q => if ieOf q then { q with diAt := none, diDone := false } else q)

/-- The processor halts for the debugger (06 R221, 16 R467, R471). -/
def State.haltForDebug (s : State) (p : Nat) : State :=
  ((s.modProc p fun q => { q with dbgHalt := true }).setB F.SYSC_MODE.HALTED true).setReg R.HPD_DBGSTAT
    (setFld (s.reg R.HPD_DBGSTAT) p p 1)

/-- BRK: in COMMISSION with a debugger attached the processor halts for it; otherwise the exception BRK (06 R221). -/
def execBrk (p : ProcId) (s : State) : Out :=
  .next (s.instr p true false fun t =>
    if t.commission && t.fb F.SYSC_MODE.DBGATT then (t.retire p).haltForDebug p
    else t.retireWith p 9)

/-- WFI: ILLOP with IE = 0; otherwise the processor sleeps past it (06 R208, R227). -/
def execWfi (p : ProcId) (s : State) : Out :=
  .next (s.instr p true false fun t =>
    if ieOf (t.proc p) then (t.retire p).modProc p fun q => { q with run := .sleeping }
    else t.exception p 1 (t.proc p).pc)

/-- A request of admission or unload made with SYS (07 R235, R236): core 0 only; BUSY while a request runs, while a
set-up is admitted (for admission) or an unload runs; DENIED on an observer (09 R298) and while a class-4 fault is
latched (12 R365). -/
def State.admRequest (s : State) (p : Nat) (code : Nat) : State :=
  if code = 0x40 then
    if decide (p ≠ 0) || s.grave || s.fb F.RNG_STATUS.OBSERVER then s.setF F.ADM_STATUS.CODE 2
    else if s.fb F.ADM_STATUS.BUSY || s.admitted || s.fb F.ADM_STATUS.UNLOADING then s.setF F.ADM_STATUS.CODE 1
    else
      let t := s.setB F.ADM_STATUS.BUSY true;
      { t with adm := { t.adm with request := some (t.gpr 0 4).toNat, waiting := false, result := none } }
  else if code = 0x41 then
    if p ≠ 0 then s.setF F.ADM_STATUS.CODE 2
    else if s.fb F.ADM_STATUS.BUSY || s.fb F.ADM_STATUS.UNLOADING then s.setF F.ADM_STATUS.CODE 1
    else { s with adm := { s.adm with unloadReq := s.admitted, waiting := false } }
  else s

/-- SYS: the system call retires and takes the exception SYS (06 R221); codes 0x40 and 0x41 also make the requests of
07 R235 (log 15). -/
def execSys (p : ProcId) (code : BitVec 8) (s : State) : Out :=
  .next (s.instr p true false fun t =>
    (t.admRequest p code.toNat).retireWith p 8)

/-- QPUSH: the entry a:b (06 R216). -/
def execQpush (p : ProcId) (a b : Gpr) (q : QueueId) (s : State) : Out :=
  .next (s.instr p true false fun t =>
    let r := t.procPush p q (t.gpr p a ++ t.gpr p b)
    (r.1.modProc p fun x => flagQr x r.2).retire p)

/-- QPOP: into d and d + 1; ILLOP unless d is even from 2 to 30 (06 R208, R216). -/
def execQpop (p : ProcId) (d : Gpr) (q : QueueId) (s : State) : Out :=
  .next (s.instr p true false fun t =>
    if d.val % 2 = 0 ∧ 2 ≤ d.val then
      match t.procPop p q with
      | (u, some e, _) =>
        (((u.setGpr p d (e.extractLsb' 32 32)).setGpr p (d.val + 1) (e.extractLsb' 0 32)).modProc p
          fun x => flagQr x 0).retire p
      | (u, none, c) => (u.modProc p fun x => flagQr x c).retire p
    else t.exception p 1 (t.proc p).pc)

/-- QCNT: the number of entries held; QR reports done, since R216 denies pushes and pops only (log 16). -/
def execQcnt (p : ProcId) (d : Gpr) (q : QueueId) (s : State) : Out :=
  .next (s.instr p true false fun t =>
    ((t.setGpr p d (wN (t.queue q).length)).modProc p fun x => flagQr x 0).retire p)

end Sys2Proof.Machine
end

