-- ==== Sys2Proof/Machine/IsaEngine.lean ====
section
/-! DEFINITION. The engine's lane instructions and posts (05 R165, R166, R168 to R171, R177, R179, R194; 06 R217 to
R220). -/

namespace Sys2Proof.Machine

/-! ## CE memory (05 R168) -/

/-- The address of a coefficient entry of a bank. -/
def coefAddr (bank c : Nat) : Nat := 0x31000000 + bank * 0x20000 + c * 8

/-- The address of a state memory word, input image word, output image word, parameter word. -/
def stateAddr (w : Nat) : Nat := 0x31040000 + w * 4
def inAddr (w : Nat) : Nat := 0x31060000 + w * 4
def outAddr (w : Nat) : Nat := 0x31068000 + w * 4
def paramAddr (w : Nat) : Nat := 0x3107E000 + w * 4

/-- The addresses of list entries and descriptors. -/
def inListAddr (n : Nat) : Nat := 0x31070000 + n * 8
def outListAddr (n : Nat) : Nat := 0x31074000 + n * 8
def fbAddr (n : Nat) : Nat := 0x31078000 + n * 0x20
def intAddr (n : Nat) : Nat := 0x3107C000 + n * 0x20

/-- The active coefficient bank (05 R172). -/
def State.activeBank (s : State) : Nat := s.f F.CE_BANK.ACTIVE

/-- VALUE of coefficient c of the active bank, signed. -/
def State.coefV (s : State) (c : Nat) : Int := sg (s.ldw (coefAddr s.activeBank c))

/-- SHIFT of coefficient c of the active bank. -/
def State.coefS (s : State) (c : Nat) : Nat := fld (s.ldw (coefAddr s.activeBank c + 4)) 4 0

/-- rnd(k, v), the coefficient multiply of 05 R169: sat32 of the rounded shift, and whether it saturated. -/
def State.coefMul (s : State) (c : Nat) (v : Int) : Word × Bool := sat32 (rsh (v * s.coefV c) (s.coefS c))

/-! ## Lanes -/

/-- Lane l of lane register n. -/
def State.lane (s : State) (n l : Nat) : Word := tblGet (fun _ => (0 : Word)) s.ce.v (n * 16 + l)

/-- The state with lane l of lane register n written. -/
def State.setLane (s : State) (n l : Nat) (v : Word) : State :=
  { s with ce := { s.ce with v := tblSet (fun _ => (0 : Word)) s.ce.v (n * 16 + l) v } }

/-- Accumulator n of lane l. -/
def State.laneAcc (s : State) (n l : Nat) : Acc := tblGet (fun _ => (0 : Acc)) s.ce.vacc (l * 4 + n)

/-- The state with accumulator n of lane l written. -/
def State.setLaneAcc (s : State) (n l : Nat) (v : Acc) : State :=
  { s with ce := { s.ce with vacc := tblSet (fun _ => (0 : Acc)) s.ce.vacc (l * 4 + n) v } }

/-- A lane instruction runs in the engine's profile only. -/
def State.engInstr (s : State) (body : State → State) : State := s.instr 5 false true body

/-- vd[l] ← h l for every lane, all sources read first; some lane saturating sets OSAT. -/
def State.lanesOut (s : State) (vd : Nat) (h : Nat → Word × Bool) : State :=
  let t := s.forAll (List.range 16) fun u l => u.setLane vd l (h l).1
  if (List.range 16).any fun l => (h l).2 then t.setB F.CE_STATUS.OSAT true else t

/-- A two-source lane operation. -/
def State.laneOp (s : State) (vd va vb : Nat) (h : Word → Word → Word × Bool) : State :=
  s.engInstr fun t => (t.lanesOut vd fun l => h (t.lane va l) (t.lane vb l)).retire 5

/-- A one-source lane operation. -/
def State.laneOp1 (s : State) (vd va : Nat) (h : Word → Word × Bool) : State :=
  s.engInstr fun t => (t.lanesOut vd fun l => h (t.lane va l)).retire 5

/-- A result that cannot saturate. -/
def plain (w : Word) : Word × Bool := (w, false)

def execVadd (vd va vb : Vreg) (s : State) : Out := .next (s.laneOp vd va vb fun x y => plain (x + y))
def execVsub (vd va vb : Vreg) (s : State) : Out := .next (s.laneOp vd va vb fun x y => plain (x - y))
def execVand (vd va vb : Vreg) (s : State) : Out := .next (s.laneOp vd va vb fun x y => plain (x &&& y))
def execVor (vd va vb : Vreg) (s : State) : Out := .next (s.laneOp vd va vb fun x y => plain (x ||| y))
def execVxor (vd va vb : Vreg) (s : State) : Out := .next (s.laneOp vd va vb fun x y => plain (x ^^^ y))
def execVadds (vd va vb : Vreg) (s : State) : Out := .next (s.laneOp vd va vb fun x y => sat32 (sg x + sg y))
def execVsubs (vd va vb : Vreg) (s : State) : Out := .next (s.laneOp vd va vb fun x y => sat32 (sg x - sg y))
def execVmin (vd va vb : Vreg) (s : State) : Out :=
  .next (s.laneOp vd va vb fun x y => plain (if x.slt y then x else y))
def execVmax (vd va vb : Vreg) (s : State) : Out :=
  .next (s.laneOp vd va vb fun x y => plain (if x.slt y then y else x))
def execVabs (vd va : Vreg) (s : State) : Out := .next (s.laneOp1 vd va fun x => sat32 (absI (sg x)))
def execVneg (vd va : Vreg) (s : State) : Out := .next (s.laneOp1 vd va fun x => sat32 (- sg x))
def execVclt (vd va vb : Vreg) (s : State) : Out :=
  .next (s.laneOp vd va vb fun x y => plain (if x.slt y then 0xFFFFFFFF#32 else 0))
def execVmov (vd va : Vreg) (s : State) : Out := .next (s.laneOp1 vd va plain)
def execVsra (vd va : Vreg) (t : Fin 32) (s : State) : Out :=
  .next (s.laneOp1 vd va fun x => plain (x.sshiftRight t.val))
def execVsll (vd va : Vreg) (t : Fin 32) (s : State) : Out := .next (s.laneOp1 vd va fun x => plain (x <<< t.val))

/-- Every lane's accumulator n ← h l, saturated; saturation sets ACCSAT (05 R170). -/
def State.lanesAcc (s : State) (n : Nat) (h : Nat → Int) : State :=
  let t := s.forAll (List.range 16) fun u l => u.setLaneAcc n l (satAcc (h l)).1
  if (List.range 16).any fun l => (satAcc (h l)).2 then t.setB F.CE_STATUS.ACCSAT true else t

/-- The coefficient of lane l: entry c, or c + l in lane-indexed form (05 R171). -/
def coefIdx (lx : Bool) (c l : Nat) : Nat := if lx then (c + l) % 16384 else c

/-- The accumulate of the three operations. -/
def macSel (op : MacOp) (a q : Int) : Int :=
  match op with
  | .mac => a + q
  | .msu => a - q
  | .mla => q

def execVcmac (op : MacOp) (n : Fin 4) (lx : Bool) (va : Vreg) (c : BitVec 14) (s : State) : Out :=
  .next (s.engInstr fun t =>
    (t.lanesAcc n fun l =>
      let k := coefIdx lx c.toNat l
      macSel op (t.laneAcc n l).toInt (rsh (sg (t.lane va l) * t.coefV k) (t.coefS k))).retire 5)

def execVcm (vd va : Vreg) (lx : Bool) (c : BitVec 14) (s : State) : Out :=
  .next (s.engInstr fun t =>
    (t.lanesOut vd fun l => t.coefMul (coefIdx lx c.toNat l) (sg (t.lane va l))).retire 5)

def execVrda (vd : Vreg) (n : Fin 4) (t : Fin 32) (s : State) : Out :=
  .next (s.engInstr fun u => (u.lanesOut vd fun l => accOut (u.laneAcc n l) t).retire 5)

def execVcla (n : Fin 4) (s : State) : Out :=
  .next (s.engInstr fun t => (t.lanesAcc n fun _ => 0).retire 5)

def execVvmac (n : Fin 4) (t : Fin 32) (va vb : Vreg) (s : State) : Out :=
  .next (s.engInstr fun u =>
    (u.lanesAcc n fun l => (u.laneAcc n l).toInt + rsh (sg (u.lane va l) * sg (u.lane vb l)) t).retire 5)

/-! ## Engine memory (05 R168, 06 R220) -/

/-- The engine's region of an address: 0 state memory, 1 input image, 2 output image, 3 parameter area. -/
def engRegion (a : Nat) : Option Nat :=
  if 0x31040000 ≤ a ∧ a < 0x31060000 then some 0
  else if 0x31060000 ≤ a ∧ a < 0x31068000 then some 1
  else if 0x31068000 ≤ a ∧ a < 0x31070000 then some 2
  else if 0x3107E000 ≤ a ∧ a < 0x31080000 then some 3
  else none

/-- `n` words from an address lie in one region that the engine may read. -/
def engReadOk (a n : Nat) : Bool := (engRegion a).isSome && decide (engRegion a = engRegion (a + 4 * (n - 1)))

/-- `n` words from an address lie in one region that the engine may write: state memory or output image. -/
def engWriteOk (a n : Nat) : Bool :=
  (decide (engRegion a = some 0) || decide (engRegion a = some 2)) &&
    decide (engRegion a = engRegion (a + 4 * (n - 1)))

/-- A word whose parity is bad and cannot be restored. -/
def State.isBad (s : State) (a : Nat) : Bool := tblGet (fun _ => false) s.badWords (a / 4 * 4)

/-- A word stored with fresh parity. -/
def State.store (s : State) (a : Nat) (v : Word) : State :=
  let t := s.stw a v;
  { t with badWords := tblSet (fun _ => false) t.badWords a false }

/-- The address of a VLD or VST: g[16 + vb] + w × 4. -/
def State.laneAddr (s : State) (base w : Nat) : Nat := (s.gpr 5 (16 + base) + wN (w * 4)).toNat

/-- VLD: 16 words, or word 0 in every lane; misaligned ALIGN, outside the regions BUSERR with 0 loaded, a word of bad
parity PARITY with 0 loaded (06 R217, R220, R221). -/
def execVld (vd : Vreg) (base : Fin 16) (bc : Bool) (w : BitVec 12) (s : State) : Out :=
  .next (s.engInstr fun t =>
    let a := t.laneAddr base w.toNat
    let pc := (t.proc 5).pc
    if a % 4 ≠ 0 then t.exception 5 2 pc
    else if !engReadOk a (if bc then 1 else 16) then
      (t.lanesOut vd fun _ => plain 0).retireWith 5 3
    else
      let at_ := fun l => if bc then a else a + 4 * l
      let bad := (List.range 16).any fun l => t.isBad (at_ l)
      let u := t.lanesOut vd fun l => plain (if t.isBad (at_ l) then 0 else t.ldw (at_ l))
      if bad then (u.raise 10).retireWith 5 4 else u.retire 5)

/-- VST: 16 words to state memory or the output image. -/
def execVst (va : Vreg) (base : Fin 16) (w : BitVec 12) (s : State) : Out :=
  .next (s.engInstr fun t =>
    let a := t.laneAddr base w.toNat
    let pc := (t.proc 5).pc
    if a % 4 ≠ 0 then t.exception 5 2 pc
    else if !engWriteOk a 16 then t.retireWith 5 3
    else (t.forAll (List.range 16) fun u l => u.store (a + 4 * l) (t.lane va l)).retire 5)

/-! ## Integrators and angle tables -/

/-- One step of integrator d with error e (05 R177): the state after it, the output y and whether y saturated. A
descriptor with EN = 0 stays as it is and gives 0 (06 R218). -/
def State.intStep (s : State) (d : Nat) (e : Word) : State × Word × Bool :=
  let a := intAddr d
  let w0 := s.ldw a
  if 256 ≤ d ∨ bitAt w0 31 = false then (s, 0, false)
  else
    let k := fld w0 29 16
    let lo := s.coefV (k + 2)
    let hi := s.coefV (k + 3)
    let st := s.ldw (a + 16)
    let dx := s.coefMul (k + 1) (sg e)
    let xn := sg (s.ldw (a + 4)) + sg dx.1
    let r : Int × Word :=
      if hi < xn then (hi, 0xC0000000#32)
      else if xn < lo then (lo, 0x80000000#32)
      else (xn, if bitAt st 31 && decide (e = 0) then st else 0)
    let py := s.coefMul k (sg e)
    let y := sat32 (sg py.1 + r.1)
    (((((s.store (a + 4) (w32 r.1)).store (a + 8) e).store (a + 12) y.1).store (a + 16) r.2), y.1,
      y.2 || py.2 || dx.2)

/-- VINT: lane l steps integrator n + l with e = va[l]; vd[l] ← y. -/
def execVint (vd va : Vreg) (n : BitVec 8) (s : State) : Out :=
  .next (s.engInstr fun t =>
    let r := (List.range 16).foldl (fun (acc : State × List (Word × Bool)) l =>
      let x := acc.1.intStep (n.toNat + l) (t.lane va l)
      (x.1, acc.2 ++ [(x.2.1, x.2.2)])) (t, [])
    (r.1.lanesOut vd fun l => (r.2[l]?).getD (0, false)).retire 5)

/-- The interpolated value of table t at angle θ (05 R179). -/
def State.angle (s : State) (t : Nat) (theta : Word) : Word × Bool :=
  let i := fld theta 31 22
  let x := fld theta 21 6
  let e := fun n => sg (s.ldw (0x32000000 + t * 0x1000 + n * 4))
  sat32 (e i + ((e ((i + 1) % 1024) - e i) * (x : Int) + 2 ^ 15) / 2 ^ 16)

def execVang (vd va : Vreg) (t : Fin 64) (s : State) : Out :=
  .next (s.engInstr fun u => (u.lanesOut vd fun l => u.angle t (u.lane va l)).retire 5)

/-! ## Ramps, posts, END and moves -/

/-- The value of an output entry after its ramp group (05 R194). -/
def State.ramped (s : State) (w0 v : Word) : Word :=
  if bitAt w0 25 then (sat32 (rsh (sg v * (s.f (F.CE_RAMP.GAIN (fld w0 24 22)) : Int)) 15)).1 else v

/-- The output list entries of a KIND, in list order: their first words and their values. -/
def State.outEntries (s : State) (sel : Word → Bool) : List (Word × Word) :=
  ((List.range (s.f F.CE_LISTS.NOUT)).map fun n =>
    (s.ldw (outListAddr n), s.ldw (outAddr (fld (s.ldw (outListAddr n + 4)) 12 0)))).filter fun e => sel e.1

/-- A post writes its CS register: CS_AREF, CS_AIN, CS_TRIMi or CS_SAREFm (05 R165). -/
def State.postWrite (s : State) (w0 v : Word) : State :=
  if s.on 6 then
    match regRow? (0x40080000 + fld w0 15 0) with
    | some r => s.setReg (0x40080000 + fld w0 15 0) (s.ramped w0 v &&& r.rw)
    | none => s
  else s

/-- POST_TRANSFER (05 R166): entry n of the group (from 1) ends n cycles after the issue; an entry that would end at or
after the cut is discarded with every entry after it, LATEPOST is set and source 13 raised. -/
def State.postGroup (s : State) (g : Nat) : State :=
  let es := s.outEntries fun w => decide (fld w 31 28 = 1 ∧ fld w 27 26 = g)
  let cut := s.boundary s.tm.k + s.f (F.CE_POST.CUT g) * 3200
  let fit := (List.range es.length).filter fun n => decide (s.now + 64 * (n + 1) < cut)
  let t := (es.take fit.length).foldl (fun u e => u.postWrite e.1 e.2) s
  if fit.length < es.length then (t.setB F.CE_STATUS.LATEPOST true).raise 13
  else t.setF (F.CE_POST.LASTAT g) ((s.now - s.boundary s.tm.k) / 64 + es.length)

def execPost (g : Fin 4) (s : State) : Out := .next (s.engInstr fun t => (t.retire 5).postGroup g)

/-- END: the program ends, in the cycle that CE_CYCLES and CE_MAXCYC record (05, CE registers). -/
def State.endOp (s : State) : State :=
  s.engInstr fun t =>
    let c := (t.now - t.boundary t.tm.k) / 64
    let u := (t.modProc 5 fun q => { q with run := .halted }).setB F.CE_STATUS.RUN false
    let v := u.setF F.CE_MAXCYC.CYC (max (u.f F.CE_MAXCYC.CYC) c);
    { v with ce := { v.ce with slot := none, lastEnd := c } }

def execEndProgram (s : State) : Out := .next s.endOp

def execVbc (vd : Vreg) (r : Gpr) (s : State) : Out :=
  .next (s.engInstr fun t => (t.lanesOut vd fun _ => plain (t.gpr 5 r)).retire 5)

def execVext (va : Vreg) (l : Fin 16) (r : Gpr) (s : State) : Out :=
  .next (s.engInstr fun t => (t.setGpr 5 r (t.lane va l)).retire 5)

def execVlane (vd : Vreg) (s : State) : Out :=
  .next (s.engInstr fun t => (t.lanesOut vd fun l => plain (wN l)).retire 5)

end Sys2Proof.Machine
end

