-- ==== Sys2Proof/Machine/Ctx.lean ====
section
/-! DEFINITION. Cell contexts (01 R40 to R46): the header CTX_HDR, the context states, and who drives. Contexts stand in
the context memory of PD6; a context of an unpowered domain reads ABSENT. -/

namespace Sys2Proof.Machine

/-! The codes of CTX_HDR.STATE (01 R43). -/

abbrev cAbsent : Nat := 0
abbrev cDiscovered : Nat := 1
abbrev cAdmitted : Nat := 2
abbrev cActive : Nat := 3
abbrev cBypassed : Nat := 4
abbrev cEscrowed : Nat := 5
abbrev cFaulted : Nat := 6

/-- CTX_HDR.STATE of context i. -/
def State.cst (s : State) (i : Nat) : Nat := s.ctxF i 0 2 0

/-- The context's state replaced. -/
def State.setCst (s : State) (i v : Nat) : State := s.setCtxF i 0 2 0 v

/-- BYP_BUSY of context i. -/
def State.bypBusy (s : State) (i : Nat) : Bool := bitAt (s.ctx i 0) 8

/-- PEND_RET of context i. -/
def State.pendRet (s : State) (i : Nat) : Bool := bitAt (s.ctx i 0) 7

/-- CLASS of context i. -/
def State.cClass (s : State) (i : Nat) : Nat := s.ctxF i 0 12 9

/-- INARM of context i. -/
def State.cInArm (s : State) (i : Nat) : Bool := bitAt (s.ctx i 0) 17

/-- ARM of context i. -/
def State.cArm (s : State) (i : Nat) : Nat := s.ctxF i 0 16 14

/-- The driving states: ADMITTED, ACTIVE, BYPASSED, FAULTED (01 R40). -/
def drivingState (c : Nat) : Bool := decide (c = 2 ∨ c = 3 ∨ c = 4 ∨ c = 6)

/-- Context i drives its cell. -/
def State.drives (s : State) (i : Nat) : Bool := drivingState (s.cst i)

/-- The chip drives at least one cell. -/
def State.drivesCells (s : State) : Bool := ctxIdx.any s.drives

/-- The snapshot word n of context i: STATUS, VCAP, TEMP, FAULT, TALLY, ECHOSEQ, TIME, ECHO at 0x060 to 0x07C
(03 R98). -/
def State.snap (s : State) (i n : Nat) : Word := s.ctx i (0x60 + 4 * n)

/-- The chip is MASTER of its stack (RNG_STATUS.ROLE). -/
def State.isMaster (s : State) : Bool := decide (s.f F.RNG_STATUS.ROLE = 1)

/-- The chip is joined to a stack. -/
def State.joined (s : State) : Bool := s.fb F.STM_STATUS.JOINED

/-- The chip is a member or standby master of a stack: its time follows the master's. -/
def State.follows (s : State) : Bool := s.joined && !s.isMaster

end Sys2Proof.Machine
end

