-- ==== Sys2Proof/Machine/Time.lean ====
section
/-! DEFINITION. Stack time and clocking (02): the DLL, the switching time base, stack time with its period boundaries
and compare channels, errors, slew, steps, coasting, and the measurement clocks. -/

namespace Sys2Proof.Machine

/-! ## Sources of the time base (02 R51 to R53) -/

/-- e as a sum over the last measurements and their number, so that a bound is compared without rounding (02 R61). -/
def State.errSum (s : State) : Int := (s.tm.errs.map (·.err)).foldl (· + ·) 0

def State.errN4 (s : State) : Nat := s.tm.errs.length

/-- abs(e) is at most `b` ticks. -/
def State.errWithin (s : State) (b : Nat) : Bool := decide (absI s.errSum ≤ (b * s.errN4 : Nat))

/-- The mean of a sum of n values: exact where n divides it; otherwise the rounding is one the text does not give (log
20). -/
def meanI (sum : Int) (n : Nat) : Int :=
  if n = 0 then 0 else if sum % (n : Int) = 0 then sum / (n : Int) else Config.meanRound sum n

/-- STM_ERR shows e; 0 on the master (02 R61). STM_STATUS.SLEWING shows abs(e) above the dead band. -/
def State.showErr (s : State) : State :=
  if s.follows then
    (s.setReg R.STM_ERR (w32 (meanI s.errSum s.errN4))).setB F.STM_STATUS.SLEWING
      (s.timeValid && !s.errWithin 2 && (s.drivesCells || s.errWithin 64))
  else (s.setReg R.STM_ERR 0).setB F.STM_STATUS.SLEWING false

/-- The error e in whole ticks, as STM_ERR holds it. -/
def State.err (s : State) : Int := sg (s.reg R.STM_ERR)

/-- Every kept measurement is reduced by ticks applied to stack time since its capture (02 R61). -/
def State.reduceErr (s : State) (d : Int) : State :=
  State.showErr { s with tm := { s.tm with errs := s.tm.errs.map fun x => { x with err := x.err - d } } }

/-- SRC takes a source; STM_STATUS.COAST follows it, and source 20 with it (02 R53, R66). -/
def State.setSrc (s : State) (v : Nat) : State :=
  s.rose ((s.setF F.CLK_STATUS.SRC v).setB F.STM_STATUS.COAST (decide (v = 3))) [20]

/-- The source after a lock: OWN for the master or a chip not joined; FWD with a qualified forwarded clock; COAST. -/
def State.srcNow (s : State) : Nat :=
  if s.follows then (if s.fb F.CLK_STATUS.FWD_QUAL && s.fb F.CLK_CTRL.FWD_EN then 2 else 3) else 1

/-! ## Measurement clocks (02 R69 to R72) -/

/-- The local tick of the REFCLK cycle in progress: CLKOUTn runs from the local line at a fixed tap. -/
def State.localTick (s : State) : Nat := s.tm.refclk * 64

/-- Measurement clock n. -/
def State.mclk (s : State) (n : Nat) : MeasClock := tblGet (fun _ => ({} : MeasClock)) s.tm.clocks n

def State.setMclk (s : State) (n : Nat) (c : MeasClock) : State :=
  { s with tm := { s.tm with clocks := tblSet (fun _ => ({} : MeasClock)) s.tm.clocks n c } }

/-- The channel's divisor is 2 or more (02 R69). -/
def State.mclkOk (s : State) (n : Nat) : Bool := decide (2 ≤ s.f (F.CLK_MCLK.DIV n))

/-- The channel's period in ticks. -/
def State.mclkPeriod (s : State) (n : Nat) : Nat := s.f (F.CLK_MCLK.DIV n) * 64

/-- DELAY modulo the period (02 R69). -/
def State.mclkDelay (s : State) (n : Nat) : Nat := s.f (F.CLK_MDLY.DELAY n) % (if s.mclkOk n then s.mclkPeriod n else 1)

/-- MCLKBAD shows the channels whose DIV is 0 or 1 (02 R69). -/
def State.showMclkBad (s : State) : State :=
  s.forAll (List.range 4) fun t n =>
    t.setReg R.CLK_STATUS (setFld (t.reg R.CLK_STATUS) (8 + n) (8 + n) (b2n (!t.mclkOk n)))

/-- The channel starts at the next REFCLK cycle boundary plus DELAY (02 R70). -/
def State.mclkRestart (s : State) (n : Nat) : State :=
  s.setMclk n { s.mclk n with edge := s.localTick + 64 + s.mclkDelay n }

/-- A write of CLK_MCLKn (02 R69, R70): setting EN starts the channel; a change of DIV while EN = 1 takes effect at its
next rising edge, from which the edges then count. -/
def State.mclkWrite (s : State) (n : Nat) (v : Word) : State :=
  let old := s.reg (R.CLK_MCLK n)
  let t := (s.setReg (R.CLK_MCLK n) (v &&& 0xC000FFFF#32)).showMclkBad
  if !bitAt old 31 && bitAt v 31 then t.mclkRestart n
  else if s.mclkOk n then
    let c := s.mclk n
    let k := (s.localTick - c.edge + s.mclkPeriod n - 1) / s.mclkPeriod n
    t.setMclk n { c with edge := c.edge + k * s.mclkPeriod n }
  else t

/-- A write of CLK_MDLYn: a change of DELAY moves the following edges by the difference (02 R69, R70). -/
def State.mdlyWrite (s : State) (n : Nat) (v : Word) : State :=
  let t := s.setReg (R.CLK_MDLY n) (v &&& 0x003FFFFF#32)
  if s.mclkOk n then
    t.setMclk n { s.mclk n with edge := (s.mclk n).edge + s.mclkPeriod n - s.mclkDelay n + t.mclkDelay n }
  else t

/-- MCLK_START n: EN is set. -/
def State.mclkStart (s : State) (n : Nat) : State :=
  if s.on 1 then s.mclkWrite n (s.reg (R.CLK_MCLK n) ||| 0x80000000#32) else s

/-- MCLK_STOP n: EN is cleared; the high phase in progress completes (02 R70). -/
def State.mclkStop (s : State) (n : Nat) : State :=
  if s.on 1 then s.mclkWrite n (s.reg (R.CLK_MCLK n) &&& 0x7FFFFFFF#32) else s

/-- After every lock each enabled channel restarts at tap 0 plus DELAY, unsynchronised (02 R72). -/
def State.mclkAfterLock (s : State) : State :=
  (s.setF F.CLK_STATUS.UNSYNC 0xF).forAll (List.range 4) fun t n =>
    if t.fb (F.CLK_MCLK.EN n) then t.mclkRestart n else t

/-- The signed distance of a target from the nearest edge of a period, in (−p/2, p/2]. -/
def phaseDiff (target edge p : Nat) : Int :=
  let r := (((target : Int) - (edge : Int)) % (p : Int)).toNat
  if 2 * r ≤ p then (r : Int) else (r : Int) - (p : Int)

/-- The filters clocked by CLKOUTn begin anew: their next 3 outputs are invalid (11 R337). -/
def State.sdRestart (s : State) (n : Nat) : State :=
  s.forAll ((List.range 8).filter fun i => decide (s.f (F.MSR_SDCFG.CLK i) = n)) fun t i =>
    { t with msr := { t.msr with sdN := tblSet (fun _ => (0 : Nat)) t.msr.sdN i 0 } }

/-- Channel n takes the phase of an accepted SYNC_IN edge at local tick l (02 R71, R72). -/
def State.syncChannel (s : State) (l n : Nat) : State :=
  if !s.fb (F.CLK_MCLK.SYNCEN n) then s
  else
    let unsync := bitAt (s.reg R.CLK_STATUS) (12 + n)
    let t := s.setReg R.CLK_STATUS (setFld (s.reg R.CLK_STATUS) (12 + n) (12 + n) 0)
    if !s.mclkOk n then t
    else
      let target := l + 1024 + s.mclkDelay n
      let c := s.mclk n
      let d := phaseDiff target c.edge (s.mclkPeriod n)
      if absI d ≤ (s.f F.CLK_SYNC.SYNCTOL : Int) && !unsync then
        t.setMclk n { c with edge := ((c.edge : Int) + d).toNat }
      else
        (t.setMclk n { edge := target,
                       windowEnd := if s.fb (F.CLK_MCLK.EN n) then some (l / 64 + s.f F.CLK_SYNC.SYNCWIN)
                                    else c.windowEnd }).sdRestart n

/-- SYNC_IN_EDGE, sensed at tap `ph` (02 R58, R71): accepted while LOCKED and at least 64 cycles after the previous
accepted edge; ignored edges count in SYNCIGN. -/
def State.syncInEdge (s : State) (ph : Nat) : State :=
  if s.live && s.on 1 then
    if s.timeValid && (match s.tm.lastSync with | none => true | some r => decide (r + 64 ≤ s.tm.refclk)) then
      let ts : DWord := s.tm.count + BitVec.ofNat 64 ph
      let t := (s.setReg R.STM_SYNCCAPLO (ts.extractLsb' 0 32)).setReg R.STM_SYNCCAPHI (ts.extractLsb' 32 32)
      State.forAll { t with tm := { t.tm with lastSync := some t.tm.refclk } } (List.range 4) fun u n =>
        u.syncChannel (s.localTick + ph) n
    else s.incF F.CLK_SYNC.SYNCIGN 1
  else s

/-- REFCLK moved forward by cycles, and stack time by 64 ticks each. -/
def State.advanceCycles (s : State) (n : Nat) : State := s.advanceTo (s.now + 64 * n)

/-- REALIGNMENT_WINDOW_END of channel n: its SYNCWIN cycles have passed (02 R71). -/
def State.windowEnd (s : State) (n : Nat) : State :=
  match (s.mclk n).windowEnd with
  | some r => ((s.advanceCycles (r - s.tm.refclk)).setMclk n { s.mclk n with windowEnd := none }).sdRestart n
  | none => s

/-! ## The DLL (02 R51, R52) -/

/-- A write of CLK_CTRL: without FWD_EN the forwarded clock is not followed (02 R53); a clear of DLL_EN is rejected while
the chip drives a cell, and otherwise stops the time base. -/
def State.clkCtrlWrite (s : State) (v : Word) : State :=
  let r := s.setF F.CLK_CTRL.FWD_EN (fld v 1 1)
  let t := if !bitAt v 1 && decide (r.f F.CLK_STATUS.SRC = 2) then r.setSrc 3 else r
  if bitAt v 0 then t.setB F.CLK_CTRL.DLL_EN true
  else if t.drivesCells then t
  else
    let u := ((t.setB F.CLK_CTRL.DLL_EN false).setB F.CLK_STATUS.LOCKED false).setSrc 0;
    { u with tm := { u.tm with lockLost := false } }

/-- DLL_ENABLE: CLK_CTRL.DLL_EN is set (02 R51). -/
def State.dllEnable (s : State) : State :=
  if s.on 1 then s.setB F.CLK_CTRL.DLL_EN true else s

/-- The effects of every lock: LOCKED, LOCKCNT, SRC and the measurement clocks (02 R51, R53, R72). -/
def State.lockNow (s : State) : State :=
  (((s.setB F.CLK_STATUS.LOCKED true).satF F.CLK_STATUS.LOCKCNT 1).setSrc s.srcNow).mclkAfterLock

/-- DLL_LOCK: the first lock of a chip that is not joined starts stack time at 0 (02 R51, R56). -/
def State.dllLock (s : State) : State :=
  if s.on 1 && s.fb F.CLK_CTRL.DLL_EN && !s.timeValid && !s.tm.lockLost then
    let t := s.lockNow
    if s.tm.started then t
    else { t with tm := { t.tm with started := true, count := 0, k := 0, lastT := none } }
  else s

/-- DLL_LOCK_LOSS: LOCKED clears and source 1 is raised; stack time goes on with the tap held (02 R52). -/
def State.dllLockLoss (s : State) : State :=
  if s.on 1 && s.timeValid then
    let t := (s.setB F.CLK_STATUS.LOCKED false).setSrc 0
    s.rose { t with tm := { t.tm with lockLost := true } } [1]
  else s

/-- DLL_RELOCK: 256 consecutive good cycles have passed (02 R52). -/
def State.dllRelock (s : State) : State :=
  if s.on 1 && s.tm.lockLost then
    State.lockNow { s with tm := { s.tm with lockLost := false } }
  else s

/-! ## Compare channels and time pulses (02 R60, R65; 14 R421) -/

/-- The 40-bit target of channel n. -/
def State.cmpTarget (s : State) (n : Nat) : Nat :=
  (s.reg (R.STM_CMPLO n)).toNat + s.f (F.STM_CMPHI.TGT n) * 2 ^ 32

/-- The signed 40-bit difference of the target from stack time (00 R7). -/
def State.cmpDiff (s : State) (n : Nat) : Int := timeDiff 40 (s.cmpTarget n) s.now

/-- A target of channel n armed; already due, it fires in the next cycle with LATE (02 R60). -/
def State.cmpArm (s : State) (n target : Nat) : State :=
  let t := ((s.setReg (R.STM_CMPLO n) (wN target)).setF (F.STM_CMPHI.TGT n) (target / 2 ^ 32)).setB (F.STM_CMPHI.EN n) true;
  { t with tm := { t.tm with
      dueArmed := tblSet (fun _ => false) t.tm.dueArmed n (decide (t.cmpDiff n ≤ 0)) } }

/-- COMPARE_ARM: the writes of STM_CMPnLO and STM_CMPnHI with EN = 1. -/
def State.compareArm (s : State) (n : Nat) (target : BitVec 40) (int : Bool) : State :=
  if s.on 1 then (s.setB (F.STM_CMPHI.INT n) int).cmpArm n target.toNat else s

/-- A time-pulse output takes its active level for WIDTH cycles; REP re-arms the channel INTV ticks on (14 R421). -/
def State.tpoFire (s : State) (n : Nat) : State :=
  if 6 ≤ n && s.on 10 && s.fb (F.TPO_CFG.EN (n - 6)) then
    let o := n - 6
    let t : State := { s with eth := { s.eth with
      tpo := tblSet (fun _ => none) s.eth.tpo o (some (s.tm.refclk + s.f (F.TPO_CFG.WIDTH o))) } }
    if t.fb (F.TPO_CFG.REP o) then
      t.cmpArm n ((t.cmpTarget n + (t.reg (R.TPO_INTVLO o)).toNat + t.f (F.TPO_INTVHI.INTV o) * 2 ^ 32) % 2 ^ 40)
    else t
  else s

/-- Channel n fires (02 R60). -/
def State.cmpFire (s : State) (n : Nat) (late : Bool) : State :=
  let t := ((s.setB (F.STM_CMPHI.FIRED n) true).setB (F.STM_CMPHI.EN n) false)
  let u := if late || tblGet (fun _ => false) s.tm.dueArmed n then t.setB (F.STM_CMPHI.LATE n) true else t
  State.tpoFire { u with tm := { u.tm with dueArmed := tblSet (fun _ => false) u.tm.dueArmed n false } } n

/-- COMPARE_FIRE: an armed channel fires in the first cycle in which its difference is zero or negative; a target still
ahead is where stack time moves to (log 4). -/
def State.compareFire (s : State) (n : Nat) : State :=
  if s.on 1 && s.timeValid && s.fb (F.STM_CMPHI.EN n) then
    (s.advanceTo (s.now + (max 0 (s.cmpDiff n)).toNat)).cmpFire n false
  else s

/-! ## Steps (02 R56, R63, R65; 14 R420) -/

/-- The committed and shadow DREF move with a step while the map is valid (14 R420). -/
def State.drefStep (s : State) (e : Int) : State :=
  if s.on 10 && s.fb F.ETH_DMAPCTL.VALID then
    let sh : Nat := (s.reg R.ETH_DREFLO).toNat + (s.reg R.ETH_DREFHI).toNat * 2 ^ 32
    let n : DWord := BitVec.ofNat 64 sh + BitVec.ofInt 64 e
    let t := (s.setReg R.ETH_DREFLO (n.extractLsb' 0 32)).setReg R.ETH_DREFHI (n.extractLsb' 32 32);
    { t with eth := { t.eth with dmap := { t.eth.dmap with dref := t.eth.dmap.dref + BitVec.ofInt 64 e } } }
  else s

/-- The greatest boundary at or before a stack time, or none before T_0. -/
def State.boundaryBefore (s : State) (t : Nat) : Option Nat :=
  if s.origin ≤ t ∧ 0 < s.periodTicks then some (s.boundary ((t - s.origin) / s.periodTicks)) else none

/-- The index of the period in progress at stack time t. -/
def State.periodAt (s : State) (t : Nat) : Nat := (t - s.origin) / s.periodTicks

/-- Stack time steps by e, with its record code (02 R65): boundaries that a forward step skips are not generated;
armed targets that it passes fire with LATE; a backward step generates no boundary until the last one is passed. -/
def State.stepBy (s : State) (e : Int) (code : Nat) : State :=
  let old := s.now
  let n : DWord := s.tm.count + BitVec.ofInt 64 e
  let s1 : State := { s with tm := { s.tm with count := n } }
  let s2 := ((s1.setF F.STM_PHASE.TAP (ux 6 ((s.f F.STM_PHASE.TAP : Int) + e))).setB F.STM_STATUS.STEPPED true).note 2 code (ux 32 e)
  let s3 : State := if old < n.toNat then
      { s2 with tm := { s2.tm with
        lastT := match s2.boundaryBefore n.toNat with
          | some b => if s2.tm.lastT.getD 0 < b ∨ s2.tm.lastT = none then some b else s2.tm.lastT
          | none => s2.tm.lastT
        k := max s2.tm.k (s2.periodAt n.toNat) } }
    else s2
  let s4 := s3.forAll (List.range 8) fun t i =>
    if t.fb (F.STM_CMPHI.EN i) && decide (0 < s.cmpDiff i) && decide (t.cmpDiff i ≤ 0) then t.cmpFire i true else t
  (s4.reduceErr e).drefStep e

/-- STM_LOAD: STM_CTRL.SET loads STM_SETHI:STM_SETLO on the master, or a chip not joined, that drives no cell; under
any other condition it is ignored and SETREJ set (02 R56). -/
def State.stmLoad (s : State) : State :=
  if s.on 1 then
    if !s.follows && !s.drivesCells then
      let v : Nat := (s.reg R.STM_SETLO).toNat + (s.reg R.STM_SETHI).toNat * 2 ^ 32
      s.stepBy ((v : Int) - (s.now : Int)) 3
    else s.setB F.STM_STATUS.SETREJ true
  else s

/-- TIME_STEP (02 R63): the step due after a measurement on a chip that drives no cell, or at the end of a time
handover. -/
def State.timeStep (s : State) : State :=
  if s.timeValid && s.follows && !s.drivesCells && (s.tm.stepDue || s.fb F.STM_STATUS.THANDOVER) then
    let t := s.stepBy s.err 1
    let u := if t.fb F.STM_STATUS.THANDOVER then
        { (t.setB F.STM_STATUS.THANDOVER false) with tm := { t.tm with stepDue := false, takeBack := true, okPeriods := 0 } }
      else { t with tm := { t.tm with stepDue := false } }
    s.rose (u.setB F.STM_STATUS.FARSLEW false) [20]
  else s

/-! ## Errors and slew (02 R61, R62, R66 to R68) -/

/-- One measurement of the error in the period (02 R61): port A's counts, port B's only while no port A beacon has
arrived; then e and, on a chip that drives no cell, a step when abs(e) exceeds 64 ticks (R63). -/
def State.errMeasure (s : State) (e : Int) (fromB : Bool) : State :=
  let k := s.tm.k
  let mine : ErrSample := { err := e, fromB := fromB, k := k }
  let old := s.tm.errs
  let keep := match old.getLast? with
    | some x => if x.k = k then (if x.fromB && !fromB then some (old.dropLast ++ [mine]) else none)
                else some (old ++ [mine])
    | none => some [mine]
  let s1 : State := { (s.setB F.STM_STATUS.BEACON_OK true) with tm := { s.tm with beaconK := some k } }
  match keep with
  | none => s1
  | some l =>
    let t := State.showErr { s1 with tm := { s1.tm with errs := l.drop (l.length - 4) } };
    { t with tm := { t.tm with stepDue := !t.drivesCells && !t.errWithin 64 } }

/-- The direction of a slew step: that which reduces e; towards the forwarded tap while the clock qualifies, and the
shorter way round while abs(e) ≤ 2 (02 R62, R68). Zero is no step. Equal ways round are a free choice (log 21). -/
def State.slewDir (s : State) : Int :=
  let coastMove := decide (s.f F.CLK_STATUS.SRC = 3) && s.fb F.CLK_STATUS.FWD_QUAL && s.fb F.CLK_CTRL.FWD_EN &&
    decide (s.f F.STM_PHASE.TAP ≠ s.tm.fwdTap)
  if !s.errWithin 2 then (if 0 < s.errSum then 1 else -1)
  else if coastMove then
    let d := phaseDiff s.tm.fwdTap (s.f F.STM_PHASE.TAP) 64
    if d = 32 then (if bitAt s.free 0 then 1 else -1) else if 0 < d then 1 else -1
  else 0

/-- SLEW_STEP (02 R54, R62): one tick in a cycle, at most once in 200 cycles, by moving the tap by one position. -/
def State.slewStep (s : State) : State :=
  let d := s.slewDir
  if s.live && s.timeValid && s.follows && decide (d ≠ 0) &&
      (match s.tm.lastSlew with | none => true | some r => decide (r + 200 ≤ s.tm.refclk)) then
    let t : State := { s with tm := { s.tm with
      count := s.tm.count + BitVec.ofInt 64 (64 + d), refclk := s.tm.refclk + 1,
      lastSlew := some s.tm.refclk } }
    (((t.setF F.STM_PHASE.TAP (ux 6 ((t.f F.STM_PHASE.TAP : Int) + d))).incF F.STM_PHASE.SLEWCNT 1).reduceErr d).freeNext
  else s

/-- FORWARDED_CLOCK_LOST: no edge for 8 cycles, or a jump of the picked tap (02 R66): SRC changes to COAST with the tap
held, and source 20 is raised. A qualification in progress restarts. -/
def State.forwardedClockLost (s : State) (jump : Bool) : State :=
  if s.live && s.on 1 then
    let t := (s.setB F.CLK_STATUS.FWD_PRESENT jump).setB F.CLK_STATUS.FWD_QUAL false
    if t.follows && t.timeValid && decide (t.f F.CLK_STATUS.SRC = 2) then t.setSrc 3 else t
  else s

/-- FORWARDED_CLOCK_QUALIFY: 1,024 clean cycles with a steady picked tap (02 R68). -/
def State.forwardedClockQualify (s : State) (tap : Nat) : State :=
  if s.live && s.on 1 && s.timeValid then
    let t := (s.setB F.CLK_STATUS.FWD_PRESENT true).setB F.CLK_STATUS.FWD_QUAL true;
    { t with tm := { t.tm with fwdTap := tap } }
  else s

/-- FWD_RESUME: the tap positions are equal, and SRC changes to FWD with SETTLE set (02 R68); not while a time handover
waits for its step. -/
def State.fwdResume (s : State) : State :=
  if s.live && s.timeValid && s.follows && s.fb F.CLK_STATUS.FWD_QUAL && s.fb F.CLK_CTRL.FWD_EN &&
      decide (s.f F.CLK_STATUS.SRC = 3) && decide (s.f F.STM_PHASE.TAP = s.tm.fwdTap) && !s.fb F.STM_STATUS.THANDOVER then
    (s.setB F.STM_STATUS.SETTLE true).setSrc 2
  else s

/-- SETTLE_END: abs(e) is at or below 8 ticks (02 R68). -/
def State.settleEnd (s : State) : State :=
  if s.fb F.STM_STATUS.SETTLE && s.errWithin 8 then s.setB F.STM_STATUS.SETTLE false else s

/-- A read of STM_TIMELO: the low word, and the latch of the high word for that requester (02 R57). -/
def State.timeloRead (s : State) (idx : Nat) : State × Word :=
  ({ s with tm := { s.tm with
      hiLatch := tblSet (fun _ => (0 : Word)) s.tm.hiLatch idx (s.tm.count.extractLsb' 32 32) } },
    s.tm.count.extractLsb' 0 32)

/-! ## The boundary's part (02 R59, R61, R64, R67) -/

/-- The next boundary to be generated: the first T_k after the last one generated, or the first at or past stack time
(02 R59, R65). -/
def State.nextBoundary (s : State) : Nat :=
  match s.tm.lastT with
  | some t => if t < s.origin then 0 else (t - s.origin) / s.periodTicks + 1
  | none => if s.now ≤ s.origin then 0 else (s.now - s.origin + s.periodTicks - 1) / s.periodTicks

/-- Boundary k rises: stack time has reached T_k, and period k begins. -/
def State.enterPeriod (s : State) (k : Nat) : State :=
  let t := s.advanceTo (s.boundary k);
  { (t.setReg R.STM_KLO (wN k)) with tm := { t.tm with k := k, lastT := some (s.boundary k) } }

/-- BEACON_OK, the drift trend with DRIFTBAD and its record, and the periods of R64 counted at a boundary. -/
def State.timeBoundary (s : State) : State :=
  let ok := match s.tm.beaconK with | some b => decide (s.tm.k ≤ b + 2) | none => false
  let s1 := s.setB F.STM_STATUS.BEACON_OK ok
  let s2 : State := if s1.follows then
      let h := s1.tm.history ++ [s1.err]
      let h := h.drop (h.length - 64)
      let t : State := { s1 with tm := { s1.tm with history := h } }
      if h.length < 64 then t
      else
        let d := Config.driftTrend h (t.f F.STM_PERIOD.P)
        let bad := decide (1024 < absI (satS 16 d))
        let u := (t.setF F.STM_DRIFT.DRIFT (ux 16 (satS 16 d))).setB F.STM_STATUS.DRIFTBAD bad
        if bad && !t.fb F.STM_STATUS.DRIFTBAD then u.note 2 2 (ux 16 (satS 16 d)) else u
    else { s1 with tm := { s1.tm with history := [] } }
  if s2.tm.takeBack then
    let t : State := { s2 with tm := { s2.tm with okPeriods := if s2.errWithin 8 then s2.tm.okPeriods + 1 else 0 } }
    if t.fb F.STM_STATUS.DRIFTBAD then t.satF F.STM_STATUS.HOLDCNT 1 else t
  else s2

/-! ## A REFCLK cycle with nothing commanded (log 59) -/

/-- One REFCLK cycle: stack time counts 64 ticks once the DLL has started it, through a loss of lock too (02 R52, R56). -/
def State.refclkCycle (s : State) : State :=
  if s.on 1 && !s.pwr.inReset && s.fb F.CLK_CTRL.DLL_EN && s.tm.started then
    { s with tm := { s.tm with count := s.tm.count + 64, refclk := s.tm.refclk + 1 } }
  else s

end Sys2Proof.Machine
end

