-- ==== Sys2Proof/Machine/Bridge.lean ====
section
/-! DEFINITION. The bridge port (10): PWM periods with carry, dead time and refresh, the shadow set, forcing, the fault
latches, soft and hard stops, and the trip inputs. -/

namespace Sys2Proof.Machine

/-! ## Channels -/

/-- Channel c. -/
def State.brpCh (s : State) (c : Nat) : BrpChan := tblGet (fun _ => ({} : BrpChan)) s.brp.ch c

def State.setBrpCh (s : State) (c : Nat) (x : BrpChan) : State :=
  { s with brp := { s.brp with ch := tblSet (fun _ => ({} : BrpChan)) s.brp.ch c x } }

def State.modBrpCh (s : State) (c : Nat) (h : BrpChan → BrpChan) : State := s.setBrpCh c (h (s.brpCh c))

/-- The bridge port is powered. -/
def State.brpOn (s : State) : Bool := s.live && s.on 11

/-- BRP_STATc.RUN. -/
def State.brpRun (s : State) (c : Nat) : Bool := s.fb (F.BRP_STAT.RUN c)

/-- A latch of R329 holds both gates of the channel off. -/
def State.brpLatched (s : State) (c : Nat) : Bool :=
  s.fb (F.BRP_STAT.SC c) || s.fb (F.BRP_STAT.BOOTUV c) || s.fb (F.BRP_STAT.TRIP c) || s.fb (F.BRP_STAT.ILK c) ||
    s.fb (F.BRP_STAT.BOTHON c) || s.fb (F.BRP_STAT.SAFEHOLD c)

/-- An SF1 stop holds channel c: its SAFEHOLD, or the demand itself while it is held, the reset hold among them (R332;
13 R378, R382). -/
def State.safeHeld (s : State) (c : Nat) : Bool :=
  s.fb (F.BRP_STAT.SAFEHOLD c) || bitAt (s.reg R.SFU_STATUS) 20

/-- The channel's gates are held low whatever its PWM does (R311, R313, R329). -/
def State.brpHeld (s : State) (c : Nat) : Bool :=
  s.brpLatched c || s.fb F.BRP_CTRL.VGDLOW || (s.brpCh c).vgdWait || !s.fb F.BRP_CTRL.EN || !s.brpRun c

/-- BRP_STATUS as it reads. -/
def State.brpStatus (s : State) : Word :=
  let m := fun (h : Nat → Bool) => (List.range 8).foldl (fun n c => if h c then n + 2 ^ c else n) 0
  wN (m s.brpRun * 2 ^ 24 + m (fun c => s.fb (F.BRP_STAT.STOPPING c)) * 2 ^ 16 +
    m (fun c => s.fb (F.BRP_STAT.PENDEN c)) * 2 ^ 8 + m s.brpLatched)

/-! ## Trip inputs and blanking (R328) -/

/-- The end of trip input t's blanking window. -/
def State.blankEnd (s : State) (t : Nat) : Option Nat := tblGet (fun _ => none) s.brp.blank t

def State.setBlank (s : State) (t : Nat) (e : Option Nat) : State :=
  { s with brp := { s.brp with blank := tblSet (fun _ => none) s.brp.blank t e } }

/-- The comparator output that drives trip input t. -/
def State.tripOut (s : State) (t : Nat) : Bool := bitAt (s.reg R.MSR_CMPSTAT) t

/-- Trip input t is enabled and asserted outside a window. -/
def State.tripActive (s : State) (t : Nat) : Bool :=
  s.fb (F.BRP_TRIP.EN t) && s.tripOut t && (s.blankEnd t).isNone

/-- BRP_TRIPSTAT follows the inputs and windows. -/
def State.showTrips (s : State) : State :=
  let m := fun (h : Nat → Bool) => (List.range 8).foldl (fun n t => if h t then n + 2 ^ t else n) 0
  (s.setF F.BRP_TRIPSTAT.ASSERTED (m s.tripActive)).setF F.BRP_TRIPSTAT.BLANKED (m fun t => (s.blankEnd t).isSome)

/-- An edge of a running channel opens, or restarts, the windows of the inputs that name it. -/
def State.openWindows (s : State) (c : Nat) : State :=
  let t := s.forAll ((List.range 8).filter fun t => s.fb (F.BRP_TRIP.TMREN t) && decide (s.f (F.BRP_TRIP.TMR t) = c))
    fun u t => u.setBlank t (some (u.now + u.f (F.BRP_TRIP.BLANK t)))
  t.showTrips

/-! ## Gates -/

/-- A gate takes a level now. -/
def State.gateNow (s : State) (c : Nat) (hi on : Bool) : State :=
  let x := s.brpCh c
  if (if hi then x.ho else x.lo) = on then s
  else
    let n := s.now
    let y : BrpChan := if hi then { x with ho := on, hoAt := some n, honAt := if on then n else x.honAt }
      else { x with lo := on, loAt := some n }
    let z : BrpChan := if on then { y with roseAt := some n } else y
    let t := s.setBrpCh c z
    if t.brpRun c then t.openWindows c else t

/-- Both gates turn off in this cycle, and what was to change them is dropped only where `drop` says so. -/
def State.gatesOff (s : State) (c : Nat) (drop : Bool) : State :=
  let t := (s.gateNow c true false).gateNow c false false
  if drop then t.modBrpCh c fun x => { x with edges := [] } else t

/-- The carry becomes 0 (R317). -/
def State.carryZero (s : State) (c : Nat) : State := s.setReg (R.BRP_CARRY c) 0

/-- The first instant T_j + PHASE at least 2 cycles ahead (R314). -/
def State.brpStart (s : State) (c : Nat) : Nat :=
  let base := s.origin + s.f (F.BRP_PHASE.PHASE c)
  let need := s.now + 128
  let p := max 1 s.periodTicks
  if need ≤ base then base else base + (need - base + p - 1) / p * p

/-- A FORCE, an enable or a hard stop ends a gate-charge measurement of the channel with REFUSED (11 R344). -/
def State.gqAbort (s : State) (c : Nat) : State :=
  match s.msr.gq with
  | some (d, _) =>
    if d = c then
      let t := (((s.setB F.MSR_GQRES.BUSY false).setF F.MSR_GQRES.RES 4).setB F.MSR_STATUS.GQDONE true).gatesOff c true;
      { t with msr := { t.msr with gq := none } }
    else s
  | none => s

/-- Channel c starts (R314). -/
def State.startChannel (s0 : State) (c : Nat) : State :=
  let s := s0.gqAbort c
  (((s.setB (F.BRP_STAT.RUN c) true).setB (F.BRP_STAT.PENDEN c) false).carryZero c).setBrpCh c
    { s.brpCh c with bnd := some (s.brpStart c), edges := [], rel := false, softEnd := none }

/-- A soft stop ends (R331): both gates off, STOPDONE; a pending enable starts the channel. -/
def State.endSoftStop (s : State) (c : Nat) : State :=
  let t := (s.gatesOff c true).modBrpCh c fun x => { x with bnd := none, softEnd := none, rel := false }
  let u := ((((t.setB (F.BRP_STAT.RUN c) false).setB (F.BRP_STAT.STOPPING c) false).setB (F.BRP_STAT.STOPDONE c)
    true).setB (F.BRP_STAT.FORCED c) false).carryZero c
  if u.fb (F.BRP_STAT.PENDEN c) then u.startChannel c else u

/-- A latch of channel c sets (R329): both gates off, the carry 0, and a soft stop ends at once (R331). -/
def State.latchBrp (s : State) (c : Nat) (x : Field) : State :=
  let t := ((s.setB x true).gatesOff c false).carryZero c
  if t.fb (F.BRP_STAT.STOPPING c) then t.endSoftStop c else t

/-- The trip input stops the channels of its CHMASK (R328). -/
def State.tripStop (s : State) (t : Nat) : State :=
  let l := (List.range 8).filter fun c => bitAt (s.reg (R.BRP_TRIP t)) (16 + c)
  s.rose (s.forAll l fun u c => u.latchBrp c (F.BRP_STAT.TRIP c)) [23]

/-- The trip inputs that stand asserted outside their windows latch again at once on channel c (R329). -/
def State.tripAgain (s : State) (c : Nat) : State :=
  let again := (List.range 8).any fun t => s.tripActive t && bitAt (s.reg (R.BRP_TRIP t)) (16 + c)
  if again then s.latchBrp c (F.BRP_STAT.TRIP c) else s

/-- A demanded rising edge in COMMISSION clears SC, BOOTUV and TRIP of its channel (R329). -/
def State.clearByEdge (s : State) (c : Nat) : State :=
  if s.commission then
    let t := (((s.setB (F.BRP_STAT.SC c) false).setB (F.BRP_STAT.BOOTUV c) false).setB (F.BRP_STAT.TRIP c) false)
    t.tripAgain c
  else s

/-- One gate edge is executed (R315, R325, R329). -/
def State.doEdge (s : State) (c : Nat) (hi on : Bool) : State :=
  if !on then s.gateNow c hi false
  else
    let t := if s.brpLatched c then s.clearByEdge c else s
    if hi && t.fb (F.BRP_STAT.BOOTLOW c) && t.brpRun c && !t.brpLatched c then
      s.rose (t.latchBrp c (F.BRP_STAT.BOOTUV c)) [22]
    else if t.brpHeld c then t
    else t.gateNow c hi true

/-! ## Commands on the registers -/

/-- BRP_ENSET (R314, R331, R332; ignored while a grave fault stands, 12 R365). -/
def State.brpEnset (s : State) (ch : Nat) : State :=
  if s.brpOn && !s.grave then
    s.forAll (bitsOf 8 ch) fun t c =>
      if !t.fb (F.BRP_CFG.USE c) || t.safeHeld c then t
      else if t.fb (F.BRP_STAT.STOPPING c) then t.setB (F.BRP_STAT.PENDEN c) true
      else if t.brpRun c then t
      else t.startChannel c
  else s

/-- BRP_ENCLR: a soft stop of each running channel; on one that is stopping it cancels the pending enable (R331). -/
def State.brpEnclr (s : State) (ch : Nat) : State :=
  if s.brpOn then
    s.forAll (bitsOf 8 ch) fun t c =>
      if t.fb (F.BRP_STAT.STOPPING c) then t.setB (F.BRP_STAT.PENDEN c) false
      else if t.brpRun c then
        let u := t.setB (F.BRP_STAT.STOPPING c) true
        if u.brpLatched c then u.endSoftStop c else u
      else t
  else s

/-- SOFT_STOP_DONE: the STOPLO hold ends (R331). -/
def State.softStopDone (s : State) (c : Nat) : State :=
  match (s.brpCh c).softEnd with
  | some e => if s.brpOn then (s.advanceTo e).endSoftStop c else s
  | none => s

/-- A write of BRP_PERc or BRP_DUTYc (R318, R320). -/
def State.shadowWrite (s : State) (ce : Bool) (c : Nat) (duty : Bool) (v : Nat) : State :=
  if s.brpOn then
    let t := s.setF (if duty then F.BRP_DUTY.VALUE c else F.BRP_PER.VALUE c) v
    let u := (t.setB (F.BRP_SHCTL.DIRTY c) true).setB (F.BRP_SHCTL.COMMITTED c) false
    if ce then u.setB (F.BRP_SHCTL.CEPEND c) true
    else (u.setB (F.BRP_SHCTL.CEPEND c) false).modBrpCh c fun x => { x with procWr := true }
  else s

/-- COMMIT: sets COMMITTED when DIRTY is 1 (R318). -/
def State.shadowCommit (s : State) (c : Nat) : State :=
  if s.brpOn && s.fb (F.BRP_SHCTL.DIRTY c) then s.setB (F.BRP_SHCTL.COMMITTED c) true else s

/-- The marks of the shadow set clear. -/
def State.shadowClean (s : State) (c : Nat) : State :=
  (((s.setB (F.BRP_SHCTL.DIRTY c) false).setB (F.BRP_SHCTL.COMMITTED c) false).setB (F.BRP_SHCTL.CEPEND c) false).modBrpCh
    c fun x => { x with procWr := false }

/-- DISCARD: the shadow takes the active values (R318). -/
def State.shadowDiscard (s : State) (c : Nat) : State :=
  if s.brpOn then
    ((s.setF (F.BRP_PER.VALUE c) (s.f (F.BRP_ACTPER.VALUE c))).setF (F.BRP_DUTY.VALUE c)
      (s.f (F.BRP_ACTDUTY.VALUE c))).shadowClean c
  else s

/-- When a forced gate may change (R321): the floor of TMIN on the gate, and DT after its partner turned off. -/
def State.forceAt (s : State) (c : Nat) (hi on : Bool) : Nat :=
  let x := s.brpCh c
  let mine := if hi then x.hoAt else x.loAt
  let other := if hi then x.loAt else x.hoAt
  let otherOn := if hi then x.lo else x.ho
  let floor := match mine with | some t => max s.now (t + s.f (F.BRP_TIM.TMIN c)) | none => s.now
  if !on then floor
  else
    let off := if otherOn then
        (match other with | some t => max s.now (t + s.f (F.BRP_TIM.TMIN c)) | none => s.now) + s.f (F.BRP_TIM.DT c)
      else (match other with | some t => t + s.f (F.BRP_TIM.DT c) | none => s.now)
    max floor off

/-- The edges of a list that are due now are executed, and the others wait. -/
def State.runDue (s : State) (c : Nat) : State :=
  let l := (s.brpCh c).edges
  let due := l.filter fun e => decide (e.at_ ≤ s.now)
  let t := s.modBrpCh c fun x => { x with edges := l.filter fun e => !decide (e.at_ ≤ s.now) }
  t.forAll due fun u e => u.doEdge c e.hi e.on

/-- BRP_FORCE SET on channel c with its two gate bits (R321, R322). -/
def State.forceChannel (s : State) (c : Nat) (ho lo : Bool) : State :=
  if !s.brpRun c || s.safeHeld c then s
  else if ho && lo then
    let t := ((s.gatesOff c true).setB (F.BRP_STAT.ILK c) true).incF F.BRP_ILKCNT.COUNT 1
    let u := (((t.setB (F.BRP_STAT.FORCED c) true).carryZero c).note 11 1 c).modBrpCh c fun x => { x with rel := false }
    if u.fb (F.BRP_STAT.STOPPING c) then u.endSoftStop c else u
  else
    let t := (((s.setB (F.BRP_STAT.FORCED c) true).setB (F.BRP_STAT.ILK c) false).carryZero c).modBrpCh c fun x =>
      { x with rel := false, edges := [] }
    let x := t.brpCh c
    let e := (if x.ho && !ho then [{ at_ := t.forceAt c true false, hi := true, on := false }] else []) ++
      (if x.lo && !lo then [{ at_ := t.forceAt c false false, hi := false, on := false }] else []) ++
      (if ho && !x.ho then [{ at_ := t.forceAt c true true, hi := true, on := true }] else []) ++
      (if lo && !x.lo then [({ at_ := t.forceAt c false true, hi := false, on := true } : GateEdge)] else [])
    (t.modBrpCh c fun x => { x with edges := e }).runDue c

/-- FORCE_SET: a write of BRP_FORCE with SET. -/
def State.forceSet (s : State) (set gates : Nat) : State :=
  if s.brpOn then
    s.forAll (bitsOf 8 set) fun t c => (t.gqAbort c).forceChannel c (gates.testBit (2 * c + 1)) (gates.testBit (2 * c))
  else s

/-- FORCE_RELEASE: a write of BRP_FORCE with REL; the channel returns at its next boundary (R321). -/
def State.forceRelease (s : State) (rel : Nat) : State :=
  if s.brpOn then
    s.forAll (bitsOf 8 rel) fun t c =>
      if t.fb (F.BRP_STAT.FORCED c) && !t.safeHeld c then
        t.modBrpCh c fun x => { x with rel := true }
      else t
  else s

/-- BRP_CLR with one latch (R329): a cause still present sets it again at once. -/
def State.clearLatch (s : State) (ch : Nat) (x : Nat → Field) (trip : Bool) : State :=
  if s.brpOn then
    s.rose (s.forAll (bitsOf 8 ch) fun t c =>
      let u := t.setB (x c) false
      if trip then u.tripAgain c else u) (if trip then [23] else [])
  else s

/-! ## PWM periods (R315 to R317, R319, R320, R324) -/

/-- The set that stands committed transfers; a torn set stays (R319, R320). -/
def State.transferSet (s : State) (c : Nat) : State :=
  if s.fb (F.BRP_SHCTL.COMMITTED c) then
    ((s.setF (F.BRP_ACTPER.VALUE c) (s.f (F.BRP_PER.VALUE c))).setF (F.BRP_ACTDUTY.VALUE c)
      (s.f (F.BRP_DUTY.VALUE c))).shadowClean c
  else if s.fb (F.BRP_SHCTL.DIRTY c) then
    if s.fb (F.BRP_SHCTL.CEPEND c) && !(s.brpCh c).procWr then s
    else (s.setB (F.BRP_STAT.TORN c) true).raise 30
  else s

/-- The form of one period (R316). -/
inductive PeriodForm where
  | low
  | high
  | edges (d : Nat)
  deriving DecidableEq, Repr

/-- The period, the carry it leaves, and whether it counts as a runt (R316), from DUTY + carry, PER, DT, TMIN and FULL. -/
def formPeriod (raw : Int) (per dt tmin : Nat) (full : Bool) : PeriodForm × Int × Bool :=
  let de := clampI 0 per raw
  let cut := raw - de
  let d := de.toNat
  let n : Int := (per : Int) - de - 2 * (dt : Int)
  let cap := per - 2 * dt - tmin
  if de = 0 then (.low, cut, false)
  else if de < tmin then (.low, de, true)
  else if (tmin : Int) ≤ n then (.edges d, cut, false)
  else if de < per then
    if full then (.high, -n, true) else (.edges cap, de - cap, false)
  else if full then (.high, cut, false)
  else (.edges cap, raw - cap, false)

/-- The carry after a period, bounded to ±TMIN with its age (R317). -/
def State.setBrpCarry (s : State) (c : Nat) (v : Int) (oldAge : Nat) : State :=
  let lim : Int := s.f (F.BRP_TIM.TMIN c)
  let w := clampI (-lim) lim v
  let t := if w = v then s else s.incF F.BRP_CARRYDROP.DROPS 1
  (t.setF (F.BRP_CARRY.CARRY c) (ux 24 w)).setF (F.BRP_CARRY.AGE c) (if w = 0 then 0 else min 3 (oldAge + 1))

/-- The refresh interval in ticks: REFRESH in µs (R324). -/
def State.refreshTicks (s : State) (c : Nat) : Nat := s.f (F.BRP_CFG.REFRESH c) * 12800

/-- The edges of a period that starts at b (R315, R324), and whether it holds a refresh notch. -/
def State.periodEdges (s : State) (c b : Nat) (form : PeriodForm) : List GateEdge × Bool :=
  let x := s.brpCh c
  let dt := s.f (F.BRP_TIM.DT c)
  let per := s.f (F.BRP_ACTPER.VALUE c)
  let low := (if x.ho then [({ at_ := b, hi := true, on := false } : GateEdge)] else []) ++
    (if x.lo then [] else [{ at_ := b + (if x.ho then dt else 0), hi := false, on := true }])
  match form with
  | .low => (low, false)
  | .high =>
    let w := max (s.f (F.BRP_TIM.TMIN c)) (s.f (F.BRP_TCHG.TCHG c))
    if s.fb (F.BRP_CFG.FULL c) && !s.fb (F.BRP_CFG.NOREFRESH c) && x.ho &&
        decide (s.refreshTicks c + x.honAt < b + per) then
      ([{ at_ := b, hi := true, on := false }, { at_ := b + dt, hi := false, on := true },
        { at_ := b + dt + w, hi := false, on := false }, { at_ := b + 2 * dt + w, hi := true, on := true }], true)
    else
      ((if x.lo then [({ at_ := b, hi := false, on := false } : GateEdge)] else []) ++
        (if x.ho then [] else [{ at_ := b + (if x.lo then dt else 0), hi := true, on := true }]), false)
  | .edges d =>
    let n := per - d - 2 * dt
    let st := if s.fb (F.BRP_CFG.ALIGN c) then b + n / 2 else b
    let pre := if st = b then (if x.ho then [({ at_ := b, hi := true, on := false } : GateEdge)] else []) else low
    (pre ++ [{ at_ := st, hi := false, on := false }, { at_ := st + dt, hi := true, on := true },
      { at_ := st + dt + d, hi := true, on := false }, { at_ := st + 2 * dt + d, hi := false, on := true }], false)

/-- The period that starts at b is formed (R316, R317, R324). -/
def State.newPeriod (s : State) (c b : Nat) : State :=
  let age := s.f (F.BRP_CARRY.AGE c)
  let old := sx 24 (s.f (F.BRP_CARRY.CARRY c))
  let drop := decide (2 ≤ age) && decide (old ≠ 0)
  let s1 := if drop then s.incF F.BRP_CARRYDROP.DROPS 1 else s
  let carry := if drop then 0 else old
  let p := formPeriod ((s.f (F.BRP_ACTDUTY.VALUE c) : Int) + carry) (s.f (F.BRP_ACTPER.VALUE c))
    (s.f (F.BRP_TIM.DT c)) (s.f (F.BRP_TIM.TMIN c)) (s.fb (F.BRP_CFG.FULL c))
  let s2 := if s1.brpLatched c then s1.carryZero c else s1.setBrpCarry c p.2.1 (if drop then 0 else age)
  let s3 := if p.2.2 then s2.incF (F.BRP_CNT.RUNTS c) 1 else s2
  let e := s3.periodEdges c b p.1
  let s4 := if e.2 then s3.incF (F.BRP_CNT.REFRESHES c) 1 else s3
  s4.modBrpCh c fun x => { x with edges := (x.edges.filter fun y => decide (y.at_ < b)) ++ e.1 }

/-- PWM_BOUNDARY of channel c (R314 to R320, R331): the channel's next boundary. -/
def State.pwmBoundary (s : State) (c : Nat) : State :=
  match (s.brpCh c).bnd with
  | none => s
  | some b =>
    if !(s.brpOn && s.brpRun c && s.timeValid) then s
    else
      let t := (s.advanceTo b).transferSet c
      let rel := (t.brpCh c).rel
      let t1 := if rel then
          ((t.setB (F.BRP_STAT.FORCED c) false).setB (F.BRP_STAT.ILK c) false).modBrpCh c fun x =>
            { x with rel := false, edges := [] }
        else t
      let t2 := t1.modBrpCh c fun x => { x with vgdWait := x.vgdWait && t1.fb F.BRP_CTRL.VGDLOW }
      if t2.fb (F.BRP_STAT.STOPPING c) then
        let hold := t2.f (F.BRP_CFG.STOPLO c)
        if hold = 0 then t2.endSoftStop c
        else
          let e := (t2.periodEdges c b .low).1
          (t2.modBrpCh c fun x => { x with bnd := none, softEnd := some (b + hold * 64), edges := e }).runDue c
      else
        let next := b + max 1 (t2.f (F.BRP_ACTPER.VALUE c))
        let t3 := t2.modBrpCh c fun x => { x with bnd := some next }
        if t3.fb (F.BRP_STAT.FORCED c) then t3 else t3.newPeriod c b

/-- PWM_EDGE of channel c: its earliest waiting edges are executed (R315, R321). -/
def State.pwmEdge (s : State) (c : Nat) : State :=
  let l := (s.brpCh c).edges
  match l with
  | [] => s
  | e :: es =>
    if s.brpOn && s.timeValid then
      (s.advanceTo (es.foldl (fun m x => min m x.at_) e.at_)).runDue c
    else s

/-! ## Events of the stages (R313, R323, R325, R327, R328) -/

/-- BOTHON_SENSED: both gates are sensed on for 2 cycles (R323). -/
def State.bothonSensed (s : State) (c : Nat) : State :=
  if s.brpOn then (s.latchBrp c (F.BRP_STAT.BOTHON c)).raise 3 else s

/-- BOOTLOW becomes 1: with HO on, or an HO rising edge due, the channel latches BOOTUV (R325). -/
def State.bootLow (s : State) (c : Nat) : State :=
  let t := s.setB (F.BRP_STAT.BOOTLOW c) true
  let x := t.brpCh c
  if x.ho || (t.brpRun c && !t.brpHeld c && x.edges.any fun e => e.hi && e.on && decide (e.at_ ≤ t.now)) then
    s.rose (t.latchBrp c (F.BRP_STAT.BOOTUV c)) [22]
  else t

/-- BOOTSTRAP_UNDERVOLTAGE. -/
def State.bootstrapUndervoltage (s : State) (c : Nat) : State := if s.brpOn then s.bootLow c else s

/-- BOOTLOW_CHANGE: the monitor crosses 8.0 V falling or 8.6 V rising. -/
def State.bootlowChange (s : State) (c : Nat) (low : Bool) : State :=
  if s.brpOn then (if low then s.bootLow c else s.setB (F.BRP_STAT.BOOTLOW c) false) else s

/-- SHORT_CIRCUIT: an excursion outside blanking, with the comparator enabled (R327). -/
def State.shortCircuit (s : State) (c : Nat) : State :=
  let blank := match (s.brpCh c).roseAt with
    | some t => decide (s.now < t + s.f (F.BRP_SC.BLANK c) * 64) | none => false
  if s.brpOn && s.fb (F.BRP_SC.EN c) && !blank then s.rose (s.latchBrp c (F.BRP_STAT.SC c)) [21] else s

/-- TRIP_INPUT: an enabled input asserted outside its window acts (R328). -/
def State.tripInput (s : State) (t : Nat) : State :=
  if s.brpOn && s.tripActive t then s.showTrips.tripStop t else s

/-- TRIP_BLANK_END: the window of input t ends; an input still asserted then acts (R328). -/
def State.tripBlankEnd (s : State) (t : Nat) : State :=
  match s.blankEnd t with
  | some e =>
    if s.brpOn then
      let u := ((s.advanceTo e).setBlank t none).showTrips
      if u.tripActive t then u.tripStop t else u
    else s
  | none => s

/-- VGD_LOW: every gate off, VGDLOW set, no latch (R313). -/
def State.vgdLow (s : State) : State :=
  if s.brpOn then
    s.forAll (List.range 8) (fun t c => (t.gatesOff c false).modBrpCh c fun x => { x with vgdWait := t.brpRun c }) |>.setB
      F.BRP_CTRL.VGDLOW true
  else s

/-- VGD_RECOVER: VGDLOW clears; running channels return at their next boundary (R313). -/
def State.vgdRecover (s : State) : State := if s.brpOn then s.setB F.BRP_CTRL.VGDLOW false else s

/-- HARD_STOP (R332): every channel off and stopped within 2 cycles, pending enables discarded; SF1 also sets SAFEHOLD. -/
def State.hardStop (s : State) (sf1 : Bool) : State :=
  if s.on 11 then
    s.forAll (List.range 8) fun t c =>
      let u := ((t.gqAbort c).gatesOff c true).carryZero c
      let v := (((u.setB (F.BRP_STAT.RUN c) false).setB (F.BRP_STAT.STOPPING c) false).setB (F.BRP_STAT.PENDEN c)
        false).setB (F.BRP_STAT.FORCED c) false
      let w := if sf1 then v.setB (F.BRP_STAT.SAFEHOLD c) true else v
      w.modBrpCh c fun x => { x with bnd := none, softEnd := none, rel := false }
  else s

/-- BRP_CTRL.EN cleared: HOc and LOc are held low (R311). -/
def State.brpCtrlWrite (s : State) (en : Bool) : State :=
  let t := s.setB F.BRP_CTRL.EN en
  if en then t else t.forAll (List.range 8) fun u c => u.gatesOff c false

end Sys2Proof.Machine
end

