-- ==== Sys2Proof/Machine/Link.lean ====
section
/-! DEFINITION. The Link Engine (03 R74 to R103, R109): the word slots of every port, uplink words, the delay
measurement, replay and its exhaustion, STOP, and the part of a period boundary that concerns the ports. -/

namespace Sys2Proof.Machine

/-! ## Ports -/

/-- Port i. -/
def State.port (s : State) (i : Nat) : LinkPort := tblGet (fun _ => ({} : LinkPort)) s.lnk.ports i

/-- The state with port i replaced. -/
def State.setPort (s : State) (i : Nat) (p : LinkPort) : State :=
  { s with lnk := { s.lnk with ports := tblSet (fun _ => ({} : LinkPort)) s.lnk.ports i p } }

/-- The state with port i changed. -/
def State.modPort (s : State) (i : Nat) (h : LinkPort → LinkPort) : State := s.setPort i (h (s.port i))

/-- The Link Engine runs (LNK_CTRL.EN). -/
def State.lnkOn (s : State) : Bool := s.live && s.on 7 && s.fb F.LNK_CTRL.EN

/-- Port i is enabled: LNK_PCFG.EN, and for an escrow port ESCEN with PD8 on. -/
def State.portOn (s : State) (i : Nat) : Bool :=
  s.lnkOn && s.fb (F.LNK_PCFG.EN i) && (decide (i < 64) || (s.on 8 && s.fb F.LNK_CTRL.ESCEN))

/-- The slots of a period, S = P / 50 (03 R74). -/
def State.slots (s : State) : Nat := s.f F.STM_PERIOD.P / 50

/-- D of port i as sent, in sixteenths of a tick: LNK_DELAY. -/
def State.d16 (s : State) (i : Nat) : Nat := s.f (F.LNK_DELAY.DINT i) * 16 + s.f (F.LNK_DELAY.DFRAC i)

/-- A link event enters its queue: [62:56] the port, [55:48] KIND, [39:0] the word (03, LNK registers). -/
def State.linkEvent (s : State) (q i kind word : Nat) : State :=
  s.hwPush q (BitVec.ofNat 64 (i * 2 ^ 56 + kind * 2 ^ 48 + word))

/-- LSTATE of port i. -/
def State.lstate (s : State) (i : Nat) : Nat := s.f (F.LNK_PSTAT.LSTATE i)

/-- LSTATE changes: LNK_UPMAP follows, and the change enters Q10. -/
def State.setLstate (s : State) (i v : Nat) : State :=
  if s.lstate i = v then s
  else
    let t := s.setF (F.LNK_PSTAT.LSTATE i) v
    let a := R.LNK_UPMAP (i / 32)
    (t.setReg a (setFld (t.reg a) (i % 32) (i % 32) (b2n (decide (v = 3))))).linkEvent 10 i 3 0

/-- After a change of the enables, a port not enabled is OFF and a port newly enabled is ACQUIRE (03, LNK_PSTAT). -/
def State.lnkRefresh (s : State) : State :=
  s.forAll ctxIdx fun t i =>
    if t.portOn i then (if t.lstate i = 0 then t.setLstate i 1 else t)
    else if t.lstate i = 0 then t else (t.setLstate i 0).setPort i {}

/-- The 40 bits of a link word: 32 data bits, odd parity, TYPE and SEQ (03 R77). -/
def word40 (ty seq : Nat) (data : Word) : Nat :=
  let low := data.toNat * 256 + ty % 8 * 16 + seq % 16
  if popCount 40 low % 2 = 0 then low + 128 else low

/-! ## Sending (03 R96) -/

/-- A copy of a word launched in slot j of the period reaches the endpoint by its deadline (03 R101). -/
def State.meets (s : State) (i j : Nat) (w : LinkWord) : Bool :=
  let arrive := s.boundary s.tm.k + (j + 1) * 3200
  decide (arrive * 16 + s.d16 i ≤ (w.deadline.getD (s.boundary (s.tm.k + 1))) * 16)

/-- A new word leaves port i with the next SEQ; the last 16 stay for a resend, whose deadline is that of the period in
which the word went out (03 R78, R101, R102). -/
def State.sendNew (s : State) (i : Nat) (w : LinkWord) : State :=
  let p := s.port i
  let q := (p.tx + 1) % 16
  let edge := decide (w.ty = 2 ∨ w.ty = 3)
  let kept : LinkWord := { w with deadline := some (w.deadline.getD (s.boundary (s.tm.k + 1))) }
  let t := s.setPort i { p with
    tx := q, out := some (w.ty, w.data, q), edgeSent := p.edgeSent || edge,
    sent := (p.sent.filter fun e => e.1 ≠ q) ++ [(q, kept)] }
  if w.lnkCmd then t.setB (F.LNK_CMD.PEND i) false else t

/-- The first word of a list leaves port i and the others follow directly. -/
def State.sendItem (s : State) (i : Nat) (l : List LinkWord) : State :=
  match l with
  | [] => s
  | w :: ws => (s.sendNew i w).modPort i fun p => { p with cont := ws }

/-- The first resend that can still meet its deadline; those that cannot are exhausted (03 R101, R103, R116). -/
def State.takeResend (s : State) (i j : Nat) : State × Option (Nat × LinkWord) :=
  let p := s.port i
  let late := p.resends.filter fun e => !s.meets i j e.2
  let ok := p.resends.filter fun e => s.meets i j e.2
  let t := s.setPort i { p with resends := ok.drop 1, dnExh := p.dnExh || !late.isEmpty,
                                again := p.again ++ (late.map (·.2)) }
  (t, ok.head?)

/-- The CMD word of a REPLAY for an uplink SEQ (03 R86). -/
def replayWord (q : Nat) : LinkWord := { ty := 5, data := wN (6 * 2 ^ 28 + q) }

/-- The CMD word CAPREQ. -/
def capReqWord : LinkWord := { ty := 5, data := wN (7 * 2 ^ 28), resend := true }

/-- A STOP word. -/
def stopWord : LinkWord := { ty := 5, data := wN (1 * 2 ^ 28) }

/-- The words of an item that starts in slot j stand before the ALIGN of the last slot (03 R76, R79). -/
def State.fits (s : State) (j : Nat) (l : List LinkWord) : Bool := decide (j + l.length < s.slots)

/-- A CMD item that may go in slot j: within the 2 CMD words of the period, or where no scheduled word is due; TAKE in a
free slot only (09 R304); one with a CONT not in slot 1, whose next slot R95 keeps (log 107). -/
def State.cmdReady (s : State) (j : Nat) (due : Bool) (p : LinkPort) (l : List LinkWord) : Bool :=
  let take := match l with | w :: _ => decide (fld w.data 31 28 = 4) | [] => false
  (decide (p.quotaC + l.length ≤ 2) && !take || !due) && s.fits j l && !(decide (j = 1) && decide (l.length = 2))

/-- The scheduled item whose turn it is leaves port i. A DELAY makes its D the one in force: LNK_DELAY shows D as sent
(03, LNK registers). -/
def State.sendSched (s : State) (i : Nat) (l : List LinkWord) (rest : List (Nat × List LinkWord)) : State :=
  let u := s.modPort i fun p => { p with sched := rest }
  let v := match l with
    | [w] => if w.ty = 1 then
        let d := (u.port i).dNew
        let x := u.modPort i fun p => { p with dPrev := u.d16 i }
        (x.setF (F.LNK_DELAY.DINT i) (d / 16)).setF (F.LNK_DELAY.DFRAC i) (d % 16)
      else u
    | _ => u
  v.sendItem i l

/-- What port i sends in slot j that is neither STOP, BEACON, ALIGN nor a following word: a resend or REPLAY, a CMD, a
scheduled word, a CAPREQ in a slot that is free, a CFG, or IDLE (03 R94, R96). -/
def State.sendOrdered (s : State) (i j : Nat) : State :=
  let r := s.takeResend i j
  let t := r.1
  let p := t.port i
  let due := match p.sched with | e :: _ => decide (e.1 ≤ j) && s.fits j e.2 | [] => false
  let quota := decide (p.quotaR < 4) || !due
  match (if quota then r.2 else none) with
  | some e => t.setPort i { p with quotaR := p.quotaR + 1, out := some (e.2.ty, e.2.data, e.1) }
  | none =>
    let t := match r.2 with | some e => t.setPort i { p with resends := e :: p.resends } | none => t
    let p := t.port i
    match p.replays, quota with
    | q :: qs, true => (t.setPort i { p with replays := qs, quotaR := p.quotaR + 1 }).sendNew i (replayWord q)
    | _, _ =>
      match p.cmds.find? (s.cmdReady j due p) with
      | some c => (t.setPort i { p with cmds := p.cmds.erase c, quotaC := p.quotaC + c.length }).sendItem i c
      | none =>
        match p.sched, due with
        | e :: es, true => t.sendSched i e.2 es
        | _, _ =>
          if p.capReq && decide (p.quotaC < 2) then
            (t.setPort i { p with capReq := false, quotaC := p.quotaC + 1 }).sendNew i capReqWord
          else match p.cfgs with
            | c :: cs => (t.setPort i { p with cfgs := cs }).sendNew i c
            | [] => t.setPort i { p with out := none }

/-- Slots 2 and 3 carry the scheduled words that are due, the CAL words, and are IDLE otherwise (03 R95). -/
def State.sendCalSlot (s : State) (i j : Nat) : State :=
  match (s.port i).sched with
  | e :: es => if e.1 ≤ j ∧ s.fits j e.2 = true then s.sendSched i e.2 es else s.modPort i fun p => { p with out := none }
  | [] => s.modPort i fun p => { p with out := none }

/-- A word that may leave while an SF1 demand is held (13 R378): no EDGE, no CADENCE, and of the CMD words only STOP,
TAKE, CAPREQ and SVC. -/
def sf1Ok (w : LinkWord) : Bool :=
  !(decide (w.ty = 2) || decide (w.ty = 3)) &&
    (decide (w.ty ≠ 5) || (let op := fld w.data 31 28; decide (op = 1 ∨ op = 4 ∨ op = 7 ∨ op = 8)))

/-- The words that wait on port i, without those an SF1 demand keeps from being sent (13 R378). -/
def State.sf1Filter (s : State) (i : Nat) : State :=
  if bitAt (s.reg R.SFU_STATUS) 20 then
    let ok := fun (l : List LinkWord) => match l with | w :: _ => sf1Ok w | [] => true
    s.modPort i fun p => { p with
      cmds := p.cmds.filter ok, sched := p.sched.filter fun e => ok e.2, resends := p.resends.filter fun e => sf1Ok e.2,
      replays := [] }
  else s

/-- Port i's word of slot j, in the order of 03 R96. -/
def State.sendSlot (s0 : State) (i j : Nat) : State :=
  let s := s0.sf1Filter i
  let p := s.port i
  if 0 < p.stops && decide (p.stopAt ≤ s.boundary s.tm.k + j * 3200) then
    (s.setPort i { p with stops := p.stops - 1 }).sendNew i stopWord
  else if j = 0 then s.sendNew i { ty := 0, data := wN (s.boundary s.tm.k) }
  else if j + 1 = s.slots then s.setPort i { p with out := none }
  else match p.cont with
    | w :: ws => (s.setPort i { p with cont := ws }).sendNew i w
    | [] => if j = 2 ∨ j = 3 then s.sendCalSlot i j else s.sendOrdered i j

/-- LINK_SLOT: the next word slot of the period comes, and every enabled port sends its word (03 R74, R96). -/
def State.linkSlot (s : State) : State :=
  let j := s.lnk.slot
  if s.lnkOn && s.timeValid && decide (j < s.slots) then
    let t := s.advanceTo (s.boundary s.tm.k + j * 3200)
    State.forAll { t with lnk := { t.lnk with slot := j + 1 } } (ctxIdx.filter t.portOn) fun u i => u.sendSlot i j
  else s

/-- A stop request: STOP goes out twice on every enabled port, in the first slot that starts at least 2 cycles later
(03 R109). -/
def State.stopRequest (s : State) : State :=
  s.forAll (ctxIdx.filter s.portOn) fun t i => t.modPort i fun p => { p with stops := 2, stopAt := t.now + 128 }

/-- STOP on one port, as the Link Engine sends it for an unload. -/
def State.stopPort (s : State) (i : Nat) : State :=
  if s.portOn i then s.modPort i fun p => { p with stops := 2, stopAt := s.now + 128 } else s

/-- A CMD item (its CMD word and its CONT) waits on port i. -/
def State.pushCmd (s : State) (i : Nat) (l : List LinkWord) : State :=
  if s.portOn i then s.modPort i fun p => { p with cmds := p.cmds ++ [l] } else s

/-- A BYPASS or TAKE with its due tick t; its resends have a deadline L_ep + M before it (03 R101). -/
def State.pushDue (s : State) (i op arg t lep : Nat) : State :=
  let dl := min t (s.boundary (s.tm.k + 1)) - lep - s.f F.LNK_MARGIN.M
  s.pushCmd i [{ ty := 5, data := wN (op * 2 ^ 28 + arg), resend := true, deadline := some dl },
               { ty := 4, data := wN t, resend := true, deadline := some dl }]

/-- The declared latency of port i's endpoint in ticks: LAT of CAP0 in units of 64 (03 R92). -/
def State.lEp (s : State) (i : Nat) : Nat := fld (s.reg (R.LNK_CAP i 0)) 9 0 * 64

/-- SVC with the service mode in force (03 R86, R87). -/
def State.sendSvc (s : State) (i : Nat) : State :=
  s.pushCmd i [{ ty := 5, data := wN (8 * 2 ^ 28 + b2n s.commission), resend := true }]

/-- LNK_CMD: CAPREQ and SVC set PEND and wait for a slot; a second write replaces a word that waits; any other OP is
rejected and leaves PEND at 0 (03, LNK_CMD). -/
def State.lnkCmdWrite (s : State) (i op arg : Nat) : State :=
  if s.on (if i < 64 then 7 else 8) && s.on 7 then
    let t := (s.setF (F.LNK_CMD.OP i) op).setF (F.LNK_CMD.ARG i) arg
    let u := t.modPort i fun p => { p with cmds := p.cmds.filter fun l => !(l.any (·.lnkCmd)) }
    if op = 7 ∨ op = 8 then
      let w : LinkWord := { ty := 5, data := wN (op * 2 ^ 28 + arg), resend := true, lnkCmd := true }
      (u.setB (F.LNK_CMD.PEND i) true).modPort i fun p => { p with cmds := p.cmds ++ [[w]] }
    else u.setB (F.LNK_CMD.PEND i) false
  else s

/-! ## Receiving (03 R76, R98 to R102) -/

/-- LINK_ALIGN at the chip: ALIGN stood in its place in 2 consecutive periods (03 R76). CAPREQ starts in this period
(R94). -/
def State.linkAligned (s : State) (i : Nat) : State :=
  if s.portOn i && decide (s.lstate i = 1) then (s.setLstate i 2).modPort i fun p => { p with capReq := true } else s

/-- LINK_ALIGN_LOSS at the chip: 3 consecutive periods without ALIGN in its place (03 R76). -/
def State.linkAlignLost (s : State) (i : Nat) : State :=
  if s.portOn i && decide (2 ≤ s.lstate i) then s.setLstate i 1 else s

/-- A word with the given SEQ, received good: a resent word takes its place; numbers skipped are missing (03 R78,
R103). A number 14 or 15 places on, or the same, is taken as it stands (log 22). -/
def seqGood (p : LinkPort) (q : Nat) : LinkPort :=
  if p.missing.contains q then { p with missing := p.missing.filter fun x => x ≠ q }
  else
    match p.rx with
    | none => { p with rx := some q }
    | some r =>
      let d := (q + 16 - r) % 16
      if 2 ≤ d ∧ d ≤ 13 then
        { p with rx := some q, missing := p.missing ++ ((List.range (d - 1)).map fun n => (r + 1 + n) % 16) }
      else { p with rx := some q }

/-- A bad uplink word: it counts, it stands for the next SEQ, and a REPLAY waits for it (03 R77, R78, R102). -/
def State.badUplink (s : State) (i : Nat) : State :=
  let p := s.port i
  let q := (p.rx.getD 15 + 1) % 16
  (s.incF (F.LNK_ERRCNT.UPERR i) 1).setPort i
    { p with rx := some q, missing := p.missing ++ [q], replays := p.replays ++ [q] }

/-- A report word n is written into its context at 0x040 + 4 n (03 R98). -/
def State.reportWord (s : State) (i n : Nat) (data : Word) : State :=
  let t := if s.on 6 then s.setCtx i (0x40 + 4 * n) data else s
  t.modPort i fun p => { p with got := putBit p.got n true }

/-- What STATUS changes in the port's registers (03, LNK_PSTAT, LNK_REPEAT). -/
def State.statusWordIn (s : State) (i : Nat) (data : Word) (w40 : Nat) : State :=
  let act := bitAt data 27 == decide (64 ≤ i)
  let t := ((s.setB (F.LNK_PSTAT.ACTIVE i) act).setB (F.LNK_PSTAT.DOLD i) (bitAt data 16)).setF (F.LNK_PSTAT.ESTATE i)
    (fld data 26 24)
  -- SVC goes to each port that becomes active (R87).
  let t := if act && !s.fb (F.LNK_PSTAT.ACTIVE i) then t.sendSvc i else t
  if bitAt data 15 then (t.incF (F.LNK_REPEAT.REPEATS i) 1).linkEvent 11 i 6 w40 else t

/-- ECHO (03 R99, R100): the round trip in sixteenths of a tick, D as the mean of the last 8 halved plus LNK_ASYM, and LONG. -/
def State.echoIn (s : State) (i : Nat) (echo trx : Word) : State :=
  let p := s.port i
  let dUsed := if s.fb (F.LNK_PSTAT.DOLD i) then p.dPrev else s.d16 i
  let rtt := ((trx - echo).toNat * 16 + dUsed) % 2 ^ 36
  let l := p.rtts ++ [rtt]
  let l := l.drop (l.length - 8)
  let d := ux 24 (meanI (l.foldl (· + ·) 0 : Nat) (2 * l.length) + sx 16 (s.f (F.LNK_ASYM.ASYM i)))
  let long := decide (245760 < d)
  let t := ((s.setF (F.LNK_RTT.RTT i) (rtt / 16)).setB (F.LNK_PSTAT.LONG i) long).setPort i { p with rtts := l, dNew := d }
  if long && !s.fb (F.LNK_PSTAT.LONG i) then t.linkEvent 11 i 7 0 else t

/-- The word that waits or was lost goes out again as R101 allows, or the period is exhausted (03 R102, R103). -/
def State.nakIn (s : State) (i named : Nat) : State :=
  let t := s.incF (F.LNK_ERRCNT.DNNAK i) 1
  match (t.port i).sent.find? fun e => e.1 == named with
  | some e =>
    if !e.2.resend then t
    else if t.meets i t.lnk.slot e.2 then t.modPort i fun p => { p with resends := p.resends ++ [e] }
    else t.modPort i fun p => { p with dnExh := true, again := p.again ++ [e.2] }
  | none => t

/-- A resent word of the period before, which comes after its T_k+1: the chip discards it (03 R101). -/
def LinkPort.tooLate (p : LinkPort) (q : Nat) : Bool :=
  p.late.contains q && !p.missing.contains q && decide (p.rx ≠ some ((q + 15) % 16))

/-- A good uplink word by TYPE (03 R90 to R92, R98). -/
def State.uplinkGood (s : State) (i ty seq : Nat) (data trx : Word) : State :=
  let w40 := word40 ty seq data
  let t := s.modPort i fun p => { seqGood p seq with good := true, late := p.late.filter fun x => x ≠ seq }
  match ty with
  | 0 =>
    let n := fld data 31 29
    if 6 ≤ n then t
    else
      let u := t.reportWord i n data
      if n = 0 then u.statusWordIn i data w40 else u
  | 1 => t.reportWord i 6 data
  | 2 => (t.reportWord i 7 data).echoIn i data trx
  | 3 =>
    let n := fld data 31 29
    if 4 ≤ n then t
    else (t.setReg (R.LNK_CAP i n) data).modPort i fun p => { p with capMask := putBit p.capMask n true }
  | 4 => t.nakIn i (fld data 3 0)
  | 5 =>
    let u := t.linkEvent (if i < 64 then 8 else 9) i 1 w40
    if fld data 31 28 = 1 then u.incF (F.LNK_REPEAT.ILLEGALS i) 1 else u
  | _ => t

/-- UPLINK_WORD_RECEIVE: discarded while not aligned (03 R76); a bad word counts and is asked for again. -/
def State.uplinkWord (s : State) (i : Nat) (good : Bool) (ty seq : Nat) (data trx : Word) : State :=
  if s.portOn i && decide (2 ≤ s.lstate i) then
    if good then
      if (s.port i).tooLate seq then s.modPort i fun p => { p with late := p.late.filter fun x => x ≠ seq }
      else s.uplinkGood i ty seq data trx
    else s.badUplink i
  else s

/-! ## The boundary's part (03 R98, R103) -/

/-- The received report words are copied to the snapshot with the stale mask (03 R98). -/
def State.reportSnapshot (s : State) (i : Nat) : State :=
  if s.on 6 then
    let t := s.putWords (ctxBase i + 0x60) (s.words (ctxBase i + 0x40) 8)
    t.setCtx i 0x80 (wN (255 - (s.port i).got % 256))
  else s

/-- A word that the Link Engine issues again as a new word in the next period: SVC, CAPREQ, LNK_CMD and CFG
(03 R103). -/
def reissued (w : LinkWord) : Bool :=
  decide (w.ty = 7) || (decide (w.ty = 5) && (fld w.data 31 28 == 7 || fld w.data 31 28 == 8))

/-- What a boundary counts and renews on port i: exhaustion with its counters and events, SILCNT, and the period's
masks, quotas and schedule (03 R94, R95, R96, R103). -/
def State.portBoundary (s : State) (i : Nat) : State :=
  let p := s.port i
  let up := p.upExh || !p.missing.isEmpty
  let dn := p.dnExh || !p.resends.isEmpty
  let lost := p.again ++ (p.resends.map (·.2))
  let t0 := if dn then (s.incF (F.LNK_REPCNT.DNEXH i) 1).linkEvent 11 i 4 0 else s
  let t1 := if up then (t0.incF (F.LNK_REPCNT.UPEXH i) 1).linkEvent 11 i 5 0 else t0
  let ex := if dn || up then min 3 (s.f (F.LNK_PSTAT.EXHCONS i) + 1) else 0
  let t2 := (t1.setF (F.LNK_PSTAT.EXHCONS i) ex).setF (F.LNK_PSTAT.SILCNT i)
    (if p.good then 0 else min 7 (s.f (F.LNK_PSTAT.SILCNT i) + 1))
  t2.setPort i { p with
    quotaR := 0, quotaC := 0, resends := [], replays := [], again := [], missing := [], late := p.missing, dnExh := false, upExh := false,
    lostDone := p.lostDone && decide (ex = 3), good := false, got := 0, capMask := 0, capFull := false,
    edgeSent := false, cont := [],
    cmds := p.cmds ++ ((lost.filter fun w => reissued w && decide (w.ty = 5)).map fun w => [{ w with deadline := none }]),
    cfgs := p.cfgs ++ ((lost.filter fun w => reissued w && decide (w.ty = 7)).map fun w => { w with deadline := none }),
    capReq := decide (t2.lstate i = 2),
    sched := [(1, [{ ty := 1, data := wN p.dNew, resend := true }])] }

/-- CAL words of the period, in slots 2 and 3, before every later scheduled word (03 R88, R95). -/
def State.schedCal (s : State) (i : Nat) (l : List Word) : State :=
  s.modPort i fun p => { p with
    sched := sortBy (fun x y => decide (x.1 ≤ y.1))
      (p.sched ++ ((List.range (min 2 l.length)).map fun n => (2 + n, [{ ty := 6, data := (l[n]?).getD 0 }]))) }

/-- Words that the Cell Scheduler has formed for port i, from a slot on, each item in one place; the oldest slot goes
first (03 R95, R96). -/
def State.schedAdd (s : State) (i slot : Nat) (items : List (List LinkWord)) : State :=
  let step := fun (acc : Nat × List (Nat × List LinkWord)) (l : List LinkWord) =>
    (acc.1 + l.length, acc.2 ++ [(acc.1, l)])
  s.modPort i fun p => { p with
    sched := sortBy (fun x y => decide (x.1 ≤ y.1)) (p.sched ++ (items.foldl step (slot, [])).2) }

/-- LINK_LOST: a port exhausted in 3 consecutive periods sets its bit in LNK_LOSTMAP, which raises source 11; the bypass
sequence starts at the next boundary (03 R103, 01 R44). -/
def State.linkLost (s : State) (i : Nat) : State :=
  if s.portOn i && decide (s.f (F.LNK_PSTAT.EXHCONS i) = 3) && !(s.port i).lostDone then
    let a := R.LNK_LOSTMAP (i / 32)
    s.rose ((s.setReg a (setFld (s.reg a) (i % 32) (i % 32) 1)).modPort i fun p => { p with lostDone := true }) [11]
  else s

end Sys2Proof.Machine
end

