-- ==== Sys2Proof/Machine/Endpoint.lean ====
section
/-! DEFINITION. The cell endpoints (03 R80 to R92, R104 to R117): what an endpoint does with each word, at its boundary,
at its bundle deadline and at the due ticks that it holds. An endpoint stands outside the chip; its ticks are its own
time, BEACON + D, modulo 2^32. -/

namespace Sys2Proof.Machine

/-! ## Access -/

/-- The endpoint at port i. -/
def State.ep (s : State) (i : Nat) : Endpoint := tblGet (fun _ => ({} : Endpoint)) s.eps i

/-- The state with an endpoint replaced. -/
def State.setEp (s : State) (i : Nat) (e : Endpoint) : State :=
  { s with eps := tblSet (fun _ => ({} : Endpoint)) s.eps i e }

/-- The state with an endpoint changed. -/
def State.modEp (s : State) (i : Nat) (h : Endpoint → Endpoint) : State := s.setEp i (h (s.ep i))

/-- A configuration word in force (03 R89). -/
def Endpoint.word (e : Endpoint) (a : Nat) : Nat := (tblGet (fun _ => (0 : Word)) e.cfg a).toNat

/-- The CAP words with which the endpoint describes itself (03 R92). -/
def Endpoint.capWord (e : Endpoint) (n : Nat) : Word := tblGet (fun _ => (0 : Word)) e.caps n

/-- CLASS of the endpoint (01 R18). -/
def Endpoint.cls (e : Endpoint) : Nat := fld (e.capWord 0) 28 25

/-- L_ep: the declared latency in ticks. -/
def Endpoint.lat (e : Endpoint) : Nat := fld (e.capWord 0) 9 0 * 64

/-- The period in cycles: the committed PERIOD, or that of the received grid (03 R499). -/
def State.epP (s : State) (e : Endpoint) : Nat := if e.word 0x2A = 0 then s.f F.STM_PERIOD.P else e.word 0x2A % 2 ^ 19

/-- The stack time at which the endpoint's time reads a 32-bit tick; a tick already past is now. -/
def State.epAt (s : State) (e : Endpoint) (t : Word) : Nat :=
  s.now + (max 0 (timeDiff 32 t.toNat (wN s.now + e.off).toNat)).toNat

/-- One port of the endpoint. -/
def Endpoint.port (e : Endpoint) (escrow : Bool) : EpPort := if escrow then e.esc else e.prim

/-- The endpoint with a port replaced. -/
def Endpoint.setPort (e : Endpoint) (escrow : Bool) (p : EpPort) : Endpoint :=
  if escrow then { e with esc := p } else { e with prim := p }

/-- The port from which bundles, cadences and commands are taken: the TAKE's port from T_b − P × 64, else the active
port (03 R112). -/
def State.epSource (s : State) (e : Endpoint) : Bool :=
  match e.take with
  | some (p, tb) => if tb ≤ s.now + s.epP e * 64 then p else e.active
  | none => e.active

/-! ## Sending (03 R78, R102) -/

/-- The endpoint sends a new word on a port: nothing while that port is not aligned. The last 16 stay. -/
def Endpoint.send (e : Endpoint) (escrow : Bool) (ty : Nat) (data : Word) : Endpoint :=
  let p := e.port escrow
  if !e.powered || !p.aligned then e
  else
    let q := (p.tx + 1) % 16
    let w : EpWord := { escrow := escrow, ty := ty, data := data, seq := q }
    let rest := e.kept.filter fun x => !(x.escrow == escrow && x.seq == q);
    { e.setPort escrow { p with tx := q } with kept := rest ++ [w], out := some w }

/-- An EVENT word (03 R92). -/
def Endpoint.event (e : Endpoint) (escrow : Bool) (ev arg : Nat) : Endpoint := e.send escrow 5 (wN (ev * 2 ^ 28 + arg))

/-- CAP0 to CAP3 on a port. -/
def Endpoint.sendCaps (e : Endpoint) (escrow : Bool) : Endpoint :=
  (List.range 4).foldl (fun x n => x.send escrow 3 (setFld (e.capWord n) 31 29 n)) e

/-- ILLEGAL is set and reported (03 R107). -/
def Endpoint.reportIllegal (e : Endpoint) (idx gates : Nat) : Endpoint :=
  { e with illegal := true }.event e.active 1 (idx * 2 ^ 16 + gates)

/-! ## Gates (01 R18, R20, R22; 03 R83, R105 to R108) -/

/-- The gates of a group of a class: group 0 the arm group, 1 to 4 the stage groups (01 R18). -/
def groupMask (cls group : Nat) : Nat :=
  match cls, group with
  | 1, 0 => 0xF | 4, 0 => 0xF | 3, 0 => 0x3
  | 2, 0 => 0xF | 2, 1 => 0xF0 | 2, 2 => 0xF00
  | 5, 1 => 0xF | 5, 2 => 0xF0
  | 6, 1 => 0x3 | 6, 2 => 0xC | 6, 3 => 0x30 | 6, 4 => 0xC0
  | _, _ => 0

/-- Every gate of a class. -/
def classMask (cls : Nat) : Nat :=
  match cls with
  | 1 => 0xF | 2 => 0xFFF | 3 => 0x3 | 4 => 0xF | 5 => 0xFF | 6 => 0xFF | _ => 0

/-- The default interlock pairs of a class: gates 2n and 2n+1 (01 R18). -/
def classPairs (cls : Nat) : List (Nat × Nat) :=
  let n := match cls with | 1 => 2 | 2 => 6 | 3 => 1 | 4 => 2 | 5 => 4 | 6 => 4 | _ => 0
  (List.range n).map fun j => (2 * j, 2 * j + 1)

/-- The interlock pairs the endpoint enforces: its class's and the ILK entries (01 R20, 03 R89). -/
def Endpoint.pairs (e : Endpoint) : List (Nat × Nat) :=
  classPairs e.cls ++ ((List.range 8).filterMap fun j =>
    let w := e.word (0x20 + j)
    if w.testBit 8 then some (w / 16 % 16, w % 16) else none)

/-- The interlock partners of gate g. -/
def Endpoint.partners (e : Endpoint) (g : Nat) : List Nat :=
  e.pairs.filterMap fun p => if p.1 = g then some p.2 else if p.2 = g then some p.1 else none

/-- Both gates of some pair are on in a gate mask. -/
def Endpoint.breaches (e : Endpoint) (m : Nat) : Bool := e.pairs.any fun p => m.testBit p.1 && m.testBit p.2

/-- The fields of pattern entry idx: VALID, ROLE, GROUP, GATES (03 R89). -/
def Endpoint.entry (e : Endpoint) (idx : Nat) : Bool × Nat × Nat × Nat :=
  let w := e.word idx
  (w.testBit 23, w / 2 ^ 20 % 8, w / 2 ^ 17 % 8, w % 2 ^ 16)

/-- The gates that an entry sets: all for BLOCK and FALLBACK, else its group's (01 R22). -/
def Endpoint.entryMask (e : Endpoint) (role group : Nat) : Nat :=
  if role ≤ 1 then classMask e.cls else groupMask e.cls group

/-- The gates on once every change that waits has come. -/
def Endpoint.gatesToBe (e : Endpoint) : Nat := e.changes.foldl (fun m c => putBit m c.1 c.2.1) e.gates

/-- A gate counts a transition (03 R91). -/
def Endpoint.tally (e : Endpoint) (g : Nat) : Endpoint :=
  { e with counts := tblSet (fun _ => (0 : Nat)) e.counts g (satAdd 12 (tblGet (fun _ => (0 : Nat)) e.counts g) 1)
           periodCount := satAdd 12 e.periodCount 1 }

/-- Gate g turns on or off at time t. A gate whose latch is set is held off (03 R108). -/
def Endpoint.change (e : Endpoint) (g : Nat) (on : Bool) (t : Nat) : Endpoint :=
  if on && e.fault.testBit g then e
  else if e.gates.testBit g = on then e
  else
    let x := { e with gates := putBit e.gates g on }.tally g
    if on then { x with lastOn := tblSet (fun _ => (0 : Nat)) x.lastOn g t }
    else { x with lastOff := tblSet (fun _ => (0 : Nat)) x.lastOff g t }

/-- Every change that waits and has come by time t happens, in the order of the instants. -/
def Endpoint.settle (e : Endpoint) (t : Nat) : Endpoint :=
  (sortBy (fun x y => decide (x.2.2 ≤ y.2.2)) (e.changes.filter fun c => c.2.2 ≤ t)).foldl
    (fun x c => x.change c.1 c.2.1 c.2.2) { e with changes := e.changes.filter fun c => !(c.2.2 ≤ t) }

/-- The last instant at which gate g turns on (or off): the last change planned, otherwise the last one executed. -/
def Endpoint.lastAt (e : Endpoint) (g : Nat) (on : Bool) : Option Nat :=
  match (e.changes.filter fun c => c.1 == g && c.2.1 == on).getLast? with
  | some c => some c.2.2
  | none => ((if on then e.lastOn else e.lastOff).find? fun x => x.1 == g).map (·.2)

/-- A signed trim of a gate's edges (03 R88). -/
def trimOf (l : Tbl Nat) (g : Nat) : Int := sx 12 (tblGet (fun _ => (0 : Nat)) l g)

/-- The instants at which one gate changes for an entry applied at t that takes the gates from `before` to `next`: its
nominal instant, the instant after its trim, and the earliest that the floors permit (03 R83, R88, R106). -/
def Endpoint.instants (e : Endpoint) (g : Nat) (on : Bool) (t before next : Nat) : Nat × Nat × Nat :=
  let tdead := e.word 0x28 % 2 ^ 16
  let tmin := e.word 0x29 % 2 ^ 16
  let late := on && (e.partners g).any fun p => before.testBit p && !next.testBit p
  let nominal := if late then t + tdead else t
  let trim := trimOf (if on then e.trimR else e.trimF) g
  let want := ((nominal : Int) + trim).toNat
  let own := ((e.lastAt g (!on)).map (· + tmin)).toList
  let floors := if on then own ++ (e.partners g).filterMap fun p => (e.lastAt p false).map (· + tdead) else own
  (nominal, want, floors.foldl max want)

/-- One gate follows an entry at t: it changes at once, or waits for its instant behind the changes it already has; a
floor that shifts it sets FLOOR and is reported (03 R106). A latched gate is held off (R108). -/
def Endpoint.moveGate (e : Endpoint) (t before next : Nat) (report : Bool) (g : Nat) : Endpoint :=
  let on := next.testBit g
  if e.gatesToBe.testBit g = on || (on && e.fault.testBit g) then e
  else
    let r := e.instants g on t before next
    let at_ := r.2.2
    let y := if at_ ≤ t then e.change g on at_ else { e with changes := e.changes ++ [(g, on, at_)] }
    if r.2.1 < at_ && report then { y with floor := true }.event y.active 4 (g * 2 ^ 16) else y

/-- The gates of an entry are driven at time t: turn-offs first, then turn-ons (03 R83). -/
def Endpoint.drive (e : Endpoint) (t mask gates : Nat) (report : Bool) : Endpoint :=
  let before := e.gatesToBe
  let next := (List.range 16).foldl (fun m g => if mask.testBit g then putBit m g (gates.testBit g) else m) before
  let gs := (List.range 16).filter fun g => mask.testBit g
  let a := (gs.filter fun g => !next.testBit g).foldl (fun x g => x.moveGate t before next report g) e
  (gs.filter fun g => next.testBit g).foldl (fun x g => x.moveGate t before next report g) a

/-- An entry applied at once and not as an edge (BLOCK, FALLBACK): it takes the place of every change that waits for its
gates (03 R86, R110). -/
def Endpoint.driveNow (e : Endpoint) (t mask gates : Nat) : Endpoint :=
  { e with changes := e.changes.filter fun c => !mask.testBit c.1 }.drive t mask gates false

/-- In COMMISSION an executed edge that turns a gate on clears its DESAT latch; a cause still present sets it again at
once (03 R108). -/
def Endpoint.edgeClears (e : Endpoint) (gates : Nat) : Endpoint :=
  if e.commission then
    { e with fault := (List.range 16).foldl (fun m g =>
        if gates.testBit g && !e.causes.testBit g then putBit m g false else m) e.fault }
  else e

/-- An entry applied at time t as an edge: skipped and reported where it is illegal (03 R107); otherwise driven. The
Bool says whether it executed. -/
def Endpoint.applyEdge (e : Endpoint) (t idx : Nat) (copy : Option Nat) : Endpoint × Bool :=
  let (valid, role, group, gates) := e.entry idx
  let mask := e.entryMask role group
  let next := (List.range 16).foldl (fun m g => if mask.testBit g then putBit m g (gates.testBit g) else m) e.gatesToBe
  if !valid || (match copy with | some c => decide (c ≠ gates) | none => false) || e.breaches next then
    (e.reportIllegal idx (copy.getD gates), false)
  else
    let x := (e.edgeClears gates).drive t mask gates true
    ((if group = 0 ∨ role ≤ 1 then { x with lastIdx := idx } else x), true)

/-! ## Receiving -/

/-- A good word of n words with its first SEQ arrives on a port; good words on the active port end SIL (03 R78, R110,
R115). Nothing is received while the port is not aligned. -/
def Endpoint.gotGood (e : Endpoint) (escrow : Bool) (seq n : Nat) : Endpoint :=
  let p := e.port escrow
  let x := e.setPort escrow { p with good := p.good + n, rx := (seq + n - 1) % 16 }
  if escrow == e.active then { x with sil := 0, ride := false } else x

/-- A word arrives at the endpoint of port i: `body` is what it does. -/
def State.epWord (s : State) (i : Nat) (escrow : Bool) (seq n : Nat) (body : Endpoint → Endpoint) : State :=
  let e := s.ep i
  if e.powered && (e.port escrow).aligned then s.setEp i (body ((e.settle s.now).gotGood escrow seq n)) else s

/-- A CMD that only the active port may send: on the other port it is ignored and reported BADCMD (03 R86, R112). -/
def State.epCmd (s : State) (i : Nat) (escrow : Bool) (seq n op : Nat) (body : Endpoint → Endpoint) : State :=
  s.epWord i escrow seq n fun e =>
    if s.epSource e == escrow then body e else e.event escrow 6 (op * 2 ^ 24)

/-- ENDPOINT_POWER_UP (03 R87, R89, R112): UNCONF and COMMISSION, zero configuration, the primary port active, and no
previous executed bundle. -/
def State.endpointPowerUp (s : State) (i : Nat) (c0 c1 c2 c3 : Word) : State :=
  let z := fun t n v => tblSet (fun _ => (0 : Word)) t n v
  s.setEp i { powered := true, caps := z (z (z (z [] 0 c0) 1 c1) 2 c2) 3 c3 }

/-- LINK_ALIGN and LINK_ALIGN_LOSS at an endpoint's port (03 R76). -/
def State.epAlign (s : State) (i : Nat) (escrow ok : Bool) : State :=
  let e := s.ep i
  if e.powered then s.setEp i (e.setPort escrow { e.port escrow with aligned := ok }) else s

/-- The change of the endpoint's time towards `want`: in one step while nothing is pending, else by at most its class
bound (03 R104, R105). -/
def Endpoint.setTime (e : Endpoint) (want : Word) : Endpoint :=
  let d := sg (want - e.off)
  let b : Int := match fld (e.capWord 0) 19 18 with | 0 => 1 | 1 => 8 | _ => 64
  let busy := !e.edges.isEmpty || !e.cadences.isEmpty || e.bypassAt.isSome
  { e with off := e.off + w32 (if busy then clampI (-b) b d else d) }

/-- ENDPOINT_BEACON: at the beacon's first code bit the endpoint's time is BEACON + D (03 R80). -/
def State.endpointBeacon (s : State) (i : Nat) (escrow : Bool) (seq : Nat) (beacon : Word) : State :=
  s.epWord i escrow seq 1 fun e =>
    if escrow == e.active then { e.setTime (beacon + wN (e.d / 16) - wN s.now) with tk := beacon } else e

/-- ENDPOINT_DELAY_WORD: the D of this period holds from its arrival (03 R80). -/
def State.endpointDelayWord (s : State) (i : Nat) (escrow : Bool) (seq : Nat) (d : Nat) : State :=
  s.epWord i escrow seq 1 fun e =>
    if escrow == e.active then
      { e.setTime (e.off + wN (d / 16) - wN (e.d / 16)) with d := d, dGot := true, dOld := false }
    else e

/-- ENDPOINT_BAD_WORD: a bad word stands for the next SEQ, and a NAK names it (03 R77, R78, R102). -/
def State.endpointBadWord (s : State) (i : Nat) (escrow : Bool) : State :=
  let e := s.ep i
  let p := e.port escrow
  if e.powered && p.aligned then
    let q := (p.rx + 1) % 16
    s.setEp i ((e.setPort escrow { p with rx := q, bad := p.bad + 1 }).send escrow 4 (wN q))
  else s

/-! ## Bundles and edges (03 R81 to R83, R106, R107) -/

/-- The endpoint executes edges and cadences: RUN or BYPASS (03 R86; log 25). -/
def Endpoint.runs (e : Endpoint) : Bool := decide (e.estate = 2 ∨ e.estate = 3)

/-- EDGE_COMMAND: an EDGE word with its CONT, or one HOLD word, of the bundle for the next period (03 R81, R82). -/
def State.edgeCommand (s : State) (i : Nat) (escrow : Bool) (seq : Nat) (edge cont : Word) : State :=
  let isHold := bitAt edge 19
  s.epWord i escrow seq (if isHold then 1 else 2) fun e =>
    if s.epSource e != escrow || e.decided then e
    else if isHold then { e with hold := true, sawEdge := true }
    else
      let ph := (cont - e.tk).toNat
      let p := s.epP e * 64
      let x : EpEdge := { bidx := fld edge 26 22, last := bitAt edge 21, idx := fld edge 31 27,
                          gates := fld edge 15 0, cap := bitAt edge 20, due := cont };
      { e with bundle := e.bundle ++ [x], sawEdge := true, outside := e.outside || !(decide (p ≤ ph ∧ ph < 2 * p)) }

/-- The bundle received is complete (03 R82): one HOLD word, or every BIDX from 0 to the edge marked LAST. -/
def Endpoint.complete (e : Endpoint) : Bool :=
  if e.bundle.isEmpty then e.hold
  else
    let n := e.bundle.length
    !e.hold && (List.range n).all (fun b => (e.bundle.filter fun x => x.bidx == b).length == 1) &&
      e.bundle.all (fun x => x.last == decide (x.bidx + 1 = n))

/-- The group an edge addresses: 0 for the arm group and for BLOCK and FALLBACK. -/
def Endpoint.groupOf (e : Endpoint) (idx : Nat) : Nat :=
  let r := e.entry idx
  if r.2.1 ≤ 1 then 0 else r.2.2.1

/-- Two edges with equal DUE address one group, which makes the bundle invalid (03 R83). -/
def Endpoint.clash (e : Endpoint) : Bool :=
  e.bundle.any fun x => e.bundle.any fun y => x.bidx != y.bidx && x.due == y.due && e.groupOf x.idx == e.groupOf y.idx

/-- The endpoint repeats its previous executed bundle one period later, or holds where there is none (03 R82). -/
def Endpoint.doRepeat (e : Endpoint) (p : Nat) : Endpoint :=
  match e.prev with
  | none => { e with repeating := true }
  | some l =>
    let m := l.map fun x => { x with due := x.due + wN p };
    { e with repeating := true, edges := e.edges ++ m, prev := some m }

/-- The decision of the bundle deadline (03 R82, R110). -/
def State.decideBundle (s : State) (e : Endpoint) : Endpoint :=
  let p := s.epP e * 64
  let x := { e with decided := true, repeating := false, bundle := [], hold := false, sawEdge := false, outside := false }
  if !e.runs then x
  else if e.complete && !e.outside && !e.clash then { x with edges := x.edges ++ e.bundle, prev := some e.bundle }
  else if e.sawEdge || (e.word 0x2C).testBit 0 || e.ride then
    let y := x.doRepeat p
    if e.outside then y.event y.active 5 0 else y
  else x

/-- BUNDLE_DEADLINE: stack time reaches the endpoint's T_k+1 − L_ep (03 R82; log 4). -/
def State.bundleDeadline (s : State) (i : Nat) : State :=
  let e := s.ep i
  if e.powered && !e.decided then
    let t := s.advanceTo (s.epAt e (e.tk + wN (s.epP e * 64) - wN e.lat))
    t.modEp i fun x => t.decideBundle (x.settle t.now)
  else s

/-- The edge with the earliest due tick, oldest first among equals. -/
def firstDue (ref : Word) (l : List EpEdge) : Option EpEdge :=
  l.foldl (fun acc x => match acc with
    | none => some x
    | some y => if sg (x.due - ref) < sg (y.due - ref) then some x else some y) none

/-- The TIME word of a captured edge (03 R92): the lowest gate that changed, its direction, DUE and the executed time
minus the nominal instant. -/
def Endpoint.timeOf (before after : Endpoint) (t : Nat) (due : Word) : Word :=
  let changed := (List.range 16).filter fun g => before.gatesToBe.testBit g != after.gatesToBe.testBit g
  match changed.head? with
  | none => wN (2 ^ 26 + due.toNat % 1024 * 2 ^ 16)
  | some g =>
    let on := after.gatesToBe.testBit g
    let r := before.instants g on t before.gatesToBe after.gatesToBe
    wN (g * 2 ^ 28 + b2n on * 2 ^ 27 + 2 ^ 26 + due.toNat % 1024 * 2 ^ 16 +
      ux 16 (satS 16 ((((after.lastAt g on).getD r.2.2 : Nat) : Int) - (r.1 : Int))))

/-- One edge executes at its due tick (03 R83, R86, R107, R117): arm-group edges are ignored without report in BYPASS,
and an edge for a stage group halts its cadence. -/
def Endpoint.execEdge (e : Endpoint) (t : Nat) (x : EpEdge) : Endpoint :=
  let g := e.groupOf x.idx
  if !e.runs || (decide (e.estate = 3) && decide (g = 0)) then e
  else
    let y := if g = 0 then e else { e with cadences := e.cadences.filter fun c => c.group ≠ g }
    let r := y.applyEdge t x.idx (some x.gates)
    if r.2 && x.cap then { r.1 with timeWord := Endpoint.timeOf y r.1 t x.due } else r.1

/-- EDGE_DUE: the earliest pending edge falls due (03 R83; log 4). -/
def State.edgeDue (s : State) (i : Nat) : State :=
  let e := s.ep i
  match firstDue e.tk e.edges with
  | some x =>
    let t := s.advanceTo (s.epAt e x.due)
    t.modEp i fun y => ({ y with edges := y.edges.erase x }.settle t.now).execEdge t.now x
  | none => s

/-! ## Cadences (03 R84, R85) -/

/-- A pattern index is a valid STAGE entry of a group. -/
def Endpoint.stageOk (e : Endpoint) (idx group : Nat) : Bool :=
  let r := e.entry idx
  r.1 && decide (r.2.1 = 5) && decide (r.2.2.1 = group)

/-- CADENCE_COMMAND: kept for its START, or ignored and reported ILLEGAL with IDX_A where it is invalid; a command that
is complete too late is discarded (03 R85). -/
def State.cadenceCommand (s : State) (i : Nat) (escrow : Bool) (seq : Nat) (w c1 c2 c3 : Word) : State :=
  s.epWord i escrow seq 4 fun e =>
    if s.epSource e != escrow || !e.runs then e
    else
      let c : EpCadence := { group := fld w 31 29, halt := bitAt w 28, a := fld w 9 5, b := fld w 4 0,
                             half := fld c1 23 0, phase := fld c2 23 0, start := c3 }
      let ok := decide (1 ≤ c.group ∧ c.group ≤ 4) && decide (groupMask e.cls c.group ≠ 0) && e.stageOk c.a c.group &&
        (c.halt || (e.stageOk c.b c.group && decide (e.word 0x29 % 2 ^ 16 ≤ c.half) && decide (0 < c.half) &&
          decide (c.phase < 2 * c.half)))
      let p := s.epP e * 64
      let lim : Int := min (sg (c.start - e.tk)) (p : Int) - (e.lat : Int)
      let late := decide (lim < sg (wN s.now + e.off - e.tk))
      if late then e
      else if ok then { e with nextCads := e.nextCads ++ [c] } else e.reportIllegal c.a 0

/-- CADENCE_START: at START the new cadence replaces the running one; a HALT applies pattern A and stops. -/
def State.cadenceStart (s : State) (i g : Nat) : State :=
  let e := s.ep i
  match e.nextCads.find? fun c => c.group == g with
  | some c =>
    let t := s.advanceTo (s.epAt e c.start)
    t.modEp i fun y =>
      let z := { y with nextCads := y.nextCads.erase c, cadences := y.cadences.filter fun x => x.group ≠ g }.settle t.now
      if !z.runs then z
      else if c.halt then (z.applyEdge t.now c.a none).1 else { z with cadences := z.cadences ++ [c] }
  | none => s

/-- CADENCE_EDGE: the next grid instant of the group's cadence applies pattern A or B (03 R85). -/
def State.cadenceEdge (s : State) (i g : Nat) : State :=
  let e := s.ep i
  match e.cadences.find? fun c => c.group == g with
  | some c =>
    let t := s.advanceTo (s.epAt e (c.start + wN (c.phase + c.n * c.half)))
    t.modEp i fun y =>
      let z := { y with cadences := y.cadences.map fun x => if x = c then { x with n := x.n + 1 } else x }.settle t.now
      if z.runs then (z.applyEdge t.now (if c.n % 2 = 0 then c.a else c.b) none).1 else z
  | none => s

/-! ## Commands (03 R86, R108, R112 to R117) -/

/-- Everything pending is discarded and all cadences halt (03 R86, R110). -/
def Endpoint.discard (e : Endpoint) : Endpoint :=
  { e with edges := [], cadences := [], nextCads := [], bypassAt := none }

/-- CMD_STOP: entry 0 on receipt, and STOPPED (03 R86, R113). -/
def State.cmdStop (s : State) (i : Nat) (escrow : Bool) (seq : Nat) : State :=
  s.epWord i escrow seq 1 fun e =>
    { (e.discard.driveNow s.now (classMask e.cls) 0) with estate := 1, lastIdx := 0 }

/-- CMD_BYPASS (03 R86). -/
def State.cmdBypass (s : State) (i : Nat) (escrow : Bool) (seq idx : Nat) (due : Word) : State :=
  s.epCmd i escrow seq 2 2 fun e =>
    if !e.runs then e.event escrow 6 (2 * 2 ^ 24)
    else if (e.entry idx).2.1 ≠ 2 ∨ (e.entry idx).1 = false then e.reportIllegal idx (e.entry idx).2.2.2
    else { e with bypassAt := some (idx, due) }

/-- BYPASS_DUE: the entry is applied, arm-group edges of the same tick are discarded, and BYPASS is entered (03 R86,
R114). -/
def State.bypassDue (s : State) (i : Nat) : State :=
  let e := s.ep i
  match e.bypassAt with
  | some (idx, due) =>
    let t := s.advanceTo (s.epAt e due)
    t.modEp i fun y =>
      let z := { y with bypassAt := none, edges := y.edges.filter fun x => !(x.due == due && y.groupOf x.idx == 0) }
      let r := (z.settle t.now).applyEdge t.now idx none;
      { r.1 with estate := 3 }
  | none => s

/-- CMD_CLEAR: the named latches clear; a cause still present sets its latch again at once; CLRSTOP leaves STOPPED or
FALLBACK for RUN (03 R86, R108, R117). -/
def State.cmdClear (s : State) (i : Nat) (escrow : Bool) (seq : Nat) (clrStop clrCell : Bool) (mask : Nat) : State :=
  s.epCmd i escrow seq 1 3 fun e =>
    let keepG := (List.range 16).foldl (fun m g => if mask.testBit g then putBit m g false else m) (e.fault % 2 ^ 16)
    let cell := if clrCell then 0 else e.fault / 2 ^ 16
    let x := { e with fault := (keepG + cell * 2 ^ 16) ||| e.causes }
    if clrStop && decide (e.estate = 1 ∨ e.estate = 4) then { x with estate := 2, prev := none } else x

/-- The conditions of R112 on a TAKE that arrives now with boundary T_b (in endpoint ticks). -/
def State.takeOk (s : State) (e : Endpoint) (tb : Word) : Bool :=
  let p := s.epP e * 64
  let arr := wN s.now + e.off
  let d := sg (tb - arr)
  decide (0 < p) && decide ((tb - e.tk).toNat % p = 0) && decide ((e.lat : Int) + (p : Int) ≤ d) &&
    decide (d ≤ 4 * (p : Int))

/-- CMD_TAKE (03 R112). -/
def State.cmdTake (s : State) (i : Nat) (escrow : Bool) (seq : Nat) (tb : Word) : State :=
  s.epWord i escrow seq 2 fun e =>
    let low := tb.toNat % 2 ^ 16
    if !s.takeOk e tb then e.event escrow 6 (4 * 2 ^ 24)
    else
      let at_ := s.epAt e tb
      match e.take with
      | some (p, t) =>
        if p != escrow && t == at_ then ({ e with take := none }.event escrow 3 low).event (!escrow) 3 low
        else if p == escrow && t == at_ then e.event escrow 2 low
        else { e with take := some (escrow, at_) }.event escrow 2 low
      | none =>
        if escrow == e.active then e.event escrow 2 low
        else { e with take := some (escrow, at_) }.event escrow 2 low

/-- CMD_RETURN: BYPASS is left for RUN (03 R86). -/
def State.cmdReturn (s : State) (i : Nat) (escrow : Bool) (seq : Nat) : State :=
  s.epCmd i escrow seq 1 5 fun e => if e.estate = 3 then { e with estate := 2, prev := none } else e

/-- CMD_REPLAY: the named uplink word goes out again if it is kept and can reach the chip by T_k+1; NAK words are not
resent (03 R101, R102). -/
def State.cmdReplay (s : State) (i : Nat) (escrow : Bool) (seq named : Nat) : State :=
  s.epWord i escrow seq 1 fun e =>
    let t := wN s.now + e.off - e.tk
    let j := t.toNat / 3200 + 1
    match e.kept.find? fun w => w.escrow == escrow && w.seq == named with
    | some w => if w.ty ≠ 4 ∧ ((j + 1) * 3200) * 16 + e.d ≤ s.epP e * 64 * 16 then { e with out := some w } else e
    | none => e

/-- CMD_CAPREQ: CAP0 to CAP3 on the requesting port (03 R86, R94). -/
def State.cmdCapreq (s : State) (i : Nat) (escrow : Bool) (seq : Nat) : State :=
  s.epWord i escrow seq 1 fun e => if e.estate = 0 then e else e.sendCaps escrow

/-- CMD_SVC: the endpoint's service mode, on receipt. -/
def State.cmdSvc (s : State) (i : Nat) (escrow : Bool) (seq : Nat) (com : Bool) : State :=
  s.epCmd i escrow seq 1 8 fun e => { e with commission := com }

/-- CMD_UNLISTED_OP: ignored and reported BADCMD with its OP (03 R86). An OP that the table lists, arriving so, is one
that the standby port may not send. -/
def State.cmdUnlistedOp (s : State) (i : Nat) (escrow : Bool) (seq op : Nat) : State :=
  s.epWord i escrow seq 1 fun e =>
    let listed := decide (1 ≤ op ∧ op ≤ 8)
    let either := decide (op = 1 ∨ op = 4 ∨ op = 6 ∨ op = 7)
    if !listed || (!either && s.epSource e != escrow) then e.event escrow 6 (op * 2 ^ 24) else e

/-! ## Calibration and configuration (03 R88, R89) -/

/-- CAL_WORD: a trim of one gate's rising or falling edges. -/
def State.calWord (s : State) (i : Nat) (escrow : Bool) (seq : Nat) (falling : Bool) (g trim : Nat) : State :=
  s.epWord i escrow seq 1 fun e =>
    if s.epSource e != escrow then e
    else if falling then { e with trimF := tblSet (fun _ => (0 : Nat)) e.trimF g trim }
    else { e with trimR := tblSet (fun _ => (0 : Nat)) e.trimR g trim }

/-- CFG is taken in UNCONF, STOPPED or FALLBACK; at any other time it is reported BADCMD with TYPE 7. -/
def State.cfgWord (s : State) (i : Nat) (escrow : Bool) (seq : Nat) (body : Endpoint → Endpoint) : State :=
  s.epWord i escrow seq 1 fun e =>
    if s.epSource e != escrow || e.runs then e.event escrow 6 (7 * 2 ^ 24) else body e

/-- CFG_WRITE: the shadow value of the address. -/
def State.cfgWrite (s : State) (i : Nat) (escrow : Bool) (seq addr value : Nat) : State :=
  s.cfgWord i escrow seq fun e =>
    if addr ≤ 0x2C then { e with shadow := tblSet (fun _ => (0 : Word)) e.shadow addr (wN value) } else e

/-- The sum of the shadow, modulo 65,536. -/
def Endpoint.shadowSum (e : Endpoint) : Nat :=
  ((List.range 0x2D).foldl (fun n a => n + (tblGet (fun _ => (0 : Word)) e.shadow a).toNat) 0) % 65536

/-- CFG_COMMIT: with the correct sum the shadow applies at the next boundary; otherwise it is discarded; CFGACK
answers. -/
def State.cfgCommit (s : State) (i : Nat) (escrow : Bool) (seq sum : Nat) : State :=
  s.cfgWord i escrow seq fun e =>
    if e.shadowSum = sum then { e with commit := some e.shadow }.event escrow 7 1
    else { e with shadow := e.commit.getD e.cfg }.event escrow 7 0

/-! ## The endpoint's boundary, reports and faults (03 R97, R108, R110, R112) -/

/-- Entry 1 at the boundary at which SIL reaches 5 (03 R110). FALLBACK is entered from RUN and BYPASS: STOPPED is left by
CLRSTOP only (R108; log 25). -/
def Endpoint.fallback (e : Endpoint) (t : Nat) : Endpoint :=
  let (_, _, _, gates) := e.entry 1;
  { e.discard.driveNow t (classMask e.cls) gates with
    fault := e.fault ||| 2 ^ 24, estate := 4, lastIdx := 1, ride := false }

/-- What one of the endpoint's ports counts at a boundary. -/
def EpPort.boundary (p : EpPort) : EpPort := { p with goodLast := p.good, badLast := p.bad, good := 0, bad := 0 }

/-- The endpoint's boundary at time t (03 R89, R110, R112): change of active port, SIL, ride-through or FALLBACK, an
accepted COMMIT (an endpoint in UNCONF then runs, log 24), and the new period's counts. -/
def State.epBoundary (s : State) (e : Endpoint) : Endpoint :=
  let t := s.now
  let e0 := if e.decided then e else s.decideBundle e
  let a := match e0.take with
    | some (p, tb) => if tb ≤ t then { e0 with active := p, take := none, sil := if p == e0.active then e0.sil else 0 } else e0
    | none => e0
  let silent := decide ((a.port a.active).good = 0)
  let sil := if silent then min 5 (a.sil + 1) else 0
  let b := if sil = 5 ∧ a.sil = 4 ∧ a.runs then { a.fallback t with sil := 5 } else { a with sil := sil, ride := decide (1 ≤ sil ∧ sil ≤ 4) && a.runs }
  let c := match b.commit with
    | some sh => { b with cfg := sh, commit := none, estate := if b.estate = 0 then 2 else b.estate }
    | none => b
  let d : Endpoint := { c with
    tk := e.tk + wN (s.epP e * 64), prim := c.prim.boundary, esc := c.esc.boundary,
    dOld := !c.dGot, dGot := false, lastPeriodCount := c.periodCount, periodCount := 0,
    bundle := [], hold := false, sawEdge := false, outside := false, decided := false }
  if d.estate = 0 then d.sendCaps d.active else d

/-- ENDPOINT_BOUNDARY (03 R110; log 4). -/
def State.endpointBoundary (s : State) (i : Nat) : State :=
  let e := s.ep i
  if e.powered then
    let t := s.advanceTo (s.epAt e (e.tk + wN (s.epP e * 64)))
    t.modEp i fun x => t.epBoundary (x.settle t.now)
  else s

/-- The STATUS report word (03 R91). -/
def Endpoint.statusReport (e : Endpoint) : Word :=
  let cad := e.cadences.foldl (fun m c => putBit m (c.group - 1) true) 0
  wN (b2n e.commission * 2 ^ 28 + b2n e.active * 2 ^ 27 + e.estate * 2 ^ 24 + e.lastIdx * 2 ^ 19 +
    b2n e.illegal * 2 ^ 18 + b2n e.floor * 2 ^ 17 + b2n e.dOld * 2 ^ 16 + b2n e.repeating * 2 ^ 15 +
    b2n e.ride * 2 ^ 14 + cad * 2 ^ 10)

/-- The gates of a class. -/
def Endpoint.gateCount (e : Endpoint) : Nat := popCount 16 (classMask e.cls)

/-- REPORT_SAMPLE: at the start of uplink slot s the measurements are sampled; REPORT 0 to 5, TIME and ECHO go out on the
active port, STATUS and ECHO on the standby port (03 R97, R111, R499). The flags that STATUS carries clear with it. -/
def State.reportSample (s : State) (i vcap current temps : Nat) : State :=
  let e := s.ep i
  if e.powered then
    let sl := s.epP e / 50
    let adv := if e.word 0x2A = 0 then min 30 (sl - 13) else e.word 0x2B % 2 ^ 13
    let first := (sl - adv) * 3200
    let t := s.advanceTo (s.epAt e (e.tk + wN first))
    t.modEp i fun y =>
      let x := y.settle t.now
      let g := x.tallyGate
      let pt := x.port x.active
      let tal := g * 2 ^ 25 + tblGet (fun _ => (0 : Nat)) x.counts g * 2 ^ 12 + x.lastPeriodCount
      let seqw := pt.rx * 2 ^ 25 + min 127 pt.goodLast * 2 ^ 18 + min 127 pt.badLast * 2 ^ 11
      let echo := fun n => x.tk + wN (first + n * 3200)
      let rep := fun n v => setFld (wN v) 31 29 n
      let words := [(0, x.statusReport), (0, rep 1 (vcap * 2 ^ 14 + current)), (0, rep 2 temps), (0, rep 3 x.fault),
        (0, rep 4 tal), (0, rep 5 seqw), (1, x.timeWord), (2, echo 7)]
      let a := words.foldl (fun z w => z.send x.active w.1 w.2) x
      let b := (a.send (!x.active) 0 x.statusReport).send (!x.active) 2 (echo 1);
      { b with illegal := false, floor := false, timeWord := 0,
               counts := tblSet (fun _ => (0 : Nat)) b.counts g 0,
               tallyGate := if x.gateCount ≤ g + 1 then 0 else g + 1 }
  else s

/-- FAULT_LATCH: DESAT or cell faults latch, and a latched gate is held off at once (03 R108). `present` are the causes
that stay. -/
def State.faultLatch (s : State) (i mask present : Nat) : State :=
  let e := s.ep i
  if e.powered then
    let f := e.fault ||| mask
    let x := { (e.settle s.now) with fault := f, causes := present }
    s.setEp i ((List.range 16).foldl (fun y g => if mask.testBit g then
      { (y.change g false s.now) with changes := y.changes.filter fun c => c.1 ≠ g } else y) x)
  else s

end Sys2Proof.Machine
end

