-- ==== Sys2Proof/Machine/Pattern.lean ====
section
/-! DEFINITION. The chip's pattern tables and interlock pairs by class (01 R18 to R26): the default entries, the fields
of an entry, levels, and the choice of a BYPASS entry (04 R127). -/

namespace Sys2Proof.Machine

/-- An entry word: VALID, ROLE, GROUP, GATES (01 R21). -/
def patWord (role group gates : Nat) : Word := wN (2 ^ 31 + role * 2 ^ 28 + group * 2 ^ 25 + gates)

/-- The entries 2 to 5 of a bipolar class. -/
def patH (i : Nat) : Word :=
  match i with
  | 2 => patWord 2 0 0x000A | 3 => patWord 2 0 0x0005 | 4 => patWord 3 0 0x0009 | 5 => patWord 4 0 0x0006 | _ => 0

/-- The DAB entries 6 to 11 of class HD, shifted down by 4 gates for class D (01 R26). -/
def patDab (i sh : Nat) : Word :=
  match i with
  | 6 => patWord 5 1 (0x0090 / 2 ^ sh) | 7 => patWord 5 1 (0x0060 / 2 ^ sh)
  | 8 => patWord 5 2 (0x0900 / 2 ^ sh) | 9 => patWord 5 2 (0x0600 / 2 ^ sh)
  | 10 => patWord 5 1 0 | 11 => patWord 5 2 0 | _ => 0

/-- The default pattern tables (01 R23, R26). -/
def defaultPat (cls i : Nat) : Word :=
  if cls = 0 ∨ 7 ≤ cls then 0
  else if i = 0 then patWord 0 0 0
  else match cls with
  | 1 => if i = 1 then patWord 1 0 0x000A else patH i
  | 4 => if i = 1 then patWord 1 0 0x000A else patH i
  | 3 => match i with | 1 => patWord 1 0 2 | 2 => patWord 2 0 2 | 3 => patWord 3 0 1 | _ => 0
  | 2 => if i = 1 then patWord 1 0 0x000A else if i ≤ 5 then patH i else patDab i 0
  | 5 => if i = 1 then patWord 1 0 0 else if i ≤ 7 then patDab (i + 4) 4 else 0
  | _ =>
    if i = 1 then patWord 1 0 0
    else if 2 ≤ i ∧ i ≤ 13 then
      let n := (i - 2) / 3
      patWord 5 (n + 1) (if (i - 2) % 3 = 0 then 2 ^ (2 * n) else if (i - 2) % 3 = 1 then 2 ^ (2 * n + 1) else 0)
    else 0

/-- The key default of the pattern memory. -/
def patDefault (k : Nat) : Word := defaultPat (k / 32) (k % 32)

/-- Entry i of a class's pattern table. -/
def State.pat (s : State) (cls i : Nat) : Word := tblGet patDefault s.cs.pat (cls * 32 + i % 32)

/-- VALID, ROLE, GROUP and GATES of an entry word. -/
def pValid (w : Word) : Bool := bitAt w 31
def pRole (w : Word) : Nat := fld w 30 28
def pGroup (w : Word) : Nat := fld w 27 25
def pGates (w : Word) : Nat := fld w 15 0

/-- The interlock pairs of a class on the chip: its default pairs and those firmware added (01 R20). A pair word holds
[8] VALID, [7:4] gate a, [3:0] gate b, as ILK of 03 R89. -/
def State.clsPairs (s : State) (cls : Nat) : List (Nat × Nat) :=
  classPairs cls ++ ((List.range 8).filterMap fun j =>
    let w := tblGet (fun _ => (0 : Word)) s.cs.pairs (cls * 8 + j)
    if bitAt w 8 then some (fld w 7 4, fld w 3 0) else none)

/-- A class of a cell that may be an arm member: H, HD, M2, M4 (01 R27). -/
def armClass (cls : Nat) : Bool := decide (1 ≤ cls ∧ cls ≤ 4)

/-- A bipolar class: H, HD, M4. -/
def bipolar (cls : Nat) : Bool := decide (cls = 1 ∨ cls = 2 ∨ cls = 4)

/-- The level of an arm entry: +1, −1 or 0. -/
def levelOfEntry (w : Word) : Int := if pRole w = 3 then 1 else if pRole w = 4 then -1 else 0

/-- The first valid entry of a role in the arm group. -/
def State.entryOf (s : State) (cls role : Nat) : Option Nat :=
  (List.range 32).find? fun i => pValid (s.pat cls i) && decide (pRole (s.pat cls i) = role) &&
    decide (pGroup (s.pat cls i) = 0)

/-- The 48-bit Tally of gate g of context i (04 R158). -/
def State.gateTally (s : State) (i g : Nat) : Nat := s.ctxN i (0x100 + 8 * g) + s.ctxF i (0x104 + 8 * g) 15 0 * 2 ^ 32

/-- The BYPASS entry that a cell of context i takes from entry `cur`: the fewest gate changes, then the lower sum of the
changing gates' Tally, then the lower index (04 R127). Without a valid BYPASS entry, entry 0 (log 26). -/
def State.bypassEntry (s : State) (i cls cur : Nat) : Nat :=
  let m := groupMask cls 0
  let now := pGates (s.pat cls cur) &&& m
  let cand := (List.range 32).filter fun n => pValid (s.pat cls n) && decide (pRole (s.pat cls n) = 2) &&
    decide (pGroup (s.pat cls n) = 0)
  let cost := fun n =>
    let x := (pGates (s.pat cls n) &&& m) ^^^ now
    (popCount 16 x, (bitsOf 16 x).foldl (fun a g => a + s.gateTally i g) 0)
  let better := fun a b => decide ((cost a).1 < (cost b).1) ||
    (decide ((cost a).1 = (cost b).1) && decide ((cost a).2 < (cost b).2))
  (cand.foldl (fun acc n => match acc with
    | none => some n
    | some b => if better n b then some n else some b) none).getD 0

end Sys2Proof.Machine
end

