-- ==== Sys2Proof/Machine/Scheduler.lean ====
section
/-! DEFINITION. The Cell Scheduler's passes (04 R119 to R148, R154 to R157; 11 R350): the arm pass in PSC, NLM and MTL,
the cadence pass, the end of a pass and of a figure-of-merit window. Voltages are in mV, references in Q16.16, carries in
ticks at the arm's level voltage. -/

namespace Sys2Proof.Machine

/-! ## Arms, members and cells -/

/-- What the chip keeps per context and per arm block. -/
def State.cell (s : State) (i : Nat) : CellAux := tblGet (fun _ => ({} : CellAux)) s.cs.cells i

def State.modCell (s : State) (i : Nat) (h : CellAux → CellAux) : State :=
  { s with cs := { s.cs with cells := tblSet (fun _ => ({} : CellAux)) s.cs.cells i (h (s.cell i)) } }

def State.arm (s : State) (a : Nat) : ArmAux := tblGet (fun _ => ({} : ArmAux)) s.cs.arms a

def State.modArm (s : State) (a : Nat) (h : ArmAux → ArmAux) : State :=
  { s with cs := { s.cs with arms := tblSet (fun _ => ({} : ArmAux)) s.cs.arms a (h (s.arm a)) } }

/-- The set-up's naming of the cell of context i (log 27): [31] named, [23:16] member index in a shared arm, [8] SHARED,
[7:5] ARM, [4] INARM, [3:0] class. -/
def State.naming (s : State) (i : Nat) : Word := tblGet (fun _ => (0 : Word)) s.adm.cells i

/-- The set-up's word for arm block a (log 27): [23:16] N of the whole arm, [8:0] the stack arm number. -/
def State.armWord (s : State) (a : Nat) : Word := tblGet (fun _ => (0 : Word)) s.adm.arms a

/-- The arm block of context i: own arms 0 to 7, escrow arm images 8 to 15 (04 R157). -/
def State.blockOf (s : State) (i : Nat) : Nat := s.cArm i + (if i < 64 then 0 else 8)

/-- The member contexts of arm block a on this chip. -/
def State.members (s : State) (a : Nat) : List Nat :=
  ctxIdx.filter fun i => (decide (i < 64) == decide (a < 8)) && s.cInArm i && decide (s.cArm i = a % 8)

/-- Arm block a carries a shared arm. -/
def State.armShared (s : State) (a : Nat) : Bool := (s.members a).any fun i => bitAt (s.ctx i 0) 13

/-- The member index of context i (04 R128): its rank among the arm's members, or the index of the set-up in a shared
arm. -/
def State.memberIndex (s : State) (i : Nat) : Nat :=
  if bitAt (s.ctx i 0) 13 then fld (s.naming i) 23 16
  else ((s.members (s.blockOf i)).filter fun j => j < i).length

/-- The key of an ACTIVE count: stack arm number, position, and part (04 R498). -/
def countKey (san pos part : Nat) : Nat := san * 1024 + pos * 16 + part

/-- The ACTIVE cells of block a's shared arm that the other participants last reported (01 R30, 09 R498); a stored count
is one more than the cells, 0 where nothing was ever reported. -/
def State.remoteActive (s : State) (a : Nat) : Nat :=
  let san := fld (s.armWord a) 8 0
  let own := s.f F.RNG_STATUS.POS
  (s.cs.counts.filter fun x => x.1 / 1024 == san && x.1 / 16 % 64 != own).foldl (fun n x => n + (x.2 - 1)) 0

/-- N, the members of the whole arm. -/
def State.armN (s : State) (a : Nat) : Nat :=
  if s.armShared a then max 1 (fld (s.armWord a) 23 16) else max 1 (s.members a).length

/-- The cell of context i stands ACTIVE at T_k+1 for the passes: not while its bypass has started (04 R133), and with a
change of driving at T_k+1 taken into account (04 R157, 09 R304). -/
def State.activeNext (s : State) (i : Nat) : Bool :=
  !s.bypBusy i &&
    (if (s.cell i).takeAt = some (s.tm.k + 1) then decide ((s.cell i).recState = cActive)
     else decide (s.cst i = cActive) && decide ((s.cell i).giveAt ≠ some (s.tm.k + 1)))

/-- Some member of the block drives now or from the next boundary. -/
def State.drivesNext (s : State) (i : Nat) : Bool := s.drives i || decide ((s.cell i).takeAt = some (s.tm.k + 1))

/-- Arm block a is enabled at run time (04 R119). -/
def State.armRuns (s : State) (a : Nat) : Bool := decide (s.f (F.CS_ACFG.MODE a) ≠ 0) && (s.members a).any s.drivesNext

/-- t_arm in cycles (04 R119). -/
def State.tArm (s : State) : Nat :=
  64 + ((List.range 16).filter s.armRuns).foldl (fun n a => n + 48 + 4 * (s.members a).length) 0

/-- The floor F = t_min + t_dead of a class (04 R136). -/
def State.tMin (s : State) (cls : Nat) : Nat := if 1 ≤ cls ∧ cls ≤ 6 then s.f (F.CS_CLASS.TMIN cls) else 0
def State.tDead (s : State) (cls : Nat) : Nat := if 1 ≤ cls ∧ cls ≤ 6 then s.f (F.CS_CLASS.TDEAD cls) else 0

/-! ## The pass of one arm: environment and state -/

/-- What the pass reads of one cell (04 R121). -/
structure CellView where
  i : Nat
  cls : Nat
  u : Int
  stale : Bool
  wear : Nat
  idx : Nat
  last : Option Nat
  deriving DecidableEq, Repr

/-- The fixed figures of one pass: T_k+1, P × 64, VLVL and TIEV in mV, VCOMP, the polarity and whether the arm
charges. -/
structure PassEnv where
  t1 : Nat
  p64 : Nat
  vl : Int
  tiev : Int
  vcomp : Bool
  pol : Int
  charge : Bool
  deriving DecidableEq, Repr

/-- What the pass changes: the pattern and last edge of each cell, the edges, and the unmet volt-seconds in units of
1/(65,536 VLVL) tick (04 R140). -/
structure PassOut where
  idx : Tbl Nat := []
  last : Tbl (Option Nat) := []
  edges : List CsEdge := []
  unmet : Int := 0
  deriving DecidableEq, Repr

/-- The full stack time of a 32-bit due tick near a reference. -/
def fullTime (ref : Nat) (w : Word) : Nat := ((ref : Int) + timeDiff 32 w.toNat ref).toNat

/-- The view of context i. -/
def State.view (s : State) (i : Nat) : CellView :=
  { i := i, cls := s.cClass i, u := sg (s.ctx i 0x188), stale := decide (2 ≤ (s.cell i).stale),
    wear := s.ctxN i 0xCC, idx := s.ctxF i 0xC0 31 27,
    last := if (s.cell i).hasEdge then some (fullTime (s.boundary (s.tm.k + 1)) (s.ctx i 0xC4)) else none }

/-- The voltage that sums and widths use: u, or VLVL without VCOMP (04 R131). -/
def PassEnv.uu (e : PassEnv) (c : CellView) : Int := if e.vcomp then c.u else e.vl

/-- The sum of a list. -/
def PassEnv.sum (e : PassEnv) (l : List CellView) : Int := l.foldl (fun n c => n + e.uu c) 0

/-- The better of two tied candidates: lower WEAR enters, higher WEAR leaves, then the lower cell number (04 R132). -/
def better (enter : Bool) (a b : CellView) : Bool :=
  if a.wear = b.wear then decide (a.i < b.i) else (decide (a.wear < b.wear) == enter)

/-- The first cell of the enter or leave order of a list (04 R132): stale cells last to enter and first to leave;
the candidates within TIEV of the extreme; then WEAR and the cell number. -/
def PassEnv.first (e : PassEnv) (l : List CellView) (enter : Bool) : Option CellView :=
  let fresh := l.filter fun c => !c.stale
  let old := l.filter fun c => c.stale
  let pool := if enter then (if fresh.isEmpty then old else fresh) else (if old.isEmpty then fresh else old)
  let low := enter == e.charge
  match pool with
  | [] => none
  | c :: cs =>
    let ext := cs.foldl (fun x y => if low then min x y.u else max x y.u) c.u
    (pool.filter fun y => decide (absI (y.u - ext) ≤ e.tiev)).foldl (fun acc y => match acc with
      | none => some y
      | some b => if better enter y b then some y else some b) none

/-- The whole order of a list, built one place at a time. -/
def PassEnv.order (e : PassEnv) (enter : Bool) : Nat → List CellView → List CellView
  | 0, _ => []
  | n + 1, l => match e.first l enter with
    | none => []
    | some c => c :: PassEnv.order e enter n (l.erase c)

/-- A cell's pattern as the pass stands. -/
def PassOut.idxOf (o : PassOut) (c : CellView) : Nat := tblGet (fun _ => c.idx) o.idx c.i

/-- A cell's last edge as the pass stands. -/
def PassOut.lastOf (o : PassOut) (c : CellView) : Option Nat :=
  match o.last.find? fun x => x.1 == c.i with | some x => x.2 | none => c.last

/-- An edge into an entry. -/
def PassOut.put (o : PassOut) (c : CellView) (due idx : Nat) : PassOut :=
  { o with
    idx := (o.idx.filter fun x => x.1 ≠ c.i) ++ [(c.i, idx)]
    last := (o.last.filter fun x => x.1 ≠ c.i) ++ [(c.i, some due)]
    edges := o.edges ++ [{ ctx := c.i, due := due, idx := idx }] }

/-- The insertion entry of a class for a polarity (04 R125). -/
def State.insertEntry (s : State) (cls : Nat) (pol : Int) : Option Nat := s.entryOf cls (if 0 < pol then 3 else 4)

/-- The entry of the next edge of a cell: its insertion entry, or the BYPASS entry of R127. -/
def State.edgeEntry (s : State) (e : PassEnv) (o : PassOut) (c : CellView) (on : Bool) : Nat :=
  if on then (s.insertEntry c.cls e.pol).getD 0 else s.bypassEntry c.i c.cls (o.idxOf c)

/-- The earliest instant at or after `due` that the floor to the cell's last edge permits (04 R139). -/
def State.floorAt (s : State) (o : PassOut) (c : CellView) (due : Nat) : Nat :=
  match o.lastOf c with | none => due | some l => max due (l + s.tMin c.cls + s.tDead c.cls)

/-- Volt-seconds of d whole ticks of a cell, in the unit of `unmet`. -/
def PassEnv.vs (e : PassEnv) (c : CellView) (d : Int) : Int := d * e.uu c * 65536

/-- One edge at T_k+1, moved later where the floor asks for it, with the volt-seconds lost or gained (04 R139). -/
def State.edgeAt (s : State) (e : PassEnv) (o : PassOut) (c : CellView) (on : Bool) : PassOut :=
  let due := s.floorAt o c e.t1
  let d : Int := (due : Int) - (e.t1 : Int)
  let lvl := levelOfEntry (s.pat c.cls (o.idxOf c))
  let x := o.put c due (s.edgeEntry e o c on);
  { x with unmet := x.unmet + e.vs c (if on then d else -(d * e.pol * lvl)) }

/-- The entry is neither a BYPASS entry nor an insertion (04 R497). -/
def State.oddPattern (s : State) (cls idx : Nat) : Bool :=
  let r := pRole (s.pat cls idx)
  !(decide (r = 2 ∨ r = 3 ∨ r = 4))

/-- Entries and exits at T_k+1 for the inserted set (04 R126, R497). -/
def State.moves (s : State) (e : PassEnv) (cells ins : List CellView) (o : PassOut) : PassOut :=
  cells.foldl (fun o c =>
    let lvl := levelOfEntry (s.pat c.cls c.idx)
    let inn := ins.contains c
    let out := decide (lvl ≠ 0) && (decide (lvl ≠ e.pol) || !inn)
    let o1 := if out || (s.oddPattern c.cls c.idx && !inn) then s.edgeAt e o c false else o
    if inn && decide (lvl ≠ e.pol) then s.edgeAt e o1 c true else o1) o

/-- A width n / (65,536 u) in ticks to the nearest tick; where u is not positive the text gives no width (log 28). -/
def widthTicks (n u : Int) : Int := if 0 < u then nearest n (65536 * u).toNat else Config.widthOpen n u

/-- A pulse or notch of cell c with `n` / (65,536 u) ticks of width, centred in the period (04 R136 to R139). The Bool
says whether it was emitted. -/
def State.fraction (s : State) (e : PassEnv) (o : PassOut) (c : CellView) (n : Int) (pulse : Bool) : PassOut × Bool :=
  let t := widthTicks n (e.uu c)
  let sgn : Int := if pulse then 1 else -1
  if t ≤ 0 then ({ o with unmet := o.unmet + sgn * n }, false)
  else
    let tmin : Int := s.tMin c.cls
    let dead : Int := s.tDead c.cls
    let d1 := ((e.t1 : Int) + ((e.p64 : Int) - t - dead) / 2).toNat
    let f1 := s.floorAt o c d1
    let d : Int := (f1 : Int) - (d1 : Int)
    if t - d < tmin then ({ o with unmet := o.unmet + sgn * n }, false)
    else
      let x := o.put c f1 (s.edgeEntry e o c pulse)
      let y := { x with unmet := x.unmet + sgn * e.vs c d }
      (y.put c (d1 + t.toNat + s.tDead c.cls) (s.edgeEntry e y c (!pulse)), true)

/-! ## NLM (04 R130) -/

/-- The inserted set of an NLM pass: |r| × VLVL to be met, r in Q16.16. -/
def PassEnv.nlmSet (e : PassEnv) (r : Nat) (elig standing : List CellView) : List CellView :=
  let ord := e.order true elig.length elig
  let want : Int := (r : Int) * e.vl
  let dist := fun n => absI (e.sum (ord.take n) * 65536 - want)
  let n := (List.range (ord.length + 1)).foldl (fun b m => if dist m < dist b then m else b) 0
  match (if n = 0 then ord.head? else ord[n - 1]?) with
  | none => []
  | some edge =>
    let inB := fun (c : CellView) => decide (absI (c.u - edge.u) ≤ e.tiev)
    let top := ord.take n
    let m := (top.filter inB).length
    let b := ord.filter inB
    let pick := (b.filter fun c => standing.contains c) ++ (b.filter fun c => !standing.contains c)
    (top.filter fun c => !inB c) ++ pick.take m

/-! ## MTL (04 R131 to R145) -/

/-- Remove cells in leave order while the sum exceeds w (w in units of 1/D mV). -/
def PassEnv.shed (e : PassEnv) (w d : Int) : Nat → List CellView → List CellView
  | 0, l => l
  | n + 1, l =>
    if w < e.sum l * d then
      match e.first l false with
      | some c => PassEnv.shed e w d n (l.erase c)
      | none => l
    else l

/-- Add cells in enter order while the sum stays within w: the set, and the cell that would come next. -/
def PassEnv.fill (e : PassEnv) (w d : Int) : Nat → List CellView → List CellView → List CellView × Option CellView
  | 0, ins, rest => (ins, e.first rest true)
  | n + 1, ins, rest =>
    match e.first rest true with
    | none => (ins, none)
    | some c =>
      if (e.sum ins + e.uu c) * d ≤ w then PassEnv.fill e w d n (ins ++ [c]) (rest.erase c) else (ins, some c)

/-- How far a cell lies outside its band in the direction in which it is driven, in units of 1/1,000 mV; positive is
outside (04 R142, R143). -/
def PassEnv.outside (e : PassEnv) (band : Nat) (c : CellView) : Int :=
  if e.charge then c.u * 1000 - e.vl * (1000 + band) else e.vl * (1000 - band) - c.u * 1000

/-- The cell lies in its band. -/
def PassEnv.inBand (e : PassEnv) (band : Nat) (c : CellView) : Bool :=
  decide (e.vl * (1000 - band) ≤ c.u * 1000 ∧ c.u * 1000 ≤ e.vl * (1000 + band))

/-- What the rotations of a pass leave: the inserted set, the cells rotated in and out, and their numbers. -/
structure Rotation where
  ins : List CellView
  inn : List CellView := []
  out : List CellView := []
  band : Nat := 0
  wear : Nat := 0
  deriving DecidableEq, Repr

/-- The furthest-outside cell of a list, then the lower cell number. -/
def PassEnv.furthest (e : PassEnv) (band : Nat) (l : List CellView) : Option CellView :=
  l.foldl (fun acc c => match acc with
    | none => some c
    | some b => if e.outside band b < e.outside band c then some c else some b) none

/-- One band rotation (04 R143). -/
def PassEnv.bandRot (e : PassEnv) (band : Nat) (elig gone : List CellView) (r : Rotation) : Rotation :=
  let cand := r.ins.filter fun c => !gone.contains c && !r.inn.contains c && decide (0 < e.outside band c)
  match e.furthest band cand with
  | none => r
  | some c =>
    match e.first (elig.filter fun x => !r.ins.contains x && !r.out.contains x && e.inBand band x) true with
    | none => r
    | some x => { r with ins := (r.ins.erase c) ++ [x], inn := r.inn ++ [x], out := r.out ++ [c], band := r.band + 1 }

/-- The wear rotation (04 R145), made when no band rotation is made and the credit is at least 25 (R135). -/
def PassEnv.wearRot (e : PassEnv) (lim : Nat) (credit : Int) (elig : List CellView) (r : Rotation) : Rotation :=
  if r.band ≠ 0 ∨ credit < 25 then r
  else
    let most := r.ins.foldl (fun acc c => match acc with
      | none => some c
      | some b => if b.wear < c.wear then some c else some b) none
    match most with
    | none => r
    | some h =>
      let pool := elig.filter fun x => !r.ins.contains x && decide (absI (x.u - h.u) ≤ e.tiev)
      match pool.foldl (fun acc c => match acc with
          | none => some c
          | some b => if c.wear < b.wear then some c else some b) none with
      | none => r
      | some b =>
        if lim * 65536 < h.wear - b.wear then
          { r with ins := (r.ins.erase h) ++ [b], inn := [b], out := [h], wear := 1 }
        else r

/-- The result of an MTL pass of one arm. -/
structure MtlOut where
  o : PassOut
  absorbed : Bool := false
  full : Bool := false
  frac : Option Nat := none
  band : Nat := 0
  wear : Nat := 0
  deriving DecidableEq, Repr

/-- The MTL pass of R131: r the magnitude in Q16.16, `carry` in ticks along the polarity. -/
def State.mtlPass (s : State) (e : PassEnv) (a r : Nat) (carry : Int) (cells elig standing : List CellView) : MtlOut :=
  let d : Int := 65536 * e.p64
  let w : Int := e.vl * ((r : Int) * e.p64 + carry * 65536)
  let n := cells.length
  let band := s.f (F.CS_ACFG.BAND a)
  let kept := e.shed w d n standing
  let gone := standing.filter fun c => !kept.contains c
  let r1 := e.bandRot band elig gone (e.bandRot band elig gone { ins := standing })
  let rot := e.wearRot (s.f (F.CS_ACFG.WEARLIM a)) (sg (s.reg (R.CS_ACREDIT a))) elig r1
  let ins := e.shed w d n rot.ins
  let rest := elig.filter fun c => !ins.contains c && !rot.out.contains c
  let fl := e.fill w d n ins rest
  match fl.2 with
  | none => { o := s.moves e cells fl.1 {}, full := true, band := rot.band, wear := rot.wear }
  | some x =>
    let left := w - e.sum fl.1 * d
    -- e / u(nxt) <= 0.5, with left = e × D.
    if 2 * left ≤ e.uu x * d then
      let f := s.fraction e (s.moves e cells fl.1 {}) x left true
      { o := f.1, absorbed := f.2, frac := some x.i, band := rot.band, wear := rot.wear }
    else
      let ins2 := fl.1 ++ [x]
      let excess := e.sum ins2 * d - w
      let pick := match e.first (ins2.filter fun c => !rot.inn.contains c) false with
        | some c => c
        | none => (e.first ins2 false).getD x
      let f := s.fraction e (s.moves e cells ins2 {}) pick excess false
      { o := f.1, absorbed := f.2, frac := some pick.i, band := rot.band, wear := rot.wear }

/-! ## PSC (04 R128, R129) -/

/-- A leg is up at time t: its duty num/den exceeds the carrier of period tc with the offset, in half ticks (04 R128,
R129). -/
def legUp (num den : Int) (tc : Nat) (off2 : Int) (t : Nat) : Bool :=
  let x : Int := (2 * (t : Int) - off2) % (2 * (tc : Int))
  if x ≤ tc then decide (den * (2 * x - tc) < num * tc) else decide (den * (3 * tc - 2 * x) < num * tc)

/-- The ticks in (t1, t1 + p64) at which a leg may change state: the first tick past each crossing. -/
def legTicks (num den : Int) (tc : Nat) (off2 : Int) (t1 p64 : Nat) : List Nat :=
  if tc = 0 ∨ den ≤ 0 then []
  else
    let c4 := 4 * den
    -- The half-tick phases of the two crossings, times 4 × den: (num + den) tc × 2, and its mirror.
    let a := (num + den) * tc * 2
    let start : Int := 2 * (t1 : Int) - (2 * (t1 : Int) - off2) % (2 * (tc : Int))
    let cands := (List.range 3).flatMap fun (m : Nat) =>
      let base := start + (m : Int) * 2 * (tc : Int)
      let dn := base + (a + c4 - 1) / c4
      let up := base + (2 * (tc : Int) * c4 - a) / c4 + 1
      [(dn + 1) / 2, (up + 1) / 2]
    ((cands.map Int.toNat).filter fun t => decide (t1 < t ∧ t < t1 + p64))

/-- The PSC edges of one cell: the leg states at T_k+1 and at every crossing, each change an edge into the entry whose
GATES equal the leg states (04 R129). `num`/`den` is the duty with its carry. -/
def State.pscEdges (s : State) (e : PassEnv) (a : Nat) (c : CellView) (num den : Int) : PassOut :=
  let tc := s.f (F.CS_ACPER.TC a)
  let n := s.armN a
  let i := s.memberIndex c.i
  let two := bipolar c.cls
  let phi : Nat := if two then i * tc / (2 * n) else i * tc / n
  let off : Int := 2 * ((s.origin : Int) + phi)
  let offB : Int := off + tc
  let numA := if two then num else 2 * num - den
  let gates := fun (t : Nat) =>
    let la := legUp numA den tc off t
    let lb := legUp (-num) den tc offB t
    (if la then 1 else 2) + (if two then (if lb then 4 else 8) else 0)
  let ticks := legTicks numA den tc off e.t1 e.p64 ++ (if two then legTicks (-num) den tc offB e.t1 e.p64 else [])
  let times := e.t1 :: sortBy (fun x y => decide (x ≤ y)) ticks
  let m := groupMask c.cls 0
  let entry := fun (g : Nat) => (List.range 32).find? fun j => pValid (s.pat c.cls j) &&
    decide (pGroup (s.pat c.cls j) = 0) && decide (pGates (s.pat c.cls j) = g) &&
    decide (2 ≤ pRole (s.pat c.cls j) ∧ pRole (s.pat c.cls j) ≤ 4)
  times.foldl (fun o t =>
    let g := gates t
    let cur := o.idxOf c
    if pGates (s.pat c.cls cur) &&& m = g then o
    else match entry g with
      | none => o
      | some j =>
        -- The floor of R139 moves the edge; its volt-seconds go to the cell's carry.
        let due := s.floorAt o c t
        let dl := levelOfEntry (s.pat c.cls j) - levelOfEntry (s.pat c.cls cur)
        let lost := e.vs c (((min due (e.t1 + e.p64) : Nat) : Int) - (t : Int)) * dl
        let o1 := if due < e.t1 + e.p64 then o.put c due j else o;
        { o1 with unmet := o1.unmet + lost }) {}

/-- The duty of a cell as a fraction: r / n_act, or r × VLVL / (n_act × u), clamped, plus its carry over P × 64
(04 R129). -/
def State.pscDuty (s : State) (e : PassEnv) (a : Nat) (c : CellView) (r : Int) (nact : Nat) (carry : Int) : Int × Int :=
  let vc := s.fb (F.CS_ACFG.VCOMP a) && decide (0 < c.u)
  let num0 : Int := if vc then r * e.vl else r
  let den0 : Int := if vc then 65536 * nact * c.u else 65536 * nact
  let lo : Int := if bipolar c.cls then -den0 else 0
  let num := clampI lo den0 num0
  (num * e.p64 + carry * den0, den0 * e.p64)

/-! ## Words (03 R81; 11 R350) -/

/-- The pair that an edge samples: 2 × the lowest changing gate + 1 when it rises (11 R350). -/
def State.edgePair (s : State) (cls before after : Nat) : Option Nat :=
  let m := groupMask cls 0
  let x := (pGates (s.pat cls before) ^^^ pGates (s.pat cls after)) &&& m
  match bitsOf 16 x with
  | [] => none
  | g :: _ => some (2 * g + b2n ((pGates (s.pat cls after)).testBit g))

/-- The pairs of a bundle's edges in order. -/
def State.bundlePairs (s : State) (cls : Nat) : Nat → List CsEdge → List (Option Nat)
  | _, [] => []
  | cur, x :: xs => s.edgePair cls cur x.idx :: State.bundlePairs s cls x.idx xs

/-- The BIDX of the edge that carries CAP: the one whose pair is the least sampled, ties to the lower BIDX. -/
def State.capChoice (s : State) (i : Nat) (pairs : List (Option Nat)) : Option Nat :=
  let n := fun (b : Nat) => match (pairs[b]?).getD none with
    | some p => some (tblGet (fun _ => (0 : Nat)) s.msr.pairN (32 * i + p))
    | none => none
  (List.range pairs.length).foldl (fun acc b => match n b, acc with
    | none, a => a
    | some _, none => some b
    | some x, some y => if x < (n y).getD 0 then some b else some y) none

/-- The bundle of a port: EDGE and CONT per edge, in BIDX order (03 R81). -/
def State.bundleItems (s : State) (i cls : Nat) (edges : List CsEdge) (cap : Option Nat) : List (List LinkWord) :=
  let dl := s.boundary (s.tm.k + 1) - s.lEp i - s.f F.LNK_MARGIN.M
  (List.range edges.length).filterMap fun b =>
    (edges[b]?).map fun x =>
      let w := x.idx * 2 ^ 27 + b % 32 * 2 ^ 22 + b2n (decide (b + 1 = edges.length)) * 2 ^ 21 +
        b2n (decide (cap = some b)) * 2 ^ 20 + pGates (s.pat cls x.idx)
      [{ ty := 2, data := wN w, resend := true, deadline := some dl },
       { ty := 4, data := wN x.due, resend := true, deadline := some dl }]

/-- A HOLD word. -/
def State.holdItem (s : State) (i : Nat) : List LinkWord :=
  [{ ty := 2, data := wN (2 ^ 19), resend := true,
     deadline := some (s.boundary (s.tm.k + 1) - s.lEp i - s.f F.LNK_MARGIN.M) }]

/-- The slot from which a pass's words may go: the configured slot, or the first after the pass ends. -/
def State.readySlot (s : State) (cfg endT : Nat) : Nat := max cfg ((endT - s.boundary s.tm.k + 3199) / 3200)

/-- The scheduler state and the link buffer of one cell take the pass's edges (04 R123, R158). -/
def State.emitCell (s : State) (endT : Nat) (frac : Bool) (c : CellView) (o : PassOut) : State :=
  let es := sortBy (fun x y => decide (x.due ≤ y.due)) (o.edges.filter fun x => x.ctx == c.i)
  let idx := o.idxOf c
  let ins := decide (levelOfEntry (s.pat c.cls idx) ≠ 0)
  let t := (((s.setCtxF c.i 0xC0 31 27 idx).setCtxF c.i 0xC0 26 26 (b2n ins)).setCtxF c.i 0xC0 25 25 (b2n frac)).setCtxF
    c.i 0xC0 24 17 (s.memberIndex c.i)
  let t := match es.getLast? with | some x => t.setCtx c.i 0xC4 (wN x.due) | none => t
  let t := t.modCell c.i fun x => { x with
    hasEdge := x.hasEdge || !es.isEmpty, edges := es, startLevel := levelOfEntry (s.pat c.cls c.idx),
    beforeIdx := c.idx, beforeLast := s.ctx c.i 0xC4, beforeHas := x.hasEdge,
    sentBundle := s.portOn c.i && (!es.isEmpty || s.fb (F.LNK_PCFG.EDGEMODE c.i)) }
  let pairs := s.bundlePairs c.cls c.idx es
  let cap := if s.on 11 && s.fb F.MSR_CTRL.TRIMEN then s.capChoice c.i pairs else none
  let t : State := { t with msr := { t.msr with
    capPair := tblSet (fun _ => none) t.msr.capPair c.i (cap.bind fun b => (pairs[b]?).getD none) } }
  let slot := s.readySlot (s.f (F.LNK_PCFG.BSLOT c.i)) endT
  if !t.portOn c.i then t
  else if !es.isEmpty then t.schedAdd c.i slot (s.bundleItems c.i c.cls es cap)
  else if t.fb (F.LNK_PCFG.EDGEMODE c.i) then t.schedAdd c.i slot [s.holdItem c.i]
  else t

/-! ## Inputs (04 R121 to R125, R155, R156; 09 R290) -/

/-- The reference and current sign of an arm block at RCUT: its arm inputs with R122, or its share with R290. -/
def State.armInputs (s : State) (a : Nat) : State × Int × Bool :=
  let v := s.fb (F.CS_AIN.VALID a)
  let neg := if v then s.fb (F.CS_AIN.INEG a) else (s.arm a).ineg
  let s1 := if v then s.setB (F.CS_AIN.VALID a) false
    else (s.setB (F.CS_ASTAT.REFOLD a) true).incF (F.CS_ACNT.REFOLDS a) 1
  if s.armShared a then
    let fresh := decide ((s.arm a).shareK = some s.tm.k)
    let s2 := if fresh then s1 else s1.incF F.RNG_COUNT.SHAREOLD 1
    ((s2.modArm a fun x => { x with ineg := neg }), sg (s.arm a).share, neg)
  else
    let r := if v then s.reg (R.CS_AREF a) else (s.arm a).ref
    ((s1.modArm a fun x => { x with ref := r, ineg := neg }), sg r, neg)

/-- The range of R29 for the ACTIVE cells of the pass, in Q16.16. -/
def armRange (cells : List CellView) : Int × Int :=
  let m := (cells.filter fun c => bipolar c.cls).length
  (-((m * 65536 : Nat) : Int), ((cells.length * 65536 : Nat) : Int))

/-- The staircase's level sum of a set of edges: at every due tick the absolute change of level (04 R134). -/
def State.levelSum (s : State) (cells : List CellView) (es : List CsEdge) : Nat :=
  let dues := (es.map (·.due)).eraseDups
  let lvlAt := fun (c : CellView) (t : Nat) (incl : Bool) =>
    match ((es.filter fun x => x.ctx == c.i && (decide (x.due < t) || (incl && decide (x.due = t))))).getLast? with
    | some x => levelOfEntry (s.pat c.cls x.idx)
    | none => levelOfEntry (s.pat c.cls c.idx)
  dues.foldl (fun n t =>
    n + (cells.foldl (fun d c => d + lvlAt c t true - lvlAt c t false) (0 : Int)).natAbs) 0

/-- The arm's carry bound: the largest t_min among its members' classes (04 R140). -/
def State.carryBound (s : State) (a : Nat) : Nat := ((s.members a).map fun i => s.tMin (s.cClass i)).foldl max 0

/-- The new carry of an MTL pass (04 R140, R141): in ticks along the level sense, bounded, with its age. -/
def State.setCarry (s : State) (a : Nat) (pol : Int) (unmet : Int) (vl : Int) (old : Int) (age : Nat)
    (absorbed full : Bool) : State :=
  let raw := if full then 0 else nearest unmet (65536 * vl).toNat
  let lim : Int := s.carryBound a
  let v := clampI (-lim) lim raw
  let s1 := if v = raw then s else s.incF F.CS_CARRYDROP.DROPS 1
  let ag := if v = 0 then 0 else if absorbed ∨ old = 0 then 1 else min 3 (age + 1)
  (s1.setF (F.CS_ACARRY.CARRY a) (ux 24 (pol * v))).setF (F.CS_ACARRY.AGE a) ag

/-- The window's counts of a pass: T, Λ, the rotations and the credit (04 R134, R135). -/
def State.countPass (s : State) (a t lam band wear : Nat) : State :=
  let c := sg (s.reg (R.CS_ACREDIT a)) + lam - 25 * (band + wear : Nat)
  (s.setReg (R.CS_ACREDIT a) (w32 c)).modArm a fun x => { x with
    tCount := x.tCount + t, lam := x.lam + lam, band := x.band + band, wear := x.wear + wear, passes := x.passes + 1 }

/-- A clamp of the reference is reported (04 R124). -/
def State.clampNote (s : State) (a : Nat) (c : Bool) : State :=
  if c then (s.setB (F.CS_ASTAT.CLAMP a) true).incF (F.CS_ACNT.CLAMPS a) 1 else s

/-- The PSC carry of context i, signed ticks at VLVL (04 R140). -/
def State.pscCarry (s : State) (i : Nat) : Int := sx 24 (s.ctxF i 0xC8 23 0)

/-- The new PSC carry of a cell: bounded to ±t_min, with its age (04 R140, R141). -/
def State.setPscCarry (s : State) (c : CellView) (unmet vl old : Int) : State :=
  let raw := nearest unmet (65536 * vl).toNat
  let lim : Int := s.tMin c.cls
  let v := clampI (-lim) lim raw
  let s1 := if v = raw then s else s.incF F.CS_CARRYDROP.DROPS 1
  let age := if v = 0 then 0 else if old = 0 then 1 else min 3 (s.ctxF c.i 0xC8 25 24 + 1)
  (s1.setCtxF c.i 0xC8 23 0 (ux 24 v)).setCtxF c.i 0xC8 25 24 age

/-- The arm pass of one arm block (04 R121 to R145). -/
def State.armPassOne (s : State) (endT a : Nat) : State :=
  let inp := s.armInputs a
  let s0 := inp.1
  let cells := ((s.members a).filter s.activeNext).map s.view
  let rg := armRange cells
  let r := clampI rg.1 rg.2 inp.2.1
  let s1 := s0.clampNote a (decide (r ≠ inp.2.1))
  let neg := if r = 0 then (s.arm a).neg else decide (r < 0)
  let s2 := s1.modArm a fun x => { x with neg := neg }
  let pol : Int := if neg then -1 else 1
  let e : PassEnv := {
    t1 := s.boundary (s.tm.k + 1), p64 := s.periodTicks, vl := (s.f (F.CS_ALVL.VLVL a) * 100 : Nat),
    tiev := (s.f (F.CS_ACFG.TIEV a) * 1000 : Nat), vcomp := s.fb (F.CS_ACFG.VCOMP a), pol := pol,
    charge := neg == inp.2.2 }
  let elig := cells.filter fun c => (s.insertEntry c.cls pol).isSome
  let standing := elig.filter fun c => decide (levelOfEntry (s.pat c.cls c.idx) = pol)
  match s.f (F.CS_ACFG.MODE a) with
  | 1 =>
    let nact := if s.armShared a then
        max 1 (cells.length + s.remoteActive a) else max 1 cells.length
    cells.foldl (fun t c =>
      let old := s.pscCarry c.i
      let drop := decide (3 ≤ s.ctxF c.i 0xC8 25 24) && decide (old ≠ 0)
      let t1 := if drop then (t.setCtx c.i 0xC8 0).incF F.CS_CARRYDROP.DROPS 1 else t
      let du := s.pscDuty e a c r nact (if drop then 0 else old)
      let o := s.pscEdges e a c du.1 du.2
      ((t1.setPscCarry c o.unmet e.vl (if drop then 0 else old)).emitCell endT false c o).countPass a o.edges.length
        (s.levelSum [c] o.edges) 0 0) s2
  | 2 =>
    let o := s.moves e cells (e.nlmSet r.natAbs elig standing) {}
    let t := cells.foldl (fun t c => t.emitCell endT false c o) s2
    (t.countPass a o.edges.length (s.levelSum cells o.edges) 0 0).setReg (R.CS_ACARRY a) 0
  | 3 =>
    let age := s.f (F.CS_ACARRY.AGE a)
    let raw := sx 24 (s.f (F.CS_ACARRY.CARRY a))
    let drop := decide (3 ≤ age) && decide (raw ≠ 0)
    let old : Int := if drop then 0 else raw
    let s3 := if drop then s2.incF F.CS_CARRYDROP.DROPS 1 else s2
    let m := s.mtlPass e a r.natAbs (pol * old) cells elig standing
    let t := cells.foldl (fun t c => t.emitCell endT (decide (m.frac = some c.i)) c m.o) s3
    let u := t.setCarry a pol m.o.unmet e.vl old (if drop then 0 else age) m.absorbed m.full
    let v := if m.full && decide (r = inp.2.1) then u.clampNote a true else u
    v.countPass a m.o.edges.length (s.levelSum cells m.o.edges) m.band m.wear
  | _ => s2

/-! ## Shares (04 R155; 09 R289, R291) -/

/-- The levels of R155 given one by one among participants with ACTIVE counts: m × a_j / A − c_j is maximal. -/
def splitLevels (acts : List Nat) : Nat → List Nat
  | 0 => acts.map fun _ => 0
  | n + 1 =>
    let c := splitLevels acts n
    let tot := acts.foldl (· + ·) 0
    let m := n + 1
    let val := fun (j : Nat) => ((m * acts.getD j 0 : Nat) : Int) - ((c.getD j 0 * tot : Nat) : Int)
    let best := (List.range acts.length).foldl (fun b j => if val b < val j then j else b) 0
    c.set best (c.getD best 0 + 1)

/-- The participant that the next level, m + 1, would go to. -/
def nextLevel (acts : List Nat) (m : Nat) : Nat :=
  let c := splitLevels acts m
  let tot := acts.foldl (· + ·) 0
  let val := fun (j : Nat) => (((m + 1) * acts.getD j 0 : Nat) : Int) - ((c.getD j 0 * tot : Nat) : Int)
  (List.range acts.length).foldl (fun b j => if val b < val j then j else b) 0

/-- The shares in NLM and MTL, Q16.16 (04 R155). -/
def splitShares (acts : List Nat) (r : Int) : List Int :=
  let tot := acts.foldl (· + ·) 0
  if tot = 0 then acts.map fun _ => 0
  else
    let m := r.natAbs / 65536
    let fr := r.natAbs % 65536
    let c := splitLevels acts m
    let x := nextLevel acts m
    let sgn : Int := if r < 0 then -1 else 1
    (List.range acts.length).map fun j =>
      sgn * ((c.getD j 0 * 65536 + (if j = x then fr else 0) : Nat) : Int)

/-! ## Commands -/

/-- The CS runs its passes; a chip in a role conflict sends no edge commands (01, Two chips claim MASTER). -/
def State.csOn (s : State) : Bool := s.live && s.on 6 && s.fb F.CS_CTRL.EN && s.timeValid && !s.fb F.RNG_STATUS.CONFLICT

/-- ARM_PASS: at T_k + RCUT × 3,200 ticks every enabled arm block's pass runs, once per period (04 R119). -/
def State.armPass (s : State) : State :=
  if s.csOn && !s.cs.armDone then
    let t := s.advanceTo (s.boundary s.tm.k + s.f F.CS_TIMING.RCUT * 3200)
    let endT := t.boundary t.tm.k + s.f F.CS_TIMING.RCUT * 3200 + t.tArm * 64
    let u := ((List.range 16).filter t.armRuns).foldl (fun x a => x.armPassOne endT a) t
    let v := (u.setB F.CS_STATUS.APASS true).setF F.CS_STATUS.PASSCYC (min 65535 t.tArm);
    { v with cs := { v.cs with armDone := true, armEnd := some endT } }
  else s

/-- The DAB stage groups of an HD cell in the cadence pass (04 R146 to R148): the primary once, and the secondary to
move its phase by at most STEPMAX. The Nat counts the commands formed. -/
def State.cadenceCell (s : State) (endT i : Nat) : State × Nat :=
  let a := s.blockOf i
  let h := s.f (F.CS_ADAB.HALF a)
  if h = 0 ∨ s.cClass i ≠ 2 then (s, 0)
  else
    let t1 := s.boundary (s.tm.k + 1)
    let c := s.cell i
    let stag := (s.memberIndex i * s.f (F.CS_ADAB.STAG a) * 2 * h / 256) % (2 * h)
    let want : Int := sx 24 (s.f (F.CS_AIN.DABPH a)) + sx 16 (s.f (F.CS_TRIM.TRIM i))
    let dl := fun (st : Nat) => min st t1 - s.lEp i - s.f F.LNK_MARGIN.M
    let item := fun (g idA idB half ph st : Nat) =>
      let d := some (dl st);
      [({ ty := 3, data := wN (g * 2 ^ 29 + idA * 2 ^ 5 + idB), resend := true, deadline := d } : LinkWord),
       { ty := 4, data := wN half, resend := true, deadline := d },
       { ty := 4, data := wN ph, resend := true, deadline := d },
       { ty := 4, data := wN st, resend := true, deadline := d }]
    let slot := s.readySlot (s.f (F.LNK_PCFG.CSLOT i)) endT
    -- The phase at T_k+1 of a grid with A edges at origin + phi + 2 m H.
    let phase := fun (phi : Int) => (((s.origin : Int) + phi - (t1 : Int)) % (2 * (h : Int))).toNat
    if !c.primSent then
      let d0 := want
      let u := s.schedAdd i slot [item 1 6 7 h (phase stag) t1, item 2 8 9 h (phase ((stag : Int) + d0)) t1]
      (((u.setCtx i 0xD8 (w32 d0)).modCell i fun x => { x with primSent := true, secStart := some t1 }), 2)
    else
      let old := sg (s.ctx i 0xD8)
      let lim : Int := s.f (F.CS_ACPER.STEPMAX a)
      let dd := clampI (-lim) lim (want - old)
      let ready := match c.secStart with | none => true | some x => decide (x < t1)
      if dd = 0 ∨ ready = false then (s, 0)
      else
        -- The first B edge of the running secondary cadence at or after T_k+1.
        let b := t1 + phase ((stag : Int) + old + h)
        let u := s.schedAdd i slot [item 2 8 9 h ((h : Int) + dd - 1).toNat (b + 1)]
        (((u.setCtx i 0xD8 (w32 (old + dd))).modCell i fun x => { x with secStart := some (b + 1) }), 1)

/-- The cells the cadence pass serves: HD members that are ACTIVE or BYPASSED. -/
def State.cadenceCells (s : State) : List Nat :=
  ctxIdx.filter fun i => s.cInArm i && decide (s.cClass i = 2) && decide (s.cst i = cActive ∨ s.cst i = cBypassed) &&
    s.portOn i

/-- CADENCE_PASS: at T_k + TCUT × 3,200 ticks, 16 + 2 c cycles (04 R119). -/
def State.cadencePass (s : State) : State :=
  if s.csOn && !s.cs.cadDone then
    let t := s.advanceTo (s.boundary s.tm.k + s.f F.CS_TIMING.TCUT * 3200)
    let start := t.boundary t.tm.k + s.f F.CS_TIMING.TCUT * 3200
    let count := t.cadenceCells.foldl (fun n i => n + (t.cadenceCell start i).2) 0
    let endT := start + (16 + 2 * count) * 64
    let u := t.cadenceCells.foldl (fun x i => (x.cadenceCell endT i).1) t
    let v := u.setB F.CS_STATUS.CPASS true;
    { v with cs := { v.cs with cadDone := true, cadEnd := some endT } }
  else s

/-- A pass ended after a slot that it feeds (CS_STATUS.LATE). -/
def State.passLate (s : State) (endT : Nat) (slot : Nat → Nat) : Bool :=
  (ctxIdx.filter fun i => s.portOn i && s.cInArm i && s.drives i).any fun i =>
    decide (s.boundary s.tm.k + slot i * 3200 < endT)

/-- The arm pass ends: its words stand in the link buffers, or LATE is set (04 R119, R123). -/
def State.endArm (s : State) (endT : Nat) : State :=
  let t := s.advanceTo endT
  let u := (t.setB F.CS_STATUS.APASS false).when (t.passLate endT fun i => t.f (F.LNK_PCFG.BSLOT i))
    fun x => x.setB F.CS_STATUS.LATE true;
  { u with cs := { u.cs with armEnd := none } }

/-- PASS_END: the running pass that ends first completes; its words stand in the link buffers, or LATE is set
(04 R119, R123). -/
def State.passEnd (s : State) : State :=
  if !(s.live && s.on 6) then s
  else
    match s.cs.cadEnd, s.cs.armEnd with
    | some c, arm =>
      if (match arm with | some x => decide (x < c) | none => false) then s.endArm (arm.getD 0)
      else
        let t := s.advanceTo c
        let u := (t.setB F.CS_STATUS.CPASS false).when
          (t.cadenceCells.any fun i => decide (t.boundary t.tm.k + t.f (F.LNK_PCFG.CSLOT i) * 3200 < c))
          fun x => x.setB F.CS_STATUS.LATE true;
        { u with cs := { u.cs with cadEnd := none } }
    | none, some x => s.endArm x
    | none, none => s

/-- FOM_WINDOW_END of arm block a (04 R134, R135): at a line-cycle start that the CE signals, or after 1,000 passes with
FOMFIX. -/
def State.fomWindowEnd (s : State) (a : Nat) : State :=
  let x := s.arm a
  let due := if s.fb (F.CS_ACFG.FOMFIX a) then decide (1000 ≤ x.passes) else s.ce.lineStart.testBit a
  if s.live && s.on 6 && due then
    let t := (s.setReg (R.CS_AFOMT a) (wN x.tCount)).setReg (R.CS_AFOML a) (wN x.lam)
    let t := (t.setF (F.CS_AROT.BANDROT a) x.band).setF (F.CS_AROT.WEARROT a) x.wear
    let t := t.when (decide (108 * x.lam < 100 * x.tCount)) fun y => y.setB (F.CS_ASTAT.FOMX a) true
    let t := (t.setReg (R.CS_ACREDIT a) 0).modArm a fun y => { y with tCount := 0, lam := 0, passes := 0, band := 0, wear := 0 };
    { t with ce := { t.ce with lineStart := putBit t.ce.lineStart a false } }
  else s

end Sys2Proof.Machine
end

