-- ==== Sys2Proof/Machine/Ring.lean ====
section
/-! DEFINITION. The Marur ring (09): frames and slots, replay, breaks and plans, hop delays and beacons, the reference
broadcast, escrow records, joining and roles, loss and takeover, handover and handback. What a MGMT or BULK frame of the
Ring Port itself carries has no encoding in the text: such a message is a notice of its contents (log 30). -/

namespace Sys2Proof.Machine

/-! ## Ports and frames (R273 to R279) -/

/-- The Ring Port runs. -/
def State.rngOn (s : State) : Bool := s.live && s.on 9 && s.fb F.RNG_CTRL.EN

/-- Ring port A (false) or B (true). -/
def State.rp (s : State) (b : Bool) : RingPort := if b then s.ring.pb else s.ring.pa

def State.modRp (s : State) (b : Bool) (h : RingPort → RingPort) : State :=
  if b then { s with ring := { s.ring with pb := h s.ring.pb } }
  else { s with ring := { s.ring with pa := h s.ring.pa } }

/-- PASTATE or PBSTATE. -/
def rpField (b : Bool) : Field := if b then F.RNG_STATUS.PBSTATE else F.RNG_STATUS.PASTATE

/-- The port's enable. -/
def State.rpEn (s : State) (b : Bool) : Bool := s.rngOn && s.fb (if b then F.RNG_CTRL.PBEN else F.RNG_CTRL.PAEN)

/-- The receive port is UP. -/
def State.rpUp (s : State) (b : Bool) : Bool := s.rngOn && decide (s.f (rpField b) = 2)

/-- Word n of a frame. -/
def fWord (f : List Word) (n : Nat) : Word := (f[n]?).getD 0

/-- The header's fields (R277). -/
def fClass (f : List Word) : Nat := fld (fWord f 0) 31 28
def fSrc (f : List Word) : Nat := fld (fWord f 0) 27 22
def fDst (f : List Word) : Nat := fld (fWord f 0) 21 16
def fBc (f : List Word) : Bool := bitAt (fWord f 0) 15
def fMrole (f : List Word) : Bool := bitAt (fWord f 0) 13
def fEpoch (f : List Word) : Nat := fld (fWord f 1) 31 16
def fSeq (f : List Word) : Nat := fld (fWord f 1) 15 0
def fK (f : List Word) : Word := fWord f 2

/-- The chip's position and the chips of the stack. -/
def State.pos (s : State) : Nat := s.f F.RNG_STATUS.POS
def State.nchip (s : State) : Nat := max 1 (s.f F.RNG_TOPO.NCHIP)

/-- RNG_STATUS.JOINED. -/
def State.rngJoined (s : State) : Bool := s.fb F.RNG_STATUS.JOINED

/-- A ring event enters its queue: [61:56] position, [55:48] KIND, [31:0] data (09, RNG registers). -/
def State.ringEvent (s : State) (q pos kind data : Nat) : State :=
  s.hwPush q (BitVec.ofNat 64 (pos % 64 * 2 ^ 56 + kind * 2 ^ 48 + data % 2 ^ 32))

/-- A new frame of 16 words with the next FSEQ of its class; DIR is set as it is sent. -/
def State.mkFrame (s : State) (cls dst : Nat) (bc : Bool) (w3 : Word) (body : List Word) : State × List Word :=
  let q := (tblGet (fun _ => (0 : Nat)) s.ring.fseq cls + 1) % 65536
  let w0 := cls * 2 ^ 28 + s.pos * 2 ^ 22 + dst % 64 * 2 ^ 16 + b2n bc * 2 ^ 15 + b2n s.isMaster * 2 ^ 13 +
    s.f F.RNG_GEN.STACK
  let f := [wN w0, wN (s.f F.RNG_EPOCH.EPOCH * 65536 + q), wN s.tm.k, w3] ++
    ((List.range 12).map fun n => (body[n]?).getD 0);
  ({ s with ring := { s.ring with fseq := tblSet (fun _ => (0 : Nat)) s.ring.fseq cls q } }, f)

/-- A message waits for a slot on the ports named. -/
def State.ringPush (s : State) (m : RingMsg) (a b : Bool) : State :=
  { s with ring := { s.ring with outQ := s.ring.outQ ++ [{ msg := m, a := a, b := b }] } }

/-- A unicast frame to position d travels DOWN, out of port B (R282): fewer hops, ties DOWN; under the plan for a break
after u, the way that does not cross that hop. -/
def State.goesDown (s : State) (d : Nat) : Bool :=
  let n := s.nchip
  let down := (d + n - s.pos % n) % n
  if s.fb F.RNG_TOPO.BRKV then
    decide (down ≤ (s.f F.RNG_TOPO.BRKPOS + n - s.pos % n) % n)
  else decide (down ≤ n - down)

/-- The hops to position d the way its frames go. -/
def State.hopsTo (s : State) (d : Nat) : Nat :=
  let n := s.nchip
  let down := (d + n - s.pos % n) % n
  if s.goesDown d then down else n - down

/-- A message to one position, the way R282 gives. -/
def State.ringSend (s : State) (dst : Nat) (m : RingMsg) : State :=
  let d := s.goesDown dst
  s.ringPush m (!d) d

/-- A notice in both directions. -/
def State.noticeBc (s : State) (kind : Nat) (args : List Nat) : State := s.ringPush (.notice kind args) true true

/-- A notice to the buddy. -/
def State.noticeBuddy (s : State) (kind : Nat) (args : List Nat) : State :=
  s.ringSend (s.f F.RNG_TOPO.BUDDYPOS) (.notice kind args)

/-- A buddy exists and has not been declared lost. -/
def State.buddyHere (s : State) : Bool :=
  s.rngJoined && s.fb F.RNG_TOPO.BUDDYV && !s.fb F.RNG_STATUS.BUDDYLOST

/-- The buddy is present and the chip not unprotected (01 R42, R45; 02 R63). -/
def State.protected (s : State) : Bool := s.buddyHere && !s.fb F.RNG_STATUS.NOBUDDY

/-- JOINED, in the ring's and the stack time unit's status. -/
def State.setJoined (s : State) (j : Bool) : State :=
  (s.setB F.RNG_STATUS.JOINED j).setB F.STM_STATUS.JOINED j

/-- A change of ROLE enters Q14; the source of the time base follows it (02 R53). -/
def State.setRole (s : State) (r : Nat) : State :=
  let t := s.setF F.RNG_STATUS.ROLE r
  let u := if t.timeValid then t.setSrc t.srcNow else t
  if s.f F.RNG_STATUS.ROLE = r then u else u.ringEvent 14 u.pos 5 r

/-! ## Hearing a frame (R279, R301, R302) -/

/-- A chip that receives a frame: a frame of its own coming round is removed, though a second master at the same
position shows by a BEACON this chip never sent (R39, R279); the sender is present; the highest EPOCH of a master frame
is kept; a master that meets a higher one yields at the next boundary, and one that meets its own EPOCH reports the
conflict. The Bool says whether the frame is taken: a duplicate by SRC, CLASS and FSEQ is not. -/
def State.hear (s : State) (f : List Word) : State × Bool :=
  let own := s.rngJoined && decide (fSrc f = s.pos)
  let t0 := s.boundary (fK f).toNat
  let foreign := decide (fClass f = 1) && decide ((fWord f 4).toNat + (fWord f 5).toNat * 2 ^ 32 ≠ t0)
  if !s.rngOn then (s, false)
  else if own && !(foreign && s.isMaster) then (s, false)
  else
    let claim := fMrole f && s.isMaster && s.rngJoined && decide (fEpoch f = s.f F.RNG_EPOCH.EPOCH)
    let s1 := if claim && !s.fb F.RNG_STATUS.CONFLICT then
        (s.setB F.RNG_STATUS.CONFLICT true).note 10 1 0 else s
    if own then (s1, false)
    else
      let s2 : State := { s1 with ring := { s1.ring with
        heard := if s1.ring.heard.contains (fSrc f) then s1.ring.heard else s1.ring.heard ++ [fSrc f] } }
      let up := fMrole f && decide (s.f F.RNG_EPOCH.EPOCH < fEpoch f)
      let s3 : State := if up then
          (if s2.isMaster then { s2 with ring := { s2.ring with yieldDue := some (fEpoch f) } }
           else (s2.setF F.RNG_EPOCH.EPOCH (fEpoch f)).setF F.RNG_TOPO.MASTERPOS (fSrc f))
        else s2
      -- The standby master learns of a swap from its buddy's frames, which give up MROLE under the new EPOCH (log 31).
      let swap := !fMrole f && decide (s.f F.RNG_STATUS.ROLE = 2) && decide (s.f F.RNG_EPOCH.EPOCH < fEpoch f) &&
        decide (fSrc f = s.f F.RNG_TOPO.MASTERPOS)
      let s4 := if swap then
          ((s3.setRole 1).setF F.RNG_EPOCH.EPOCH (fEpoch f)).setF F.RNG_TOPO.MASTERPOS s.pos
        else s3
      let key := (fSrc f, fClass f, fSeq f, (fK f).toNat)
      if s4.ring.seen.contains key then (s4, false)
      else ({ s4 with ring := { s4.ring with seen := s4.ring.seen ++ [key] } }, true)

/-- The frame is for this chip: broadcast, or its own position (R279). -/
def State.forMe (s : State) (f : List Word) : Bool := fBc f || decide (fDst f = s.pos)

/-- A master's frame under the EPOCH in force (R301). -/
def State.fromMaster (s : State) (f : List Word) : Bool := fMrole f && decide (fEpoch f = s.f F.RNG_EPOCH.EPOCH)

/-! ## Splitting the shared references (04 R155; 09 R291, R498) -/

/-- The parts of a stack arm that have been reported: position, part (ESC × 8 + arm), and ACTIVE cells. -/
def State.armParts (s : State) (san : Nat) : List (Nat × Nat × Nat) :=
  (s.cs.counts.filter fun x => x.1 / 1024 == san).map fun x => (x.1 / 16 % 64, x.1 % 16, x.2 - 1)

/-- N_j of a part in the set-up's ring record: an escrow image counts as its owner's, the buddy of the chip that runs it
(log 27). -/
def State.partN (s : State) (san pos part : Nat) : Nat :=
  (tblGet (fun _ => (0 : Word)) s.adm.arms
    (0x10000 + san * 64 + (if 8 ≤ part then (if pos % 2 = 0 then pos + 1 else pos - 1) else pos))).toNat

/-- Position p was heard in the period before, or is this chip. -/
def State.wasHeard (s : State) (p : Nat) : Bool := decide (p = s.pos) || bitAt (s.reg (R.RNG_PRES (p / 32))) (p % 32)

/-- The block of this chip that carries a stack arm, if it has one. -/
def State.blockOfSan (s : State) (san : Nat) : Option Nat :=
  (List.range 16).find? fun a => s.armShared a && decide (fld (s.armWord a) 8 0 = san)

/-- The shares of one shared-arm reference (R155), with the shares of silent participants held (R291): key and share. A
stack arm of which this chip runs no part is split as in NLM and MTL. -/
def State.sharesOf (s : State) (san : Nat) (r : Int) : List (Nat × Int) :=
  let parts := s.armParts san
  let last := fun (p : Nat × Nat × Nat) => sg (tblGet (fun _ => (0 : Word)) s.ring.lastShare (countKey san p.1 p.2.1))
  let held := parts.filter fun p => !s.wasHeard p.1
  let live := parts.filter fun p => s.wasHeard p.1
  let r1 := r - (held.map last).foldl (· + ·) 0
  let psc := match s.blockOfSan san with | some a => decide (s.f (F.CS_ACFG.MODE a) = 1) | none => false
  let tot := (live.map fun p => p.2.2).foldl (· + ·) 0
  let vals := if psc then
      let n := (live.map fun p => s.partN san p.1 p.2.1).foldl (· + ·) 0
      live.map fun p => if tot = 0 ∨ n = 0 then 0 else meanI (r1 * (s.partN san p.1 p.2.1 : Nat)) n
    else splitShares (live.map fun p => p.2.2) r1
  (held.map fun p => (countKey san p.1 p.2.1, last p)) ++
    ((List.range live.length).filterMap fun j => (live[j]?).map fun p =>
      let lim : Int := (p.2.2 * 65536 : Nat)
      (countKey san p.1 p.2.1, if held.isEmpty then (vals[j]?).getD 0 else clampI (-lim) lim ((vals[j]?).getD 0)))

/-- SHARE_SPLIT (R155, R300): at its RCUT the master, and the standby master with its broadcast suppressed, splits every
reference; the master's own parts take their shares. -/
def State.shareSplit (s : State) : State :=
  if s.rngOn && s.rngJoined && (s.isMaster || decide (s.f F.RNG_STATUS.ROLE = 2)) then
    s.forAll ((List.range 64).filter fun m => s.fb (F.CS_SACFG.EN m)) fun t m =>
      let san := s.f (F.CS_SACFG.SAN m)
      t.forAll (s.sharesOf san (sg (s.reg (R.CS_SAREF m)))) fun u x =>
        let v : State := { u with ring := { u.ring with
          lastShare := tblSet (fun _ => (0 : Word)) u.ring.lastShare x.1
            (w32 (if x.1 / 16 % 64 = s.pos then x.2 else 2 * nearest x.2 2)) } }
        if s.isMaster && decide (x.1 / 16 % 64 = s.pos) then
          v.modArm (x.1 % 16) fun y => { y with share := w32 x.2, shareK := some s.tm.k }
        else v
  else s

/-! ## The frames a chip sends in each period (R278, R287 to R295, R498) -/

/-- The payload of the BEACON (R288). -/
def State.beaconBody (s : State) : List Word :=
  let t := s.boundary s.tm.k
  let g := s.ring.genAt
  [wN (t % 2 ^ 32), wN (t / 2 ^ 32), 0, wN (s.f F.STM_PERIOD.P), s.reg R.STM_ORIGINLO, s.reg R.STM_ORIGINHI,
   wN ((match g with | some x => x.2 % 256 | none => 0) * 256 + s.f F.RNG_GEN.STACK),
   wN (match g with | some x => x.1 | none => 0),
   wN (b2n (s.fb F.RNG_TOPO.BRKV) * 2 ^ 31 + s.f F.RNG_TOPO.BRKPOS * 2 ^ 24),
   wN (match s.ring.healthyAt with | some k => k | none => 0), 0, 0]

/-- The HOP frame of a port (R287). -/
def State.queueHop (s : State) (b : Bool) : State :=
  if s.rpEn b then
    let p := s.rp b
    let rx := p.rxLast.getD (0, 0)
    let r := s.mkFrame 7 0 false 0 [p.txLast, rx.1, wN rx.2]
    r.1.ringPush (.frame r.2) (!b) b
  else s

/-- The ARMCNT frames: the ACTIVE count, at T_k, of every part of a shared arm that this chip drives (R498). -/
def State.queueArmcnt (s : State) : State :=
  let own := (List.range 16).filter fun a => s.armShared a && (s.members a).any s.drives
  let ent := own.map fun a =>
    wN (fld (s.armWord a) 8 0 * 2 ^ 23 + a / 8 * 2 ^ 22 + a % 8 * 2 ^ 19 +
      ((s.members a).filter fun i => decide (s.cst i = cActive)).length * 2 ^ 13)
  let n := (ent.length + 11) / 12
  s.forAll (List.range n) fun t j =>
    let r := t.mkFrame 5 0 true (wN (0x20000000 + j * 2 ^ 16 + n * 2 ^ 8)) ((ent.drop (12 * j)).take 12)
    r.1.ringPush (.frame r.2) true true

/-- The offsets of the round of R294. -/
def roundOff (n : Nat) : Nat := if n % 336 < 80 then 0xC0 + 4 * (n % 336) else 0x400 + 4 * (n % 336 - 80)

/-- The drip word of a context in this period, and the state after it is taken (R294). -/
def State.dripTake (s : State) (i : Nat) : State × Nat :=
  let k := s.tm.k
  if k % 32 = 0 then (s, 0xE0)
  else if k % 32 = 1 then (s, 0xE4)
  else
    match (if k % 4 = 3 then none else s.ring.dirty.find? fun d => d.1 == i) with
    | some d => ({ s with ring := { s.ring with dirty := s.ring.dirty.erase d } }, d.2.1)
    | none =>
      let n := tblGet (fun _ => (0 : Nat)) s.ring.drip i;
      ({ s with ring := { s.ring with drip := tblSet (fun _ => (0 : Nat)) s.ring.drip i ((n + 1) % 336) } }, roundOff n)

/-- The record of context i (R293). -/
def State.escRecord (s : State) (i off : Nat) : List Word :=
  let w := s.ctx i 0
  let cad := if (s.cell i).primSent then 3 else 0
  [wN (s.cst i * 2 ^ 29 + b2n (bitAt w 8) * 2 ^ 28 + b2n (bitAt w 7) * 2 ^ 27 + s.ctxF i 0xC0 31 27 * 2 ^ 22 +
      s.ctxF i 0xC0 26 26 * 2 ^ 21 + cad * 2 ^ 17 + off / 4 * 2 ^ 8 + s.tm.k % 256),
   s.ctx i 0xC4,
   wN (b2n (s.cell i).offerK.isSome * 2 ^ 31 + b2n (s.ring.dirty.any fun d => d.1 == i) * 2 ^ 30 + s.ctxF i 0xD8 23 0),
   s.ctx i off]

/-- The contexts with a record this period on one side (R292). -/
def State.escContexts (s : State) (esc : Bool) : List Nat :=
  ctxIdx.filter fun i => (decide (64 ≤ i) == esc) &&
    ((s.drives i) || (!esc && decide (s.cst i = cDiscovered)) || s.ring.absentSent.contains i)

/-- The ESCROW frames of one side, 3 records each (R295). -/
def State.queueEscSide (s : State) (esc : Bool) : State :=
  let l := s.escContexts esc
  s.forAll (List.range ((l.length + 2) / 3)) fun t j =>
    let trio := (l.drop (3 * j)).take 3
    let r := trio.foldl (fun (acc : State × List Word) i =>
      let d := acc.1.dripTake i
      (d.1, acc.2 ++ d.1.escRecord i d.2)) (t, [])
    let nn := fun (m : Nat) => (trio[m]?).getD 0 % 64
    let g := r.1.mkFrame 3 (t.f F.RNG_TOPO.BUDDYPOS) false
      (wN (nn 0 * 2 ^ 26 + nn 1 * 2 ^ 20 + nn 2 * 2 ^ 14 + b2n esc * 2 ^ 13)) r.2
    g.1.ringSend (t.f F.RNG_TOPO.BUDDYPOS) (.frame g.2)

/-- The escrow frames of the period, once its arm pass has ended (R295). -/
def State.queueEscrow (s : State) : State :=
  if s.on 6 && s.rngJoined && s.fb F.RNG_TOPO.BUDDYV && !s.fb F.RNG_STATUS.OBSERVER then
    let t := (s.queueEscSide false).queueEscSide true;
    { t with ring := { t.ring with absentSent := [] } }
  else s

/-- The share entries of the broadcast that leave one way, farthest first (R289). -/
def State.shareEntries (s : State) (down : Bool) : List Word :=
  let keys := ((List.range 64).filter fun m => s.fb (F.CS_SACFG.EN m)).flatMap fun m =>
    (s.armParts (s.f (F.CS_SACFG.SAN m))).map fun p => countKey (s.f (F.CS_SACFG.SAN m)) p.1 p.2.1
  let mine := keys.filter fun x => decide (x / 16 % 64 ≠ s.pos) && (s.goesDown (x / 16 % 64) == down)
  let sorted := sortBy (fun x y => decide (s.hopsTo (y / 16 % 64) ≤ s.hopsTo (x / 16 % 64))) mine
  sorted.map fun x =>
    let v := sg (tblGet (fun _ => (0 : Word)) s.ring.lastShare x)
    wN (x / 16 % 64 * 2 ^ 26 + x % 16 * 2 ^ 22 + ux 22 (v / 2))

/-- The REFB parts of one direction: the share entries that leave that way, then the firmware words (R289). -/
def State.queueRefbWay (s : State) (down : Bool) : State :=
  let fw := s.words (s.reg R.RNG_BCBASE).toNat (min 256 (s.f F.RNG_BCCFG.VALUE))
  let ent := s.shareEntries down ++ fw
  let n := (ent.length + 11) / 12
  s.forAll (List.range n) fun t j =>
    let r := t.mkFrame 2 0 true (wN (n * 2 ^ 8 + j)) ((ent.drop (12 * j)).take 12)
    r.1.ringPush (.frame r.2) (!down) down

/-- The own frames that fall due by slot j: HOP, BEACON and ARMCNT at slot 0, the broadcast after the master's RCUT
(07 R247), and the escrow frames. -/
def State.queueOwn (s : State) (j : Nat) : State :=
  let s1 := if j = 0 then
      let b := if s.isMaster && s.rngJoined && !s.fb F.RNG_STATUS.CONFLICT then
          let r := s.mkFrame 1 0 true 0 s.beaconBody;
          ({ r.1 with ring := { r.1.ring with outQ := { msg := .frame r.2, a := true, b := true } :: r.1.ring.outQ } } : State)
        else s
      let h := (b.queueHop false).queueHop true
      if h.on 6 && h.rngJoined then h.queueArmcnt else h
    else s
  let n := ((List.range 64).filter fun m => s.fb (F.CS_SACFG.EN m)).length
  let rdy := s1.boundary s1.tm.k + s1.f F.CS_TIMING.RCUT * 3200 + (16 + 4 * n) * 64
  let s2 := if s1.isMaster && s1.rngJoined && s1.on 6 && s1.csOn && !s1.ring.refbSent && s1.cs.armDone &&
        decide (rdy ≤ s1.now) then
      let t := (s1.queueRefbWay true).queueRefbWay false;
      ({ t with ring := { t.ring with refbSent := true } } : State)
    else s1
  let ended := if s2.csOn then s2.cs.armDone && s2.cs.armEnd.isNone else decide (1 ≤ j)
  if !s2.ring.escSent && ended then
    let t := s2.queueEscrow;
    { t with ring := { t.ring with escSent := true } }
  else s2

/-! ## A slot (R279, R280, R284, R285) -/

/-- A frame class that the ring knows (R278). -/
def classOk (f : List Word) : Bool := decide (1 ≤ fClass f ∧ fClass f ≤ 7)

/-- The arrival of a frame at a port as the slot sees it: a class that does not exist is discarded and counted (R278). -/
def State.arriveAt (s : State) (b : Bool) (f : Option (List Word)) : State :=
  match f with
  | some w => if s.rpUp b && !classOk w then s.incF (if b then F.RNG_ERRB.BADWORDS else F.RNG_ERRA.BADWORDS) 1 else s
  | none => s

/-- What of a frame that arrived on port b goes on out of the other port (R279); a beacon gathers the inbound hop delay
and 10 cycles in ACC (R288). A frame poisoned on arrival goes on poisoned (R284). -/
def State.onward (s : State) (b : Bool) (f : Option (List Word)) : Option RingMsg :=
  match f with
  | none => none
  | some w =>
    let own := s.rngJoined && decide (fSrc w = s.pos)
    if !s.rpUp b || !classOk w || own || decide (fClass w = 7) then none
    else if !fBc w && s.rngJoined && decide (fDst w = s.pos) then none
    else if (s.rp b).poison then some (.notice 15 [])
    else if fClass w = 1 then
      let hop := s.f (if b then F.RNG_HOPB.DELAY else F.RNG_HOPA.DELAY)
      some (.frame (w.set 6 (fWord w 6 + wN (hop + 10240))))
    else some (.frame w)

/-- DIR of a frame leaving port b (R277). -/
def withDir (m : RingMsg) (b : Bool) : RingMsg :=
  match m with
  | .frame w => .frame (w.set 0 (setFld (fWord w 0) 14 14 (b2n (!b))))
  | .notice k l => .notice k l

/-- Port b sends a message in this slot; it stays for a resend among the last 4 (R285). -/
def State.sendOn (s : State) (b : Bool) (m : RingMsg) (resent : Bool) : State :=
  s.modRp b fun p =>
    let kept := p.kept ++ [(m, resent)]
    let q : RingPort := { p with out := some m, kept := kept.drop (kept.length - 4) }
    match m with
    | .frame w =>
      if fClass w = 7 then
        let c := s.tm.count.extractLsb' 0 32
        let l := q.txHop ++ [(fSeq w, c)];
        { q with txLast := c, txHop := l.drop (l.length - 4) }
      else q
    | .notice _ _ => q

/-- The first own message that waits for port b leaves it. -/
def State.sendOwn (s : State) (b : Bool) : State :=
  match s.ring.outQ.find? fun m => if b then m.b else m.a with
  | none => s.modRp b fun p => { p with out := none }
  | some m =>
    let m1 := if b then { m with b := false } else { m with a := false }
    let q := s.ring.outQ.map fun x => if x = m then m1 else x
    let t : State := { s with ring := { s.ring with outQ := q.filter fun x => x.a || x.b } }
    let u := if m.mtx then t.setB F.RNG_MTXCTL.PEND false else t
    u.sendOn b (withDir m.msg b) false

/-- Port b in one slot: a resend and the frames it moves one slot later come first (R285), then the frame that arrived on
the other port, then an own frame in an empty slot (R280). -/
def State.portSlot (s : State) (b : Bool) (onw : Option RingMsg) : State :=
  if !s.rpEn b then s.modRp b fun p => { p with out := none }
  else
    match (s.rp b).resend, onw with
    | r :: rs, o => (s.modRp b fun p => { p with resend := rs ++ o.toList }).sendOn b r true
    | [], some o => s.sendOn b o false
    | [], none => s.sendOwn b

/-- RING_SLOT: the next slot of the period, 32 cycles on; a chip that is not master sends 10 cycles later (R280). -/
def State.ringSlot (s : State) (inA inB : Option (List Word)) : State :=
  let j := s.ring.slot
  if s.rngOn && s.timeValid && decide (j < s.f F.STM_PERIOD.P / 32) then
    let t := s.advanceTo (s.boundary s.tm.k + j * 2048 + (if s.isMaster then 0 else 640))
    let t1 := ((t.queueOwn j).arriveAt false inA).arriveAt true inB
    let t2 := (t1.portSlot true (t1.onward false inA)).portSlot false (t1.onward true inB);
    { t2 with ring := { t2.ring with slot := j + 1, pa := { t2.ring.pa with poison := false, nak := false },
                                     pb := { t2.ring.pb with poison := false, nak := false } } }
  else s

/-! ## Replay and losses (R284 to R286) -/

/-- RING_BAD_WORD on a port (R284): the word counts, the frame goes on poisoned, and a NAK is sent. -/
def State.ringBadWord (s : State) (b : Bool) : State :=
  if s.rpUp b then
    let t := s.incF (if b then F.RNG_ERRB.BADWORDS else F.RNG_ERRA.BADWORDS) 1
    if (s.rp b).poison then t
    else (t.incF (if b then F.RNG_ERRB.NAKSENT else F.RNG_ERRA.NAKSENT) 1).modRp b fun p =>
      { p with poison := true, nak := true }
  else s

/-- A lost frame counts (R286). -/
def State.frameLost (s : State) (b : Bool) : State :=
  (s.incF F.RNG_LOST.LOST 1).modRp b fun p => { p with lossNow := true }

/-- RING_NAK on a port (R285): the last frame sent there goes out again in the next slot, once; one that was a resend is
lost. -/
def State.ringNak (s : State) (b : Bool) : State :=
  if s.rpEn b then
    match (s.rp b).kept.getLast? with
    | some (m, false) => s.modRp b fun p => { p with resend := m :: p.resend }
    | _ => s.frameLost b
  else s

/-- RING_FRAMES_LOST on a port (R286): frames are lost in this period; the third consecutive period raises source 12. -/
def State.ringFramesLost (s : State) (b : Bool) : State :=
  if s.rngOn then
    let x := if b then F.RNG_LOST.CONSB else F.RNG_LOST.CONSA
    if (s.rp b).lossNow then s.incF F.RNG_LOST.LOST 1
    else
      let n := min 3 (s.f x + 1)
      let t := (s.frameLost b).setF x n
      if n = 3 ∧ s.f x ≠ 3 then t.raise 12 else t
  else s

/-! ## Breaks and plans (R276, R281 to R283) -/

/-- RING_PORT_UP: 1,024 clean cycles (R276); a stopped hop that returns is a REPAIR event. -/
def State.ringPortUp (s : State) (b : Bool) : State :=
  if s.rpEn b && decide (s.f (rpField b) ≠ 2) then
    let t := s.setF (rpField b) 2
    if s.fb F.RNG_TOPO.BRKV then t.ringEvent 14 t.pos 2 (b2n b) else t
  else s

/-- The upstream position of the hop that a receive port hears: pos − 1 on port A, and on port B the hop from this
chip, named by its lower end (R36, R283). -/
def State.hopAt (s : State) (b : Bool) : Nat := if b then s.pos else (s.pos + s.nchip - 1) % s.nchip

/-- RING_PORT_BROKEN (R276, R283): the port returns to TRAIN at once, and a BREAK notice leaves the other port. -/
def State.ringPortBroken (s : State) (b : Bool) : State :=
  if s.rpUp b then
    let t := s.setF (rpField b) 1
    if s.rngJoined then
      let u := s.hopAt b
      let v := (t.ringPush (.notice 4 [u]) b (!b)).ringEvent 14 t.pos 1 u;
      { v with ring := { v.ring with brkPend := v.ring.brkPend ++ [u] } }
    else t
  else s

/-- BREAK_NOTICE of a break after u (R283). -/
def State.breakNotice (s : State) (u : Nat) : State :=
  if s.rngOn && s.rngJoined then
    let v := s.ringEvent 14 u 1 u;
    { v with ring := { v.ring with brkPend := v.ring.brkPend ++ [u] } }
  else s

/-- A break after u takes effect (R283): the first selects its plan; breaks on both sides of one position isolate it,
under the plan for the break before it; any other second break leaves the plan. -/
def State.applyBreak (s : State) (u : Nat) : State :=
  if s.fb F.RNG_TOPO.BRKV then
    let v := s.f F.RNG_TOPO.BRKPOS
    if u = v then s
    else if (v + 1) % s.nchip = u then s.setB F.RNG_TOPO.ISOL true
    else if (u + 1) % s.nchip = v then (s.setF F.RNG_TOPO.BRKPOS u).setB F.RNG_TOPO.ISOL true
    else s
  else (s.setB F.RNG_TOPO.BRKV true).setF F.RNG_TOPO.BRKPOS u

/-- PLAN_SWITCH at boundary k (R283): breaks that wait, and the return to the healthy plan. The master announces the
return 16 periods ahead once its beacons have come round the ring both ways (log 32). -/
def State.planSwitch (s : State) : State :=
  let k := s.tm.k
  let s1 := s.forAll s.ring.brkPend State.applyBreak
  let s2 : State := { s1 with ring := { s1.ring with brkPend := [] } }
  let s3 : State := match s2.ring.healthyAt with
    | some h => if h ≤ k then
        { ((s2.setB F.RNG_TOPO.BRKV false).setB F.RNG_TOPO.ISOL false).setF F.RNG_TOPO.BRKPOS 0 with
          ring := { s2.ring with healthyAt := none } }
      else s2
    | none => s2
  if s3.isMaster && s3.fb F.RNG_TOPO.BRKV && s3.ring.healthyAt.isNone && s3.ring.roundA && s3.ring.roundB &&
      s3.rpUp false && s3.rpUp true then
    { s3 with ring := { s3.ring with healthyAt := some (k + 16) } }
  else s3

/-- GENERATION_CHANGE at boundary k (R299), and the master's announcement of a rise at least 64 periods ahead. -/
def State.generationChange (s : State) : State :=
  let k := s.tm.k
  let s1 : State := match s.ring.genAt with
    | some (h, g) => if h ≤ k then
        { ((s.setF F.RNG_GEN.STACK g).setF F.RNG_GEN.NEXT 0).ringEvent 14 s.pos 6 g with
          ring := { s.ring with genAt := none } }
      else s
    | none => s
  if s1.isMaster && s1.rngJoined && s1.ring.genAt.isNone then
    let full := (List.range 64).filter fun m => s1.fb (F.RNG_POS.VALID m) && s1.fb (F.RNG_POS.PRESENT m) &&
      !s1.fb (F.RNG_POS.OBSERVER m)
    let low := full.foldl (fun g m => min g (s1.f (F.RNG_POS.GEN m))) 255
    if !full.isEmpty && decide (s1.f F.RNG_GEN.STACK < low) then
      { s1.setF F.RNG_GEN.NEXT low with ring := { s1.ring with genAt := some (k + 64, low) } }
    else s1
  else s1

/-! ## Hop delays (R287) -/

/-- RING_HOP_RECEIVE: d from the four captures, the mean of the last 16, VALID and LONG (R275, R287). -/
def State.ringHopReceive (s : State) (b : Bool) (f : List Word) (capture : Word) : State :=
  if s.rpUp b && decide (fClass f = 7) then
    let p := s.rp b
    let h : State := { s with ring := { s.ring with
      heard := if s.ring.heard.contains (fSrc f) ∨ !s.rngJoined then s.ring.heard else s.ring.heard ++ [fSrc f] } }
    let t := h.modRp b fun p => { p with rxLast := some (capture, fSeq f) }
    let t1 := (p.txHop.find? fun x => x.1 == fld (fWord f 6) 15 0).map (·.2)
    let t4 := match p.rxLast with | some (c, q) => if (q + 1) % 65536 = fSeq f then some c else none | none => none
    match t1, t4 with
    | some a, some c =>
      let rtt := sg ((c - a) - (fWord f 4 - fWord f 5))
      let asym := sx 16 (s.f (if b then F.RNG_HOPASYM.ASYMB else F.RNG_HOPASYM.ASYMA))
      let l := p.delays ++ [8 * rtt + asym]
      let l := l.drop (l.length - 16)
      let m := ux 16 (meanI (l.foldl (· + ·) 0) l.length)
      let u := t.modRp b fun p => { p with delays := l }
      let v := u.setF (if b then F.RNG_HOPB.DELAY else F.RNG_HOPA.DELAY) m
      (v.setB (if b then F.RNG_HOPB.LONG else F.RNG_HOPA.LONG) (decide (2048 < m))).setB
        (if b then F.RNG_HOPB.VALID else F.RNG_HOPA.VALID) (decide (l.length = 16))
    | _, _ => t
  else s

/-! ## Takes (R304, R305, R309) -/

/-- The TAKE record of port i. -/
def State.takeOf (s : State) (i : Nat) : Option TakeRec := (s.ring.takes.find? fun x => x.1 == i).map (·.2)

def State.setTake (s : State) (i : Nat) (r : Option TakeRec) : State :=
  let l := s.ring.takes.filter fun x => x.1 ≠ i;
  { s with ring := { s.ring with takes := l ++ (r.map fun x => (i, x)).toList } }

/-- TAKE goes out on port i for boundary tb; the passes count the cell from the bundle due there. -/
def State.sendTake (s : State) (i tb cause : Nat) : State :=
  let r : TakeRec := match s.takeOf i with
    | some r => if r.cause = cause then { r with tb := tb, count := r.count + 1, acked := false }
                else { tb := tb, cause := cause }
    | none => { tb := tb, cause := cause }
  let t := s.pushDue i 4 0 (s.boundary tb) (s.lEp i)
  (t.setTake i (some r)).modCell i fun c => { c with takeAt := some tb }

/-- The record last received for context i shows its cell driven by the other chip. -/
def State.recDrives (s : State) (i : Nat) : Bool := drivingState (fld (s.ctx i 0xE8) 31 29)

/-- The pattern and LASTEDGE from which the pass starts whose bundle is due at T_b, from the record last received: moved
on by the bundles that the endpoint has repeated (R304). A later TAKE starts from the same record. -/
def State.adoptEdge (s : State) (i b : Nat) (r : TakeRec) : State :=
  let n := b - s.ctxN i 0xEC - 2
  let edge := r.base.getD (s.ctx i 0xC4)
  let w := s.ctx i 0xE8
  let t := ((s.setCtxF i 0xC0 31 27 (fld w 26 22)).setCtxF i 0xC0 26 26 (fld w 21 21)).setCtx i 0xC4
    (edge + wN (n * s.periodTicks))
  (t.setTake i (some { r with base := some edge })).modCell i fun c => { c with hasEdge := true, primSent := true }

/-- The scheduler state of context i is this chip's own, ahead of a TAKE whose passes have begun (log 122). -/
def State.adopted (s : State) (i : Nat) : Bool :=
  match s.takeOf i with
  | some r => r.base.isSome
  | none => false

/-- TOKACK_RECEIVE on port i for the boundary whose tick ends in tb (03 R112): the TAKE is acknowledged; a per-cell
takeover answers with TAKEN (R305). -/
def State.tokackReceive (s : State) (i tb : Nat) : State :=
  if s.rngOn then
    match s.takeOf i with
    | some r =>
      if s.boundary r.tb % 65536 = tb ∧ r.acked = false then
        let t := s.setTake i (some { r with acked := true })
        if r.cause = 1 then t.noticeBuddy 7 [i % 64, r.tb] else t
      else s
    | none => s
  else s

/-- TOKACK_CHECK at boundary k (R304): a port of a takeover whose TOKACK has not come, one period before its boundary or
later, receives TAKE again for the earliest boundary; TOKFAIL counts it once and a record notes it. -/
def State.tokackCheck (s : State) : State :=
  let k := s.tm.k
  s.forAll s.ring.takes fun t x =>
    let r := x.2
    if r.acked || decide (r.cause ≠ 0) || decide (k + 1 < r.tb) then t
    else
      let u := if r.count = 1 then
          ((t.incF F.RNG_COUNT.TOKFAIL 1).note 10 4 x.1).ringEvent 15 t.pos 0x13 x.1
        else t
      u.sendTake x.1 (k + 2) 0

/-! ## Handover and handback (R307 to R310) -/

/-- The result of a handover shows, and nothing is pending (R308). -/
def State.hoEnd (s : State) (result : Nat) : State :=
  let t := ((s.setF F.RNG_HOSTAT.RESULT result).setB F.RNG_HOSTAT.BUSY false).setF F.RNG_HOSTAT.PHASE 0
  let u : State := { t with ring := { t.ring with ho := none } }
  let v := u.ringEvent 15 u.pos 0x15 result
  -- A refused time handover is the other case of 02 R63.
  if v.fb F.STM_STATUS.THANDOVER && decide (result ≠ 0 ∧ result ≠ 9) then
    State.rose v ((v.setB F.STM_STATUS.THANDOVER false).setB F.STM_STATUS.FARSLEW (!v.errWithin 6400)) [20]
  else v

/-- The cells a request names. -/
def hoCells (cell : Nat) : List Nat := if cell = 0 then (List.range 63).map (· + 1) else [cell]

/-- A cell is held back on this chip's side (R310): on the taking side when its context is not synced, its record shows
BYP_BUSY or its port is not UP; on the giving side while BYP_BUSY is set. -/
def State.hoHolds (s : State) (taking back : Bool) (nn : Nat) : Bool :=
  if taking then
    let i := if back then nn else nn + 64
    decide (s.cst i = cEscrowed) && (!(s.cell i).synced || (s.cell i).recBusy || decide (s.lstate i ≠ 3))
  else
    let i := if back then nn + 64 else nn
    s.drives i && s.bypBusy i

/-- The mask of cells held back on this side, bit nn. -/
def State.hoMask (s : State) (taking back : Bool) (cell : Nat) : Nat :=
  if cell = 0 then (hoCells 0).foldl (fun m nn => if s.hoHolds taking back nn then m + 2 ^ nn else m) 0 else 0

/-- Why the taking side refuses (R308): 0 where it does not. -/
def State.hoRefusal (s : State) (taking back : Bool) (cell : Nat) : Nat :=
  let i := if back then cell else cell + 64
  if !taking then 0
  else if !s.admitted || (!back && s.adm.escrowEmpty) then 1
  else if !s.errWithin 6400 then 5
  else if cell ≠ 0 ∧ (s.cst i ≠ cEscrowed ∨ s.hoHolds true back cell = true) then 6
  else 0

/-- RNG_HOCMD is written with HANDOVER or HANDBACK in period c − 1 (R307): the request leaves in period c, for
T_b = T_c+3. -/
def State.hoCommand (s : State) (back : Bool) (cell : Nat) : State :=
  if s.rngOn then
    let shown := fun (r : Nat) => (s.setF F.RNG_HOSTAT.RESULT r).ringEvent 15 s.pos 0x15 r
    if s.fb F.RNG_HOSTAT.BUSY then shown 2
    else if !s.buddyHere || s.fb F.RNG_STATUS.NOBUDDY then shown 4
    else if s.hoRefusal back back cell ≠ 0 then shown (s.hoRefusal back back cell)
    else
      let tb := s.tm.k + 4
      let t := ((s.setB F.RNG_HOSTAT.BUSY true).setF F.RNG_HOSTAT.PHASE 1).setF F.RNG_HOSTAT.TBK (tb % 65536);
      { t with ring := { t.ring with ho := some { back := back, cell := cell, mine := true, taking := back, tb := tb } } }
  else s

/-- HANDOVER_CANCEL (R308): before the TAKE words are sent. -/
def State.handoverCancel (s : State) : State :=
  match s.ring.ho with
  | some h => if s.rngOn && h.mine && decide (s.f F.RNG_HOSTAT.PHASE = 1) then s.hoEnd 7 else s
  | none => s

/-- HO_REQ_RECEIVE (R308): the receiver answers in the same period with its result. -/
def State.hoReqReceive (s : State) (back : Bool) (cell held : Nat) : State :=
  if s.rngOn && s.rngJoined then
    let s1 := s.ringEvent 15 (s.f F.RNG_TOPO.BUDDYPOS) 0x14 cell
    let cross := match s.ring.ho with | some h => h.mine && h.sent && !h.accepted && decide (s.ring.hoReqK = some s.tm.k)
                                      | none => false
    let taking := !back
    let r := if cross then 3 else if s.ring.ho.isSome then 2
      else if !s.buddyHere || s.fb F.RNG_STATUS.OBSERVER then 4 else s.hoRefusal taking back cell
    let m := s.hoMask taking back cell
    let s2 := s1.noticeBc 9 [r, m]
    if cross then s2.hoEnd 3
    else if r ≠ 0 then s2
    else
      let tb := s.tm.k + 3
      let t := ((s2.setB F.RNG_HOSTAT.BUSY true).setF F.RNG_HOSTAT.PHASE 1).setF F.RNG_HOSTAT.TBK (tb % 65536);
      let h : Handover := { back := back, cell := cell, mine := false, taking := taking, tb := tb, held := m ||| held, accepted := true, sent := true };
      { t with ring := { t.ring with ho := some h } }
  else s

/-- HO_ACK_RECEIVE (R308, R309): the buddy's answer to the request of this chip. -/
def State.hoAckReceive (s : State) (result held : Nat) : State :=
  match s.ring.ho with
  | some h =>
    if s.rngOn && h.mine && h.sent && !h.accepted then
      if result = 0 then { s with ring := { s.ring with ho := some { h with accepted := true, held := h.held ||| held } } }
      else s.hoEnd result
    else s
  | none => s

/-- The contexts of a handover on this chip: taken by it, or given. -/
def State.hoContexts (s : State) (h : Handover) : List Nat :=
  let own := h.taking == h.back
  ((hoCells h.cell).filter fun nn => !h.held.testBit nn).filterMap fun nn =>
    let i := if own then nn else nn + 64
    if h.taking then (if s.cst i = cEscrowed ∧ s.recDrives i = true then some i else none)
    else if s.drives i then some i else none

/-- The handover's part of boundary k before any change of driving: the request in period c, the TAKE words and the last
bundle in period c + 1, and waiting for T_b (R307, R309). -/
def State.hoBoundary (s : State) : State :=
  match s.ring.ho with
  | none => s
  | some h =>
    let k := s.tm.k
    if h.mine && !h.sent then
      let m := s.hoMask h.taking h.back h.cell
      let t := s.noticeBuddy 8 [b2n h.back, h.cell, m];
      { t with ring := { t.ring with hoReqK := some k, ho := some { h with sent := true, held := m } } }
    else if h.accepted && decide (k + 2 = h.tb) then
      let t := s.setF F.RNG_HOSTAT.PHASE 2
      if h.taking then t.forAll (s.hoContexts h) fun u i => u.sendTake i h.tb 2
      else t.forAll (s.hoContexts h) fun u i => u.modCell i fun c => { c with giveAt := some h.tb }
    else if h.accepted && decide (k + 1 = h.tb) then s.setF F.RNG_HOSTAT.PHASE 3
    else s

/-- The handover completes at T_b: DONE, or PARTIAL with cells held back, which follow one by one (R310). -/
def State.hoFinish (s : State) : State :=
  match s.ring.ho with
  | some h =>
    if h.accepted && decide (h.tb ≤ s.tm.k) then
      let kept := if h.taking then
          ((hoCells h.cell).filter fun nn => h.held.testBit nn).map fun nn => if h.back then nn else nn + 64
        else []
      let t : State := { s with ring := { s.ring with heldBack := kept } }
      t.hoEnd (if h.held = 0 then 0 else 9)
    else if h.mine && h.sent && !h.accepted && decide (h.tb ≤ s.tm.k) then s.hoEnd 8
    else s
  | none => s

/-- A held-back cell changes driving at the first boundary after its bypass completes (R310): the taking chip sends TAKE
for it. -/
def State.heldBackTakes (s : State) : State :=
  let ready := s.ring.heldBack.filter fun i => decide (s.cst i = cEscrowed) && s.recDrives i &&
    !(s.cell i).recBusy && (s.cell i).synced && decide (s.lstate i = 3)
  let t := s.forAll ready fun u i => u.sendTake i (s.tm.k + 2) 2;
  { t with ring := { t.ring with heldBack := t.ring.heldBack.filter fun i => !ready.contains i } }

/-! ## Time over the ring (R288; 02 R61, R63, R64) -/

/-- TIME_HANDOVER_START and FARSLEW (02 R63): what a chip that drives cells does with an error above 6,400 ticks; the
error falling back ends FARSLEW. -/
def State.timeAction (s : State) : State :=
  if s.follows && s.timeValid && s.drivesCells && !s.errWithin 6400 && decide (0 < s.errN4) then
    if s.fb F.STM_STATUS.THANDOVER then s
    else if s.protected && !s.fb F.RNG_HOSTAT.BUSY && !s.fb F.STM_STATUS.FARSLEW then
      let t := s.hoCommand false 0
      if t.fb F.RNG_HOSTAT.BUSY then t.setB F.STM_STATUS.THANDOVER true
      else s.rose (t.setB F.STM_STATUS.FARSLEW true) [20]
    else s.rose (s.setB F.STM_STATUS.FARSLEW true) [20]
  else if s.fb F.STM_STATUS.FARSLEW then s.setB F.STM_STATUS.FARSLEW false
  else s

/-- TIME_TAKEBACK (02 R64): 64 periods within 8 ticks, DRIFTBAD 0 and SRC not COAST. -/
def State.timeTakeback (s : State) : State :=
  if s.live && s.tm.takeBack && decide (64 ≤ s.tm.okPeriods) && !s.fb F.STM_STATUS.DRIFTBAD &&
      decide (s.f F.CLK_STATUS.SRC ≠ 3) then
    State.hoCommand { s with tm := { s.tm with takeBack := false, okPeriods := 0 } } true 0
  else s

/-- RING_BEACON_RECEIVE on a port at an own stack time (R288, R301): the master's time at arrival is words 4 and 5 plus
ACC plus the inbound hop delay; the announcements of words 10 to 13 are kept. -/
def State.ringBeaconReceive (s : State) (b : Bool) (f : List Word) (arrival : DWord) : State :=
  if s.rpUp b && decide (fClass f = 1) then
    let own := s.rngJoined && decide (fSrc f = s.pos)
    let s1 := (s.hear f).1
    if own then
      if b then { s1 with ring := { s1.ring with roundB := true } } else { s1 with ring := { s1.ring with roundA := true } }
    else if s1.follows && s1.fromMaster f then
      let s2 := s1.setF F.RNG_TOPO.MASTERPOS (fSrc f)
      let t16 : Int := (((fWord f 4).toNat + (fWord f 5).toNat * 2 ^ 32) * 16 + (fWord f 6).toNat +
        s.f (if b then F.RNG_HOPB.DELAY else F.RNG_HOPA.DELAY) : Nat)
      let e := meanI (t16 - (arrival.toNat * 16 : Nat)) 16
      let kg := (fWord f 11).toNat
      let kh := (fWord f 13).toNat
      let s3 : State := if kg = 0 then s2 else
        { s2.setF F.RNG_GEN.NEXT (fld (fWord f 10) 15 8) with
          ring := { s2.ring with genAt := some (kg, fld (fWord f 10) 15 8) } }
      let s4 : State := if kh = 0 then s3 else { s3 with ring := { s3.ring with healthyAt := some kh } }
      (if s4.timeValid then s4.errMeasure e b else s4).timeAction
    else s1
  else s

/-! ## Receiving the other classes (R289, R295, R296, R498) -/

/-- REFB_RECEIVE of a part whose stream begins with `nshare` share entries (R289): this chip's shares of period k, and the
firmware words. -/
def State.refbReceive (s : State) (f : List Word) (nshare : Nat) : State :=
  if decide (fClass f = 2) then
    let h := s.hear f
    if h.2 && h.1.fromMaster f && h.1.rngJoined then
      let part := fld (fWord f 3) 7 0
      h.1.forAll (List.range 12) fun t n =>
        let e := 12 * part + n
        let w := fWord f (4 + n)
        if e < nshare then
          if fld w 31 26 = s.pos ∧ (fK f) = wN s.tm.k then
            t.modArm (fld w 25 22) fun x => { x with share := w32 (2 * sx 22 (fld w 21 0)), shareK := some s.tm.k }
          else t
        else if e - nshare < 256 then
          { t with ring := { t.ring with fw := tblSet (fun _ => (0 : Word)) t.ring.fw (e - nshare) w } }
        else t
    else h.1
  else s

/-- One record for context i (R293, R295): it is kept, and on a context that does not drive its fields are written, but
for the scheduler state where the passes ahead of a TAKE have begun (log 122). The serial words of the drip are kept for the comparison of 01 R44. -/
def State.recordIn (s : State) (i : Nat) (w0 w1 w2 w3 : Word) : State :=
  let k := s.tm.k
  let off := fld w0 16 8 * 4
  let drv := drivingState (fld w0 31 29)
  let s1 := s.modCell i fun c => { c with
    recState := fld w0 31 29, recBusy := bitAt w0 28, otherDrives := if drv then some k else none,
    recSerial := if off = 0xE0 then tblSet (fun _ => (0 : Word)) c.recSerial 0 w3
                 else if off = 0xE4 then tblSet (fun _ => (0 : Word)) c.recSerial 1 w3 else c.recSerial }
  if s1.drives i then s1
  else
    let own := s.adopted i
    let s2 := if own then s1 else
      (((s1.setCtxF i 0xC0 31 27 (fld w0 26 22)).setCtxF i 0xC0 26 26 (fld w0 21 21)).setCtx i 0xC4 w1).setCtx
        i 0xD8 (w32 (sx 24 (fld w2 23 0)))
    let s3 := (s2.setCtx i 0xE8 w0).setCtx i 0xEC (wN k)
    let s4 := if off = 0xE0 ∨ off = 0xE4 ∨ (own = true ∧ off < 0xC8) then s3
      else if (0xC0 ≤ off ∧ off < 0x200) ∨ (0x400 ≤ off ∧ off < 0x800) then s3.setCtx i off w3 else s3
    if s.cst i = cEscrowed then
      let slot := if off < 0x200 then (off - 0xC0) / 4 else 80 + (off - 0x400) / 4
      let got := putBit (s4.cell i).dripGot (slot % 336) true
      let full := decide (got = 2 ^ 336 - 1)
      let s5 := s4.modCell i fun c => { c with dripGot := got, synced := c.synced || full }
      if 64 ≤ i ∧ (s5.cell i).synced = true then
        s5.setReg (R.RNG_ESCSYNC (i % 64 / 32)) (setFld (s5.reg (R.RNG_ESCSYNC (i % 64 / 32))) (i % 32) (i % 32) 1)
      else s5
    else s4

/-- ESCROW_FRAME_RECEIVE (R295): from the buddy, of the period in progress; a frame after the boundary that follows its
period is discarded. -/
def State.escrowFrameReceive (s : State) (f : List Word) : State :=
  if decide (fClass f = 3) then
    let h := s.hear f
    let t := h.1
    if h.2 && t.rngJoined && t.forMe f && decide (fSrc f = t.f F.RNG_TOPO.BUDDYPOS) && t.fb F.RNG_TOPO.BUDDYV &&
        decide (fK f = wN t.tm.k) && t.on 6 then
      let side := bitAt (fWord f 3) 13
      let cells := [fld (fWord f 3) 31 26, fld (fWord f 3) 25 20, fld (fWord f 3) 19 14]
      let u : State := { t with ring := { t.ring with escGot := true } }
      u.forAll (List.range 3) fun v n =>
        let nn := (cells[n]?).getD 0
        if nn = 0 then v
        else v.recordIn (if side then nn else nn + 64) (fWord f (4 + 4 * n)) (fWord f (5 + 4 * n)) (fWord f (6 + 4 * n))
          (fWord f (7 + 4 * n))
    else t
  else s

/-- ARMCNT_RECEIVE (R498): the counts go to the Cell Scheduler. A zero entry fills a place unless that part of arm 0 has
been reported before. -/
def State.armcntReceive (s : State) (f : List Word) : State :=
  if decide (fClass f = 5) && decide (fld (fWord f 3) 31 24 = 0x20) then
    let h := s.hear f
    if h.2 && h.1.on 6 then
      h.1.forAll (List.range 12) fun t n =>
        let w := fWord f (4 + n)
        let key := countKey (fld w 31 23) (fSrc f) (fld w 22 19)
        let old := tblGet (fun _ => (0 : Nat)) t.cs.counts key
        if w = 0 ∧ old = 0 then t
        else { t with cs := { t.cs with counts := tblSet (fun _ => (0 : Nat)) t.cs.counts key (fld w 18 13 + 1) } }
    else h.1
  else s

/-- The 16 words of a frame as 8 entries, the even word in [31:0] (09, RNG registers; log 33). -/
def frameEntries (f : List Word) : List DWord :=
  (List.range 8).map fun n => fWord f (2 * n + 1) ++ fWord f (2 * n)

/-- MGMT_FRAME_RECEIVE (R278, R279): a MGMT frame for this chip enters Q12; ARMCNT frames never do (R498), and
those of subtypes 0x40 and 0x41 go to the TRU (15 R442). -/
def State.mgmtFrameReceive (s : State) (f : List Word) : State :=
  if decide (fClass f = 5) && !([0x20, 0x40, 0x41].contains (fld (fWord f 3) 31 24)) then
    let h := s.hear f
    if h.2 && h.1.forMe f then h.1.forAll (frameEntries f) fun t e => t.hwPush 12 e else h.1
  else s

/-- BULK_FRAME_RECEIVE: a BULK frame for this chip enters Q13. -/
def State.bulkFrameReceive (s : State) (f : List Word) : State :=
  if decide (fClass f = 6) then
    let h := s.hear f
    if h.2 && h.1.forMe f then h.1.forAll (frameEntries f) fun t e => t.hwPush 13 e else h.1
  else s

/-- MGMT_TRANSMIT (RNG_MTXCTL with GO): the 12 payload words wait for a slot; a GO while PEND is 1 is ignored. -/
def State.mgmtTransmit (s : State) (dst : Nat) (bc bulk : Bool) : State :=
  if s.on 9 then
    if s.fb F.RNG_MTXCTL.PEND then s
    else
      let t := ((s.setF F.RNG_MTXCTL.DST dst).setB F.RNG_MTXCTL.BC bc).setB F.RNG_MTXCTL.BULK bulk
      if s.rngOn then
        let r := t.mkFrame (if bulk then 6 else 5) dst bc 0 ((List.range 12).map fun w => t.reg (R.RNG_MTX w))
        let d := r.1.goesDown dst
        let u := r.1.setB F.RNG_MTXCTL.PEND true;
        { u with ring := { u.ring with outQ := u.ring.outQ ++
            [{ msg := .frame r.2, a := bc || !d, b := bc || d, mtx := true }] } }
      else t
  else s

/-! ## Joining and roles (R297 to R302; 01 R35 to R42) -/

/-- The count of contexts that are not ABSENT. -/
def State.present (s : State) : Nat := (ctxIdx.filter fun i => decide (s.cst i ≠ 0)).length

/-- The JOIN notice (R297). -/
def State.sendJoin (s : State) : State :=
  s.noticeBc 1 [Config.serial.toNat % 2 ^ 48, s.f F.RNG_GEN.OWN, s.present,
    (s.reg R.TRU_SUMLO).toNat + (s.reg R.TRU_SUMHI).toNat * 2 ^ 32]

/-- JOIN: RNG_CTRL.JOIN is written; ignored while a grave fault stands (12 R365). -/
def State.ringJoin (s : State) : State :=
  if s.rngOn && !s.rngJoined && !s.grave && !s.isMaster then
    let t : State := { s with ring := { s.ring with joining := true, granted := false, joinWait := 0 } }
    if t.rpUp false || t.rpUp true then t.sendJoin else t
  else s

/-- The 16-period repetition of JOIN until it is granted, at each boundary (R297). -/
def State.joinBoundary (s : State) : State :=
  if s.ring.joining && !s.ring.granted && s.rngOn then
    if s.ring.joinWait + 1 < 16 then { s with ring := { s.ring with joinWait := s.ring.joinWait + 1 } }
    else
      let t : State := { s with ring := { s.ring with joinWait := 0 } }
      if t.rpUp false || t.rpUp true then t.sendJoin else t
  else s

/-- The position table's words of position m. -/
def State.setPos (s : State) (m : Nat) (obs : Bool) (gen serial : Nat) : State :=
  (s.setReg (R.RNG_POS m) (wN (3 * 2 ^ 30 + b2n obs * 2 ^ 29 + gen % 256 * 2 ^ 16 + serial / 2 ^ 32 % 65536))).setReg
    (R.RNG_POSSERLO m) (wN serial)

/-- The serial recorded against position m. -/
def State.posSerial (s : State) (m : Nat) : Nat :=
  s.f (F.RNG_POS.SERIALHI m) * 2 ^ 32 + (s.reg (R.RNG_POSSERLO m)).toNat

/-- The buddy's registers after the stack has n chips: the buddy of an even position is the next one (00 R9). An
unprotected chip sets NOBUDDY and writes a record when it joins (01 R42). -/
def State.setBuddy (s : State) (n : Nat) (buddyObs joinsNow : Bool) : State :=
  let bp := if s.pos % 2 = 0 then s.pos + 1 else s.pos - 1
  let v := decide (bp < n)
  let nb := !v || buddyObs || s.fb F.RNG_STATUS.OBSERVER
  let t := ((s.setB F.RNG_TOPO.BUDDYV v).setF F.RNG_TOPO.BUDDYPOS (if v then bp else 0)).setB F.RNG_STATUS.NOBUDDY nb
  if nb && joinsNow then t.note 10 2 0 else t

/-- A master's stack of one at position 00 (01 R39). -/
def State.formOne (s : State) : State :=
  if s.rngOn && s.isMaster && !s.rngJoined && !s.grave && !s.fb F.RNG_STATUS.CONFLICT then
    let t := ((((s.setF F.RNG_STATUS.POS 0).setF F.RNG_TOPO.NCHIP 1).setF F.RNG_TOPO.MASTERPOS 0).setF F.RNG_GEN.STACK
      (s.f F.RNG_GEN.OWN)).setJoined true
    (t.setPos 0 false (t.f F.RNG_GEN.OWN) (Config.serial.toNat % 2 ^ 48)).setBuddy 1 false true
  else s

/-- The ROLE strap as PD9 finds it when it powers up (01 R35). -/
def State.strapRole (s : State) : State :=
  match s.f F.SYSC_STRAP.ROLE with
  | 1 => s.setF F.RNG_STATUS.ROLE 1
  | 2 => s.setF F.RNG_STATUS.ROLE 3
  | 3 => s.setB F.RNG_STATUS.STRAPRES true
  | _ => s

/-- The host may command the role: ROLE strap 0b00 or the reserved strap, or a role conflict (01 R35, R39). -/
def State.roleFree (s : State) : Bool :=
  decide (s.f F.SYSC_STRAP.ROLE = 0 ∨ s.f F.SYSC_STRAP.ROLE = 3) || s.fb F.RNG_STATUS.CONFLICT

/-- ROLECMD_MASTER (01 R35, R39): the chip forms a stack of one at position 00. -/
def State.rolecmdMaster (s : State) : State :=
  if s.on 9 && s.roleFree && (!s.rngJoined || s.fb F.RNG_STATUS.CONFLICT) then
    ((s.setB F.RNG_STATUS.CONFLICT false).setRole 1).formOne
  else s

/-- ROLECMD_MEMBER. -/
def State.rolecmdMember (s : State) : State :=
  if s.on 9 && s.roleFree && (!s.rngJoined || s.fb F.RNG_STATUS.CONFLICT) then
    (((s.setB F.RNG_STATUS.CONFLICT false).setJoined false).setF F.RNG_TOPO.NCHIP 0).setRole 3
  else s

/-- ROLE_SWAP: RNG_CTRL.SWAP, on the master only, for the next boundary (R302). -/
def State.roleSwap (s : State) : State :=
  if s.rngOn && s.rngJoined && s.isMaster then { s with ring := { s.ring with swapDue := true } } else s

/-- LEAVE: rejected while a context drives a cell; else the chip leaves at the next boundary. -/
def State.ringLeave (s : State) : State :=
  if s.rngOn && s.rngJoined then
    if s.drivesCells then s.setB F.RNG_STATUS.LEAVEREJ true else { s with ring := { s.ring with leaveDue := true } }
  else s

/-- JOIN_RECEIVE on the master (R297, R298; 01 R36, R37): a known serial takes its position; a new one only in
COMMISSION, at the place its hop count gives it in a stack that forms, else the next free after the last; over a hop that
is LONG no position is granted (R275). -/
def State.joinReceive (s : State) (serial own summary hops : Nat) (longHop : Bool) : State :=
  if s.rngOn && s.rngJoined && s.isMaster && !s.fb F.RNG_STATUS.CONFLICT then
    let valid := (List.range 64).filter fun m => s.fb (F.RNG_POS.VALID m)
    let known := valid.find? fun m => decide (s.posSerial m = serial)
    let last := valid.foldl max 0
    let place := match known with
      | some m => some m
      | none =>
        if !s.commission then none
        else if hops ≠ 0 ∧ !valid.contains hops then some hops
        else if last < 63 then some (last + 1) else none
    match (if longHop then none else place) with
    | none => s.noticeBc 3 [serial]
    | some m =>
      let full := valid.filter fun x => s.fb (F.RNG_POS.PRESENT x) && !s.fb (F.RNG_POS.OBSERVER x) && decide (x ≠ m)
      let lo := full.foldl (fun g x => min g (s.f (F.RNG_POS.GEN x))) own
      let hi := full.foldl (fun g x => max g (s.f (F.RNG_POS.GEN x))) own
      let falls := decide (own < s.f F.RNG_GEN.STACK)
      let obs := decide (lo + 1 < hi) || (falls && s.fb F.RNG_GEN.HOLD)
      let s1 := s.setPos m obs own serial
      let n := (List.range 64).foldl (fun n x => if s1.fb (F.RNG_POS.VALID x) then max n (x + 1) else n) 1
      let s2 := (s1.setF F.RNG_TOPO.NCHIP n).setReg (R.RNG_OBS (m / 32))
        (setFld (s1.reg (R.RNG_OBS (m / 32))) (m % 32) (m % 32) (b2n obs))
      let s3 := if m = s2.pos + 1 ∧ s2.pos % 2 = 0 ∨ s2.pos = m + 1 ∧ m % 2 = 0 then
          ((s2.setBuddy n obs false).setB F.RNG_STATUS.BUDDYLOST false) else s2
      let s4 : State := if falls && !obs && s3.ring.genAt.isNone then
          { s3.setF F.RNG_GEN.NEXT own with ring := { s3.ring with genAt := some (s3.tm.k + 64, own) } }
        else s3
      let s4 : State := { s4 with ring := { s4.ring with posSums := tblSet (fun _ => (0 : Nat)) s4.ring.posSums m summary } }
      (s4.noticeBc 2 [serial, m, b2n (decide (m = s4.f F.RNG_TOPO.BUDDYPOS)), b2n obs, n]).ringEvent 14 m 4 serial
  else s

/-- GRANT_RECEIVE (R297): a refusal sets JOINREF; a grant gives position, role, period, origin, generation and EPOCH; the
chip is JOINED once it holds every plan, and its time steps under 02 R63. -/
def State.grantReceive (s : State) (g : Grant) : State :=
  if s.rngOn && s.ring.joining && !s.rngJoined then
    if g.refused then
      { s.setB F.RNG_STATUS.JOINREF true with ring := { s.ring with joining := false } }
    else
      let n := g.nchip.val
      let s1 := (((s.setF F.RNG_STATUS.POS g.pos.val).setB F.RNG_STATUS.OBSERVER g.observer).setF F.RNG_TOPO.NCHIP
        (max n (g.pos.val + 1))).setF F.RNG_TOPO.MASTERPOS
        (if g.standby then (if g.pos.val % 2 = 0 then g.pos.val + 1 else g.pos.val - 1) else 0)
      let s2 := (((s1.setF F.STM_PERIOD.P g.p.toNat).setReg R.STM_ORIGINLO (g.origin.extractLsb' 0 32)).setReg
        R.STM_ORIGINHI (g.origin.extractLsb' 32 32)).setF F.RNG_GEN.STACK g.g.toNat
      let s3 := (s2.setF F.RNG_EPOCH.EPOCH g.epoch.toNat).setF F.RNG_STATUS.ROLE (if g.standby then 2 else 3)
      let s4 : State := { s3 with ring := { s3.ring with granted := true } }
      if g.plans then
        -- CLK_CTRL.FWD_EN is set by the join (02, CLK_CTRL).
        let s5 := (s4.setJoined true).setB F.CLK_CTRL.FWD_EN true
        let s6 := s5.setBuddy (max n (g.pos.val + 1)) false true
        let s7 : State := { s6 with ring := { s6.ring with joining := false, granted := false } }
        let s8 := if s7.timeValid then s7.setSrc s7.srcNow else s7
        (s8.ringEvent 14 s8.pos 5 (s8.f F.RNG_STATUS.ROLE))
      else s4
  else s

/-- MASTER_YIELD, ROLE_SWAP and LEAVE at a boundary (R302; RNG_CTRL). -/
def State.roleBoundary (s : State) : State :=
  let s1 : State := match s.ring.yieldDue with
    | some e => if s.isMaster then
        { (s.setF F.RNG_EPOCH.EPOCH e).setRole 2 with ring := { (s.setRole 2).ring with yieldDue := none } }
      else { s with ring := { s.ring with yieldDue := none } }
    | none => s
  let s2 : State := if s1.ring.swapDue then
      let t := if s1.isMaster then
          ((s1.incF F.RNG_EPOCH.EPOCH 1).setRole 2).noticeBuddy 13 [] else s1
      { t with ring := { t.ring with swapDue := false } }
    else s1
  if s2.ring.leaveDue then
    if s2.drivesCells then
      { s2.setB F.RNG_STATUS.LEAVEREJ true with ring := { s2.ring with leaveDue := false } }
    else
      let t := ((s2.noticeBc 14 []).setJoined false).setB F.RNG_STATUS.OBSERVER false
      let u := if t.timeValid then t.setSrc t.srcNow else t;
      { u with ring := { u.ring with leaveDue := false } }
  else s2

/-! ## Loss of the buddy (R301, R303, R304) -/

/-- BUDDY_LOSS: two periods without an ESCROW frame and without any frame of the buddy (R303); TAKE goes out for
T_d+2 on every escrow port whose record shows a driving state (R304), and a standby master takes MASTER (R301). -/
def State.buddyLoss (s : State) : State :=
  if s.rngOn && s.rngJoined && s.fb F.RNG_TOPO.BUDDYV && !s.fb F.RNG_STATUS.BUDDYLOST &&
      decide (2 ≤ s.f F.RNG_ESCSTAT.MISSCONS) && decide (2 ≤ s.ring.buddySilent) then
    let d := s.tm.k
    let bp := s.f F.RNG_TOPO.BUDDYPOS
    let s1 := s.rose ((s.setB F.RNG_STATUS.BUDDYLOST true).setB F.RNG_STATUS.ESCSTALE false) [18]
    let s2 := (s1.note 10 3 bp).ringEvent 15 bp 0x11 bp
    let s3 := s2.ringSend (s2.f F.RNG_TOPO.MASTERPOS) (.notice 5 [bp])
    -- A partner lost before T_b: the giving chip keeps its cells, with TAKE on its own ports; a giver's loss changes
    -- nothing (09, Decided cases).
    let s4 : State := match s3.ring.ho with
      | some h =>
        if h.accepted && !h.taking then
          let t := s3.forAll (s3.hoContexts h) fun u i =>
            (u.sendTake i (d + 2) 2).modCell i fun c => { c with giveAt := none, takeAt := none }
          t.hoEnd 8
        else if h.accepted then s3
        else s3.hoEnd 8
      | none => s3
    let ports := if s4.adm.escrowEmpty || !s4.on 6 then []
      else ctxIdx.filter fun i => decide (64 ≤ i) && decide (s4.cst i = cEscrowed) && s4.recDrives i &&
        (s4.takeOf i).isNone
    let s5 : State := s4.forAll ports fun t i => t.sendTake i (d + 2) 0
    if s5.f F.RNG_STATUS.ROLE = 2 then
      ((s5.incF F.RNG_EPOCH.EPOCH 1).setRole 1).setF F.RNG_TOPO.MASTERPOS s5.pos
    else s5
  else s

/-- OFFER_RECEIVE of cell nn (R305): TAKE on the escrow port for T_d+2. -/
def State.offerReceive (s : State) (nn : Nat) : State :=
  let i := nn + 64
  if s.rngOn && s.rngJoined && decide (nn ≠ 0) then
    let t := s.ringEvent 15 (s.f F.RNG_TOPO.BUDDYPOS) 0x16 nn
    if decide (t.cst i = cEscrowed) && t.recDrives i && (t.takeOf i).isNone then t.sendTake i (t.tm.k + 2) 1 else t
  else s

/-- TAKEN_RECEIVE of cell nn (R305): the owner's context enters ESCROWED at T_b. -/
def State.takenReceive (s : State) (nn : Nat) : State :=
  if s.rngOn && decide (nn ≠ 0) then
    match (s.cell nn).offerK with
    | some d => s.modCell nn fun c => { c with giveAt := some (max (s.tm.k + 1) (d + 2)) }
    | none => s
  else s

/-! ## The boundary's part (R280, R286, R295, R303) -/

/-- What a boundary counts on the ring: presence, silence of the buddy, missed and stale records, consecutive losses; and
the period's slots begin anew. -/
def State.ringBoundary (s : State) : State :=
  if !(s.live && s.on 9) then s
  else
    let k := s.tm.k
    let h := s.ring.heard
    let map := fun (n : Nat) => h.foldl (fun m p => if p / 32 = n then m + 2 ^ (p % 32) else m) 0
    let s1 := (s.setReg (R.RNG_PRES 0) (wN (map 0))).setReg (R.RNG_PRES 1) (wN (map 1))
    let bp := s.f F.RNG_TOPO.BUDDYPOS
    let s2 : State := if s.rngJoined && s.fb F.RNG_TOPO.BUDDYV then
        let miss := !s.ring.escGot
        let c := if miss then min 3 (s.f F.RNG_ESCSTAT.MISSCONS + 1) else 0
        let t := (if miss then s1.incF F.RNG_ESCSTAT.MISSES 1 else s1).setF F.RNG_ESCSTAT.MISSCONS c
        let quiet := if h.contains bp then 0 else s.ring.buddySilent + 1
        let u := (t.setB F.RNG_STATUS.ESCSTALE (decide (2 ≤ c) && !decide (2 ≤ quiet))).setB F.RNG_STATUS.BUDDYLOST
          (t.fb F.RNG_STATUS.BUDDYLOST && decide (0 < quiet))
        { u with ring := { u.ring with buddySilent := quiet } }
      else s1
    let stale := if s2.on 6 then
        (ctxIdx.filter fun i => decide (s2.cst i = cEscrowed) && decide (s2.ctxN i 0xEC + 1 ≠ k)).length else 0
    let s3 := s2.incF F.RNG_ESCSTAT.PARTIAL stale
    let cons := fun (t : State) (b : Bool) =>
      if (s.rp b).lossNow then t else t.setF (if b then F.RNG_LOST.CONSB else F.RNG_LOST.CONSA) 0
    let s4 := cons (cons s3 false) true
    let s5 : State := { s4 with ring := { s4.ring with
      slot := 0, heard := [], escGot := false, escSent := false, refbSent := false,
      pa := { s4.ring.pa with lossNow := false }, pb := { s4.ring.pb with lossNow := false },
      seen := s4.ring.seen.filter fun x => decide (k ≤ x.2.2.2 + 1) } }
    let s6 := (s5.roleBoundary.planSwitch.generationChange).joinBoundary;
    { s6 with ring := { s6.ring with roundA := false, roundB := false } }

/-- RNG_DIRTY as it reads: the words that wait for the drip and the longest wait. -/
def State.rngDirty (s : State) : Word :=
  let own := s.ring.dirty.filter fun d => d.1 < 64
  let wait := own.foldl (fun m d => max m (s.tm.k - d.2.2)) 0
  wN (min 65535 wait * 65536 + min 1023 own.length)

end Sys2Proof.Machine
end

