-- ==== Sys2Proof/Machine/Measure.lean ====
section
/-! DEFINITION. Measurement, discovery and calibration (11): the result channels, SAR and offset conversions, sigma-delta
outputs, comparators, the supply and temperature monitors, serials, the gate charge, and the gain and trim loops; and the
uplink words as they bear on them. -/

namespace Sys2Proof.Machine

/-! ## Rounding -/

/-- A quotient: exact where the divisor divides, otherwise rounded in a way the text does not give (log 34). -/
def quot (n d : Int) (use : Nat) : Int :=
  if d = 0 then 0 else if n % d = 0 then n / d else Config.roundQuot n d use

/-! ## Result channels (R333, R334) -/

/-- MSR runs. -/
def State.msrOn (s : State) : Bool := s.live && s.on 11 && s.fb F.MSR_CTRL.EN

/-- A result completes on channel c. -/
def State.result (s : State) (c : Nat) (v : Int) (invalid : Bool) : State :=
  { s with msr := { s.msr with
      cur := tblSet (fun _ => (0 : Word)) s.msr.cur c (wN (b2n invalid * 2 ^ 31 + ux 30 v))
      fresh := if s.msr.fresh.contains c then s.msr.fresh else s.msr.fresh ++ [c] } }

/-- RESULT_LATCH at T_k (R334): every channel latches its last result, STALE where none is new. -/
def State.resultLatch (s : State) : State :=
  if s.live && s.on 11 then
    let t := s.forAll (List.range 64) fun t c =>
      t.setReg (R.MSR_RES c) (setFld (tblGet (fun _ => (0 : Word)) s.msr.cur c) 30 30 (b2n (!s.msr.fresh.contains c)));
    { t with msr := { t.msr with fresh := [], sarDone := [] } }
  else s

/-! ## Converters (R335, R336) -/

/-- The conversion slots of a period before the offset slot. -/
def State.sarSlots (s : State) : Nat := s.f F.STM_PERIOD.P / 100 - 1

/-- The slots that the enabled entries of a converter take, in entry order; an entry that finds none takes none. -/
def State.sarPlan (s : State) (b : Bool) : List (Nat × Nat) :=
  let n := s.sarSlots
  (List.range 16).foldl (fun acc j =>
    let e := j + (if b then 16 else 0)
    if !s.fb (F.MSR_SEQ.EN e) || decide (n = 0) then acc
    else
      let want := s.f (F.MSR_SEQ.SLOT e) % n
      match (List.range n).find? fun x => decide (want ≤ x) && !acc.any fun a => a.2 == x with
      | some x => acc ++ [(e, x)]
      | none => acc) []

/-- The offset of converter b in 1/256 LSB. -/
def State.sarOff (s : State) (b : Bool) : Int := sx 24 (s.f (F.MSR_OFF.OFF (b2n b)))

/-- Converter b runs. -/
def State.sarOn (s : State) (b : Bool) : Bool :=
  s.msrOn && s.timeValid && s.fb (if b then F.MSR_CTRL.SAREN_B else F.MSR_CTRL.SAREN_A)

/-- SAR_CONVERSION of entry e with its code (R335, R336): complete 90 cycles after its slot starts. -/
def State.sarConversion (s : State) (e code : Nat) : State :=
  let b := decide (16 ≤ e)
  match (s.sarPlan b).find? fun x => x.1 == e with
  | some (_, slot) =>
    if s.sarOn b && !s.msr.sarDone.contains e then
      let sample := s.boundary s.tm.k + slot * 6400
      let t := s.advanceTo (sample + 5760)
      let v := (code : Int) - nearest (t.sarOff b) 256
      let inv := !t.fb (F.MSR_OFF.VALID (b2n b)) || t.msr.rails.testBit 3
      let u := t.result e v inv
      let w : State := { u with msr := { u.msr with sarDone := u.msr.sarDone ++ [e] } }
      if w.fb (F.MSR_SEQ.QEN e) then
        w.hwPush 27 (BitVec.ofNat 64 (e * 2 ^ 58 + b2n inv * 2 ^ 57 + sample / 64 % 2 ^ 24 * 2 ^ 32 + ux 32 v))
      else w
    else s
  | none => s

/-- OFFSET_CONVERSION of converter b with its code, signed (R336). -/
def State.offsetConversion (s : State) (b : Bool) (code : Int) : State :=
  if s.sarOn b then
    let t := s.advanceTo (s.boundary s.tm.k + s.sarSlots * 6400 + 5760)
    let o := t.sarOff b
    let v := o + quot (256 * code - o) 16 1
    let n := tblGet (fun _ => (0 : Nat)) t.msr.offN (b2n b) + 1
    let u := (t.setF (F.MSR_OFF.OFF (b2n b)) (ux 24 v)).setB (F.MSR_OFF.VALID (b2n b)) (decide (16 ≤ n))
    let w := u.setB (if b then F.MSR_STATUS.OFFBAD_B else F.MSR_STATUS.OFFBAD_A) (decide (65536 < absI v));
    { w with msr := { w.msr with offN := tblSet (fun _ => (0 : Nat)) w.msr.offN (b2n b) (min 16 n) } }
  else s

/-- A write of MSR_CTRL (R336, R337): an enable of a converter starts its offset at 0, an enable of the filters starts
their count of outputs, and comparators that are off give 0. -/
def State.msrCtrlWrite (s : State) (v : Word) : State :=
  let old := s.reg R.MSR_CTRL
  let t := s.setReg R.MSR_CTRL (v &&& 0x7F#32)
  let run := fun (w : Word) (n : Nat) => bitAt w 0 && bitAt w n
  let off := fun (t : State) (b : Bool) =>
    if run v (if b then 2 else 1) && !run old (if b then 2 else 1) then
      let u := t.setReg (R.MSR_OFF (b2n b)) 0;
      { u with msr := { u.msr with offN := tblSet (fun _ => (0 : Nat)) u.msr.offN (b2n b) 0 } }
    else t
  let t1 := off (off t false) true
  let t2 : State := if run v 3 && !run old 3 then { t1 with msr := { t1.msr with sdN := [] } } else t1
  if run v 4 then t2 else (t2.setReg R.MSR_CMPSTAT 0).showTrips

/-! ## Sigma-delta inputs (R337) -/

/-- OSR of input s. -/
def State.osr (s : State) (i : Nat) : Nat := 16 * 2 ^ min 4 (s.f (F.MSR_SDCFG.OSRC i))

/-- SIGMA_DELTA_OUTPUT of input i (R337): INVALID over a realignment window, among the first 3 outputs, or with the input
stuck. -/
def State.sigmaDeltaOutput (s : State) (i : Nat) (value : Int) (stuck : Bool) : State :=
  if s.msrOn && s.fb F.MSR_CTRL.SDEN && s.fb (F.MSR_SDCFG.EN i) then
    let n := tblGet (fun _ => (0 : Nat)) s.msr.sdN i
    let clk := s.f (F.MSR_SDCFG.CLK i)
    let inv := decide (n < 3) || (s.mclk clk).windowEnd.isSome || stuck
    let t := s.result (32 + i) value inv
    let c2 : Int := 2 * (s.now : Int) - 3 * (s.osr i : Int) * (s.mclkPeriod clk : Int)
    let u := t.setReg R.MSR_STATUS (setFld (t.reg R.MSR_STATUS) (24 + i) (24 + i) (b2n stuck));
    { u with msr := { u.msr with
        sdN := tblSet (fun _ => (0 : Nat)) u.msr.sdN i (min 3 (n + 1))
        sdOut := u.msr.sdOut ++ [{ sd := i, centre2 := c2, value := value, invalid := inv }] } }
  else s

/-! ## Comparators (R338, R339) -/

/-- COMPARATOR_OUTPUT of comparator t: its input has stood beyond the threshold, or back within it, for FILT cycles. -/
def State.comparatorOutput (s : State) (t : Nat) (out : Bool) : State :=
  let at_ := tblGet (fun _ => (0 : Nat)) s.msr.cmpAt t
  if s.msrOn && s.fb F.MSR_CTRL.CMPEN && s.fb (F.MSR_CMP.EN t) && decide (at_ = 0 ∨ at_ + s.f (F.MSR_CMP.FILT t) ≤ s.tm.refclk) then
    let u := s.setReg R.MSR_CMPSTAT (setFld (s.reg R.MSR_CMPSTAT) t t (b2n out))
    (u.result 60 (u.f F.MSR_CMPSTAT.OUT) false).showTrips
  else s

/-- A new THR of comparator t: it counts from the next cycle, and the filter count restarts (R339). -/
def State.comparatorThreshold (s : State) (t thr : Nat) : State :=
  if s.on 11 then
    let u := s.setF (F.MSR_CMP.THR t) thr;
    { u with msr := { u.msr with cmpAt := tblSet (fun _ => (0 : Nat)) u.msr.cmpAt t (u.tm.refclk + 1) } }
  else s

/-! ## Monitors (R340, R341) -/

/-- The rails outside their windows show in MSR_STATUS.SUPPLY and raise source 24. -/
def State.setRails (s : State) (m : Nat) : State :=
  s.rose ({ s with msr := { s.msr with rails := m } }.setB F.MSR_STATUS.SUPPLY (decide (m ≠ 0))) [24]

/-- SUPPLY_OUT_OF_WINDOW and SUPPLY_IN_WINDOW of a rail, with its value in mV (R340). -/
def State.supplyRail (s : State) (rail mv : Nat) (out : Bool) : State :=
  if s.live && s.on 11 then (s.result (48 + rail) mv false).setRails (putBit s.msr.rails rail out) else s

/-- JUNCTION_TEMPERATURE_HIGH: a sensor reaches TJHI (R341). -/
def State.junctionHigh (s : State) (sensor : Nat) (q : Int) : State :=
  if s.live && s.on 11 then
    let t := s.result (56 + sensor) q false
    if sx 12 (s.f F.MSR_TJLIM.TJHI) ≤ q then s.rose (t.setB F.MSR_STATUS.TJHI true) [25] else t
  else s

/-- JUNCTION_TEMPERATURE_NORMAL: every sensor is 5 °C below TJHI (R341). -/
def State.junctionNormal (s : State) (qs : Nat → Int) : State :=
  if s.live && s.on 11 then
    let t := s.forAll (List.range 4) fun t n => t.result (56 + n) (qs n) false
    if (List.range 4).all fun n => decide (qs n + 20 ≤ sx 12 (s.f F.MSR_TJLIM.TJHI)) then
      t.setB F.MSR_STATUS.TJHI false
    else t
  else s

/-! ## Serials (R343) and CAPSET_COMPLETE (03 R93, R94) -/

/-- The serial recorded in a context. -/
def State.ctxSerial (s : State) (i : Nat) : Nat := s.ctxF i 0xE0 15 0 * 2 ^ 32 + s.ctxN i 0xE4

/-- The serial that port i reports (CAP1, CAP2). -/
def State.portSerial (s : State) (i : Nat) : Nat :=
  fld (s.reg (R.LNK_CAP i 1)) 23 0 * 2 ^ 24 + fld (s.reg (R.LNK_CAP i 2)) 23 0

/-- The calibration of a context as at a first recording (R343). -/
def State.calReset (s : State) (i : Nat) : State :=
  let t := ((s.setCtx i 0x180 0x40000000#32).setCtx i 0x184 (s.reg R.MSR_PINIT))
  t.forAll (List.range 16) fun u g => u.setCtx i (0x1C0 + 4 * g) 0

/-- A serial is recorded in a context. -/
def State.putSerial (s : State) (i serial : Nat) : State :=
  ((s.setCtx i 0xE0 (wN (serial / 2 ^ 32 % 65536))).setCtx i 0xE4 (wN serial)).calReset i

/-- MSR_SERNEWn.NEW of context i. -/
def State.serNew (s : State) (i : Nat) : Bool := bitAt (s.reg (R.MSR_SERNEW (i / 32))) (i % 32)

/-- MSR_SERNEWn.NEW of context i replaced; MSR_STATUS.SERNEW follows. -/
def State.setSerNew (s : State) (i : Nat) (b : Bool) : State :=
  let a := R.MSR_SERNEW (i / 32)
  let t := s.setReg a (setFld (s.reg a) (i % 32) (i % 32) (b2n b))
  t.setB F.MSR_STATUS.SERNEW ((List.range 4).any fun n => decide (t.reg (R.MSR_SERNEW n) ≠ 0))

/-- SERIAL_RECORD (R343): a context without a serial records it; one that differs is a replacement. -/
def State.serialRecord (s : State) (i : Nat) : State :=
  if !s.on 6 then s
  else if s.ctxSerial i = 0 then s.putSerial i (s.portSerial i)
  else if s.ctxSerial i ≠ s.portSerial i ∧ s.on 11 = true ∧ s.serNew i = false then
    (s.setSerNew i true).note 12 2 i
  else s

/-- CAPSET_COMPLETE: a full good set of CAP0 to CAP3 in one period takes LSTATE to UP, or to PROTOBAD for a foreign major
protocol (03 R93, R94). -/
def State.capsetComplete (s : State) (i : Nat) : State :=
  let p := s.port i
  if s.portOn i && decide (p.capMask = 15) && decide (2 ≤ s.lstate i) && !p.capFull then
    let t := (s.modPort i fun p => { p with capFull := true, capReq := false }).linkEvent 10 i 2 0
    (t.setLstate i (if fld (t.reg (R.LNK_CAP i 0)) 17 14 = 1 then 3 else 4)).serialRecord i
  else s

/-- SERIAL_ACCEPT: MSR_SERLO is written; it acts at the next boundary (R343). -/
def State.serialAccept (s : State) (lo : Word) : State :=
  if s.on 11 then
    { s with msr := { s.msr with serReq := some (s.f F.MSR_SERHI.CTX, s.f F.MSR_SERHI.SER * 2 ^ 32 + lo.toNat) } }
  else s

/-- An acceptance at its boundary (R343). -/
def State.serialBoundary (s : State) : State :=
  match s.msr.serReq with
  | some (i, serial) =>
    let t : State := { s with msr := { s.msr with serReq := none } }
    if t.on 6 && ctxIdx.contains i && t.serNew i && decide (serial = t.portSerial i) then
      let u := ((((t.setCtx i 0xCC 0).setCtx i 0xD0 0).setCtx i 0xD4 0).forAll (List.range 16) fun v g =>
        (v.setCtx i (0x100 + 8 * g) 0).setCtx i (0x104 + 8 * g) 0)
      (u.putSerial i serial).setSerNew i false
    else t.setB F.MSR_SERHI.REJ true
  | none => s

/-! ## Gate charge (R344) -/

/-- GATE_CHARGE_MEASURE: MSR_GQCMD with GO; LOc turns on for 2 µs, or the request is REFUSED. -/
def State.gateChargeMeasure (s : State) (c : Nat) (hs hsok : Bool) : State :=
  if s.live && s.on 11 then
    if s.commission && s.fb (F.BRP_CFG.USE c) && !s.brpRun c && !s.brpLatched c && !s.fb F.BRP_CTRL.VGDLOW &&
        s.msr.gq.isNone && (!hs || hsok) then
      let t := (s.setB F.MSR_GQRES.BUSY true).modBrpCh c fun x => { x with lo := true, loAt := some s.now }
      { t with msr := { t.msr with gq := some (c, hs) } }
    else s.setF F.MSR_GQRES.RES 4
  else s

/-- GATE_CHARGE_DONE with the charge measured, in 0.1 nC (R344). -/
def State.gateChargeDone (s : State) (qg : Nat) : State :=
  match s.msr.gq with
  | some (c, hs) =>
    if s.live && s.on 11 then
      let t := (s.advanceTo (s.now + (if hs then 179200 else 25600))).gatesOff c true
      let res := if qg < 20 then 1 else if qg < s.f F.MSR_GQWIN.QMIN then 2 else if s.f F.MSR_GQWIN.QMAX < qg then 3 else 0
      let u := (((t.setB F.MSR_GQRES.BUSY false).setF F.MSR_GQRES.RES res).setB F.MSR_GQRES.SIDE hs).setF F.MSR_GQRES.QG qg
      let v := u.setB F.MSR_STATUS.GQDONE true;
      { v with msr := { v.msr with gq := none } }
    else s
  | none => s

/-! ## Edge-delay trims (R350, R351) -/

/-- The trim of a pair: gate g, rising or falling. -/
def State.trim (s : State) (i g : Nat) (rising : Bool) : Int :=
  sx 12 (if rising then s.ctxF i (0x1C0 + 4 * g) 11 0 else s.ctxF i (0x1C0 + 4 * g) 27 16)

def State.setTrim (s : State) (i g : Nat) (rising : Bool) (v : Int) : State :=
  if rising then s.setCtxF i (0x1C0 + 4 * g) 11 0 (ux 12 v) else s.setCtxF i (0x1C0 + 4 * g) 27 16 (ux 12 v)

/-- The key of a pair: 32 i + 2 g + rising. -/
def pairKey (i g : Nat) (rising : Bool) : Nat := 32 * i + 2 * g + b2n rising

/-- A changed trim waits for a CAL word, after those that changed before. -/
def State.trimChanged (s : State) (key : Nat) : State :=
  { s with msr := { s.msr with changed := (s.msr.changed.filter fun x => x ≠ key) ++ [key] } }

/-- TIME_WORD_SAMPLE (R350): a valid sample adds to the average of its pair; a full average moves the trim. -/
def State.timeSample (s : State) (i : Nat) (data : Word) : State :=
  let g := fld data 31 28
  let rising := bitAt data 27
  let key := pairKey i g rising
  let err := sx 16 (fld data 15 0)
  let hold := tblGet (fun _ => (0 : Nat)) s.msr.pairHold key
  if !(s.msrOn && s.on 6 && s.fb F.MSR_CTRL.TRIMEN) || !bitAt data 26 || decide (s.tm.k < hold) ||
      decide (err = 32767 ∨ err = -32768) then s
  else
    let n := tblGet (fun _ => (0 : Nat)) s.msr.pairN key + 1
    let sum := tblGet (fun _ => (0 : Int)) s.msr.pairSum key + err
    let avg := s.f F.MSR_CALCFG.TRIMAVG
    let full := 2 ^ (if avg ≤ 6 then avg else 6)
    let put := fun (n : Nat) (x : Int) (t : State) =>
      ({ t with msr := { t.msr with
          pairN := tblSet (fun _ => (0 : Nat)) t.msr.pairN key n
          pairSum := tblSet (fun _ => (0 : Int)) t.msr.pairSum key x } } : State)
    if n < full then put n sum s
    else
      let m := nearest sum full
      let t := put 0 0 s
      if m = 0 then t
      else
        let st : Int := s.f F.MSR_CALCFG.TRIMSTEP
        let v := clampI (-2047) 2047 (s.trim i g rising - clampI (-st) st m)
        if v = s.trim i g rising then t
        else
          let u := (t.setTrim i g rising v).trimChanged key;
          { u with msr := { u.msr with pairHold := tblSet (fun _ => (0 : Nat)) u.msr.pairHold key (s.tm.k + 33) } }

/-- TRIMSET_WRITE: a stage-group gate's trim, which the round then carries (R351); an arm-group gate is ignored. -/
def State.trimsetWrite (s : State) (i gate : Nat) (fall : Bool) (v : Int) : State :=
  if s.on 11 && s.on 6 && ctxIdx.contains i && !(groupMask (s.cClass i) 0).testBit gate then
    (s.setTrim i gate (!fall) v).trimChanged (pairKey i gate (!fall))
  else s

/-- The CAL word of a pair (03 R88). -/
def State.calWordOf (s : State) (key : Nat) : Word :=
  let i := key / 32
  let g := key % 32 / 2
  let rising := decide (key % 2 = 1)
  wN ((if rising then 1 else 2) * 2 ^ 28 + g * 2 ^ 24 + ux 12 (s.trim i g rising))

/-- The CAL words of port i for the period (R351): changed trims first, then the round over the pairs not 0. -/
def State.calPort (s : State) (i : Nat) : State :=
  let ch := (s.msr.changed.filter fun k => k / 32 == i).take 2
  let start := tblGet (fun _ => (0 : Nat)) s.msr.round i
  let ring := ((List.range 32).map fun n => (start + n) % 32).filter fun p =>
    decide (s.trim i (p / 2) (decide (p % 2 = 1)) ≠ 0) && !ch.contains (32 * i + p)
  let more := ring.take (2 - ch.length)
  let t := s.schedCal i ((ch ++ more.map (32 * i + ·)).map s.calWordOf);
  { t with msr := { t.msr with
      changed := t.msr.changed.filter fun k => !ch.contains k
      round := match more.getLast? with
        | some p => tblSet (fun _ => (0 : Nat)) t.msr.round i ((p + 1) % 32)
        | none => t.msr.round } }

/-- The CAL words of every enabled port at a boundary. -/
def State.calBoundary (s : State) : State :=
  if s.msrOn && s.on 6 then s.forAll (ctxIdx.filter s.portOn) State.calPort else s

/-! ## Cell gains (R346 to R348) -/

/-- The signed insertion time of a cell over period k−1 in ticks, from the edges emitted for it; a pulse or a notch has
the width of 04 R136, its edges standing t_dead further apart (R346). -/
def State.insertTicks (s : State) (i : Nat) : Int :=
  let c := s.cell i
  let p : Int := s.periodTicks
  let t0 := s.boundary (s.tm.k - 1)
  let cls := s.cClass i
  let lvl := fun (x : CsEdge) => levelOfEntry (s.pat cls x.idx)
  let pos := fun (x : CsEdge) => clampI 0 p ((x.due : Int) - t0)
  let walk := c.edgesPrev.foldl (fun (acc : Int × Int × Int) x =>
    let (lv, at_, sum) := acc
    (lvl x, pos x, sum + lv * (pos x - at_))) (c.startPrev, 0, 0)
  let raw := walk.2.2 + walk.1 * (p - walk.2.1)
  let inner := c.edgesPrev.filter fun x => decide (0 < pos x)
  match inner with
  | [a, b] =>
    if s.f (F.CS_ACFG.MODE (s.blockOf i)) = 3 then
      -- The interior interval is one dead time longer than the width it stands for.
      let d : Int := s.tDead cls
      raw - lvl a * d + lvl b * d
    else raw
  | _ => raw

/-- What the estimator takes of one member: its insertion time and its reported voltage in mV. -/
def State.gainX (s : State) (i : Nat) : Int × Int :=
  (s.insertTicks i, (fld (s.snap i 1) 28 14 * fld (s.reg (R.LNK_CAP i 3)) 28 21 * 10 : Nat))

/-- The update of one member (R348): G in Q2.30, P in 2^−40 V^−2, X = τ ticks × mV over D = P × 64, r = Rn / Rd mV and
den = Dn / Dd. -/
def State.gainOne (s : State) (i : Nat) (x d rn rd dn dd lam : Int) (lim : Nat) : State :=
  let g : Int := s.ctxN i 0x180
  let p : Int := s.ctxN i 0x184
  let u : Int := 2 ^ 40 * 1000000
  let gn := g * (u * d * rd * dn) + 2 ^ 30 * p * x * rn * dd
  let g1 := quot gn (u * d * rd * dn) 2
  let p1 := quot ((p * u * d * d * dn - p * p * x * x * dd) * (lam + 1)) (u * d * d * dn * lam) 3
  let hi : Int := quot (2 ^ 30 * (1000 + lim : Nat)) 1000 4
  let lo : Int := quot (2 ^ 30 * (1000 - lim : Nat)) 1000 5
  let out := decide (1000 * g1 > 2 ^ 30 * (1000 + lim : Nat)) || decide (1000 * g1 < 2 ^ 30 * (1000 - lim : Nat))
  let g2 := if 1000 * g1 > 2 ^ 30 * (1000 + lim : Nat) then hi else if 1000 * g1 < 2 ^ 30 * (1000 - lim : Nat) then lo else g1
  let t := ((s.setCtx i 0x180 (wN (ux 32 g2))).setCtx i 0x184 (wN (clampI 0 (2 ^ 32 - 1) p1).toNat)).setCtx i 0x18C
    (wN (satAdd 32 (s.ctxN i 0x18C) 1))
  if out then
    let v := t.setB F.MSR_STATUS.GAINX true
    if v.msr.gainNoted.contains i then v
    else (({ v with msr := { v.msr with gainNoted := v.msr.gainNoted ++ [i] } } : State).note 12 1 i)
  else t

/-- GAIN_UPDATE of arm block a at T_k (R346 to R348). -/
def State.gainUpdate (s : State) (a : Nat) : State :=
  let k := s.tm.k
  let t0 : Int := 2 * (s.boundary (k - 1) : Int)
  let t1 : Int := 2 * (s.boundary k : Int)
  let outs := s.msr.sdOut.filter fun o => decide (o.sd = s.f (F.MSR_ARMV.SD a)) && decide (t0 ≤ o.centre2 ∧ o.centre2 < t1)
  let n := outs.length
  let yn : Int := outs.foldl (fun x o => x + o.value) 0 * (s.f (F.MSR_ARMV.SCALE a) : Int)
  let yd : Int := 65536 * (n : Int)
  let inv := outs.any (·.invalid) || decide (n = 0)
  let s1 := if a < 8 then s.result (40 + a) (if n = 0 then 0 else quot yn yd 6) inv else s
  let mem := (s.members a).filter s.drives
  let used := mem.filter fun i => decide (s.insertTicks i ≠ 0)
  let ok := !inv && s.fb F.MSR_CTRL.GAINEN &&
    !(used.any fun i => bitAt (s.ctx i 0x80) 1) && !(mem.any fun i => (s.cell i).repeated || (s.cell i).moved) &&
    decide ((s.f F.MSR_CALCFG.MINV : Int) * 10000 * yd ≤ absI yn)
  if !ok then s1
  else
    let d : Int := s.periodTicks
    let xs := used.map fun i => (i, (s.gainX i).1 * (s.gainX i).2)
    let sgx := xs.foldl (fun z x => z + (s.ctxN x.1 0x180 : Int) * x.2) (0 : Int)
    let rn := yn * 2 ^ 30 * d - yd * sgx
    let rd := yd * 2 ^ 30 * d
    let lexp := s.f F.MSR_CALCFG.LAMBDA
    let l2 : Int := ((2 ^ (if 6 ≤ lexp then lexp else 10) : Nat) : Int)
    let u : Int := 2 ^ 40 * 1000000
    let spx := xs.foldl (fun z x => z + (s.ctxN x.1 0x184 : Int) * x.2 * x.2) (0 : Int)
    let dn := (l2 - 1) * u * d * d + l2 * spx
    let dd := l2 * u * d * d
    s1.forAll (xs.filter fun x => decide (x.2 ≠ 0)) fun t x =>
      t.gainOne x.1 x.2 d rn rd dn dd (l2 - 1) (s.f F.MSR_CALCFG.GAINLIM)

/-- UCAL of every context from its snapshot (R348). -/
def State.ucalBoundary (s : State) : State :=
  if s.live && s.on 6 && s.on 11 then
    s.forAll (ctxIdx.filter fun i => decide (s.cst i ≠ 0)) fun t i =>
      t.setCtx i 0x188 (w32 (quot ((t.ctxN i 0x180 : Int) * (t.gainX i).2) (2 ^ 30) 7))
  else s

/-- The MSR's part of a boundary: the arm observations with their gains, UCAL, the CAL words, and the result latch. -/
def State.msrBoundary (s : State) : State :=
  if s.msrOn && s.on 6 then
    let t := s.forAll ((List.range 16).filter fun a => s.fb (F.MSR_ARMV.EN a)) State.gainUpdate
    let cut : Int := 2 * (s.boundary (s.tm.k - 1) : Int)
    let u : State := { t with msr := { t.msr with sdOut := t.msr.sdOut.filter fun o => decide (cut ≤ o.centre2) } }
    u.ucalBoundary.calBoundary.resultLatch
  else s.ucalBoundary.resultLatch

/-! ## Uplink words (03 R98; 09 R304) -/

/-- UPLINK_WORD_RECEIVE in whole: the report words, TIME samples for the trims, and TOKACK for the Ring Port. -/
def State.uplinkReceive (s : State) (i : Nat) (good : Bool) (ty seq : Nat) (data trx : Word) : State :=
  let live := s.portOn i && decide (2 ≤ s.lstate i) && good && !(s.port i).tooLate seq
  let t := s.uplinkWord i good ty seq data trx
  if live && decide (ty = 1) then t.timeSample i data
  else if live && decide (ty = 5) && decide (fld data 31 28 = 2) then t.tokackReceive i (fld data 15 0)
  else t

end Sys2Proof.Machine
end

