-- ==== Sys2Proof/Machine/SafetyUnit.lean ====
section
/-! DEFINITION. The Safety unit (13): demands and their latch, the SF1 stop, the safety reset and ARM, the loss and the
requalification of a channel, the comparison of the channels, the channel B monitors, pulse tests, and safety frames. -/

namespace Sys2Proof.Machine

/-! ## Time and access -/

/-- The SFU runs: PD2 on and the reset released. -/
def State.sfuOn (s : State) : Bool := s.live

/-- REFCLK cycles of a number of microseconds and milliseconds at 200 MHz. -/
def usCycles (n : Nat) : Nat := n * 200
def msCycles (n : Nat) : Nat := n * 200000

/-- The chip's clock moved forward to a REFCLK cycle that is still ahead (log 4). -/
def State.untilCycle (s : State) (rc : Nat) : State := s.advanceCycles (rc - s.tm.refclk)

/-- The Bedrock seconds moved forward to a count that is still ahead (log 4). -/
def State.untilSecond (s : State) (n : Nat) : State :=
  if s.f F.SYSC_BSEC.SECS < n then s.setF F.SYSC_BSEC.SECS n else s

/-- A write of the safety pair takes effect; of any other requester it only counts (R401). -/
def State.sfuWrite (s : State) (req : Requester) (h : State → State) : State :=
  if s.on 2 then (if req = .pair then h s else s.incF F.SFU_CTRL.WREJ 1) else s

/-! ## Functions and outputs (R376, R380 to R382) -/

/-- HELD as a mask of functions, bit n for SF(n + 1). -/
def State.held (s : State) : Nat := s.f F.SFU_STATUS.HELD

/-- What a demand of functions demands in all: only functions in use; SF3 and SF4 issue SF1; each adds SF2 where TRIP
selects it (R376, R380, SFU_SFCFG; log 35). SF1 and SF2 are always in use, and bit 1 of TRIP reads 1. -/
def State.demandFuncs (s : State) (m : Nat) : Nat :=
  let en := s.f F.SFU_SFCFG.EN ||| 3
  let trip := s.f F.SFU_SFCFG.TRIP ||| 2
  let u := m &&& en &&& 15
  let v := if u &&& 12 ≠ 0 then u ||| 1 else u
  if v &&& trip ≠ 0 then v ||| 2 else v

/-- Output o of R391 stands at trip level: not armed, SF2 held for TRIPA and TRIPB, a function of its mask or the safe
state for SOn, the reset hold, or a pulse in progress (R382, R391). -/
def State.outTrip (s : State) (o : Nat) : Bool :=
  !s.live || !s.fb F.SFU_STATUS.ARMED || s.fb (F.SFU_PTSTAT.RUNNING o) ||
    (if o < 2 then bitAt (wN s.held) 1
     else s.fb F.SFU_STATUS.SAFE || decide (s.held &&& (s.f F.SFU_SOCFG.MASK / 16 ^ (o - 2) % 16) ≠ 0)) ||
    s.sfu.resetHold

/-- A demand of functions drives output o to trip level. -/
def State.drivesTrip (s : State) (funcs : Nat) (safe : Bool) (o : Nat) : Bool :=
  if o < 2 then decide (funcs &&& 2 ≠ 0)
  else safe || decide (funcs &&& (s.f F.SFU_SOCFG.MASK / 16 ^ (o - 2) % 16) ≠ 0)

/-! ## Pulse tests aborted (R393) -/

def State.ptRunning (s : State) (o : Nat) : Option Nat :=
  match tblGet (fun _ => (0 : Nat)) s.sfu.ptRun o with
  | 0 => none
  | n + 1 => some n

/-- The pulse of output o ends: RUNNING clears and the end is kept for the pair's other output (R392). -/
def State.ptStop (s : State) (o : Nat) : State :=
  let t := s.setB (F.SFU_PTSTAT.RUNNING o) false;
  { t with sfu := { t.sfu with ptRun := tblSet (fun _ => (0 : Nat)) t.sfu.ptRun o 0,
                               ptEnd := tblSet (fun _ => (0 : Nat)) t.sfu.ptEnd o (t.tm.refclk + 1) } }

/-- A demand wins over a test in progress: the test is aborted, its result discarded, and ABORTS counts it; it comes
back after the safety reset (R393). -/
def State.ptAbort (s : State) (o : Nat) : State :=
  if (s.ptRunning o).isSome then
    let t := (s.incF (F.SFU_PTSTAT.ABORTS o) 1).ptStop o;
    { t with sfu := { t.sfu with ptNext := tblSet (fun _ => (0 : Nat)) t.sfu.ptNext o 0 } }
  else s

/-! ## SF1 (R378, R379) -/

/-- What an SF1 demand does in the cycle in which it is taken: the stop request of R109, the hard stop of the bridge
port, and everything that waits is discarded. -/
def State.sf1Act (s : State) : State :=
  let t := s.stopRequest.hardStop true
  let u := if t.on 6 then t.forAll (ctxIdx.filter t.pendRet) fun x i => x.setCtxF i 0 7 7 0 else t
  let v := if u.on 6 then { (u.setB F.CS_CMDSTAT.BUSY false) with cs := { u.cs with cmd := none } } else u
  v.forAll (ctxIdx.filter fun i => v.fb (F.LNK_CMD.PEND i)) fun x i =>
    (x.setB (F.LNK_CMD.PEND i) false).modPort i fun p => { p with cmds := p.cmds.filter fun l => !(l.any (·.lnkCmd)) }

/-! ## Demands (R381, R382) -/

/-- DEM shows the functions that live sources demand (R382). -/
def State.showDem (s : State) : State :=
  s.setF F.SFU_STATUS.DEM (s.sfu.live.foldl (fun m x => m ||| x.funcs) 0)

/-- The channels' demands of the sources that R387 compares. -/
def State.noteMade (s : State) (funcs : Nat) (a b : Bool) : State :=
  { s with sfu := { s.sfu with madeA := if a then s.sfu.madeA ||| funcs else s.sfu.madeA,
                               madeB := if b then s.sfu.madeB ||| funcs else s.sfu.madeB } }

/-- A demand is taken (R381, R382): the functions are latched, the first cause of a latched demand is recorded, record
0x0001 is written, SF1 stops, and a test of an output that it drives to trip level is aborted. -/
def State.demand (s : State) (m cause pos : Nat) (safe : Bool) : State :=
  let f := s.demandFuncs m
  if f = 0 then s
  else
    let t := s.setF F.SFU_STATUS.HELD (s.held ||| f)
    let u := if t.f F.SFU_CAUSE.CAUSE = 0 then
        (t.setF F.SFU_CAUSE.CAUSE cause).setF F.SFU_CAUSE.POS (if cause = 5 ∨ cause = 7 then pos else 0)
      else t
    let v := (if safe then u.setB F.SFU_STATUS.SAFE true else u).note 6 1 (f * 256 + cause)
    let w := v.forAll ((List.range 6).filter (v.drivesTrip f safe)) State.ptAbort
    if f &&& 1 ≠ 0 then w.sf1Act else w

/-- A level source becomes live, or ends (R382). A source already live does not demand again. -/
def State.demandLevel (s : State) (m cause pos : Nat) (safe : Bool) : State :=
  if s.sfu.live.any fun x => x.cause == cause && x.pos == pos then s
  else
    let f := s.demandFuncs m
    if f = 0 then s
    else
      let t : State := { s with sfu := { s.sfu with live := s.sfu.live ++ [⟨cause, pos, f⟩] } }
      t.showDem.demand m cause pos safe

def State.demandEnd (s : State) (cause pos : Nat) : State :=
  State.showDem { s with sfu := { s.sfu with live := s.sfu.live.filter fun x => !(x.cause == cause && x.pos == pos) } }

/-- The safe state: SF1 and SF2 together, with SO0 to SO3 at trip level (R381). -/
def State.safeState (s : State) (cause : Nat) (level : Bool) : State :=
  if level then s.demandLevel 3 cause 0 true else s.demand 3 cause 0 true

/-- SF1_DEMAND (R378, R381): a source of the table of R381, named by its CAUSE, demands SF1. -/
def causeOk (c : Nat) : Bool := decide (1 ≤ c ∧ c ≤ 9) || decide (0x10 ≤ c ∧ c ≤ 0x27)

def State.sf1Demand (s : State) (cause pos : Nat) : State :=
  if s.sfuOn && causeOk cause then
    let t := if cause = 1 ∨ cause = 2 ∨ cause = 4 ∨ cause = 5 ∨ cause = 6 ∨ cause = 7 then
        s.noteMade (s.demandFuncs 1) true true else s
    t.demand 1 cause pos false
  else s

/-! ## SAFE_IN inputs (R381, R382; the discrepancy of the two) -/

def inField (b : Bool) : Field := if b then F.SFU_SIN.INB else F.SFU_SIN.INA

/-- The level of an input, and the cycle since which the two differ. -/
def State.setInput (s : State) (b lvl : Bool) : State :=
  let t := s.setB (inField b) lvl
  let differ := t.fb F.SFU_SIN.INA != t.fb F.SFU_SIN.INB;
  { t with sfu := { t.sfu with discSince := if differ then (if t.sfu.discSince.isSome then t.sfu.discSince
                                                             else some t.tm.refclk) else none } }

/-- SAFE_INPUT_DEMAND: input A (false) or B (true) is low past its filter, as channel A and channel B see it. -/
def State.safeInputDemand (s : State) (b chA chB : Bool) : State :=
  if s.sfuOn && (chA || chB) then
    let t := s.setInput b false
    let m := if t.fb F.SFU_SIN.SF2MAP then 3 else 1
    (t.noteMade (t.demandFuncs m) chA chB).demandLevel m (if b then 2 else 1) 0 false
  else s

/-- SAFE_INPUT_RELEASE: the input is high again; SINDISC clears once both are high together. -/
def State.safeInputRelease (s : State) (b : Bool) : State :=
  if s.sfuOn then
    let t := (s.setInput b true).demandEnd (if b then 2 else 1) 0
    if t.fb F.SFU_SIN.INA && t.fb F.SFU_SIN.INB then t.setB F.SFU_STATUS.SINDISC false else t
  else s

/-- SINDISC: the two inputs have differed for more than DISC ms. -/
def State.sindisc (s : State) : State :=
  match s.sfu.discSince with
  | some c =>
    if s.sfuOn && !s.fb F.SFU_STATUS.SINDISC then
      ((s.untilCycle (c + msCycles (s.f F.SFU_SIN.DISC) + 1)).setB F.SFU_STATUS.SINDISC true).note 6 7 0
    else s
  | none => s

/-! ## Firmware demands (R381) -/

/-- FWDEM_WRITE: each bit that rises demands its function through channel A; the demand lives while the bit is 1. Bit n
is a source of its own. -/
def State.fwdemWrite (s : State) (req : Requester) (v : Nat) : State :=
  s.sfuWrite req fun s =>
    let old := s.f F.SFU_CTRL.FWDEM
    let t := s.setF F.SFU_CTRL.FWDEM v
    t.forAll (List.range 4) fun u n =>
      if v.testBit n && !old.testBit n then u.demandLevel (2 ^ n) 3 n false
      else if !v.testBit n then u.demandEnd 3 n else u

/-! ## Losing a channel (R384, R385) -/

def degField (b : Bool) : Field := if b then F.SFU_STATUS.DEGB else F.SFU_STATUS.DEGA

/-- T_deg starts; a timer that runs goes on. -/
def State.tdegStart (s : State) : State :=
  if s.sfu.tdegEnd.isSome || s.sfu.tdegExp then s
  else
    let t := s.setF F.SFU_TDEGREM.SECS (s.f F.SFU_TDEG.SECS);
    { t with sfu := { t.sfu with tdegEnd := some (s.f F.SYSC_BSEC.SECS + s.f F.SFU_TDEG.SECS) } }

/-- T_deg stops and is reloaded. -/
def State.tdegStop (s : State) : State :=
  let t := s.setF F.SFU_TDEGREM.SECS (s.f F.SFU_TDEG.SECS);
  { t with sfu := { t.sfu with tdegEnd := none } }

/-- SFU_TDEGREM as it reads: the remaining whole seconds of a timer that runs. -/
def State.tdegRem (s : State) : Nat :=
  match s.sfu.tdegEnd with
  | some e => e - s.f F.SYSC_BSEC.SECS
  | none => s.f F.SFU_TDEGREM.SECS

/-- A channel is lost, by row r of its list in R384: source 27, DEGA or DEGB, record 0x0004, T_deg; both lost bring the
safe state at once. A cause that a lost channel shows again only begins its 64 periods anew (R386). -/
def State.channelLoss (s : State) (b : Bool) (r : Nat) : State :=
  let t : State := { s with sfu := { s.sfu with cleanA := if b then s.sfu.cleanA else 0,
                                                cleanB := if b then 0 else s.sfu.cleanB } }
  if t.fb (degField b) then t
  else
    let u := ((t.setB (degField b) true).note 6 4 (b2n b * 256 + r)).tdegStart
    let v := t.rose u [27]
    if v.fb F.SFU_STATUS.DEGA && v.fb F.SFU_STATUS.DEGB then v.safeState 9 true else v

/-- The loss causes of R384 that stand in the state, by row: 1 the heartbeat, 2 the pair's watchdog, 3 the pair stopped.
A failed pulse test loses its channel by itself; channel B's self checks are its own. -/
def State.lossCause (s : State) (b : Bool) (r : Nat) : Bool :=
  if b then decide (r = 1 ∨ r = 2)
  else if r = 1 then decide (2 ≤ s.sfu.hbMiss)
  else if r = 2 then s.fb (F.FCU_WDT.EXP 4)
  else decide (r = 3) && decide ((s.proc 4).run = .stopped)

/-- CHANNEL_LOST: watched once the configuration is armed (log 36). -/
def State.channelLost (s : State) (b : Bool) (r : Nat) : State :=
  if s.sfuOn && s.fb F.SFU_STATUS.ARMED && s.lossCause b r then s.channelLoss b r else s

/-- TDEG_EXPIRY: the timer reaches 0, and the remaining channel enters the safe state (R385). -/
def State.tdegExpiry (s : State) : State :=
  match s.sfu.tdegEnd with
  | some e =>
    if s.sfuOn then
      let t := (s.untilSecond e).setF F.SFU_TDEGREM.SECS 0
      let u : State := { t with sfu := { t.sfu with tdegEnd := none, tdegExp := true } }
      u.safeState 8 true
    else s
  | none => s

/-! ## ARM and the safety reset (R383, R390) -/

/-- DIV of the CLKOUT that clocks sigma-delta input d, and whether it is enabled. -/
def State.sdClk (s : State) (d : Nat) : Nat := s.f (F.MSR_SDCFG.CLK d)

/-- OSR of monitor m (R388, SFU_BMONm). -/
def State.bmonOsr (s : State) (m : Nat) : Nat := 16 * 2 ^ min 4 (s.f (F.SFU_BMON.OSRC m))

/-- The conditions of R390 by code. An OVL monitor's confirmation is 0.1 ns exact: (3 + CONF) × OSR × DIV cycles of
5 ns against 18.5 µs. -/
def State.cfgErr (s : State) : Option Nat :=
  let mons := (List.range 6).filter fun m => s.fb (F.SFU_BMON.EN m)
  let ovl := fun (m : Nat) => decide (s.f (F.SFU_BMON.MODE m) = 2)
  let filt := s.f F.SFU_SIN.FILT
  let conds : List (Nat × Bool) := [
    (1, decide (filt < 1 ∨ 160 < filt)),
    (2, mons.any fun m => !ovl m && (List.range 4).any fun j =>
      s.fb (F.SFU_BTHR.EN m j) && decide (1950 < s.f (F.SFU_BTHR.DELAY m j))),
    (3, mons.any fun m => ovl m && decide
      (3700 < (3 + s.f (F.SFU_BMON.CONF m)) * s.bmonOsr m * s.f (F.CLK_MCLK.DIV (s.sdClk (s.f (F.SFU_BMON.SD m)))))),
    (4, (List.range 6).any fun o => s.fb (F.SFU_PTCFG.EN o) &&
      (let w := s.f (F.SFU_PTCFG.TPW o); let n := s.f (F.SFU_PTCFG.INTV o); decide (w < 10 ∨ 300 < w ∨ n < 1 ∨ 60 < n))),
    (5, let n := s.f F.SFU_TDEG.SECS; decide (n < 1 ∨ 259200 < n)),
    (6, mons.any fun m => !s.fb (F.CLK_MCLK.EN (s.sdClk (s.f (F.SFU_BMON.SD m)))) ||
      (ovl m && decide (s.f (F.SFU_BMON.CONF m) = 0)))]
  (conds.find? (·.2)).map (·.1)

/-- SFU_ARM (R390): the configuration is checked and locked, or CFGERR names the first condition that fails. -/
def State.sfuArm (s : State) (req : Requester) : State :=
  s.sfuWrite req fun s =>
    match s.cfgErr with
    | some n => s.setF F.SFU_STATUS.CFGERR n
    | none =>
      if s.fb F.SFU_STATUS.ARMED then s
      else
        let t := s.setB F.SFU_STATUS.ARMED true;
        { t with sfu := { t.sfu with armedAt := t.tm.refclk, hbOk := true, hbMiss := 0, lastOk := [], silent := [] } }

/-- The first condition of R383 that fails: 1 DEM, 2 the inputs, 3 a lost channel or an expired T_deg, 4 an open window
with a copy pending, 5 not armed (R382; log 37). -/
def State.sresetCond (s : State) : Option Nat :=
  if s.f F.SFU_STATUS.DEM ≠ 0 then some 1
  else if !(s.fb F.SFU_SIN.INA && s.fb F.SFU_SIN.INB) then some 2
  else if s.fb F.SFU_STATUS.DEGA || s.fb F.SFU_STATUS.DEGB || s.sfu.tdegExp then some 3
  else if s.sfu.windows.any fun w => decide (w.copies.length < 2) then some 4
  else if !s.fb F.SFU_STATUS.ARMED then some 5
  else none

/-- A request is refused: RSTREJ and record 0x0003 with the unmet condition. -/
def State.sfuRefuse (s : State) (n : Nat) : State := (s.setB F.SFU_STATUS.RSTREJ true).note 6 3 n

/-- The instant of the first scheduled test of each enabled output: one INTV after the safety reset, plus o × 100 ms
(R392, R393). -/
def State.ptSchedule (s : State) : State :=
  s.forAll (List.range 6) fun t o =>
    let n := if t.fb (F.SFU_PTCFG.EN o) then
        t.tm.refclk + msCycles (1000 * t.f (F.SFU_PTCFG.INTV o) + 100 * o) + 1 else 0;
    { t with sfu := { t.sfu with ptNext := tblSet (fun _ => (0 : Nat)) t.sfu.ptNext o n } }

/-- SAFETY_RESET (R383): HELD, SAFE and the cause clear, SAFEHOLD clears on every bridge channel, and the schedule is
re-armed; or the write is refused. -/
def State.safetyReset (s : State) (req : Requester) : State :=
  s.sfuWrite req fun s =>
    match s.sresetCond with
    | some n => s.sfuRefuse n
    | none =>
      let t := ((s.setF F.SFU_STATUS.HELD 0).setB F.SFU_STATUS.SAFE false).setReg R.SFU_CAUSE 0
      let u := t.forAll (List.range 8) fun x c =>
        if x.fb (F.BRP_STAT.SAFEHOLD c) then x.setB (F.BRP_STAT.SAFEHOLD c) false else x
      let v : State := { u with sfu := { u.sfu with madeA := 0, madeB := 0, xAge := 0, xNoted := 0, resetHold := false } }
      v.ptSchedule.note 6 2 0

/-! ## The comparison of the channels (R387) -/

/-- The functions that one channel has demanded and the other has not, and that are not yet reported. -/
def State.xDiff (s : State) : Nat := (s.sfu.madeA ^^^ s.sfu.madeB) &&& (15 - s.sfu.xNoted)

/-- XDIS: the other channel has not followed within XWIN periods. -/
def State.xdis (s : State) : State :=
  if s.sfuOn && decide (s.xDiff ≠ 0) && decide (s.f F.SFU_XWIN.PER ≤ s.sfu.xAge) then
    let t : State := { s with sfu := { s.sfu with xNoted := s.sfu.xNoted ||| s.xDiff } }
    (t.setB F.SFU_STATUS.XDIS true).note 6 8 s.xDiff
  else s

/-! ## Pulse tests (R391 to R394) -/

/-- The other output of o's pair. -/
def ptOther (o : Nat) : Nat := if o % 2 = 0 then o + 1 else o - 1

/-- The outputs of a channel in index order: A drives TRIPA, SO0, SO2, B drives TRIPB, SO1, SO3. -/
def chanOuts (b : Bool) : List Nat := if b then [1, 3, 5] else [0, 2, 4]

/-- Output o goes to trip level for a test. -/
def State.ptBegin (s : State) (o : Nat) : State :=
  let t := s.setB (F.SFU_PTSTAT.RUNNING o) true;
  { t with sfu := { t.sfu with ptRun := tblSet (fun _ => (0 : Nat)) t.sfu.ptRun o (t.tm.refclk + 1) } }

/-- The last end of any of the outputs given. -/
def State.lastEnd (s : State) (l : List Nat) : Nat :=
  (l.map fun o => tblGet (fun _ => (0 : Nat)) s.sfu.ptEnd o).foldl max 0

/-- PULSE_TEST_START of output o: its scheduled instant, put off to 10 ms after the other output's pulse (R392); or the
next test of a requalification, 10 ms after the previous one (R394). -/
def State.pulseTestStart (s : State) (o : Nat) : State :=
  if s.sfuOn && (s.ptRunning o).isNone && (s.ptRunning (ptOther o)).isNone then
    match s.sfu.requal with
    | some (b, q :: _) =>
      if q = o ∧ (chanOuts b).all fun x => (s.ptRunning x).isNone then
        (s.untilCycle (s.lastEnd (ptOther o :: chanOuts b) - 1 + msCycles 10)).ptBegin o
      else s
    | _ =>
      let n := tblGet (fun _ => (0 : Nat)) s.sfu.ptNext o
      if s.fb F.SFU_STATUS.ARMED && s.fb (F.SFU_PTCFG.EN o) && decide (n ≠ 0) && !s.outTrip o then
        let e := tblGet (fun _ => (0 : Nat)) s.sfu.ptEnd (ptOther o)
        let t := (s.untilCycle (max (n - 1) (if e = 0 then 0 else e - 1 + msCycles 10))).ptBegin o
        let n1 := n + msCycles (1000 * t.f (F.SFU_PTCFG.INTV o));
        { t with sfu := { t.sfu with ptNext := tblSet (fun _ => (0 : Nat)) t.sfu.ptNext o n1 } }
      else s
  else s

/-- A requalification ends: every test passed, or one failed (R386). -/
def State.requalEnd (s : State) (b ok : Bool) : State :=
  let t : State := { s with sfu := { s.sfu with requal := none } }
  if ok then
    let u := ((t.setB (degField b) false).tdegStop).note 6 5 (b2n b * 256)
    let v : State := { u with sfu := { u.sfu with tdegExp := false } }
    (v.demandEnd 8 0).demandEnd 9 0
  else t.sfuRefuse 0x13

/-- PULSE_TEST_RESULT of output o: passed, TESTS counts; failed, PTFAIL, FAIL, record 0x0006 and the loss of the
channel (R391). -/
def State.pulseTestResult (s : State) (o : Nat) (pass : Bool) : State :=
  match s.ptRunning o with
  | some c =>
    if s.sfuOn then
      let w := if pass then c + usCycles (s.f (F.SFU_PTCFG.TPW o)) else c + usCycles 20
      let t := (s.untilCycle w).ptStop o
      let b := decide (o % 2 = 1)
      let u := if pass then t.incF (F.SFU_PTSTAT.TESTS o) 1
        else (((t.setB F.SFU_STATUS.PTFAIL true).setB (F.SFU_PTSTAT.FAIL o) true).note 6 6 o).channelLoss b
          (if b then 3 else 4)
      match u.sfu.requal with
      | some (b', q :: rest) =>
        if q ≠ o then u
        else if !pass then u.requalEnd b' false
        else if rest.isEmpty then u.requalEnd b' true
        else { u with sfu := { u.sfu with requal := some (b', rest) } }
      | _ => u
    else s
  | none => s

/-- REQUAL (R386): accepted for a lost channel without a loss cause for 64 periods; its outputs are then tested at once,
one at a time, the first now. With both lost, channel A comes first (log 38). -/
def State.requalWrite (s : State) (req : Requester) : State :=
  s.sfuWrite req fun s =>
    let a := s.fb F.SFU_STATUS.DEGA
    let b := s.fb F.SFU_STATUS.DEGB
    if !a && !b then s.sfuRefuse 0x11
    else
      let ch := !(a && decide (64 ≤ s.sfu.cleanA)) && b
      if decide (64 ≤ (if ch then s.sfu.cleanB else s.sfu.cleanA)) && s.sfu.requal.isNone then
        let t := s.forAll (chanOuts ch) fun x o => if (x.ptRunning o).isSome then x.ptStop o else x
        let u : State := { t with sfu := { t.sfu with requal := some (ch, chanOuts ch) } }
        u.ptBegin (if ch then 1 else 0)
      else s.sfuRefuse 0x12

/-! ## Channel B monitors (R388, R389) -/

/-- The measure of monitor m in the unit of LEVEL, from what its filter gives (R388): in V the mean of the absolute
filter outputs over the window, × π / (2√2); in F the REFCLK cycles between the last two positive crossings, 0 for none
in 40 ms; in OVL one filter output. SCALE is in 2^−16 mV per count, LEVEL in 0.1 V or mHz. -/
def State.bmonValue (s : State) (m : Nat) (raw : Word) : Nat :=
  let sc := s.f (F.SFU_BSCALE.SCALE m)
  let top := 2 ^ 18 - 1
  match s.f (F.SFU_BMON.MODE m) with
  | 0 =>
    let num : Int := ((raw.toNat * sc * 1110720734539591561754 : Nat) : Int)
    min top (quot num ((6553600 * 10 ^ 21 : Nat) : Int) 40).toNat
  | 1 => if raw.toNat = 0 then 0 else min top (quot ((200000000000 : Nat) : Int) (raw.toNat : Int) 41).toNat
  | _ => min top (quot (absI (sg raw) * (sc : Int)) 6553600 42).toNat

/-- Threshold j of monitor m is violated by a measure (R389). -/
def State.bmonViol (s : State) (m j v : Nat) : Bool :=
  s.fb (F.SFU_BTHR.EN m j) &&
    (if s.fb (F.SFU_BTHR.DIR m j) then decide (v < s.f (F.SFU_BTHR.LEVEL m j)) else decide (s.f (F.SFU_BTHR.LEVEL m j) < v))

/-- The function of monitor m: SF4 in OVL, SF3 in V and F (R381). -/
def State.bmonFunc (s : State) (m : Nat) : Nat := if s.f (F.SFU_BMON.MODE m) = 2 then 8 else 4

/-- BMON_MEASURE_UPDATE: the measure and its violations; a violation begins or ends its timer, and the live demand of a
threshold ends with its violation. -/
def State.bmonUpdate (s : State) (m : Nat) (raw : Word) : State :=
  if s.sfuOn && s.fb (F.SFU_BMON.EN m) && decide (s.f (F.SFU_BMON.MODE m) ≠ 3) then
    let v := s.bmonValue m raw
    let t := s.setF (F.SFU_BVAL.VALUE m) v
    t.forAll (List.range 4) fun u j =>
      let key := 4 * m + j
      let hit := u.bmonViol m j v
      let r := u.setReg (R.SFU_BVAL m) (setFld (u.reg (R.SFU_BVAL m)) (28 + j) (28 + j) (b2n hit))
      let old := tblGet (fun _ => (0 : Nat)) r.sfu.viol key
      let since := if hit then (if old = 0 then r.tm.refclk + 1 else old) else 0
      let cnt := if hit then tblGet (fun _ => (0 : Nat)) r.sfu.ovl key + 1 else 0
      let w : State := { r with sfu := { r.sfu with viol := tblSet (fun _ => (0 : Nat)) r.sfu.viol key since,
                                                    ovl := tblSet (fun _ => (0 : Nat)) r.sfu.ovl key cnt } }
      if hit then w else w.demandEnd (0x10 + key) 0
  else s

/-- MONITOR_THRESHOLD_DEMAND (R389): a violation has lasted DELAY ms, or CONF consecutive outputs in OVL. -/
def State.monitorDemand (s : State) (m j : Nat) : State :=
  let key := 4 * m + j
  let since := tblGet (fun _ => (0 : Nat)) s.sfu.viol key
  if s.sfuOn && s.fb (F.SFU_BMON.EN m) && decide (since ≠ 0) then
    if s.f (F.SFU_BMON.MODE m) = 2 then
      (if s.f (F.SFU_BMON.CONF m) ≤ tblGet (fun _ => (0 : Nat)) s.sfu.ovl key then
        s.demandLevel (s.bmonFunc m) (0x10 + key) 0 false else s)
    else (s.untilCycle (since - 1 + msCycles (s.f (F.SFU_BTHR.DELAY m j)))).demandLevel (s.bmonFunc m) (0x10 + key) 0 false
  else s

/-! ## Safety messages (R395, R396) -/

/-- CRC-32C one bit on (reflected polynomial 0x82F63B78). -/
def crcBit (c : Word) : Word := if c.getLsbD 0 then (c >>> 1) ^^^ 0x82F63B78#32 else c >>> 1

/-- CRC-32C one byte on. -/
def crcByte (c : Word) (b : Byte) : Word :=
  crcBit (crcBit (crcBit (crcBit (crcBit (crcBit (crcBit (crcBit (c ^^^ b.setWidth 32))))))))

/-- The little-endian bytes of a word. -/
def wordBytes (w : Word) : List Byte :=
  [w.extractLsb' 0 8, w.extractLsb' 8 8, w.extractLsb' 16 8, w.extractLsb' 24 8]

/-- CRC-32C of bytes (R395). -/
def crc32c (l : List Byte) : Word := l.foldl crcByte 0xFFFFFFFF#32 ^^^ 0xFFFFFFFF#32

/-- The message words are 13, from word 3 of R395 on; the CRC stands in word 14. -/
def msgCrc (m : List Word) : Word := crc32c ((m.take 11).flatMap wordBytes)

/-- The version of safety messages of this part (R395). -/
abbrev safetyVer : Nat := 1

/-- A message that R396 accepts: the CRC, the TYPE, and a VER at most one below the own. -/
def msgOk (m : List Word) : Bool :=
  let w := fWord m 0
  decide (fWord m 11 = msgCrc m) && decide (fld w 7 0 = 1) && decide (safetyVer ≤ fld w 15 8 + 1)

/-- The sender's position and its held functions. -/
def msgPos (m : List Word) : Nat := fld (fWord m 1) 17 12
def msgHeld (m : List Word) : Nat := fld (fWord m 2) 31 28

/-- The chip's own STATE message with a sequence number (R395). -/
def State.stateMsg (s : State) (seq : Nat) : List Word :=
  let st := s.reg R.SFU_STATUS
  let t := s.boundary s.tm.k
  let body := [wN (seq * 65536 + safetyVer * 256 + 1),
    wN (s.f F.TRU_IDENT.STACKID * 2 ^ 18 + s.pos * 2 ^ 12),
    wN (fld st 23 20 * 2 ^ 28 + fld st 19 16 * 2 ^ 24 + fld st 30 30 * 2 ^ 23 + fld st 29 27 * 2 ^ 20),
    wN (t % 2 ^ 32), wN (t / 2 ^ 32), 0, 0, 0, 0, 0, 0]
  body ++ [msgCrc body, 0]

/-- The STATE message of a period waits on both ports (R396). -/
def State.queueSafety (s : State) : State :=
  if s.rngOn && s.rngJoined && s.fb F.SFU_FRCFG.RINGEN && decide (s.ring.slot = 0) then
    let q := (s.sfu.sseq + 1) % 65536
    let m := s.stateMsg q
    let r := State.mkFrame { s with sfu := { s.sfu with sseq := q } } 4 0 true (fWord m 0) (m.drop 1)
    r.1.ringPush (.frame r.2) true true
  else s

/-! ## Windows, followed senders and degraded paths (R397 to R399) -/

/-- Position p is followed. -/
def State.followsPos (s : State) (p : Nat) : Bool := bitAt (s.reg (R.SFU_FOLLOW (p / 32))) (p % 32)

/-- PATHDEG is set; it starts T_deg as a lost channel does (R398). -/
def State.pathDeg (s : State) : State :=
  let t : State := { s with sfu := { s.sfu with eqRun := 0 } }
  if t.fb F.SFU_STATUS.PATHDEG then t else t.rose ((t.setB F.SFU_STATUS.PATHDEG true).tdegStart) [27]

/-- PATHDEG clears after 64 equal messages in a row; T_deg stops unless a channel is lost (log 39). -/
def State.pathGood (s : State) : State :=
  let n := s.sfu.eqRun + 1
  let t : State := { s with sfu := { s.sfu with eqRun := n } }
  if t.fb F.SFU_STATUS.PATHDEG && decide (64 ≤ n) then
    let u := t.setB F.SFU_STATUS.PATHDEG false
    if u.fb F.SFU_STATUS.DEGA || u.fb F.SFU_STATUS.DEGB then u else u.tdegStop
  else t

/-- The held SF1 and SF2 of a followed sender are demands of the chip's own (R399). -/
def State.takeHeld (s : State) (eth : Bool) (m : List Word) : State :=
  let p := msgPos m
  let h := msgHeld m % 4
  if s.followsPos p && decide (h ≠ 0) then
    let old := s.sfu.live.any fun x => x.cause == 5 && x.pos == p && (x.funcs &&& s.demandFuncs h) == s.demandFuncs h
    if old then s
    else
      let t := s.demandEnd 5 p
      (if eth then t else t.noteMade (t.demandFuncs h) true true).demandLevel h 5 p false
  else s

/-- A message is accepted: the sender is not silent, and its live demand follows the message (R382, R399). -/
def State.acceptMsg (s : State) (eth : Bool) (m : List Word) : State :=
  let p := msgPos m
  let t : State := { s with sfu := { s.sfu with
    lastOk := tblSet (fun _ => (0 : Nat)) s.sfu.lastOk p (s.tm.refclk + 1), silent := s.sfu.silent.filter fun x => x ≠ p } }
  let u := t.demandEnd 7 p
  if msgHeld m % 4 = 0 then u.demandEnd 5 p else u.takeHeld eth m

/-- A copy arrives at REFCLK cycle now: it opens a window, or joins the one of its key (R397, R398). A second copy of
the same direction or MAC changes nothing. -/
def State.copyIn (s : State) (eth : Bool) (key : Nat × Nat) (dir : Bool) (m : List Word) (take : Bool) : State :=
  let good := msgOk m
  let c := (dir, if good then some m else none)
  let same := fun (w : SfuWindow) => w.eth == eth && w.key == key
  let old := s.sfu.windows.any same
  let join := fun (w : SfuWindow) =>
    if same w && !(w.copies.any fun x => x.1 == dir) then { w with copies := w.copies ++ [c] } else w
  let ws := if old then s.sfu.windows.map join else s.sfu.windows ++ [⟨eth, key, s.tm.refclk, [c]⟩]
  let t : State := { s with sfu := { s.sfu with windows := ws } }
  if good && take then t.takeHeld eth m else t

/-- ESUB_SUBMIT (R397): SFU_EBUF0 to SFU_EBUF12 are one Ethernet copy, paired by STACKID, POS and SSEQ. -/
def State.esubSubmit (s : State) (req : Requester) (mac : Bool) : State :=
  s.sfuWrite req fun s =>
    if s.fb F.SFU_FRCFG.ETHEN then
      let m := (List.range 13).map fun w => s.reg (R.SFU_EBUF w)
      s.copyIn true (fld (fWord m 1) 31 12, fld (fWord m 0) 31 16) mac m true
    else s

/-- SAFETY_FRAME_RECEIVE (09 R279, R286): both copies are kept and compared by SRC and FSEQ; a mismatch raises source 4
and counts. The SFU takes them with RINGEN = 1. -/
def State.safetyFrameReceive (s : State) (f : List Word) : State :=
  if s.rngOn && decide (fClass f = 4) && !(s.rngJoined && decide (fSrc f = s.pos)) then
    let t := (s.hear f).1
    let dir := bitAt (fWord f 0) 14
    let m := (f.drop 3).take 13
    let key := (fSrc f, fSeq f)
    let prev := (t.sfu.windows.find? fun w => !w.eth && w.key == key).bind fun w =>
      if w.copies.any fun x => x.1 == dir then none else (w.copies.head?).bind (·.2)
    let u := t.copyIn false key dir m (t.fb F.SFU_FRCFG.RINGEN)
    match prev with
    | some p => if msgOk m && decide (p ≠ m) then (u.incF F.RNG_SAFEMIS.MISMATCH 1).raise 4 else u
    | none => u
  else s

/-- The path of a copy: Ethernet or ring, the MAC or direction, and the sender (log 40). -/
def pathKey (eth dir : Bool) (pos : Nat) : Nat := b2n eth * 128 + b2n dir * 64 + pos

/-- A missing copy of a path: it counts, and MISSMAX in a row set PATHDEG (R398). -/
def State.copyMissing (s : State) (eth dir : Bool) (pos : Nat) : State :=
  let k := pathKey eth dir pos
  let n := tblGet (fun _ => (0 : Nat)) s.sfu.missRun k + 1
  let t : State := { s with sfu := { s.sfu with missRun := tblSet (fun _ => (0 : Nat)) s.sfu.missRun k n, eqRun := 0 } }
  let u := t.incF (if eth then F.SFU_FRCNT.MISSING else F.RNG_SAFEMIS.MISSING) 1
  if s.f F.SFU_FRCFG.MISSMAX ≤ n ∧ (eth ∨ s.fb F.SFU_FRCFG.RINGEN) then u.pathDeg else u

/-- The outcome of a window that closes (R396, R398). -/
def State.closeWindow (s : State) (w : SfuWindow) : State :=
  let t : State := { s with sfu := { s.sfu with windows := s.sfu.windows.filter fun x => !(x.eth == w.eth && x.key == w.key) } }
  let good := w.copies.filterMap (·.2)
  let pos := match good with | m :: _ => msgPos m | [] => (if w.eth then w.key.1 % 64 else w.key.1)
  let lost := [false, true].filter fun d => !(w.copies.any fun c => c.1 == d && c.2.isSome)
  let sfu := w.eth || s.fb F.SFU_FRCFG.RINGEN
  let u := t.forAll lost fun x d => x.copyMissing w.eth d pos
  let v := u.forAll ([false, true].filter fun d => !lost.contains d) fun x d =>
    { x with sfu := { x.sfu with missRun := tblSet (fun _ => (0 : Nat)) x.sfu.missRun (pathKey w.eth d pos) 0 } }
  match good with
  | [a, b] =>
    if a = b then (if sfu then (v.acceptMsg w.eth a).pathGood else v)
    else
      let x : State := { v with sfu := { v.sfu with eqRun := 0 } }
      let y := if w.eth then (x.incF F.SFU_FRCNT.MISMATCH 1).raise 28 else x
      if sfu then (if w.eth then y else y.noteMade (y.demandFuncs 3) true true).safeState 6 false else y
  | [a] => if sfu then v.acceptMsg w.eth a else v
  | _ => v

/-- SAFETY_WINDOW_CLOSE: the window that opened first has lasted WIN × 0.1 ms (R398). -/
def State.safetyWindowClose (s : State) : State :=
  match s.sfu.windows with
  | w :: _ =>
    if s.sfuOn then (s.untilCycle (w.openAt + s.f F.SFU_FRCFG.WIN * usCycles 100)).closeWindow w else s
  | [] => s

/-- FOLLOW_WATCHDOG of sender p (R399): no copy accepted for WDOG ms. With WDACT = 1 it demands SF1; with WDACT = 0 the
silence counts as missing and sets PATHDEG. -/
def State.followWatchdog (s : State) (p : Nat) : State :=
  let on := s.fb F.SFU_FRCFG.RINGEN || s.fb F.SFU_FRCFG.ETHEN
  if s.sfuOn && s.fb F.SFU_STATUS.ARMED && on && s.followsPos p && !s.sfu.silent.contains p then
    let l := tblGet (fun _ => (0 : Nat)) s.sfu.lastOk p
    let t := s.untilCycle ((if l = 0 then s.sfu.armedAt else l - 1) + msCycles (s.f F.SFU_FRCFG.WDOG))
    let u : State := { t with sfu := { t.sfu with silent := t.sfu.silent ++ [p] } }
    if u.fb F.SFU_FRCFG.WDACT then (u.noteMade (u.demandFuncs 1) true true).demandLevel 1 7 p false
    else (u.incF (if u.fb F.SFU_FRCFG.RINGEN then F.RNG_SAFEMIS.MISSING else F.SFU_FRCNT.MISSING) 1).pathDeg
  else s

/-! ## The boundary's part -/

/-- A write of SFU_AHB by the safety pair (R384). -/
def State.ahbWrite (s : State) (req : Requester) (v : Word) : State :=
  s.sfuWrite req fun s =>
    let ok := decide (v = ~~~ (s.reg R.SFU_AHB));
    { (s.setReg R.SFU_AHB v) with sfu := { s.sfu with hbOk := s.sfu.hbOk || ok } }

/-- What the SFU counts at a period boundary: the heartbeat, the periods without a loss cause, and the comparison
window; and it renews the stop request while SF1 is held (R378, R384, R386, R387). -/
def State.sfuBoundary (s : State) : State :=
  if s.sfuOn then
    let miss := if s.sfu.hbOk then 0 else s.sfu.hbMiss + 1
    let t : State := { s with sfu := { s.sfu with hbOk := false, hbMiss := miss } }
    let bad := t.lossCause false 1 || t.lossCause false 2 || t.lossCause false 3
    let u : State := { t with sfu := { t.sfu with
      cleanA := if bad then 0 else min 64 (t.sfu.cleanA + 1), cleanB := min 64 (t.sfu.cleanB + 1),
      xAge := if t.xDiff = 0 then 0 else min 256 (t.sfu.xAge + 1) } }
    if bitAt (u.reg R.SFU_STATUS) 20 then u.stopRequest else u
  else s

end Sys2Proof.Machine
end

