-- ==== Sys2Proof/Machine/Network.lean ====
section
/-! DEFINITION. Ethernet, network time and time pulses (14 R402 to R421): acceptance and the receive ring, PRP, the
transmit queues with launch time, safety frames, PTP events, the domain map, and MDIO. -/

namespace Sys2Proof.Machine

/-! ## MACs and frames -/

/-- MAC m, 0 or 1. -/
def State.mac (s : State) (m : Nat) : MacUnit := if m = 0 then s.eth.mac0 else s.eth.mac1

def State.modMac (s : State) (m : Nat) (h : MacUnit → MacUnit) : State :=
  if m = 0 then { s with eth := { s.eth with mac0 := h s.eth.mac0 } }
  else { s with eth := { s.eth with mac1 := h s.eth.mac1 } }

/-- MAC m may send and receive: enabled, with a link that is not refused (R402). -/
def State.macOn (s : State) (m : Nat) : Bool :=
  s.live && s.on 10 && s.fb (F.ETH_MCFG.EN m) && !s.fb (F.ETH_MSTAT.LINKBAD m) &&
    (!s.fb (F.ETH_MCFG.AUTO m) || s.fb (F.ETH_MSTAT.LINK m))

/-- Byte n of a frame. -/
def bAt (l : List Byte) (n : Nat) : Nat := ((l[n]?).getD 0).toNat

/-- The big-endian 16 bits at byte n. -/
def b16At (l : List Byte) (n : Nat) : Nat := bAt l n * 256 + bAt l (n + 1)

/-- The frame carries an 802.1Q tag, with VID 0 or not (R404). -/
def hasTag (l : List Byte) : Bool := decide (b16At l 12 = 0x8100)

/-- A tag with a VID other than 0; a priority-tagged frame is treated as untagged. -/
def vlanTag (l : List Byte) : Bool := hasTag l && decide (b16At l 14 % 4096 ≠ 0)

/-- The place of the EtherType, after any tag. -/
def typeAt (l : List Byte) : Nat := if hasTag l then 16 else 12

/-- The Ethernet CRC-32, reflected form (IEEE 802.3), for the hash of R403 (log 41). -/
def crc32Bit (c : Word) : Word := if c.getLsbD 0 then (c >>> 1) ^^^ 0xEDB88320#32 else c >>> 1

def crc32Byte (c : Word) (b : Byte) : Word :=
  crc32Bit (crc32Bit (crc32Bit (crc32Bit (crc32Bit (crc32Bit (crc32Bit (crc32Bit (c ^^^ b.setWidth 32))))))))

def crc32 (l : List Byte) : Word := l.foldl crc32Byte 0xFFFFFFFF#32 ^^^ 0xFFFFFFFF#32

/-- The destination is accepted: ETH_ADDR, broadcast, a multicast address whose hash bit is set, or PROMISC (R403). -/
def State.destOk (s : State) (m : Nat) (l : List Byte) : Bool :=
  let d := l.take 6
  let own := (List.range 2).map (fun n => (s.reg (R.ETH_ADDRHI m)).extractLsb' (8 - 8 * n) 8) ++
    (List.range 4).map fun n => (s.reg (R.ETH_ADDRLO m)).extractLsb' (24 - 8 * n) 8
  let h := fld (crc32 d) 31 26
  let hit := if h < 32 then bitAt (s.reg (R.ETH_HASHLO m)) h else bitAt (s.reg (R.ETH_HASHHI m)) (h - 32)
  s.fb (F.ETH_MCFG.PROMISC m) || d == own || (d.all fun b => b == 0xFF) || (decide (bAt l 0 % 2 = 1) && hit)

/-- The VLAN rule (R404). -/
def State.vlanOk (s : State) (m : Nat) (l : List Byte) : Bool :=
  if vlanTag l then
    (List.range 8).any fun k => s.fb (F.ETH_VID.EN m k) && decide (s.f (F.ETH_VID.VID m k) = b16At l 14 % 4096)
  else s.fb (F.ETH_MCFG.UNTAG m)

/-- The PRP trailer of a frame: SeqNr and LAN, where the last 6 bytes end in 0x88FB and LSDUsize matches the frame, the
bytes after the EtherType with the trailer (R408; log 42). -/
def prpTrailer (l : List Byte) : Option (Nat × Bool) :=
  let n := l.length
  if n < 20 then none
  else
    let size := n - typeAt l - 2
    if b16At l (n - 2) = 0x88FB ∧ b16At l (n - 4) % 4096 = size % 4096 ∧
        (b16At l (n - 4) / 4096 = 10 ∨ b16At l (n - 4) / 4096 = 11) then
      some (b16At l (n - 6), decide (b16At l (n - 4) / 4096 = 11))
    else none

/-- A PTP event message: its messageType and sequenceId (R415), over Ethernet or over UDP and IPv4 with a 20-byte header
to port 319. -/
def ptpEvent (l : List Byte) : Option (Nat × Nat) :=
  let t := typeAt l
  let at? : Option Nat :=
    if b16At l t = 0x88F7 then some (t + 2)
    else if b16At l t = 0x0800 ∧ bAt l (t + 2) = 0x45 ∧ bAt l (t + 11) = 17 ∧ b16At l (t + 24) = 319 then some (t + 30)
    else none
  match at? with
  | some p => if bAt l p % 16 ≤ 3 then some (bAt l p % 16, b16At l (p + 30)) else none
  | none => none

/-! ## Receive (R403 to R408, R413) -/

/-- The slots of the receive ring. -/
def State.rxSlots (s : State) (m : Nat) : Nat :=
  let n := s.f (F.ETH_RXCFG.COUNT m)
  if n = 0 then 2048 else min n 2048

/-- The free slots, as ETH_RXREL reads them; RXLOW shows fewer than 4. -/
def State.rxFree (s : State) (m : Nat) : Nat := s.rxSlots m - (s.mac m).rxUsed

def State.showRxLow (s : State) (m : Nat) : State := s.setB (F.ETH_MSTAT.RXLOW m) (decide (s.rxFree m < 4))

/-- Bytes that a MAC or CAN controller stores in shared SRAM; an address outside it takes none (log 43). -/
def State.netStore (s : State) (a : Nat) (l : List Byte) : State :=
  if s.on 3 && decide (regionOf a = .sram) && decide (regionOf (a + l.length - 1) = .sram) then s.putBytes a l else s

/-- Bytes that a MAC or CAN controller reads from shared SRAM. -/
def State.netLoad (s : State) (a n : Nat) : List Byte :=
  if s.on 3 && decide (regionOf a = .sram) && decide (regionOf (a + n - 1) = .sram) then s.bytes a n
  else List.replicate n 0

/-- The duplicate hint of a key, and the state with the key entered if it was new (R408): an entry ages out after FORGET
ms, and the oldest is evicted from a full table. -/
def State.dupCheck (s : State) (src : List Byte) (seq : Nat) : State × Bool :=
  let age := msCycles (s.f F.ETH_PRPCFG.FORGET)
  let l := s.eth.dups.filter fun d => decide (s.tm.refclk - d.2.2 < age)
  let hit := l.any fun d => d.1 == src && d.2.1 == seq
  let l1 := if hit then l else (if 512 ≤ l.length then l.drop 1 else l) ++ [(src, seq, s.tm.refclk)];
  ({ s with eth := { s.eth with dups := l1 } }, hit)

/-- A frame that is not accepted counts (R403; log 44). -/
def State.ethDrop (s : State) (m : Nat) (fcsOk : Bool) : State :=
  let t := s.incF (F.ETH_CNT.RXDROP m) 1
  if fcsOk then t else t.incF (F.ETH_CNT.FCSERR m) 1

/-- ETH_SAFETY_FRAME (R413): the 13 message words go into the next slot of the MAC's safety area, or the frame is
dropped. -/
def State.ethSafety (s : State) (m : Nat) (l : List Byte) (prp : Option (Nat × Bool)) : State :=
  let n := (s.mac m).safeSlot
  let a := 0x3307F000 + m * 0x200 + n * 0x40
  if bitAt (s.ldw (a + 52)) 31 then (s.incF (F.ETH_SAFETYPE.SAFEDROP m) 1).note 13 3 m
  else
    let p := typeAt l + 2
    let w := (List.range 13).map fun k =>
      wN (bAt l (p + 4 * k) + bAt l (p + 4 * k + 1) * 256 + bAt l (p + 4 * k + 2) * 65536 + bAt l (p + 4 * k + 3) * 2 ^ 24)
    let r := prp.getD (0, false)
    let t := s.putWords a (w ++ [wN (0x80000000 + b2n r.2 * 65536 + r.1)])
    (t.setB (F.ETH_MSTAT.SAFERX m) true).modMac m fun c => { c with safeSlot := (n + 1) % 8 }

/-- An accepted frame is stored in the next slot, and its entry is pushed to Q20 or Q21 (R405). -/
def State.ethStore (s : State) (m : Nat) (l : List Byte) (prp : Option (Nat × Bool)) (dup : Bool) : State :=
  if s.rxFree m = 0 then s.incF (F.ETH_CNT.RXDROP m) 1
  else
    let n := (s.mac m).rxSlot
    let r := prp.getD (0, false)
    let e := b2n prp.isSome * 2 ^ 63 + b2n dup * 2 ^ 62 + b2n r.2 * 2 ^ 61 + b2n (vlanTag l) * 2 ^ 60 +
      b2n (ptpEvent l).isSome * 2 ^ 59 + l.length % 2048 * 2 ^ 48 + n * 2 ^ 32 + r.1 * 2 ^ 16 +
      (if vlanTag l then b16At l 14 else 0)
    let t := s.netStore ((s.reg (R.ETH_RXBASE m)).toNat + n * 2048) l
    let u := t.modMac m fun c => { c with rxSlot := (n + 1) % s.rxSlots m, rxUsed := c.rxUsed + 1 }
    (u.showRxLow m).hwPush (20 + m) (BitVec.ofNat 64 e)

/-- ETH_FRAME_RECEIVE on MAC m, from the destination address to the end of the payload (R403 to R408). -/
def State.ethReceive (s : State) (m : Nat) (l : List Byte) (fcsOk : Bool) : State :=
  if s.macOn m && s.fb (F.ETH_MCFG.RXEN m) then
    let ok := fcsOk && decide (60 ≤ l.length ∧ l.length ≤ 1532) && s.destOk m l && s.vlanOk m l
    if !ok then s.ethDrop m fcsOk
    else
      let prp := prpTrailer l
      let d := match prp with
        | some r => s.dupCheck ((l.drop 6).take 6) r.1
        | none => (s, false)
      if b16At l (typeAt l) = s.f (F.ETH_SAFETYPE.TYPE m) then d.1.ethSafety m l prp else d.1.ethStore m l prp d.2
  else s

/-- ETH_RXREL_WRITE: slots are returned in order (R405). -/
def State.rxRelease (s : State) (m n : Nat) : State :=
  if s.on 10 then (s.modMac m fun c => { c with rxUsed := c.rxUsed - n }).showRxLow m else s

/-! ## Transmit (R407, R409 to R412) -/

/-- REFCLK cycles of n bytes at the link speed in use. -/
def State.txCycles (s : State) (m n : Nat) : Nat :=
  let sp := if s.fb (F.ETH_MCFG.AUTO m) then s.f (F.ETH_MSTAT.PSPEED m) else s.f (F.ETH_MCFG.SPEED m)
  let k := if sp = 0 then 100 else if sp = 1 then 10 else 1
  (n * 8 * k + 4) / 5

/-- The bytes on the line of an entry's frame: preamble, padding, trailer, FCS and gap. -/
def txBytes (e : DWord) : Nat := 24 + max 60 (fld e 58 48) + (if bitAt e 62 then 6 else 0)

/-- The frame as it leaves: padded to 60 bytes, with the trailer for PRP (R407, R409). -/
def State.txFrame (s : State) (m seq : Nat) (e : DWord) : List Byte :=
  let l := s.netLoad ((s.reg (R.ETH_TXBASE m)).toNat + fld e 47 32 * 64) (fld e 58 48)
  let p := l ++ List.replicate (60 - l.length) 0
  if bitAt e 62 then
    let size := (p.length + 6 - typeAt p - 2) % 4096 + (10 + m) * 4096
    p ++ ([seq / 256, seq, size / 256, size, 0x88, 0xFB].map fun v => BitVec.ofNat 8 v)
  else p

/-- How far the present lies past LAUNCH, in ticks; 0 for an entry that is sent when reached (R410). -/
def State.launchLate (s : State) (e : DWord) : Int :=
  if bitAt e 63 then timeDiff 32 s.now (fld e 31 0) else 0

/-- The low queue may start its head: the high queue is empty, or its head's LAUNCH lies after the low frame's end
(R411; log 45). -/
def State.lowMay (s : State) (m : Nat) (e : DWord) : Bool :=
  match s.queue (16 + 2 * m) with
  | [] => true
  | h :: _ => decide (s.launchLate h + (s.txCycles m (txBytes e) * 64 : Nat) ≤ 0) && decide (s.launchLate h < 0)

/-- The MAC pops the head of queue q: DONE counts, and the PRP counter advances for a PRP entry (R407, R412). -/
def State.txPop (s : State) (m h : Nat) (e : DWord) : State :=
  let t := ((s.hwPop (16 + 2 * m + h)).1).incF (F.ETH_TXQ.DONE m h) 1
  if bitAt e 62 then t.incF (if m = 0 then F.ETH_PRPSET.SEQ0 else F.ETH_PRPSET.SEQ1) 1 else t

/-- ETH_LAUNCH: the head entry of a queue of MAC m starts when it is due, or is discarded (R409 to R412). Stack time
moves to its LAUNCH, and past the frame in progress, when these are ahead (log 4). -/
def State.ethLaunch (s : State) (m h : Nat) : State :=
  if s.macOn m && s.fb (F.ETH_MCFG.TXEN m) && s.qOn (16 + 2 * m + h) then
    match s.queue (16 + 2 * m + h) with
    | [] => s
    | e :: _ =>
      if fld e 58 48 < 14 ∨ 1518 < fld e 58 48 then (s.txPop m h e).incF (F.ETH_TXQ.DISC m h) 1
      else
        let t := (s.untilCycle (s.mac m).txEnd)
        let u := t.advanceTo (t.now + (-(t.launchLate e)).toNat)
        if decide (h = 1) && !u.lowMay m e then s
        else
          let late := u.launchLate e
          let seq := u.f (if m = 0 then F.ETH_PRPSET.SEQ0 else F.ETH_PRPSET.SEQ1)
          if (u.f (F.ETH_TXCFG.LATEMAX m) * 64 : Nat) < late then (u.txPop m h e).incF (F.ETH_TXQ.DISC m h) 1
          else
            let v := (u.txPop m h e).modMac m fun c =>
              { c with out := u.txFrame m seq e, txEnd := u.tm.refclk + u.txCycles m (txBytes e) }
            if 0 < late then v.incF (F.ETH_TXQ.LATE m h) 1 else v
  else s

/-- PRPSET_WRITE: both counters take one value (R407). -/
def State.prpsetWrite (s : State) (v : Nat) : State :=
  if s.on 10 then (s.setF F.ETH_PRPSET.SEQ0 v).setF F.ETH_PRPSET.SEQ1 v else s

/-! ## PTP events (R415, R416) -/

/-- PTP_EVENT: an event message passes MAC m; its record enters the FIFO of 4, or the event is lost. -/
def State.ptpPass (s : State) (m : Nat) (tx : Bool) (mtype seq : Nat) : State :=
  if s.macOn m && decide (mtype ≤ 3) then
    let l := (s.mac m).ts
    if l.length < 4 then
      let w := wN (b2n tx * 2 ^ 30 + b2n (!l.isEmpty) * 2 ^ 29 + mtype * 2 ^ 24 + seq)
      let t := s.modMac m fun c => { c with ts := l ++ [w], tsSince := if l.isEmpty then s.tm.refclk else c.tsSince }
      t.setB (F.ETH_MSTAT.TSEV m) true
    else s.incF (F.ETH_TSINFO.TSLOST m) 1
  else s

/-- A read of ETH_TSINFO pops one record (R416): the state after it and the word read. -/
def State.tsinfoRead (s : State) (m : Nat) : State × Word :=
  let lost := s.f (F.ETH_TSINFO.TSLOST m) * 2 ^ 16
  match (s.mac m).ts with
  | [] => (s, wN lost)
  | w :: l =>
    let slow := decide ((s.mac m).tsSince + 40 < s.tm.refclk)
    let t := s.modMac m fun c => { c with ts := l }
    (t.setB (F.ETH_MSTAT.TSEV m) (!l.isEmpty), w ||| wN (2 ^ 31 + b2n slow * 2 ^ 28 + lost))

/-- TSINFO_READ: the word read stands in `busOut`. -/
def State.tsinfoReadCmd (s : State) (m : Nat) : State :=
  if s.on 10 then
    let r := s.tsinfoRead m;
    { r.1 with busOut := r.2.setWidth 64 }
  else s

/-! ## The domain map (R419) -/

/-- DOMAIN_MAP_COMMIT: the shadow transfers whole, and VALID is set. -/
def State.domainCommit (s : State) : State :=
  if s.on 10 then
    let t : State := { s with eth := { s.eth with dmap :=
      { dref := s.reg R.ETH_DREFHI ++ s.reg R.ETH_DREFLO, dns := s.reg R.ETH_DNSHI ++ s.reg R.ETH_DNSLO,
        drate := s.reg R.ETH_DRATE } } }
    t.setB F.ETH_DMAPCTL.VALID true
  else s

/-- domain(t) of the committed map (R419). -/
def domainTime (d : DomainMap) (t : DWord) : DWord :=
  let x : Int := ((t.toNat : Int) - (d.dref.toNat : Int)) * 5 * ((2 ^ 40 : Nat) + sg d.drate)
  BitVec.ofInt 64 ((d.dns.toNat : Int) + fdiv x (2 ^ 46))

/-- A read of ETH_DTIMELO by a requester: the low word of domain time, and the latch of the high word; 0 without a map
(R419). -/
def State.dtimeRead (s : State) (idx : Nat) : State × Word :=
  let v := if s.fb F.ETH_DMAPCTL.VALID then domainTime s.eth.dmap s.tm.count else 0;
  ({ s with eth := { s.eth with domLatch := tblSet (fun _ => (0 : Word)) s.eth.domLatch idx (v.extractLsb' 32 32) } },
    v.extractLsb' 0 32)

/-- DTIMELO_READ: the word read stands in `busOut`. -/
def State.dtimeReadCmd (s : State) (req : Requester) : State :=
  if s.on 10 then
    let r := s.dtimeRead (reqIdx req);
    { r.1 with busOut := r.2.setWidth 64 }
  else s

/-- ETH_DTIMEHI as a requester reads it. -/
def State.dtimeHi (s : State) (idx : Nat) : Word :=
  if s.fb F.ETH_DMAPCTL.VALID then tblGet (fun _ => (0 : Word)) s.eth.domLatch idx else 0

/-! ## Time pulses, MDIO and the link (R402, R421) -/

/-- TPOn stands at its active level. -/
def State.tpoActive (s : State) (n : Nat) : Bool :=
  s.fb (F.TPO_CFG.EN n) && (tblGet (fun _ => (none : Option Nat)) s.eth.tpo n).isSome

/-- TPO_PULSE_END: WIDTH cycles have passed. -/
def State.tpoEnd (s : State) (n : Nat) : State :=
  match tblGet (fun _ => (none : Option Nat)) s.eth.tpo n with
  | some e =>
    let t := s.untilCycle e;
    { t with eth := { t.eth with tpo := tblSet (fun _ => (none : Option Nat)) t.eth.tpo n none } }
  | none => s

/-- A write of TPO_CFGn; with EN = 0 the output holds its inactive level. -/
def State.tpoCfgWrite (s : State) (n : Nat) (v : Word) : State :=
  let t := s.setReg (R.TPO_CFG n) (v &&& 0xE0FFFFFF#32)
  if bitAt v 31 then t
  else { t with eth := { t.eth with tpo := tblSet (fun _ => (none : Option Nat)) t.eth.tpo n none } }

/-- A write of ETH_MDIO: GO starts a transaction; while one runs the register does not change (R402; log 46). -/
def State.mdioWrite (s : State) (m : Nat) (v : Word) : State :=
  if s.on 10 && !s.fb (F.ETH_MDIO.GO m) then s.setReg (R.ETH_MDIO m) (v &&& 0xFFF0FFFF#32) else s

/-- MDIO_GO. -/
def State.mdioGo (s : State) (m : Nat) (read : Bool) (phy reg data : Nat) : State :=
  s.mdioWrite m (wN (2 ^ 31 + b2n read * 2 ^ 30 + phy * 2 ^ 25 + reg * 2 ^ 20 + data))

/-- MDIO_DONE: GO clears; a read takes the PHY's data. -/
def State.mdioDone (s : State) (m data : Nat) : State :=
  if s.on 10 && s.fb (F.ETH_MDIO.GO m) then
    let t := s.setB (F.ETH_MDIO.GO m) false
    if t.fb (F.ETH_MDIO.READ m) then t.setF (F.ETH_MDIO.DATA m) data else t
  else s

/-- ETH_LINK_CHANGE: the in-band status of MAC m, taken with AUTO = 1 (R402). -/
def State.linkChange (s : State) (m : Nat) (up : Bool) (speed : Nat) (half : Bool) : State :=
  if s.live && s.on 10 && s.fb (F.ETH_MCFG.EN m) && s.fb (F.ETH_MCFG.AUTO m) then
    let bad := up && half
    let t := (s.setF (F.ETH_MSTAT.PSPEED m) (min 2 speed)).setB (F.ETH_MSTAT.LINKBAD m) bad
    let u := if s.fb (F.ETH_MSTAT.LINK m) == up then t
      else ((t.setB (F.ETH_MSTAT.LINK m) up).setB (F.ETH_MSTAT.LINKCHG m) true).note 13 1 (m * 256 + b2n up)
    if bad && !s.fb (F.ETH_MSTAT.LINKBAD m) then u.note 13 2 m else u
  else s

end Sys2Proof.Machine
end

