-- ==== Sys2Proof/Machine/Can.lean ====
section
/-! DEFINITION. CAN FD (14 R422 to R431): configuration, reception, one-shot transmission, fault confinement, sleep and
wake frames. -/

namespace Sys2Proof.Machine

/-! ## Configuration (R423) -/

/-- The nominal and the data bit in cycles. -/
def State.nomBit (s : State) (n : Nat) : Nat :=
  (s.f (F.CAN_NBT.NBRP n) + 1) * (3 + s.f (F.CAN_NBT.NTSEG1 n) + s.f (F.CAN_NBT.NTSEG2 n))

def State.dataBit (s : State) (n : Nat) : Nat :=
  (s.f (F.CAN_DBT.DBRP n) + 1) * (3 + s.f (F.CAN_DBT.DTSEG1 n) + s.f (F.CAN_DBT.DTSEG2 n))

/-- A write of EN = 1 is refused (R423). -/
def State.canCfgBad (s : State) (n : Nat) (fden tdcen : Bool) : Bool :=
  decide (s.nomBit n < 200) || decide (s.dataBit n < 40) ||
    decide (s.f (F.CAN_NBT.NTSEG2 n) < s.f (F.CAN_NBT.NSJW n)) ||
    decide (s.f (F.CAN_DBT.DTSEG2 n) < s.f (F.CAN_DBT.DSJW n)) ||
    (fden && decide (s.dataBit n < 200) && !tdcen)

/-- A write of CAN_CFG: the other fields change only while EN = 0; EN can always be cleared (log 47). CFGERR is W1C. -/
def State.canCfgWrite (s : State) (n : Nat) (v : Word) : State :=
  if s.on 10 then
    let t := if bitAt v 26 then s.setB (F.CAN_CFG.CFGERR n) false else s
    if t.fb (F.CAN_CFG.EN n) then (if bitAt v 31 then t else t.setB (F.CAN_CFG.EN n) false)
    else
      let u := t.setReg (R.CAN_CFG n) (setFld (t.reg (R.CAN_CFG n)) 30 27 (fld v 30 27))
      if !bitAt v 31 then u
      else if u.canCfgBad n (bitAt v 30) (bitAt v 28) then u.setB (F.CAN_CFG.CFGERR n) true
      else u.setB (F.CAN_CFG.EN n) true
  else s

/-- CAN_ENABLE: a write of EN = 1 with the other fields. -/
def State.canEnable (s : State) (n : Nat) (fden strict tdcen listen : Bool) : State :=
  s.canCfgWrite n (wN (2 ^ 31 + b2n fden * 2 ^ 30 + b2n strict * 2 ^ 29 + b2n tdcen * 2 ^ 28 + b2n listen * 2 ^ 27))

/-! ## States and counters (R429) -/

/-- Controller n is on the bus: enabled, not bus-off, not waiting for recessive sequences. -/
def State.canOn (s : State) (n : Nat) : Bool :=
  s.live && s.on 10 && s.fb (F.CAN_CFG.EN n) && decide (s.f (F.CAN_STAT.STATE n) ≠ 2) && !s.fb (F.CAN_STAT.RECOVERING n)

/-- STATE takes a value; STATECHG is set when it changes. -/
def State.setCanState (s : State) (n v : Nat) : State :=
  if s.f (F.CAN_STAT.STATE n) = v then s
  else (s.setF (F.CAN_STAT.STATE n) v).setB (F.CAN_STAT.STATECHG n) true

/-- The receive error counter. -/
def State.canRec (s : State) (n : Nat) : Nat := s.f (F.CAN_ERRCNT.REC n) + b2n (s.fb (F.CAN_ERRCNT.RP n)) * 128

def State.setCanRec (s : State) (n v : Nat) : State :=
  (s.setF (F.CAN_ERRCNT.REC n) (v % 128)).setB (F.CAN_ERRCNT.RP n) (decide (128 ≤ v))

/-- The error state after the counters changed (R429): STRICT falls silent from TEC 128 until a reset; otherwise error
passive above 127 and error active below. Bus-off is CAN_BUS_OFF. -/
def State.canConfine (s : State) (n : Nat) : State :=
  let st := s.f (F.CAN_STAT.STATE n)
  if st = 2 ∨ st = 3 then s
  else if s.fb (F.CAN_CFG.CONF n) && decide (128 ≤ s.f (F.CAN_ERRCNT.TEC n)) then (s.setCanState n 3).note 14 2 n
  else s.setCanState n (if 128 ≤ s.f (F.CAN_ERRCNT.TEC n) ∨ 128 ≤ s.canRec n then 1 else 0)

/-- CAN_BUS_OFF: TEC has passed 255. The entry, the record and source 29; recovery begins by itself in STANDARD. -/
def State.canBusOff (s : State) (n : Nat) : State :=
  if s.live && s.on 10 && s.fb (F.CAN_CFG.EN n) && decide (256 ≤ s.f (F.CAN_ERRCNT.TEC n)) &&
      decide (s.f (F.CAN_STAT.STATE n) ≠ 2) then
    let t := ((s.setCanState n 2).setB (F.CAN_STAT.TXBUSY n) false).modCan n fun c => { c with tx := none }
    let u := if t.fb (F.CAN_CFG.CONF n) then t else t.setB (F.CAN_STAT.RECOVERING n) true
    let e := n * 2 ^ 63 + 5 * 2 ^ 60 + 9 * 2 ^ 47
    let v := (u.hwPush 23 (BitVec.ofNat 64 e)).note 14 1 n
    s.roseUnit v [29] n
  else s

/-- CAN_RECOVER: recovery starts in STRICT mode. -/
def State.canRecover (s : State) (n : Nat) : State :=
  if s.on 10 && s.fb (F.CAN_CFG.CONF n) && decide (s.f (F.CAN_STAT.STATE n) = 2) then
    s.setB (F.CAN_STAT.RECOVERING n) true
  else s

/-- CAN_RESET, as a command or a block reset. -/
def State.canReset (s : State) (n : Nat) : State := if s.on 10 then s.resetCan n else s

/-- CAN_RECOVERY_DONE: 128 occurrences of 11 recessive bits have been counted. -/
def State.canRecoveryDone (s : State) (n : Nat) : State :=
  if s.live && s.on 10 && s.fb (F.CAN_STAT.RECOVERING n) then
    ((s.setReg (R.CAN_ERRCNT n) 0).setB (F.CAN_STAT.RECOVERING n) false).setCanState n 0
  else s

/-! ## Reception (R425) -/

/-- The slots in use, the free slots as CAN_RXREL reads them, and RXLOW. -/
def State.canFree (s : State) (n : Nat) : Nat := s.f (F.CAN_RXCFG.COUNT n) - (s.canCtl n).rxUsed

def State.showCanLow (s : State) (n : Nat) : State := s.setB (F.CAN_STAT.RXLOW n) (decide (s.canFree n < 4))

/-- Slots released by a write of CAN_RXREL. -/
def State.canRelease (s : State) (n k : Nat) : State :=
  if s.on 10 then (s.modCan n fun c => { c with rxUsed := c.rxUsed - k }).showCanLow n else s

/-- The header bits that an entry of Q23 shares with a frame: FDF, BRS, ESI, IDE, RTR, DLC and ID (R425). -/
def canHdr (h : CanHeader) : Nat :=
  b2n h.fdf * 2 ^ 59 + b2n h.brs * 2 ^ 58 + b2n h.esi * 2 ^ 57 + b2n h.ide * 2 ^ 56 + b2n h.rtr * 2 ^ 55 +
    h.dlc.toNat * 2 ^ 51 + h.id.toNat

/-- The data bytes of a DLC. -/
def dlcBytes (fdf : Bool) (d : Nat) : Nat :=
  if d ≤ 8 then d else if !fdf then 8
  else if d = 9 then 12 else if d = 10 then 16 else if d = 11 then 20 else if d = 12 then 24 else if d = 13 then 32
  else if d = 14 then 48 else 64

/-- CAN_FRAME_RECEIVE: a frame received without error is stored and queued; an error seen while receiving is queued with
its code (R422, R425, R428, R429). The counter falls to a value of the range ISO 11898-1 allows (log 48). -/
def State.canReceive (s : State) (n : Nat) (h : CanHeader) (data : List Byte) (err : Nat) : State :=
  if s.canOn n && !s.fb (F.CAN_STAT.SLEEP n) then
    if err = 0 then
      let r := s.canRec n
      let s1 := if 128 ≤ r then (s.setCanRec n (119 + s.free.toNat % 9)).freeNext else s.setCanRec n (r - 1)
      let t := s1.canConfine n
      if t.canFree n = 0 then t.incF (F.CAN_RXCFG.RXDROP n) 1
      else
        let k := (t.canCtl n).rxSlot
        let len := if h.rtr then 0 else dlcBytes h.fdf h.dlc.toNat
        let u := t.netStore ((t.reg (R.CAN_RXBASE n)).toNat + k * 64) ((data ++ List.replicate len 0).take len)
        let v := u.modCan n fun c => { c with rxSlot := (k + 1) % u.f (F.CAN_RXCFG.COUNT n), rxUsed := c.rxUsed + 1 }
        (v.showCanLow n).hwPush 23 (BitVec.ofNat 64 (n * 2 ^ 63 + canHdr h + k * 2 ^ 32))
    else
      let t := ((s.incF (F.CAN_CNT.ERRS n) 1).setCanRec n (min 255 (s.canRec n + 1))).canConfine n
      t.hwPush 23 (BitVec.ofNat 64 (n * 2 ^ 63 + 4 * 2 ^ 60 + canHdr h + err % 16 * 2 ^ 47))
  else s

/-! ## Transmission (R424, R426, R427) -/

/-- The header of a Q22 entry, as its outcome repeats it. -/
def txHeader (e : DWord) : Nat :=
  fld e 62 62 * 2 ^ 59 + fld e 61 61 * 2 ^ 58 + fld e 60 60 * 2 ^ 56 + fld e 59 59 * 2 ^ 55 + fld e 58 55 * 2 ^ 51 +
    fld e 28 0

/-- An outcome of an entry in Q23. -/
def State.canOutcome (s : State) (e : DWord) (kind code : Nat) : State :=
  s.hwPush 23 (BitVec.ofNat 64 (fld e 63 63 * 2 ^ 63 + kind * 2 ^ 60 + txHeader e + code * 2 ^ 47))

/-- Why an entry is popped at once and reported as TXDISC (R426). -/
def State.txDisc (s : State) (n : Nat) (e : DWord) : Option Nat :=
  if s.f (F.CAN_STAT.STATE n) = 2 then some 9
  else if s.f (F.CAN_STAT.STATE n) = 3 then some 10
  else if s.fb (F.CAN_STAT.SLEEP n) then some 11
  else if (bitAt e 59 && bitAt e 62) || (bitAt e 62 && !s.fb (F.CAN_CFG.FDEN n)) ||
      (!bitAt e 60 && decide (0x7FF < fld e 28 0)) then some 15
  else none

/-- CAN_TRANSMIT: the head entry of Q22 is popped when its controller can start a frame, or at once when it is
discarded; an entry for a busy controller holds back those behind it. -/
def State.canTransmit (s : State) : State :=
  if s.live && s.on 10 && s.qOn 22 then
    match s.queue 22 with
    | [] => s
    | e :: _ =>
      let n := fld e 63 63
      match s.txDisc n e with
      | some c => ((s.hwPop 22).1).canOutcome e 6 c
      | none =>
        if s.canOn n && !s.fb (F.CAN_CFG.LISTEN n) && !s.fb (F.CAN_STAT.TXBUSY n) && !(s.canCtl n).sleepPend &&
            decide (s.f (F.CAN_ERRCNT.TEC n) < 256) then
          (((s.hwPop 22).1).setB (F.CAN_STAT.TXBUSY n) true).modCan n fun c => { c with tx := some e }
        else s
  else s

/-- The end of an attempt: the entry is reported, and a SLEEP that waited for the frame takes effect (R427, R430). -/
def State.canTxEnd (s : State) (n : Nat) (e : DWord) (kind code : Nat) : State :=
  let t := (s.setB (F.CAN_STAT.TXBUSY n) false).canOutcome e kind code
  let u := if (s.canCtl n).sleepPend then t.setB (F.CAN_STAT.SLEEP n) true else t
  u.modCan n fun c => { c with tx := none, sleepPend := false }

/-- TDCV of an FD frame with BRS under TDCEN (R424): the field, and TDCOVF above 127. -/
def State.canTdc (s : State) (n : Nat) (e : DWord) (tdcv : Nat) : State :=
  if s.fb (F.CAN_CFG.TDCEN n) && bitAt e 62 && bitAt e 61 then
    let t := s.setF (F.CAN_TDC.TDCV n) tdcv
    if 127 < tdcv then t.setB (F.CAN_TDC.TDCOVF n) true else t
  else s

/-- CAN_TRANSMIT_OUTCOME: the attempt ends with TXDONE, ARBLOST or TXERR and its error code. A TDCV above 127 ends the
frame with a bit error; which of the two codes it has is open (log 49). An error passive transmitter that sees no
acknowledgement does not count it (ISO 11898-1). -/
def State.canTxOutcome (s : State) (n : Nat) (out : CanTxOutcome) (tdcv : Nat) : State :=
  match (s.canCtl n).tx with
  | none => s
  | some e =>
    if s.canOn n then
      let t := s.canTdc n e tdcv
      let ovf := decide (127 < tdcv) && s.fb (F.CAN_CFG.TDCEN n) && bitAt e 62 && bitAt e 61
      let o : State × CanTxOutcome := match out, ovf with
        | .done, true => (t.freeNext, .error (BitVec.ofNat 4 (4 + t.free.toNat % 2)))
        | _, _ => (t, out)
      match o.2 with
      | .done => ((o.1.setF (F.CAN_ERRCNT.TEC n) (o.1.f (F.CAN_ERRCNT.TEC n) - 1)).canConfine n).canTxEnd n e 1 0
      | .arbLost => (o.1.incF (F.CAN_CNT.ARBLOST n) 1).canTxEnd n e 2 0
      | .error code =>
        let c := code.toNat
        let u := o.1.incF (F.CAN_CNT.ERRS n) 1
        let v := if c = 3 ∧ u.f (F.CAN_STAT.STATE n) = 1 then u
          else u.setF (F.CAN_ERRCNT.TEC n) (min 511 (u.f (F.CAN_ERRCNT.TEC n) + 8))
        let w := if c = 7 then
            (v.setB (F.CAN_STAT.COLLSEEN n) true).setReg (R.CAN_LASTCOLL n)
              (wN (2 ^ 31 + fld e 60 60 * 2 ^ 30 + fld e 28 0))
          else v
        (w.canConfine n).canTxEnd n e 3 c
    else s

/-! ## Sleep and wake (R430, R431) -/

/-- CAN_SLEEP: the frame in progress completes, then SLEEP. -/
def State.canSleep (s : State) (n : Nat) : State :=
  if s.on 10 then
    if s.fb (F.CAN_STAT.TXBUSY n) then s.modCan n fun c => { c with sleepPend := true }
    else s.setB (F.CAN_STAT.SLEEP n) true
  else s

/-- CAN_WAKE: the only way out of SLEEP. -/
def State.canWake (s : State) (n : Nat) : State :=
  if s.on 10 then (s.setB (F.CAN_STAT.SLEEP n) false).modCan n fun c => { c with sleepPend := false } else s

/-- The wake-up frame method of controller n watches (R431). -/
def State.wufOn (s : State) (n : Nat) : Bool :=
  s.live && s.on 10 && s.fb (F.CAN_CFG.EN n) && s.fb (F.CAN_STAT.SLEEP n) && s.fb (F.CAN_WUFID.EN n)

/-- A wake cause is set in CAN_WAKESTAT, with its record (R430, R432). -/
def State.wakeCause (s : State) (bit : Nat) : State :=
  let t := s.setReg R.CAN_WAKESTAT (setFld (s.reg R.CAN_WAKESTAT) bit bit 1)
  t.note 14 3 (t.reg R.CAN_WAKESTAT).toNat

/-- A frame that matches the wake-up filter of controller n: a classic data frame, by identifier, DLC and data (R431). -/
def State.wufMatch (s : State) (n : Nat) (h : CanHeader) (data : List Byte) : Bool :=
  let mask := s.f (F.CAN_WUFMASK.ID n)
  let dm := (s.reg (R.CAN_WUFDATALO n)).toNat + (s.reg (R.CAN_WUFDATAHI n)).toNat * 2 ^ 32
  let dv := (List.range 8).foldl (fun v k => v + (if k < dlcBytes false h.dlc.toNat then bAt data k else 0) * 256 ^ k) 0
  !h.fdf && !h.rtr && (h.ide == s.fb (F.CAN_WUFID.IDE n)) &&
    decide (h.id.toNat &&& mask = s.f (F.CAN_WUFID.ID n) &&& mask) &&
    (!s.fb (F.CAN_WUFDLC.DLCEN n) || decide (h.dlc.toNat = s.f (F.CAN_WUFDLC.DLC n))) &&
    (decide (dm = 0) || decide (dv &&& dm ≠ 0))

/-- CAN_WAKE_UP_FRAME: a frame without error in SLEEP counts the frame error counter down, and wakes when it matches. -/
def State.canWakeFrame (s : State) (n : Nat) (h : CanHeader) (data : List Byte) : State :=
  if s.wufOn n then
    let t := s.modCan n fun c => { c with fec := c.fec - 1 }
    if t.wufMatch n h data then t.wakeCause (2 + n) else t
  else s

/-- CAN_FRAME_ERROR_WAKE: a frame with an error in SLEEP counts up; at 32 the cause FEC is set. -/
def State.canFrameError (s : State) (n : Nat) : State :=
  if s.wufOn n then
    let k := min 32 ((s.canCtl n).fec + 1)
    let t := s.modCan n fun c => { c with fec := k }
    if k = 32 then t.wakeCause (4 + n) else t
  else s

end Sys2Proof.Machine
end

