-- ==== Sys2Proof/Machine/Trust.lean ====
section
/-! DEFINITION. The trust unit (15): Assay extension, the image checks and the choice of a slot, reset release and
hand-over, the Assay report, flash access, boot confirmation, and STACKID. -/

namespace Sys2Proof.Machine

/-! ## Assay registers (R433 to R435) -/

/-- The little-endian word of 4 bytes from byte n of a list. -/
def wordAt (l : List Byte) (n : Nat) : Word :=
  ((l[n + 3]?).getD 0) ++ ((l[n + 2]?).getD 0) ++ ((l[n + 1]?).getD 0) ++ ((l[n]?).getD 0)

/-- The 48 bytes of AS_n. -/
def State.asBytes (s : State) (n : Nat) : List Byte := (List.range 12).flatMap fun w => wordBytes (s.reg (R.TRU_AS n w))

/-- AS_n takes a value. -/
def State.setAs (s : State) (n : Nat) (l : List Byte) : State :=
  s.forAll (List.range 12) fun t w => t.setReg (R.TRU_AS n w) (wordAt l (4 * w))

/-- One extension: AS_n becomes SHA-384 of AS_n and the digest (R433). -/
def State.extendNow (s : State) (x : Nat × List Byte) : State := s.setAs x.1 (sha384 (s.asBytes x.1 ++ x.2))

/-- An extension is requested: it runs, or waits behind those requested before (R434). -/
def State.extend (s : State) (n : Nat) (d : List Byte) : State :=
  if s.on 2 then
    let start := if s.tru.ext.isEmpty then s.tm.refclk else s.tru.extStart
    let t : State := { s with tru := { s.tru with ext := s.tru.ext ++ [(n, d)], extStart := start } }
    t.setB F.TRU_STATUS.EXTBUSY true
  else s

/-- Every extension that runs or waits has completed. -/
def State.extendAll (s : State) : State :=
  let t := s.forAll s.tru.ext State.extendNow
  State.setB { t with tru := { t.tru with ext := [] } } F.TRU_STATUS.EXTBUSY false

/-- EXTENSION_DONE: the extension that runs ends 24 cycles after its start, and the next one starts (R434). -/
def State.extensionDone (s : State) : State :=
  match s.tru.ext with
  | [] => s
  | x :: l =>
    if s.on 2 then
      let t := (s.untilCycle (s.tru.extStart + 24)).extendNow x
      let u : State := { t with tru := { t.tru with ext := l, extStart := t.tm.refclk } }
      u.setB F.TRU_STATUS.EXTBUSY (!l.isEmpty)
    else s

/-- ASSAY_EXTEND: TRU_EXTCMD.GO by core 0 or the safety pair, for AS6 or AS7 (R433). -/
def State.assayExtend (s : State) (req : Requester) (n : Nat) : State :=
  if s.on 2 then
    if (req = .core0 ∨ req = .pair) ∧ (n = 6 ∨ n = 7) then
      s.extend n ((List.range 12).flatMap fun w => wordBytes (s.reg (R.TRU_EXTD w)))
    else s.setB F.TRU_STATUS.EXTREJ true
  else s

/-- AS5 is extended at a debug attach, or on entry to COMMISSION (R433). The event block's contents are open. -/
def State.extendEvent (s : State) (attach : Bool) : State :=
  if s.on 2 then
    let t := (s.extend 5 (sha384 (Config.eventBlock attach s.freeCtr))).freeNext
    State.note { t with tru := { t.tru with dbgSeen := true } } 15 4 (b2n attach)
  else s

/-! ## The image (R436, R437) -/

/-- The flash address of a slot. -/
def slotBase (slot : Nat) : Nat := 0x61000000 + slot * 0x2000000

/-- A section of an image: SRC, DEST, LEN, XIP. -/
structure Section where
  src : Nat
  dest : Nat
  len : Nat
  xip : Bool
  deriving DecidableEq, Repr

/-- Section i of the image in a slot. -/
def State.imgSect (s : State) (slot i : Nat) : Section :=
  let a := slotBase slot + 0x50 + 16 * i
  ⟨s.ldn a, s.ldn (a + 4), s.ldn (a + 8), bitAt (s.ldw (a + 12)) 0⟩

/-- NSECT and the sections. -/
def State.imgNsect (s : State) (slot : Nat) : Nat := fld (s.ldw (slotBase slot)) 31 16
def State.imgSects (s : State) (slot : Nat) : List Section := (List.range (s.imgNsect slot)).map (s.imgSect slot)

def State.imgBodyLen (s : State) (slot : Nat) : Nat := s.ldn (slotBase slot + 0x14)

/-- The flash address of a section's bytes. -/
def sectFlash (slot : Nat) (x : Section) : Nat := slotBase slot + 1024 + x.src

/-- Two ranges overlap. -/
def overlap (a la b lb : Nat) : Bool := decide (0 < la ∧ 0 < lb ∧ a < b + lb ∧ b < a + la)

/-- A copied section may go to one core's TCM, the safety-pair TCM, or shared SRAM. -/
def destOkRegion (x : Section) : Bool :=
  let r := regionOf x.dest
  decide (regionOf (x.dest + x.len - 1) = r) && (match r with | .tcm _ => true | .pairTcm => true | .sram => true | _ => false)

/-- The section covers a byte of the top 512 bytes of a TCM (07 R238). -/
def coversTop (x : Section) : Bool :=
  ((List.range 4).any fun n => overlap x.dest x.len (0x140000 + n * 0x40000 + 0x3FE00) 512) ||
    overlap x.dest x.len 0x25FE00 512

/-- Two sections overlap, in the body or where they lie in memory. -/
def sectsOverlap (x y : Section) : Bool :=
  overlap x.src x.len y.src y.len || overlap x.dest x.len y.dest y.len

/-- Some two sections of the list overlap. -/
def anyOverlap : List Section → Bool
  | [] => false
  | x :: l => l.any (sectsOverlap x) || anyOverlap l

/-- An address lies in a copied section. -/
def inCopied (l : List Section) (a : Nat) : Bool := l.any fun x => !x.xip && decide (x.dest ≤ a ∧ a < x.dest + x.len)

/-- The first condition of R437 that makes the image of a slot corrupt, counted from 1. -/
def State.imgBad (s : State) (slot : Nat) : Option Nat :=
  let b := slotBase slot
  let l := s.imgSects slot
  if fld (s.ldw b) 15 0 ≠ 1 then some 1
  else if s.imgNsect slot < 1 ∨ 16 < s.imgNsect slot then some 2
  else if 0x2000000 < s.imgBodyLen slot + 1024 then some 3
  else if s.bytes (b + 0x18) 48 ≠ sha384 (s.bytes (b + 1024) (s.imgBodyLen slot)) then some 4
  else if l.any fun x => decide (s.imgBodyLen slot < x.src + x.len) then some 5
  else if l.any fun x => !x.xip && !destOkRegion x then some 6
  else if anyOverlap l || (l.any fun x => !x.xip && coversTop x) then some 7
  else if l.any fun x => x.xip && decide (x.dest ≠ sectFlash slot x) then some 8
  else if !inCopied l (s.ldn (b + 0xC)) || !inCopied l (s.ldn (b + 0x10)) then some 9
  else none

/-! ## The choice of a slot (R438) -/

/-- A directory record: SEQ and PREF of a valid one. -/
def State.dirRecord (s : State) (r : Nat) : Option (Nat × Nat) :=
  let a := 0x60000000 + r * 0x1000
  if s.ldw (a + 8) = ~~~ (s.ldw a ^^^ s.ldw (a + 4)) then some (s.ldn a, s.ldn (a + 4) % 2) else none

/-- PREF of the valid record with the higher SEQ, or 0. -/
def State.prefSlot (s : State) : Nat :=
  match s.dirRecord 0, s.dirRecord 1 with
  | some a, some b => if a.1 < b.1 then b.2 else a.2
  | some a, none => a.2
  | none, some b => b.2
  | none, none => 0

/-- The ROM enters recovery: it serves the mailbox, so the queue unit and the two mailbox queues run (R439; log 51). -/
def State.romRecovery (s : State) : State :=
  let t := ((s.setB F.TRU_STATUS.ROMREC true).setB F.HQ_CTRL.EN true).setB (F.HQ_CFG.EN 25) true
  let u := t.setB (F.HQ_CFG.EN 26) true;
  { u with pwr := { u.pwr with rom := .recovery } }

/-- The slot of R438 is chosen; a corrupt slot leaves its marker in AS0. -/
def State.chooseSlot (s : State) : State :=
  let t := (s.setB F.TRU_BOOTSEL.FALLBACK false).setB F.TRU_BOOTSEL.ROLLBACK false
  let next := t.f F.TRU_BOOTSEL.NEXT
  let c : State × Nat :=
    if t.fb F.TRU_BOOTSEL.TRIAL && !t.fb F.TRU_BOOTSEL.TRIED then (t.setB F.TRU_BOOTSEL.TRIED true, next)
    else if t.fb F.TRU_BOOTSEL.TRIAL then
      ((((t.setB F.TRU_BOOTSEL.TRIAL false).setB F.TRU_BOOTSEL.TRIED false).setB F.TRU_BOOTSEL.ROLLBACK true).note 15 3
        (next * 256), 1 - next)
    else (t, t.prefSlot)
  let u := c.1
  let run := fun (x : State) (slot : Nat) =>
    let y := x.setF F.TRU_BOOTSEL.ACTIVE slot;
    ({ y with pwr := { y.pwr with rom := .running } } : State)
  match u.imgBad c.2 with
  | none => run u c.2
  | some n =>
    let v := (u.note 15 2 (c.2 * 256 + n)).extend 0 (Config.slotMarker c.2)
    let w := (((v.setAs 1 []).setAs 2 []).setAs 3 []).setB F.TRU_BOOTSEL.FALLBACK true
    match w.imgBad (1 - c.2) with
    | none => run w (1 - c.2)
    | some _ => w.romRecovery

/-! ## Key and fuse check (R444) -/

/-- The check's outcome: KEYBAD, and on a failure its record and source 5. -/
def State.keyCheck (s : State) (k : KeyCheck) : State :=
  match k with
  | .good => s.setB F.TRU_STATUS.KEYBAD false
  | .keyBad => ((s.setB F.TRU_STATUS.KEYBAD true).note 15 5 1).raise 5
  | .fuseBad => ((s.setB F.TRU_STATUS.KEYBAD true).note 15 5 0).raise 5

/-! ## Reset release and hand-over (R439; 16 R464, 17 R478; 12 R364) -/

/-- The straps as sampled on three edges: a bit whose samples disagree is 0 (17 R478). -/
def State.sampleStraps (s : State) (a b c : BitVec 4) : State :=
  s.setReg R.SYSC_STRAP ((a &&& b &&& c).setWidth 32)

/-- The FSW bits named in FCU_GRAVE are set at the release (12 R364). -/
def State.graveBits (s : State) : State :=
  s.forAll ((List.range 8).filter fun n => bitAt (s.reg R.FCU_GRAVE) n) fun t n => t.setB (fswField n) true

/-- RESET_RELEASE: with PD3 off, the rise of RESET_N only samples the straps; otherwise the reset ends, and the key and
fuse check, the AS0 extension and the choice of a slot follow. Core 0 and the safety pair run the ROM until it hands
over. A key that fails with its reaction at CHIP_RESET resets the chip again. -/
def State.resetRelease (s : State) (a b c : BitVec 4) (k : KeyCheck) : State :=
  if s.pwr.inReset && s.on 0 then
    let t := s.sampleStraps a b c
    if !t.on 3 then t
    else
      let t1 : State := { t with pwr := { t.pwr with inReset := false } }
      let t2 := (t1.setReg R.TRU_BOOTCNT (wN (satAdd 32 (t1.reg R.TRU_BOOTCNT).toNat 1))).graveBits
      let t3 := t2.setF F.TRU_CERTLEN.LEN (Config.certLen % 4096)
      let u := t3.keyCheck k
      if u.pwr.inReset then u
      else
        let rom := sha384 ((List.range 0x20000).map Config.bootRom)
        let fuse := sha384 ((List.range 64).map Config.fuseBlock)
        ((u.extend 0 rom).extend 0 fuse).chooseSlot
  else s

/-- A section is copied to its destination. -/
def State.copySection (s : State) (slot : Nat) (x : Section) : State :=
  s.putBytes x.dest (s.bytes (sectFlash slot x) x.len)

/-- A processor starts at an address, at thread level with IE = 0 (R439; 16 R465). -/
def State.startProc (s : State) (p : Nat) (pc : Word) : State := s.modProc p fun q => { q with run := .running, pc := pc }

/-- The Assay summary: the first 8 bytes of SHA-384 over AS0 to AS3, the first byte most significant (R435). -/
def State.assaySummary (s : State) : DWord :=
  (dwordsBE 1 ((sha384 (s.asBytes 0 ++ s.asBytes 1 ++ s.asBytes 2 ++ s.asBytes 3)).take 8)).headD 0

/-- ROM_HAND_OVER: header, copied sections and XIP sections are measured, the sections copied, the summary computed, and
core 0 and the safety pair start at their entries. In recovery the ROM stays. -/
def State.romHandOver (s : State) : State :=
  if s.live && s.on 3 && decide (s.pwr.rom = .running) then
    let slot := s.f F.TRU_BOOTSEL.ACTIVE
    let b := slotBase slot
    let l := s.imgSects slot
    let dig := fun (x : Section) => sha384 (s.bytes (sectFlash slot x) x.len)
    let t1 := s.extend 1 (sha384 (s.bytes b 1024))
    let t2 := t1.forAll (l.filter fun x => !x.xip) fun t x => (t.copySection slot x).extend 2 (dig x)
    let t3 := t2.forAll (l.filter fun x => x.xip) fun t x => t.extend 3 (dig x)
    let t4 := t3.extendAll
    let sum := t4.assaySummary
    let t5 := (t4.setReg R.TRU_SUMLO (sum.extractLsb' 0 32)).setReg R.TRU_SUMHI (sum.extractLsb' 32 32)
    let t6 := t5.note 15 1 (slot * 256 + b2n (t5.fb F.TRU_BOOTSEL.ROLLBACK) * 2 + b2n (t5.fb F.TRU_BOOTSEL.TRIAL))
    let t7 := (t6.startProc 0 (s.ldw (b + 0xC))).startProc 4 (s.ldw (b + 0x10));
    { t7 with pwr := { t7.pwr with rom := .handedOver }, tru := { t7.tru with hdrGen := (s.ldb (b + 8)).toNat } }
  else s

/-! ## The Assay report (R440 to R442) -/

/-- `n` bytes of a number, little-endian. -/
def leBytes (n v : Nat) : List Byte := (List.range n).map fun i => BitVec.ofNat 8 (v / 256 ^ i)

/-- The certificate's bytes. -/
def certBytes : List Byte := (List.range (Config.certLen % 4096)).map Config.cert

/-- FLAGS of a report. -/
def State.reportFlags (s : State) : Nat :=
  b2n s.commission + b2n s.tru.dbgSeen * 2 + b2n s.grave * 4 + b2n (s.fb F.RNG_STATUS.OBSERVER) * 8 +
    b2n (s.fb F.TRU_BOOTSEL.FALLBACK) * 16 + b2n (s.fb F.TRU_BOOTSEL.ROLLBACK) * 32 +
    b2n (s.fb F.TRU_STATUS.ROMREC) * 64 + b2n (s.fb F.TRU_STATUS.KEYBAD) * 128 +
    b2n (s.fb F.TRU_BOOTSEL.TRIAL && s.fb F.TRU_BOOTSEL.TRIED &&
      decide (s.f F.TRU_BOOTSEL.NEXT = s.f F.TRU_BOOTSEL.ACTIVE)) * 256

/-- Bytes 0x000 to 0x1FF of a report at the snapshot; Assay values as they stand after the extensions that run or wait
(R434, R440). -/
def State.reportBody (s : State) (nonce : List Byte) : List Byte :=
  let a := s.extendAll
  let pos := if s.rngJoined then s.pos else 0x3F
  let dt := if s.fb F.ETH_DMAPCTL.VALID then (domainTime s.eth.dmap s.tm.count).toNat else 0
  leBytes 2 1 ++ leBytes 2 608 ++ leBytes 4 s.reportFlags ++ leBytes 8 (Config.serial.toNat % 2 ^ 48) ++
    leBytes 4 (s.f F.TRU_IDENT.STACKID * 65536 + pos * 256 + s.f F.RNG_STATUS.ROLE) ++
    leBytes 4 (s.f F.TRU_BOOTSEL.ACTIVE * 2 ^ 24 + s.f F.RNG_GEN.STACK * 65536 + s.f F.RNG_GEN.OWN * 256 + s.tru.hdrGen) ++
    leBytes 8 (if s.timeValid then s.now else 2 ^ 64 - 1) ++ leBytes 8 dt ++
    leBytes 4 (s.reg R.TRU_BOOTCNT).toNat ++ leBytes 4 (s.reg R.FCU_GRAVE).toNat ++ nonce ++
    ((List.range 8).flatMap a.asBytes) ++ sha384 certBytes

/-- The TRU starts the next request: the check before the signature, and the snapshot (R440, R444). -/
def State.signStart (s : State) : State :=
  match s.tru.body, s.tru.reqs with
  | none, r :: _ =>
    let t := s.keyCheck r.key
    if t.pwr.inReset then t
    else State.setB { t with tru := { t.tru with body := some (t.reportBody r.nonce) } } F.TRU_STATUS.SIGBUSY true
  | _, _ => s

/-- A request enters the TRU. -/
def State.reportQueue (s : State) (r : TruReq) : State :=
  State.signStart { s with tru := { s.tru with reqs := s.tru.reqs ++ [r] } }

/-- A request for a buffer has not completed. -/
def State.bufBusy (s : State) (b : Nat) : Bool := s.tru.reqs.any fun r => decide (r.buf = b)

/-- The nonce registers of a buffer. -/
def State.nonceOf (s : State) (b : Nat) : List Byte := (List.range 8).flatMap fun w => wordBytes (s.reg (R.TRU_NONCE b w))

/-- Who may request through TRU_REQb: processors buffer 0, the host port and debug buffer 1. -/
def reqMay (b : Nat) (req : Requester) : Bool :=
  match req with
  | .host => decide (b = 1)
  | .pair | .ce | .core0 | .core1 | .core2 | .core3 => decide (b = 0)
  | _ => false

/-- REPORT_REQUEST: TRU_REQb.GO (R442). -/
def State.reportRequest (s : State) (req : Requester) (b : Nat) (k : KeyCheck) : State :=
  if s.live && reqMay b req then
    if s.bufBusy b then s.setB (F.TRU_REQ.BUSY b) true
    else (s.setB (F.TRU_REQ.PEND b) true).reportQueue ⟨b, s.nonceOf b, 0, k⟩
  else s

/-- A MGMT frame of subtype 0x41 to a position. -/
def State.replyFrame (s : State) (dst part : Nat) (body : List Word) : State :=
  let r := s.mkFrame 5 dst false (wN (0x41000000 + part * 65536 + 13 * 256)) body
  r.1.ringSend dst (.frame r.2)

/-- RING_REPORT_REQUEST: a MGMT frame of subtype 0x40; a request while buffer 2 is busy is refused by PART = 0. -/
def State.ringReportRequest (s : State) (f : List Word) (k : KeyCheck) : State :=
  if s.rngOn && decide (fClass f = 5) && decide (fld (fWord f 3) 31 24 = 0x40) then
    let h := s.hear f
    if h.2 && h.1.forMe f then
      let t := h.1
      if t.bufBusy 2 then t.replyFrame (fSrc f) 0 []
      else t.reportQueue ⟨2, ((List.range 8).flatMap fun w => wordBytes (fWord f (4 + w))), fSrc f, k⟩
    else h.1
  else s

/-- REPORT_DONE: the signature is made, or 96 zero bytes with KEYBAD; the report goes to its window or out over the
ring in 13 frames, and the next request starts (R441, R442). -/
def State.reportDone (s : State) : State :=
  match s.tru.body, s.tru.reqs with
  | some m, r :: l =>
    if s.live then
      let bad := s.fb F.TRU_STATUS.KEYBAD
      let sig := if bad then List.replicate 96 (0 : Byte) else (Config.sign (sha384 m)).take 96
      let rep := m ++ sig ++ List.replicate (96 - sig.length) 0
      let t := if bad then s.note 15 7 r.buf else s
      let u := State.setB { t with tru := { t.tru with body := none, reqs := l } } F.TRU_STATUS.SIGBUSY false
      let v :=
        if r.buf = 2 then
          u.forAll (List.range 13) fun x n => x.replyFrame r.dst (n + 1) ((List.range 12).map fun w => wordAt rep (48 * n + 4 * w))
        else
          let x := (u.setB (F.TRU_REQ.PEND r.buf) false).setReg R.TRU_STATUS
            (setFld (u.reg R.TRU_STATUS) r.buf r.buf 1)
          if r.buf = 0 then { x with tru := { x.tru with win0 := rep } } else { x with tru := { x.tru with win1 := rep } }
      v.signStart
    else s
  | _, _ => s

/-! ## Flash access (R448) -/

/-- An operation would touch the slot that runs. -/
def State.touchesActive (s : State) (a n : Nat) : Bool :=
  overlap a n (slotBase (s.f F.TRU_BOOTSEL.ACTIVE)) 0x2000000

/-- TRU_FLCMD.GO: a program of the page buffer, or an erase, at TRU_FLADDR. It is refused while an operation runs, at an
address that is no flash, and in the active slot while a set-up is admitted (R448; log 52). -/
def State.flashStart (s : State) (erase : Bool) (page : List Byte) : State :=
  let n := if erase then 65536 else 256
  let a := (s.reg R.TRU_FLADDR).toNat / n * n
  if s.fb F.TRU_FLCMD.BUSY || decide (regionOf a ≠ .flash) || (s.admitted && s.touchesActive a n) then
    (s.setB F.TRU_FLCMD.REFUSED true).note 15 6 a
  else
    let t := (s.setB F.TRU_FLCMD.BUSY true).setB F.TRU_FLCMD.REFUSED false;
    { t with tru := { t.tru with fl := some (erase, a, page) } }

/-- The page buffer TRU_FLDATA0 to TRU_FLDATA63. -/
def State.pageBuf (s : State) : List Byte := (List.range 64).flatMap fun w => wordBytes (s.reg (R.TRU_FLDATA w))

/-- FLASH_PROGRAM and FLASH_ERASE. -/
def State.flashProgram (s : State) : State := if s.live then s.flashStart false s.pageBuf else s
def State.flashErase (s : State) : State := if s.live then s.flashStart true [] else s

/-- FLASH_OPERATION_DONE: the page or sector takes its bytes. After a failure they are open (log 52). -/
def State.flashDone (s : State) (fail : Bool) : State :=
  match s.tru.fl with
  | some (erase, a, page) =>
    if s.on 2 then
      let n := if erase then 65536 else 256
      let open8 := fun (i : Nat) => (List.range 8).map fun j => (Config.freeValue (s.freeCtr + i)).extractLsb' (8 * j) 8
      let l := if fail then (List.range (n / 8)).flatMap open8 else if erase then List.replicate n 0xFF else page
      let t := (s.setB F.TRU_FLCMD.BUSY false).putBytes a l
      let u : State := { t with tru := { t.tru with fl := none }, freeCtr := if fail then t.freeCtr + n / 8 else t.freeCtr }
      if fail then u.setB F.TRU_FLCMD.FAIL true else u
    else s
  | none => s

/-! ## Confirmation and identity (R449, R450) -/

/-- CONFIRM is accepted while TRIAL = 1 and the slot that runs is NEXT. -/
def State.confirmOk (s : State) : Bool :=
  s.fb F.TRU_BOOTSEL.TRIAL && decide (s.f F.TRU_BOOTSEL.NEXT = s.f F.TRU_BOOTSEL.ACTIVE)

def State.confirm (s : State) : State :=
  if s.confirmOk then (s.setB F.TRU_BOOTSEL.TRIAL false).setB F.TRU_BOOTSEL.TRIED false else s

/-- A write of TRU_BOOTSEL: TRIAL and NEXT, and CONFIRM of the state before it. -/
def State.bootselWrite (s : State) (v : Word) : State :=
  if bitAt v 31 then s.confirm else (s.setB F.TRU_BOOTSEL.TRIAL (bitAt v 30)).setF F.TRU_BOOTSEL.NEXT (fld v 28 28)

/-- A write of TRU_IDENT: STACKID until it is locked; LOCK once set stays until reset. -/
def State.identWrite (s : State) (v : Word) : State :=
  if s.on 2 then
    if s.fb F.TRU_IDENT.LOCK then s
    else (s.setF F.TRU_IDENT.STACKID (fld v 29 16)).setB F.TRU_IDENT.LOCK (bitAt v 31)
  else s

end Sys2Proof.Machine
end

