-- ==== Sys2Proof/Machine/Power.lean ====
section
/-! DEFINITION. Power domains, states and start-up (16): the sequencer, power authority, resets, wake causes, service
modes and debug, and the host mailbox. -/

namespace Sys2Proof.Machine

/-! ## States and their domains (R456) -/

/-- The required domains of a target state, by its code. -/
def reqDoms (st : Nat) : List Nat :=
  if st = 1 then [0] else if st = 2 then List.range 4 else if st = 3 then List.range 7 else List.range 8

/-- The optional domains of a target state. -/
def optDoms (st : Nat) : List Nat :=
  if st = 2 then [10] else if st = 3 then [9, 10, 11] else if st = 4 then [8, 9, 10, 11] else []

/-- The domains that a command leaves on: OPT bits outside the optional set are ignored (R457). -/
def finalDoms (st opt : Nat) : List Nat :=
  (List.range 12).filter fun d => (reqDoms st).contains d || ((optDoms st).contains d && opt.testBit d)

/-- The domains that are on. -/
def State.onDoms (s : State) : List Nat := (List.range 12).filter s.on

/-- The domains that stand on when the running sequence ends, or now. -/
def State.reached (s : State) : List Nat :=
  if s.fb F.SYSC_PSTAT.BUSY then finalDoms s.pwr.target s.pwr.opt else s.onDoms

/-! ## The check of a command (R458) -/

/-- The requester holds power authority (R461). -/
def State.authority (s : State) (req : Requester) : Bool :=
  if s.fb F.SYSC_AUTH.RING then decide (req = .core0) else decide (req = .host)

/-- The first of the domains given that would go off. -/
def firstOff (on fin l : List Nat) : Option Nat := l.find? fun d => on.contains d && !fin.contains d

/-- RESULT and DOMAIN of a refusal, in the order of R458 with BADSTATE after AUTH (log 53). -/
def State.powerRefusal (s : State) (req : Requester) (st opt : Nat) : Option (Nat × Nat) :=
  if !s.authority req then some (1, 0)
  else if st < 1 ∨ 4 < st then some (7, 0)
  else
    let on := s.reached
    let fin := finalDoms st opt
    let brp := (List.range 8).any fun c => s.brpRun c || s.fb (F.BRP_STAT.STOPPING c)
    match (if s.drivesCells then firstOff on fin [6, 7, 8] else none) with
    | some d => some (2, d)
    | none =>
      match (if s.admitted then firstOff on fin [4, 5, 6, 7] else none) with
      | some d => some (3, d)
      | none =>
        match (if s.rngJoined then firstOff on fin [9] else none) with
        | some d => some (4, d)
        | none =>
          match (if brp then firstOff on fin [11] else none) with
          | some d => some (5, d)
          | none =>
            match (if st ≠ 1 then firstOff on fin [2, 3] else none) with
            | some d => some (6, d)
            | none => none

/-- A refusal, or the end of a sequence: RESULT, DOMAIN and DONE (R457, R458). -/
def State.powerResult (s : State) (r d : Nat) : State :=
  ((s.setF F.SYSC_PSTAT.RESULT r).setF F.SYSC_PSTAT.DOMAIN d).setB F.SYSC_PSTAT.DONE true

/-- The sequencer starts: the domains to switch off in descending number, then those to switch on in ascending number. -/
def State.powerStart (s : State) (st opt : Nat) : State :=
  let fin := finalDoms st opt
  let offs := (s.onDoms.filter fun d => !fin.contains d).reverse
  let ups := fin.filter fun d => !s.on d
  let t := s.setB F.SYSC_PSTAT.BUSY true;
  { t with pwr := { t.pwr with downs := offs, ups := ups, target := st, opt := opt } }

/-- A write of SYSC_PCMD with GO (R457 to R461). -/
def State.powerCommand (s : State) (req : Requester) (st opt : Nat) : State :=
  if s.on 0 && (decide (req = .host) || s.live) then
    match s.powerRefusal req st opt with
    | some r => s.powerResult r.1 r.2
    | none =>
      if s.fb F.SYSC_PSTAT.BUSY then
        let t := s.setB F.SYSC_PSTAT.PENDING true;
        { t with pwr := { t.pwr with pend := some (st, opt) } }
      else s.powerStart st opt
  else s

/-- The running sequence ends, and a pending command executes (R457, R460). -/
def State.powerEnd (s : State) (st r d : Nat) : State :=
  let t := ((s.setB F.SYSC_PSTAT.BUSY false).setF F.SYSC_PSTAT.STATE st).powerResult r d
  match t.pwr.pend with
  | some p =>
    let u := t.setB F.SYSC_PSTAT.PENDING false
    State.powerStart { u with pwr := { u.pwr with pend := none } } p.1 p.2
  | none => t

/-! ## The sequence (R454, R455, R459) -/

/-- DOMAIN_POWER_DOWN_DONE: the next domain of the sequence is off; without PD3 the chip is in reset (12 R363). -/
def State.domainDown (s : State) (d : Nat) : State :=
  match s.pwr.downs with
  | e :: l =>
    if s.fb F.SYSC_PSTAT.BUSY && decide (e = d) then
      let t := s.powerOff d;
      { t with pwr := { t.pwr with downs := l, inReset := t.pwr.inReset || decide (d = 3),
                                   rom := if d = 3 then .idle else t.pwr.rom } }
    else s
  | [] => s

/-- DOMAIN_POWER_UP_DONE: the next domain of the sequence is on. PD1's time covers the DLL's lock; PD9 takes its role
from the strap (01 R35). -/
def State.domainUp (s : State) (d : Nat) : State :=
  match s.pwr.downs, s.pwr.ups with
  | [], e :: l =>
    if s.fb F.SYSC_PSTAT.BUSY && decide (e = d) then
      let t0 := s.powerOn d
      let t : State := { t0 with pwr := { t0.pwr with ups := l } }
      if d = 1 then t.dllEnable.dllLock else if d = 9 then t.strapRole else t
    else s
  | _, _ => s

/-- POWER_SEQUENCE_DONE. -/
def State.powerDone (s : State) : State :=
  if s.fb F.SYSC_PSTAT.BUSY && s.pwr.downs.isEmpty && s.pwr.ups.isEmpty then s.powerEnd s.pwr.target 0 0 else s

/-- NOCLK_TIMEOUT: PD1 found no lock within 1 ms and is off again; the chip stays in BEDROCK. -/
def State.noclk (s : State) : State :=
  if s.fb F.SYSC_PSTAT.BUSY && s.pwr.downs.isEmpty && decide (s.pwr.ups.head? = some 1) then
    let t : State := { s with pwr := { s.pwr with ups := [] } }
    t.powerEnd 1 8 1
  else s

/-! ## Supply and resets (R454, R464; 17) -/

/-- What stays when VBED goes or comes: the external flash, the endpoints, the waiting commands and the model's own
counter. -/
def State.coldStart (s : State) (vbed : Bool) : State :=
  let t : State := { State.reset with
    mem := tblDrop (fun a => decide (regionOf a ≠ .flash)) s.mem, eps := s.eps, busOut := s.busOut,
    freeCtr := s.freeCtr, pending := s.pending }
  if vbed then t else
    let u := t.setReg R.SYSC_PSTAT 0;
    { u with pwr := { u.pwr with vbed := false } }

/-- VBED_POWER_UP: PD0 is on 64 SLOWCLK periods after VBED is valid. -/
def State.vbedUp (s : State) : State := if s.pwr.vbed then s else s.coldStart true

/-- VBED_REMOVAL: every domain is off and the Bedrock registers are lost. -/
def State.vbedOff (s : State) : State := if s.pwr.vbed then s.coldStart false else s

/-- SUPPLY_COLLAPSE: every domain above PD0 is powered down at once; the chip stands in BEDROCK, and FCU_RSTCAUSE is
unchanged (17). -/
def State.supplyCollapse (s : State) : State :=
  if s.on 0 then
    let t := s.forAll ((List.range 12).filter fun d => decide (1 ≤ d) && s.on d) State.powerOff
    let u := ((((t.setF F.SYSC_PSTAT.BUSY 0).setF F.SYSC_PSTAT.PENDING 0).setF F.SYSC_PSTAT.RESULT 9).setF
      F.SYSC_PSTAT.STATE 1);
    { u with pwr := { u.pwr with inReset := true, downs := [], ups := [], pend := none, rom := .idle } }
  else s

/-- RESET_N_ASSERT: low for at least 10 SLOWCLK periods (R464). -/
def State.resetN (s : State) : State :=
  if s.on 0 then (s.setReg R.FCU_RSTCAUSE 0x100).chipReset else s

/-- A write of SYSC_RESET with the KEY by the power authority or core 0 (R464). FCU_RSTCAUSE takes cause 1 (log 54). -/
def State.syscReset (s : State) (req : Requester) (key : Nat) : State :=
  if s.on 0 && decide (key = 0x0A5C) && (s.authority req || decide (req = .core0)) &&
      (decide (req = .host) || s.live) then s.resetN else s

/-! ## Authority and service mode (R461, R466) -/

/-- A write of SYSC_AUTH: the host port only, in any state. -/
def State.authWrite (s : State) (req : Requester) (ring : Bool) : State :=
  if s.on 0 && decide (req = .host) then s.setB F.SYSC_AUTH.RING ring else s

/-- The requested service mode comes into force: AS5 on entry to COMMISSION, SVC on every active port, and in NORMAL the
halted processors resume (R466, R467). -/
def State.modeApply (s : State) : State :=
  let m := s.fb F.SYSC_MODE.COMMISSION
  if s.commission == m then s
  else
    let t := s.setB F.SYSC_MODE.MODEACT m
    let u := if m then t.extendEvent false
      else
        let v := (t.forAll (List.range 5) fun x p => x.modProc p fun q => { q with dbgHalt := false }).setB
          F.SYSC_MODE.HALTED false
        if v.on 3 then v.setF F.HPD_DBGSTAT.HALTED 0 else v
    u.forAll (ctxIdx.filter fun i => u.portOn i && u.fb (F.LNK_PSTAT.ACTIVE i)) State.sendSvc

/-- A write of SYSC_MODE by the authority; by another requester it is refused as R458 says. The change takes effect at
the next boundary, or at once while stack time is not valid. -/
def State.modeWrite (s : State) (req : Requester) (m : Bool) : State :=
  if s.on 0 && (decide (req = .host) || s.live) then
    if !s.authority req then s.powerResult 1 0
    else
      let t := s.setB F.SYSC_MODE.COMMISSION m
      if t.timeValid then t else t.modeApply
  else s

/-! ## Cores 1 to 3 (R465) -/

/-- A write of SYSC_CORESTART by core 0: a core whose domain is on and that does not run starts at its entry. -/
def State.coreStart (s : State) (req : Requester) (m : Nat) : State :=
  if s.live && decide (req = .core0) then
    s.forAll [1, 2, 3] fun t n =>
      if m.testBit n && t.on 4 && decide ((t.proc n).run = .halted) then
        t.startProc n (t.reg (R.SYSC_CENTRY n) &&& 0xFFFFFFFC#32)
      else t
  else s

/-- SYSC_CORESTART as it reads: the cores that run. -/
def State.coresRunning (s : State) : Word :=
  wN (([1, 2, 3].filter fun n => decide ((s.proc n).run ≠ .halted ∧ (s.proc n).run ≠ .stopped ∧
    (s.proc n).run ≠ .dead)).foldl (fun v n => v + 2 ^ n) 0)

/-! ## Wake (R463; 14 R431) -/

/-- CAN_WAKE_UP_PATTERN on CANn_RX with PD10 off. -/
def State.wakePattern (s : State) (n : Nat) : State :=
  if s.on 0 && !s.on 10 && s.fb (if n = 0 then F.CAN_WAKECFG.WUPEN0 else F.CAN_WAKECFG.WUPEN1) then s.wakeCause n else s

/-- BEDROCK_ALARM: SYSC_BSEC reaches SYSC_ALARM; the seconds move on to it (log 4). -/
def State.bedrockAlarm (s : State) : State :=
  let a := s.f F.SYSC_ALARM.SECS
  if s.on 0 && decide (a ≠ 0) && decide (s.f F.SYSC_BSEC.SECS ≤ a) then
    (s.untilSecond a).setB F.SYSC_WAKE.ALARM true
  else s

/-- WAKE_CAUSE_CLEAR: writes of 1 to SYSC_WAKE.ALARM and to CAN_WAKESTAT. -/
def State.wakeClear (s : State) (req : Requester) (alarm : Bool) (can : Nat) : State :=
  if s.on 0 && (decide (req = .host) || s.live) then
    let t := s.w1c R.CAN_WAKESTAT (wN can)
    if alarm then t.setB F.SYSC_WAKE.ALARM false else t
  else s

/-- SYSC_WAKE as it reads. -/
def State.wakeReg (s : State) : Word :=
  wN (b2n (s.fb F.SYSC_WAKE.ALARM) * 2 + b2n (decide (s.reg R.CAN_WAKESTAT ≠ 0)))

/-- WAKE_OUT (R463). -/
def State.wakeOut (s : State) : Bool := s.on 0 && decide (s.wakeReg &&& s.reg R.SYSC_WAKEEN ≠ 0)

/-! ## Debug (R467, R471) -/

def State.debugAttach (s : State) : State :=
  if s.on 3 then
    (((s.setB F.SYSC_MODE.DBGATT true).setB F.HPD_STATUS.DBGATT true).setB F.HPD_DBGSTAT.ATTACHED true).extendEvent true
  else s

def State.debugDetach (s : State) : State :=
  if s.on 3 then
    ((s.setB F.SYSC_MODE.DBGATT false).setB F.HPD_STATUS.DBGATT false).setB F.HPD_DBGSTAT.ATTACHED false
  else s

/-- HALTED shows the processors halted by debug. -/
def State.showHalted (s : State) : State :=
  let m := ((List.range 5).filter fun p => (s.proc p).dbgHalt).foldl (fun v p => v + 2 ^ p) 0
  (s.setF F.HPD_DBGSTAT.HALTED m).setB F.SYSC_MODE.HALTED (decide (m ≠ 0))

/-- A halt request: in COMMISSION the processors named halt, with a hard stop of the bridge port and a stop request to
the Link Engine in the same cycle; in NORMAL it only counts. -/
def State.debugHalt (s : State) (m : Nat) : State :=
  if s.on 3 then
    if s.commission then
      let t := s.forAll ((List.range 5).filter fun p => m.testBit p && s.on (procDom p)) fun x p =>
        x.modProc p fun q => { q with dbgHalt := true }
      (t.showHalted.hardStop false).stopRequest
    else s.incF F.SYSC_MODE.DBGREJ 1
  else s

/-- A resume request: in COMMISSION the processors named go on where they stopped. -/
def State.debugResume (s : State) (m : Nat) : State :=
  if s.on 3 then
    if s.commission then
      (s.forAll ((List.range 5).filter fun p => m.testBit p) fun x p =>
        x.modProc p fun q => { q with dbgHalt := false }).showHalted
    else s.incF F.SYSC_MODE.DBGREJ 1
  else s

/-! ## The host mailbox and doorbell (R468, R470) -/

/-- HP_STATUS: the status byte (R468) stands in `busOut`; with PD3 off only the decoder serves. -/
def State.hpStatus (s : State) : State :=
  if s.on 0 then
    let v := if s.on 3 then 128 + b2n (s.fb F.HPD_STATUS.DBGATT) * 64 + b2n (s.fb F.HPD_STATUS.HERR) * 32 +
        b2n (decide (s.qCap 25 ≤ (s.queue 25).length)) * 16 + b2n (!(s.queue 26).isEmpty) * 8 +
        b2n (s.fb F.HPD_STATUS.LATE) * 4 else 0;
    { s with busOut := BitVec.ofNat 64 v }
  else s

/-- A host transaction that has no effect (R468). -/
def State.hpError (s : State) : State := if s.on 3 then s.setB F.HPD_STATUS.HERR true else s

/-- MBXPUSH: an entry enters Q25; a full Q25 discards it and sets MBXDROP. -/
def State.mbxPush (s : State) (e : DWord) : State :=
  if s.on 3 then
    let t := s.hwPush 25 e
    if s.qOn 25 && decide (s.qCap 25 ≤ (s.queue 25).length) then t.setB F.HPD_STATUS.MBXDROP true else t
  else s

/-- Response entries move into Q26 while it has room. -/
def State.mbxDrain (s : State) : State :=
  if s.qOn 26 then
    let n := s.qCap 26 - (s.queue 26).length
    let t := s.setQueue 26 (s.queue 26 ++ s.tru.mbxOut.take n);
    { t with tru := { t.tru with mbxOut := s.tru.mbxOut.drop n } }
  else s

/-- MBXPOP: the oldest entry of Q26 stands in `busOut`; an empty Q26 gives 0 and sets MBXEMPTY. -/
def State.mbxPop (s : State) : State :=
  if s.on 3 then
    match s.hwPop 26 with
    | (t, some e) => State.mbxDrain { t with busOut := e }
    | (t, none) => State.setB { t with busOut := 0 } F.HPD_STATUS.MBXEMPTY true
  else s

/-- HPD_DOORBELL, written by the host: DOOR is set. -/
def State.doorbell (s : State) (v : Word) : State :=
  if s.on 3 then (s.setReg R.HPD_DOORBELL v).setB F.HPD_STATUS.DOOR true else s

end Sys2Proof.Machine
end

