-- ==== Sys2Proof/Machine/Engine.lean ====
section
/-! DEFINITION. The Control Engine's period (05 R159 to R163, R167, R172 to R175, R178, R181 to R196): snapshot,
supervision, swap slot, programs, commit window and commit, coefficient loads, ramps, trackers, and the parity of its
memory (06 R198). The lane instructions are in IsaEngine.lean. -/

namespace Sys2Proof.Machine

/-! ## The phases (05 R159) -/

/-- The engine runs its period phases. -/
def State.ceOn (s : State) : Bool := s.live && s.on 5 && s.fb F.CE_CTRL.EN

/-- NB, the integrators tagged bumpless. -/
def State.ceNb (s : State) : Nat :=
  ((List.range 256).filter fun d => decide (fld (s.ldw (intAddr d)) 31 30 = 3)).length

/-- The phase lengths in cycles. -/
def State.tSnap (s : State) : Nat := 8 + (s.f F.CE_LISTS.NIN + 3) / 4
def State.tSup (s : State) : Nat := 16 + (s.f F.CE_LISTS2.NFB + 7) / 8
def State.tSwap (s : State) : Nat := 8 + 4 * ((s.ceNb + 15) / 16)

/-- The stack time of a cycle after T_k. -/
def State.ceTime (s : State) (c : Nat) : Nat := s.boundary s.tm.k + c * 64

/-- CE_STATUS.SUBST and RAMPING show the substituted feedbacks and the groups below 32,768. -/
def State.ceFlags (s : State) : State :=
  (s.setB F.CE_STATUS.SUBST ((List.range 16).any fun n => decide (s.reg (R.CE_FBSUBST n) ≠ 0))).setB F.CE_STATUS.RAMPING
    ((List.range 8).any fun g => decide (s.f (F.CE_RAMP.GAIN g) < 32768))

/-! ## The parameter area (05 R160) -/

/-- The held parameter writes are performed. -/
def State.flushHeld (s : State) : State :=
  let t := s.forAll s.ce.held fun u e => u.store (paramAddr e.1) e.2;
  { t with ce := { t.ce with held := [], snapOpen := false } }

/-- A write of parameter word j: held between T_k and the end of the snapshot phase. -/
def State.paramWrite (s : State) (j : Nat) (v : Word) : State :=
  if s.live && s.on 5 then
    if s.ceOn && s.ce.snapOpen && decide (s.now < s.ceTime s.tSnap) then
      { s with ce := { s.ce with held := s.ce.held ++ [(j, v)] } }
    else s.flushHeld.store (paramAddr j) v
  else s

/-! ## Snapshot and commit (05 R160, R161, R164, R167) -/

/-- The 128-bit map of the contexts in a driving state, slice n. -/
def State.driveSlice (s : State) (n : Nat) : Word :=
  wN ((ctxIdx.filter fun i => decide (i / 32 = n) && s.drives i).foldl (fun a i => a + 2 ^ (i % 32)) 0)

/-- The value an input list entry copies. -/
def State.inValue (s : State) (w0 : Word) : Word :=
  let src := fld w0 27 16
  match fld w0 31 28 with
  | 1 => s.ctx (fld w0 25 19) (0x60 + 4 * (src % 8))
  | 2 => s.ctx (src % 128) 0x188
  | 3 => s.reg (R.MSR_RES (src % 64))
  | 4 => tblGet (fun _ => (0 : Word)) s.ring.fw (src % 256)
  | 5 =>
    if s.fb F.CE_CTRL.PLOCK then tblGet (fun _ => (0 : Word)) s.ce.param (src % 2048) else s.ldw (paramAddr (src % 2048))
  | 6 =>
    let n := src / 4 % 4
    match src % 4 with
    | 0 => s.reg (R.CE_TRKTHETA n)
    | 1 => s.reg (R.CE_TRKOMEGA n)
    | 2 => s.reg (R.CE_TRKSTAT n)
    | _ => s.reg (R.CE_TRKX n)
  | 7 => s.driveSlice (src % 4)
  | 8 => s.ctx (src % 128) 0x80
  | _ => 0

/-- CE_SNAPSHOT: every input list entry, as its source stood at T_k; a PARAM entry remembers the value it copied. -/
def State.ceSnapshot (s0 : State) : State :=
  let s := s0.flushHeld
  let t := s.forAll (List.range (min 2048 (s.f F.CE_LISTS.NIN))) fun u n =>
    let w0 := s.ldw (inListAddr n)
    let v := s.inValue w0
    let u1 := u.store (inAddr (fld (s.ldw (inListAddr n + 4)) 12 0)) v
    if fld w0 31 28 = 5 then
      { u1 with ce := { u1.ce with param := tblSet (fun _ => (0 : Word)) u1.ce.param (fld w0 26 16) v } }
    else u1
  { t with ce := { t.ce with snapOpen := true } }

/-- The bridge-port channel and register that a window offset names: period or duty. -/
def brpShadow? (a : Nat) : Option (Nat × Bool) :=
  ((List.range 8).flatMap fun c => [(R.BRP_PER c, c, false), (R.BRP_DUTY c, c, true)]).findSome? fun e =>
    if e.1 = a then some e.2 else none

/-- CE_COMMIT: the entries of the commit buffer transfer in list order, and the COMMIT bits of every channel written set
together. No entry transfers after an overrun (05 R163). -/
def State.ceCommit (s : State) : State :=
  if s.ce.overrun then s
  else
    let chans := s.ce.commit.filterMap fun e => if e.kind = 2 then (brpShadow? e.addr).map (·.1) else none
    let t := s.forAll s.ce.commit fun u e =>
      match e.kind with
      | 2 => match brpShadow? e.addr with
             | some (c, d) => u.shadowWrite true c d e.value.toNat
             | none => u
      | 3 => if regionOf e.addr = .sram then u.store e.addr e.value else u
      | _ => match (List.range 16).find? fun m => decide (R.MSR_CMP m = e.addr) with
             | some m => u.comparatorThreshold m (fld e.value 7 0)
             | none => u
    t.forAll chans.eraseDups State.shadowCommit

/-- The swap of a boundary (05 R174). -/
def State.ceSwap (s : State) : State :=
  if s.fb F.CE_BANK.SWAPPEND && !s.fb F.CE_BANK.LOADBUSY then
    let t := s.setB F.CE_BANK.SWAPPEND false
    if s.fb F.CE_BANK.PBAD then t.setB F.CE_BANK.SWAPERR true
    else
      let u := (t.setF F.CE_BANK.ACTIVE (1 - s.activeBank)).incF F.CE_BANK.SWAPS 1;
      { u with ce := { u.ce with swapNow := true } }
  else s

/-- The engine's part of a boundary, after its sources are latched: the counts of the period that ended, the snapshot,
the commit and the swap (05 R159, R161, R167, R174). -/
def State.ceBoundary (s : State) : State :=
  if s.live && s.on 5 then
    let s1 : State := (s.setF F.CE_CYCLES.CYC s.ce.lastEnd).setF F.CE_MAXCYC.CYC (max (s.f F.CE_MAXCYC.CYC) s.ce.lastEnd)
    let s2 : State := if s1.ceOn then s1.ceSnapshot else s1.flushHeld
    let s3 : State := if s2.ceOn then s2.ceCommit else s2
    let s4 : State := { s3 with ce := { s3.ce with
      overrun := false, commit := [], ran := [], lastEnd := 0, supDone := false, windowDone := false, swapNow := false } }
    s4.ceSwap
  else s

/-! ## Supervision (05 R186 to R193) -/

/-- Fields of word 6 of descriptor n: STATE, COASTCNT, CNT, FCNT. -/
def fbState (w : Word) : Nat := fld w 31 29
def fbCoast (w : Word) : Nat := fld w 28 16
def fbCnt (w : Word) : Nat := fld w 15 8
def fbFcnt (w : Word) : Nat := fld w 7 0

/-- Word 6 from its fields. -/
def fbWord (st coast cnt fcnt : Nat) : Word := wN (st * 2 ^ 29 + coast % 8192 * 2 ^ 16 + cnt % 256 * 256 + fcnt % 256)

/-- Word 6 of descriptor n. -/
def State.fb6 (s : State) (n : Nat) : Word := s.ldw (fbAddr n + 24)

/-- A descriptor's bit in CE_FBSUBST or CE_FBEXP. -/
def State.setFbBit (s : State) (base : Nat → Nat) (n : Nat) (b : Bool) : State :=
  s.setReg (base (n / 32)) (setFld (s.reg (base (n / 32))) (n % 32) (n % 32) (b2n b))

/-- The descriptor substitutes. -/
def fbSubst (st : Nat) : Bool := decide (2 ≤ st)

/-- A descriptor reads VALID with every count 0 and nothing substituted (05 R191, R192). -/
def State.fbClear (s : State) (n : Nat) : State :=
  (((s.store (fbAddr n + 24) 0).setFbBit R.CE_FBSUBST n false).setFbBit R.CE_FBEXP n false)

/-- The input image word of descriptor n takes a value. -/
def State.fbImage (s : State) (n : Nat) (v : Word) : State := s.store (inAddr (fld (s.ldw (fbAddr n)) 12 0)) v

/-- ŷ of descriptor n as the program wrote it. -/
def State.fbPred (s : State) (n : Nat) : Word := s.ldw (stateAddr (fld (s.ldw (fbAddr n + 4)) 14 0))

/-- The evaluation of descriptor n on the raw image of `s0` (05 R187, R188, R191, R192); the entries into IMPLAUSIBLE,
FROZEN, EXPIRED and the return to VALID are commands of their own. -/
def State.fbEval (s0 s : State) (n : Nat) : State :=
  let a := fbAddr n
  let w0 := s0.ldw a
  let cx := s0.ldw (a + 4)
  let ctx := fld cx 22 16
  if bitAt w0 31 = false then s
  else if decide (ctx ≠ 0) && !s0.drives ctx then
    let t := s.fbClear n;
    { t with ce := { t.ce with fbLive := tblSet (fun _ => false) t.ce.fbLive n false } }
  else
    let first := decide (ctx ≠ 0) && !tblGet (fun _ => false) s.ce.fbLive n
    let y := s0.ldw (inAddr (fld w0 12 0))
    let p := s0.fbPred n
    let out := decide (absI (sg y - sg p) > (s0.ldn (a + 8) : Int))
    let yraw := s0.ldw (a + 20)
    let moved := decide (absI (sg p - sg (s0.ldw (a + 28))) > (s0.ldn (a + 12) : Int))
    let echo := s0.ctx ctx 0x7C
    let check := bitAt w0 26 && decide (ctx ≠ 0) && !first
    let stuck := check &&
      (bitAt (s0.ctx ctx 0x80) 7 || decide (timeDiff 32 echo.toNat (tblGet (fun _ => (0 : Word)) s.ce.echo n).toNat ≤ 0))
    let w6 := s0.fb6 n
    let st := fbState w6
    let fcnt := if first then 0 else if y ≠ yraw then 0 else if moved then min 255 (fbFcnt w6 + 1) else fbFcnt w6
    let m := fld (s0.ldw (a + 16)) 31 24
    let recov := fld (s0.ldw (a + 16)) 15 8
    let s1 : State := (s.store (a + 20) y).store (a + 28) p
    let s2 : State := { s1 with ce := { s1.ce with
      fbLive := tblSet (fun _ => false) s1.ce.fbLive n true
      echo := tblSet (fun _ => (0 : Word)) s1.ce.echo n echo
      echoStuck := if stuck then n :: s1.ce.echoStuck else s1.ce.echoStuck } }
    if fbSubst st then
      let good := !out && (decide (y ≠ yraw) || !moved) && !stuck
      let rcnt := if good then min (if st = 4 then recov else 255) (fbCnt w6 + 1) else 0
      if st = 4 && s0.ce.fbExp.contains n && decide (rcnt = recov) then s2.fbClear n
      else
        (s2.store (a + 24) (fbWord st (min 8191 (fbCoast w6 + 1)) rcnt fcnt)).fbImage n p
    else
      let mcnt := if out then min 255 (fbCnt w6 + 1) else 0
      let st' := if mcnt = 0 then 0 else if mcnt < m then 1 else st
      s2.store (a + 24) (fbWord st' 0 mcnt fcnt)

/-- SUPERVISION: after the snapshot phase, every feedback descriptor in index order. -/
def State.supervise (s : State) : State :=
  if s.ceOn && s.ce.snapOpen && !s.ce.supDone then
    let s1 := (s.advanceTo (s.ceTime (s.tSnap + s.tSup))).flushHeld
    let s2 : State := { s1 with ce := { s1.ce with echoStuck := [] } }
    let t := s2.forAll (List.range 512) fun u n => s2.fbEval u n
    let u : State := { t with ce := { t.ce with fbExp := [], supDone := true } }
    u.ceFlags
  else s

/-- The condition of R188 holds for descriptor n. -/
def State.fbFrozenDue (s : State) (n : Nat) : Bool :=
  decide (fld (s.ldw (fbAddr n + 16)) 23 16 ≤ fbFcnt (s.fb6 n)) || s.ce.echoStuck.contains n

/-- The entry to IMPLAUSIBLE or FROZEN (05 R189): the state, the substitution, the record and the source. -/
def State.fbEnter (s : State) (n st : Nat) : State :=
  let w6 := s.fb6 n
  let coast := if fbSubst (fbState w6) then fbCoast w6 else 1
  let t := (s.store (fbAddr n + 24) (fbWord st coast 0 (fbFcnt w6))).fbImage n (s.ldw (fbAddr n + 28))
  (((t.setFbBit R.CE_FBSUBST n true).ceFlags).note 7 (st - 1) n).raise (st + 12)

/-- The descriptor was evaluated in this period. -/
def State.fbUsed (s : State) (n : Nat) : Bool :=
  s.ceOn && s.ce.supDone && bitAt (s.ldw (fbAddr n)) 31 && tblGet (fun _ => false) s.ce.fbLive n

/-- FEEDBACK_IMPLAUSIBLE: MCNT has reached M and the conditions of FROZEN do not hold (05 R187, R188). -/
def State.fbImplausible (s : State) (n : Nat) : State :=
  let w6 := s.fb6 n
  if s.fbUsed n && decide (fbState w6 < 2 ∧ 0 < fbCnt w6 ∧ fld (s.ldw (fbAddr n + 16)) 31 24 ≤ fbCnt w6) &&
      !s.fbFrozenDue n then
    s.fbEnter n 2
  else s

/-- FEEDBACK_FROZEN: FCNT has reached F or the echo does not advance (05 R188). -/
def State.fbFrozen (s : State) (n : Nat) : State :=
  if s.fbUsed n && decide (fbState (s.fb6 n) < 3) && s.fbFrozenDue n then s.fbEnter n 3 else s

/-! ## Ramps (05 R194, R195) -/

/-- A ramp starts; on a group that ramps or is at zero it only cancels the pending clear. -/
def State.rampStart (s : State) (g : Nat) : State :=
  if s.fb (F.CE_RAMP.ACTIVE g) || s.fb (F.CE_RAMP.ZERO g) then s.setB (F.CE_RAMP.PENDCLR g) false
  else
    let t := s.setB (F.CE_RAMP.ACTIVE g) true;
    { t with ce := { t.ce with rampJ := tblSet (fun _ => (0 : Nat)) t.ce.rampJ g 0 } }

/-- FEEDBACK_EXPIRY: COASTCNT has reached TCOAST (05 R190): SF1 is requested or the group's ramp starts. -/
def State.fbExpiry (s : State) (n : Nat) : State :=
  let w0 := s.ldw (fbAddr n)
  let w6 := s.fb6 n
  if s.fbUsed n && decide ((fbState w6 = 2 ∨ fbState w6 = 3) ∧ fld w0 25 13 ≤ fbCoast w6) then
    let t := s.store (fbAddr n + 24) (setFld w6 31 29 4)
    let u := ((t.setFbBit R.CE_FBEXP n true).note 7 3 n)
    let v := if bitAt w0 30 then (u.noteMade (u.demandFuncs 1) true true).demand 1 4 0 false
      else u.rampStart (fld w0 29 27)
    v.ceFlags
  else s

/-- FEEDBACK_RECOVERY: RCNT has reached RECOV in IMPLAUSIBLE or FROZEN (05 R191): the raw value stands again. -/
def State.fbRecovery (s : State) (n : Nat) : State :=
  let w6 := s.fb6 n
  if s.fbUsed n && decide ((fbState w6 = 2 ∨ fbState w6 = 3) ∧ 0 < fbCnt w6 ∧ fld (s.ldw (fbAddr n + 16)) 15 8 ≤ fbCnt w6) then
    ((s.fbClear n).fbImage n (s.ldw (fbAddr n + 20))).ceFlags
  else s

/-- FBEXP_WRITE: the ones of CE_FBEXPw act at the next evaluation (05 R191). -/
def State.fbexpWrite (s : State) (w : Nat) (bits : Word) : State :=
  if s.live && s.on 5 then
    { s with ce := { s.ce with fbExp := s.ce.fbExp ++
      ((bitsOf 32 (bits &&& s.reg (R.CE_FBEXP w)).toNat).map (32 * w + ·)).filter fun n => !s.ce.fbExp.contains n } }
  else s

/-- RAMP_CLEAR: CLR of group g (05 R195). -/
def State.rampClear (s : State) (g : Nat) : State :=
  if s.live && s.on 5 then
    if s.fb (F.CE_RAMP.ZERO g) then { s with ce := { s.ce with clrReq := tblSet (fun _ => false) s.ce.clrReq g true } }
    else if s.fb (F.CE_RAMP.ACTIVE g) then s.setB (F.CE_RAMP.PENDCLR g) true
    else s
  else s

/-- One commit window of group g. -/
def State.rampStep (s : State) (g : Nat) : State :=
  if s.fb (F.CE_RAMP.ZERO g) then
    if tblGet (fun _ => false) s.ce.clrReq g || s.fb (F.CE_RAMP.PENDCLR g) then
      let t := ((s.setF (F.CE_RAMP.GAIN g) 32768).setB (F.CE_RAMP.ZERO g) false).setB (F.CE_RAMP.PENDCLR g) false;
      { t with ce := { t.ce with clrReq := tblSet (fun _ => false) t.ce.clrReq g false } }
    else s
  else if s.fb (F.CE_RAMP.ACTIVE g) then
    let n := s.f (F.CE_RAMP.RAMPN g)
    let j := tblGet (fun _ => (0 : Nat)) s.ce.rampJ g + 1
    let t : State := { s with ce := { s.ce with rampJ := tblSet (fun _ => (0 : Nat)) s.ce.rampJ g j } }
    let u := t.setF (F.CE_RAMP.GAIN g) (32768 * (n - j) / n)
    if n ≤ j then (u.setB (F.CE_RAMP.ACTIVE g) false).setB (F.CE_RAMP.ZERO g) true else u
  else s

/-! ## Trackers (05 R181 to R185) -/

/-- The slew limit S of tracker n in 2^-32 turn per period (R181). -/
def State.trkSlew (s : State) (n : Nat) : Int :=
  rdiv ((s.f (F.CE_TRKSLEW.MAXSLEW n) * s.f F.STM_PERIOD.P * 2 ^ 32 : Nat) : Int) 72000000000

/-- The advance θ by omega, with the line-cycle start of R185. -/
def State.trkAdvance (s : State) (n : Nat) (omega : Int) : State :=
  let th : Int := ((s.reg (R.CE_TRKTHETA n)).toNat : Int) + omega
  let t := (s.setReg (R.CE_TRKOMEGA n) (w32 omega)).setReg (R.CE_TRKTHETA n) (w32 th)
  if th ≥ 2 ^ 32 then
    { t with ce := { t.ce with lineStart := t.ce.lineStart ||| s.f (F.CE_TRKCFG.ARMS n) } }
  else t

/-- TRACKER_UPDATE: grid-following (R182) or grid-forming (R183), with the change of mode (R184). -/
def State.trackerUpdate (s : State) (n : Nat) : State :=
  let forming := s.fb (F.CE_TRKCFG.MODE n)
  let wcmd := tblGet (fun _ => (0 : Word)) s.ce.wcmd n
  let s1 := if s.fb (F.CE_TRKSTAT.MODEACT n) && !forming then s.setReg (R.CE_TRKX n) wcmd else s
  let s2 := s1.setB (F.CE_TRKSTAT.MODEACT n) forming
  if !s.fb (F.CE_TRKCFG.EN n) then s2
  else
    let k := s.f (F.CE_TRKCFG.KADDR n)
    let lo := s.coefV (k + 2)
    let hi := s.coefV (k + 3)
    let w0 : Int := (s.reg (R.CE_TRKW0 n)).toNat
    if forming then
      let c := clampI lo hi (sg (s.ldw (stateAddr (s.f (F.CE_TRKADDR.WADDR n)))))
      let s3 : State := { s2 with ce := { s2.ce with wcmd := tblSet (fun _ => (0 : Word)) s2.ce.wcmd n (w32 c) } }
      (s3.setB (F.CE_TRKSTAT.RELOCK n) false).trkAdvance n (w0 + c)
    else
      let eps := sg (s.ldw (stateAddr (s.f (F.CE_TRKADDR.EADDR n))))
      let x := sg (s2.reg (R.CE_TRKX n))
      let pr := s.coefMul k eps
      let u := sg (sat32 (sg pr.1 + x)).1
      let lim := s.trkSlew n
      if absI u ≤ lim then
        let ir := s.coefMul (k + 1) eps
        let s3 := (s2.setReg (R.CE_TRKX n) (w32 (clampI lo hi (x + sg ir.1)))).setB (F.CE_TRKSTAT.RELOCK n) false
        (if pr.2 || ir.2 then s3.setB F.CE_STATUS.OSAT true else s3).trkAdvance n (w0 + u)
      else
        let s3 := if s.fb (F.CE_TRKSTAT.RELOCK n) then s2 else s2.incF (F.CE_TRKSTAT.RELOCKS n) 1
        let s4 := s3.setB (F.CE_TRKSTAT.RELOCK n) true
        (if pr.2 then s4.setB F.CE_STATUS.OSAT true else s4).trkAdvance n (w0 + (if u < 0 then -lim else lim))

/-- TRACKER_MODE_WRITE: the stored MODE; it acts in the next commit window (R184). -/
def State.trackerMode (s : State) (n : Nat) (forming : Bool) : State :=
  if s.live && s.on 5 then s.setB (F.CE_TRKCFG.MODE n) forming else s

/-! ## Swap slot, programs and the commit window -/

/-- One bumpless recompute (R178). -/
def State.bumplessOne (s : State) (d : Nat) : State :=
  let a := intAddr d
  let w0 := s.ldw a
  if fld w0 31 30 ≠ 3 then s
  else
    let k := fld w0 29 16
    let r := s.coefMul k (sg (s.ldw (a + 8)))
    let x := sg (s.ldw (a + 12)) - sg r.1
    let lo := s.coefV (k + 2)
    let hi := s.coefV (k + 3)
    let t := if r.2 then s.setB F.CE_STATUS.OSAT true else s
    if hi < x then (t.store (a + 4) (w32 hi)).store (a + 16) 0xC0000000
    else if x < lo then (t.store (a + 4) (w32 lo)).store (a + 16) 0x80000000
    else (t.store (a + 4) (w32 x)).store (a + 16) (setFld (t.ldw (a + 16)) 31 31 0)

/-- BUMPLESS_RECOMPUTE: in the swap slot of a swap. -/
def State.bumpless (s : State) : State :=
  if s.ceOn && s.ce.supDone && s.ce.swapNow then
    let t := (s.advanceTo (s.ceTime (s.tSnap + s.tSup + s.tSwap))).forAll (List.range 256) State.bumplessOne;
    { t with ce := { t.ce with swapNow := false } }
  else s

/-- PROGRAM_START of the program in a slot (R162): due by its multiple and phase, at CE_PROGSj. -/
def State.programStart (s : State) (slot : Nat) : State :=
  match s.adm.progs.find? fun r => decide (r.proc = 5 ∧ r.slot = slot) with
  | some r =>
    if s.ceOn && s.admitted && s.ce.supDone && !s.ce.swapNow && s.ce.slot.isNone && !s.ce.ran.contains slot &&
        decide (s.tm.k % r.mult = r.phase) then
      let t := s.advanceTo (s.ceTime (s.f (F.CE_PROGS.CYC slot)))
      let u := (t.modProc 5 fun q => { q with pc := wN r.code, run := .running, loops := [], calls := [] }).setB
        F.CE_STATUS.RUN true;
      { u with ce := { u.ce with slot := some slot, ran := slot :: u.ce.ran } }
    else s
  | none => s

/-- PROGRAM_OVERRUN: the running program has reached its deadline offset (R163). -/
def State.programOverrun (s : State) : State :=
  match s.ce.slot with
  | some j => if s.ceOn then (s.advanceTo (s.ceTime (s.f (F.CE_PROGD.CYC j)))).engineStop else s
  | none => s

/-- The commit buffer: the COMMIT entries of the output list with their values after the ramps (R165, R167, R194). -/
def State.commitBuffer (s : State) : List CommitEntry :=
  (s.outEntries fun w => decide (2 ≤ fld w 31 28 ∧ fld w 31 28 ≤ 4)).map fun e =>
    let d := fld e.1 15 0
    let k := fld e.1 31 28
    { kind := k
      addr := if k = 2 then 0x400B0000 + d else if k = 3 then s.f F.CE_RBBASE.BASE + 4 * d else 0x400C0000 + d
      value := s.ramped e.1 e.2 }

/-- COMMIT_WINDOW, at P − 200: trackers, ramps, and the commit buffer (R159). -/
def State.commitWindow (s : State) : State :=
  if s.ceOn && s.ce.supDone && !s.ce.windowDone then
    let s1 := s.advanceTo (s.ceTime (s.f F.STM_PERIOD.P - 200))
    let s2 := (s1.forAll (List.range 4) State.trackerUpdate).forAll (List.range 8) State.rampStep
    let s3 : State := { s2 with ce := { s2.ce with commit := s2.commitBuffer, windowDone := true } }
    s3.ceFlags
  else s

/-! ## Coefficient banks (05 R172 to R175) -/

/-- CE_LOAD with GO = 1. -/
def State.ceLoad (s : State) (first last : Nat) : State :=
  if s.live && s.on 5 then
    let t := (s.setF F.CE_LOAD.FIRST first).setF F.CE_LOAD.LAST last
    if s.fb F.CE_BANK.LOADBUSY then t.setB F.CE_BANK.LOADREJ true
    else
      let u := t.setB F.CE_BANK.LOADBUSY true;
      { u with ce := { u.ce with load := some (first, last), loadAt := u.tm.refclk } }
  else s

/-- The address of coefficient c in the master copy of a bank (R172). -/
def State.masterAddr (s : State) (bank c : Nat) : Nat := s.f (F.CE_MCOPY.BASE bank) + 8 * c

/-- Coefficient c of a bank taken from the master copy. -/
def State.takeCoef (s : State) (bank c : Nat) : State :=
  let m := s.masterAddr bank c
  (s.store (coefAddr bank c) (s.ldw m)).store (coefAddr bank c + 4) (s.ldw (m + 4) &&& 0xFF)

/-- Some enabled integrator or tracker has its lower limit above its upper limit in a bank (R173). -/
def State.limitsBad (s : State) (bank : Nat) : Bool :=
  let bad := fun k => decide (sg (s.ldw (coefAddr bank (k + 3))) < sg (s.ldw (coefAddr bank (k + 2))))
  ((List.range 256).any fun d => bitAt (s.ldw (intAddr d)) 31 && bad (fld (s.ldw (intAddr d)) 29 16)) ||
    (List.range 4).any fun n => s.fb (F.CE_TRKCFG.EN n) && bad (s.f (F.CE_TRKCFG.KADDR n))

/-- LOAD_DONE: the copy, at least two cycles an entry, and the limit check. -/
def State.loadDone (s : State) : State :=
  match s.ce.load with
  | some (first, last) =>
    if s.live && s.on 5 then
      let n := last + 1 - first
      let bank := 1 - s.activeBank
      let s1 := s.advanceCycles (s.ce.loadAt + 2 * n - s.tm.refclk)
      let s2 := s1.forAll (List.range n) fun t i => t.takeCoef bank (first + i)
      let s3 := (s2.setB F.CE_BANK.PBAD (s2.limitsBad bank)).setB F.CE_BANK.LOADBUSY false;
      { s3 with ce := { s3.ce with load := none } }
    else s
  | none => s

/-- BANK_SWAP_REQUEST (R174): a second write changes nothing. -/
def State.swapRequest (s : State) : State :=
  if s.live && s.on 5 then s.setB F.CE_BANK.SWAPPEND true else s

/-! ## Angle tables (05 R180) -/

/-- An engine program is admitted. -/
def State.engineAdmitted (s : State) : Bool := s.admitted && s.adm.progs.any fun r => r.proc == 5

/-- A processor may write angle table t. -/
def State.angleOpen (s : State) (t : Nat) : Bool :=
  !s.engineAdmitted || bitAt (s.reg (if t < 32 then R.CE_ATLIVE0 else R.CE_ATLIVE1)) (t % 32)

/-- ANGLE_TABLE_WRITE by processor p: a write that is not open is rejected with the bus-error exception. -/
def State.angleWrite (s : State) (p t i : Nat) (v : Word) : State :=
  if s.canRun p && s.on 5 then
    if s.angleOpen t then (s.store (0x32000000 + t * 0x1000 + i * 4) v).retire p
    else s.retireWith p 3
  else s

/-! ## Parity (05 R196; 06 R198; 12 R368) -/

/-- A restoration is counted and recorded with the word's address. -/
def State.restored (s : State) (a : Nat) : State := (s.incF F.FCU_PARCNT.RESTORED 1).note 5 0x10 a

/-- A word that cannot be restored. -/
def State.badWord (s : State) (a : Nat) : State :=
  { s with badWords := tblSet (fun _ => false) s.badWords (a / 4 * 4) true }

/-- The source of a word without restoration (R198). -/
def badSource (a : Nat) : Nat :=
  match regionOf a with
  | .context => 9
  | .ceMem => 10
  | .angle => 10
  | _ => 8

/-- The bank and entry of an address in the coefficient banks. -/
def coefOf? (a : Nat) : Option (Nat × Nat) :=
  if 0x31000000 ≤ a ∧ a < 0x31040000 then some ((a - 0x31000000) / 0x20000, (a - 0x31000000) % 0x20000 / 8) else none

/-- CE_PARITY_ERROR of the word at an offset of CE memory, found by the engine and persistent (05 R196). -/
def State.ceParity (s : State) (off : Nat) : State :=
  let a := 0x31000000 + off / 4 * 4
  if s.live && s.on 5 then
    match coefOf? a with
    | some (b, c) => (s.takeCoef b c).restored a
    | none => (s.badWord a).raise 10
  else s

/-- The context index of an address in the context memory. -/
def ctxOf (a : Nat) : Nat := (a - 0x30000000) / 0x800

/-- The record of an admitted program or handler with an image that holds an address. -/
def State.imageOf (s : State) (p a : Nat) : Option Nat :=
  let hit := fun (code len image : Nat) =>
    decide (image ≠ 0 ∧ physAddr p code ≤ a ∧ a < physAddr p code + len)
  match s.adm.progs.find? fun r => hit r.code r.len r.image with
  | some r => some (r.image + (a - physAddr p r.code))
  | none => (s.adm.handlers.find? fun r => hit r.code r.len r.image).map fun r => r.image + (a - physAddr p r.code)

/-- The word at an address can be restored when processor p reads it (R198). -/
def State.restorable (s : State) (p a : Nat) : Bool :=
  match regionOf a with
  | .context => s.protected
  | .ceMem => (coefOf? a).isSome
  | _ => s.admitted && (s.imageOf p a).isSome

/-- PARITY_RESTORATION: a read by processor p, a load or a fetch, finds a parity error. Good parity on the re-read is
counted; a word that can be restored stalls the processor; any other raises its source and the exception, and a context
whose word is lost goes to FAULTED at the next boundary (01 R44). -/
def State.parityRestoration (s : State) (p : Nat) (addr : Word) (fetch persists : Bool) : State :=
  let a := physAddr p addr.toNat / 4 * 4
  if !s.canRun p then s
  else if !persists then s.incF F.FCU_PARCNT.REREAD 1
  else if s.restorable p a then { s with fcu := { s.fcu with restoring := some (p, a) } }
  else
    let t := (s.badWord a).raise (badSource a)
    let cell : CellAux := tblGet (fun _ => ({} : CellAux)) t.cs.cells (ctxOf a)
    let cell' : CellAux := { cell with parityBad := true }
    let u : State := if regionOf a = .context then
        { t with cs := { t.cs with cells := tblSet (fun _ => ({} : CellAux)) t.cs.cells (ctxOf a) cell' } }
      else t
    if fetch then u.exception p 5 addr else u.retireWith p 4

/-- RESTORATION_DONE: the word is written back with fresh parity, and the processor goes on: a context word as the buddy
sent it, a coefficient from its master copy, an instruction from its flash image. -/
def State.restorationDone (s : State) (data : Word) : State :=
  match s.fcu.restoring with
  | none => s
  | some (p, a) =>
    if s.live then
      let t : State := { s with fcu := { s.fcu with restoring := none } }
      let u := match regionOf a with
        | .context => t.store a data
        | .ceMem => match coefOf? a with
          | some (b, c) => t.takeCoef b c
          | none => t
        | _ => match t.imageOf p a with
          | some m => t.store a (t.ldw m)
          | none => t
      u.restored a
    else s

/-! ## Commands -/

def execSupervision (s : State) : Out := .next s.supervise
def execFeedbackImplausible (n : Fin 512) (s : State) : Out := .next (s.fbImplausible n)
def execFeedbackFrozen (n : Fin 512) (s : State) : Out := .next (s.fbFrozen n)
def execFeedbackExpiry (n : Fin 512) (s : State) : Out := .next (s.fbExpiry n)
def execFeedbackRecovery (n : Fin 512) (s : State) : Out := .next (s.fbRecovery n)
def execFbexpWrite (w : Fin 16) (bits : Word) (s : State) : Out := .next (s.fbexpWrite w bits)
def execBumplessRecompute (s : State) : Out := .next s.bumpless
def execProgramStart (slot : Fin 8) (s : State) : Out := .next (s.programStart slot)
def execProgramOverrun (s : State) : Out := .next s.programOverrun
def execCommitWindow (s : State) : Out := .next s.commitWindow
def execCeLoad (first last : BitVec 14) (s : State) : Out := .next (s.ceLoad first.toNat last.toNat)
def execLoadDone (s : State) : Out := .next s.loadDone
def execBankSwapRequest (s : State) : Out := .next s.swapRequest
def execRampClear (g : Fin 8) (s : State) : Out := .next (s.rampClear g)
def execParamWrite (j : Fin 2048) (v : Word) (s : State) : Out := .next (s.paramWrite j v)
def execAngleTableWrite (p : CoreId) (t : Fin 64) (i : Fin 1024) (v : Word) (s : State) : Out :=
  .next (s.angleWrite p t i v)
def execTrackerModeWrite (n : Fin 4) (forming : Bool) (s : State) : Out := .next (s.trackerMode n forming)
def execCeParityError (off : Fin 0x80000) (s : State) : Out := .next (s.ceParity off)
def execParityRestoration (p : ProcId) (addr : Word) (fetch persists : Bool) (s : State) : Out :=
  .next (s.parityRestoration p addr fetch persists)
def execRestorationDone (data : Word) (s : State) : Out := .next (s.restorationDone data)

end Sys2Proof.Machine
end

