-- ==== Sys2Proof/Machine/Path.lean ====
section
/-! DEFINITION. What admission reads from code (06 R197, R206 to R214, R217 to R219; 07 R240 to R242): the static checks
of every word, and every path from a record's entry to its end, with its cycles, its disabled windows, its loop and call
depth and the cycle at which it issues each post. -/

namespace Sys2Proof.Machine

/-! ## The result of a check -/

/-- A refusal: CODE, KIND, OBJ, FIGD, FIGA of R249 and R237. -/
def refuse (code kind obj figd figa : Nat) : AdmResult :=
  { code := code, kind := kind, obj := obj, figd := figd, figa := figa }

/-- A refusal that names an instruction address. -/
def refuseAt (code figd figa addr : Nat) : AdmResult := { code := code, figd := figd, figa := figa, addr := addr }

/-- The first refusal of a list of checks. -/
def firstFail : List (Option AdmResult) → Option AdmResult
  | [] => none
  | some r :: _ => some r
  | none :: l => firstFail l

/-- A refusal unless a condition holds. -/
def orFail (ok : Bool) (r : AdmResult) : Option AdmResult := if ok then none else some r

/-! ## Instructions as paths see them -/

/-- What an instruction is to a path. -/
inductive YKind where
  | plain
  | branch (off : Nat)
  | jump (off : Nat)
  | call (off : Nat)
  | ret
  | table (n : Nat)
  | loop (d bound : Nat) (reg : Bool)
  | end_
  | iret
  | di
  | ei
  | wait (off : Nat)
  | twait
  | post (g : Nat)
  deriving DecidableEq, Repr

/-- An instruction's worst cycles (or issue count) without its fetch, and for the engine the latency, the results it
reads (0 to 15 lane registers, 16 to 19 accumulators) and the one it writes. -/
structure YInfo where
  kind : YKind := .plain
  cyc : Nat := 1
  lat : Nat := 1
  reads : List Nat := []
  writes : Option Nat := none
  deriving DecidableEq, Repr

/-- A lane instruction. -/
def laneInfo (lat : Nat) (reads : List Nat) (writes : Option Nat) : YInfo :=
  { lat := lat, reads := reads, writes := writes }

/-- The path view of an instruction on processor p. A load or store whose region the code does not show costs the worst
of R197: 9 and 8 cycles on a core, 3 and 1 in CE memory on the engine (R220). -/
def yInfo (p : Nat) (i : Instr) : YInfo :=
  let ld : YInfo := { cyc := if p = 5 then 3 else 9 }
  let st : YInfo := { cyc := if p = 5 then 1 else 8 }
  match i with
  | .mul .. | .mulh .. | .mulhu .. | .mac .. | .msu .. | .mla .. => { cyc := 2 }
  | .div .. | .divu .. | .rem .. | .remu .. => { cyc := 18 }
  | .lw .. | .lh .. | .lhu .. | .lb .. | .lbu .. => ld
  | .sw .. | .sh .. | .sb .. => st
  | .beq _ _ _ o | .bne _ _ _ o | .blt _ _ _ o | .bge _ _ _ o | .bltu _ _ _ o | .bgeu _ _ _ o =>
    { kind := .branch (o.signExtend 32).toNat }
  | .j _ o => { kind := .jump (o.signExtend 32).toNat, cyc := 2 }
  | .call _ o => { kind := .call (o.signExtend 32).toNat, cyc := 2 }
  | .ret _ => { kind := .ret, cyc := 2 }
  | .twaitp _ o => { kind := .wait o.toNat }
  | .twait .. => { kind := .twait }
  | .jt _ _ n => { kind := .table n.toNat, cyc := 2 }
  | .loop _ d _ b => { kind := .loop d.val b.toNat true }
  | .loopi _ d b => { kind := .loop d.val b.toNat false }
  | .di _ => { kind := .di }
  | .ei _ => { kind := .ei }
  | .iret _ => { kind := .iret, cyc := 4 }
  | .brk _ => { cyc := 6 }
  | .sys .. => { cyc := 6 }
  | .atw .. => { cyc := 2 }
  | .qpush .. | .qpop .. | .qcnt .. => { cyc := 2 }
  | .vadd d a b | .vsub d a b | .vand d a b | .vor d a b | .vxor d a b | .vadds d a b | .vsubs d a b | .vmin d a b
  | .vmax d a b | .vclt d a b => laneInfo 1 [a.val, b.val] (some d.val)
  | .vabs d a | .vneg d a | .vmov d a | .vsra d a _ | .vsll d a _ => laneInfo 1 [a.val] (some d.val)
  | .vcmac _ n _ a _ => laneInfo 2 [a.val] (some (16 + n.val))
  | .vcm d a _ _ => laneInfo 2 [a.val] (some d.val)
  | .vrda d n _ => laneInfo 1 [16 + n.val] (some d.val)
  | .vcla n => laneInfo 1 [] (some (16 + n.val))
  | .vvmac n _ a b => laneInfo 2 [a.val, b.val] (some (16 + n.val))
  | .vld d _ _ _ => laneInfo 2 [] (some d.val)
  | .vst a _ _ => laneInfo 1 [a.val] none
  | .vint d a _ => { laneInfo 3 [a.val] (some d.val) with cyc := 2 }
  | .vang d a _ => laneInfo 2 [a.val] (some d.val)
  | .post g => { kind := .post g.val }
  | .endProgram => { kind := .end_ }
  | .vbc d _ => laneInfo 1 [] (some d.val)
  | .vext a _ _ => laneInfo 1 [a.val] none
  | .vlane d => laneInfo 1 [] (some d.val)
  | _ => {}

/-- The instruction is a control transfer, which may not end a loop body (06 R211). -/
def YKind.transfer : YKind → Bool
  | .branch _ | .jump _ | .call _ | .ret | .table _ | .iret => true
  | _ => false

/-! ## The code of a record -/

/-- The code of a record on a processor: its words, its bounds, and what its paths mean. `start` is the earliest START
of a core program; `restores` holds of a handler entered with IE = 1. -/
structure YCode where
  proc : Fin 6
  words : List Word
  code : Nat
  handler : Bool
  restores : Bool
  start : Nat
  fetch : Nat
  deriving DecidableEq, Repr

/-- The word at an address of the code. -/
def YCode.word (c : YCode) (a : Nat) : Option Word :=
  if c.code ≤ a ∧ (a - c.code) % 4 = 0 then c.words[(a - c.code) / 4]? else none

/-- The instruction at an address of the code. -/
def YCode.at_ (c : YCode) (a : Nat) : Option Instr := (c.word a).bind (decodeWord c.proc)

/-- The target of a branch or jump at an address. -/
def yTarget (pc off : Nat) : Nat := (pc + 4 + off * 4) % 2 ^ 32

/-- The code stands in shared SRAM or in a TCM (06 R200): the region, or none. -/
def codeRegion (p a : Nat) : Option Region :=
  match regionOf (physAddr p a) with
  | .sram => some .sram
  | .tcm n => if n = p then some (.tcm n) else none
  | .pairTcm => if p = 4 then some .pairTcm else none
  | _ => none

/-- The shared-SRAM bank of an address: eight banks of 512 KB in address order. -/
def sramBank (a : Nat) : Nat := (a - 0x20000000) / 0x80000

/-- The static checks of one word of code (07 R240, check_code): encoding, jump tables, loops, TWAIT, and the
coefficient and integrator ranges of 05 R171 and 06 R218. -/
def YCode.checkWord (c : YCode) (nint n : Nat) : Option AdmResult :=
  let a := c.code + 4 * n
  match c.words[n]? with
  | none => none
  | some w =>
    match decodeWord c.proc w with
    | none => some (refuseAt 0x202 w.toNat 0 a)
    | some i =>
      match i, (yInfo c.proc i).kind with
      | _, .table k =>
        let badJ := (List.range k).find? fun j =>
          match (c.at_ (a + 4 + 4 * j)).map fun x => (yInfo c.proc x).kind with
          | some (.jump _) => false
          | _ => true
        badJ.map fun j => refuseAt 0x203 (((c.word (a + 4 + 4 * j)).getD 0).toNat) 0 a
      | _, .loop d b _ =>
        if b = 0 then some (refuseAt 0x204 0 1 a)
        else match (c.at_ (a + 4 * d)).map fun x => (yInfo c.proc x).kind.transfer with
          | some true => some (refuseAt 0x204 0 0 (a + 4 * d))
          | _ => none
      | _, .twait => some (refuseAt 0x206 0 0 a)
      | .vcmac _ _ true _ k, _ => orFail (decide (k.toNat + 15 ≤ 16383)) (refuseAt 0x103 (k.toNat + 15) 0 a)
      | .vcm _ _ true k, _ => orFail (decide (k.toNat + 15 ≤ 16383)) (refuseAt 0x103 (k.toNat + 15) 0 a)
      | .vint _ _ k, _ => orFail (decide (k.toNat + 15 ≤ 255 ∧ k.toNat + 16 ≤ nint)) (refuseAt 0x103 (k.toNat + 15) 0 a)
      | _, _ => none

/-! ## Paths -/

/-- A path so far: its cycles, the cycles of the disabled window it is in, and for each lane register and accumulator
the cycles until it is ready. -/
structure YSt where
  cost : Nat := 0
  di : Option Nat := none
  ready : List Nat := []
  deriving DecidableEq, Repr

/-- What the paths of a record have shown: the longest disabled window, one that never ends, the latest issue of each
post, and the loop and call depth. -/
structure YAcc where
  diMax : Nat := 0
  diOpen : Bool := false
  posts : List (Nat × Nat) := []
  loops : Nat := 0
  calls : Nat := 0
  deriving DecidableEq, Repr

/-- How a stretch of code is left: past the last instruction of its loop body, to a target outside the body, by RET, or
at the end of the record. -/
inductive YExit where
  | fall
  | leave (t : Nat)
  | ret
  | done
  deriving DecidableEq, Repr

/-- Two paths that differ only in their cycles are one, with the larger counts: their futures are the same. -/
def mergeSt (l : List YSt) : List YSt :=
  l.foldl (fun acc x =>
    if acc.any fun y => decide (y.ready = x.ready ∧ y.di.isSome = x.di.isSome) then
      acc.map fun y => if y.ready = x.ready ∧ y.di.isSome = x.di.isSome then
        { y with cost := max y.cost x.cost, di := y.di.map fun n => max n (x.di.getD 0) } else y
    else acc ++ [x]) []

/-- The exits with their paths. -/
abbrev YOut := List (YExit × List YSt)

/-- Two sets of exits together. -/
def mergeOut (a b : YOut) : YOut :=
  b.foldl (fun acc e =>
    if acc.any fun x => decide (x.1 = e.1) then
      acc.map fun x => if x.1 = e.1 then (x.1, mergeSt (x.2 ++ e.2)) else x
    else acc ++ [e]) a

/-- The result of walking code: a refusal, or the exits and what was shown. -/
abbrev YRes := Except AdmResult (YOut × YAcc)

/-- The place of a walk: the loop body it is in, the calls that led to it with their entries, the loops held, and the
bodies that the loop buffer holds. -/
structure YCtx where
  body : Option (Nat × Nat) := none
  chain : List Nat := []
  loops : Nat := 0
  held : List (Nat × Nat) := []
  deriving DecidableEq, Repr

/-- One instruction on a path: its fetch, its stall on results not yet ready, its cycles (06 R219; 07 R241). -/
def YSt.step (x : YSt) (fetch : Nat) (i : YInfo) (extra : Nat) : YSt :=
  let stall := i.reads.foldl (fun m r => max m (x.ready.getD r 0)) 0
  let c := fetch + stall + i.cyc + extra
  let r := if x.ready.isEmpty && i.writes.isNone then x.ready
    else (List.range 20).map fun n => if i.writes = some n then i.lat - i.cyc else x.ready.getD n 0 - c
  { cost := x.cost + c, di := x.di.map (· + c), ready := if r.all (· == 0) then [] else r }

/-- Paths that end: an open disabled window never closes unless the end restores IE. -/
def YAcc.atEnd (acc : YAcc) (restores : Bool) (l : List YSt) : YAcc :=
  l.foldl (fun a x => match x.di with
    | none => a
    | some n => if restores then { a with diMax := max a.diMax n } else { a with diOpen := true }) acc

/-- Sub-walks: a loop body or a callee, from an address. -/
abbrev YSub := YCtx → Nat → List YSt → YAcc → YRes

/-- The iterations of a loop body (06 R211): the first with its fetches, the later ones from the loop buffer when the
body holds up to 16 instructions. The paths that leave and those that fall through; with `all`, every count up to `n`. -/
def iterate (sub : YSub) (first later : YCtx) (pc : Nat) (all : Bool) : Nat → List YSt → List YSt → YOut → YAcc → YRes
  | 0, now, kept, out, acc => .ok (mergeOut out [(.fall, mergeSt (kept ++ now))], acc)
  | n + 1, now, kept, out, acc =>
    match sub first pc now acc with
    | .error e => .error e
    | .ok (o, acc') =>
      let falls := (o.filter fun e => decide (e.1 = .fall)).flatMap (·.2)
      let rest := o.filter fun e => !decide (e.1 = .fall)
      if falls.isEmpty then .ok (mergeOut (mergeOut out rest) (if kept.isEmpty then [] else [(.fall, kept)]), acc')
      else iterate sub later later pc all n falls (if all then mergeSt (kept ++ falls) else kept) (mergeOut out rest) acc'

/-- Walk on: both results, the second after the first. -/
def bothRes (a : YRes) (b : YAcc → YRes) : YRes :=
  match a with
  | .error e => .error e
  | .ok (o, acc) => match b acc with
    | .error e => .error e
    | .ok (o', acc') => .ok (mergeOut o o', acc')

/-- Every exit of a sub-walk carried on. -/
def overExits (h : YExit → List YSt → YAcc → YRes) : YOut → YAcc → YRes
  | [], acc => .ok ([], acc)
  | (e, l) :: es, acc => bothRes (h e l acc) fun acc' => overExits h es acc'

/-- Walk from an address at one level of loops and calls. The fuel counts instructions of this level: a level that
executes more than its code holds repeats one, so a path reaches no end (NOEND). -/
def walkLevel (c : YCode) (sub : YSub) (x : YCtx) : Nat → Nat → List YSt → YAcc → YRes
  | 0, pc, _, _ => .error (refuseAt 0x207 0 0 pc)
  | fuel + 1, pc, l, acc =>
    match c.at_ pc with
    | none => .error (refuseAt 0x207 0 0 pc)
    | some ins =>
      let i := yInfo c.proc ins
      let fetch := if x.held.any fun b => decide (b.1 ≤ pc ∧ pc ≤ b.2) then 0 else c.fetch
      let l0 := l.map fun s => s.step fetch i 0
      let l1 := l.map fun s => s.step fetch i 1
      let on := fun (from_ : Nat) (l : List YSt) (acc : YAcc) =>
        if x.body.any fun b => decide (b.2 = from_) then (.ok ([(.fall, mergeSt l)], acc) : YRes)
        else walkLevel c sub x fuel (from_ + 4) (mergeSt l) acc
      let jumpTo := fun (t : Nat) (l : List YSt) (acc : YAcc) =>
        if x.body.any fun b => !decide (b.1 ≤ t ∧ t ≤ b.2) then (.ok ([(.leave t, mergeSt l)], acc) : YRes)
        else walkLevel c sub x fuel t (mergeSt l) acc
      match i.kind with
      | .branch off => bothRes (on pc l0 acc) (jumpTo (yTarget pc off) l1)
      | .jump off => jumpTo (yTarget pc off) l0 acc
      | .table n =>
        (List.range (n + 1)).foldl (fun r j => bothRes r (jumpTo (pc + 4 + 4 * j) l0)) (.ok ([], acc))
      | .call off =>
        let t := yTarget pc off
        if x.chain.contains t then .error (refuseAt 0x205 0xFFFFFFFF 16 pc)
        else if 16 ≤ x.chain.length then .error (refuseAt 0x205 (x.chain.length + 1) 16 pc)
        else
          match sub { chain := t :: x.chain, loops := x.loops, held := x.held } t l0
              { acc with calls := max acc.calls (x.chain.length + 1) } with
          | .error e => .error e
          | .ok (o, acc') => overExits (fun e l a => match e with
              | .ret => on pc l a
              | e => .ok ([(e, l)], a)) o acc'
      | .ret =>
        if !x.chain.isEmpty then .ok ([(.ret, mergeSt l0)], acc)
        else if c.handler || c.proc.val == 5 then .error (refuseAt 0x207 0 0 pc)
        else .ok ([(.done, mergeSt l0)], acc.atEnd false l0)
      | .loop d b reg =>
        if 4 ≤ x.loops then .error (refuseAt 0x204 (x.loops + 1) 4 pc)
        else
          let body := (pc + 4, pc + 4 * d)
          let first : YCtx := { x with body := some body, loops := x.loops + 1 }
          let later : YCtx := if d ≤ 16 then { first with held := body :: first.held } else first
          match iterate sub first later (pc + 4) reg b l0 (if reg then l1 else []) []
              { acc with loops := max acc.loops (x.loops + 1) } with
          | .error e => .error e
          | .ok (o, acc') => overExits (fun e l a => match e with
              | .fall => on (pc + 4 * d) l a
              | .leave t => jumpTo t l a
              | e => .ok ([(e, l)], a)) o acc'
      | .end_ => .ok ([(.done, mergeSt l0)], acc)
      | .iret =>
        if c.handler then .ok ([(.done, mergeSt l0)], acc.atEnd c.restores l0) else .error (refuseAt 0x207 0 0 pc)
      | .di => on pc (l0.map fun s => { s with di := some (s.di.getD 0) }) acc
      | .ei => on pc (l0.map fun s => { s with di := none }) (acc.atEnd true l0)
      | .wait off =>
        let target := off - (c.start + 16)
        on pc (l0.map fun s =>
          { s with cost := max s.cost target, di := s.di.map (· + (target - s.cost)) }) acc
      | .post g =>
        let at_ := l0.foldl (fun m s => max m (s.cost - 1)) 0
        on pc l0 { acc with posts := (g, at_) :: acc.posts }
      | _ => on pc l0 acc

/-- Walks nested to a depth of loops and calls. -/
def walkDepth (c : YCode) : Nat → YSub
  | 0 => fun _ pc _ _ => .error (refuseAt 0x205 0xFFFFFFFF 16 pc)
  | n + 1 => fun x pc l acc => walkLevel c (walkDepth c n) x (c.words.length + 1) pc l acc

/-- The facts of a record's code: path_bound and the rest (07 R241). -/
structure YFacts where
  wcet : Nat
  acc : YAcc
  deriving DecidableEq, Repr

/-- The bound of a record's paths: at most 16 calls and 4 loops are held at once. An engine program adds one repeat and
one restoration (05 R196). -/
def YCode.facts (c : YCode) : Except AdmResult YFacts :=
  match walkDepth c 22 {} c.code [{}] {} with
  | .error e => .error e
  | .ok (o, acc) =>
    let extra := if c.proc.val = 5 then 26 else 0
    .ok { wcet := extra + o.foldl (fun m e => e.2.foldl (fun m s => max m s.cost) m) 0,
          acc := { acc with posts := acc.posts.map fun e => (e.1, e.2 + extra) } }

end Sys2Proof.Machine
end

