-- ==== Sys2Proof/Machine/Admission.lean ====
section
/-! DEFINITION. Admission (07): the set-up descriptor, the checks of R240 in their order, the result, the lock, unload,
and the policing of R250 to R252. The naming of cells and arms in a set-up has no address in the text; it is the model's
(log 27). -/

namespace Sys2Proof.Machine

/-! ## The descriptor (07 R231 to R234) -/

/-- A record of the descriptor: its index and its eight words. -/
structure DescRec where
  idx : Nat
  w : List Word
  deriving DecidableEq, Repr

/-- Bits [hi:lo] of word n of a record. -/
def DescRec.g (r : DescRec) (n hi lo : Nat) : Nat := fld (r.w.getD n 0) hi lo

def DescRec.type (r : DescRec) : Nat := r.g 0 31 28

/-- The records of the descriptor at an address. -/
def State.descRecs (s : State) (a : Nat) : List DescRec :=
  (List.range (min 512 (fld (s.ldw a) 15 0))).map fun n => { idx := n, w := s.words (a + 16 + 32 * n) 8 }

/-- MULT: six bits for 1 to 64, so 0 stands for 64. -/
def DescRec.mult (r : DescRec) : Nat := if r.g 0 19 14 = 0 then 64 else r.g 0 19 14

/-- Record fields (07 R231 to R233): TYPE, PROC, SLOT, PHASE, alignment, length and reserved bits. -/
def DescRec.fieldsOk (r : DescRec) : Bool :=
  match r.type with
  | 1 => decide (r.g 0 27 24 ≤ 5 ∧ r.g 0 23 20 ≤ 7 ∧ r.g 0 13 8 < r.mult ∧ r.g 0 7 0 = 0 ∧ r.g 1 1 0 = 0 ∧
      r.g 2 1 0 = 0 ∧ 0 < r.g 2 31 0 ∧ r.g 3 31 19 = 0 ∧ r.g 4 31 19 = 0 ∧ r.g 6 31 0 = 0 ∧ r.g 7 31 0 = 0)
  | 2 => decide (r.g 1 1 0 = 0 ∧ r.g 2 1 0 = 0 ∧ 0 < r.g 2 31 0)
  | 3 => true
  | _ => false

/-- The processors to which a handler is charged (07 R233): those of its source's routing mask, the NMI's processor for
source 0, and for an exception the processor whose TCM window holds its code, or all of them. -/
def State.handlerProcs (s : State) (src code : Nat) : List Nat :=
  if src = 0xFF then
    match regionOf code with
    | .tcm n => [n]
    | .pairTcm => [4]
    | _ => [0, 1, 2, 3, 4]
  else if src = 0 then [s.nmiProc]
  else (List.range 5).filter fun p => (s.f (F.VIC_SRC.ROUTE src)).testBit p

/-- The escrow part against which the takeover load is checked (07 R234). -/
inductive EscPart where
  | given (cells : Nat) (digest : BitVec 192)
  | full
  | empty
  deriving DecidableEq, Repr

/-- The digest of an ESCROW record, word 1 lowest. -/
def DescRec.digest (r : DescRec) : BitVec 192 :=
  BitVec.ofNat 192 ((List.range 6).foldl (fun a n => a + (r.g (n + 1) 31 0) * 2 ^ (32 * n)) 0)

def State.escPart (s : State) (l : List DescRec) : EscPart :=
  match l.find? fun r => r.type == 3 with
  | some r => .given (r.g 7 5 0) r.digest
  | none => if s.rngJoined && s.fb F.RNG_TOPO.BUDDYV && !s.fb F.RNG_STATUS.NOBUDDY then .full else .empty

/-! ## Cells, arms and ports of a set-up -/

/-- The contexts a set-up names, own and escrow. -/
def State.namedCells (s : State) : List Nat := ctxIdx.filter fun i => bitAt (s.naming i) 31

def State.nClass (s : State) (i : Nat) : Nat := fld (s.naming i) 3 0
def State.nInArm (s : State) (i : Nat) : Bool := bitAt (s.naming i) 4

/-- The arm block of a named cell: own arms 0 to 7, images 8 to 15. -/
def State.nBlock (s : State) (i : Nat) : Nat := fld (s.naming i) 7 5 + (if i < 64 then 0 else 8)

/-- The members that a set-up names for an arm block. -/
def State.nMembers (s : State) (a : Nat) : List Nat :=
  s.namedCells.filter fun i => s.nInArm i && decide (s.nBlock i = a)

/-- The HD members among the own cells, or among the escrow cells. -/
def State.nHd (s : State) (own : Bool) : Nat :=
  (s.namedCells.filter fun i => decide (i < 64) == own && s.nInArm i && decide (s.nClass i = 2)).length

/-- c of R119 at the takeover load: the DAB stage groups of all HD members. -/
def State.nCad (s : State) (e : EscPart) : Nat :=
  2 * s.nHd true + (match e with
    | .given _ _ => 2 * s.nHd false
    | .full => if s.nHd true = 0 then 0 else 126
    | .empty => 0)

def State.armTerm (s : State) (a : Nat) : Nat :=
  if s.f (F.CS_ACFG.MODE a) = 0 then 0 else 48 + 4 * (s.nMembers a).length

/-- t_arm of R119 at the takeover load: every block whose MODE is not OFF; an escrow part counts at least the cells its
record gives; without one, eight images of 63 cells. -/
def State.nArmCycles (s : State) (e : EscPart) : Nat :=
  let own := (List.range 8).foldl (fun t a => t + s.armTerm a) 0
  64 + own + (match e with
    | .given n _ =>
      let named := (s.namedCells.filter fun i => decide (64 < i) && s.nInArm i).length
      (List.range 8).foldl (fun t a => t + s.armTerm (a + 8)) 0 + 4 * (n - named)
    | .full => 8 * 48 + 4 * 63
    | .empty => 0)

/-- The edges of a cell's bundle at most (04 R123), by its arm's mode and its class. -/
def bundleEdges (mode cls : Nat) : Nat :=
  match mode with
  | 0 => 0
  | 1 => if cls = 3 then 3 else 6
  | _ => 4

/-- The cadence words and the bundle words of port i (03 R95; 04 R123). -/
def State.portWords (s : State) (e : EscPart) (i : Nat) : Nat × Nat :=
  let hold := if s.fb (F.LNK_PCFG.EDGEMODE i) then 2 else 0
  if decide (64 < i) && decide (e = .full) then (if s.nHd true = 0 then 0 else 8, 8)
  else if bitAt (s.naming i) 31 && s.nInArm i then
    (if s.nClass i = 2 then 8 else 0, max hold (2 * bundleEdges (s.f (F.CS_ACFG.MODE (s.nBlock i))) (s.nClass i)))
  else (0, hold)

/-- Port i is checked: enabled, an escrow port only with an escrow part. -/
def State.portChecked (s : State) (e : EscPart) (i : Nat) : Bool :=
  s.fb (F.LNK_PCFG.EN i) && (decide (i < 64) || decide (e ≠ .empty))

/-- D of port i in sixteenths of a tick, as admission uses it (07 R248, R252). -/
def State.portD16 (s : State) (e : EscPart) (i : Nat) : Nat :=
  let d := (s.reg (R.LNK_DELAY i)).toNat % 2 ^ 24
  if (decide (64 < i) && decide (e = .full)) || decide (d = 0) then 15360 * 16 else d

/-- The port holds a good set of capability words. -/
def State.portUp (s : State) (i : Nat) : Bool := decide (s.f (F.LNK_PSTAT.LSTATE i) = 3)

/-- The admitted figures ACC and LAT of port i (11 R342), as CAP0 has them. -/
def State.portFigure (s : State) (i : Nat) : Word :=
  if s.portUp i then s.reg (R.LNK_CAP i 0) &&& 0xC03FF
  else
    let lats := (ctxIdx.filter s.portUp).map fun j => fld (s.reg (R.LNK_CAP j 0)) 9 0
    wN (2 * 2 ^ 18 + (if lats.isEmpty then 128 else lats.foldl max 0))

/-! ## check_limits -/

/-- The destination of an output list entry is allowed (05 R165). -/
def State.outEntryOk (s : State) (w0 : Word) : Bool :=
  let a := fld w0 15 0
  let cs := 0x40080000 + a
  match fld w0 31 28 with
  | 1 =>
    (List.range 16).any (fun b => decide (cs = R.CS_AREF b)) ||
      ((List.range 16).any (fun b => decide (cs = R.CS_AIN b)) && !bitAt w0 25) ||
      ctxIdx.any (fun i => decide (cs = R.CS_TRIM i)) ||
      ((List.range 64).any (fun m => decide (cs = R.CS_SAREF m)) && (s.isMaster || decide (s.f F.RNG_STATUS.ROLE = 2)))
  | 2 => match brpShadow? (0x400B0000 + a) with
    | some (_, duty) => duty || !bitAt w0 25
    | none => false
  | 3 => true
  | 4 => (List.range 16).any fun m => decide (0x400C0000 + a = R.MSR_CMP m)
  | _ => false

/-- The ramp groups in use (05 R194). -/
def State.rampUsed (s : State) (g : Nat) : Bool :=
  ((List.range (s.f F.CE_LISTS.NOUT)).any fun n =>
    let w := s.ldw (outListAddr n)
    bitAt w 25 && decide (fld w 24 22 = g)) ||
  ((List.range (s.f F.CE_LISTS2.NFB)).any fun n =>
    let w := s.ldw (fbAddr n)
    decide (fld w 31 30 = 2) && decide (fld w 29 27 = g))

/-- A feedback descriptor's fields are in range (05 R186). -/
def State.fbOk (s : State) (n : Nat) : Bool :=
  let w0 := s.ldw (fbAddr n)
  let w4 := s.ldw (fbAddr n + 16)
  !bitAt w0 31 ||
    (decide (fld w4 31 24 ≠ 0 ∧ fld w4 23 16 ≠ 0 ∧ fld w4 15 8 ≠ 0 ∧ fld w0 25 13 ≠ 0) &&
      !(bitAt w0 26 && decide (fld (s.ldw (fbAddr n + 4)) 22 16 = 0)))

/-- The first index below n that fails, as a refusal. -/
def firstIdx (n : Nat) (ok : Nat → Bool) (r : Nat → AdmResult) : Option AdmResult :=
  ((List.range n).find? fun i => !ok i).map r

/-- The entries of queue q in the pool. -/
def State.queueSpan (s : State) (q : Nat) : Nat × Nat :=
  (s.f (F.HQ_CFG.BASE q), s.f (F.HQ_CFG.BASE q) + 16 * 2 ^ s.f (F.HQ_CFG.SIZE q))

/-- Queue q is in range and overlaps none before it (08 R267). -/
def State.queueOk (s : State) (q : Nat) : Bool :=
  !s.fb (F.HQ_CFG.EN q) ||
    (let x := s.queueSpan q
     decide (s.f (F.HQ_CFG.SIZE q) ≤ 8 ∧ x.1 % (x.2 - x.1) = 0 ∧ x.2 ≤ 65536) &&
       !((List.range q).any fun j => s.fb (F.HQ_CFG.EN j) &&
         decide (x.1 < (s.queueSpan j).2 ∧ (s.queueSpan j).1 < x.2)))

/-- check_limits: counts, record fields, the period, the CE's lists and descriptors, and the queues. -/
def State.checkLimits (s : State) (desc : Nat) (l : List DescRec) : Option AdmResult :=
  let n := fld (s.ldw desc) 15 0
  let p := s.f F.STM_PERIOD.P
  let ports := ctxIdx.any fun i => s.fb (F.LNK_PCFG.EN i)
  firstFail [
    orFail (decide (1 ≤ n ∧ n ≤ 512)) (refuse 0x101 0 0 n 512),
    (l.find? fun r => !r.fieldsOk).map fun r => refuse 0x101 1 r.idx (r.g 0 31 0) 0,
    orFail (decide (s.f F.CE_LISTS.NIN ≤ 2048)) (refuse 0x101 0 0 (s.f F.CE_LISTS.NIN) 2048),
    orFail (decide (s.f F.CE_LISTS.NOUT ≤ 2048)) (refuse 0x101 0 0 (s.f F.CE_LISTS.NOUT) 2048),
    orFail (decide (s.f F.CE_LISTS2.NFB ≤ 512)) (refuse 0x101 0 0 (s.f F.CE_LISTS2.NFB) 512),
    orFail (decide (s.f F.CE_LISTS2.NINT ≤ 256)) (refuse 0x101 0 0 (s.f F.CE_LISTS2.NINT) 256),
    firstIdx 32 s.queueOk fun q => refuse 0x101 0 q (s.f (F.HQ_CFG.BASE q)) 65536,
    firstIdx 8 (fun a => (s.nMembers a).isEmpty || s.f (F.CS_ACFG.MODE a) == 0 ||
        decide (1 ≤ s.f (F.CS_ALVL.NREQ a) ∧ s.f (F.CS_ALVL.NREQ a) ≤ max (s.nMembers a).length (fld (s.armWord a) 23 16)))
      fun a => refuse 0x101 3 a (s.f (F.CS_ALVL.NREQ a)) (max (s.nMembers a).length (fld (s.armWord a) 23 16)),
    orFail (decide (500 ≤ p ∧ p ≤ 262144)) (refuse 0x102 0 0 p 262144),
    orFail (!ports || decide (p % 50 = 0)) (refuse 0x102 0 0 p 50),
    firstIdx (s.f F.CE_LISTS.NIN) (fun n => decide (1 ≤ fld (s.ldw (inListAddr n)) 31 28 ∧ fld (s.ldw (inListAddr n)) 31 28 ≤ 8))
      fun n => refuse 0x103 0 n (s.ldn (inListAddr n)) 0,
    firstIdx (s.f F.CE_LISTS.NOUT) (fun n => s.outEntryOk (s.ldw (outListAddr n)))
      fun n => refuse 0x103 0 n (s.ldn (outListAddr n)) 0,
    firstIdx (s.f F.CE_LISTS2.NFB) s.fbOk fun n => refuse 0x103 0 n (s.ldn (fbAddr n + 16)) 0,
    firstIdx 8 (fun g => !s.rampUsed g || s.f (F.CE_RAMP.RAMPN g) != 0) fun g => refuse 0x103 0 g 0 0]

/-! ## Records: check_code and path_bound -/

/-- A record with its bound. -/
structure RecFacts where
  rec_ : DescRec
  facts : YFacts
  procs : List Nat
  deriving DecidableEq, Repr

/-- The code of a PROGRAM or HANDLER record. -/
def State.recCode (s : State) (r : DescRec) : YCode :=
  let code := r.g 1 31 0
  let handler := r.type == 2
  let ps := s.handlerProcs (r.g 0 23 16) code
  let p := if handler then ps.headD 0 else r.g 0 27 24
  let a := physAddr p code
  { proc := ⟨p % 6, Nat.mod_lt _ (by decide)⟩
    words := s.words a (r.g 2 31 0 / 4)
    code := code
    handler := handler
    restores := handler && decide (r.g 0 23 16 ≠ 0 ∧ r.g 0 23 16 ≠ 0xFF)
    start := if handler then 0 else r.g 3 18 0
    fetch := if p = 5 then 0 else if codeRegion p code = some .sram then 8 else 2 }

/-- Where a record's code stands (06 R200; 05 R162): TCM or shared SRAM; engine code in the bank CE_CODE names, code of
the safety pair outside it. -/
def State.checkPlace (s : State) (engine : Bool) (r : DescRec) (c : YCode) : Option AdmResult :=
  let last := c.code + r.g 2 31 0 - 4
  let p := c.proc.val
  let bank := s.f F.CE_CODE.BANK
  let inSram := decide (codeRegion p c.code = some .sram)
  let banks := [sramBank c.code, sramBank last]
  firstFail [
    orFail ((codeRegion p c.code).isSome && decide (codeRegion p c.code = codeRegion p last))
      (refuseAt 0x201 c.code 0 c.code),
    orFail (decide (p ≠ 5) || (inSram && banks.all (· == bank))) (refuseAt 0x208 (sramBank c.code) 0 c.code),
    orFail (decide (p ≠ 4) || !inSram || !engine || !banks.any (· == bank)) (refuseAt 0x208 bank 0 c.code)]

/-- A code image differs from the code: the first word that does (07 R239). -/
def State.checkImage (s : State) (r : DescRec) (c : YCode) : Option AdmResult :=
  let img := r.g 5 31 0
  if img = 0 then none
  else firstIdx c.words.length (fun n => decide (c.words[n]? = some (s.ldw (img + 4 * n)))) fun n =>
    refuseAt 0x209 n 0 (c.code + 4 * n)

/-- A refusal that names a record. -/
def ofRec (idx : Nat) (r : AdmResult) : AdmResult := { r with kind := 1, obj := idx }

/-- check_code and path_bound of one record; `engine` holds when the set-up has an engine program. -/
def State.checkRec (s : State) (engine : Bool) (r : DescRec) : Except AdmResult (Option RecFacts) :=
  if r.type == 3 then .ok none
  else
    let c := s.recCode r
    match firstFail [s.checkPlace engine r c,
        firstFail ((List.range c.words.length).map fun n => c.checkWord (s.f F.CE_LISTS2.NINT) n),
        s.checkImage r c] with
    | some e => .error (ofRec r.idx e)
    | none =>
      match c.facts with
      | .error e => .error (ofRec r.idx e)
      | .ok f => .ok (some { rec_ := r, facts := f, procs := if r.type == 2 then s.handlerProcs (r.g 0 23 16) c.code
                                                      else [c.proc.val] })

/-- Every record in order. -/
def State.checkRecs (s : State) (engine : Bool) : List DescRec → Except AdmResult (List RecFacts)
  | [] => .ok []
  | r :: l =>
    match s.checkRec engine r with
    | .error e => .error e
    | .ok x => match State.checkRecs s engine l with
      | .error e => .error e
      | .ok xs => .ok ((match x with | some f => [f] | none => []) ++ xs)

/-! ## Disable windows, thread time, engine time -/

/-- check_disable_windows (07 R242). -/
def checkWindows (l : List RecFacts) : Option AdmResult :=
  (l.find? fun f => f.facts.acc.diOpen || decide (400 < f.facts.acc.diMax)).map fun f =>
    refuse 0x306 1 f.rec_.idx (if f.facts.acc.diOpen then 0xFFFFFFFF else f.facts.acc.diMax) 400

/-- The programs of processor q in slot order. -/
def progsOf (l : List RecFacts) (q : Nat) : List RecFacts :=
  (List.range 8).flatMap fun sl => l.filter fun f =>
    decide (f.rec_.type = 1 ∧ f.rec_.g 0 27 24 = q ∧ f.rec_.g 0 23 20 = sl)

/-- The handlers charged to processor q. -/
def handlersOf (l : List RecFacts) (q : Nat) : List RecFacts := l.filter fun f => f.rec_.type == 2 && f.procs.contains q

/-- H_q of R243. -/
def handlerLoad (l : List RecFacts) (q : Nat) : Nat :=
  (handlersOf l q).foldl (fun t f => t + f.rec_.g 0 15 0 * (f.facts.wcet + 10)) 0

/-- f_j of the due programs, with each record. -/
def finishTimes : Nat → List RecFacts → List (RecFacts × Nat)
  | _, [] => []
  | t, f :: l =>
    let e := max (f.rec_.g 3 18 0) t + 16 + f.facts.wcet
    (f, e) :: finishTimes e l

/-- One residue of check_thread_time (07 R243). -/
def checkResidue (l : List RecFacts) (p q k : Nat) : Option AdmResult :=
  let due := (progsOf l q).filter fun f => decide (k % f.rec_.mult = f.rec_.g 0 13 8)
  let h := handlerLoad l q
  let load := due.foldl (fun t f => t + 16 + f.facts.wcet) 0 + h
  firstFail ((finishTimes 0 due).map (fun x =>
      let dl := x.1.rec_.g 4 18 0
      firstFail [orFail (decide (dl ≤ p)) (refuse 0x301 1 x.1.rec_.idx dl p),
        orFail (decide (x.2 + h ≤ dl)) (refuse 0x301 1 x.1.rec_.idx (x.2 + h) dl)]) ++
    [orFail (decide (load ≤ 9 * p / 10)) (refuse 0x302 4 q load (9 * p / 10))])

/-- The levels at which handlers of processor q nest: one per priority, and an exception over each level and over thread
level when one is declared (07 R249, ISTACK). The largest depths of loops and calls along such a nest (06 R211, R212). -/
def State.checkNest (s : State) (l : List RecFacts) (q : Nat) : Option AdmResult :=
  let hs := handlersOf l q
  let exc := hs.filter fun f => f.rec_.g 0 23 16 == 0xFF
  let lvl := fun n => hs.filter fun f => f.rec_.g 0 23 16 != 0xFF && s.prio (f.rec_.g 0 23 16) == n
  let levels := ((List.range 15).map (· + 1)).filter fun n => !(lvl n).isEmpty
  let top := fun (h : RecFacts → Nat) (x : List RecFacts) => x.foldl (fun m f => max m (h f)) 0
  let deep := fun (h : RecFacts → Nat) =>
    top h (progsOf l q) + (levels.foldl (fun t n => t + top h (lvl n)) 0) + (levels.length + 1) * top h exc
  let depth := levels.length + (if exc.isEmpty then 0 else levels.length + 1)
  firstFail [
    orFail (decide (deep (fun f => f.facts.acc.loops) ≤ 4)) (refuse 0x204 4 q (deep fun f => f.facts.acc.loops) 4),
    orFail (decide (deep (fun f => f.facts.acc.calls) ≤ 16)) (refuse 0x205 4 q (deep fun f => f.facts.acc.calls) 16),
    orFail (decide (depth ≤ 16)) (refuse 0x307 4 q depth 16)]

/-- check_thread_time of processor q. -/
def State.checkThread (s : State) (l : List RecFacts) (q : Nat) : Option AdmResult :=
  firstFail (s.checkNest l q :: (List.range 64).map fun k => checkResidue l (s.f F.STM_PERIOD.P) q k)

/-- START of R159. -/
def State.ceStart (s : State) : Nat := s.tSnap + s.tSup + s.tSwap

/-- The engine programs with their start offsets (07 R244). -/
def engineStarts : Nat → List RecFacts → List (RecFacts × Nat)
  | _, [] => []
  | t, f :: l => (f, t) :: engineStarts (t + f.facts.wcet) l

/-- The cut of post group g in ticks (05 R166), no later than TCUT for a trim and RCUT for an arm input (04 R120). -/
def State.postCut (s : State) (g : Nat) : Nat :=
  let es := (List.range (s.f F.CE_LISTS.NOUT)).filter fun n =>
    decide (fld (s.ldw (outListAddr n)) 31 28 = 1 ∧ fld (s.ldw (outListAddr n)) 27 26 = g)
  let off := fun n => 0x40080000 + fld (s.ldw (outListAddr n)) 15 0
  let trim := es.any fun n => ctxIdx.any fun i => decide (off n = R.CS_TRIM i)
  let arm := es.any fun n => !(ctxIdx.any fun i => decide (off n = R.CS_TRIM i))
  let c0 := s.f (F.CE_POST.CUT g)
  let c1 := if trim then min c0 (s.f F.CS_TIMING.TCUT) else c0
  (if arm then min c1 (s.f F.CS_TIMING.RCUT) else c1) * 3200

/-- The number of POST entries of group g. -/
def State.postCount (s : State) (g : Nat) : Nat :=
  ((List.range (s.f F.CE_LISTS.NOUT)).filter fun n =>
    decide (fld (s.ldw (outListAddr n)) 31 28 = 1 ∧ fld (s.ldw (outListAddr n)) 27 26 = g)).length

/-- check_engine_time (07 R244; 05 R166). -/
def State.checkEngine (s : State) (l : List RecFacts) : Option AdmResult :=
  let ps := engineStarts s.ceStart (progsOf l 5)
  let p := s.f F.STM_PERIOD.P
  firstFail (ps.map fun x =>
    let dl := x.1.rec_.g 4 18 0
    firstFail ([orFail (decide (x.2 + x.1.facts.wcet ≤ dl)) (refuse 0x303 1 x.1.rec_.idx (x.2 + x.1.facts.wcet) dl),
      orFail (decide (dl + 200 ≤ p)) (refuse 0x304 1 x.1.rec_.idx dl (p - 200))] ++
      x.1.facts.acc.posts.map fun e =>
        let done := (x.2 + e.2 + s.postCount e.1) * 64
        orFail (decide (s.postCount e.1 = 0 ∨ done < s.postCut e.1)) (refuse 0x305 1 x.1.rec_.idx done (s.postCut e.1))))

/-! ## Classes and floors (01 R19, R20, R24, R27, R32; 04 R129, R142; 07 R245) -/

/-- The group of a gate in a class: 0 the arm group, 1 to 4 the stage groups, 5 none. -/
def gateGroup (cls g : Nat) : Nat := ((List.range 5).find? fun n => (groupMask cls n).testBit g).getD 5

/-- A valid entry of a class's table meets R24. -/
def State.entryOk (s : State) (cls n : Nat) : Bool :=
  let w := s.pat cls n
  let role := pRole w
  let grp := pGroup w
  let gates := pGates w
  let on := fun (m : Nat) => (s.clsPairs cls).any fun q => m.testBit q.1 && m.testBit q.2
  !pValid w ||
    (!on gates && decide (gates &&& classMask cls = gates ∧ role ≤ 5) &&
      (if 2 ≤ role ∧ role ≤ 4 then decide (grp = 0 ∧ groupMask cls 0 ≠ 0 ∧ gates &&& groupMask cls 0 = gates)
       else if role = 5 then decide (1 ≤ grp ∧ grp ≤ 4 ∧ groupMask cls grp ≠ 0 ∧ gates &&& groupMask cls grp = gates)
       else true))

/-- The interlock pairs of a class: at most 8, each within one gate group (R20). -/
def State.pairsOk (s : State) (cls : Nat) : Bool :=
  decide ((s.clsPairs cls).length ≤ 8) && (s.clsPairs cls).all fun q => decide (gateGroup cls q.1 = gateGroup cls q.2)

/-- The members of an arm are of one class, or of M2 and M4 (R27). -/
def State.mixOk (s : State) (a : Nat) : Bool :=
  let cs := (s.nMembers a).map s.nClass
  cs.all armClass && (cs.all (· == cs.headD 0) || cs.all fun c => c == 3 || c == 4)

/-- A class has an entry for every combination of leg states that PSC uses (R129). -/
def State.pscOk (s : State) (cls : Nat) : Bool :=
  let legs := if cls = 3 then [1, 2] else [0x5, 0x6, 0x9, 0xA]
  legs.all fun g => (List.range 32).any fun n =>
    pValid (s.pat cls n) && decide (2 ≤ pRole (s.pat cls n) ∧ pRole (s.pat cls n) ≤ 4 ∧ pGates (s.pat cls n) = g)

/-- The participants of a stack arm as the set-up gives them. -/
def State.participants (s : State) (san : Nat) : List Nat :=
  (List.range 64).filter fun p => decide (tblGet (fun _ => (0 : Word)) s.adm.arms (0x10000 + san * 64 + p) ≠ 0)

/-- The configuration word of a cell's endpoint (03 R89). -/
def State.epCfgWord (s : State) (i a : Nat) : Nat :=
  (tblGet (fun _ => (0 : Word)) (tblGet (fun _ => ({} : Endpoint)) s.eps (i % 64)).cfg a).toNat

/-- check_classes. -/
def State.checkClasses (s : State) (e : EscPart) : Option AdmResult :=
  let cells := s.namedCells.filter fun i => decide (i < 64) || decide (e ≠ .empty)
  let classes := (List.range 16).filter fun c => cells.any fun i => decide (s.nClass i = c)
  let arms := (List.range 16).filter fun a => decide (s.f (F.CS_ACFG.MODE a) ≠ 0) && (decide (a < 8) || decide (e ≠ .empty))
  let period := s.f F.STM_PERIOD.P * 64
  firstFail [
    firstFail (classes.map fun c => orFail (decide (1 ≤ c ∧ c ≤ 6)) (refuse 0x702 6 c 0 0)),
    firstFail (classes.map fun c => orFail (s.pairsOk c) (refuse 0x702 6 c 0 0)),
    firstFail (classes.map fun c => firstIdx 32 (s.entryOk c) fun n => refuse 0x702 6 c n 0),
    firstFail (arms.map fun a => orFail (s.mixOk a) (refuse 0x702 3 a 0 0)),
    firstFail (arms.map fun a => firstFail ((s.nMembers a).map fun i =>
      orFail (s.entryOf (s.nClass i) 2).isSome (refuse 0x702 3 a 0 0))),
    firstFail (arms.map fun a => orFail (decide ((s.participants (fld (s.armWord a) 8 0)).length ≤ 4) ||
      !((s.nMembers a).any fun i => bitAt (s.naming i) 8)) (refuse 0x702 3 a (s.participants (fld (s.armWord a) 8 0)).length 4)),
    firstFail (classes.map fun c => orFail (decide (s.f (F.CS_CLASS.TDEAD c) ≤ s.f (F.CS_CLASS.TMIN c) ∧
      0 < s.f (F.CS_CLASS.TDEAD c))) (refuse 0x701 6 c (s.f (F.CS_CLASS.TMIN c)) (s.f (F.CS_CLASS.TDEAD c)))),
    firstFail ((cells.filter fun i => decide (i < 64)).map fun i => orFail
      (decide (s.epCfgWord i 0x28 = s.f (F.CS_CLASS.TDEAD (s.nClass i)) ∧
        s.epCfgWord i 0x29 = s.f (F.CS_CLASS.TMIN (s.nClass i))))
      (refuse 0x701 2 i (s.epCfgWord i 0x29) (s.f (F.CS_CLASS.TMIN (s.nClass i))))),
    firstFail (arms.map fun a => orFail (!((s.nMembers a).any fun i => decide (s.nClass i = 2)) ||
      decide (s.f (F.CS_CLASS.TMIN 2) ≤ s.f (F.CS_ADAB.HALF a)))
      (refuse 0x701 3 a (s.f (F.CS_ADAB.HALF a)) (s.f (F.CS_CLASS.TMIN 2)))),
    firstFail (arms.map fun a => orFail (decide (s.f (F.CS_ACFG.MODE a) ≠ 3 ∨ 0 < s.f (F.CS_ACFG.BAND a)))
      (refuse 0x701 3 a 0 1)),
    firstFail (arms.map fun a => orFail (decide (s.f (F.CS_ACFG.MODE a) ≠ 1) ||
      (decide (period ≤ s.f (F.CS_ACPER.TC a)) && (s.nMembers a).all fun i => s.pscOk (s.nClass i)))
      (refuse 0x701 3 a (s.f (F.CS_ACPER.TC a)) period)),
    firstFail (arms.map fun a => orFail (decide (0 < s.f (F.CS_ALVL.VLVL a))) (refuse 0x701 3 a 0 1))]

/-! ## Scheduler, links, bridge port -/

/-- Slots that a number of cycles takes, rounded up. -/
def slotsOf (c : Nat) : Nat := (c + 49) / 50

/-- check_scheduler (04 R120), for a set-up that runs passes. -/
def State.checkScheduler (s : State) (e : EscPart) : Option AdmResult :=
  let any := (List.range 16).any fun a => decide (s.f (F.CS_ACFG.MODE a) ≠ 0)
  if !any then none
  else
    let tcad := 16 + 2 * s.nCad e
    let tcut := s.f F.CS_TIMING.TCUT
    let rcut := s.f F.CS_TIMING.RCUT
    let c := tcut + slotsOf tcad
    let b := rcut + slotsOf (s.nArmCycles e)
    firstFail (orFail (decide (tcut * 50 + tcad ≤ rcut * 50)) (refuse 0x501 0 0 (tcut * 50 + tcad) (rcut * 50)) ::
      (ctxIdx.filter (s.portChecked e)).map fun i =>
        let w := s.portWords e i
        firstFail [
          orFail (decide (w.1 = 0 ∨ c ≤ s.f (F.LNK_PCFG.CSLOT i))) (refuse 0x502 2 i c (s.f (F.LNK_PCFG.CSLOT i))),
          orFail (decide (w.2 = 0 ∨ b ≤ s.f (F.LNK_PCFG.BSLOT i))) (refuse 0x502 2 i b (s.f (F.LNK_PCFG.BSLOT i)))])

/-- check_link of port i (03 R118; 11 R342). -/
def State.checkLink (s : State) (e : EscPart) (i : Nat) : Option AdmResult :=
  if !s.portChecked e i then none
  else
    let p := s.f F.STM_PERIOD.P
    let slots := p / 50
    let d16 := s.portD16 e i
    let lep := fld (s.portFigure i) 9 0 * 64
    let m := s.f F.LNK_MARGIN.M
    let w := s.portWords e i
    let j := max (if w.1 = 0 then 0 else s.f (F.LNK_PCFG.CSLOT i) + w.1 - 1)
      (if w.2 = 0 then 0 else s.f (F.LNK_PCFG.BSLOT i) + w.2 - 1)
    let lead16 := ((j + 7) * 3200 + lep + m) * 16 + d16
    let adv := s.f (F.LNK_PCFG2.RPTADV i)
    let need := 14 + 3 * ((d16 + 51199) / 51200)
    firstFail [
      orFail (!(decide (i < 64) && bitAt (s.naming i) 31) || s.portUp i) (refuse 0x406 2 i i 0),
      orFail (decide (d16 ≤ 15360 * 16)) (refuse 0x401 2 i ((d16 + 15) / 16) 15360),
      orFail (decide (w.1 + w.2 = 0 ∨ lead16 ≤ p * 1024)) (refuse 0x402 2 i ((lead16 + 15) / 16) (p * 64)),
      orFail (decide (need ≤ adv)) (refuse 0x403 2 i adv need),
      orFail (decide (adv + 13 ≤ slots)) (refuse 0x403 2 i adv (slots - 13)),
      orFail (decide (11 + w.1 + w.2 ≤ slots)) (refuse 0x404 2 i (11 + w.1 + w.2) slots),
      orFail (decide (15 ≤ slots)) (refuse 0x405 2 i 15 slots)]

/-- check_bridge_port for channel c (07 R246; 10 R326). -/
def State.checkBridge (s : State) (c : Nat) : Option AdmResult :=
  if !s.fb (F.BRP_CFG.USE c) then none
  else
    let tmin := s.f (F.BRP_TIM.TMIN c)
    let dt := s.f (F.BRP_TIM.DT c)
    let full := s.fb (F.BRP_CFG.FULL c)
    let refr := s.f (F.BRP_CFG.REFRESH c)
    let period := s.f F.STM_PERIOD.P * 64
    firstFail ([
      orFail (decide (dt ≤ tmin ∧ 0 < dt)) (refuse 0x801 5 c tmin dt),
      orFail (decide (2 * tmin + 2 * dt ≤ s.f (F.BRP_PER.VALUE c))) (refuse 0x801 5 c (s.f (F.BRP_PER.VALUE c)) (2 * tmin + 2 * dt)),
      orFail (!full || decide (10 ≤ refr)) (refuse 0x801 5 c refr 10),
      orFail (!full || decide (refr ≤ 500)) (refuse 0x801 5 c refr 500),
      orFail (!(full && s.fb (F.BRP_CFG.NOREFRESH c)) || s.fb (F.BRP_CFG.HSUPPLY c)) (refuse 0x801 5 c 1 0),
      orFail (decide (s.f (F.BRP_PHASE.PHASE c) < period)) (refuse 0x801 5 c (s.f (F.BRP_PHASE.PHASE c)) period)] ++
      (List.range 8).map fun t => orFail (!(s.fb (F.BRP_TRIP.TMREN t) && (s.f (F.BRP_TRIP.CHMASK t)).testBit c) ||
        s.fb (F.BRP_CFG.USE (s.f (F.BRP_TRIP.TMR t)))) (refuse 0x801 5 c (s.f (F.BRP_TRIP.TMR t)) 0))

/-! ## The ring (07 R247) -/

/-- The hops from this chip to position p with a break after u (none: the healthy ring's shorter way). -/
def planHops (n me p : Nat) (brk : Option Nat) : Nat :=
  let down := (p + n - me) % n
  match brk with
  | none => min down (n - down)
  | some u => if (u + n - me) % n < down then n - down else down

/-- The instants of a ring case in ns: a launch at a slot, H hops, the frame and one replay. -/
def ringArrival (slot h : Nat) : Nat := slot * 160 + h * 60 + 160 + 280

/-- One case of check_ring: the healthy ring or a break after u. Every chip is taken to have this chip's RCUT, and 63
cells where this chip does not know them. -/
def State.ringCase (s : State) (e : EscPart) (brk : Option Nat) : Option AdmResult :=
  let n := s.f F.RNG_TOPO.NCHIP
  let me := s.f F.RNG_STATUS.POS
  let p := s.f F.STM_PERIOD.P
  let f := p / 32
  let sans := ((List.range 64).filter fun m => s.fb (F.CS_SACFG.EN m)).map fun m => s.f (F.CS_SACFG.SAN m)
  let parts := sans.flatMap s.participants
  let refb := (parts.length + s.f F.RNG_BCCFG.VALUE + 11) / 12
  let armcnt := ((List.range 64).filter fun x => parts.contains x).length
  let cells := (s.namedCells.filter fun i => decide (i < 64)).length
  let mine := (max cells (match e with | .given c _ => c | .full => 63 | .empty => 0) + 2) / 3
  let other := if brk.isSome then 21 else 0
  let frames := 1 + refb + mine + other + armcnt + 2 + 4
  let launch := (s.f F.CS_TIMING.RCUT * 50 + 16 + 4 * sans.length + 31) / 32
  let far := (parts.filter (· != me)).foldl (fun m x => if planHops n me m brk < planHops n me x brk then x else m) me
  let escSlot := (s.f F.CS_TIMING.RCUT * 50 + s.nArmCycles e + 31) / 32 + mine
  let buddy := s.f F.RNG_TOPO.BUDDYPOS
  let mark := fun (r : AdmResult) => { r with brk := brk.getD 0xFFFFFFFF }
  firstFail [
    orFail (decide (frames ≤ f)) (mark (refuse 0x601 7 me frames f)),
    orFail (!s.isMaster || decide (far = me) ||
        decide (ringArrival launch (planHops n me far brk) ≤ s.f F.CS_TIMING.RCUT * 250))
      (mark (refuse 0x602 7 far (ringArrival launch (planHops n me far brk)) (s.f F.CS_TIMING.RCUT * 250))),
    orFail (!s.fb F.RNG_TOPO.BUDDYV || decide (mine = 0) ||
        decide (ringArrival (escSlot - 1) (planHops n me buddy brk) ≤ p * 5))
      (mark (refuse 0x603 7 buddy (ringArrival (escSlot - 1) (planHops n me buddy brk)) (p * 5)))]

/-- check_ring: the healthy ring, then every break position. -/
def State.checkRing (s : State) (e : EscPart) : Option AdmResult :=
  let n := s.f F.RNG_TOPO.NCHIP
  if s.rngJoined && decide (2 ≤ n) then
    firstFail (s.ringCase e none :: (List.range n).map fun u => s.ringCase e (some u))
  else none

/-! ## check_takeover -/

/-- The chip's own part: the RWL fields of its arms, classes and ports, and its CE lists (R234). The text gives no
encoding; the digest is a free function of it. -/
def State.ownPart (s : State) : List Byte :=
  let regs := (List.range 8).flatMap (fun a => [R.CS_ACFG a, R.CS_ALVL a, R.CS_ACPER a, R.CS_ADAB a]) ++
    (List.range 7).map R.CS_CLASS ++ (List.range 63).flatMap (fun n => [R.LNK_PCFG (n + 1), R.LNK_PCFG2 (n + 1)])
  let ws := regs.map s.reg ++ s.words (inListAddr 0) (2 * s.f F.CE_LISTS.NIN) ++ s.words (outListAddr 0) (2 * s.f F.CE_LISTS.NOUT)
  ws.flatMap fun w => (List.range 4).map fun n => w.extractLsb' (8 * n) 8

/-- check_takeover (R248): the digests of the two chips agree. `buddyOwn` is the digest of the own part the buddy has
admitted, `buddyEsc` that of its admitted ESCROW record. -/
def State.checkTakeover (s : State) (e : EscPart) (buddyOwn buddyEsc : Option (BitVec 192)) : Option AdmResult :=
  let given := match e with | .given _ d => some d | _ => none
  firstFail [
    orFail (buddyOwn.isNone || given.isNone || decide (buddyOwn = given)) (refuse 0x901 0 0 0 0),
    orFail (decide (∀ d, buddyEsc = some d → d = Config.escrowDigest s.ownPart)) (refuse 0x901 0 0 0 0)]

/-! ## The run (R240) -/

/-- Warnings: (CODE, KIND, OBJ). -/
def State.warnings (s : State) (l : List DescRec) : List (Nat × Nat × Nat) :=
  (if s.protected then [] else [(0x8001, 0, 0)]) ++
    (((List.range 256).filter fun d => decide (fld (s.ldw (intAddr d)) 31 30 = 2)).map fun d => (0x8002, 0, d)) ++
    ((l.filter fun r => decide (r.type ≠ 3 ∧ r.g 5 31 0 = 0)).map fun r => (0x8003, 1, r.idx))

/-- The checks of R240 in their order, on the set-up of a descriptor: the result, and the facts of the records. -/
def State.admitChecks (s : State) (desc : Nat) (buddyOwn buddyEsc : Option (BitVec 192)) :
    AdmResult × List RecFacts :=
  let l := s.descRecs desc
  let e := s.escPart l
  match s.checkLimits desc l with
  | some r => (r, [])
  | none =>
    match s.checkRecs (l.any fun r => r.type == 1 && r.g 0 27 24 == 5) l with
    | .error r => (r, [])
    | .ok fs =>
      match firstFail ([checkWindows fs] ++ (List.range 5).map (s.checkThread fs) ++
          [s.checkEngine fs, s.checkClasses e, s.checkScheduler e] ++ ctxIdx.map (s.checkLink e) ++
          (List.range 8).map s.checkBridge ++ [s.checkRing e, s.checkTakeover e buddyOwn buddyEsc]) with
      | some r => (r, fs)
      | none => ({ warns := s.warnings l }, fs)

/-- The PROGRAM records with their bounds. -/
def progRecs (fs : List RecFacts) : List ProgramRec :=
  (fs.filter fun f => f.rec_.type == 1).map fun f =>
    { proc := f.rec_.g 0 27 24, slot := f.rec_.g 0 23 20, mult := f.rec_.mult, phase := f.rec_.g 0 13 8
      code := f.rec_.g 1 31 0, len := f.rec_.g 2 31 0, start := f.rec_.g 3 18 0, deadline := f.rec_.g 4 18 0
      image := f.rec_.g 5 31 0, wcet := f.facts.wcet }

/-- The HANDLER records with their bounds. -/
def handlerRecs (fs : List RecFacts) : List HandlerRec :=
  (fs.filter fun f => f.rec_.type == 2).map fun f =>
    { source := f.rec_.g 0 23 16, nmax := f.rec_.g 0 15 0, code := f.rec_.g 1 31 0, len := f.rec_.g 2 31 0
      image := f.rec_.g 5 31 0, wcet := f.facts.wcet }

/-- ADMIT: the checks run for the request of core 0 (R235, R236, R240); with no request standing, the command is core 0's
SYS 0x40. An acceptance waits for its boundary (R238). -/
def State.admitRun (s0 : State) (buddyOwn buddyEsc : Option (BitVec 192)) : State :=
  let s := if s0.adm.request.isNone && s0.canRun 0 then s0.admRequest 0 0x40 else s0
  match s.adm.request with
  | none => s
  | some desc =>
    if s.live && s.on 3 && s.adm.result.isNone then
      let r := s.admitChecks desc buddyOwn buddyEsc
      let e := s.escPart (s.descRecs desc);
      { s with adm := { s.adm with
        result := some r.1
        count := fld (s.ldw desc) 15 0
        tag := s.ldw (desc + 4)
        progs := if r.1.code = 0 then progRecs r.2 else []
        handlers := if r.1.code = 0 then handlerRecs r.2 else []
        lockPend := decide (r.1.code = 0)
        lockK := s.tm.k
        escrowEmpty := decide (e = .empty)
        escrowDigest := (match e with | .given _ d => d | _ => 0) } }
    else s

/-- The start offsets of the engine programs in slot order (R244), from records that hold their bounds. -/
def progStarts : Nat → List ProgramRec → List (ProgramRec × Nat)
  | _, [] => []
  | t, r :: l => (r, t) :: progStarts (t + r.wcet) l

/-- The engine programs of a set-up in slot order. -/
def engineProgs (l : List ProgramRec) : List ProgramRec :=
  (List.range 8).flatMap fun sl => l.filter fun r => decide (r.proc = 5 ∧ r.slot = sl)

/-- CE_START, CE_END and the program offsets that admission assigns (R230, R244). -/
def State.writeOffsets (s : State) (progs : List ProgramRec) : State :=
  let ps := engineProgs progs
  let t := (s.setF F.CE_START.CYC s.ceStart).setF F.CE_END.CYC (ps.foldl (fun m r => max m r.deadline) 0)
  t.forAll (progStarts s.ceStart ps) fun u x =>
    (u.setF (F.CE_PROGS.CYC x.1.slot) x.2).setF (F.CE_PROGD.CYC x.1.slot) x.1.deadline

/-- The dispatcher's address in a processor's own TCM: the top 512 bytes (R238). -/
def dispatcherAt (p : Nat) : Nat := 0x100000 + tcmSize p - 512

/-- The dispatchers are written for the cores and the pair whose TCM is powered. -/
def State.writeDispatchers (s : State) : State :=
  s.forAll ((List.range 5).filter fun p => s.on (procDom p)) fun t p =>
    t.putBytes (physAddr p (dispatcherAt p)) ((List.range 512).map (Config.dispatcher p))

/-- The programs of the cores and the pair that are due in period k. -/
def State.dueNow (s : State) (k : Nat) : List (Nat × Nat × Nat) :=
  (s.adm.progs.filter fun r => decide (r.proc < 5 ∧ k % r.mult = r.phase)).map fun r => (r.proc, r.slot, k)

/-- The measurement of an acceptance: the descriptor, then the code of each record in record order (15 R433, AS4). -/
def State.measureSetup (s : State) (desc : Nat) : State :=
  let l := s.descRecs desc
  let body := s.bytes desc (16 + 32 * l.length)
  let code := (l.filter fun r => decide (r.type ≠ 3)).flatMap fun r =>
    s.bytes (physAddr (s.recCode r).proc.val (r.g 1 31 0)) (r.g 2 31 0)
  s.extend 4 (sha384 (body ++ code))

/-- A DISCOVERED context whose cell matches the admitted set-up (01 R44; 11 R342). -/
def State.ctxMatches (s : State) (i : Nat) : Bool :=
  let cap := s.reg (R.LNK_CAP i 0)
  let fig := tblGet (fun _ => (0 : Word)) s.adm.figures i
  let cls := fld cap 28 25
  let gates := ((List.range 16).filter fun g => (classMask cls).testBit g).foldl max 0 + 1
  bitAt (s.naming i) 31 && decide (cls = s.nClass i ∧ fld cap 24 20 = gates ∧ fld cap 17 14 = 1) && s.portUp i &&
    decide (fld cap 19 18 ≤ fld fig 19 18 ∧ fld cap 9 0 ≤ fld fig 9 0) && decide (s.ctxSerial i = s.portSerial i) &&
    !s.serNew i

/-- The header fields that the set-up gives a cell (01 R43). -/
def State.nameHeader (s : State) (i : Nat) : State :=
  let n := s.naming i
  let t := (s.setCtxF i 0 17 17 (fld n 4 4)).setCtxF i 0 16 14 (fld n 7 5)
  (t.setCtxF i 0 13 13 (fld n 8 8)).setCtxF i 0 12 9 (fld n 3 0)

/-- CONTEXT_ADMIT of context i at a boundary: DISCOVERED, named and matching, and no record of the period before shows
the other context driving (01 R44, R495). -/
def State.contextAdmit (s : State) (i : Nat) : State :=
  if s.admitted && decide (s.cst i = cDiscovered) && s.ctxMatches i && decide ((s.cell i).otherDrives ≠ some (s.tm.k - 1)) then
    ((s.nameHeader i).setCst i cAdmitted).modCell i fun x => { x with inStateK := s.tm.k }
  else s

/-- ADMISSION_LOCK at the boundary after an acceptance (R238): ADMITTED is set, the assigned fields and the dispatchers
are written, AS4 is extended, the admitted delays and figures are kept, and named contexts enter ADMITTED. -/
def State.admissionLock (s : State) : State :=
  match s.adm.request with
  | none => s
  | some desc =>
    if s.live && s.on 3 && s.adm.lockPend && decide (s.tm.k ≠ s.adm.lockK) then
      let e := if s.adm.escrowEmpty then EscPart.empty else .given 0 0
      let s1 := (((s.setB F.ADM_STATUS.ADMITTED true).writeOffsets s.adm.progs).writeDispatchers).measureSetup desc
      let s2 : State := { s1 with adm := { s1.adm with
        lockPend := false
        dAdm := ctxIdx.foldl (fun t i => tblSet (fun _ => (0 : Nat)) t i (s.portD16 e i)) []
        figures := ctxIdx.foldl (fun t i => tblSet (fun _ => (0 : Word)) t i (s.portFigure i)) []
        longCnt := []
        due := s.dueNow s.tm.k } }
      if s2.on 6 then s2.forAll ctxIdx State.contextAdmit else s2
    else s

/-- The words of the result record (R237). -/
def resultWords (r : AdmResult) (tag : Word) : List Word :=
  [wN (r.code * 65536 + r.warns.length), tag, wN (r.kind * 2 ^ 24 + r.obj % 2 ^ 24), wN r.figd, wN r.figa, wN r.addr,
    wN r.brk, 0]

/-- ADMISSION_RESULT (R237): the record after the last record of the descriptor, at most 64 warnings after it, and the
ADM registers; an acceptance answers once its set-up is locked. -/
def State.admissionResult (s : State) : State :=
  match s.adm.request, s.adm.result with
  | some desc, some r =>
    if s.live && s.on 3 && !s.adm.lockPend then
      let a := desc + 0x10 + 32 * s.adm.count
      let s1 := s.putWords a (resultWords r s.adm.tag)
      let s2 := s1.putWords (a + 32) ((r.warns.take 64).flatMap fun w => [wN (w.1 * 65536 + w.2.1), wN w.2.2])
      let s3 := ((s2.setF F.ADM_STATUS.CODE r.code).setB F.ADM_STATUS.BUSY false).setB F.ADM_STATUS.WARN
        (decide (r.code = 0) && !r.warns.isEmpty)
      let s4 := (((s3.setReg R.ADM_FIGD (wN r.figd)).setReg R.ADM_FIGA (wN r.figa)).setF F.ADM_OBJ.KIND r.kind).setF
        F.ADM_OBJ.OBJ r.obj;
      { s4 with adm := { s4.adm with request := none, result := none, waiting := true } }
    else s
  | _, _ => s

/-! ## Unload -/

/-- UNLOAD (R235): with no request standing, the command is core 0's SYS 0x41. The shutdown starts: STOP to every driven
cell. -/
def State.unload (s0 : State) : State :=
  let s := if !s0.adm.unloadReq && s0.canRun 0 then s0.admRequest 0 0x41 else s0
  if s.live && s.on 3 && s.adm.unloadReq && !s.fb F.ADM_STATUS.UNLOADING then
    let t := (s.setB F.ADM_STATUS.UNLOADING true).forAll (ctxIdx.filter s.drives) State.stopPort;
    { t with adm := { t.adm with unloadReq := false, unloadK := t.tm.k } }
  else s

/-- A driving context returns to DISCOVERED (01 R44). -/
def State.unloadCtx (s : State) (i : Nat) : State :=
  if s.drives i then ((s.setCst i cDiscovered).setCtxF i 0 8 7 0).modCell i fun x => { x with inStateK := s.tm.k }
  else s

/-- UNLOAD_DONE: the stops are out and a boundary has passed; every context is DISCOVERED and every lock released. -/
def State.unloadDone (s : State) : State :=
  if s.live && s.fb F.ADM_STATUS.UNLOADING && decide (s.tm.k ≠ s.adm.unloadK) then
    let s1 := if s.on 6 then s.forAll ctxIdx State.unloadCtx else s
    let s2 := ((s1.setB F.ADM_STATUS.UNLOADING false).setB F.ADM_STATUS.ADMITTED false).setF F.ADM_STATUS.CODE 0;
    { s2 with adm := { s2.adm with
      progs := [], handlers := [], dAdm := [], longCnt := [], figures := [], due := []
      escrowEmpty := false, escrowDigest := 0, waiting := true } }
  else s

/-! ## Policing (R250 to R252) -/

/-- The record of a core program. -/
def State.progRec (s : State) (q slot : Nat) : Option ProgramRec :=
  s.adm.progs.find? fun r => decide (r.proc = q ∧ r.slot = slot)

/-- DISPATCH_PROGRAM (R250): the due program of a slot starts at its START, or at once when that has passed; one whose
START passed by more than P cycles is not started and counts in SKIP. -/
def State.dispatch (s : State) (q slot : Nat) : State :=
  match s.progRec q slot, s.adm.due.find? fun d => decide (d.1 = q ∧ d.2.1 = slot) with
  | some r, some d =>
    if s.admitted && s.canRun q && (s.proc q).slot.isNone && (s.proc q).istack.isEmpty then
      let t : State := { s with adm := { s.adm with due := s.adm.due.filter fun x => decide (x ≠ d) } }
      let start := t.boundary d.2.2 + r.start * 64
      if start + t.periodTicks < t.now then t.satF (F.ADM_POL.SKIP q) 1
      else
        (t.advanceTo start).modProc q fun x => { x with
          pc := wN r.code, calls := [wN (dispatcherAt q)], loops := [], slot := some slot
          slotEnd := t.boundary d.2.2 + r.deadline * 64, missed := false }
    else s
  | _, _ => s

/-- DEADLINE_MISS (R250): the program has not returned when its DEADLINE passes. -/
def State.deadlineMiss (s : State) (q slot : Nat) : State :=
  let x := s.proc q
  if s.admitted && s.live && decide (x.slot = some slot) && !x.missed then
    let t := (s.advanceTo x.slotEnd).modProc q fun y => { y with missed := true }
    (t.satF (F.ADM_POL.DLMISS q) 1).raise 31
  else s

/-- DI_WINDOW_OVERRUN (R251): 401 cycles with IE = 0 after a DI, once per window. -/
def State.diOverrun (s : State) (q : Nat) : State :=
  match (s.proc q).diAt with
  | some r =>
    if s.live && s.on (procDom q) && !ieOf (s.proc q) then
      let t := (s.advanceCycles (r + 401 - s.tm.refclk)).modProc q fun y => { y with diAt := none, diDone := true }
      (t.satF (F.ADM_POL.DIOVR q) 1).raise 31
    else s
  | none => s

/-- The policing of port i's delay at a boundary (R252). -/
def State.policeDelay (s : State) (i : Nat) : State :=
  let d := (s.reg (R.LNK_DELAY i)).toNat % 2 ^ 24
  let adm := tblGet (fun _ => (0 : Nat)) s.adm.dAdm i
  let c := tblGet (fun _ => (0 : Nat)) s.adm.longCnt i
  let tooLong := decide (adm + 8 * s.f F.LNK_MARGIN.M < d)
  let c' := if tooLong then min 8 (c + 1) else 0
  let t : State := { s with adm := { s.adm with longCnt := tblSet (fun _ => (0 : Nat)) s.adm.longCnt i c' } }
  if c' = 8 ∧ c = 7 then
    (t.setReg (R.ADM_LONGMAP (i / 32)) (setFld (t.reg (R.ADM_LONGMAP (i / 32))) (i % 32) (i % 32) 1)).raise 31
  else t

/-- The boundary of the admitted set-up: delays, the counts of handler entries, and the programs due (R250 to R252). -/
def State.policeBoundary (s : State) : State :=
  if s.admitted then
    let s1 := s.forAll (ctxIdx.filter fun i => s.fb (F.LNK_PCFG.EN i)) State.policeDelay
    let s2 := s1.forAll (List.range 5) fun t q => t.modProc q fun x => { x with entries := [] };
    { s2 with adm := { s2.adm with due := s2.adm.due ++ s2.dueNow s2.tm.k } }
  else s

/-- A W1C of ADM_LONGMAPn: the cleared ports count anew (R252). -/
def State.longmapWrite (s : State) (n : Nat) (v : Word) : State :=
  let t := s.w1c (R.ADM_LONGMAP n) v
  let c := (bitsOf 32 v.toNat).foldl (fun x b => tblSet (fun _ => (0 : Nat)) x (32 * n + b) 0) t.adm.longCnt;
  { t with adm := { t.adm with longCnt := c } }

/-! ## Commands -/

def execAdmitRequest (buddyOwn buddyEscrow : Option (BitVec 192)) (s : State) : Out := .next (s.admitRun buddyOwn buddyEscrow)
def execAdmissionLock (s : State) : Out := .next s.admissionLock
def execUnload (s : State) : Out := .next s.unload
def execDispatchProgram (q : CoreId) (slot : Fin 8) (s : State) : Out := .next (s.dispatch q slot)
def execDeadlineMiss (q : CoreId) (slot : Fin 8) (s : State) : Out := .next (s.deadlineMiss q slot)
def execDiWindowOverrun (q : CoreId) (s : State) : Out := .next (s.diOverrun q)

end Sys2Proof.Machine
end

