-- ==== Sys2Proof/Machine/Mgmt.lean ====
section
/-! DEFINITION. Management requests (15 R446, R447): the mailbox of the host port and the MGMT frames that the master
forwards, served by the firmware of core 0, or by the ROM in recovery. The firmware is the spec's: what it does to the
registers of core 0 and to its own memory while it serves is not shown (log 55). -/

namespace Sys2Proof.Machine

/-- A request: header fields, payload entries, and whether it came over the ring. -/
structure MgmtReq where
  op : Nat
  tag : Nat
  arg : Nat
  pay : List DWord
  ring : Bool
  deriving DecidableEq, Repr

/-- A message's header entry (R446). -/
def mgmtHead (op tag count status arg : Nat) : DWord :=
  BitVec.ofNat 64 (op % 256 * 2 ^ 56 + tag % 256 * 2 ^ 48 + count % 256 * 2 ^ 40 + status % 256 * 2 ^ 32 + arg % 2 ^ 32)

/-- The request of a header entry and the entries behind it; none while the payload is not complete. -/
def mgmtParse (h : DWord) (l : List DWord) (ring : Bool) : Option MgmtReq :=
  let n := fld h 47 40
  if n ≤ l.length then some ⟨fld h 63 56, fld h 55 48, fld h 31 0, l.take n, ring⟩ else none

/-- Firmware on core 0 serves every operation; the ROM in recovery those marked R. -/
def State.mgmtServes (s : State) (op : Nat) : Bool :=
  s.live && s.on 3 && (match s.pwr.rom with
    | .handedOver =>
      !(s.proc 0).dbgHalt && (match (s.proc 0).run with
        | .running | .waitPeriod _ | .waitTime _ | .sleeping => true
        | _ => false)
    | .recovery => [1, 2, 6, 7, 0xA].contains op
    | _ => false)

/-- The request that stands: at the head of Q25, from which it is taken, or forwarded over the ring. -/
def State.mgmtTake (s : State) (ring : Option (DWord × List DWord)) : Option (State × MgmtReq) :=
  match ring with
  | some m => if s.rngOn && s.rngJoined then (mgmtParse m.1 m.2 true).map fun r => (s, r) else none
  | none =>
    match s.queue 25 with
    | h :: l => if s.qOn 25 then (mgmtParse h l false).map fun r => (s.setQueue 25 (l.drop r.pay.length), r) else none
    | [] => none

/-- Entries as payload words, the even word first, padded with zeros to whole frames of 6 entries. -/
def mgmtFrames : Nat → List DWord → List (List Word)
  | 0, _ => []
  | n + 1, l =>
    if l.isEmpty then []
    else ((l.take 6).flatMap fun e => [e.extractLsb' 0 32, e.extractLsb' 32 32]) :: mgmtFrames n (l.drop 6)

/-- A message goes out: through Q26, or to the master in MGMT frames. -/
def State.mgmtSend (s : State) (ring : Bool) (l : List DWord) : State :=
  if ring then
    let d := s.f F.RNG_TOPO.MASTERPOS
    s.forAll (mgmtFrames l.length l) fun t b =>
      let r := t.mkFrame 5 d false 0 b
      r.1.ringSend d (.frame r.2)
  else State.mbxDrain { s with tru := { s.tru with mbxOut := s.tru.mbxOut ++ l } }

/-- A response whose ARG the text gives. -/
def State.mgmtReply (s : State) (ring : Bool) (op tag status arg : Nat) (body : List DWord) : State :=
  s.mgmtSend ring (mgmtHead op tag body.length status arg :: body)

/-- A response whose ARG the text leaves open. -/
def State.mgmtAnswer (s : State) (ring : Bool) (op tag status : Nat) (body : List DWord) : State :=
  State.freeNext (s.mgmtReply ring op tag status (fld s.free 31 0) body)

/-- The ARG of a final POWER response (R447). -/
def State.powerArg (s : State) (result dom : Nat) : Nat :=
  s.f F.SYSC_PSTAT.STATE * 2 ^ 28 + result % 16 * 2 ^ 20 + dom % 16 * 2 ^ 16 + s.f F.SYSC_PSTAT.ON

/-- A final response: POWER carries the state and the result, the others an open ARG. -/
def State.mgmtFinalReply (s : State) (m : MgmtOpen) (status : Nat) (body : List DWord) : State :=
  if m.op = 0xB then
    s.mgmtReply m.ring m.op m.tag status (s.powerArg (s.f F.SYSC_PSTAT.RESULT) (s.f F.SYSC_PSTAT.DOMAIN)) body
  else s.mgmtAnswer m.ring m.op m.tag status body

/-- Bytes as entries, little-endian. -/
def entriesOf (n : Nat) (l : List Byte) : List DWord :=
  (List.range n).map fun i => wordAt l (8 * i + 4) ++ wordAt l (8 * i)

/-- The final status and payload of an open request, once it has one. -/
def State.mgmtResult (s : State) (m : MgmtOpen) : Option (Nat × List DWord) :=
  let done := fun (ok : Bool) => some (if ok then 0 else 2, ([] : List DWord))
  match m.op with
  | 0x2 => if s.bufBusy 0 then none else some (0, entriesOf 76 s.tru.win0)
  | 0x3 => if s.adm.request.isSome then none else done (decide (s.f F.ADM_STATUS.CODE = 0))
  | 0x4 => if s.adm.unloadReq || s.fb F.ADM_STATUS.UNLOADING then none else done true
  | 0x5 =>
    if s.fb F.RNG_HOSTAT.BUSY then none
    else done (decide (s.f F.RNG_HOSTAT.RESULT = 0 ∨ s.f F.RNG_HOSTAT.RESULT = 9))
  | 0xB => if s.fb F.SYSC_PSTAT.BUSY then none else done (decide (s.f F.SYSC_PSTAT.RESULT = 0))
  | _ => if s.tru.fl.isSome then none else done (!s.fb F.TRU_FLCMD.FAIL)

/-- An open request gets its final answer. -/
def State.mgmtClose (s : State) (m : MgmtOpen) : State :=
  if s.mgmtServes m.op then
    match s.mgmtResult m with
    | some r =>
      let t : State := { s with tru := { s.tru with mgmt := s.tru.mgmt.erase m } }
      t.mgmtFinalReply m r.1 r.2
    | none => s
  else s

/-- Every open request whose operation has ended is answered. -/
def State.mgmtSettle (s : State) : State := s.forAll s.tru.mgmt State.mgmtClose

/-- A request that runs on: ACCEPTED, and open until its final answer. -/
def State.mgmtOpenReq (s : State) (r : MgmtReq) : State :=
  let t := s.mgmtAnswer r.ring r.op r.tag 1 []
  let u : State := { t with tru := { t.tru with mgmt := t.tru.mgmt ++ [⟨r.op, r.tag, r.ring⟩] } }
  u.mgmtSettle

/-- A request that ends at once. -/
def State.mgmtDone (s : State) (r : MgmtReq) (ok : Bool) : State := s.mgmtAnswer r.ring r.op r.tag (if ok then 0 else 2) []

/-- The command serves the request that stands when its OP is the one of the command. -/
def State.mgmtServe (s : State) (ring : Option (DWord × List DWord)) (op : Nat) (h : State → MgmtReq → State) : State :=
  if s.mgmtServes op then
    match s.mgmtTake ring with
    | some x => if x.2.op = op then h x.1 x.2 else s
    | none => s
  else s

/-- MGMT_STATUS: DONE; what it carries is open. -/
def State.mgmtStatus (s : State) (ring : Option (DWord × List DWord)) : State :=
  s.mgmtServe ring 0x1 fun t r => t.mgmtDone r true

/-- MGMT_ASSAY: a report for the nonce of 4 entries through buffer 0; the key and fuse check passes as it stands. -/
def State.mgmtAssay (s : State) (ring : Option (DWord × List DWord)) : State :=
  s.mgmtServe ring 0x2 fun t r =>
    let nonce := ((List.range 4).flatMap fun n => leBytes 8 ((r.pay[n]?).getD 0).toNat)
    if r.pay.length ≠ 4 ∨ t.bufBusy 0 = true then t.mgmtDone r false
    else
      let k := if t.fb F.TRU_STATUS.KEYBAD then KeyCheck.keyBad else .good
      State.mgmtOpenReq ((t.setB (F.TRU_REQ.PEND 0) true).reportQueue ⟨0, nonce, 0, k⟩) r

/-- Core 0 makes a system call of 07 R235 with a value in g4; its register is as before afterwards. -/
def State.mgmtSys (s : State) (code : Nat) (g4 : Nat) : State :=
  ((s.setGpr 0 4 (wN g4)).admRequest 0 code).setGpr 0 4 (s.gpr 0 4)

/-- MGMT_ADMIT: ARG is the address of the descriptor. -/
def State.mgmtAdmit (s : State) (ring : Option (DWord × List DWord)) : State :=
  s.mgmtServe ring 0x3 fun t r =>
    let busy := t.adm.request.isSome
    let u := t.mgmtSys 0x40 r.arg
    if busy || u.adm.request.isNone then u.mgmtDone r false else u.mgmtOpenReq r

/-- MGMT_UNLOAD. -/
def State.mgmtUnload (s : State) (ring : Option (DWord × List DWord)) : State :=
  s.mgmtServe ring 0x4 fun t r =>
    if t.fb F.ADM_STATUS.BUSY || t.fb F.ADM_STATUS.UNLOADING then (t.mgmtSys 0x41 0).mgmtDone r false
    else (t.mgmtSys 0x41 0).mgmtOpenReq r

/-- MGMT_HANDOVER: RNG_HOCMD with the OP and CELL of ARG. -/
def State.mgmtHandover (s : State) (ring : Option (DWord × List DWord)) : State :=
  s.mgmtServe ring 0x5 fun t r =>
    let op := r.arg / 2 ^ 28
    let u := if op = 1 then t.hoCommand false (r.arg % 64) else if op = 2 then t.hoCommand true (r.arg % 64)
      else if op = 3 then t.handoverCancel else t
    if t.fb F.RNG_HOSTAT.BUSY && decide (op ≠ 3) then u.mgmtDone r false
    else if (1 ≤ op ∧ op ≤ 3) then u.mgmtOpenReq r else u.mgmtDone r false

/-- MGMT_FLASH_WRITE: the payload is a page at ARG; bytes it does not give stay erased (0xFF). -/
def State.mgmtFlashWrite (s : State) (ring : Option (DWord × List DWord)) : State :=
  s.mgmtServe ring 0x6 fun t r =>
    let data := r.pay.flatMap fun e => leBytes 8 e.toNat
    let page := data ++ List.replicate (256 - data.length) 0xFF
    if 32 < r.pay.length ∨ t.fb F.TRU_FLCMD.BUSY = true then t.mgmtDone r false
    else
      let u := (t.setReg R.TRU_FLADDR (wN r.arg)).forAll (List.range 64) fun x w =>
        x.setReg (R.TRU_FLDATA w) (wordAt page (4 * w))
      let v := u.flashProgram
      if v.fb F.TRU_FLCMD.REFUSED then v.mgmtDone r false else v.mgmtOpenReq r

/-- MGMT_FLASH_ERASE: ARG is the sector's address. -/
def State.mgmtFlashErase (s : State) (ring : Option (DWord × List DWord)) : State :=
  s.mgmtServe ring 0x7 fun t r =>
    if t.fb F.TRU_FLCMD.BUSY then t.mgmtDone r false
    else
      let v := (t.setReg R.TRU_FLADDR (wN r.arg)).flashErase
      if v.fb F.TRU_FLCMD.REFUSED then v.mgmtDone r false else v.mgmtOpenReq r

/-- BOOT_TRIAL: NEXT is slot ARG [0], and TRIAL is set. -/
def State.bootTrial (s : State) (ring : Option (DWord × List DWord)) : State :=
  s.mgmtServe ring 0x8 fun t r =>
    ((t.setB F.TRU_BOOTSEL.TRIAL true).setF F.TRU_BOOTSEL.NEXT (r.arg % 2)).mgmtDone r true

/-- The directory record that names a slot, with SEQ one above the current record's, in the other record's place
(R449). -/
def State.writeDirectory (s : State) (slot : Nat) : State :=
  let cur : Nat × Nat := match s.dirRecord 0, s.dirRecord 1 with
    | some a, some b => if a.1 < b.1 then (1, b.1) else (0, a.1)
    | some a, none => (0, a.1)
    | none, some b => (1, b.1)
    | none, none => (1, 0)
  let a := 0x60000000 + (1 - cur.1) * 0x1000
  let q := wN (cur.2 + 1)
  ((s.stw a q).stw (a + 4) (wN slot)).stw (a + 8) (~~~ (q ^^^ wN slot))

/-- MGMT_CONFIRM: the trial is confirmed and the directory names the slot that runs. -/
def State.mgmtConfirm (s : State) (ring : Option (DWord × List DWord)) : State :=
  s.mgmtServe ring 0x9 fun t r =>
    if t.confirmOk then (t.confirm.writeDirectory (t.f F.TRU_BOOTSEL.ACTIVE)).mgmtDone r true else t.mgmtDone r false

/-- REBOOT: the response goes out (it stands in `busOut`), then SYSC resets the chip. -/
def State.reboot (s : State) (ring : Option (DWord × List DWord)) : State :=
  s.mgmtServe ring 0xA fun t r =>
    let u := t.freeNext
    State.syscReset { u with busOut := mgmtHead r.op r.tag 0 0 (fld t.free 31 0) } .core0 0x0A5C

/-- MGMT_POWER (R447). -/
def State.mgmtPower (s : State) (ring : Option (DWord × List DWord)) : State :=
  s.mgmtServe ring 0xB fun t r =>
    let st := r.arg / 2 ^ 28 % 8
    let opt := r.arg % 4096
    let answer := fun (u : State) (status result dom : Nat) =>
      u.mgmtReply r.ring r.op r.tag status (u.powerArg result dom) []
    if st = 0 then answer t 0 (t.f F.SYSC_PSTAT.RESULT) (t.f F.SYSC_PSTAT.DOMAIN)
    else if 4 < st then answer t 2 7 0
    else if !(r.ring && t.fb F.SYSC_AUTH.RING) then answer t 2 1 0
    else if st = 1 then (answer t 0 (t.f F.SYSC_PSTAT.RESULT) (t.f F.SYSC_PSTAT.DOMAIN)).powerCommand .core0 1 opt
    else
      let u := (t.mgmtAnswer r.ring r.op r.tag 1 []).powerCommand .core0 st opt
      match t.powerRefusal .core0 st opt with
      | some x => answer u 2 x.1 x.2
      | none => State.mgmtSettle { u with tru := { u.tru with mgmt := u.tru.mgmt ++ [⟨r.op, r.tag, r.ring⟩] } }

/-- MGMT_UNKNOWN_OP: an OP that the table does not list is answered UNKNOWN. -/
def State.mgmtUnknown (s : State) (ring : Option (DWord × List DWord)) : State :=
  if s.mgmtServes 0x1 then
    match s.mgmtTake ring with
    | some x => if 1 ≤ x.2.op ∧ x.2.op ≤ 0xB then s else x.1.mgmtAnswer x.2.ring x.2.op x.2.tag 3 []
    | none => s
  else s

def execMgmtStatus (ring : Option (DWord × List DWord)) (s : State) : Out := .next (s.mgmtStatus ring)
def execMgmtAssay (ring : Option (DWord × List DWord)) (s : State) : Out := .next (s.mgmtAssay ring)
def execMgmtAdmit (ring : Option (DWord × List DWord)) (s : State) : Out := .next (s.mgmtAdmit ring)
def execMgmtUnload (ring : Option (DWord × List DWord)) (s : State) : Out := .next (s.mgmtUnload ring)
def execMgmtHandover (ring : Option (DWord × List DWord)) (s : State) : Out := .next (s.mgmtHandover ring)
def execMgmtFlashWrite (ring : Option (DWord × List DWord)) (s : State) : Out := .next (s.mgmtFlashWrite ring)
def execMgmtFlashErase (ring : Option (DWord × List DWord)) (s : State) : Out := .next (s.mgmtFlashErase ring)
def execBootTrial (ring : Option (DWord × List DWord)) (s : State) : Out := .next (s.bootTrial ring)
def execMgmtConfirm (ring : Option (DWord × List DWord)) (s : State) : Out := .next (s.mgmtConfirm ring)
def execReboot (ring : Option (DWord × List DWord)) (s : State) : Out := .next (s.reboot ring)
def execMgmtPower (ring : Option (DWord × List DWord)) (s : State) : Out := .next (s.mgmtPower ring)
def execMgmtUnknownOp (ring : Option (DWord × List DWord)) (s : State) : Out := .next (s.mgmtUnknown ring)
def execAdmissionResult (s : State) : Out := .next s.admissionResult.mgmtSettle
def execUnloadDone (s : State) : Out := .next s.unloadDone.mgmtSettle

end Sys2Proof.Machine
end

