-- ==== Sys2Proof/Machine/Bus.lean ====
section
/-! DEFINITION. The peripheral windows (00 R11 to R13): reads and writes of every register, with the types RW, RO, W1C,
WO, RWS and RWL, the registers whose write or read does something, and the requesters that a register answers (08 R256,
R257; 13 R401; 15 R433; 16 R469). -/

namespace Sys2Proof.Machine

/-- The element of an array of registers that an address names. -/
def hit {α : Type} (a base stride n : Nat) (h : Nat → α) : Option α :=
  if base ≤ a ∧ a < base + stride * n ∧ (a - base) % stride = 0 then some (h ((a - base) / stride)) else none

/-- One register. -/
def one {α : Type} (a base : Nat) (h : α) : Option α := if a = base then some h else none

/-- A write of a register without behaviour of its own (R256): RW and RWS fields take the value, RWL fields unless they
are locked, and W1C bits clear where a 1 is written. -/
def State.plainWrite (s : State) (r : RegRow) (a : Nat) (locked : Bool) (v : Word) : State :=
  let m := if locked then r.rw else r.rw ||| r.rwl
  s.setReg a (((s.reg a &&& ~~~ m) ||| (v &&& m)) &&& ~~~ (v &&& r.w1c))

/-- The RWL fields of a register are locked: those of the SFU from ARM on, all others while a set-up is admitted
(00, register types; 13 R390). -/
def State.rwlLocked (s : State) (a : Nat) : Bool :=
  if 0x40060000 ≤ a ∧ a < 0x40070000 then s.fb F.SFU_STATUS.ARMED else s.admitted

/-- A plain write by address. -/
def State.plainAt (s : State) (a : Nat) (v : Word) : State :=
  match regRow? a with
  | some r => s.plainWrite r a (s.rwlLocked a) v
  | none => s

/-- The key and fuse check of a request made through a register: it passes or fails as the last one did (log 56). -/
def State.keyNow (s : State) : KeyCheck := if s.fb F.TRU_STATUS.KEYBAD then .keyBad else .good

/-- A write of CS_CELLCMD (04 R149): the command waits for its boundary; an OP that is not listed counts. -/
def State.cellCmd (s : State) (v : Word) : State :=
  if s.live && s.on 6 then
    if 1 ≤ fld v 31 28 ∧ fld v 31 28 ≤ 4 then
      let t := s.setB F.CS_CMDSTAT.BUSY true;
      { t with cs := { t.cs with cmd := some v } }
    else s.incF F.CS_CMDSTAT.NOEFFECT 1
  else s

/-! ## Writes by window -/

/-- SYSC and ADM (16; 07). -/
def State.syscWrite (s : State) (req : Requester) (a : Nat) (v : Word) : Option State :=
  one a R.SYSC_PCMD (if bitAt v 31 then s.powerCommand req (fld v 30 28) (fld v 11 0) else s) <|>
  one a R.SYSC_AUTH (s.authWrite req (bitAt v 0)) <|>
  one a R.SYSC_MODE (s.modeWrite req (bitAt v 0)) <|>
  one a R.SYSC_WAKE (s.wakeClear req (bitAt v 1) 0) <|>
  one a R.SYSC_RESET (s.syscReset req (fld v 15 0)) <|>
  one a R.SYSC_CORESTART (s.coreStart req (fld v 3 1 * 2)) <|>
  hit a (R.ADM_POL 0) 4 5 (fun q => s.forAll [0, 8, 16, 24] fun t b =>
    if fld v (b + 7) b = 0 then t else t.setReg (R.ADM_POL q) (setFld (t.reg (R.ADM_POL q)) (b + 7) b 0)) <|>
  hit a (R.ADM_LONGMAP 0) 4 4 (fun n => s.longmapWrite n v)

/-- CLK and STM (02). -/
def State.clkWrite (s : State) (a : Nat) (v : Word) : Option State :=
  one a R.CLK_CTRL (s.clkCtrlWrite v) <|>
  hit a (R.CLK_MCLK 0) 8 4 (fun n => s.mclkWrite n v) <|>
  hit a (R.CLK_MDLY 0) 8 4 (fun n => s.mdlyWrite n v) <|>
  one a R.STM_CTRL (if bitAt v 0 then s.stmLoad else s) <|>
  hit a (R.STM_CMPHI 0) 8 8 (fun n =>
    let t := s.plainAt a v
    if bitAt v 31 then t.cmpArm n (t.cmpTarget n) else t)

/-- VIC and HQ (08). -/
def State.vicWrite (s : State) (req : Requester) (a : Nat) (v : Word) : Option State :=
  one a R.VIC_SWSET (s.vicSwSet v) <|>
  one a R.VIC_SWCLR (s.vicSwClr v) <|>
  hit a (R.VIC_SRC 0) 4 256 (fun n => s.vicSrcWrite n (fld v 31 31) (fld v 20 16) (fld v 3 0)) <|>
  hit a (R.HQ_FLUSH 0) 32 32 (fun q => if bitAt v 0 then s.queueFlush q else s) <|>
  hit a (R.HQ_SEM 0) 4 64 (fun n => if bitAt v 0 then s.semRelease req n else s)

/-- FCU (12). -/
def State.fcuWrite (s : State) (req : Requester) (a : Nat) (v : Word) : Option State :=
  one a R.FCU_FSW0 (s.fswClear req v 0) <|>
  one a R.FCU_FSW1 (s.fswClear req 0 v) <|>
  one a R.FCU_FSRC (if bitAt v 31 then s.fsrcRearm else s) <|>
  one a R.FCU_SWFLT (s.setSwFlt v) <|>
  one a R.FCU_SWSET (s.setSwFlt (s.reg R.FCU_SWFLT ||| v)) <|>
  one a R.FCU_SWCLR (s.setSwFlt (s.reg R.FCU_SWFLT &&& ~~~ v)) <|>
  hit a (R.FCU_LWCODE 0) 8 5 (fun q => s.firmwareRecord q (fld v 23 16) (fld v 15 0) (s.reg (R.FCU_LWDATA q))) <|>
  one a R.FCU_INJ (if bitAt v 31 then s.faultInject (bitAt v 30) (fld v 5 0) else s) <|>
  hit a (R.FCU_WDT 0) 4 5 (fun q =>
    let t := s.plainAt a v
    if bitAt v 31 then t.watchdogKick q else t) <|>
  hit a (R.FCU_REACT 0) 4 64 (fun n => s.reactWrite n v)

/-- SFU (13): a write by another requester than the safety pair only counts. -/
def State.sfuRegWrite (s : State) (req : Requester) (a : Nat) (v : Word) : Option State :=
  one a R.SFU_CTRL (s.sfuWrite req fun t =>
    let t1 := t.fwdemWrite .pair (fld v 3 0)
    let t2 := if bitAt v 29 then t1.sfuArm .pair else t1
    let t3 := if bitAt v 30 then t2.requalWrite .pair else t2
    if bitAt v 31 then t3.safetyReset .pair else t3) <|>
  one a R.SFU_AHB (s.ahbWrite req v) <|>
  one a R.SFU_ESUB (if bitAt v 31 then s.esubSubmit req (bitAt v 0) else s) <|>
  some (s.sfuWrite req fun t => t.plainAt a v)

/-- CE and CS (05; 04). -/
def State.ceWrite (s : State) (a : Nat) (v : Word) : Option State :=
  one a R.CE_CTRL (
    let t := s.plainAt a v
    if bitAt v 0 && !s.fb F.CE_CTRL.EN then t.setReg R.CE_MAXCYC 0 else t) <|>
  one a R.CE_BANK (
    let t := s.plainAt a v
    if bitAt v 31 then t.swapRequest else t) <|>
  one a R.CE_LOAD (
    let t := s.plainAt a v
    if bitAt v 31 then t.ceLoad (fld v 13 0) (fld v 29 16) else t) <|>
  hit a (R.CE_FBEXP 0) 4 16 (fun n => s.fbexpWrite n v) <|>
  hit a (R.CE_RAMP 0) 4 8 (fun g =>
    let t := s.plainAt a v
    if bitAt v 31 then t.rampClear g else t) <|>
  one a R.CS_CELLCMD (s.cellCmd v)

/-- LNK and RNG (03; 09). A grave fault keeps LNK_CTRL.EN as it is (12 R365). -/
def State.lnkWrite (s : State) (a : Nat) (v : Word) : Option State :=
  one a R.LNK_CTRL (
    if s.grave then (s.setB F.LNK_CTRL.ESCEN (bitAt v 1)).lnkRefresh else (s.plainAt a v).lnkRefresh) <|>
  one a R.LNK_STOP (if bitAt v 0 then s.stopRequest else s) <|>
  hit a (R.LNK_PCFG 0) 64 128 (fun _ => (s.plainAt a v).lnkRefresh) <|>
  hit a (R.LNK_CMD 0) 64 128 (fun i => s.lnkCmdWrite i (fld v 27 24) (fld v 23 0)) <|>
  one a R.RNG_CTRL (
    let t := s.plainAt a v
    let t1 := if bitAt v 0 && !s.fb F.RNG_CTRL.EN then t.formOne else t
    let t2 := if fld v 6 5 = 1 then t1.rolecmdMaster else if fld v 6 5 = 2 then t1.rolecmdMember else t1
    let t3 := if bitAt v 4 then t2.ringJoin else t2
    let t4 := if bitAt v 3 then t3.ringLeave else t3
    if bitAt v 7 then t4.roleSwap else t4) <|>
  one a R.RNG_GEN (
    if s.rngJoined then s.setB F.RNG_GEN.HOLD (bitAt v 24) else s.plainAt a v) <|>
  one a R.RNG_HOCMD (match fld v 31 28 with
    | 1 => s.hoCommand false (fld v 5 0)
    | 2 => s.hoCommand true (fld v 5 0)
    | 3 => s.handoverCancel
    | _ => s) <|>
  one a R.RNG_MTXCTL (
    if bitAt v 31 then s.mgmtTransmit (fld v 21 16) (bitAt v 15) (bitAt v 14) else s.plainAt a v)

/-- BRP and MSR (10; 11). -/
def State.brpWrite (s : State) (a : Nat) (v : Word) : Option State :=
  one a R.BRP_CTRL (s.brpCtrlWrite (bitAt v 0)) <|>
  one a R.BRP_ENSET (s.brpEnset (fld v 7 0)) <|>
  one a R.BRP_ENCLR (s.brpEnclr (fld v 7 0)) <|>
  one a R.BRP_FORCE ((s.forceSet (fld v 23 16) (fld v 15 0)).forceRelease (fld v 31 24)) <|>
  one a R.BRP_CLR (
    let t1 := if bitAt v 16 then s.clearLatch (fld v 7 0) F.BRP_STAT.SC false else s
    let t2 := if bitAt v 17 then t1.clearLatch (fld v 7 0) F.BRP_STAT.BOOTUV false else t1
    if bitAt v 18 then t2.clearLatch (fld v 7 0) F.BRP_STAT.TRIP true else t2) <|>
  hit a (R.BRP_PER 0) 64 8 (fun c => s.shadowWrite false c false (fld v 23 0)) <|>
  hit a (R.BRP_DUTY 0) 64 8 (fun c => s.shadowWrite false c true (fld v 23 0)) <|>
  hit a (R.BRP_SHCTL 0) 64 8 (fun c =>
    let t := if bitAt v 30 then s.shadowDiscard c else s
    if bitAt v 31 then t.shadowCommit c else t) <|>
  one a R.MSR_CTRL (s.msrCtrlWrite v) <|>
  one a R.MSR_GQCMD (if bitAt v 31 then s.gateChargeMeasure (fld v 2 0) (bitAt v 30) (bitAt v 29) else s) <|>
  one a R.MSR_SERLO (s.serialAccept v) <|>
  one a R.MSR_TRIMSET (s.trimsetWrite (fld v 30 24) (fld v 23 20) (bitAt v 31) (sx 12 (fld v 11 0))) <|>
  hit a (R.MSR_CMP 0) 4 8 (fun t => (s.plainAt a v).comparatorThreshold t (fld v 7 0))

/-- ETH and CAN (14). -/
def State.ethWrite (s : State) (a : Nat) (v : Word) : Option State :=
  one a R.ETH_DMAPCTL (if bitAt v 31 then s.domainCommit else s) <|>
  one a R.ETH_PRPSET (s.prpsetWrite (fld v 15 0)) <|>
  hit a (R.TPO_CFG 0) 16 2 (fun n => s.tpoCfgWrite n v) <|>
  hit a (R.ETH_RXREL 0) 0x400 2 (fun m => s.rxRelease m (fld v 11 0)) <|>
  hit a (R.ETH_MDIO 0) 0x400 2 (fun m => s.mdioWrite m v) <|>
  hit a (R.CAN_CFG 0) 0x100 2 (fun n => s.canCfgWrite n v) <|>
  hit a (R.CAN_RXREL 0) 0x100 2 (fun n => s.canRelease n (fld v 14 0)) <|>
  hit a (R.CAN_CMD 0) 0x100 2 (fun n =>
    let t1 := if bitAt v 31 then s.canRecover n else s
    let t2 := if bitAt v 30 then t1.canReset n else t1
    let t3 := if bitAt v 29 then t2.canSleep n else t2
    if bitAt v 28 then t3.canWake n else t3)

/-- TRU and HPD (15; 16). -/
def State.truWrite (s : State) (req : Requester) (a : Nat) (v : Word) : Option State :=
  one a R.TRU_IDENT (s.identWrite v) <|>
  one a R.TRU_BOOTSEL (s.bootselWrite v) <|>
  one a R.TRU_EXTCMD (if bitAt v 31 then s.assayExtend req (fld v 2 0) else s) <|>
  one a R.TRU_FLCMD (
    let t := s.plainAt a v
    if bitAt v 31 then (if bitAt v 30 then t.flashErase else t.flashProgram) else t) <|>
  hit a (R.TRU_REQ 0) 0x40 2 (fun b =>
    let t := s.plainAt a v
    if bitAt v 31 then t.reportRequest req b t.keyNow else t) <|>
  one a R.HPD_DOORBELL (if req = .host then s.doorbell v else s) <|>
  one a R.HPD_DBGCTL (
    if req = .host then
      let t1 := if bitAt v 31 then s.debugAttach else s
      let t2 := if bitAt v 30 then t1.debugDetach else t1
      let t3 := if fld v 4 0 ≠ 0 then t2.debugHalt (fld v 4 0) else t2
      if fld v 20 16 ≠ 0 then t3.debugResume (fld v 20 16) else t3
    else s)

/-- The write of a register with behaviour of its own, by the window of its address (00 R13). -/
def State.hookWrite (s : State) (req : Requester) (a : Nat) (v : Word) : Option State :=
  match (a - 0x40000000) / 0x10000 with
  | 0x0 => s.syscWrite req a v
  | 0x1 | 0x2 => s.clkWrite a v
  | 0x3 | 0x4 => s.vicWrite req a v
  | 0x5 => s.fcuWrite req a v
  | 0x6 => s.sfuRegWrite req a v
  | 0x7 | 0x8 => s.ceWrite a v
  | 0x9 | 0xA => s.lnkWrite a v
  | 0xB | 0xC => s.brpWrite a v
  | 0xD | 0xE => s.ethWrite a v
  | 0xF | 0x10 => s.truWrite req a v
  | _ => none

/-- A write of a peripheral register: a reserved offset, and a register in a domain that is off, ignore it (00 R12; log
57). -/
def State.regWrite (s : State) (req : Requester) (a : Nat) (v : Word) : State :=
  match regRow? a with
  | some r => if s.on r.dom then (s.hookWrite req a v).getD (s.plainWrite r a (s.rwlLocked a) v) else s
  | none => s

/-- The register refuses a timed write: the value would change an RWL field that is locked (06 R215). -/
def State.refusesWrite (s : State) (a : Nat) (v : Word) : Bool :=
  match regRow? a with
  | some r => s.on r.dom && s.rwlLocked a && decide ((s.reg a ^^^ v) &&& r.rwl ≠ 0)
  | none => false

/-! ## Reads -/

/-- Fields of a register shown over its stored word. -/
def State.shown (s : State) (a : Nat) (l : List (Nat × Nat × Nat)) : Word :=
  l.foldl (fun w x => setFld w x.1 x.2.1 x.2.2) (s.reg a)

/-- The registers whose read does something, or shows what is kept elsewhere. -/
def State.hookRead (s : State) (req : Requester) (a : Nat) : Option (State × Word) :=
  one a R.STM_TIMELO (s.timeloRead (reqIdx req)) <|>
  one a R.STM_TIMEHI (s, tblGet (fun _ => (0 : Word)) s.tm.hiLatch (reqIdx req)) <|>
  one a R.STM_KLO (s, wN s.tm.k) <|>
  one a R.ADM_STATUS ({ s with adm := { s.adm with waiting := false } }, s.reg a) <|>
  one a R.SYSC_WAKE (s, s.wakeReg) <|>
  one a R.SYSC_CORESTART (s, s.coresRunning) <|>
  hit a (R.VIC_LEVEL 0) 4 5 (fun p => (s, s.vicLevel p)) <|>
  hit a (R.VIC_RAW 0) 4 8 (fun n => (s, bitMap32 n s.asserted)) <|>
  hit a (R.VIC_PEND 0) 4 8 (fun n => (s, bitMap32 n s.isPending)) <|>
  hit a (R.VIC_SERV 0) 4 8 (fun n => (s, bitMap32 n s.inService)) <|>
  hit a (R.HQ_STAT 0) 32 32 (fun q => (s, s.qStat q)) <|>
  hit a (R.HQ_SEM 0) 4 64 (fun n => s.semRead req n) <|>
  one a R.FCU_FDYN0 (s, bitMap32 0 s.level) <|>
  one a R.FCU_FDYN1 (s, bitMap32 1 s.level) <|>
  one a R.SFU_TDEGREM (s, wN s.tdegRem) <|>
  one a R.RNG_DIRTY (s, s.rngDirty) <|>
  one a R.BRP_STATUS (s, s.brpStatus) <|>
  one a R.ETH_DTIMELO (s.dtimeRead (reqIdx req)) <|>
  one a R.ETH_DTIMEHI (s, s.dtimeHi (reqIdx req)) <|>
  hit a (R.ETH_RXCFG 0) 0x400 2 (fun m => (s, s.shown a [(31, 16, s.rxFree m)])) <|>
  hit a (R.ETH_TSINFO 0) 0x400 2 (fun m => s.tsinfoRead m) <|>
  hit a (R.TRU_REPORT 0 0) 4 152 (fun w => (s, wordAt s.tru.win0 (4 * w))) <|>
  hit a (R.TRU_REPORT 1 0) 4 152 (fun w => (s, wordAt s.tru.win1 (4 * w))) <|>
  hit a (R.TRU_CERT 0) 4 1024 (fun w => (s, wordAt certBytes (4 * w)))

/-- A read of a peripheral register: write-only fields, reserved offsets and domains that are off read 0 (00 R12; log
57). -/
def State.regRead (s : State) (req : Requester) (a : Nat) : State × Word :=
  match regRow? a with
  | some r => if s.on r.dom then (s.hookRead req a).getD (s, s.reg a) else (s, 0)
  | none => (s, 0)

/-- A register as it reads, without the read's effect. -/
def State.regView (s : State) (req : Requester) (a : Nat) : Word := (s.regRead req a).2

/-! ## The tables of a set-up without an address (01 R20, R25; log 27) -/

/-- A set-up that uses a class is admitted: a port named with the class. -/
def State.classUsed (s : State) (cls : Nat) : Bool :=
  s.admitted && ctxIdx.any fun i => decide (fld (s.naming i) 3 0 = cls ∧ s.naming i ≠ 0)

/-- REGISTER_WRITE: a write of a register, or of a table of the set-up, which is refused while it is in use. -/
def State.targetWrite (s : State) (req : Requester) (t : WriteTarget) (v : Word) : State :=
  match t with
  | .addr a => s.regWrite req a v
  | .pattern cls idx =>
    if !s.on 6 || s.classUsed cls || decide (idx.val = 0) then s
    else { s with cs := { s.cs with pat := tblSet patDefault s.cs.pat (cls.val * 32 + idx.val) (v &&& 0xFE00FFFF#32) } }
  | .pair cls j =>
    if !s.on 6 || s.classUsed cls then s
    else { s with cs := { s.cs with pairs := tblSet (fun _ => (0 : Word)) s.cs.pairs (cls.val * 8 + j.val) v } }
  | .cell p =>
    if !s.on 6 || s.admitted then s
    else { s with adm := { s.adm with cells := tblSet (fun _ => (0 : Word)) s.adm.cells p.idx v } }
  | .arm n =>
    if !s.on 6 || s.admitted then s
    else { s with adm := { s.adm with arms := tblSet (fun _ => (0 : Word)) s.adm.arms n.val v } }
  | .armPart san pos =>
    if !s.on 6 || s.admitted then s
    else
      let arms := tblSet (fun _ => (0 : Word)) s.adm.arms (0x10000 + san.val * 64 + pos.val) v;
      { s with adm := { s.adm with arms := arms } }

/-! ## The host port (16 R462, R468, R469) -/

/-- With PD3 off only the decoder serves: SYSC's power registers, FCU_LDGPTR, FCU_RSTCAUSE, FCU_GRAVE, the CAN wake
registers, TRU_BOOTSEL and TRU_BOOTCNT (R454, R462). -/
def bedrockReg (a : Nat) : Bool :=
  decide (0x40000000 ≤ a ∧ a < 0x40000040) || [R.FCU_LDGPTR, R.FCU_RSTCAUSE, R.FCU_GRAVE, R.CAN_WAKECFG, R.CAN_WAKESTAT,
    R.TRU_BOOTSEL, R.TRU_BOOTCNT].contains a

/-- What the host may write in NORMAL (R469). -/
def hostNormalReg (a : Nat) : Bool :=
  [R.SYSC_PCMD, R.SYSC_AUTH, R.SYSC_MODE, R.SYSC_WAKE, R.SYSC_WAKEEN, R.SYSC_ALARM, R.SYSC_RESET, R.CAN_WAKESTAT,
    R.HPD_DOORBELL, R.HPD_DBGCTL, R.TRU_REQ 1].contains a ||
    (hit a (R.TRU_NONCE 1 0) 4 8 fun _ => ()).isSome

/-- An access outside the rules of R469. -/
def State.hostReject (s : State) (a : Nat) : State := (s.setB F.HPD_STATUS.HERR true).setReg R.HPD_HERRADDR (wN a)

end Sys2Proof.Machine
end

