-- ==== Sys2Proof/Machine/Mem.lean ====
section
/-! DEFINITION. Loads, stores and timed writes of a processor, and the accesses of the host port: what each requester may
reach in each region, and what a rejected access does (00 R11, R12, R14, R15; 05 R168, R180; 06 R197, R198, R215, R220,
R221; 08 R258, R267; 12 R374; 16 R462, R469). -/

namespace Sys2Proof.Machine

/-- The domain of a memory region is on. -/
def State.memOn (s : State) (r : Region) : Bool := match r.dom with | some d => s.on d | none => true

/-- The n bytes of a value stored, with fresh parity of their word. -/
def State.storeN (s : State) (a n : Nat) (v : Word) : State :=
  let t := s.putBytes a ((wordBytes v).take n);
  { t with badWords := tblSet (fun _ => false) t.badWords (a / 4 * 4) false }

/-- The n bytes at an address as a word, with zeros above. -/
def State.loadN (s : State) (a n : Nat) : Word :=
  if n = 4 then s.ldw a else if n = 2 then (s.ldb (a + 1) ++ s.ldb a).setWidth 32 else (s.ldb a).setWidth 32

/-- An access of n bytes is misaligned where ALIGN applies: outside the peripheral windows (R11, R221). -/
def misaligned (a n : Nat) : Bool := decide (a % n ≠ 0) && decide (regionOf a ≠ .periph)

/-- A read of n bytes by processor p: the state after it, the value, and the cause of its exception: 2 ALIGN, 3 BUSERR,
4 PARITY. A word of bad parity raises its source; memory whose domain is off reads 0 (log 57). -/
def State.readAs (s : State) (p a n : Nat) : State × Word × Option Nat :=
  let parity := fun (t : State) => (t.raise (if p = 5 then 10 else badSource a), (0 : Word), some 4)
  if misaligned a n then (s, 0, some 2)
  else if p = 5 then
    if (engRegion a).isNone then (s, 0, some 3) else if s.isBad a then parity s else (s, s.loadN a n, none)
  else
    match regionOf a with
    | .periph =>
      if n = 4 ∧ a % 4 = 0 then
        let r := s.regRead (procReq p) a
        (r.1, r.2, none)
      else (s, 0, some 3)
    | .hole => (s, 0, some 3)
    | .pool => (s, 0, some 3)
    | .pairTcm => if p ≠ 4 then (s, 0, some 3) else if s.isBad a then parity s else (s, s.loadN a n, none)
    | r => if !s.memOn r then (s, 0, none) else if s.isBad a then parity s else (s, s.loadN a n, none)

/-- A word of CE memory that a processor may write (05 R168, R176, R186), outside the parameter area. -/
def State.ceOpen (s : State) (off : Nat) : Bool :=
  if off < 0x40000 then false
  else if off < 0x60000 then !s.fb F.CE_CTRL.EN
  else if off < 0x70000 then false
  else if off < 0x78000 then !s.admitted
  else if off < 0x7C000 then !s.admitted && decide (off % 32 < 20)
  else if off < 0x7E000 then !s.admitted && decide (off % 32 < 8)
  else false

/-- Processor p owns context i (08 R258). -/
def State.ownsCtx (s : State) (p i : Nat) : Bool :=
  decide (i % 64 ≠ 0) && decide (p ≤ 4) && decide (s.f (F.HQ_CTXOWN.OWNER i) = p)

/-- A write of context memory: only hardware writes below 0x400, and only the owner above; a word written waits for the
buddy's copy (09 R294). -/
def State.ctxStore (s : State) (p a n : Nat) (v : Word) : State × Option Nat :=
  let i := ctxOf a
  let off := (a - 0x30000000) % 0x800
  if off < 0x400 then (s, some 3)
  else if !s.ownsCtx p i then (s.incF F.HQ_SEMREJ.CTXREJ 1, some 3)
  else
    let t := s.storeN a n v
    if t.ring.dirty.any fun d => decide (d.1 = i ∧ d.2.1 = off / 4 * 4) then (t, none)
    else ({ t with ring := { t.ring with dirty := t.ring.dirty ++ [(i, off / 4 * 4, t.tm.k)] } }, none)

/-- A write of n bytes by processor p: the state after it and the cause of its exception. -/
def State.writeAs (s : State) (p a n : Nat) (v : Word) : State × Option Nat :=
  if misaligned a n then (s, some 2)
  else if p = 5 then (if engWriteOk a 1 then (s.storeN a n v, none) else (s, some 3))
  else
    match regionOf a with
    | .periph => if n = 4 ∧ a % 4 = 0 then (s.regWrite (procReq p) a v, none) else (s, some 3)
    | .hole => (s, some 3)
    | .rom => (s, some 3)
    | .flash => (s, some 3)
    | .pool => (s, some 3)
    | .ledger => (s.incF F.FCU_LDGLOST.WREJ 1, none)
    | .pairTcm => if p = 4 then (s.storeN a n v, none) else (s, some 3)
    | r =>
      if !s.memOn r then (s, none)
      else
        match r with
        | .context => s.ctxStore p a n v
        | .ceMem =>
          let off := a - 0x31000000
          if 0x7E000 ≤ off then
            let j := (off - 0x7E000) / 4
            (s.paramWrite j ((s.storeN a n v).ldw (a / 4 * 4)), none)
          else if s.ceOpen off then (s.storeN a n v, none) else (s, some 3)
        | .angle => if s.angleOpen ((a - 0x32000000) / 0x1000) then (s.storeN a n v, none) else (s, some 3)
        | _ => (s.storeN a n v, none)

/-- A load of processor p (06, the table of instructions): ALIGN does not retire; BUSERR and PARITY load 0 and retire. A
load of flash waits while a program or erase runs (15 R448). -/
def State.loadOp (s : State) (p d a : Nat) (imm : BitVec 16) (n : Nat) (ext : Word → Word) : State :=
  s.instr p true true fun t =>
    let ad := physAddr p (t.effAddr p a imm)
    if t.tru.fl.isSome && decide (regionOf ad = .flash) then t
    else
      let r := t.readAs p ad n
      match r.2.2 with
      | none => (r.1.setGpr p d (ext r.2.1)).retire p
      | some c => if c = 2 then r.1.exception p 2 (t.proc p).pc else (r.1.setGpr p d 0).retireWith p c

/-- A store of processor p: ALIGN does not retire; BUSERR discards the store and retires. -/
def State.storeOp (s : State) (p d a : Nat) (imm : BitVec 16) (n : Nat) : State :=
  s.instr p true true fun t =>
    let r := t.writeAs p (physAddr p (t.effAddr p a imm)) n (t.gpr p d)
    match r.2 with
    | none => r.1.retire p
    | some c => if c = 2 then r.1.exception p 2 (t.proc p).pc else r.1.retireWith p c

def execLw (p : ProcId) (d a : Gpr) (imm : BitVec 16) (s : State) : Out := .next (s.loadOp p d a imm 4 id)
def execLh (p : ProcId) (d a : Gpr) (imm : BitVec 16) (s : State) : Out :=
  .next (s.loadOp p d a imm 2 fun w => (w.extractLsb' 0 16).signExtend 32)
def execLhu (p : ProcId) (d a : Gpr) (imm : BitVec 16) (s : State) : Out := .next (s.loadOp p d a imm 2 id)
def execLb (p : ProcId) (d a : Gpr) (imm : BitVec 16) (s : State) : Out :=
  .next (s.loadOp p d a imm 1 fun w => (w.extractLsb' 0 8).signExtend 32)
def execLbu (p : ProcId) (d a : Gpr) (imm : BitVec 16) (s : State) : Out := .next (s.loadOp p d a imm 1 id)
def execSw (p : ProcId) (d a : Gpr) (imm : BitVec 16) (s : State) : Out := .next (s.storeOp p d a imm 4)
def execSh (p : ProcId) (d a : Gpr) (imm : BitVec 16) (s : State) : Out := .next (s.storeOp p d a imm 2)
def execSb (p : ProcId) (d a : Gpr) (imm : BitVec 16) (s : State) : Out := .next (s.storeOp p d a imm 1)

/-! ## Timed writes (06 R215) -/

/-- ATW: at tick d, write b to peripheral address a. TW shows whether a slot took it; a write already due is performed in
the next cycle and takes a slot until then. -/
def State.atwOp (s : State) (p d a b : Nat) : State :=
  s.instr p true false fun t =>
    let ad := t.gpr p a
    if ad.toNat % 4 ≠ 0 ∨ regionOf ad.toNat ≠ .periph then t.retireWith p 3
    else if 4 ≤ (t.proc p).timed.length then (t.retire p).modProc p fun q => flagTw q 1
    else
      let w : TimedWrite := { addr := ad, value := t.gpr p b, due := t.gpr p d }
      let late := decide (timeDiff 32 w.due.toNat t.now ≤ 0)
      (t.retire p).modProc p fun q => flagTw { q with timed := q.timed ++ [w] } (if late then 2 else 0)

/-- The write of a processor that is due next: the earliest target, the oldest of equal or passed ones. -/
def nextTimed (now : Nat) : List TimedWrite → Option TimedWrite
  | [] => none
  | w :: l =>
    match nextTimed now l with
    | none => some w
    | some x =>
      if max 0 (timeDiff 32 x.due.toNat now) < max 0 (timeDiff 32 w.due.toNat now) then some x else some w

/-- TIMED_WRITE_PERFORM: the next timed write of processor p, at its target; a register that refuses it sets TWERR. -/
def State.timedWrite (s : State) (p : Nat) : State :=
  if s.live && s.on (procDom p) then
    match nextTimed s.now (s.proc p).timed with
    | some w =>
      let t := (s.advanceTo (s.now + (max 0 (timeDiff 32 w.due.toNat s.now)).toNat)).modProc p fun q =>
        { q with timed := q.timed.erase w }
      if t.refusesWrite w.addr.toNat w.value then t.modProc p fun q => flagTwErr q true
      else t.regWrite (procReq p) w.addr.toNat w.value
    | none => s
  else s

def execAtw (p : ProcId) (d a b : Gpr) (s : State) : Out := .next (s.atwOp p d a b)
def execTimedWritePerform (p : ProcId) (s : State) : Out := .next (s.timedWrite p)

/-! ## The host port (16 R462, R468, R469) -/

/-- The host may read an address: every region that a core may read, except external flash and safety-pair TCM. -/
def hostReads (a : Nat) : Bool :=
  decide (a % 4 = 0) && (match regionOf a with
    | .hole | .pool | .pairTcm | .flash => false
    | _ => true)

/-- HP_READ: the word stands in `busOut`; a read that is not complete in time returns 0 with HERR and LATE. -/
def State.hpRead (s : State) (addr : Word) (late : Bool) : State :=
  let a := addr.toNat
  let out := fun (t : State) (w : Word) => ({ t with busOut := w.setWidth 64 } : State)
  if !s.on 0 then s
  else if !s.on 3 then (if bedrockReg a then let r := s.regRead .host a; out r.1 r.2 else out s 0)
  else if late then out ((s.setB F.HPD_STATUS.HERR true).setB F.HPD_STATUS.LATE true) 0
  else if !hostReads a then out (s.hostReject a) 0
  else if regionOf a = .periph then let r := s.regRead .host a; out r.1 r.2
  else if !s.memOn (regionOf a) || s.isBad a then out s 0
  else out s (s.ldw a)

/-- HP_WRITE: in NORMAL only the registers of R469; in COMMISSION what a core may write. -/
def State.hpWrite (s : State) (addr data : Word) : State :=
  let a := addr.toNat
  if !s.on 0 then s
  else if !s.on 3 then (if bedrockReg a then s.regWrite .host a data else s)
  else if a % 4 ≠ 0 then s.hostReject a
  else if hostNormalReg a then s.regWrite .host a data
  else if !s.commission then
    -- Under a debugger, a debug write in NORMAL is counted as well (R467).
    if s.fb F.SYSC_MODE.DBGATT then (s.hostReject a).incF F.SYSC_MODE.DBGREJ 1 else s.hostReject a
  else
    match regionOf a with
    | .periph => s.regWrite .host a data
    | .context => s.hostReject a
    | _ =>
      let r := s.writeAs 0 a 4 data
      if r.2.isSome then s.hostReject a else r.1

def execHpRead (addr : Word) (late : Bool) (s : State) : Out := .next (s.hpRead addr late)
def execHpWrite (addr data : Word) (s : State) : Out := .next (s.hpWrite addr data)
/-- REGISTER_WRITE: a host write obeys the rules of the host port; the chip's own requesters act while it is live. -/
def State.registerWrite (s : State) (req : Requester) (t : WriteTarget) (v : Word) : State :=
  match req, t with
  | .host, .addr a => s.hpWrite (wN a) v
  | _, _ => if s.live then s.targetWrite req t v else s

def execRegisterWrite (req : Requester) (t : WriteTarget) (value : Word) (s : State) : Out :=
  .next (s.registerWrite req t value)

end Sys2Proof.Machine
end

