-- ==== Sys2Proof/Machine/Boundary.lean ====
section
/-! DEFINITION. The period boundary T_k (02 R59): what the boundary snapshots and latches, the context transitions in the
order of 01 R46 with the commands of 04 R149 to R152, the state of the arms, and the parts of every other block. -/

namespace Sys2Proof.Machine

/-! ## What a snapshot says of a cell (03 R91, R98) -/

/-- Report word n of the snapshot arrived in the period that ended. -/
def State.fresh (s : State) (i n : Nat) : Bool := !bitAt (s.ctx i 0x80) n

/-- The endpoint reports its BYPASS pattern executed: ESTATE BYPASS and the IDX of a BYPASS entry. -/
def State.bypConfirmed (s : State) (i : Nat) : Bool :=
  s.fresh i 0 && decide (fld (s.snap i 0) 26 24 = 3) &&
    decide (pRole (s.pat (s.cClass i) (fld (s.snap i 0) 23 19)) = 2)

/-- The FAULT word of the snapshot. -/
def State.faultWord (s : State) (i : Nat) : Nat := fld (s.snap i 3) 28 0

/-! ## Commands to a cell (03 R86; 04 R149 to R152) -/

/-- BYPASS is sent, due at the next boundary. -/
def State.sendBypass (s : State) (i : Nat) : State :=
  s.pushDue i 2 (s.bypassEntry i (s.cClass i) (s.ctxF i 0xC0 31 27)) (s.boundary (s.tm.k + 1)) (s.lEp i)

/-- The scheduler state after a BYPASS: the entry sent is the pattern in force at the next boundary, at which the cell's
edge falls (04 R150). -/
def State.bypassState (s : State) (i : Nat) : State :=
  let n := s.bypassEntry i (s.cClass i) (s.ctxF i 0xC0 31 27)
  let e : CsEdge := { ctx := i, due := s.boundary (s.tm.k + 1), idx := n }
  let t := (s.setCtxF i 0xC0 31 25 (n * 4)).setCtx i 0xC4 (wN e.due)
  t.modCell i fun c => { c with bypStart := some s.tm.k, edges := [e], hasEdge := true }

/-- BYPASS_SEQUENCE_START (04 R150): BYP_BUSY is set, a pending return is cleared, BYPASS goes out, and the entry is the
pattern in force at the next boundary. -/
def State.startBypass (s : State) (i : Nat) : State :=
  if s.bypBusy i then s else ((s.sendBypass i).setCtxF i 0 8 7 2).bypassState i

/-- CLEAR is sent with its arguments, then BYPASS due at the next boundary (04 R152). -/
def State.sendClear (s : State) (i : Nat) (arg : Nat) : State :=
  (s.pushCmd i [{ ty := 5, data := wN (3 * 2 ^ 28 + arg), resend := true }]).sendBypass i

/-- The clear of a FAULTED context starts (04 R152). -/
def State.startClear (s : State) (i : Nat) (v : Word) : State :=
  ((s.sendClear i (fld v 17 0)).bypassState i).modCell i fun x => { x with clear := some v }

/-- RETURN is sent. -/
def State.sendReturn (s : State) (i : Nat) : State :=
  s.pushCmd i [{ ty := 5, data := wN (5 * 2 ^ 28), resend := true }]

/-- The contexts that a CS_CELLCMD word addresses. -/
def cmdCells (v : Word) : List Nat :=
  let b := if bitAt v 27 then 64 else 0
  let n := fld v 26 21
  if n = 0 then (List.range 63).map fun x => x + 1 + b else [n + b]

/-- A context on which the command has no effect counts once. -/
def State.noEffect (s : State) : State := s.incF F.CS_CMDSTAT.NOEFFECT 1

/-- The waiting command when it has the given OP. -/
def State.waiting (s : State) (op : Nat) : Option Word :=
  match s.cs.cmd with
  | some v => if fld v 31 28 = op then some v else none
  | none => none

/-! ## Before the transitions -/

/-- A bundle that cannot be completed is repeated by the endpoint (04 R154; 03 R82): `prev` is the bundle that executed in
the period that ended. Its final pattern is the cell's state, which is the pattern that was in force when the lost
bundle was formed (log 69). -/
def State.repeatBundle (s : State) (i : Nat) (prev : List CsEdge) : State :=
  let c := s.cell i
  let n := c.beforeIdx
  let lvl := levelOfEntry (s.pat (s.cClass i) n)
  let again := prev.map fun e => { e with due := e.due + s.periodTicks }
  let last := match again.getLast? with | some e => wN e.due | none => c.beforeLast
  let u := (((s.setCtxF i 0xC0 31 27 n).setCtxF i 0xC0 26 26 (b2n (decide (lvl ≠ 0)))).setCtx i 0xC4 last).incF
    (F.CS_AREPEAT.REPEATS (s.blockOf i)) 1
  u.modCell i fun x => { x with
    repeated := true, edgesPrev := again, startPrev := lvl, startLevel := lvl, hasEdge := x.beforeHas }

/-- What the exhaustion of a port means for its cell (03 R103; 04 R154): a bundle that cannot be completed is repeated by
the endpoint; BYPASS, CLEAR and RETURN that were lost are sent again. `s0` is the state before the bundles moved on. -/
def State.repeatNote (s0 s : State) (i : Nat) : State :=
  let p := s.port i
  let lost := p.again ++ (p.resends.map (·.2))
  let had := fun (op : Nat) => lost.any fun w => decide (w.ty = 5 ∧ fld w.data 31 28 = op)
  let edge := (lost.any fun w => decide (w.ty = 2)) || p.sched.any fun e => e.2.any fun w => decide (w.ty = 2)
  let t := if edge && s.cInArm i && (s0.cell i).sentBundle then s.repeatBundle i (s0.cell i).edgesPrev else s
  let t1 := if had 2 && t.bypBusy i then t.sendBypass i else t
  let t2 := match (t.cell i).clear with
    | some v => if had 3 || had 2 then t1.sendClear i (fld v 17 0) else t1
    | none => t1
  if had 5 && decide (t2.cst i = cActive) then t2.sendReturn i else t2

/-- The bundle formed in the period that ended executes now; the one before it has been observed (11 R346). -/
def State.shiftCell (s : State) (i : Nat) : State :=
  s.modCell i fun c => { c with
    edgesPrev := c.edges, startPrev := c.startLevel, edges := [], repeated := false, moved := false, sentBundle := false,
    startLevel := levelOfEntry (s.pat (s.cClass i) (s.ctxF i 0xC0 31 27)),
    stale := if s.fresh i 1 then 0 else min 3 (c.stale + 1) }

/-- A 48-bit count in two words grows, saturating. -/
def State.addTally (s : State) (i off n : Nat) : State :=
  let v := min (2 ^ 48 - 1) (s.ctxN i off + s.ctxF i (off + 4) 15 0 * 2 ^ 32 + n)
  (s.setCtx i off (wN v)).setCtx i (off + 4) (wN (v / 2 ^ 32))

/-- Tally and WEAR of a cell whose TALLY word arrived (04 R144, R145). -/
def State.tallyCell (s : State) (i : Nat) : State :=
  if s.fresh i 4 then
    let w := s.snap i 4
    let moves := fld w 11 0
    let t := (s.addTally i 0xD0 moves).addTally i (0x100 + 8 * (fld w 28 25)) (fld w 24 12)
    let hot := max (sx 9 (fld (s.snap i 2) 26 18)) (max (sx 9 (fld (s.snap i 2) 17 9)) (sx 9 (fld (s.snap i 2) 8 0)))
    let th := fun (x : Field) => sx 8 (s.f x)
    let wt := if hot < th F.CS_WEART.T1 then s.f F.CS_WEARW.W0 else if hot < th F.CS_WEART.T2 then s.f F.CS_WEARW.W1
      else if hot < th F.CS_WEART.T3 then s.f F.CS_WEARW.W2 else s.f F.CS_WEARW.W3
    let n := moves + (if bitAt (s.ctx i 0xC0) 26 then s.f F.CS_WEART.CONDW else 0)
    t.setCtx i 0xCC (wN (satAdd 32 (s.ctxN i 0xCC) (wt * n)))
  else s

/-! ## Step 1: entries to FAULTED -/

/-- CONTEXT_FAULTED (R44): a bypass not confirmed within 2 periods of its start (source 17), or parity lost in the
context. PEND_RET is cleared (R496). -/
def State.contextFaulted (s : State) (i : Nat) : State :=
  let c := s.cell i
  let late := match c.bypStart with
    | some b => s.bypBusy i && decide (b + 2 ≤ s.tm.k) && !s.bypConfirmed i
    | none => false
  let t := s.modCell i fun x => { x with parityBad := false }
  if decide (s.cst i = cActive ∨ s.cst i = cBypassed) && (late || c.parityBad) then
    let u := ((t.setCst i cFaulted).setCtxF i 0 8 7 0).modCell i fun x => { x with
      bypStart := none, clear := none, offerK := none, inStateK := x.inStateK }
    if late then u.raise 17 else u
  else t

/-! ## Step 2: completion and start of bypass sequences -/

/-- The report that confirms a BYPASS sent in period b is that of period b + 1, seen at T_b+2 (04 R150). -/
def State.bypSeen (s : State) (i : Nat) : Bool :=
  s.bypConfirmed i && (match (s.cell i).bypStart with | some b => decide (b + 2 ≤ s.tm.k) | none => true)

/-- CONTEXT_BYPASSED (R44): the BYPASS pattern is reported executed; after a CLEAR the fault word must read zero too. -/
def State.contextBypassed (s : State) (i : Nat) : State :=
  if !s.bypSeen i then s
  else if s.cst i = cActive ∧ s.bypBusy i = true then
    ((s.setCst i cBypassed).setCtxF i 0 8 8 0).modCell i fun x => { x with bypStart := none }
  else if s.cst i = cFaulted ∧ (s.cell i).clear.isSome = true ∧ s.fresh i 3 = true ∧ s.faultWord i = 0 then
    (s.setCst i cBypassed).modCell i fun x => { x with clear := none, bypStart := none }
  else s

/-- PER_CELL_TAKEOVER_OFFER (R45): an ACTIVE own cell with 2 silent periods is offered to the buddy (09 R305), or its
bypass starts. -/
def State.offerCell (s : State) (i : Nat) : State :=
  if decide (i < 64) && decide (s.cst i = cActive) && decide (s.f (F.LNK_PSTAT.SILCNT i) = 2) then
    if s.protected && !s.fb F.RNG_STATUS.BUDDYLOST then
      (s.noticeBuddy 6 [i]).modCell i fun x => { x with offerK := some s.tm.k }
    else s.startBypass i
  else s

/-- The causes that start a bypass sequence at a boundary (R44): a cell fault (source 16), and a port lost. `lost` are
the ports of 03 R103. -/
def State.bypassCauses (s : State) (lost : List Nat) (i : Nat) : State :=
  let fault := s.fresh i 3 && decide (s.faultWord i ≠ 0) && s.drives i
  let t := if fault then s.raise 16 else s
  let u := if decide (t.cst i = cActive) && (fault || lost.contains i) then t.startBypass i else t
  u.offerCell i

/-- BYPASS and CLEAR of CS_CELLCMD, in step 2 (04 R149, R152). -/
def State.bypassCommands (s : State) : State :=
  let t := match s.waiting 1 with
    | some v => s.forAll (cmdCells v) fun u i =>
      if u.cst i = cActive then
        if u.bypBusy i then u.setCtxF i 0 7 7 0 else u.startBypass i
      else (if u.pendRet i then u.setCtxF i 0 7 7 0 else u).noEffect
    | none => s
  match t.waiting 3 with
  | some v => t.forAll (cmdCells v) fun u i =>
    if u.cst i = cFaulted then u.startClear i v else u.noEffect
  | none => t

/-! ## Step 3: changes of driving -/

/-- CONTEXT_TAKE_DRIVING (R44): the context takes the state that the last record carried, with its pending return (09
R292); a bypass that the other chip had started is finished here under the same limit. -/
def State.takeDriving (s : State) (i : Nat) : State :=
  let c := s.cell i
  let st := if drivingState c.recState then c.recState else cAdmitted
  let t := ((s.nameHeader i).setCst i st).setCtxF i 0 8 7 0
  let u := t.modCell i fun x => { x with
    takeAt := none, moved := true, inStateK := s.tm.k, primSent := true, otherDrives := none, bypStart := none }
  let v := if c.recBusy && decide (st = cActive) then u.startBypass i else u
  if bitAt (s.ctx i 0xE8) 27 && drivingState c.recState then v.setCtxF i 0 7 7 1 else v

/-- The TAKEs whose boundary has come: acknowledged ones and handovers take driving; an offer without TOKACK lapses
(09 R304, R305, R309). -/
def State.takesDue (s : State) : State :=
  let due := s.ring.takes.filter fun x => decide (x.2.tb ≤ s.tm.k)
  let go := due.filter fun x => (x.2.acked || decide (x.2.cause = 2)) && decide (s.cst x.1 = cEscrowed)
  let t := s.forAll go fun u x => u.takeDriving x.1
  let u := t.forAll (due.filter fun x => x.2.acked || decide (x.2.cause ≠ 0)) fun v x =>
    (v.setTake x.1 none).modCell x.1 fun c => { c with takeAt := none }
  if go.any fun x => decide (x.2.cause = 0) then
    ((u.incF F.RNG_COUNT.TAKEOVERS 1).raise 19).ringEvent 15 u.pos 0x12 (go.map (·.1)).length
  else u

/-- The scheduler state of a cell that this chip drives from the next boundary starts from its record (09 R304). -/
def State.adoptDue (s : State) : State :=
  s.forAll (s.ring.takes.filter fun x => decide (x.2.tb = s.tm.k + 1)) fun t x => t.adoptEdge x.1 (s.tm.k + 1) x.2

/-- A driving context enters ESCROWED. -/
def State.enterEscrowed (s : State) (i : Nat) : State :=
  ((s.setCst i cEscrowed).setCtxF i 0 8 7 0).modCell i fun x => { x with
    giveAt := none, offerK := none, bypStart := none, clear := none, moved := true, synced := false, dripGot := 0 }

/-- CONTEXT_ESCROWED for a driving context: the other chip takes over by handover or per-cell takeover, once no bypass
runs, or the endpoint reports the other port active (R44; 09 R305, R306). -/
def State.giveDriving (s : State) (i : Nat) : State :=
  if !s.drives i then s
  else
    let c := s.cell i
    let k := s.tm.k
    let other := s.fresh i 0 && (bitAt (s.snap i 0) 27 == decide (i < 64)) && decide (c.inStateK < k)
    let given := (match c.giveAt with | some g => decide (g ≤ k) | none => false) && !s.bypBusy i
    let taken := c.offerK.isSome && decide (c.otherDrives = some (k - 1)) && !s.bypBusy i
    if given || taken then s.enterEscrowed i
    else if other then (s.enterEscrowed i).note 10 5 i
    else s

/-! ## Step 4: returns -/

/-- RETURN of CS_CELLCMD sets PEND_RET (04 R151), also while a bypass sequence runs. -/
def State.returnCommand (s : State) : State :=
  match s.waiting 2 with
  | some v => s.forAll (cmdCells v) fun u i =>
    if u.cst i = cBypassed ∨ (u.cst i = cActive ∧ u.bypBusy i = true) then u.setCtxF i 0 7 7 1 else u.noEffect
  | none => s

/-- CONTEXT_RETURN (R44): BYPASSED with PEND_RET, the fault word zero and BYP_BUSY clear. -/
def State.contextReturn (s : State) (i : Nat) : State :=
  if decide (s.cst i = cBypassed) && s.pendRet i && !s.bypBusy i && s.fresh i 3 && decide (s.faultWord i = 0) then
    ((s.setCst i cActive).setCtxF i 0 7 7 0).sendReturn i
  else s

/-! ## Step 5: discovery, admission, activation and loss -/

/-- The serial that the other chip's records carry matches the one on the escrow port; own contexts need none (R44). -/
def State.recSerialOk (s : State) (i : Nat) : Bool :=
  decide (i < 64) ||
    decide ((tblGet (fun _ => (0 : Word)) (s.cell i).recSerial 0).toNat % 65536 * 2 ^ 32 +
      (tblGet (fun _ => (0 : Word)) (s.cell i).recSerial 1).toNat = s.portSerial i)

/-- CONTEXT_DISCOVER: the header names the owning chip's position and the class the endpoint reports (R43). -/
def State.contextDiscover (s : State) (i : Nat) : State :=
  let home := if i < 64 then s.pos else s.f F.RNG_TOPO.BUDDYPOS
  ((s.setCst i cDiscovered).setCtxF i 0 23 18 home).setCtxF i 0 12 9 (fld (s.reg (R.LNK_CAP i 0)) 28 25)

/-- The contexts' fifth step. `caps` are the ports whose full capability set arrived in the period that ended, `sent` the
ports on which an EDGE or CADENCE went out in it. -/
def State.stepFive (s : State) (caps sent : List Nat) (i : Nat) : State :=
  let k := s.tm.k
  let c := s.cell i
  let other := decide (c.otherDrives = some (k - 1)) && s.recSerialOk i
  match s.cst i with
  | 0 =>
    if caps.contains i then
      if decide (c.otherDrives = some (k - 1)) then
        if other then ((s.contextDiscover i).setCst i cEscrowed).modCell i fun x => { x with synced := false, dripGot := 0 }
        else s
      else s.contextDiscover i
    else s
  | 1 =>
    if other then (s.setCst i cEscrowed).modCell i fun x => { x with synced := false, dripGot := 0 }
    else if 3 ≤ s.f (F.LNK_PSTAT.SILCNT i) then s.setCst i cAbsent
    else s.contextAdmit i
  | 2 =>
    let go := if s.cInArm i then
        s.fb F.CS_CTRL.EN && decide (s.f (F.CS_ACFG.MODE (s.blockOf i)) ≠ 0)
      else sent.contains i
    if go then
      ((s.setCst i cActive).setCtxF i 0xC0 31 27 (fld (s.snap i 0) 23 19)).modCell i fun x => { x with hasEdge := false }
    else s
  | 5 =>
    let gone := decide (s.ctxN i 0xEC + 1 = k) && decide (c.recState ≤ 1)
    let left := !s.fb F.RNG_TOPO.BUDDYV && (s.takeOf i).isNone
    if gone || left then s.setCst i cAbsent else s
  | _ => s

/-- RESUME, after step 5 (04 R152): CLEAR with CLRSTOP to the addressed driving contexts whose endpoint reports STOPPED
or FALLBACK; nothing while SF1 holds. -/
def State.resumeCommand (s : State) : State :=
  match s.waiting 4 with
  | some v =>
    if s.held.testBit 0 then s
    else s.forAll (cmdCells v) fun u i =>
      if u.drives i && (decide (fld (u.snap i 0) 26 24 = 1) || decide (fld (u.snap i 0) 26 24 = 4)) then
        u.pushCmd i [{ ty := 5, data := wN (3 * 2 ^ 28 + 2 ^ 17), resend := true }]
      else u.noEffect
  | none => s

/-! ## Arms (R30; 04 R153) -/

/-- ARM_DEFICIT and FLTMAX_STOP of arm block a. -/
def State.armBoundary (s : State) (a : Nat) : State :=
  let mem := (s.members a).filter s.drives
  let act := (mem.filter fun i => decide (s.cst i = cActive)).length
  let flt := (mem.filter fun i => decide (s.cst i = cFaulted)).length
  let whole := act + (if s.armShared a then s.remoteActive a else 0)
  let t := ((s.setF (F.CS_ASTAT.NACT a) (min 63 act)).setF (F.CS_ASTAT.NFLT a) (min 63 flt)).setB (F.CS_ASTAT.DEFICIT a)
    (!(if a < 8 then s.members a else mem).isEmpty && decide (whole < s.f (F.CS_ALVL.NREQ a)))
  let lim := s.f (F.CS_ACFG.FLTMAX a)
  if lim ≠ 0 ∧ lim < flt ∧ s.f (F.CS_ASTAT.NFLT a) ≤ lim then
    ((t.setB F.CS_STATUS.STOPREQ true).note 8 1 a).stopRequest
  else t

/-! ## The whole boundary -/

/-- The context transitions in the order of R46, with the commands of CS_CELLCMD at their steps. -/
def State.contextSteps (s : State) (caps sent lost : List Nat) : State :=
  if !s.on 6 then s
  else
    let s1 := s.forAll ctxIdx State.contextFaulted
    let s2 := s1.forAll ctxIdx State.contextBypassed
    let s3 := (s2.forAll ctxIdx fun t i => t.bypassCauses lost i).bypassCommands
    let s4 := (s3.takesDue.forAll ctxIdx State.giveDriving).adoptDue
    let s5 := s4.returnCommand.forAll ctxIdx State.contextReturn
    let s6 := (s5.forAll ctxIdx fun t i => t.stepFive caps sent i).resumeCommand
    let s7 := if s6.cs.cmd.isSome then s6.setB F.CS_CMDSTAT.BUSY false else s6
    let s8 : State := { s7 with cs := { s7.cs with cmd := none } }
    s8.forAll (List.range 16) State.armBoundary

/-- The link's and the cells' parts that come before the transitions. -/
def State.linkPart (s : State) : State :=
  let s1 := if s.live && s.on 7 then s.forAll (ctxIdx.filter s.portOn) State.reportSnapshot else s
  let s2 := if s1.on 6 then s1.forAll (ctxIdx.filter fun i => s1.drives i) State.tallyCell else s1
  let s3 := s2.msrBoundary.serialBoundary
  let s4 := if s3.on 6 then s3.forAll ctxIdx State.shiftCell else s3
  let s5 := if s4.on 6 then s4.forAll (ctxIdx.filter s4.portOn) (State.repeatNote s3) else s4
  if s5.live && s5.on 7 then s5.forAll (ctxIdx.filter s5.portOn) State.portBoundary else s5

/-- The Cell Scheduler and the Link Engine begin the period. -/
def State.beginPeriod (s : State) : State :=
  let t := (s.setB F.CS_STATUS.APASS false).setB F.CS_STATUS.CPASS false
  let u := if s.on 6 then t else s;
  { u with
    cs := { u.cs with cadEnd := none, armEnd := none, cadDone := false, armDone := false },
    lnk := { u.lnk with slot := 0 } }

/-- A processor that a block reset stopped restarts in its dispatcher (12 R359). -/
def State.restartProcs (s : State) : State :=
  s.forAll (List.range 5) fun t p =>
    if (t.proc p).run = .restart then
      if t.admitted then t.startProc p (wN (dispatcherAt p)) else t.modProc p fun q => { q with run := .dead }
    else t

/-- PERIOD_BOUNDARY (02 R59): stack time reaches the next T_k. Nothing happens while the stack time unit is off or has not
started, or P is 0. -/
def State.periodBoundary (s : State) : State :=
  if s.live && s.on 1 && s.tm.started && decide (s.f F.STM_PERIOD.P ≠ 0) then
    let s0 := (s.enterPeriod s.nextBoundary).modeApply
    let caps := ctxIdx.filter fun i => (s0.port i).capFull
    let sent := ctxIdx.filter fun i => (s0.port i).edgeSent
    let lost := ctxIdx.filter fun i => (s0.port i).lostDone
    let s1 := s0.beginPeriod.linkPart
    let s2 := s1.hoBoundary.contextSteps caps sent lost
    let s3 := s2.hoFinish.heldBackTakes.tokackCheck.ringBoundary
    let s4 := s3.ceBoundary
    let s5 := s4.timeBoundary.timeAction
    s5.wdtBoundary.policeBoundary.sfuBoundary.restartProcs
  else s

def execPeriodBoundary (s : State) : Out := .next s.periodBoundary.mgmtSettle

end Sys2Proof.Machine
end

