-- ==== Sys2Proof/Machine/CmdBridge.lean ====
section
/-! DEFINITION. One meaning per command, each over the shared operation that carries its rules: the bridge port and measurement (10, 11). -/

namespace Sys2Proof.Machine

def execBrpEnset (ch : BitVec 8) (s : State) : Out := .next (s.brpEnset ch.toNat)
def execBrpEnclr (ch : BitVec 8) (s : State) : Out := .next (s.brpEnclr ch.toNat)
def execSoftStopDone (c : Fin 8) (s : State) : Out := .next (s.softStopDone c)
def execPwmBoundary (c : Fin 8) (s : State) : Out := .next (s.pwmBoundary c)
def execPwmEdge (c : Fin 8) (s : State) : Out := .next (s.pwmEdge c)
def execShadowWrite (req : Requester) (c : Fin 8) (duty : Bool) (value : BitVec 24) (s : State) : Out :=
  .next (s.shadowWrite (decide (req = .ce)) c duty value.toNat)
def execShadowCommit (c : Fin 8) (s : State) : Out := .next (s.shadowCommit c)
def execShadowDiscard (c : Fin 8) (s : State) : Out := .next (s.shadowDiscard c)
def execForceSet (set : BitVec 8) (gates : BitVec 16) (s : State) : Out := .next (s.forceSet set.toNat gates.toNat)
def execForceRelease (rel : BitVec 8) (s : State) : Out := .next (s.forceRelease rel.toNat)
def execBothonSensed (c : Fin 8) (s : State) : Out := .next (s.bothonSensed c)
def execBootstrapUndervoltage (c : Fin 8) (s : State) : Out := .next (s.bootstrapUndervoltage c)
def execShortCircuit (c : Fin 8) (s : State) : Out := .next (s.shortCircuit c)
def execTripInput (t : Fin 8) (s : State) : Out := .next (s.tripInput t)
def execTripBlankEnd (t : Fin 8) (s : State) : Out := .next (s.tripBlankEnd t)
def execClearSc (ch : BitVec 8) (s : State) : Out := .next (s.clearLatch ch.toNat F.BRP_STAT.SC false)
def execClearBoot (ch : BitVec 8) (s : State) : Out := .next (s.clearLatch ch.toNat F.BRP_STAT.BOOTUV false)
def execClearTrip (ch : BitVec 8) (s : State) : Out := .next (s.clearLatch ch.toNat F.BRP_STAT.TRIP true)
def execVgdLow (s : State) : Out := .next s.vgdLow
def execVgdRecover (s : State) : Out := .next s.vgdRecover
def execBootlowChange (c : Fin 8) (low : Bool) (s : State) : Out := .next (s.bootlowChange c low)
def execSarConversion (e : Fin 32) (code : BitVec 16) (s : State) : Out := .next (s.sarConversion e code.toNat)
def execOffsetConversion (b : Bool) (code : BitVec 16) (s : State) : Out := .next (s.offsetConversion b code.toInt)
def execSigmaDeltaOutput (s : Fin 8) (value : BitVec 30) (stuck : Bool) (st : State) : Out :=
  .next (st.sigmaDeltaOutput s value.toInt stuck)
def execComparatorOutput (t : Fin 8) (out : Bool) (s : State) : Out := .next (s.comparatorOutput t out)
def execComparatorThresholdWrite (t : Fin 8) (thr : BitVec 8) (s : State) : Out :=
  .next (s.comparatorThreshold t thr.toNat)
def execSupplyOutOfWindow (rail : Fin 6) (mv : BitVec 16) (s : State) : Out := .next (s.supplyRail rail mv.toNat true)
def execSupplyInWindow (rail : Fin 6) (mv : BitVec 16) (s : State) : Out := .next (s.supplyRail rail mv.toNat false)
def execJunctionTemperatureHigh (sensor : Fin 4) (quarter : BitVec 12) (s : State) : Out :=
  .next (s.junctionHigh sensor quarter.toInt)
def execJunctionTemperatureNormal (quarters : BitVec 48) (s : State) : Out :=
  .next (s.junctionNormal fun n => (quarters.extractLsb' (12 * n) 12).toInt)
def execSerialAccept (serlo : Word) (s : State) : Out := .next (s.serialAccept serlo)
def execTrimsetWrite (fall : Bool) (i : BitVec 7) (gate : Fin 16) (trim : BitVec 12) (s : State) : Out :=
  .next (s.trimsetWrite i.toNat gate fall trim.toInt)
def execGateChargeMeasure (c : Fin 8) (hs hsok : Bool) (s : State) : Out := .next (s.gateChargeMeasure c hs hsok)
def execGateChargeDone (qg : BitVec 16) (s : State) : Out := .next (s.gateChargeDone qg.toNat)

end Sys2Proof.Machine
end

