-- ==== Sys2Proof/Machine/CmdEndpoint.lean ====
section
/-! DEFINITION. One meaning per command, each over the shared operation that carries its rules: the cell endpoints (03). -/

namespace Sys2Proof.Machine

def execEndpointPowerUp (p : PortId) (cap0 cap1 cap2 cap3 : Word) (s : State) : Out :=
  .next (s.endpointPowerUp p.idx cap0 cap1 cap2 cap3)
def execEndpointBeacon (p : PortId) (escrow : Bool) (seq : BitVec 4) (beacon : Word) (s : State) : Out :=
  .next (s.endpointBeacon p.idx escrow seq.toNat beacon)
def execEndpointDelayWord (p : PortId) (escrow : Bool) (seq : BitVec 4) (delay : BitVec 24) (s : State) : Out :=
  .next (s.endpointDelayWord p.idx escrow seq.toNat delay.toNat)
def execEndpointBadWord (p : PortId) (escrow : Bool) (s : State) : Out := .next (s.endpointBadWord p.idx escrow)
def execEdgeCommand (p : PortId) (escrow : Bool) (seq : BitVec 4) (edge cont : Word) (s : State) : Out :=
  .next (s.edgeCommand p.idx escrow seq.toNat edge cont)
def execBundleDeadline (p : PortId) (s : State) : Out := .next (s.bundleDeadline p.idx)
def execEdgeDue (p : PortId) (s : State) : Out := .next (s.edgeDue p.idx)
def execCadenceCommand (p : PortId) (escrow : Bool) (seq : BitVec 4) (cad c1 c2 c3 : Word) (s : State) : Out :=
  .next (s.cadenceCommand p.idx escrow seq.toNat cad c1 c2 c3)
def execCadenceStart (p : PortId) (group : Fin 5) (s : State) : Out := .next (s.cadenceStart p.idx group)
def execCadenceEdge (p : PortId) (group : Fin 5) (s : State) : Out := .next (s.cadenceEdge p.idx group)
def execCmdStop (p : PortId) (escrow : Bool) (seq : BitVec 4) (s : State) : Out :=
  .next (s.cmdStop p.idx escrow seq.toNat)
def execCmdBypass (p : PortId) (escrow : Bool) (seq : BitVec 4) (idx : Fin 32) (due : Word) (s : State) : Out :=
  .next (s.cmdBypass p.idx escrow seq.toNat idx due)
def execBypassDue (p : PortId) (s : State) : Out := .next (s.bypassDue p.idx)
def execCmdClear (p : PortId) (escrow : Bool) (seq : BitVec 4) (clrStop clrCell : Bool) (mask : BitVec 16) (s : State) : Out :=
  .next (s.cmdClear p.idx escrow seq.toNat clrStop clrCell mask.toNat)
def execCmdTake (p : PortId) (escrow : Bool) (seq : BitVec 4) (tb : Word) (s : State) : Out :=
  .next (s.cmdTake p.idx escrow seq.toNat tb)
def execCmdReturn (p : PortId) (escrow : Bool) (seq : BitVec 4) (s : State) : Out :=
  .next (s.cmdReturn p.idx escrow seq.toNat)
def execCmdReplay (p : PortId) (escrow : Bool) (seq named : BitVec 4) (s : State) : Out :=
  .next (s.cmdReplay p.idx escrow seq.toNat named.toNat)
def execCmdCapreq (p : PortId) (escrow : Bool) (seq : BitVec 4) (s : State) : Out :=
  .next (s.cmdCapreq p.idx escrow seq.toNat)
def execCmdSvc (p : PortId) (escrow : Bool) (seq : BitVec 4) (commission : Bool) (s : State) : Out :=
  .next (s.cmdSvc p.idx escrow seq.toNat commission)
def execCmdUnlistedOp (p : PortId) (escrow : Bool) (seq op : BitVec 4) (s : State) : Out :=
  .next (s.cmdUnlistedOp p.idx escrow seq.toNat op.toNat)
def execCalWord (p : PortId) (escrow : Bool) (seq : BitVec 4) (falling : Bool) (gate : Fin 16) (trim : BitVec 12) (s : State) : Out :=
  .next (s.calWord p.idx escrow seq.toNat falling gate trim.toNat)
def execCfgWrite (p : PortId) (escrow : Bool) (seq : BitVec 4) (addr : BitVec 8) (value : BitVec 24) (s : State) : Out :=
  .next (s.cfgWrite p.idx escrow seq.toNat addr.toNat value.toNat)
def execCfgCommit (p : PortId) (escrow : Bool) (seq : BitVec 4) (sum : BitVec 16) (s : State) : Out :=
  .next (s.cfgCommit p.idx escrow seq.toNat sum.toNat)
def execEndpointBoundary (p : PortId) (s : State) : Out := .next (s.endpointBoundary p.idx)
def execReportSample (p : PortId) (vcap : BitVec 15) (current : BitVec 14) (temps : BitVec 27) (s : State) : Out :=
  .next (s.reportSample p.idx vcap.toNat current.toNat temps.toNat)
def execFaultLatch (p : PortId) (mask present : BitVec 29) (s : State) : Out :=
  .next (s.faultLatch p.idx mask.toNat present.toNat)

end Sys2Proof.Machine
end

