-- ==== Sys2Proof/Machine/CmdFault.lean ====
section
/-! DEFINITION. One meaning per command, each over the shared operation that carries its rules: the Fault Collector and the Safety unit (12, 13). -/

namespace Sys2Proof.Machine

def execFaultSourceSet (src : Fin 64) (unit : Fin 6) (s : State) : Out := .next (s.faultSourceSet src unit)
def execDualRailEqual (src : Fin 8) (s : State) : Out := .next (s.dualRailEqual src)
def execFswClear (req : Requester) (lo hi : Word) (s : State) : Out := .next (s.fswClear req lo hi)
def execFsrcRearm (s : State) : Out := .next s.fsrcRearm
def execReactWrite (src : Fin 64) (v : Word) (s : State) : Out := .next (s.reactWrite src v)
def execFcuSwset (bits : Word) (s : State) : Out := .next (s.setSwFlt (s.reg R.FCU_SWFLT ||| bits))
def execFcuSwclr (bits : Word) (s : State) : Out := .next (s.setSwFlt (s.reg R.FCU_SWFLT &&& ~~~ bits))
def execWatchdogKick (q : CoreId) (s : State) : Out := .next (s.watchdogKick q)
def execWatchdogExpiry (q : CoreId) (s : State) : Out := .next (s.watchdogExpiry q)
def execLedgerWrite (s : State) : Out := .next s.ledgerWrite
def execFirmwareRecord (q : CoreId) (src : BitVec 8) (code : BitVec 16) (data : Word) (s : State) : Out :=
  .next (s.firmwareRecord q src.toNat code.toNat data)
def execFaultInject (rail : Bool) (src : Fin 64) (s : State) : Out := .next (s.faultInject rail src)
def execSafeInputDemand (b chA chB : Bool) (s : State) : Out := .next (s.safeInputDemand b chA chB)
def execSafeInputRelease (b : Bool) (s : State) : Out := .next (s.safeInputRelease b)
def execSf1Demand (cause : BitVec 8) (pos : Fin 64) (s : State) : Out := .next (s.sf1Demand cause.toNat pos)
def execFwdemWrite (req : Requester) (v : BitVec 4) (s : State) : Out := .next (s.fwdemWrite req v.toNat)
def execMonitorThresholdDemand (m : Fin 6) (j : Fin 4) (s : State) : Out := .next (s.monitorDemand m j)
def execBmonMeasureUpdate (m : Fin 6) (raw : Word) (s : State) : Out := .next (s.bmonUpdate m raw)
def execSafetyReset (req : Requester) (s : State) : Out := .next (s.safetyReset req)
def execSfuArm (req : Requester) (s : State) : Out := .next (s.sfuArm req)
def execChannelLost (b : Bool) (row : Fin 5) (s : State) : Out := .next (s.channelLost b row)
def execTdegExpiry (s : State) : Out := .next s.tdegExpiry
def execRequal (req : Requester) (s : State) : Out := .next (s.requalWrite req)
def execPulseTestStart (o : Fin 6) (s : State) : Out := .next (s.pulseTestStart o)
def execPulseTestResult (o : Fin 6) (pass : Bool) (s : State) : Out := .next (s.pulseTestResult o pass)
def execXdis (s : State) : Out := .next s.xdis
def execSindisc (s : State) : Out := .next s.sindisc
def execEsubSubmit (req : Requester) (mac : Bool) (s : State) : Out := .next (s.esubSubmit req mac)
def execSafetyWindowClose (s : State) : Out := .next s.safetyWindowClose
def execFollowWatchdog (p : Fin 64) (s : State) : Out := .next (s.followWatchdog p)

end Sys2Proof.Machine
end

