-- ==== Sys2Proof/Machine/CmdLink.lean ====
section
/-! DEFINITION. One meaning per command, each over the shared operation that carries its rules: the cell link at the chip (03). -/

namespace Sys2Proof.Machine

/-- LINK_ALIGN and LINK_ALIGN_LOSS at one of the three receivers of a link (03 R76). -/
def State.alignCmd (s : State) (i : Nat) (rx : LinkEnd) (ok : Bool) : State :=
  match rx with
  | .chip => if ok then s.linkAligned i else s.linkAlignLost i
  | .primary => s.epAlign i false ok
  | .escrow => s.epAlign i true ok

/-- STOP_REQUEST: the Link Engine takes a stop request while it is powered (03 R109). -/
def State.stopRequestCmd (s : State) : State := if s.live && s.on 7 then s.stopRequest else s

def execLinkSlot (s : State) : Out := .next s.linkSlot
def execLinkAlign (p : PortId) (rx : LinkEnd) (s : State) : Out := .next (s.alignCmd p.idx rx true)
def execLinkAlignLoss (p : PortId) (rx : LinkEnd) (s : State) : Out := .next (s.alignCmd p.idx rx false)
def execUplinkWordReceive (p : PortId) (good : Bool) (ty : BitVec 3) (seq : BitVec 4) (data trx : Word) (s : State) : Out :=
  .next (s.uplinkReceive p.idx good ty.toNat seq.toNat data trx)
def execEchoReceive (p : PortId) (seq : BitVec 4) (echo trx : Word) (s : State) : Out :=
  .next (s.uplinkReceive p.idx true 2 seq.toNat echo trx)
def execNakReceive (p : PortId) (seq named : BitVec 4) (s : State) : Out :=
  .next (s.uplinkReceive p.idx true 4 seq.toNat (wN named.toNat) 0)
def execCapsetComplete (p : PortId) (s : State) : Out := .next (s.capsetComplete p.idx)
def execLinkLost (p : PortId) (s : State) : Out := .next (s.linkLost p.idx)
def execStopRequest (s : State) : Out := .next s.stopRequestCmd
def execLnkCmdWrite (p : PortId) (op : BitVec 4) (arg : BitVec 24) (s : State) : Out :=
  .next (s.lnkCmdWrite p.idx op.toNat arg.toNat)

end Sys2Proof.Machine
end

