-- ==== Sys2Proof/Machine/CmdNet.lean ====
section
/-! DEFINITION. One meaning per command, each over the shared operation that carries its rules: the network block, CAN and the trust unit (14, 15). -/

namespace Sys2Proof.Machine

/-- CONFIRM by firmware (15 R449). -/
def State.confirmCmd (s : State) : State := if s.live then s.confirm else s

def execEthFrameReceive (m : Fin 2) (frame : List Byte) (fcsOk : Bool) (s : State) : Out :=
  .next (s.ethReceive m frame fcsOk)
def execEthRxrelWrite (m : Fin 2) (count : BitVec 12) (s : State) : Out := .next (s.rxRelease m count.toNat)
def execEthLaunch (m low : Fin 2) (s : State) : Out := .next (s.ethLaunch m low)
def execPtpEvent (m : Fin 2) (tx : Bool) (mtype : BitVec 4) (seqId : BitVec 16) (s : State) : Out :=
  .next (s.ptpPass m tx mtype.toNat seqId.toNat)
def execTsinfoRead (m : Fin 2) (s : State) : Out := .next (s.tsinfoReadCmd m)
def execDomainMapCommit (s : State) : Out := .next s.domainCommit
def execDtimeloRead (req : Requester) (s : State) : Out := .next (s.dtimeReadCmd req)
def execPrpsetWrite (v : BitVec 16) (s : State) : Out := .next (s.prpsetWrite v.toNat)
def execTpoPulseEnd (n : Fin 2) (s : State) : Out := .next (s.tpoEnd n)
def execMdioGo (m : Fin 2) (read : Bool) (phy reg : BitVec 5) (data : BitVec 16) (s : State) : Out :=
  .next (s.mdioGo m read phy.toNat reg.toNat data.toNat)
def execMdioDone (m : Fin 2) (data : BitVec 16) (s : State) : Out := .next (s.mdioDone m data.toNat)
def execEthLinkChange (m : Fin 2) (up : Bool) (speed : BitVec 2) (half : Bool) (s : State) : Out :=
  .next (s.linkChange m up speed.toNat half)
def execCanEnable (n : Fin 2) (fden strict tdcen listen : Bool) (s : State) : Out :=
  .next (s.canEnable n fden strict tdcen listen)
def execCanFrameReceive (n : Fin 2) (h : CanHeader) (data : List Byte) (err : BitVec 4) (s : State) : Out :=
  .next (s.canReceive n h data err.toNat)
def execCanTransmit (s : State) : Out := .next s.canTransmit
def execCanTransmitOutcome (n : Fin 2) (out : CanTxOutcome) (tdcv : BitVec 8) (s : State) : Out :=
  .next (s.canTxOutcome n out tdcv.toNat)
def execCanBusOff (n : Fin 2) (s : State) : Out := .next (s.canBusOff n)
def execCanRecover (n : Fin 2) (s : State) : Out := .next (s.canRecover n)
def execCanReset (n : Fin 2) (s : State) : Out := .next (s.canReset n)
def execCanRecoveryDone (n : Fin 2) (s : State) : Out := .next (s.canRecoveryDone n)
def execCanSleep (n : Fin 2) (s : State) : Out := .next (s.canSleep n)
def execCanWake (n : Fin 2) (s : State) : Out := .next (s.canWake n)
def execCanWakeUpFrame (n : Fin 2) (h : CanHeader) (data : List Byte) (s : State) : Out :=
  .next (s.canWakeFrame n h data)
def execCanFrameErrorWake (n : Fin 2) (s : State) : Out := .next (s.canFrameError n)
def execAssayExtend (req : Requester) (n : Fin 8) (s : State) : Out := .next (s.assayExtend req n)
def execExtensionDone (s : State) : Out := .next s.extensionDone
def execReportRequest (req : Requester) (b : Fin 2) (key : KeyCheck) (s : State) : Out :=
  .next (s.reportRequest req b key)
def execRingReportRequest (f : List Word) (key : KeyCheck) (s : State) : Out := .next (s.ringReportRequest f key)
def execReportDone (s : State) : Out := .next s.reportDone.mgmtSettle
def execFlashProgram (s : State) : Out := .next s.flashProgram
def execFlashErase (s : State) : Out := .next s.flashErase
def execFlashOperationDone (fail : Bool) (s : State) : Out := .next ((s.flashDone fail).mgmtSettle)
def execConfirm (s : State) : Out := .next s.confirmCmd
def execIdentLock (stackId : BitVec 14) (s : State) : Out :=
  .next (s.identWrite (wN (2 ^ 31 + stackId.toNat * 2 ^ 16)))

end Sys2Proof.Machine
end

