-- ==== Sys2Proof/Machine/CmdPower.lean ====
section
/-! DEFINITION. One meaning per command, each over the shared operation that carries its rules: supply, resets, power commands, service mode, debug and the host port (15, 16). -/

namespace Sys2Proof.Machine

def execVbedPowerUp (s : State) : Out := .next s.vbedUp
def execVbedRemoval (s : State) : Out := .next s.vbedOff
def execSupplyCollapse (s : State) : Out := .next s.supplyCollapse
def execResetNAssert (s : State) : Out := .next s.resetN
def execSyscResetWrite (req : Requester) (key : BitVec 16) (s : State) : Out := .next (s.syscReset req key.toNat)
def execResetRelease (s1 s2 s3 : BitVec 4) (key : KeyCheck) (s : State) : Out := .next (s.resetRelease s1 s2 s3 key)
def execRomHandOver (s : State) : Out := .next s.romHandOver
def execPowerCommandBedrock (req : Requester) (opt : BitVec 12) (s : State) : Out :=
  .next (s.powerCommand req 1 opt.toNat)
def execPowerCommandStandby (req : Requester) (opt : BitVec 12) (s : State) : Out :=
  .next (s.powerCommand req 2 opt.toNat)
def execPowerCommandReady (req : Requester) (opt : BitVec 12) (s : State) : Out :=
  .next (s.powerCommand req 3 opt.toNat)
def execPowerCommandRun (req : Requester) (opt : BitVec 12) (s : State) : Out :=
  .next (s.powerCommand req 4 opt.toNat)
def execDomainPowerUpDone (d : Fin 12) (s : State) : Out := .next (s.domainUp d)
def execDomainPowerDownDone (d : Fin 12) (s : State) : Out := .next (s.domainDown d)
def execPowerSequenceDone (s : State) : Out := .next s.powerDone.mgmtSettle
def execNoclkTimeout (s : State) : Out := .next s.noclk.mgmtSettle
def execSyscAuthWrite (req : Requester) (ring : Bool) (s : State) : Out := .next (s.authWrite req ring)
def execSyscModeWrite (req : Requester) (commission : Bool) (s : State) : Out := .next (s.modeWrite req commission)
def execCoreStart (req : Requester) (start : BitVec 4) (s : State) : Out := .next (s.coreStart req start.toNat)
def execCanWakeUpPattern (n : Fin 2) (s : State) : Out := .next (s.wakePattern n)
def execBedrockAlarm (s : State) : Out := .next s.bedrockAlarm
def execWakeCauseClear (req : Requester) (alarm : Bool) (can : BitVec 6) (s : State) : Out :=
  .next (s.wakeClear req alarm can.toNat)
def execHpStatus (s : State) : Out := .next s.hpStatus
def execHpTransactionError (s : State) : Out := .next s.hpError
def execMbxPush (entry : DWord) (s : State) : Out := .next (s.mbxPush entry)
def execMbxPop (s : State) : Out := .next s.mbxPop
def execHpdDoorbellWrite (data : Word) (s : State) : Out := .next (s.doorbell data)
def execDebugAttach (s : State) : Out := .next s.debugAttach
def execDebugDetach (s : State) : Out := .next s.debugDetach
def execDebugHalt (procs : BitVec 5) (s : State) : Out := .next (s.debugHalt procs.toNat)
def execDebugResume (procs : BitVec 5) (s : State) : Out := .next (s.debugResume procs.toNat)

end Sys2Proof.Machine
end

