-- ==== Sys2Proof/Machine/CmdRing.lean ====
section
/-! DEFINITION. One meaning per command, each over the shared operation that carries its rules: the Marur ring, roles, takeover and handover (01, 09). -/

namespace Sys2Proof.Machine

def execTimeTakeback (s : State) : Out := .next s.timeTakeback
def execRingSlot (inA inB : Option (List Word)) (s : State) : Out := .next (s.queueSafety.ringSlot inA inB)
def execRingPortUp (portB : Bool) (s : State) : Out := .next (s.ringPortUp portB)
def execRingPortBroken (portB : Bool) (s : State) : Out := .next (s.ringPortBroken portB)
def execRingBadWord (portB : Bool) (s : State) : Out := .next (s.ringBadWord portB)
def execRingNak (portB : Bool) (s : State) : Out := .next (s.ringNak portB)
def execRingFramesLost (portB : Bool) (s : State) : Out := .next (s.ringFramesLost portB)
def execRingBeaconReceive (portB : Bool) (f : List Word) (arrival : DWord) (s : State) : Out :=
  .next (s.ringBeaconReceive portB f arrival)
def execRingHopReceive (portB : Bool) (f : List Word) (capture : Word) (s : State) : Out :=
  .next (s.ringHopReceive portB f capture)
def execRefbReceive (f : List Word) (nshare : BitVec 8) (s : State) : Out := .next (s.refbReceive f nshare.toNat)
def execEscrowFrameReceive (f : List Word) (s : State) : Out := .next (s.escrowFrameReceive f)
def execSafetyFrameReceive (f : List Word) (s : State) : Out := .next (s.safetyFrameReceive f)
def execArmcntReceive (f : List Word) (s : State) : Out := .next (s.armcntReceive f)
def execMgmtFrameReceive (f : List Word) (s : State) : Out := .next (s.mgmtFrameReceive f)
def execBulkFrameReceive (f : List Word) (s : State) : Out := .next (s.bulkFrameReceive f)
def execBreakNotice (u : Fin 64) (s : State) : Out := .next (s.breakNotice u)
def execJoin (s : State) : Out := .next s.ringJoin
def execJoinReceive (serial : BitVec 48) (own : BitVec 8) (summary : DWord) (hops : Fin 64) (longHop : Bool) (s : State) : Out :=
  .next (s.joinReceive serial.toNat own.toNat summary.toNat hops longHop)
def execGrantReceive (g : Grant) (s : State) : Out := .next (s.grantReceive g)
def execRolecmdMaster (s : State) : Out := .next s.rolecmdMaster
def execRolecmdMember (s : State) : Out := .next s.rolecmdMember
def execRoleSwap (s : State) : Out := .next s.roleSwap
def execLeave (s : State) : Out := .next s.ringLeave
def execBuddyLoss (s : State) : Out := .next s.buddyLoss
def execOfferReceive (cell : Fin 64) (s : State) : Out := .next (s.offerReceive cell)
def execTakenReceive (cell : Fin 64) (s : State) : Out := .next (s.takenReceive cell)
def execTokackReceive (p : PortId) (tb : BitVec 16) (s : State) : Out := .next (s.tokackReceive p.idx tb.toNat)
def execHandover (cell : Fin 64) (s : State) : Out := .next (s.hoCommand false cell)
def execHandback (cell : Fin 64) (s : State) : Out := .next (s.hoCommand true cell)
def execHandoverCancel (s : State) : Out := .next s.handoverCancel.mgmtSettle
def execHoReqReceive (back : Bool) (cell : Fin 64) (held : BitVec 64) (s : State) : Out :=
  .next (s.hoReqReceive back cell held.toNat)
def execHoAckReceive (result : BitVec 8) (held : BitVec 64) (s : State) : Out :=
  .next ((s.hoAckReceive result.toNat held.toNat).mgmtSettle)
def execMgmtTransmit (dst : Fin 64) (bc bulk : Bool) (s : State) : Out := .next (s.mgmtTransmit dst bc bulk)

end Sys2Proof.Machine
end

