-- ==== Sys2Proof/Machine/CmdSched.lean ====
section
/-! DEFINITION. One meaning per command, each over the shared operation that carries its rules: the Cell Scheduler, interrupts, queues, semaphores, the period police (04, 07, 08). -/

namespace Sys2Proof.Machine

/-- A CS_CELLCMD word. -/
def cellWord (op : Nat) (esc : Bool) (cell arg : Nat) : Word :=
  wN (op * 2 ^ 28 + b2n esc * 2 ^ 27 + cell * 2 ^ 21 + arg)

def execAdmittedDelayExceeded (p : PortId) (s : State) : Out := .next (s.policeDelay p.idx)
def execCadencePass (s : State) : Out := .next s.cadencePass
def execArmPass (s : State) : Out := .next s.shareSplit.armPass
def execPassEnd (s : State) : Out := .next s.passEnd
def execFomWindowEnd (a : Fin 16) (s : State) : Out := .next (s.fomWindowEnd a)
def execCellcmdBypass (esc : Bool) (cell : Fin 64) (s : State) : Out := .next (s.cellCmd (cellWord 1 esc cell 0))
def execCellcmdReturn (esc : Bool) (cell : Fin 64) (s : State) : Out := .next (s.cellCmd (cellWord 2 esc cell 0))
def execCellcmdClear (esc : Bool) (cell : Fin 64) (clrStop clrCell : Bool) (gates : BitVec 16) (s : State) : Out :=
  .next (s.cellCmd (cellWord 3 esc cell (b2n clrStop * 2 ^ 17 + b2n clrCell * 2 ^ 16 + gates.toNat)))
def execCellcmdResume (esc : Bool) (cell : Fin 64) (s : State) : Out := .next (s.cellCmd (cellWord 4 esc cell 0))
def execCellcmdInvalidOp (op : BitVec 4) (s : State) : Out :=
  .next (if 1 ≤ op.toNat ∧ op.toNat ≤ 4 then s else s.cellCmd 0)
def execVicArbitration (s : State) : Out := .next s.arbitrate
def execInterruptEntry (p : CoreId) (s : State) : Out := .next (s.interruptEntry p)
def execNmiEntry (s : State) : Out := .next s.nmiEntry
def execVicSrcWrite (n : Fin 256) (en : Bool) (route : BitVec 5) (prio : BitVec 4) (s : State) : Out :=
  .next (s.vicSrcWrite n (b2n en) route.toNat prio.toNat)
def execVicSwset (bits : Word) (s : State) : Out := .next (s.vicSwSet bits)
def execVicSwclr (bits : Word) (s : State) : Out := .next (s.vicSwClr bits)
def execSemaphoreAcquire (req : Requester) (n : Fin 64) (s : State) : Out := .next (s.semAcquire req n)
def execSemaphoreRelease (req : Requester) (n : Fin 64) (s : State) : Out := .next (s.semRelease req n)
def execHardwarePush (q : QueueId) (entry : DWord) (s : State) : Out := .next (s.hardwarePush q entry)
def execHardwarePop (q : QueueId) (s : State) : Out := .next (s.hardwarePop q)
def execQueueFlush (q : QueueId) (s : State) : Out := .next (s.queueFlush q)

end Sys2Proof.Machine
end

