-- ==== Sys2Proof/Machine/CmdTime.lean ====
section
/-! DEFINITION. One meaning per command, each over the shared operation that carries its rules: stack time and the measurement clocks (02). -/

namespace Sys2Proof.Machine

/-- TIMELO_READ: the word read stands in `busOut`. -/
def State.timeloReadCmd (s : State) (req : Requester) : State :=
  if s.on 1 then
    let r := s.timeloRead (reqIdx req);
    { r.1 with busOut := r.2.setWidth 64 }
  else s

/-- STM_LOAD by a requester: the chip's own act while it is live; the host reaches STM in COMMISSION only (16 R469). -/
def State.stmLoadCmd (s : State) (req : Requester) : State :=
  if req = .host then (if s.on 3 && s.commission then s.stmLoad else s) else if s.live then s.stmLoad else s

def execDllEnable (s : State) : Out := .next s.dllEnable
def execDllLock (s : State) : Out := .next s.dllLock
def execDllLockLoss (s : State) : Out := .next s.dllLockLoss
def execDllRelock (s : State) : Out := .next s.dllRelock
def execTimeloRead (req : Requester) (s : State) : Out := .next (s.timeloReadCmd req)
def execStmLoad (req : Requester) (s : State) : Out := .next (s.stmLoadCmd req)
def execCompareArm (n : Fin 8) (target : BitVec 40) (int : Bool) (s : State) : Out :=
  .next (s.compareArm n target int)
def execCompareFire (n : Fin 8) (s : State) : Out := .next (s.compareFire n)
def execSlewStep (s : State) : Out := .next s.slewStep
def execTimeStep (s : State) : Out := .next s.timeStep
def execForwardedClockLost (jump : Bool) (s : State) : Out := .next (s.forwardedClockLost jump)
def execForwardedClockQualify (tap : Fin 64) (s : State) : Out := .next (s.forwardedClockQualify tap)
def execFwdResume (s : State) : Out := .next s.fwdResume
def execSettleEnd (s : State) : Out := .next s.settleEnd
def execMclkStart (n : Fin 4) (s : State) : Out := .next (s.mclkStart n)
def execMclkStop (n : Fin 4) (s : State) : Out := .next (s.mclkStop n)
def execSyncInEdge (ph : Fin 64) (s : State) : Out := .next (s.syncInEdge ph)
def execRealignmentWindowEnd (n : Fin 4) (s : State) : Out := .next (s.windowEnd n)

end Sys2Proof.Machine
end

