-- ==== Sys2Proof/Machine/Dispatch.lean ====
section
/-! DEFINITION. The dispatch: one arm per command of the opcode table, each one direct call of its meaning. -/

namespace Sys2Proof.Machine

def exec (i : Instr) (s : State) : Host.Outcome State Fault Refusal :=
  match i with
  | .vbedPowerUp => Sys2Proof.Machine.execVbedPowerUp s
  | .vbedRemoval => Sys2Proof.Machine.execVbedRemoval s
  | .supplyCollapse => Sys2Proof.Machine.execSupplyCollapse s
  | .resetNAssert => Sys2Proof.Machine.execResetNAssert s
  | .syscResetWrite a b => Sys2Proof.Machine.execSyscResetWrite a b s
  | .resetRelease a b c d => Sys2Proof.Machine.execResetRelease a b c d s
  | .romHandOver => Sys2Proof.Machine.execRomHandOver s
  | .powerCommandBedrock a b => Sys2Proof.Machine.execPowerCommandBedrock a b s
  | .powerCommandStandby a b => Sys2Proof.Machine.execPowerCommandStandby a b s
  | .powerCommandReady a b => Sys2Proof.Machine.execPowerCommandReady a b s
  | .powerCommandRun a b => Sys2Proof.Machine.execPowerCommandRun a b s
  | .domainPowerUpDone a => Sys2Proof.Machine.execDomainPowerUpDone a s
  | .domainPowerDownDone a => Sys2Proof.Machine.execDomainPowerDownDone a s
  | .powerSequenceDone => Sys2Proof.Machine.execPowerSequenceDone s
  | .noclkTimeout => Sys2Proof.Machine.execNoclkTimeout s
  | .syscAuthWrite a b => Sys2Proof.Machine.execSyscAuthWrite a b s
  | .syscModeWrite a b => Sys2Proof.Machine.execSyscModeWrite a b s
  | .coreStart a b => Sys2Proof.Machine.execCoreStart a b s
  | .canWakeUpPattern a => Sys2Proof.Machine.execCanWakeUpPattern a s
  | .bedrockAlarm => Sys2Proof.Machine.execBedrockAlarm s
  | .wakeCauseClear a b c => Sys2Proof.Machine.execWakeCauseClear a b c s
  | .hpStatus => Sys2Proof.Machine.execHpStatus s
  | .hpRead a b => Sys2Proof.Machine.execHpRead a b s
  | .hpWrite a b => Sys2Proof.Machine.execHpWrite a b s
  | .hpTransactionError => Sys2Proof.Machine.execHpTransactionError s
  | .mbxPush a => Sys2Proof.Machine.execMbxPush a s
  | .mbxPop => Sys2Proof.Machine.execMbxPop s
  | .hpdDoorbellWrite a => Sys2Proof.Machine.execHpdDoorbellWrite a s
  | .debugAttach => Sys2Proof.Machine.execDebugAttach s
  | .debugDetach => Sys2Proof.Machine.execDebugDetach s
  | .debugHalt a => Sys2Proof.Machine.execDebugHalt a s
  | .debugResume a => Sys2Proof.Machine.execDebugResume a s
  | .dllEnable => Sys2Proof.Machine.execDllEnable s
  | .dllLock => Sys2Proof.Machine.execDllLock s
  | .dllLockLoss => Sys2Proof.Machine.execDllLockLoss s
  | .dllRelock => Sys2Proof.Machine.execDllRelock s
  | .timeloRead a => Sys2Proof.Machine.execTimeloRead a s
  | .stmLoad a => Sys2Proof.Machine.execStmLoad a s
  | .periodBoundary => Sys2Proof.Machine.execPeriodBoundary s
  | .compareArm a b c => Sys2Proof.Machine.execCompareArm a b c s
  | .compareFire a => Sys2Proof.Machine.execCompareFire a s
  | .slewStep => Sys2Proof.Machine.execSlewStep s
  | .timeStep => Sys2Proof.Machine.execTimeStep s
  | .timeTakeback => Sys2Proof.Machine.execTimeTakeback s
  | .forwardedClockLost a => Sys2Proof.Machine.execForwardedClockLost a s
  | .forwardedClockQualify a => Sys2Proof.Machine.execForwardedClockQualify a s
  | .fwdResume => Sys2Proof.Machine.execFwdResume s
  | .settleEnd => Sys2Proof.Machine.execSettleEnd s
  | .mclkStart a => Sys2Proof.Machine.execMclkStart a s
  | .mclkStop a => Sys2Proof.Machine.execMclkStop a s
  | .syncInEdge a => Sys2Proof.Machine.execSyncInEdge a s
  | .realignmentWindowEnd a => Sys2Proof.Machine.execRealignmentWindowEnd a s
  | .linkSlot => Sys2Proof.Machine.execLinkSlot s
  | .linkAlign a b => Sys2Proof.Machine.execLinkAlign a b s
  | .linkAlignLoss a b => Sys2Proof.Machine.execLinkAlignLoss a b s
  | .uplinkWordReceive a b c d e f => Sys2Proof.Machine.execUplinkWordReceive a b c d e f s
  | .echoReceive a b c d => Sys2Proof.Machine.execEchoReceive a b c d s
  | .nakReceive a b c => Sys2Proof.Machine.execNakReceive a b c s
  | .capsetComplete a => Sys2Proof.Machine.execCapsetComplete a s
  | .linkLost a => Sys2Proof.Machine.execLinkLost a s
  | .stopRequest => Sys2Proof.Machine.execStopRequest s
  | .lnkCmdWrite a b c => Sys2Proof.Machine.execLnkCmdWrite a b c s
  | .admittedDelayExceeded a => Sys2Proof.Machine.execAdmittedDelayExceeded a s
  | .endpointBeacon a b c d => Sys2Proof.Machine.execEndpointBeacon a b c d s
  | .endpointDelayWord a b c d => Sys2Proof.Machine.execEndpointDelayWord a b c d s
  | .endpointBadWord a b => Sys2Proof.Machine.execEndpointBadWord a b s
  | .edgeCommand a b c d e => Sys2Proof.Machine.execEdgeCommand a b c d e s
  | .bundleDeadline a => Sys2Proof.Machine.execBundleDeadline a s
  | .edgeDue a => Sys2Proof.Machine.execEdgeDue a s
  | .cadenceCommand a b c d e f g => Sys2Proof.Machine.execCadenceCommand a b c d e f g s
  | .cadenceStart a b => Sys2Proof.Machine.execCadenceStart a b s
  | .cadenceEdge a b => Sys2Proof.Machine.execCadenceEdge a b s
  | .cmdStop a b c => Sys2Proof.Machine.execCmdStop a b c s
  | .cmdBypass a b c d e => Sys2Proof.Machine.execCmdBypass a b c d e s
  | .bypassDue a => Sys2Proof.Machine.execBypassDue a s
  | .cmdClear a b c d e f => Sys2Proof.Machine.execCmdClear a b c d e f s
  | .cmdTake a b c d => Sys2Proof.Machine.execCmdTake a b c d s
  | .cmdReturn a b c => Sys2Proof.Machine.execCmdReturn a b c s
  | .cmdReplay a b c d => Sys2Proof.Machine.execCmdReplay a b c d s
  | .cmdCapreq a b c => Sys2Proof.Machine.execCmdCapreq a b c s
  | .cmdSvc a b c d => Sys2Proof.Machine.execCmdSvc a b c d s
  | .cmdUnlistedOp a b c d => Sys2Proof.Machine.execCmdUnlistedOp a b c d s
  | .calWord a b c d e f => Sys2Proof.Machine.execCalWord a b c d e f s
  | .cfgWrite a b c d e => Sys2Proof.Machine.execCfgWrite a b c d e s
  | .cfgCommit a b c d => Sys2Proof.Machine.execCfgCommit a b c d s
  | .endpointBoundary a => Sys2Proof.Machine.execEndpointBoundary a s
  | .reportSample a b c d => Sys2Proof.Machine.execReportSample a b c d s
  | .faultLatch a b c => Sys2Proof.Machine.execFaultLatch a b c s
  | .cadencePass => Sys2Proof.Machine.execCadencePass s
  | .armPass => Sys2Proof.Machine.execArmPass s
  | .passEnd => Sys2Proof.Machine.execPassEnd s
  | .fomWindowEnd a => Sys2Proof.Machine.execFomWindowEnd a s
  | .cellcmdBypass a b => Sys2Proof.Machine.execCellcmdBypass a b s
  | .cellcmdReturn a b => Sys2Proof.Machine.execCellcmdReturn a b s
  | .cellcmdClear a b c d e => Sys2Proof.Machine.execCellcmdClear a b c d e s
  | .cellcmdResume a b => Sys2Proof.Machine.execCellcmdResume a b s
  | .cellcmdInvalidOp a => Sys2Proof.Machine.execCellcmdInvalidOp a s
  | .supervision => Sys2Proof.Machine.execSupervision s
  | .feedbackImplausible a => Sys2Proof.Machine.execFeedbackImplausible a s
  | .feedbackFrozen a => Sys2Proof.Machine.execFeedbackFrozen a s
  | .feedbackExpiry a => Sys2Proof.Machine.execFeedbackExpiry a s
  | .feedbackRecovery a => Sys2Proof.Machine.execFeedbackRecovery a s
  | .fbexpWrite a b => Sys2Proof.Machine.execFbexpWrite a b s
  | .bumplessRecompute => Sys2Proof.Machine.execBumplessRecompute s
  | .programStart a => Sys2Proof.Machine.execProgramStart a s
  | .programOverrun => Sys2Proof.Machine.execProgramOverrun s
  | .commitWindow => Sys2Proof.Machine.execCommitWindow s
  | .ceLoad a b => Sys2Proof.Machine.execCeLoad a b s
  | .loadDone => Sys2Proof.Machine.execLoadDone s
  | .bankSwapRequest => Sys2Proof.Machine.execBankSwapRequest s
  | .rampClear a => Sys2Proof.Machine.execRampClear a s
  | .paramWrite a b => Sys2Proof.Machine.execParamWrite a b s
  | .angleTableWrite a b c d => Sys2Proof.Machine.execAngleTableWrite a b c d s
  | .trackerModeWrite a b => Sys2Proof.Machine.execTrackerModeWrite a b s
  | .ceParityError a => Sys2Proof.Machine.execCeParityError a s
  | .parityRestoration a b c d => Sys2Proof.Machine.execParityRestoration a b c d s
  | .restorationDone a => Sys2Proof.Machine.execRestorationDone a s
  | .add a b c d => Sys2Proof.Machine.execAdd a b c d s
  | .sub a b c d => Sys2Proof.Machine.execSub a b c d s
  | .and a b c d => Sys2Proof.Machine.execAnd a b c d s
  | .or a b c d => Sys2Proof.Machine.execOr a b c d s
  | .xor a b c d => Sys2Proof.Machine.execXor a b c d s
  | .sll a b c d => Sys2Proof.Machine.execSll a b c d s
  | .srl a b c d => Sys2Proof.Machine.execSrl a b c d s
  | .sra a b c d => Sys2Proof.Machine.execSra a b c d s
  | .slt a b c d => Sys2Proof.Machine.execSlt a b c d s
  | .sltu a b c d => Sys2Proof.Machine.execSltu a b c d s
  | .adds a b c d => Sys2Proof.Machine.execAdds a b c d s
  | .subs a b c d => Sys2Proof.Machine.execSubs a b c d s
  | .min a b c d => Sys2Proof.Machine.execMin a b c d s
  | .max a b c d => Sys2Proof.Machine.execMax a b c d s
  | .clz a b c => Sys2Proof.Machine.execClz a b c s
  | .mul a b c d => Sys2Proof.Machine.execMul a b c d s
  | .mulh a b c d => Sys2Proof.Machine.execMulh a b c d s
  | .mulhu a b c d => Sys2Proof.Machine.execMulhu a b c d s
  | .div a b c d => Sys2Proof.Machine.execDiv a b c d s
  | .divu a b c d => Sys2Proof.Machine.execDivu a b c d s
  | .rem a b c d => Sys2Proof.Machine.execRem a b c d s
  | .remu a b c d => Sys2Proof.Machine.execRemu a b c d s
  | .mac a b c d e => Sys2Proof.Machine.execMac a b c d e s
  | .msu a b c d e => Sys2Proof.Machine.execMsu a b c d e s
  | .mla a b c d e => Sys2Proof.Machine.execMla a b c d e s
  | .rda a b c d => Sys2Proof.Machine.execRda a b c d s
  | .cla a b => Sys2Proof.Machine.execCla a b s
  | .rdw a b c d => Sys2Proof.Machine.execRdw a b c d s
  | .wrw a b c d => Sys2Proof.Machine.execWrw a b c d s
  | .addi a b c d => Sys2Proof.Machine.execAddi a b c d s
  | .andi a b c d => Sys2Proof.Machine.execAndi a b c d s
  | .ori a b c d => Sys2Proof.Machine.execOri a b c d s
  | .xori a b c d => Sys2Proof.Machine.execXori a b c d s
  | .slti a b c d => Sys2Proof.Machine.execSlti a b c d s
  | .lui a b c => Sys2Proof.Machine.execLui a b c s
  | .slli a b c d => Sys2Proof.Machine.execSlli a b c d s
  | .srli a b c d => Sys2Proof.Machine.execSrli a b c d s
  | .srai a b c d => Sys2Proof.Machine.execSrai a b c d s
  | .lw a b c d => Sys2Proof.Machine.execLw a b c d s
  | .lh a b c d => Sys2Proof.Machine.execLh a b c d s
  | .lhu a b c d => Sys2Proof.Machine.execLhu a b c d s
  | .lb a b c d => Sys2Proof.Machine.execLb a b c d s
  | .lbu a b c d => Sys2Proof.Machine.execLbu a b c d s
  | .sw a b c d => Sys2Proof.Machine.execSw a b c d s
  | .sh a b c d => Sys2Proof.Machine.execSh a b c d s
  | .sb a b c d => Sys2Proof.Machine.execSb a b c d s
  | .beq a b c d => Sys2Proof.Machine.execBeq a b c d s
  | .bne a b c d => Sys2Proof.Machine.execBne a b c d s
  | .blt a b c d => Sys2Proof.Machine.execBlt a b c d s
  | .bge a b c d => Sys2Proof.Machine.execBge a b c d s
  | .bltu a b c d => Sys2Proof.Machine.execBltu a b c d s
  | .bgeu a b c d => Sys2Proof.Machine.execBgeu a b c d s
  | .j a b => Sys2Proof.Machine.execJ a b s
  | .call a b => Sys2Proof.Machine.execCall a b s
  | .ret a => Sys2Proof.Machine.execRet a s
  | .twaitp a b => Sys2Proof.Machine.execTwaitp a b s
  | .twait a b => Sys2Proof.Machine.execTwait a b s
  | .twaitComplete a => Sys2Proof.Machine.execTwaitComplete a s
  | .jt a b c => Sys2Proof.Machine.execJt a b c s
  | .loop a b c d => Sys2Proof.Machine.execLoop a b c d s
  | .loopi a b c => Sys2Proof.Machine.execLoopi a b c s
  | .mfs a b c => Sys2Proof.Machine.execMfs a b c s
  | .mts a b c => Sys2Proof.Machine.execMts a b c s
  | .di a => Sys2Proof.Machine.execDi a s
  | .ei a => Sys2Proof.Machine.execEi a s
  | .iret a => Sys2Proof.Machine.execIret a s
  | .brk a => Sys2Proof.Machine.execBrk a s
  | .wfi a => Sys2Proof.Machine.execWfi a s
  | .atw a b c d => Sys2Proof.Machine.execAtw a b c d s
  | .timedWritePerform a => Sys2Proof.Machine.execTimedWritePerform a s
  | .sys a b => Sys2Proof.Machine.execSys a b s
  | .qpush a b c d => Sys2Proof.Machine.execQpush a b c d s
  | .qpop a b c => Sys2Proof.Machine.execQpop a b c s
  | .qcnt a b c => Sys2Proof.Machine.execQcnt a b c s
  | .vadd a b c => Sys2Proof.Machine.execVadd a b c s
  | .vsub a b c => Sys2Proof.Machine.execVsub a b c s
  | .vand a b c => Sys2Proof.Machine.execVand a b c s
  | .vor a b c => Sys2Proof.Machine.execVor a b c s
  | .vxor a b c => Sys2Proof.Machine.execVxor a b c s
  | .vadds a b c => Sys2Proof.Machine.execVadds a b c s
  | .vsubs a b c => Sys2Proof.Machine.execVsubs a b c s
  | .vmin a b c => Sys2Proof.Machine.execVmin a b c s
  | .vmax a b c => Sys2Proof.Machine.execVmax a b c s
  | .vabs a b => Sys2Proof.Machine.execVabs a b s
  | .vneg a b => Sys2Proof.Machine.execVneg a b s
  | .vclt a b c => Sys2Proof.Machine.execVclt a b c s
  | .vmov a b => Sys2Proof.Machine.execVmov a b s
  | .vsra a b c => Sys2Proof.Machine.execVsra a b c s
  | .vsll a b c => Sys2Proof.Machine.execVsll a b c s
  | .vcmac a b c d e => Sys2Proof.Machine.execVcmac a b c d e s
  | .vcm a b c d => Sys2Proof.Machine.execVcm a b c d s
  | .vrda a b c => Sys2Proof.Machine.execVrda a b c s
  | .vcla a => Sys2Proof.Machine.execVcla a s
  | .vvmac a b c d => Sys2Proof.Machine.execVvmac a b c d s
  | .vld a b c d => Sys2Proof.Machine.execVld a b c d s
  | .vst a b c => Sys2Proof.Machine.execVst a b c s
  | .vint a b c => Sys2Proof.Machine.execVint a b c s
  | .vang a b c => Sys2Proof.Machine.execVang a b c s
  | .post a => Sys2Proof.Machine.execPost a s
  | .endProgram => Sys2Proof.Machine.execEndProgram s
  | .vbc a b => Sys2Proof.Machine.execVbc a b s
  | .vext a b c => Sys2Proof.Machine.execVext a b c s
  | .vlane a => Sys2Proof.Machine.execVlane a s
  | .vicArbitration => Sys2Proof.Machine.execVicArbitration s
  | .interruptEntry a => Sys2Proof.Machine.execInterruptEntry a s
  | .nmiEntry => Sys2Proof.Machine.execNmiEntry s
  | .vicSrcWrite a b c d => Sys2Proof.Machine.execVicSrcWrite a b c d s
  | .vicSwset a => Sys2Proof.Machine.execVicSwset a s
  | .vicSwclr a => Sys2Proof.Machine.execVicSwclr a s
  | .semaphoreAcquire a b => Sys2Proof.Machine.execSemaphoreAcquire a b s
  | .semaphoreRelease a b => Sys2Proof.Machine.execSemaphoreRelease a b s
  | .hardwarePush a b => Sys2Proof.Machine.execHardwarePush a b s
  | .hardwarePop a => Sys2Proof.Machine.execHardwarePop a s
  | .queueFlush a => Sys2Proof.Machine.execQueueFlush a s
  | .admitRequest a b => Sys2Proof.Machine.execAdmitRequest a b s
  | .admissionResult => Sys2Proof.Machine.execAdmissionResult s
  | .admissionLock => Sys2Proof.Machine.execAdmissionLock s
  | .unload => Sys2Proof.Machine.execUnload s
  | .unloadDone => Sys2Proof.Machine.execUnloadDone s
  | .dispatchProgram a b => Sys2Proof.Machine.execDispatchProgram a b s
  | .deadlineMiss a b => Sys2Proof.Machine.execDeadlineMiss a b s
  | .diWindowOverrun a => Sys2Proof.Machine.execDiWindowOverrun a s
  | .ringSlot a b => Sys2Proof.Machine.execRingSlot a b s
  | .ringPortUp a => Sys2Proof.Machine.execRingPortUp a s
  | .ringPortBroken a => Sys2Proof.Machine.execRingPortBroken a s
  | .ringBadWord a => Sys2Proof.Machine.execRingBadWord a s
  | .ringNak a => Sys2Proof.Machine.execRingNak a s
  | .ringFramesLost a => Sys2Proof.Machine.execRingFramesLost a s
  | .ringBeaconReceive a b c => Sys2Proof.Machine.execRingBeaconReceive a b c s
  | .ringHopReceive a b c => Sys2Proof.Machine.execRingHopReceive a b c s
  | .refbReceive a b => Sys2Proof.Machine.execRefbReceive a b s
  | .escrowFrameReceive a => Sys2Proof.Machine.execEscrowFrameReceive a s
  | .safetyFrameReceive a => Sys2Proof.Machine.execSafetyFrameReceive a s
  | .armcntReceive a => Sys2Proof.Machine.execArmcntReceive a s
  | .mgmtFrameReceive a => Sys2Proof.Machine.execMgmtFrameReceive a s
  | .bulkFrameReceive a => Sys2Proof.Machine.execBulkFrameReceive a s
  | .breakNotice a => Sys2Proof.Machine.execBreakNotice a s
  | .join => Sys2Proof.Machine.execJoin s
  | .joinReceive a b c d e => Sys2Proof.Machine.execJoinReceive a b c d e s
  | .grantReceive a => Sys2Proof.Machine.execGrantReceive a s
  | .rolecmdMaster => Sys2Proof.Machine.execRolecmdMaster s
  | .rolecmdMember => Sys2Proof.Machine.execRolecmdMember s
  | .roleSwap => Sys2Proof.Machine.execRoleSwap s
  | .leave => Sys2Proof.Machine.execLeave s
  | .buddyLoss => Sys2Proof.Machine.execBuddyLoss s
  | .offerReceive a => Sys2Proof.Machine.execOfferReceive a s
  | .takenReceive a => Sys2Proof.Machine.execTakenReceive a s
  | .tokackReceive a b => Sys2Proof.Machine.execTokackReceive a b s
  | .handover a => Sys2Proof.Machine.execHandover a s
  | .handback a => Sys2Proof.Machine.execHandback a s
  | .handoverCancel => Sys2Proof.Machine.execHandoverCancel s
  | .hoReqReceive a b c => Sys2Proof.Machine.execHoReqReceive a b c s
  | .hoAckReceive a b => Sys2Proof.Machine.execHoAckReceive a b s
  | .mgmtTransmit a b c => Sys2Proof.Machine.execMgmtTransmit a b c s
  | .brpEnset a => Sys2Proof.Machine.execBrpEnset a s
  | .brpEnclr a => Sys2Proof.Machine.execBrpEnclr a s
  | .softStopDone a => Sys2Proof.Machine.execSoftStopDone a s
  | .pwmBoundary a => Sys2Proof.Machine.execPwmBoundary a s
  | .pwmEdge a => Sys2Proof.Machine.execPwmEdge a s
  | .shadowWrite a b c d => Sys2Proof.Machine.execShadowWrite a b c d s
  | .shadowCommit a => Sys2Proof.Machine.execShadowCommit a s
  | .shadowDiscard a => Sys2Proof.Machine.execShadowDiscard a s
  | .forceSet a b => Sys2Proof.Machine.execForceSet a b s
  | .forceRelease a => Sys2Proof.Machine.execForceRelease a s
  | .bothonSensed a => Sys2Proof.Machine.execBothonSensed a s
  | .bootstrapUndervoltage a => Sys2Proof.Machine.execBootstrapUndervoltage a s
  | .shortCircuit a => Sys2Proof.Machine.execShortCircuit a s
  | .tripInput a => Sys2Proof.Machine.execTripInput a s
  | .tripBlankEnd a => Sys2Proof.Machine.execTripBlankEnd a s
  | .clearSc a => Sys2Proof.Machine.execClearSc a s
  | .clearBoot a => Sys2Proof.Machine.execClearBoot a s
  | .clearTrip a => Sys2Proof.Machine.execClearTrip a s
  | .vgdLow => Sys2Proof.Machine.execVgdLow s
  | .vgdRecover => Sys2Proof.Machine.execVgdRecover s
  | .sarConversion a b => Sys2Proof.Machine.execSarConversion a b s
  | .offsetConversion a b => Sys2Proof.Machine.execOffsetConversion a b s
  | .sigmaDeltaOutput a b c => Sys2Proof.Machine.execSigmaDeltaOutput a b c s
  | .comparatorOutput a b => Sys2Proof.Machine.execComparatorOutput a b s
  | .comparatorThresholdWrite a b => Sys2Proof.Machine.execComparatorThresholdWrite a b s
  | .supplyOutOfWindow a b => Sys2Proof.Machine.execSupplyOutOfWindow a b s
  | .junctionTemperatureHigh a b => Sys2Proof.Machine.execJunctionTemperatureHigh a b s
  | .serialAccept a => Sys2Proof.Machine.execSerialAccept a s
  | .trimsetWrite a b c d => Sys2Proof.Machine.execTrimsetWrite a b c d s
  | .gateChargeMeasure a b c => Sys2Proof.Machine.execGateChargeMeasure a b c s
  | .gateChargeDone a => Sys2Proof.Machine.execGateChargeDone a s
  | .faultSourceSet a b => Sys2Proof.Machine.execFaultSourceSet a b s
  | .dualRailEqual a => Sys2Proof.Machine.execDualRailEqual a s
  | .fswClear a b c => Sys2Proof.Machine.execFswClear a b c s
  | .fsrcRearm => Sys2Proof.Machine.execFsrcRearm s
  | .reactWrite a b => Sys2Proof.Machine.execReactWrite a b s
  | .fcuSwset a => Sys2Proof.Machine.execFcuSwset a s
  | .fcuSwclr a => Sys2Proof.Machine.execFcuSwclr a s
  | .watchdogKick a => Sys2Proof.Machine.execWatchdogKick a s
  | .watchdogExpiry a => Sys2Proof.Machine.execWatchdogExpiry a s
  | .ledgerWrite => Sys2Proof.Machine.execLedgerWrite s
  | .firmwareRecord a b c d => Sys2Proof.Machine.execFirmwareRecord a b c d s
  | .faultInject a b => Sys2Proof.Machine.execFaultInject a b s
  | .safeInputDemand a b c => Sys2Proof.Machine.execSafeInputDemand a b c s
  | .sf1Demand a b => Sys2Proof.Machine.execSf1Demand a b s
  | .fwdemWrite a b => Sys2Proof.Machine.execFwdemWrite a b s
  | .monitorThresholdDemand a b => Sys2Proof.Machine.execMonitorThresholdDemand a b s
  | .safetyReset a => Sys2Proof.Machine.execSafetyReset a s
  | .sfuArm a => Sys2Proof.Machine.execSfuArm a s
  | .channelLost a b => Sys2Proof.Machine.execChannelLost a b s
  | .tdegExpiry => Sys2Proof.Machine.execTdegExpiry s
  | .requal a => Sys2Proof.Machine.execRequal a s
  | .pulseTestStart a => Sys2Proof.Machine.execPulseTestStart a s
  | .pulseTestResult a b => Sys2Proof.Machine.execPulseTestResult a b s
  | .xdis => Sys2Proof.Machine.execXdis s
  | .sindisc => Sys2Proof.Machine.execSindisc s
  | .esubSubmit a b => Sys2Proof.Machine.execEsubSubmit a b s
  | .safetyWindowClose => Sys2Proof.Machine.execSafetyWindowClose s
  | .followWatchdog a => Sys2Proof.Machine.execFollowWatchdog a s
  | .ethFrameReceive a b c => Sys2Proof.Machine.execEthFrameReceive a b c s
  | .ethRxrelWrite a b => Sys2Proof.Machine.execEthRxrelWrite a b s
  | .ethLaunch a b => Sys2Proof.Machine.execEthLaunch a b s
  | .ptpEvent a b c d => Sys2Proof.Machine.execPtpEvent a b c d s
  | .tsinfoRead a => Sys2Proof.Machine.execTsinfoRead a s
  | .domainMapCommit => Sys2Proof.Machine.execDomainMapCommit s
  | .dtimeloRead a => Sys2Proof.Machine.execDtimeloRead a s
  | .prpsetWrite a => Sys2Proof.Machine.execPrpsetWrite a s
  | .tpoPulseEnd a => Sys2Proof.Machine.execTpoPulseEnd a s
  | .mdioGo a b c d e => Sys2Proof.Machine.execMdioGo a b c d e s
  | .mdioDone a b => Sys2Proof.Machine.execMdioDone a b s
  | .ethLinkChange a b c d => Sys2Proof.Machine.execEthLinkChange a b c d s
  | .canEnable a b c d e => Sys2Proof.Machine.execCanEnable a b c d e s
  | .canFrameReceive a b c d => Sys2Proof.Machine.execCanFrameReceive a b c d s
  | .canTransmit => Sys2Proof.Machine.execCanTransmit s
  | .canTransmitOutcome a b c => Sys2Proof.Machine.execCanTransmitOutcome a b c s
  | .canBusOff a => Sys2Proof.Machine.execCanBusOff a s
  | .canRecover a => Sys2Proof.Machine.execCanRecover a s
  | .canReset a => Sys2Proof.Machine.execCanReset a s
  | .canRecoveryDone a => Sys2Proof.Machine.execCanRecoveryDone a s
  | .canSleep a => Sys2Proof.Machine.execCanSleep a s
  | .canWake a => Sys2Proof.Machine.execCanWake a s
  | .canWakeUpFrame a b c => Sys2Proof.Machine.execCanWakeUpFrame a b c s
  | .canFrameErrorWake a => Sys2Proof.Machine.execCanFrameErrorWake a s
  | .assayExtend a b => Sys2Proof.Machine.execAssayExtend a b s
  | .extensionDone => Sys2Proof.Machine.execExtensionDone s
  | .reportRequest a b c => Sys2Proof.Machine.execReportRequest a b c s
  | .ringReportRequest a b => Sys2Proof.Machine.execRingReportRequest a b s
  | .reportDone => Sys2Proof.Machine.execReportDone s
  | .flashProgram => Sys2Proof.Machine.execFlashProgram s
  | .flashErase => Sys2Proof.Machine.execFlashErase s
  | .flashOperationDone a => Sys2Proof.Machine.execFlashOperationDone a s
  | .confirm => Sys2Proof.Machine.execConfirm s
  | .identLock a => Sys2Proof.Machine.execIdentLock a s
  | .mgmtStatus a => Sys2Proof.Machine.execMgmtStatus a s
  | .mgmtAssay a => Sys2Proof.Machine.execMgmtAssay a s
  | .mgmtAdmit a => Sys2Proof.Machine.execMgmtAdmit a s
  | .mgmtUnload a => Sys2Proof.Machine.execMgmtUnload a s
  | .mgmtHandover a => Sys2Proof.Machine.execMgmtHandover a s
  | .mgmtFlashWrite a => Sys2Proof.Machine.execMgmtFlashWrite a s
  | .mgmtFlashErase a => Sys2Proof.Machine.execMgmtFlashErase a s
  | .bootTrial a => Sys2Proof.Machine.execBootTrial a s
  | .mgmtConfirm a => Sys2Proof.Machine.execMgmtConfirm a s
  | .reboot a => Sys2Proof.Machine.execReboot a s
  | .mgmtPower a => Sys2Proof.Machine.execMgmtPower a s
  | .mgmtUnknownOp a => Sys2Proof.Machine.execMgmtUnknownOp a s
  | .registerWrite a b c => Sys2Proof.Machine.execRegisterWrite a b c s
  | .endpointPowerUp a b c d e => Sys2Proof.Machine.execEndpointPowerUp a b c d e s
  | .safeInputRelease a => Sys2Proof.Machine.execSafeInputRelease a s
  | .supplyInWindow a b => Sys2Proof.Machine.execSupplyInWindow a b s
  | .junctionTemperatureNormal a => Sys2Proof.Machine.execJunctionTemperatureNormal a s
  | .bootlowChange a b => Sys2Proof.Machine.execBootlowChange a b s
  | .bmonMeasureUpdate a b => Sys2Proof.Machine.execBmonMeasureUpdate a b s

end Sys2Proof.Machine
end

