-- ==== Sys2Proof/Safety.lean ====
section
/-! DEFINITION. What counts as a well-formed state and a safe run, in the words that the statements use. -/

namespace Sys2Proof.Machine

/-- Command `c` completes in state `s`, and its next state is as `P` says. -/
def Completes (c : Instr) (s : State) (P : State → Prop) : Prop := ∃ t, exec c s = .next t ∧ P t

/-- The canonical form of the sparse contents of a state: memory and the registers. -/
abbrev State.Canonical (s : State) : Prop := Memory.wf s.mem = true ∧ tblWf regReset s.regs = true

/-- Every byte of memory of two states reads the same. -/
def SameMem (s t : State) : Prop := ∀ a, t.ldb a = s.ldb a

/-- Every register but those at the listed addresses holds the same word. -/
def SameRegsBut (l : List Nat) (s t : State) : Prop := ∀ a, a ∉ l → t.reg a = s.reg a

/-- The frame of a command that writes registers only: nothing but the listed registers changes. -/
def OnlyRegs (l : List Nat) (s t : State) : Prop := t = { s with regs := t.regs } ∧ SameRegsBut l s t

/-- The frame of a command that changes one processor only. -/
def OnlyProc (p : Nat) (s t : State) : Prop := t = { s with procs := t.procs } ∧ ∀ q, q ≠ p → t.proc q = s.proc q

/-- The frame of a command at one cell endpoint: only the endpoint at index i changes. -/
def OnlyEp (i : Nat) (s t : State) : Prop := t = { s with eps := t.eps } ∧ ∀ j, j ≠ i → t.ep j = s.ep j

/-- The endpoint at index i hears words on the given port (03 R76, R112). -/
abbrev State.Hears (s : State) (i : Nat) (escrow : Bool) : Prop :=
  (s.ep i).powered = true ∧ ((s.ep i).port escrow).aligned = true

/-- The endpoint at index i after a word of n words was received good, before what the word does (03 R78, R110). -/
def State.heard (s : State) (i : Nat) (escrow : Bool) (seq n : Nat) : Endpoint :=
  ((s.ep i).settle s.now).gotGood escrow seq n

/-- Processor p executes an instruction of a profile now: it runs, its pc may be fetched, and the instruction belongs to
its profile (06 R200, R207). -/
abbrev State.Executes (s : State) (p : Nat) (core engine : Bool) : Prop :=
  s.canRun p = true ∧ s.fetchOk p (s.proc p).pc.toNat = true ∧ (if p = 5 then engine else core) = true

/-- The frame of an instruction of processor p that writes g[d] and sets the STATUS bits of a mask, then retires: g0
stays 0, every other register of both banks, the accumulators, the stacks and the special registers stay. -/
def WritesGpr (p d : Nat) (v mask : Word) (s t : State) : Prop :=
  OnlyProc p s t ∧ t.gpr p d = (if d = 0 then 0 else v) ∧ (∀ r, r ≠ d → t.gpr p r = s.gpr p r) ∧
  (if 24 ≤ d ∧ bankOf (s.proc p) = true then (t.proc p).g = (s.proc p).g else (t.proc p).gi = (s.proc p).gi) ∧
  t.proc p = { s.proc p with g := (t.proc p).g, gi := (t.proc p).gi, status := (s.proc p).status ||| mask,
                             pc := (retireProc (s.proc p)).pc, loops := (retireProc (s.proc p)).loops, run := .running }

/-- The frame of an instruction of processor p that transfers control: only its pc, loop levels and call stack change. -/
def Transfers (p : Nat) (pc : Word) (calls : List Word) (loops : List LoopLevel) (mask : Word) (s t : State) : Prop :=
  OnlyProc p s t ∧
  t.proc p = { s.proc p with pc := pc, calls := calls, loops := loops, status := (s.proc p).status ||| mask }

/-- The frame of a store of bytes by processor p, which then retires: the bytes at the address, and no other byte. -/
def StoresBytes (p a : Nat) (l : List Byte) (s t : State) : Prop :=
  t = { s with mem := t.mem, badWords := t.badWords, procs := t.procs } ∧
  (∀ i (h : i < l.length), t.ldb (a + i) = l[i]) ∧ (∀ b, b < a ∨ a + l.length ≤ b → t.ldb b = s.ldb b) ∧
  t.proc p = retireProc (s.proc p) ∧ ∀ q, q ≠ p → t.proc q = s.proc q

/-- A run of the block that ends in `t`: every step answers a next state. -/
inductive Runs : State → State → Prop where
  | refl (s : State) : Runs s s
  | step {s t u : State} : Runs s t → step t = .next u → Runs s u

end Sys2Proof.Machine
end

