-- ==== Sys2Proof/WellFormed.lean ====
section
/-! DEFINITION. Which commands are well formed: the conditions that the rules put on the operands, beyond what their
types already bound. -/

namespace Sys2Proof

/-- An operation of the core profile, which the engine profile does not have (06 R207): the processor is not the
Control Engine. -/
def coreOnly (p : ProcId) : Bool := decide (p.val ≠ 5)

/-- A ring frame is 16 words (09 R274). -/
def frameOk (f : List Word) : Bool := decide (f.length = 16)

/-- A frame slot brings a frame or nothing. -/
def slotOk (f : Option (List Word)) : Bool :=
  match f with
  | some w => frameOk w
  | none => true

/-- The well-formed commands: LOOP bodies of 1 to 31 words and tables of 1 to 256 entries (06 R211, R213), frames of 16
words (09 R274), cells 1 to 63 (00 R10), a load with first ≤ last (05 R173), payloads that fit a CAN frame (14 R425). -/
def Instr.wf (i : Instr) : Bool :=
  match i with
  | .vbedPowerUp => true
  | .vbedRemoval => true
  | .supplyCollapse => true
  | .resetNAssert => true
  | .syscResetWrite _ _ => true
  | .resetRelease _ _ _ _ => true
  | .romHandOver => true
  | .powerCommandBedrock _ _ => true
  | .powerCommandStandby _ _ => true
  | .powerCommandReady _ _ => true
  | .powerCommandRun _ _ => true
  | .domainPowerUpDone _ => true
  | .domainPowerDownDone _ => true
  | .powerSequenceDone => true
  | .noclkTimeout => true
  | .syscAuthWrite _ _ => true
  | .syscModeWrite _ _ => true
  | .coreStart _ _ => true
  | .canWakeUpPattern _ => true
  | .bedrockAlarm => true
  | .wakeCauseClear _ _ _ => true
  | .hpStatus => true
  | .hpRead _ _ => true
  | .hpWrite _ _ => true
  | .hpTransactionError => true
  | .mbxPush _ => true
  | .mbxPop => true
  | .hpdDoorbellWrite _ => true
  | .debugAttach => true
  | .debugDetach => true
  | .debugHalt _ => true
  | .debugResume _ => true
  | .dllEnable => true
  | .dllLock => true
  | .dllLockLoss => true
  | .dllRelock => true
  | .timeloRead _ => true
  | .stmLoad _ => true
  | .periodBoundary => true
  | .compareArm _ _ _ => true
  | .compareFire _ => true
  | .slewStep => true
  | .timeStep => true
  | .timeTakeback => true
  | .forwardedClockLost _ => true
  | .forwardedClockQualify _ => true
  | .fwdResume => true
  | .settleEnd => true
  | .mclkStart _ => true
  | .mclkStop _ => true
  | .syncInEdge _ => true
  | .realignmentWindowEnd _ => true
  | .linkSlot => true
  | .linkAlign _ _ => true
  | .linkAlignLoss _ _ => true
  | .uplinkWordReceive _ _ _ _ _ _ => true
  | .echoReceive _ _ _ _ => true
  | .nakReceive _ _ _ => true
  | .capsetComplete _ => true
  | .linkLost _ => true
  | .stopRequest => true
  | .lnkCmdWrite _ _ _ => true
  | .admittedDelayExceeded _ => true
  | .endpointBeacon _ _ _ _ => true
  | .endpointDelayWord _ _ _ _ => true
  | .endpointBadWord _ _ => true
  | .edgeCommand _ _ _ _ _ => true
  | .bundleDeadline _ => true
  | .edgeDue _ => true
  | .cadenceCommand _ _ _ _ _ _ _ => true
  | .cadenceStart _ _ => true
  | .cadenceEdge _ _ => true
  | .cmdStop _ _ _ => true
  | .cmdBypass _ _ _ _ _ => true
  | .bypassDue _ => true
  | .cmdClear _ _ _ _ _ _ => true
  | .cmdTake _ _ _ _ => true
  | .cmdReturn _ _ _ => true
  | .cmdReplay _ _ _ _ => true
  | .cmdCapreq _ _ _ => true
  | .cmdSvc _ _ _ _ => true
  | .cmdUnlistedOp _ _ _ _ => true
  | .calWord _ _ _ _ _ _ => true
  | .cfgWrite _ _ _ _ _ => true
  | .cfgCommit _ _ _ _ => true
  | .endpointBoundary _ => true
  | .reportSample _ _ _ _ => true
  | .faultLatch _ _ _ => true
  | .cadencePass => true
  | .armPass => true
  | .passEnd => true
  | .fomWindowEnd _ => true
  | .cellcmdBypass _ cell => decide (1 ≤ cell.val)
  | .cellcmdReturn _ cell => decide (1 ≤ cell.val)
  | .cellcmdClear _ cell _ _ _ => decide (1 ≤ cell.val)
  | .cellcmdResume _ cell => decide (1 ≤ cell.val)
  | .cellcmdInvalidOp op => decide (op.toNat = 0 ∨ 5 ≤ op.toNat)
  | .supervision => true
  | .feedbackImplausible _ => true
  | .feedbackFrozen _ => true
  | .feedbackExpiry _ => true
  | .feedbackRecovery _ => true
  | .fbexpWrite _ _ => true
  | .bumplessRecompute => true
  | .programStart _ => true
  | .programOverrun => true
  | .commitWindow => true
  | .ceLoad first last => decide (first.toNat ≤ last.toNat)
  | .loadDone => true
  | .bankSwapRequest => true
  | .rampClear _ => true
  | .paramWrite _ _ => true
  | .angleTableWrite _ _ _ _ => true
  | .trackerModeWrite _ _ => true
  | .ceParityError _ => true
  | .parityRestoration _ _ _ _ => true
  | .restorationDone _ => true
  | .add _ _ _ _ => true
  | .sub _ _ _ _ => true
  | .and _ _ _ _ => true
  | .or _ _ _ _ => true
  | .xor _ _ _ _ => true
  | .sll _ _ _ _ => true
  | .srl _ _ _ _ => true
  | .sra _ _ _ _ => true
  | .slt _ _ _ _ => true
  | .sltu _ _ _ _ => true
  | .adds _ _ _ _ => true
  | .subs _ _ _ _ => true
  | .min _ _ _ _ => true
  | .max _ _ _ _ => true
  | .clz _ _ _ => true
  | .mul _ _ _ _ => true
  | .mulh _ _ _ _ => true
  | .mulhu _ _ _ _ => true
  | .div _ _ _ _ => true
  | .divu _ _ _ _ => true
  | .rem _ _ _ _ => true
  | .remu _ _ _ _ => true
  | .mac p _ _ _ _ => coreOnly p
  | .msu p _ _ _ _ => coreOnly p
  | .mla p _ _ _ _ => coreOnly p
  | .rda p _ _ _ => coreOnly p
  | .cla p _ => coreOnly p
  | .rdw p _ _ _ => coreOnly p
  | .wrw p _ _ _ => coreOnly p
  | .addi _ _ _ _ => true
  | .andi _ _ _ _ => true
  | .ori _ _ _ _ => true
  | .xori _ _ _ _ => true
  | .slti _ _ _ _ => true
  | .lui _ _ _ => true
  | .slli _ _ _ _ => true
  | .srli _ _ _ _ => true
  | .srai _ _ _ _ => true
  | .lw _ _ _ _ => true
  | .lh _ _ _ _ => true
  | .lhu _ _ _ _ => true
  | .lb _ _ _ _ => true
  | .lbu _ _ _ _ => true
  | .sw _ _ _ _ => true
  | .sh _ _ _ _ => true
  | .sb _ _ _ _ => true
  | .beq _ _ _ _ => true
  | .bne _ _ _ _ => true
  | .blt _ _ _ _ => true
  | .bge _ _ _ _ => true
  | .bltu _ _ _ _ => true
  | .bgeu _ _ _ _ => true
  | .j _ _ => true
  | .call _ _ => true
  | .ret _ => true
  | .twaitp p _ => coreOnly p
  | .twait p _ => coreOnly p
  | .twaitComplete p => coreOnly p
  | .jt _ _ imm => decide (1 ≤ imm.toNat ∧ imm.toNat ≤ 256)
  | .loop _ body _ _ => decide (1 ≤ body.val)
  | .loopi _ body _ => decide (1 ≤ body.val)
  | .mfs _ _ _ => true
  | .mts p _ _ => coreOnly p
  | .di p => coreOnly p
  | .ei p => coreOnly p
  | .iret p => coreOnly p
  | .brk p => coreOnly p
  | .wfi p => coreOnly p
  | .atw p _ _ _ => coreOnly p
  | .timedWritePerform p => coreOnly p
  | .sys p _ => coreOnly p
  | .qpush p _ _ _ => coreOnly p
  | .qpop p _ _ => coreOnly p
  | .qcnt p _ _ => coreOnly p
  | .vadd _ _ _ => true
  | .vsub _ _ _ => true
  | .vand _ _ _ => true
  | .vor _ _ _ => true
  | .vxor _ _ _ => true
  | .vadds _ _ _ => true
  | .vsubs _ _ _ => true
  | .vmin _ _ _ => true
  | .vmax _ _ _ => true
  | .vabs _ _ => true
  | .vneg _ _ => true
  | .vclt _ _ _ => true
  | .vmov _ _ => true
  | .vsra _ _ _ => true
  | .vsll _ _ _ => true
  | .vcmac _ _ _ _ _ => true
  | .vcm _ _ _ _ => true
  | .vrda _ _ _ => true
  | .vcla _ => true
  | .vvmac _ _ _ _ => true
  | .vld _ _ _ _ => true
  | .vst _ _ _ => true
  | .vint _ _ _ => true
  | .vang _ _ _ => true
  | .post _ => true
  | .endProgram => true
  | .vbc _ _ => true
  | .vext _ _ _ => true
  | .vlane _ => true
  | .vicArbitration => true
  | .interruptEntry _ => true
  | .nmiEntry => true
  | .vicSrcWrite _ _ _ _ => true
  | .vicSwset _ => true
  | .vicSwclr _ => true
  | .semaphoreAcquire _ _ => true
  | .semaphoreRelease _ _ => true
  | .hardwarePush _ _ => true
  | .hardwarePop _ => true
  | .queueFlush _ => true
  | .admitRequest _ _ => true
  | .admissionResult => true
  | .admissionLock => true
  | .unload => true
  | .unloadDone => true
  | .dispatchProgram _ _ => true
  | .deadlineMiss _ _ => true
  | .diWindowOverrun _ => true
  | .ringSlot inA inB => slotOk inA && slotOk inB
  | .ringPortUp _ => true
  | .ringPortBroken _ => true
  | .ringBadWord _ => true
  | .ringNak _ => true
  | .ringFramesLost _ => true
  | .ringBeaconReceive _ f _ => frameOk f
  | .ringHopReceive _ f _ => frameOk f
  | .refbReceive f _ => frameOk f
  | .escrowFrameReceive f => frameOk f
  | .safetyFrameReceive f => frameOk f
  | .armcntReceive f => frameOk f
  | .mgmtFrameReceive f => frameOk f
  | .bulkFrameReceive f => frameOk f
  | .breakNotice _ => true
  | .join => true
  | .joinReceive _ _ _ _ _ => true
  | .grantReceive g => g.refused || decide (1 ≤ g.nchip.val ∧ 1 ≤ g.p.toNat ∧ 1 ≤ g.pos.val)
  | .rolecmdMaster => true
  | .rolecmdMember => true
  | .roleSwap => true
  | .leave => true
  | .buddyLoss => true
  | .offerReceive cell => decide (1 ≤ cell.val)
  | .takenReceive cell => decide (1 ≤ cell.val)
  | .tokackReceive _ _ => true
  | .handover cell => decide (1 ≤ cell.val)
  | .handback cell => decide (1 ≤ cell.val)
  | .handoverCancel => true
  | .hoReqReceive _ cell _ => decide (1 ≤ cell.val)
  | .hoAckReceive _ _ => true
  | .mgmtTransmit _ _ _ => true
  | .brpEnset _ => true
  | .brpEnclr _ => true
  | .softStopDone _ => true
  | .pwmBoundary _ => true
  | .pwmEdge _ => true
  | .shadowWrite _ _ _ _ => true
  | .shadowCommit _ => true
  | .shadowDiscard _ => true
  | .forceSet _ _ => true
  | .forceRelease _ => true
  | .bothonSensed _ => true
  | .bootstrapUndervoltage _ => true
  | .shortCircuit _ => true
  | .tripInput _ => true
  | .tripBlankEnd _ => true
  | .clearSc _ => true
  | .clearBoot _ => true
  | .clearTrip _ => true
  | .vgdLow => true
  | .vgdRecover => true
  | .sarConversion _ _ => true
  | .offsetConversion _ _ => true
  | .sigmaDeltaOutput _ _ _ => true
  | .comparatorOutput _ _ => true
  | .comparatorThresholdWrite _ _ => true
  | .supplyOutOfWindow _ _ => true
  | .junctionTemperatureHigh _ _ => true
  | .serialAccept _ => true
  | .trimsetWrite _ i _ _ => decide (i.toNat ≠ 0 ∧ i.toNat ≠ 64)
  | .gateChargeMeasure _ _ _ => true
  | .gateChargeDone _ => true
  | .faultSourceSet _ _ => true
  | .dualRailEqual _ => true
  | .fswClear _ _ _ => true
  | .fsrcRearm => true
  | .reactWrite _ _ => true
  | .fcuSwset _ => true
  | .fcuSwclr _ => true
  | .watchdogKick _ => true
  | .watchdogExpiry _ => true
  | .ledgerWrite => true
  | .firmwareRecord _ _ _ _ => true
  | .faultInject _ _ => true
  | .safeInputDemand _ _ _ => true
  | .sf1Demand _ _ => true
  | .fwdemWrite _ _ => true
  | .monitorThresholdDemand _ _ => true
  | .safetyReset _ => true
  | .sfuArm _ => true
  | .channelLost _ _ => true
  | .tdegExpiry => true
  | .requal _ => true
  | .pulseTestStart _ => true
  | .pulseTestResult _ _ => true
  | .xdis => true
  | .sindisc => true
  | .esubSubmit _ _ => true
  | .safetyWindowClose => true
  | .followWatchdog _ => true
  | .ethFrameReceive _ _ _ => true
  | .ethRxrelWrite _ _ => true
  | .ethLaunch _ _ => true
  | .ptpEvent _ _ _ _ => true
  | .tsinfoRead _ => true
  | .domainMapCommit => true
  | .dtimeloRead _ => true
  | .prpsetWrite _ => true
  | .tpoPulseEnd _ => true
  | .mdioGo _ _ _ _ _ => true
  | .mdioDone _ _ => true
  | .ethLinkChange _ _ _ _ => true
  | .canEnable _ _ _ _ _ => true
  | .canFrameReceive _ h data _ => decide (data.length ≤ 64) && (h.fdf || decide (data.length ≤ 8))
  | .canTransmit => true
  | .canTransmitOutcome _ _ _ => true
  | .canBusOff _ => true
  | .canRecover _ => true
  | .canReset _ => true
  | .canRecoveryDone _ => true
  | .canSleep _ => true
  | .canWake _ => true
  | .canWakeUpFrame _ h data => decide (data.length ≤ 64) && (h.fdf || decide (data.length ≤ 8))
  | .canFrameErrorWake _ => true
  | .assayExtend _ _ => true
  | .extensionDone => true
  | .reportRequest _ _ _ => true
  | .ringReportRequest f _ => frameOk f
  | .reportDone => true
  | .flashProgram => true
  | .flashErase => true
  | .flashOperationDone _ => true
  | .confirm => true
  | .identLock _ => true
  | .mgmtStatus _ => true
  | .mgmtAssay _ => true
  | .mgmtAdmit _ => true
  | .mgmtUnload _ => true
  | .mgmtHandover _ => true
  | .mgmtFlashWrite _ => true
  | .mgmtFlashErase _ => true
  | .bootTrial _ => true
  | .mgmtConfirm _ => true
  | .reboot _ => true
  | .mgmtPower _ => true
  | .mgmtUnknownOp _ => true
  | .registerWrite _ _ _ => true
  | .endpointPowerUp _ _ _ _ _ => true
  | .safeInputRelease _ => true
  | .supplyInWindow _ _ => true
  | .junctionTemperatureNormal _ => true
  | .bootlowChange _ _ => true
  | .bmonMeasureUpdate _ _ => true

end Sys2Proof
end

