-- ==== Sys2Proof/Certificates/Slice0/Obligations.lean ====
section
/-! DEFINITION. The statements for the provers. Each names the commands it covers and the rules of the spec that it
formalises; `Completes c s P` says that command c answers a next state in s, and what that state holds. -/

open Sys2Proof Sys2Proof.Machine

/-- VBED_POWER_UP, VBED_REMOVAL, SUPPLY_COLLAPSE, RESET_N_ASSERT, SYSC_RESET_WRITE (16 R454, R455, R464; 17 R482). -/
def Obligations.SupplyEdgesAndResets : Prop :=
  (∀ s : State, s.pwr.vbed = false → Completes .vbedPowerUp s fun t =>
    (∀ a, t.reg a = regReset a) ∧ t.pwr.vbed = true ∧ t.procs = [] ∧ t.queues = [] ∧ t.pending = s.pending ∧
    ∀ a, t.ldb a = if regionOf a = .flash then s.ldb a else memDefault a) ∧
  (∀ s : State, s.pwr.vbed = true → Completes .vbedRemoval s fun t =>
    t.pwr.vbed = false ∧ (∀ d, t.on d = false) ∧ t.reg R.FCU_GRAVE = regReset R.FCU_GRAVE ∧ t.pending = s.pending ∧
    ∀ a, t.ldb a = if regionOf a = .flash then s.ldb a else memDefault a) ∧
  (∀ s : State, s.on 0 = true → Completes .supplyCollapse s fun t =>
    t.f F.SYSC_PSTAT.STATE = 1 ∧ t.f F.SYSC_PSTAT.RESULT = 9 ∧ t.fb F.SYSC_PSTAT.BUSY = false ∧
    t.pwr.inReset = true ∧ (∀ d, 1 ≤ d → d < 12 → t.on d = false) ∧ t.reg R.FCU_RSTCAUSE = s.reg R.FCU_RSTCAUSE) ∧
  (∀ s : State, s.on 0 = true → exec .resetNAssert s = .next (s.setReg R.FCU_RSTCAUSE 0x100).chipReset) ∧
  (∀ (s : State) (req : Requester), s.on 0 = true → s.live = true → (s.authority req = true ∨ req = .core0) →
    exec (.syscResetWrite req 0x0A5C) s = exec .resetNAssert s) ∧
  (∀ (s : State) (req : Requester) (key : BitVec 16), key ≠ 0x0A5C → exec (.syscResetWrite req key) s = .next s)

/-- The internal reset of 16 R464 that every reset command takes. -/
def Obligations.ChipResetLeavesBedrockOrStandby : Prop :=
  ∀ s : State,
    let t := s.chipReset
    t.f F.SYSC_PSTAT.STATE = (if s.f F.SYSC_PSTAT.STATE = 1 then 1 else 2) ∧ t.f F.SYSC_PSTAT.RESULT = 9 ∧
    t.fb F.SYSC_PSTAT.BUSY = false ∧ t.reg R.SYSC_AUTH = 0 ∧ t.reg R.SYSC_MODE = 0 ∧ t.pwr.inReset = true ∧
    t.pwr.pend = none ∧ (∀ d, 4 ≤ d → d < 12 → t.on d = false) ∧ t.pending = s.pending ∧
    ∀ a, (regionOf a).dom = none → t.ldb a = s.ldb a

/-- POWER_COMMAND_BEDROCK, _STANDBY, _READY and _RUN, DOMAIN_POWER_DOWN_DONE, DOMAIN_POWER_UP_DONE, POWER_SEQUENCE_DONE
and NOCLK_TIMEOUT (16 R456 to R461). -/
def Obligations.PowerCommandsAndSequence : Prop :=
  (∀ (s : State) (req : Requester) (opt : BitVec 12) (st : Fin 4), s.on 0 = true → (req = .host ∨ s.live = true) →
    let c := match st with
      | 0 => Instr.powerCommandBedrock req opt
      | 1 => .powerCommandStandby req opt
      | 2 => .powerCommandReady req opt
      | 3 => .powerCommandRun req opt
    (s.powerRefusal req (st.val + 1) opt.toNat = none → s.fb F.SYSC_PSTAT.BUSY = false → Completes c s fun t =>
      t.fb F.SYSC_PSTAT.BUSY = true ∧ t.pwr.target = st.val + 1 ∧
      t.pwr.ups = (finalDoms (st.val + 1) opt.toNat).filter (fun d => !s.on d) ∧
      t.pwr.downs = (s.onDoms.filter fun d => !(finalDoms (st.val + 1) opt.toNat).contains d).reverse ∧
      SameRegsBut [R.SYSC_PSTAT] s t) ∧
    (∀ r, s.powerRefusal req (st.val + 1) opt.toNat = some r → Completes c s fun t =>
      t.f F.SYSC_PSTAT.RESULT = r.1 % 16 ∧ t.f F.SYSC_PSTAT.DOMAIN = r.2 % 16 ∧
      t.fb F.SYSC_PSTAT.DONE = true ∧ (∀ d, d < 12 → t.on d = s.on d) ∧ OnlyRegs [R.SYSC_PSTAT] s t)) ∧
  (∀ (s : State) (d : Fin 12) (l : List Nat), s.fb F.SYSC_PSTAT.BUSY = true → s.pwr.downs = d.val :: l →
    1 ≤ d.val → Completes (.domainPowerDownDone d) s fun t => t.on d = false ∧ t.pwr.downs = l) ∧
  (∀ (s : State) (d : Fin 12) (l : List Nat), s.fb F.SYSC_PSTAT.BUSY = true → s.pwr.downs = [] →
    s.pwr.ups = d.val :: l → 2 ≤ d.val → Completes (.domainPowerUpDone d) s fun t => t.on d = true ∧ t.pwr.ups = l) ∧
  (∀ (s : State) (l : List Nat), s.fb F.SYSC_PSTAT.BUSY = true → s.pwr.downs = [] → s.pwr.ups = 1 :: l →
    ∃ t : State, exec (.domainPowerUpDone 1) s = .next t.dllEnable.dllLock ∧ t.on 1 = true ∧ t.pwr.ups = l) ∧
  (∀ s : State, s.fb F.SYSC_PSTAT.BUSY = true → s.pwr.downs = [] → s.pwr.ups = [] → s.pwr.pend = none →
    ∃ t : State, exec .powerSequenceDone s = .next t.mgmtSettle ∧
      t.fb F.SYSC_PSTAT.BUSY = false ∧ t.f F.SYSC_PSTAT.STATE = s.pwr.target % 8 ∧ t.f F.SYSC_PSTAT.RESULT = 0 ∧
      t.fb F.SYSC_PSTAT.DONE = true ∧ OnlyRegs [R.SYSC_PSTAT] s t) ∧
  (∀ (s : State) (l : List Nat), s.fb F.SYSC_PSTAT.BUSY = true → s.pwr.downs = [] → s.pwr.ups = 1 :: l →
    s.pwr.pend = none → ∃ t : State, exec .noclkTimeout s = .next t.mgmtSettle ∧
      t.fb F.SYSC_PSTAT.BUSY = false ∧ t.f F.SYSC_PSTAT.STATE = 1 ∧ t.f F.SYSC_PSTAT.RESULT = 8 ∧ t.pwr.ups = [])

/-- SYSC_AUTH_WRITE, SYSC_MODE_WRITE, CORE_START, CAN_WAKE_UP_PATTERN, BEDROCK_ALARM and WAKE_CAUSE_CLEAR (16 R461,
R463, R465, R466; 14 R431). -/
def Obligations.AuthorityModeAndCores : Prop :=
  (∀ (s : State) (ring : Bool), s.on 0 = true → Completes (.syscAuthWrite .host ring) s fun t =>
    t.fb F.SYSC_AUTH.RING = ring ∧ OnlyRegs [R.SYSC_AUTH] s t) ∧
  (∀ (s : State) (req : Requester) (ring : Bool), req ≠ .host → exec (.syscAuthWrite req ring) s = .next s) ∧
  (∀ (s : State) (req : Requester) (m : Bool), s.on 0 = true → (req = .host ∨ s.live = true) →
    (s.authority req = true → s.timeValid = true → Completes (.syscModeWrite req m) s fun t =>
      t.fb F.SYSC_MODE.COMMISSION = m ∧ t.fb F.SYSC_MODE.MODEACT = s.fb F.SYSC_MODE.MODEACT ∧ OnlyRegs [R.SYSC_MODE] s t) ∧
    (s.authority req = false → exec (.syscModeWrite req m) s = .next (s.powerResult 1 0))) ∧
  (∀ (s : State) (start : BitVec 4), s.live = true → Completes (.coreStart .core0 start) s fun t =>
    t = { s with procs := t.procs } ∧ ∀ n, t.proc n =
      if (n = 1 ∨ n = 2 ∨ n = 3) ∧ start.toNat.testBit n ∧ s.on 4 = true ∧ (s.proc n).run = .halted then
        { s.proc n with run := .running, pc := s.reg (R.SYSC_CENTRY n) &&& 0xFFFFFFFC#32 }
      else s.proc n) ∧
  (∀ (s : State) (req : Requester) (start : BitVec 4), req ≠ .core0 → exec (.coreStart req start) s = .next s) ∧
  (∀ (s : State) (n : Fin 2), s.on 0 = true → s.on 10 = false →
    s.fb (if n.val = 0 then F.CAN_WAKECFG.WUPEN0 else F.CAN_WAKECFG.WUPEN1) = true →
    exec (.canWakeUpPattern n) s = .next (s.wakeCause n)) ∧
  (∀ s : State, s.on 0 = true → s.f F.SYSC_ALARM.SECS ≠ 0 → s.f F.SYSC_BSEC.SECS ≤ s.f F.SYSC_ALARM.SECS →
    Completes .bedrockAlarm s fun t => t.fb F.SYSC_WAKE.ALARM = true) ∧
  (∀ (s : State) (req : Requester) (alarm : Bool) (can : BitVec 6), s.on 0 = true → (req = .host ∨ s.live = true) →
    Completes (.wakeCauseClear req alarm can) s fun t =>
      t.reg R.CAN_WAKESTAT = s.reg R.CAN_WAKESTAT &&& ~~~ wN can.toNat ∧
      t.fb F.SYSC_WAKE.ALARM = (!alarm && s.fb F.SYSC_WAKE.ALARM) ∧ OnlyRegs [R.CAN_WAKESTAT, R.SYSC_WAKE] s t)

/-- HP_STATUS, HP_TRANSACTION_ERROR, MBXPUSH, MBXPOP, HPD_DOORBELL_WRITE, DEBUG_ATTACH, DEBUG_DETACH, DEBUG_HALT and
DEBUG_RESUME (16 R467 to R471). -/
def Obligations.HostPortMailboxAndDebug : Prop :=
  (∀ s : State, s.on 0 = true → Completes .hpStatus s fun t =>
    t = { s with busOut := t.busOut } ∧
    (s.on 3 = false → t.busOut = 0) ∧
    (s.on 3 = true → t.busOut.getLsbD 7 = true ∧ t.busOut.getLsbD 6 = s.fb F.HPD_STATUS.DBGATT ∧
      t.busOut.getLsbD 5 = s.fb F.HPD_STATUS.HERR ∧ t.busOut.getLsbD 3 = !(s.queue 26).isEmpty ∧
      t.busOut.getLsbD 2 = s.fb F.HPD_STATUS.LATE)) ∧
  (∀ s : State, s.on 3 = true → Completes .hpTransactionError s fun t =>
    t.fb F.HPD_STATUS.HERR = true ∧ OnlyRegs [R.HPD_STATUS] s t) ∧
  (∀ (s : State) (e : DWord), s.on 3 = true → s.qOn 25 = true →
    ((s.queue 25).length < s.qCap 25 → Completes (.mbxPush e) s fun t =>
      t.queue 25 = s.queue 25 ++ [e] ∧ (∀ q, q ≠ 25 → t.queue q = s.queue q) ∧ t = { s with queues := t.queues }) ∧
    (s.qCap 25 ≤ (s.queue 25).length → Completes (.mbxPush e) s fun t =>
      t.fb F.HPD_STATUS.MBXDROP = true ∧ (∀ q, t.queue q = s.queue q))) ∧
  (∀ s : State, s.on 3 = true →
    (∀ e l, s.qOn 26 = true → s.queue 26 = e :: l → s.tru.mbxOut = [] → Completes .mbxPop s fun t =>
      t.busOut = e ∧ t.queue 26 = l ∧ (∀ q, q ≠ 26 → t.queue q = s.queue q) ∧ ∀ a, t.reg a = s.reg a) ∧
    (s.queue 26 = [] → Completes .mbxPop s fun t => t.busOut = 0 ∧ t.fb F.HPD_STATUS.MBXEMPTY = true)) ∧
  (∀ (s : State) (v : Word), s.on 3 = true → Completes (.hpdDoorbellWrite v) s fun t =>
    t.reg R.HPD_DOORBELL = v ∧ t.fb F.HPD_STATUS.DOOR = true ∧ OnlyRegs [R.HPD_DOORBELL, R.HPD_STATUS] s t) ∧
  (∀ s : State, s.on 3 = true → exec .debugAttach s = .next
    ((((s.setB F.SYSC_MODE.DBGATT true).setB F.HPD_STATUS.DBGATT true).setB F.HPD_DBGSTAT.ATTACHED true).extendEvent true)) ∧
  (∀ s : State, s.on 3 = true → Completes .debugDetach s fun t =>
    t.fb F.SYSC_MODE.DBGATT = false ∧ t.fb F.HPD_STATUS.DBGATT = false ∧ t.fb F.HPD_DBGSTAT.ATTACHED = false ∧
    OnlyRegs [R.SYSC_MODE, R.HPD_STATUS, R.HPD_DBGSTAT] s t) ∧
  (∀ (s : State) (m : BitVec 5), s.on 3 = true → s.commission = false →
    (Completes (.debugHalt m) s fun t =>
      t.f F.SYSC_MODE.DBGREJ = wrapAdd 16 (s.f F.SYSC_MODE.DBGREJ) 1 ∧ OnlyRegs [R.SYSC_MODE] s t) ∧
    exec (.debugResume m) s = exec (.debugHalt m) s) ∧
  (∀ (s : State) (m : BitVec 5), s.on 3 = true → s.commission = true →
    (∃ t : State, exec (.debugHalt m) s = .next (t.showHalted.hardStop false).stopRequest ∧
      ∀ p, t.proc p = if p < 5 ∧ m.toNat.testBit p ∧ s.on (procDom p) = true then { s.proc p with dbgHalt := true }
        else s.proc p) ∧
    (∃ t : State, exec (.debugResume m) s = .next t.showHalted ∧
      ∀ p, t.proc p = if p < 5 ∧ m.toNat.testBit p then { s.proc p with dbgHalt := false } else s.proc p))

/-- DLL_ENABLE, DLL_LOCK, DLL_LOCK_LOSS, DLL_RELOCK, FORWARDED_CLOCK_LOST, FORWARDED_CLOCK_QUALIFY, FWD_RESUME and
SETTLE_END (02 R51 to R53, R66, R68). -/
def Obligations.DllAndForwardedClock : Prop :=
  (∀ s : State, s.on 1 = true → Completes .dllEnable s fun t =>
    t.fb F.CLK_CTRL.DLL_EN = true ∧ t.fb F.CLK_CTRL.FWD_EN = s.fb F.CLK_CTRL.FWD_EN ∧ OnlyRegs [R.CLK_CTRL] s t) ∧
  (∀ s : State, s.on 1 = true → s.fb F.CLK_CTRL.DLL_EN = true → s.timeValid = false → s.tm.lockLost = false →
    exec .dllLock s = .next (if s.tm.started then s.lockNow else
      { s.lockNow with tm := { s.lockNow.tm with started := true, count := 0, k := 0, lastT := none } })) ∧
  (∀ s : State, s.on 1 = true → s.timeValid = true → s.on 2 = false → Completes .dllLockLoss s fun t =>
    t.timeValid = false ∧ t.f F.CLK_STATUS.SRC = 0 ∧ t.tm.lockLost = true ∧ t.tm.count = s.tm.count ∧ SameMem s t) ∧
  (∀ s : State, s.on 1 = true → s.timeValid = true → s.on 2 = true → ∃ t : State,
    exec .dllLockLoss s = .next (s.rose t [1]) ∧ t.timeValid = false ∧ t.f F.CLK_STATUS.SRC = 0 ∧
    t.tm.lockLost = true ∧ t.tm.count = s.tm.count ∧ t.level 1 = true) ∧
  (∀ s : State, s.on 1 = true → s.tm.lockLost = true → ∃ t : State,
    exec .dllRelock s = .next t.lockNow ∧ t.tm.lockLost = false ∧ t.tm.count = s.tm.count) ∧
  (∀ (s : State) (jump : Bool), s.live = true → s.on 1 = true →
    (s.f F.CLK_STATUS.SRC ≠ 2 → Completes (.forwardedClockLost jump) s fun t =>
      t.fb F.CLK_STATUS.FWD_QUAL = false ∧ t.fb F.CLK_STATUS.FWD_PRESENT = jump ∧ OnlyRegs [R.CLK_STATUS] s t) ∧
    (s.f F.CLK_STATUS.SRC = 2 → s.follows = true → s.timeValid = true → ∃ t : State,
      exec (.forwardedClockLost jump) s = .next (t.setSrc 3) ∧ t.fb F.CLK_STATUS.FWD_QUAL = false ∧
      OnlyRegs [R.CLK_STATUS] s t)) ∧
  (∀ (s : State) (tap : Fin 64), s.live = true → s.on 1 = true → s.timeValid = true →
    Completes (.forwardedClockQualify tap) s fun t =>
      t.fb F.CLK_STATUS.FWD_QUAL = true ∧ t.fb F.CLK_STATUS.FWD_PRESENT = true ∧ t.tm.fwdTap = tap.val ∧
      SameRegsBut [R.CLK_STATUS] s t ∧ SameMem s t) ∧
  (∀ s : State, s.live = true → s.timeValid = true → s.follows = true → s.fb F.CLK_STATUS.FWD_QUAL = true →
    s.fb F.CLK_CTRL.FWD_EN = true → s.f F.CLK_STATUS.SRC = 3 → s.f F.STM_PHASE.TAP = s.tm.fwdTap → s.fb F.STM_STATUS.THANDOVER = false →
    exec .fwdResume s = .next ((s.setB F.STM_STATUS.SETTLE true).setSrc 2)) ∧
  (∀ s : State, s.fb F.STM_STATUS.SETTLE = true → s.errWithin 8 = true → Completes .settleEnd s fun t =>
    t.fb F.STM_STATUS.SETTLE = false ∧ OnlyRegs [R.STM_STATUS] s t)

/-- TIMELO_READ, STM_LOAD, COMPARE_ARM, COMPARE_FIRE, SLEW_STEP and TIME_STEP (02 R54 to R65). -/
def Obligations.StackTimeReadsLoadsAndSteps : Prop :=
  (∀ (s : State) (req : Requester), s.on 1 = true → (req = .host ∨ s.live = true) →
    Completes (.timeloRead req) s fun t =>
      t.busOut = (s.tm.count.extractLsb' 0 32).setWidth 64 ∧
      tblGet (fun _ => (0 : Word)) t.tm.hiLatch (reqIdx req) = s.tm.count.extractLsb' 32 32 ∧
      t.tm.count = s.tm.count ∧ (∀ a, t.reg a = s.reg a) ∧ SameMem s t) ∧
  (∀ (s : State) (req : Requester), s.on 1 = true → s.live = true →
    (req = .host → s.on 3 = true ∧ s.commission = true) →
    ((s.follows = true ∨ s.drivesCells = true) → Completes (.stmLoad req) s fun t =>
      t.fb F.STM_STATUS.SETREJ = true ∧ OnlyRegs [R.STM_STATUS] s t) ∧
    (s.follows = false → s.drivesCells = false → exec (.stmLoad req) s = .next (s.stepBy
      ((((s.reg R.STM_SETLO).toNat + (s.reg R.STM_SETHI).toNat * 2 ^ 32 : Nat) : Int) - (s.now : Int)) 3))) ∧
  (∀ (s : State) (n : Fin 8) (target : BitVec 40) (int : Bool), s.on 1 = true →
    Completes (.compareArm n target int) s fun t =>
      t.cmpTarget n = target.toNat ∧ t.fb (F.STM_CMPHI.EN n) = true ∧ t.fb (F.STM_CMPHI.INT n) = int ∧
      SameRegsBut [R.STM_CMPLO n, R.STM_CMPHI n] s t ∧ SameMem s t ∧ t.tm.count = s.tm.count) ∧
  (∀ (s : State) (n : Fin 8), s.on 1 = true → s.timeValid = true → s.fb (F.STM_CMPHI.EN n) = true → s.cmpDiff n ≤ 0 →
    n.val < 6 → Completes (.compareFire n) s fun t =>
      t.fb (F.STM_CMPHI.FIRED n) = true ∧ t.fb (F.STM_CMPHI.EN n) = false ∧
      (tblGet (fun _ => false) s.tm.dueArmed n = true → t.fb (F.STM_CMPHI.LATE n) = true) ∧
      SameRegsBut [R.STM_CMPHI n] s t ∧ SameMem s t ∧ t.tm.count = s.tm.count) ∧
  (∀ (s : State) (n : Fin 8), s.on 1 = true → s.timeValid = true → s.fb (F.STM_CMPHI.EN n) = true →
    exec (.compareFire n) s = .next ((s.advanceTo (s.now + (max 0 (s.cmpDiff n)).toNat)).cmpFire n false)) ∧
  (∀ s : State, s.live = true → s.timeValid = true → s.follows = true → s.slewDir ≠ 0 → s.tm.lastSlew = none →
    Completes .slewStep s fun t =>
      t.tm.count = s.tm.count + BitVec.ofInt 64 (64 + s.slewDir) ∧ t.tm.lastSlew = some s.tm.refclk ∧
      t.f F.STM_PHASE.TAP = ux 6 ((s.f F.STM_PHASE.TAP : Int) + s.slewDir) % 64 ∧ SameMem s t) ∧
  (∀ s : State, s.timeValid = true → s.follows = true → s.drivesCells = false → s.tm.stepDue = true →
    s.fb F.STM_STATUS.THANDOVER = false → ∃ t : State, exec .timeStep s = .next (s.rose t [20]) ∧
      t.tm.stepDue = false ∧ t.fb F.STM_STATUS.FARSLEW = false)

/-- MCLK_START, MCLK_STOP, SYNC_IN_EDGE and REALIGNMENT_WINDOW_END (02 R58, R69 to R72). -/
def Obligations.MeasurementClocksAndSync : Prop :=
  (∀ (s : State) (n : Fin 4), s.on 1 = true →
    exec (.mclkStart n) s = .next (s.mclkWrite n (s.reg (R.CLK_MCLK n) ||| 0x80000000#32)) ∧
    exec (.mclkStop n) s = .next (s.mclkWrite n (s.reg (R.CLK_MCLK n) &&& 0x7FFFFFFF#32))) ∧
  (∀ (s : State) (n : Nat) (v : Word), n < 4 →
    (s.mclkWrite n v).reg (R.CLK_MCLK n) = v &&& 0xC000FFFF#32 ∧
    (∀ a, a ≠ R.CLK_MCLK n → a ≠ R.CLK_STATUS → (s.mclkWrite n v).reg a = s.reg a)) ∧
  (∀ (s : State) (ph : Fin 64), s.live = true → s.on 1 = true →
    (s.timeValid = true → s.tm.lastSync = none → ∃ t : State,
      exec (.syncInEdge ph) s = .next (t.forAll (List.range 4) fun u n => u.syncChannel (s.localTick + ph) n) ∧
      t.reg R.STM_SYNCCAPLO = (s.tm.count + BitVec.ofNat 64 ph).extractLsb' 0 32 ∧
      t.reg R.STM_SYNCCAPHI = (s.tm.count + BitVec.ofNat 64 ph).extractLsb' 32 32 ∧
      t.tm.lastSync = some s.tm.refclk) ∧
    (s.timeValid = false → Completes (.syncInEdge ph) s fun t =>
      t.f F.CLK_SYNC.SYNCIGN = wrapAdd 8 (s.f F.CLK_SYNC.SYNCIGN) 1 ∧ OnlyRegs [R.CLK_SYNC] s t)) ∧
  (∀ (s : State) (n : Fin 4) (r : Nat), (s.mclk n).windowEnd = some r → exec (.realignmentWindowEnd n) s = .next
    (((s.advanceCycles (r - s.tm.refclk)).setMclk n { s.mclk n with windowEnd := none }).sdRestart n))

/-- LINK_SLOT, LINK_ALIGN, LINK_ALIGN_LOSS, UPLINK_WORD_RECEIVE, ECHO_RECEIVE, NAK_RECEIVE, CAPSET_COMPLETE, LINK_LOST,
STOP_REQUEST and LNK_CMD_WRITE (03 R74 to R103, R109). -/
def Obligations.LinkPortStatesAndWords : Prop :=
  (∀ s : State, s.lnkOn = true → s.timeValid = true → s.lnk.slot < s.slots → ∃ t : State,
    exec .linkSlot s = .next (t.forAll (ctxIdx.filter (s.advanceTo (s.boundary s.tm.k + s.lnk.slot * 3200)).portOn)
      fun u i => u.sendSlot i s.lnk.slot) ∧ t.lnk.slot = s.lnk.slot + 1 ∧ t.lnk.ports = s.lnk.ports) ∧
  (∀ (s : State) (p : PortId), s.portOn p.idx = true →
    (s.lstate p.idx = 1 → exec (.linkAlign p .chip) s = .next ((s.setLstate p.idx 2).modPort p.idx fun q => { q with capReq := true })) ∧
    (2 ≤ s.lstate p.idx → exec (.linkAlignLoss p .chip) s = .next (s.setLstate p.idx 1))) ∧
  (∀ (s : State) (p : PortId) (v : Nat), v < 4 → s.lstate p.idx ≠ v → (s.setLstate p.idx v).lstate p.idx = v ∧
    bitAt ((s.setLstate p.idx v).reg (R.LNK_UPMAP (p.idx / 32))) (p.idx % 32) = decide (v = 3)) ∧
  (∀ (s : State) (p : PortId) (escrow : Bool), (s.ep p.idx).powered = true →
    let rx := if escrow then LinkEnd.escrow else .primary
    (Completes (.linkAlign p rx) s fun t => OnlyEp p.idx s t ∧ ((t.ep p.idx).port escrow).aligned = true) ∧
    (Completes (.linkAlignLoss p rx) s fun t => OnlyEp p.idx s t ∧ ((t.ep p.idx).port escrow).aligned = false)) ∧
  (∀ (s : State) (p : PortId) (ty : BitVec 3) (seq : BitVec 4) (data trx : Word), s.portOn p.idx = true →
    2 ≤ s.lstate p.idx →
    (∃ t : State, exec (.uplinkWordReceive p false ty seq data trx) s = .next t ∧
      t.f (F.LNK_ERRCNT.UPERR p.idx) = wrapAdd 16 (s.f (F.LNK_ERRCNT.UPERR p.idx)) 1 ∧
      (t.port p.idx).replays = (s.port p.idx).replays ++ [((s.port p.idx).rx.getD 15 + 1) % 16] ∧
      SameRegsBut [R.LNK_ERRCNT p.idx] s t ∧ SameMem s t) ∧
    ((s.port p.idx).tooLate seq.toNat = false → s.on 6 = true → ty = 0 → 1 ≤ fld data 31 29 → fld data 31 29 ≤ 5 →
      Completes (.uplinkWordReceive p true ty seq data trx) s fun t =>
        t.ctx p.idx (0x40 + 4 * fld data 31 29) = data ∧ (t.port p.idx).got.testBit (fld data 31 29) = true ∧
        ∀ a, t.reg a = s.reg a) ∧
    ((s.port p.idx).tooLate seq.toNat = true → Completes (.uplinkWordReceive p true ty seq data trx) s fun t =>
      (∀ a, t.reg a = s.reg a) ∧ SameMem s t) ∧
    ((s.port p.idx).tooLate seq.toNat = false → s.on 6 = true → Completes (.echoReceive p seq data trx) s fun t =>
      t.ctx p.idx 0x5C = data)) ∧
  (∀ (s : State) (p : PortId) (seq : BitVec 4) (named : BitVec 4), s.portOn p.idx = true → 2 ≤ s.lstate p.idx →
    (s.port p.idx).tooLate seq.toNat = false → Completes (.nakReceive p seq named) s fun t =>
      t.f (F.LNK_ERRCNT.DNNAK p.idx) = wrapAdd 16 (s.f (F.LNK_ERRCNT.DNNAK p.idx)) 1 ∧
      SameRegsBut [R.LNK_ERRCNT p.idx] s t ∧ SameMem s t) ∧
  (∀ (s : State) (p : PortId), s.portOn p.idx = true → (s.port p.idx).capMask = 15 → 2 ≤ s.lstate p.idx →
    (s.port p.idx).capFull = false → ∃ t : State, exec (.capsetComplete p) s = .next
      ((t.setLstate p.idx (if fld (t.reg (R.LNK_CAP p.idx 0)) 17 14 = 1 then 3 else 4)).serialRecord p.idx) ∧
      (t.port p.idx).capFull = true ∧ ∀ j, j ≠ p.idx → t.port j = s.port j) ∧
  (∀ (s : State) (p : PortId), s.portOn p.idx = true → s.f (F.LNK_PSTAT.EXHCONS p.idx) = 3 →
    (s.port p.idx).lostDone = false → ∃ t : State, exec (.linkLost p) s = .next (s.rose t [11]) ∧
      bitAt (t.reg (R.LNK_LOSTMAP (p.idx / 32))) (p.idx % 32) = true ∧ (t.port p.idx).lostDone = true ∧
      SameRegsBut [R.LNK_LOSTMAP (p.idx / 32)] s t) ∧
  (∀ s : State, s.live = true → s.on 7 = true → Completes .stopRequest s fun t =>
    (∀ i, (t.port i).stops = if i ∈ ctxIdx ∧ s.portOn i = true then 2 else (s.port i).stops) ∧
    (∀ a, t.reg a = s.reg a) ∧ SameMem s t) ∧
  (∀ (s : State) (p : PortId) (op : BitVec 4) (arg : BitVec 24), s.on 7 = true → (64 ≤ p.idx → s.on 8 = true) →
    Completes (.lnkCmdWrite p op arg) s fun t =>
      t.fb (F.LNK_CMD.PEND p.idx) = decide (op.toNat = 7 ∨ op.toNat = 8) ∧
      t.f (F.LNK_CMD.OP p.idx) = op.toNat ∧ t.f (F.LNK_CMD.ARG p.idx) = arg.toNat ∧
      SameRegsBut [R.LNK_CMD p.idx] s t ∧ SameMem s t)

/-- ENDPOINT_POWER_UP, ENDPOINT_BEACON, ENDPOINT_DELAY_WORD, ENDPOINT_BAD_WORD, EDGE_COMMAND, BUNDLE_DEADLINE and
EDGE_DUE (03 R78 to R83, R102 to R112). -/
def Obligations.EndpointWordsTimeAndBundles : Prop :=
  (∀ (s : State) (p : PortId) (c0 c1 c2 c3 : Word), Completes (.endpointPowerUp p c0 c1 c2 c3) s fun t =>
    OnlyEp p.idx s t ∧ (t.ep p.idx).powered = true ∧ (t.ep p.idx).estate = 0 ∧ (t.ep p.idx).commission = true ∧
    (t.ep p.idx).active = false ∧ (t.ep p.idx).prev = none ∧ (t.ep p.idx).capWord 0 = c0 ∧
    (t.ep p.idx).capWord 1 = c1 ∧ (t.ep p.idx).capWord 2 = c2 ∧ (t.ep p.idx).capWord 3 = c3) ∧
  (∀ (s : State) (p : PortId) (escrow : Bool) (seq : BitVec 4) (beacon : Word), s.Hears p.idx escrow →
    escrow = (s.ep p.idx).active → Completes (.endpointBeacon p escrow seq beacon) s fun t =>
      OnlyEp p.idx s t ∧ (t.ep p.idx).tk = beacon ∧ ((t.ep p.idx).port escrow).rx = seq.toNat ∧
      ((s.ep p.idx).edges = [] → (s.ep p.idx).cadences = [] → (s.ep p.idx).bypassAt = none →
        (t.ep p.idx).off = beacon + wN ((s.ep p.idx).d / 16) - wN s.now)) ∧
  (∀ (s : State) (p : PortId) (escrow : Bool) (seq : BitVec 4) (delay : BitVec 24), s.Hears p.idx escrow →
    escrow = (s.ep p.idx).active → Completes (.endpointDelayWord p escrow seq delay) s fun t =>
      OnlyEp p.idx s t ∧ (t.ep p.idx).d = delay.toNat ∧ (t.ep p.idx).dGot = true) ∧
  (∀ (s : State) (p : PortId) (escrow : Bool), s.Hears p.idx escrow →
    Completes (.endpointBadWord p escrow) s fun t =>
      OnlyEp p.idx s t ∧ ((t.ep p.idx).port escrow).rx = (((s.ep p.idx).port escrow).rx + 1) % 16 ∧
      ((t.ep p.idx).port escrow).bad = ((s.ep p.idx).port escrow).bad + 1) ∧
  (∀ (s : State) (p : PortId) (escrow : Bool) (seq : BitVec 4) (edge cont : Word), s.Hears p.idx escrow →
    s.epSource (s.heard p.idx escrow seq.toNat (if bitAt edge 19 then 1 else 2)) = escrow →
    (s.ep p.idx).decided = false → Completes (.edgeCommand p escrow seq edge cont) s fun t =>
      OnlyEp p.idx s t ∧ (t.ep p.idx).sawEdge = true ∧
      (bitAt edge 19 = true → (t.ep p.idx).hold = true ∧ (t.ep p.idx).bundle = (s.ep p.idx).bundle) ∧
      (bitAt edge 19 = false → (t.ep p.idx).bundle = (s.ep p.idx).bundle ++
        [{ bidx := fld edge 26 22, last := bitAt edge 21, idx := fld edge 31 27, gates := fld edge 15 0,
           cap := bitAt edge 20, due := cont }])) ∧
  (∀ (s : State) (p : PortId), (s.ep p.idx).powered = true → (s.ep p.idx).decided = false →
    Completes (.bundleDeadline p) s fun t =>
      let u := s.advanceTo (s.epAt (s.ep p.idx) ((s.ep p.idx).tk + wN (s.epP (s.ep p.idx) * 64) - wN (s.ep p.idx).lat))
      OnlyEp p.idx u t ∧ t.ep p.idx = u.decideBundle ((s.ep p.idx).settle u.now) ∧ (t.ep p.idx).decided = true ∧
      (t.ep p.idx).bundle = []) ∧
  (∀ (s : State) (p : PortId) (x : EpEdge), firstDue (s.ep p.idx).tk (s.ep p.idx).edges = some x →
    Completes (.edgeDue p) s fun t =>
      let u := s.advanceTo (s.epAt (s.ep p.idx) x.due)
      OnlyEp p.idx u t ∧ t.ep p.idx =
        ({ s.ep p.idx with edges := (s.ep p.idx).edges.erase x }.settle u.now).execEdge u.now x)

/-- CADENCE_COMMAND, CADENCE_START, CADENCE_EDGE, CMD_STOP, CMD_BYPASS, BYPASS_DUE, CMD_CLEAR, CMD_TAKE, CMD_RETURN,
CMD_REPLAY, CMD_CAPREQ, CMD_SVC and CMD_UNLISTED_OP (03 R84 to R87, R101, R108, R112 to R117). -/
def Obligations.EndpointCommandsAndCadences : Prop :=
  (∀ (s : State) (p : PortId) (escrow : Bool) (seq : BitVec 4), s.Hears p.idx escrow →
    Completes (.cmdStop p escrow seq) s fun t =>
      OnlyEp p.idx s t ∧ (t.ep p.idx).estate = 1 ∧ (t.ep p.idx).lastIdx = 0 ∧ (t.ep p.idx).edges = [] ∧
      (t.ep p.idx).cadences = [] ∧ (t.ep p.idx).bypassAt = none) ∧
  (∀ (s : State) (p : PortId) (escrow : Bool) (seq : BitVec 4) (idx : Fin 32) (due : Word), s.Hears p.idx escrow →
    let e := s.heard p.idx escrow seq.toNat 2
    s.epSource e = escrow → e.runs = true → (e.entry idx).2.1 = 2 → (e.entry idx).1 = true →
    Completes (.cmdBypass p escrow seq idx due) s fun t =>
      OnlyEp p.idx s t ∧ (t.ep p.idx).bypassAt = some (idx.val, due) ∧ (t.ep p.idx).estate = e.estate) ∧
  (∀ (s : State) (p : PortId) (idx : Nat) (due : Word), (s.ep p.idx).bypassAt = some (idx, due) →
    Completes (.bypassDue p) s fun t =>
      OnlyEp p.idx (s.advanceTo (s.epAt (s.ep p.idx) due)) t ∧ (t.ep p.idx).estate = 3) ∧
  (∀ (s : State) (p : PortId) (escrow : Bool) (seq : BitVec 4) (clrStop clrCell : Bool) (mask : BitVec 16),
    s.Hears p.idx escrow → s.epSource (s.heard p.idx escrow seq.toNat 1) = escrow →
    Completes (.cmdClear p escrow seq clrStop clrCell mask) s fun t =>
      let e := s.heard p.idx escrow seq.toNat 1
      OnlyEp p.idx s t ∧
      (t.ep p.idx).estate = (if clrStop = true ∧ (e.estate = 1 ∨ e.estate = 4) then 2 else e.estate) ∧
      (∀ n, e.causes.testBit n = true → (t.ep p.idx).fault.testBit n = true)) ∧
  (∀ (s : State) (p : PortId) (escrow : Bool) (seq : BitVec 4) (tb : Word), s.Hears p.idx escrow →
    let e := s.heard p.idx escrow seq.toNat 2
    (s.takeOk e tb = true → e.take = none → escrow ≠ e.active → Completes (.cmdTake p escrow seq tb) s fun t =>
      OnlyEp p.idx s t ∧ (t.ep p.idx).take = some (escrow, s.epAt e tb)) ∧
    (s.takeOk e tb = false → Completes (.cmdTake p escrow seq tb) s fun t =>
      t.ep p.idx = e.event escrow 6 (4 * 2 ^ 24))) ∧
  (∀ (s : State) (p : PortId) (escrow : Bool) (seq : BitVec 4), s.Hears p.idx escrow →
    let e := s.heard p.idx escrow seq.toNat 1
    (s.epSource e = escrow → Completes (.cmdReturn p escrow seq) s fun t =>
      OnlyEp p.idx s t ∧ (t.ep p.idx).estate = if e.estate = 3 then 2 else e.estate) ∧
    (e.estate ≠ 0 → Completes (.cmdCapreq p escrow seq) s fun t =>
      OnlyEp p.idx s t ∧ t.ep p.idx = e.sendCaps escrow) ∧
    (∀ com, s.epSource e = escrow → Completes (.cmdSvc p escrow seq com) s fun t =>
      OnlyEp p.idx s t ∧ (t.ep p.idx).commission = com) ∧
    (∀ op : BitVec 4, op.toNat = 0 ∨ 9 ≤ op.toNat → Completes (.cmdUnlistedOp p escrow seq op) s fun t =>
      OnlyEp p.idx s t ∧ t.ep p.idx = e.event escrow 6 (op.toNat * 2 ^ 24)) ∧
    (∀ (named : BitVec 4) (w : EpWord), (e.kept.find? fun w => w.escrow == escrow && w.seq == named.toNat) = some w →
      w.ty ≠ 4 → (((wN s.now + e.off - e.tk).toNat / 3200 + 1 + 1) * 3200) * 16 + e.d ≤ s.epP e * 64 * 16 →
      Completes (.cmdReplay p escrow seq named) s fun t => OnlyEp p.idx s t ∧ (t.ep p.idx).out = some w)) ∧
  (∀ (s : State) (p : PortId) (escrow : Bool) (seq : BitVec 4), s.Hears p.idx escrow →
    s.epSource (s.heard p.idx escrow seq.toNat 1) ≠ escrow →
    ∀ com, Completes (.cmdSvc p escrow seq com) s fun t =>
      t.ep p.idx = (s.heard p.idx escrow seq.toNat 1).event escrow 6 (8 * 2 ^ 24)) ∧
  (∀ (s : State) (p : PortId) (escrow : Bool) (seq : BitVec 4) (w c1 c2 c3 : Word), s.Hears p.idx escrow →
    let e := s.heard p.idx escrow seq.toNat 4
    s.epSource e = escrow → e.runs = true → 1 ≤ fld w 31 29 → fld w 31 29 ≤ 4 →
    groupMask e.cls (fld w 31 29) ≠ 0 → e.stageOk (fld w 9 5) (fld w 31 29) = true → bitAt w 28 = true →
    ¬ min (sg (c3 - e.tk)) ((s.epP e * 64 : Nat) : Int) - (e.lat : Int) < sg (wN s.now + e.off - e.tk) →
    Completes (.cadenceCommand p escrow seq w c1 c2 c3) s fun t =>
      OnlyEp p.idx s t ∧ (t.ep p.idx).nextCads = e.nextCads ++
        [{ group := fld w 31 29, halt := true, a := fld w 9 5, b := fld w 4 0, half := fld c1 23 0,
           phase := fld c2 23 0, start := c3 }]) ∧
  (∀ (s : State) (p : PortId) (g : Fin 5) (c : EpCadence),
    ((s.ep p.idx).nextCads.find? fun c => c.group == g.val) = some c →
    Completes (.cadenceStart p g) s fun t =>
      OnlyEp p.idx (s.advanceTo (s.epAt (s.ep p.idx) c.start)) t ∧
      (c.halt = false → (s.ep p.idx).runs = true → c ∈ (t.ep p.idx).cadences)) ∧
  (∀ (s : State) (p : PortId) (g : Fin 5) (c : EpCadence),
    ((s.ep p.idx).cadences.find? fun c => c.group == g.val) = some c →
    Completes (.cadenceEdge p g) s fun t =>
      OnlyEp p.idx (s.advanceTo (s.epAt (s.ep p.idx) (c.start + wN (c.phase + c.n * c.half)))) t ∧
      { c with n := c.n + 1 } ∈ (t.ep p.idx).cadences)

/-- CAL_WORD, CFG_WRITE, CFG_COMMIT, ENDPOINT_BOUNDARY, REPORT_SAMPLE and FAULT_LATCH (03 R88 to R91, R97, R108 to
R111). -/
def Obligations.EndpointCalibrationConfigurationAndReports : Prop :=
  (∀ (s : State) (p : PortId) (escrow : Bool) (seq : BitVec 4) (falling : Bool) (g : Fin 16) (trim : BitVec 12),
    s.Hears p.idx escrow → s.epSource (s.heard p.idx escrow seq.toNat 1) = escrow →
    Completes (.calWord p escrow seq falling g trim) s fun t =>
      OnlyEp p.idx s t ∧
      tblGet (fun _ => (0 : Nat)) (if falling then (t.ep p.idx).trimF else (t.ep p.idx).trimR) g = trim.toNat) ∧
  (∀ (s : State) (p : PortId) (escrow : Bool) (seq : BitVec 4) (addr : BitVec 8) (value : BitVec 24),
    s.Hears p.idx escrow →
    let e := s.heard p.idx escrow seq.toNat 1
    s.epSource e = escrow →
    (e.runs = false → addr.toNat ≤ 0x2C → Completes (.cfgWrite p escrow seq addr value) s fun t =>
      OnlyEp p.idx s t ∧ tblGet (fun _ => (0 : Word)) (t.ep p.idx).shadow addr.toNat = wN value.toNat ∧
      (t.ep p.idx).cfg = (s.ep p.idx).cfg) ∧
    (e.runs = true → Completes (.cfgWrite p escrow seq addr value) s fun t =>
      t.ep p.idx = e.event escrow 6 (7 * 2 ^ 24))) ∧
  (∀ (s : State) (p : PortId) (escrow : Bool) (seq : BitVec 4) (sum : BitVec 16), s.Hears p.idx escrow →
    let e := s.heard p.idx escrow seq.toNat 1
    s.epSource e = escrow → e.runs = false → Completes (.cfgCommit p escrow seq sum) s fun t =>
      OnlyEp p.idx s t ∧ (e.shadowSum = sum.toNat → (t.ep p.idx).commit = some e.shadow) ∧
      (e.shadowSum ≠ sum.toNat → (t.ep p.idx).commit = e.commit)) ∧
  (∀ (s : State) (p : PortId), (s.ep p.idx).powered = true → Completes (.endpointBoundary p) s fun t =>
    let u := s.advanceTo (s.epAt (s.ep p.idx) ((s.ep p.idx).tk + wN (s.epP (s.ep p.idx) * 64)))
    OnlyEp p.idx u t ∧ t.ep p.idx = u.epBoundary ((s.ep p.idx).settle u.now)) ∧
  (∀ (s : State) (p : PortId) (v : BitVec 15) (c : BitVec 14) (k : BitVec 27), (s.ep p.idx).powered = true →
    Completes (.reportSample p v c k) s fun t =>
      (t.ep p.idx).illegal = false ∧ (t.ep p.idx).floor = false ∧ (t.ep p.idx).timeWord = 0 ∧
      (∀ a, t.reg a = s.reg a) ∧ SameMem s t) ∧
  (∀ (s : State) (p : PortId) (m k : BitVec 29), (s.ep p.idx).powered = true →
    Completes (.faultLatch p m k) s fun t =>
      OnlyEp p.idx s t ∧ (t.ep p.idx).fault = (s.ep p.idx).fault ||| m.toNat ∧ (t.ep p.idx).causes = k.toNat)

/-- ADD to MAX, CLZ, MUL, MULH, MULHU, DIV, DIVU, REM and REMU (06 R201, R208, R210). -/
def Obligations.YalirtiArithmetic : Prop :=
  ∀ (s : State) (p : ProcId) (d a b : Gpr), s.Executes p true true →
    let x := s.gpr p a
    let y := s.gpr p b
    let n := y.toNat % 32
    let clamp := fun v : Int => if 2147483647 < v then 2147483647 else if v < -2147483648 then -2147483648 else v
    let gives := fun (c : Instr) (v m : Word) => Completes c s (WritesGpr p d v m s)
    gives (.add p d a b) (x + y) 0 ∧ gives (.sub p d a b) (x - y) 0 ∧ gives (.and p d a b) (x &&& y) 0 ∧
    gives (.or p d a b) (x ||| y) 0 ∧ gives (.xor p d a b) (x ^^^ y) 0 ∧ gives (.sll p d a b) (x <<< n) 0 ∧
    gives (.srl p d a b) (x >>> n) 0 ∧ gives (.sra p d a b) (x.sshiftRight n) 0 ∧
    gives (.slt p d a b) (if x.toInt < y.toInt then 1 else 0) 0 ∧
    gives (.sltu p d a b) (if x.toNat < y.toNat then 1 else 0) 0 ∧
    gives (.adds p d a b) (BitVec.ofInt 32 (clamp (x.toInt + y.toInt)))
      (if clamp (x.toInt + y.toInt) = x.toInt + y.toInt then 0 else 0x400) ∧
    gives (.subs p d a b) (BitVec.ofInt 32 (clamp (x.toInt - y.toInt)))
      (if clamp (x.toInt - y.toInt) = x.toInt - y.toInt then 0 else 0x400) ∧
    gives (.min p d a b) (if x.toInt < y.toInt then x else y) 0 ∧
    gives (.max p d a b) (if x.toInt < y.toInt then y else x) 0 ∧
    (∃ n : Nat, gives (.clz p d a) (BitVec.ofNat 32 n) 0 ∧ n ≤ 32 ∧ (∀ i, i < n → x.getLsbD (31 - i) = false) ∧
      (n < 32 → x.getLsbD (31 - n) = true)) ∧
    gives (.mul p d a b) (x * y) 0 ∧
    gives (.mulh p d a b) (BitVec.ofInt 32 (x.toInt * y.toInt / 4294967296)) 0 ∧
    gives (.mulhu p d a b) (BitVec.ofNat 32 (x.toNat * y.toNat / 4294967296)) 0 ∧
    (y ≠ 0 → gives (.divu p d a b) (BitVec.ofNat 32 (x.toNat / y.toNat)) 0 ∧
      gives (.remu p d a b) (BitVec.ofNat 32 (x.toNat % y.toNat)) 0) ∧
    (y ≠ 0 → ¬ (x = 0x80000000#32 ∧ y = 0xFFFFFFFF#32) →
      gives (.div p d a b) (BitVec.ofInt 32 (x.toInt.tdiv y.toInt)) 0 ∧
      gives (.rem p d a b) (BitVec.ofInt 32 (x.toInt.tmod y.toInt)) 0) ∧
    (y = 0 → gives (.div p d a b) (if 0 ≤ x.toInt then 0x7FFFFFFF#32 else 0x80000000#32) 0x100 ∧
      gives (.divu p d a b) 0xFFFFFFFF#32 0x100 ∧ gives (.rem p d a b) x 0x100 ∧ gives (.remu p d a b) x 0x100) ∧
    (x = 0x80000000#32 → y = 0xFFFFFFFF#32 → gives (.div p d a b) 0x7FFFFFFF#32 0x200 ∧ gives (.rem p d a b) 0 0x200)

/-- ADDI, ANDI, ORI, XORI, SLTI, LUI, SLLI, SRLI, SRAI (both profiles); MAC, MSU, MLA, RDA, CLA, RDW and WRW (core
profile) (06 R202, R208, R209). -/
def Obligations.YalirtiImmediatesAndAccumulators : Prop :=
  (∀ (s : State) (p : ProcId) (d a : Gpr) (imm : BitVec 16) (sh : Fin 32), s.Executes p true true →
    let x := s.gpr p a
    let gives := fun (c : Instr) (v : Word) => Completes c s (WritesGpr p d v 0 s)
    gives (.addi p d a imm) (x + BitVec.ofInt 32 imm.toInt) ∧ gives (.andi p d a imm) (x &&& BitVec.ofNat 32 imm.toNat) ∧
    gives (.ori p d a imm) (x ||| BitVec.ofNat 32 imm.toNat) ∧ gives (.xori p d a imm) (x ^^^ BitVec.ofNat 32 imm.toNat) ∧
    gives (.slti p d a imm) (if x.toInt < imm.toInt then 1 else 0) ∧
    gives (.lui p d imm) (BitVec.ofNat 32 (imm.toNat * 65536)) ∧ gives (.slli p d a sh) (x <<< sh.val) ∧
    gives (.srli p d a sh) (x >>> sh.val) ∧ gives (.srai p d a sh) (x.sshiftRight sh.val)) ∧
  (∀ (s : State) (p : ProcId) (n : Fin 4) (sh : Fin 32) (a b : Gpr), s.Executes p true false →
    let x := (s.gpr p a).toInt * (s.gpr p b).toInt
    let q := if sh.val = 0 then x else (x + (2 ^ (sh.val - 1) : Int)) / (2 ^ sh.val : Int)
    let A := (accOf (s.proc p) n).toInt
    let top : Int := 2 ^ 71
    let clamp := fun v : Int => if top - 1 < v then top - 1 else if v < -top then -top else v
    let gives := fun (c : Instr) (v : Int) => Completes c s fun t =>
      OnlyProc p s t ∧ accOf (t.proc p) n = BitVec.ofInt 72 (clamp v) ∧
      (∀ m, m ≠ n.val → accOf (t.proc p) m = accOf (s.proc p) m) ∧ (∀ r, t.gpr p r = s.gpr p r) ∧
      (t.proc p).status = (s.proc p).status ||| (if clamp v = v then 0#32 else 0x400#32)
    gives (.mac p n sh a b) (A + q) ∧ gives (.msu p n sh a b) (A - q) ∧ gives (.mla p n sh a b) q ∧
    gives (.cla p n) 0) ∧
  (∀ (s : State) (p : ProcId) (d a : Gpr) (n : Fin 4) (sh : Fin 32), s.Executes p true false →
    let A := accOf (s.proc p) n
    let q := if sh.val = 0 then A.toInt else (A.toInt + (2 ^ (sh.val - 1) : Int)) / (2 ^ sh.val : Int)
    let clamp := fun v : Int => if 2147483647 < v then 2147483647 else if v < -2147483648 then -2147483648 else v
    Completes (.rda p d n sh) s (WritesGpr p d (BitVec.ofInt 32 (clamp q)) (if clamp q = q then 0 else 0x400) s) ∧
    Completes (.rdw p d n 0) s (WritesGpr p d (A.extractLsb' 0 32) 0 s) ∧
    Completes (.rdw p d n 1) s (WritesGpr p d (A.extractLsb' 32 32) 0 s) ∧
    Completes (.rdw p d n 2) s (WritesGpr p d ((A.extractLsb' 64 8).signExtend 32) 0 s) ∧
    (∀ w : Fin 4, w.val < 3 → Completes (.wrw p n w a) s fun t =>
      OnlyProc p s t ∧ (∀ i, i < 72 → (accOf (t.proc p) n).getLsbD i =
        if 32 * w.val ≤ i ∧ i < 32 * (w.val + 1) then (s.gpr p a).getLsbD (i - 32 * w.val) else A.getLsbD i) ∧
      (∀ m, m ≠ n.val → accOf (t.proc p) m = accOf (s.proc p) m) ∧ ∀ r, t.gpr p r = s.gpr p r) ∧
    exec (.rdw p d n 3) s = .next (s.exception p 1 (s.proc p).pc) ∧
    exec (.wrw p n 3 a) s = .next (s.exception p 1 (s.proc p).pc))

/-- LW, LH, LHU, LB, LBU, SW, SH, SB, ATW and TIMED_WRITE_PERFORM (06 R197, R208, R215, R220, R221). -/
def Obligations.YalirtiLoadsStoresAndTimedWrites : Prop :=
  (∀ (s : State) (p : ProcId) (d a : Gpr) (imm : BitVec 16), s.Executes p true true →
    let ad := physAddr p (s.effAddr p a imm)
    let plainRead := s.isBad ad = false ∧ (regionOf ad = .flash → s.tru.fl = none) ∧
      (if p.val = 5 then engRegion ad ≠ none else
        s.memOn (regionOf ad) = true ∧ (regionOf ad = .sram ∨ regionOf ad = .rom ∨ regionOf ad = .context ∨
          regionOf ad = .ceMem ∨ regionOf ad = .angle ∨ regionOf ad = .buffers ∨ regionOf ad = .ledger ∨
          regionOf ad = .flash ∨ (∃ n : Fin 4, regionOf ad = .tcm n) ∨ regionOf ad = .pairTcm ∧ p.val = 4))
    let plainWrite := if p.val = 5 then engRegion ad = some 0 ∨ engRegion ad = some 2 else
      s.memOn (regionOf ad) = true ∧ (regionOf ad = .sram ∨ regionOf ad = .buffers ∨ (∃ n : Fin 4, regionOf ad = .tcm n) ∨
        regionOf ad = .pairTcm ∧ p.val = 4)
    let gives := fun (c : Instr) (v : Word) => Completes c s (WritesGpr p d v 0 s)
    let v := s.gpr p d
    (plainRead → ad % 4 = 0 →
      gives (.lw p d a imm) (s.ldb (ad + 3) ++ s.ldb (ad + 2) ++ s.ldb (ad + 1) ++ s.ldb ad)) ∧
    (plainRead → ad % 2 = 0 → gives (.lh p d a imm) ((s.ldb (ad + 1) ++ s.ldb ad).signExtend 32) ∧
      gives (.lhu p d a imm) ((s.ldb (ad + 1) ++ s.ldb ad).setWidth 32)) ∧
    (plainRead → gives (.lb p d a imm) ((s.ldb ad).signExtend 32) ∧ gives (.lbu p d a imm) ((s.ldb ad).setWidth 32)) ∧
    (plainWrite → ad % 4 = 0 → Completes (.sw p d a imm) s (StoresBytes p ad
      [v.extractLsb' 0 8, v.extractLsb' 8 8, v.extractLsb' 16 8, v.extractLsb' 24 8] s)) ∧
    (plainWrite → ad % 2 = 0 → Completes (.sh p d a imm) s
      (StoresBytes p ad [v.extractLsb' 0 8, v.extractLsb' 8 8] s)) ∧
    (plainWrite → Completes (.sb p d a imm) s (StoresBytes p ad [v.extractLsb' 0 8] s)) ∧
    (ad % 4 ≠ 0 → regionOf ad ≠ .periph → (regionOf ad = .flash → s.tru.fl = none) →
      exec (.lw p d a imm) s = .next (s.exception p 2 (s.proc p).pc) ∧
      exec (.sw p d a imm) s = .next (s.exception p 2 (s.proc p).pc)) ∧
    (p.val ≠ 5 → regionOf ad = .hole → ad % 4 = 0 →
      exec (.lw p d a imm) s = .next ((s.setGpr p d 0).retireWith p 3) ∧
      exec (.sw p d a imm) s = .next (s.retireWith p 3))) ∧
  (∀ (s : State) (p : ProcId) (d a b : Gpr), s.Executes p true false →
    let ad := s.gpr p a
    (ad.toNat % 4 = 0 → regionOf ad.toNat = .periph → (s.proc p).timed.length < 4 → Completes (.atw p d a b) s fun t =>
      OnlyProc p s t ∧ (t.proc p).timed = (s.proc p).timed ++ [⟨ad, s.gpr p b, s.gpr p d⟩] ∧
      fld (t.proc p).status 12 11 = (if timeDiff 32 (s.gpr p d).toNat s.now ≤ 0 then 2 else 0) ∧
      ∀ r, t.gpr p r = s.gpr p r) ∧
    (ad.toNat % 4 = 0 → regionOf ad.toNat = .periph → 4 ≤ (s.proc p).timed.length → Completes (.atw p d a b) s fun t =>
      OnlyProc p s t ∧ (t.proc p).timed = (s.proc p).timed ∧ fld (t.proc p).status 12 11 = 1) ∧
    (regionOf ad.toNat ≠ .periph → exec (.atw p d a b) s = .next (s.retireWith p 3))) ∧
  (∀ (s : State) (p : ProcId) (w : TimedWrite), s.live = true → s.on (procDom p) = true → (s.proc p).timed = [w] →
    ∃ t : State, t.tm.count = (s.advanceTo (s.now + (max 0 (timeDiff 32 w.due.toNat s.now)).toNat)).tm.count ∧
      (t.proc p).timed = [] ∧ (∀ a, t.reg a = s.reg a) ∧ SameMem s t ∧
      exec (.timedWritePerform p) s = .next (if t.refusesWrite w.addr.toNat w.value then
        t.modProc p fun q => flagTwErr q true else t.regWrite (procReq p) w.addr.toNat w.value))

/-- BEQ, BNE, BLT, BGE, BLTU, BGEU, J, CALL, RET, JT, LOOP, LOOPI, TWAITP, TWAIT and TWAIT_COMPLETE (06 R207, R208, R211
to R214). -/
def Obligations.YalirtiControlTransfer : Prop :=
  (∀ (s : State) (p : ProcId) (a b : Gpr) (off : BitVec 16) (joff : BitVec 26) (imm : BitVec 16), s.Executes p true true →
    let q := s.proc p
    let x := s.gpr p a
    let y := s.gpr p b
    let goes := fun (pc : Word) (t : State) =>
      Transfers p pc q.calls (loopExit q.calls.length q.istack.length pc q.loops) 0 s t
    let branches := fun (c : Instr) (taken : Prop) =>
      (taken → Completes c s (goes (q.pc + 4 + BitVec.ofInt 32 (off.toInt * 4)))) ∧
      (¬ taken → Completes c s (Transfers p (loopNext q.loops q.pc).1 q.calls (loopNext q.loops q.pc).2 0 s))
    branches (.beq p a b off) (x = y) ∧ branches (.bne p a b off) (x ≠ y) ∧
    branches (.blt p a b off) (x.toInt < y.toInt) ∧ branches (.bge p a b off) (y.toInt ≤ x.toInt) ∧
    branches (.bltu p a b off) (x.toNat < y.toNat) ∧ branches (.bgeu p a b off) (y.toNat ≤ x.toNat) ∧
    Completes (.j p joff) s (goes (q.pc + 4 + BitVec.ofInt 32 (joff.toInt * 4))) ∧
    Completes (.jt p a imm) s (goes (q.pc + 4 + BitVec.ofNat 32 (4 * min x.toNat imm.toNat))) ∧
    (q.calls.length < 16 → Completes (.call p joff) s
      (Transfers p (q.pc + 4 + BitVec.ofInt 32 (joff.toInt * 4)) ((q.pc + 4) :: q.calls) q.loops 0 s)) ∧
    (16 ≤ q.calls.length → exec (.call p joff) s = .next (s.exception p 6 q.pc)) ∧
    (∀ c l, q.calls = c :: l → q.slot = none → Completes (.ret p) s (Transfers p c l q.loops 0 s)) ∧
    (∀ c l, q.calls = c :: l → (q.slot = none ∨ l ≠ [] ∨ q.istack ≠ []) → Completes (.ret p) s fun t =>
      (t.proc p).pc = c ∧ (t.proc p).calls = l) ∧
    (q.calls = [] → exec (.ret p) s = .next (s.exception p 6 q.pc))) ∧
  (∀ (s : State) (p : ProcId) (body : Fin 32) (a : Gpr) (imm : BitVec 16), s.Executes p true true → 1 ≤ body.val →
    let q := s.proc p
    let n := (s.gpr p a).toNat
    let begins := fun (c : Instr) (count : Nat) (mask : Word) =>
      (count = 0 → Completes c s (Transfers p (q.pc + 4 + BitVec.ofNat 32 (body.val * 4)) q.calls q.loops mask s)) ∧
      (count ≠ 0 → q.loops.length < 4 → Completes c s (Transfers p (q.pc + 4) q.calls
        (⟨q.pc + 4, q.pc + BitVec.ofNat 32 (body.val * 4), count, q.calls.length, q.istack.length⟩ :: q.loops) mask s)) ∧
      (count ≠ 0 → 4 ≤ q.loops.length → exec c s = .next (s.exception p 7 q.pc))
    begins (.loopi p body imm) imm.toNat 0 ∧
    begins (.loop p body a imm) (min n imm.toNat) (if imm.toNat < n then 0x2000#32 else 0)) ∧
  (∀ (s : State) (p : ProcId) (a : Gpr) (off : BitVec 18), s.Executes p true false →
    let q := s.proc p
    let target := s.boundary s.tm.k + off.toNat * 64
    let w := s.gpr p a
    (target ≤ s.now → Completes (.twaitp p off) s
      (Transfers p (loopNext q.loops q.pc).1 q.calls (loopNext q.loops q.pc).2 0 s)) ∧
    (s.now < target → Completes (.twaitp p off) s fun t =>
      OnlyProc p s t ∧ t.proc p = { q with run := .waitPeriod target }) ∧
    (timeDiff 32 w.toNat s.now ≤ 0 → Completes (.twait p a) s
      (Transfers p (loopNext q.loops q.pc).1 q.calls (loopNext q.loops q.pc).2 0 s)) ∧
    (0 < timeDiff 32 w.toNat s.now → Completes (.twait p a) s fun t =>
      OnlyProc p s t ∧ t.proc p = { q with run := .waitTime w })) ∧
  (∀ (s : State) (p : ProcId) (t : Nat), s.live = true → s.on (procDom p) = true → (s.proc p).dbgHalt = false →
    (s.proc p).run = .waitPeriod t → t < 2 ^ 64 → Completes (.twaitComplete p) s fun u =>
      u.now = max s.now t ∧ u.proc p = retireProc (s.proc p) ∧ (∀ a, u.reg a = s.reg a) ∧ SameMem s u)

/-- MFS, MTS, DI, EI, IRET, BRK, WFI, SYS, QPUSH, QPOP and QCNT (06 R203, R204, R208, R216, R221, R225 to R227). -/
def Obligations.YalirtiSystemInstructions : Prop :=
  (∀ (s : State) (p : ProcId) (d : Gpr), s.Executes p true true →
    Completes (.mfs p d 0) s (WritesGpr p d (if p.val = 5 then statusWord (s.proc p) &&& 0x2700#32 else statusWord (s.proc p)) 0 s) ∧
    Completes (.mfs p d 3) s (fun t => t.gpr p d = (if d.val = 0 then 0 else s.tm.count.extractLsb' 0 32) ∧
      timeHiOf (t.proc p) = s.tm.count.extractLsb' 32 32 ∧ OnlyProc p s t) ∧
    Completes (.mfs p d 4) s (WritesGpr p d (timeHiOf (s.proc p)) 0 s) ∧
    Completes (.mfs p d 5) s (WritesGpr p d (BitVec.ofNat 32 s.tm.k) 0 s) ∧
    Completes (.mfs p d 6) s (WritesGpr p d (BitVec.ofNat 32 (s.corePos * 256 + (if p.val = 5 then 0x10 else 0) + p.val)) 0 s) ∧
    (p.val ≠ 5 → Completes (.mfs p d 1) s (WritesGpr p d (epcOf (s.proc p)) 0 s) ∧
      Completes (.mfs p d 2) s (WritesGpr p d (estatOf (s.proc p)) 0 s)) ∧
    (∀ n : Fin 32, 7 ≤ n.val → exec (.mfs p d n) s = .next (s.exception p 1 (s.proc p).pc))) ∧
  (∀ (s : State) (p : ProcId) (a : Gpr), s.Executes p true false →
    (∃ t, exec (.mts p 0 a) s = .next t ∧ OnlyProc p s t ∧
      (t.proc p).status = (s.proc p).status &&& ~~~ 0x6700#32 ||| (s.gpr p a &&& 0x6700#32) ∧ ∀ r, t.gpr p r = s.gpr p r) ∧
    (∃ t, exec (.mts p 1 a) s = .next t ∧ OnlyProc p s t ∧ epcOf (t.proc p) = s.gpr p a &&& 0xFFFFFFFC#32) ∧
    (∃ t, exec (.mts p 2 a) s = .next t ∧ OnlyProc p s t ∧ estatOf (t.proc p) = s.gpr p a &&& 0xFF8FFFFF#32) ∧
    (∀ n : Fin 32, 3 ≤ n.val → exec (.mts p n a) s = .next (s.exception p 1 (s.proc p).pc))) ∧
  (∀ (s : State) (p : ProcId), s.Executes p true false →
    Completes (.di p) s (fun t => OnlyProc p s t ∧ ieOf (t.proc p) = false ∧ levelOf (t.proc p) = levelOf (s.proc p) ∧
      bankOf (t.proc p) = bankOf (s.proc p)) ∧
    Completes (.ei p) s (fun t => OnlyProc p s t ∧ ieOf (t.proc p) = true ∧ (t.proc p).diAt = none) ∧
    (ieOf (s.proc p) = true → Completes (.wfi p) s fun t => OnlyProc p s t ∧
      t.proc p = { retireProc (s.proc p) with run := .sleeping }) ∧
    (ieOf (s.proc p) = false → exec (.wfi p) s = .next (s.exception p 1 (s.proc p).pc)) ∧
    (∀ (e : StackEntry) (l : List StackEntry) (x : Option Nat) (sv : List (Option Nat)),
      (s.proc p).istack = e :: l → (s.proc p).serv = x :: sv →
      (s.setProc p { s.proc p with serv := none :: sv }).bestFor p (fld e.estat 3 0) = none →
      Completes (.iret p) s fun t => OnlyProc p s t ∧ (t.proc p).pc = e.epc ∧ (t.proc p).istack = l ∧
        (t.proc p).serv = sv ∧ levelOf (t.proc p) = fld e.estat 3 0 ∧ ieOf (t.proc p) = bitAt e.estat 4 ∧
        bankOf (t.proc p) = bitAt e.estat 5) ∧
    ((s.proc p).istack = [] → exec (.iret p) s = .next (s.exception p 1 (s.proc p).pc)) ∧
    (s.commission = true → s.fb F.SYSC_MODE.DBGATT = true → Completes (.brk p) s fun t =>
      (t.proc p).dbgHalt = true ∧ (t.proc p).pc = (retireProc (s.proc p)).pc ∧ t.fb F.SYSC_MODE.HALTED = true) ∧
    ((s.commission = false ∨ s.fb F.SYSC_MODE.DBGATT = false) → exec (.brk p) s = .next (s.retireWith p 9)) ∧
    (∀ code : BitVec 8, exec (.sys p code) s = .next ((s.admRequest p code.toNat).retireWith p 8))) ∧
  (∀ (s : State) (p : ProcId) (a b d : Gpr) (q : QueueId), s.Executes p true false →
    (s.qOn q = true → s.mayPush p q = true → (s.queue q).length < s.qCap q → Completes (.qpush p a b q) s fun t =>
      t.queue q = s.queue q ++ [s.gpr p a ++ s.gpr p b] ∧ fld (t.proc p).status 7 6 = 0 ∧
      (∀ r, r ≠ q.val → t.queue r = s.queue r) ∧ ∀ r, t.gpr p r = s.gpr p r) ∧
    (s.qOn q = true → s.mayPush p q = true → s.qCap q ≤ (s.queue q).length → Completes (.qpush p a b q) s fun t =>
      (∀ r, t.queue r = s.queue r) ∧ fld (t.proc p).status 7 6 = 1) ∧
    (s.mayPush p q = false → Completes (.qpush p a b q) s fun t =>
      (∀ r, t.queue r = s.queue r) ∧ fld (t.proc p).status 7 6 = 2) ∧
    (d.val % 2 = 0 → 2 ≤ d.val → s.qOn q = true → s.mayPop p q = true →
      (∀ e l, s.queue q = e :: l → Completes (.qpop p d q) s fun t =>
        t.gpr p d = e.extractLsb' 32 32 ∧ t.gpr p (d.val + 1) = e.extractLsb' 0 32 ∧ t.queue q = l ∧
        (∀ r, r ≠ q.val → t.queue r = s.queue r) ∧ fld (t.proc p).status 7 6 = 0) ∧
      (s.queue q = [] → Completes (.qpop p d q) s fun t =>
        (∀ r, t.gpr p r = s.gpr p r) ∧ (∀ r, t.queue r = s.queue r) ∧ fld (t.proc p).status 7 6 = 1)) ∧
    ((d.val % 2 = 1 ∨ d.val = 0) → exec (.qpop p d q) s = .next (s.exception p 1 (s.proc p).pc)) ∧
    (Completes (.qcnt p d q) s fun t => OnlyProc p s t ∧
      t.gpr p d = (if d.val = 0 then 0 else BitVec.ofNat 32 (s.queue q).length)))

/-- VADD to VLANE, POST and END (05 R165 to R171, R177, R179; 06 R217, R218, R220). -/
def Obligations.EngineLaneInstructions : Prop :=
  (∀ (s : State) (vd va vb : Vreg) (sh : Fin 32) (r : Gpr) (tb : Fin 64) (n : Fin 4) (lx : Bool) (c : BitVec 14),
    s.Executes 5 false true →
    let clamp := fun v : Int => if 2147483647 < v then 2147483647 else if v < -2147483648 then -2147483648 else v
    let lanes := fun (i : Instr) (h : Nat → Word) => Completes i s fun t =>
      (∀ l, l < 16 → t.lane vd l = h l) ∧ (∀ k, k ≠ vd.val → k < 16 → ∀ l, l < 16 → t.lane k l = s.lane k l) ∧
      (∀ a, a ≠ R.CE_STATUS → t.reg a = s.reg a) ∧ SameMem s t ∧ t.proc 5 = retireProc (s.proc 5)
    let exact := fun (i : Instr) (h : Nat → Word) => lanes i h ∧ Completes i s fun t => ∀ a, t.reg a = s.reg a
    let clamped := fun (i : Instr) (h : Nat → Int) => lanes i (fun l => BitVec.ofInt 32 (clamp (h l))) ∧
      ((∃ l, l < 16 ∧ clamp (h l) ≠ h l) → Completes i s fun t => t.fb F.CE_STATUS.OSAT = true)
    let x := fun l => s.lane va l
    let y := fun l => s.lane vb l
    exact (.vadd vd va vb) (fun l => x l + y l) ∧ exact (.vsub vd va vb) (fun l => x l - y l) ∧
    exact (.vand vd va vb) (fun l => x l &&& y l) ∧ exact (.vor vd va vb) (fun l => x l ||| y l) ∧
    exact (.vxor vd va vb) (fun l => x l ^^^ y l) ∧ clamped (.vadds vd va vb) (fun l => (x l).toInt + (y l).toInt) ∧
    clamped (.vsubs vd va vb) (fun l => (x l).toInt - (y l).toInt) ∧
    exact (.vmin vd va vb) (fun l => if (x l).toInt < (y l).toInt then x l else y l) ∧
    exact (.vmax vd va vb) (fun l => if (x l).toInt < (y l).toInt then y l else x l) ∧
    clamped (.vabs vd va) (fun l => if (x l).toInt < 0 then - (x l).toInt else (x l).toInt) ∧
    clamped (.vneg vd va) (fun l => - (x l).toInt) ∧
    exact (.vclt vd va vb) (fun l => if (x l).toInt < (y l).toInt then 0xFFFFFFFF#32 else 0) ∧
    exact (.vmov vd va) x ∧ exact (.vsra vd va sh) (fun l => (x l).sshiftRight sh.val) ∧
    exact (.vsll vd va sh) (fun l => x l <<< sh.val) ∧ exact (.vbc vd r) (fun _ => s.gpr 5 r) ∧
    exact (.vlane vd) (fun l => BitVec.ofNat 32 l) ∧ lanes (.vang vd va tb) (fun l => (s.angle tb (x l)).1) ∧
    lanes (.vcm vd va lx c) (fun l => (s.coefMul (coefIdx lx c.toNat l) (x l).toInt).1) ∧
    lanes (.vrda vd n sh) (fun l => (accOut (s.laneAcc n l) sh).1)) ∧
  (∀ (s : State) (op : MacOp) (n : Fin 4) (sh : Fin 32) (lx : Bool) (va vb : Vreg) (c : BitVec 14),
    s.Executes 5 false true →
    let accs := fun (i : Instr) (h : Nat → Int) => Completes i s fun t =>
      (∀ l, l < 16 → t.laneAcc n l = (satAcc (h l)).1) ∧
      (∀ m, m ≠ n.val → m < 4 → ∀ l, l < 16 → t.laneAcc m l = s.laneAcc m l) ∧
      ((∃ l, l < 16 ∧ (satAcc (h l)).2 = true) → t.fb F.CE_STATUS.ACCSAT = true) ∧
      (∀ a, a ≠ R.CE_STATUS → t.reg a = s.reg a) ∧ SameMem s t
    accs (.vcla n) (fun _ => 0) ∧
    accs (.vvmac n sh va vb)
      (fun l => (s.laneAcc n l).toInt + rsh ((s.lane va l).toInt * (s.lane vb l).toInt) sh) ∧
    accs (.vcmac op n lx va c) (fun l =>
      let k := if lx then (c.toNat + l) % 16384 else c.toNat
      let q := rsh ((s.lane va l).toInt * s.coefV k) (s.coefS k)
      match op with
      | .mac => (s.laneAcc n l).toInt + q
      | .msu => (s.laneAcc n l).toInt - q
      | .mla => q)) ∧
  (∀ (s : State) (vd va : Vreg) (base : Fin 16) (w : BitVec 12), s.Executes 5 false true →
    let a := s.laneAddr base w.toNat
    a % 4 = 0 → a + 64 ≤ 2 ^ 32 →
    (engReadOk a 16 = true → (∀ l, l < 16 → s.isBad (a + 4 * l) = false) → Completes (.vld vd base false w) s fun t =>
      (∀ l, l < 16 → t.lane vd l = s.ldw (a + 4 * l)) ∧ (∀ b, t.reg b = s.reg b) ∧ SameMem s t) ∧
    (engReadOk a 1 = true → s.isBad a = false → Completes (.vld vd base true w) s fun t =>
      (∀ l, l < 16 → t.lane vd l = s.ldw a) ∧ (∀ b, t.reg b = s.reg b) ∧ SameMem s t) ∧
    (engWriteOk a 16 = true → Completes (.vst va base w) s fun t =>
      (∀ l, l < 16 → t.ldw (a + 4 * l) = s.lane va l) ∧ (∀ b, b < a ∨ a + 64 ≤ b → t.ldb b = s.ldb b) ∧
      ∀ b, t.reg b = s.reg b) ∧
    (engWriteOk a 16 = false → exec (.vst va base w) s = .next (s.retireWith 5 3))) ∧
  (∀ (s : State) (vd va : Vreg) (n : BitVec 8), s.Executes 5 false true → n.toNat + 15 < 256 →
    Completes (.vint vd va n) s fun t =>
      (∀ l, l < 16 → t.lane vd l = (s.intStep (n.toNat + l) (s.lane va l)).2.1 ∧
        ∀ j, j < 5 → t.ldw (intAddr (n.toNat + l) + 4 * j) =
          (s.intStep (n.toNat + l) (s.lane va l)).1.ldw (intAddr (n.toNat + l) + 4 * j)) ∧
      SameRegsBut [R.CE_STATUS] s t) ∧
  (∀ (s : State) (d : Nat) (e : Word), d < 256 →
    let a := intAddr d
    let k := fld (s.ldw a) 29 16
    let x := (s.ldw (a + 4)).toInt + (s.coefMul (k + 1) e.toInt).1.toInt
    let r := s.intStep d e
    (bitAt (s.ldw a) 31 = false → r = (s, 0, false)) ∧
    (bitAt (s.ldw a) 31 = true → s.coefV (k + 2) ≤ x → x ≤ s.coefV (k + 3) →
      r.1.ldw (a + 4) = BitVec.ofInt 32 x ∧ r.1.ldw (a + 8) = e ∧ r.1.ldw (a + 12) = r.2.1 ∧
      r.2.1 = (sat32 ((s.coefMul k e.toInt).1.toInt + x)).1) ∧
    (bitAt (s.ldw a) 31 = true → s.coefV (k + 3) < x →
      r.1.ldw (a + 4) = BitVec.ofInt 32 (s.coefV (k + 3)) ∧ r.1.ldw (a + 16) = 0xC0000000#32) ∧
    (bitAt (s.ldw a) 31 = true → x < s.coefV (k + 2) → x ≤ s.coefV (k + 3) →
      r.1.ldw (a + 4) = BitVec.ofInt 32 (s.coefV (k + 2)) ∧ r.1.ldw (a + 16) = 0x80000000#32)) ∧
  (∀ (s : State) (va : Vreg) (l : Fin 16) (r : Gpr), s.Executes 5 false true →
    Completes (.vext va l r) s (WritesGpr 5 r (s.lane va l) 0 s)) ∧
  (∀ (s : State) (g : Fin 4), s.Executes 5 false true →
    let u := s.retire 5
    let es := u.outEntries fun w => decide (fld w 31 28 = 1 ∧ fld w 27 26 = g.val)
    let cut := u.boundary u.tm.k + u.f (F.CE_POST.CUT g) * 3200
    (u.now + 64 * es.length < cut → exec (.post g) s = .next ((es.foldl (fun t e => t.postWrite e.1 e.2) u).setF
      (F.CE_POST.LASTAT g) ((u.now - u.boundary u.tm.k) / 64 + es.length))) ∧
    (cut ≤ u.now + 64 → es ≠ [] → exec (.post g) s = .next ((u.setB F.CE_STATUS.LATEPOST true).raise 13)) ∧
    (∀ w0 v r, s.on 6 = true → regRow? (0x40080000 + fld w0 15 0) = some r →
      (s.postWrite w0 v).reg (0x40080000 + fld w0 15 0) = s.ramped w0 v &&& r.rw ∧
      OnlyRegs [0x40080000 + fld w0 15 0] s (s.postWrite w0 v))) ∧
  (∀ s : State, s.Executes 5 false true → Completes .endProgram s fun t =>
    (t.proc 5).run = .halted ∧ t.fb F.CE_STATUS.RUN = false ∧ t.ce.slot = none ∧
    SameRegsBut [R.CE_STATUS, R.CE_MAXCYC] s t ∧ SameMem s t)

/-- The general registers of a core-profile processor and their two banks (06 R201). -/
def Obligations.GeneralRegistersAndBanks : Prop :=
  (∀ (q : Proc) (v : Word), gprOf q 0 = 0 ∧ setGprOf q 0 v = q) ∧
  (∀ (q : Proc) (r n : Nat) (v : Word), 1 ≤ r → r < 32 → 1 ≤ n → n < 32 →
    gprOf (setGprOf q r v) n = (if n = r then v else gprOf q n)) ∧
  (∀ (q : Proc) (r n : Nat) (v : Word), 24 ≤ r → r < 32 → 24 ≤ n → n < 32 →
    let other := { q with status := setFld q.status 5 5 (1 - b2n (bankOf q)) }
    let back := { setGprOf q r v with status := other.status }
    gprOf back n = gprOf other n) ∧
  (∀ (q : Proc) (n : Nat) (st : Word), n < 24 → gprOf { q with status := st } n = gprOf q n) ∧
  (∀ (s : State) (p cause : Nat) (epc target : Word) (isInt : Bool) (level : Nat),
    (s.proc p).istack.length < 16 →
    let t := s.enter p epc isInt cause level target
    bankOf (t.proc p) = (decide (levelOf (s.proc p) = 0) || bankOf (s.proc p)) ∧
    ∃ e, (t.proc p).istack = e :: (s.proc p).istack ∧ bitAt e.estat 5 = bankOf (s.proc p)) ∧
  (∀ (s : State) (p : Nat) (e : StackEntry) (l : List StackEntry) (x : Option Nat) (sv : List (Option Nat)),
    (s.proc p).istack = e :: l → (s.proc p).serv = x :: sv →
    (s.setProc p { s.proc p with serv := none :: sv }).bestFor p (fld e.estat 3 0) = none →
    bankOf ((s.returnInt p).proc p) = bitAt e.estat 5)

/-- Taking an exception: every instruction that raises one takes it through this operation (06 R220 to R223). -/
def Obligations.ExceptionEntry : Prop :=
  (∀ (s : State) (p cause : Nat) (epc : Word), p < 5 → cause < 16 → (s.proc p).istack.length < 16 →
    let t := s.exception p cause epc
    OnlyProc p s t ∧ (t.proc p).pc = BitVec.ofNat 32 (0x100000 + cause * 16) ∧
    levelOf (t.proc p) = levelOf (s.proc p) ∧ ieOf (t.proc p) = ieOf (s.proc p) ∧
    (∃ e, (t.proc p).istack = e :: (s.proc p).istack ∧ e.epc = epc &&& 0xFFFFFFFC#32 ∧ bitAt e.estat 31 = false ∧
      fld e.estat 30 23 = cause ∧ fld e.estat 3 0 = levelOf (s.proc p) ∧ bitAt e.estat 4 = ieOf (s.proc p)) ∧
    (t.proc p).serv = none :: (s.proc p).serv ∧ (∀ r, r < 24 → t.gpr p r = s.gpr p r)) ∧
  (∀ (s : State) (p cause : Nat) (epc : Word), p < 5 → 16 ≤ (s.proc p).istack.length →
    s.exception p cause epc = s.stopProc p) ∧
  (∀ (s : State) (cause : Nat) (epc : Word),
    ∃ t : State, s.exception 5 cause epc = t.raise 13 ∧ t.fb F.CE_STATUS.OVERRUN = true ∧ t.fb F.CE_STATUS.RUN = false ∧
      (t.proc 5).epc0 = epc ∧ (t.proc 5).estat0 = BitVec.ofNat 32 (cause * 2 ^ 23) ∧ (t.proc 5).run = .halted ∧
      SameRegsBut [R.CE_STATUS] s t ∧ SameMem s t)

/-- VIC_ARBITRATION, INTERRUPT_ENTRY, NMI_ENTRY, VIC_SRC_WRITE, VIC_SWSET and VIC_SWCLR (06 R224; 08 R259 to R266). -/
def Obligations.InterruptRoutingAndEntry : Prop :=
  (∀ s : State, Completes .vicArbitration s fun t =>
    t = { s with procs := t.procs } ∧
    (∀ p, (∃ n, (p, n) ∈ s.winners) ∨ t.proc p = s.proc p) ∧
    ∀ p n, (p, n) ∈ s.winners → p < 5 ∧ s.isPending n = true ∧ s.eligible p n (levelOf (s.proc p)) = true ∧
      (s.proc p).latched = none ∧ t.proc p = { s.proc p with latched := some n }) ∧
  (∀ (s : State) (p : CoreId) (n : Nat), (s.proc p).latched = some n → s.takesInt p = true →
    s.bestFor p (levelOf (s.proc p)) = none →
    (s.isPending n = true → (s.proc p).istack.length < 16 → ∃ t : State,
      exec (.interruptEntry p) s = .next (t.countEntry p n) ∧ OnlyProc p s t ∧ (t.proc p).pc = s.vector p n ∧
      levelOf (t.proc p) = s.prio n % 16 ∧ (t.proc p).latched = none ∧ (t.proc p).run = .running ∧
      (t.proc p).serv = some n :: (s.proc p).serv ∧
      ∃ e, (t.proc p).istack = e :: (s.proc p).istack ∧ e.epc = (s.proc p).pc &&& 0xFFFFFFFC#32 ∧
        bitAt e.estat 31 = true ∧ fld e.estat 30 23 = n % 256 ∧ fld e.estat 3 0 = levelOf (s.proc p)) ∧
    (s.isPending n = false → Completes (.interruptEntry p) s fun t =>
      t.proc p = { s.proc p with latched := none } ∧ (∀ q, q ≠ p.val → t.proc q = s.proc q) ∧
      t.f F.VIC_WDRAW.COUNT = (s.f F.VIC_WDRAW.COUNT + 1) % 2 ^ (F.VIC_WDRAW.COUNT.hi + 1 - F.VIC_WDRAW.COUNT.lo) ∧
      SameRegsBut [R.VIC_WDRAW] s t)) ∧
  (∀ s : State, s.asserted 0 = true → s.takesInt s.nmiProc = true → (s.proc s.nmiProc).serv.contains (some 0) = false →
    (s.proc s.nmiProc).istack.length < 16 → ∃ t : State, exec .nmiEntry s = .next (t.countEntry s.nmiProc 0) ∧
      OnlyProc s.nmiProc s t ∧ (t.proc s.nmiProc).pc = s.vector s.nmiProc 0 ∧ levelOf (t.proc s.nmiProc) = 15 ∧
      (t.proc s.nmiProc).serv = some 0 :: (s.proc s.nmiProc).serv) ∧
  (∀ (s : State) (n : Fin 256) (en : Bool) (route : BitVec 5) (prio : BitVec 4), s.on 3 = true → n.val ≠ 0 →
    Completes (.vicSrcWrite n en route prio) s fun t =>
      t.fb (F.VIC_SRC.EN n) = en ∧ OnlyRegs [R.VIC_SRC n] s t ∧
      (s.admitted = false → t.f (F.VIC_SRC.ROUTE n) = route.toNat ∧ t.f (F.VIC_SRC.PRIO n) = prio.toNat) ∧
      (s.admitted = true → t.f (F.VIC_SRC.ROUTE n) = s.f (F.VIC_SRC.ROUTE n) ∧
        t.f (F.VIC_SRC.PRIO n) = s.f (F.VIC_SRC.PRIO n))) ∧
  (∀ (s : State) (bits : Word), s.on 3 = true →
    Completes (.vicSwset bits) s (fun t => t.reg R.VIC_SWSRC = s.reg R.VIC_SWSRC ||| bits ∧ OnlyRegs [R.VIC_SWSRC] s t) ∧
    Completes (.vicSwclr bits) s fun t => t.reg R.VIC_SWSRC = s.reg R.VIC_SWSRC &&& ~~~ bits ∧ OnlyRegs [R.VIC_SWSRC] s t)

/-- HARDWARE_PUSH and HARDWARE_POP (08 R268, R270). -/
def Obligations.HardwareQueueEnds : Prop :=
  (∀ (s : State) (q : QueueId) (e : DWord), hwProducer q = true → s.qOn q = true →
    ((s.queue q).length < s.qCap q → Completes (.hardwarePush q e) s fun t =>
      t.queue q = s.queue q ++ [e] ∧ (∀ r, r ≠ q.val → t.queue r = s.queue r) ∧ t = { s with queues := t.queues }) ∧
    (s.qCap q ≤ (s.queue q).length → Completes (.hardwarePush q e) s fun t =>
      (∀ r, t.queue r = s.queue r) ∧
      t.f (F.HQ_DROP.HWDROP q) = wrapAdd ((F.HQ_DROP.HWDROP q).hi + 1 - (F.HQ_DROP.HWDROP q).lo) (s.f (F.HQ_DROP.HWDROP q)) 1 ∧
      t.fb (F.HQ_STAT.OVF q) = true ∧ OnlyRegs [R.HQ_DROP q, R.HQ_STAT q] s t)) ∧
  (∀ (s : State) (q : QueueId), hwConsumer q = true → s.qOn q = true →
    (s.queue q = [] → exec (.hardwarePop q) s = .next s) ∧
    (∀ e l, s.queue q = e :: l → Completes (.hardwarePop q) s fun t =>
      t.busOut = e ∧ t.queue q = l ∧ (∀ r, r ≠ q.val → t.queue r = s.queue r) ∧ ∀ a, t.reg a = s.reg a))

/-- SEMAPHORE_ACQUIRE, SEMAPHORE_RELEASE, QUEUE_FLUSH and the threshold condition (08 R257, R271, R272). -/
def Obligations.SemaphoresFlushesAndThresholds : Prop :=
  (∀ (s : State) (req : Requester) (n : Fin 64), s.on 3 = true →
    (s.f (F.HQ_SEM.OWNER n) = 15 → semUser req = true → Completes (.semaphoreAcquire req n) s fun t =>
      t.f (F.HQ_SEM.OWNER n) = reqIdx req ∧ t.busOut = BitVec.ofNat 64 (0xC0000000 + reqIdx req) ∧
      SameRegsBut [R.HQ_SEM n] s t ∧ SameMem s t) ∧
    (s.f (F.HQ_SEM.OWNER n) ≠ 15 → Completes (.semaphoreAcquire req n) s fun t =>
      t.busOut = BitVec.ofNat 64 (0x40000000 + s.f (F.HQ_SEM.OWNER n)) ∧ (∀ a, t.reg a = s.reg a) ∧ SameMem s t)) ∧
  (∀ (s : State) (req : Requester) (n : Fin 64), s.on 3 = true →
    (s.f (F.HQ_SEM.OWNER n) = reqIdx req → Completes (.semaphoreRelease req n) s fun t =>
      t.f (F.HQ_SEM.OWNER n) = 15 ∧ OnlyRegs [R.HQ_SEM n] s t) ∧
    (s.f (F.HQ_SEM.OWNER n) ≠ reqIdx req → Completes (.semaphoreRelease req n) s fun t =>
      (∀ m : Fin 64, t.f (F.HQ_SEM.OWNER m) = s.f (F.HQ_SEM.OWNER m)) ∧
      t.f F.HQ_SEMREJ.SEMREJ = wrapAdd 16 (s.f F.HQ_SEMREJ.SEMREJ) 1 ∧ OnlyRegs [R.HQ_SEMREJ] s t)) ∧
  (∀ (s : State) (q : QueueId), s.on 3 = true → Completes (.queueFlush q) s fun t =>
    t.queue q = [] ∧ (∀ r, r ≠ q.val → t.queue r = s.queue r) ∧ t = { s with queues := t.queues }) ∧
  (∀ (s : State) (q : QueueId), s.qOn q = true →
    (s.asserted (16 + q.val) = true ↔
      if s.fb (F.HQ_THR.DIR q) then (s.queue q).length ≤ s.f (F.HQ_THR.WM q)
      else s.f (F.HQ_THR.WM q) ≤ (s.queue q).length))

/-- ARM_PASS, CADENCE_PASS, PASS_END, FOM_WINDOW_END, CELLCMD_BYPASS, _RETURN, _CLEAR, _RESUME, _INVALID_OP and
ADMITTED_DELAY_EXCEEDED (04 R119, R123, R134, R149; 07 R252). -/
def Obligations.SchedulerPassesAndCommands : Prop :=
  (∀ s : State, s.shareSplit.csOn = true → s.shareSplit.cs.armDone = false → Completes .armPass s fun t =>
    let u := s.shareSplit.advanceTo (s.shareSplit.boundary s.shareSplit.tm.k + s.shareSplit.f F.CS_TIMING.RCUT * 3200)
    t.cs.armDone = true ∧ t.fb F.CS_STATUS.APASS = true ∧ t.f F.CS_STATUS.PASSCYC = min 65535 u.tArm ∧
    t.cs.armEnd = some (u.boundary u.tm.k + u.f F.CS_TIMING.RCUT * 3200 +
      64 * (64 + ((List.range 16).filter u.armRuns).foldl (fun n a => n + 48 + 4 * (u.members a).length) 0))) ∧
  (∀ s : State, s.csOn = true → s.cs.cadDone = false → Completes .cadencePass s fun t =>
    let u := s.advanceTo (s.boundary s.tm.k + s.f F.CS_TIMING.TCUT * 3200)
    let start := u.boundary u.tm.k + u.f F.CS_TIMING.TCUT * 3200
    t.cs.cadDone = true ∧ t.fb F.CS_STATUS.CPASS = true ∧
    t.cs.cadEnd = some (start + 64 * (16 + 2 * u.cadenceCells.foldl (fun n i => n + (u.cadenceCell start i).2) 0))) ∧
  (∀ (s : State) (x : Nat), s.live = true → s.on 6 = true → x < 2 ^ 64 →
    (s.cs.armEnd = some x → s.cs.cadEnd = none → Completes .passEnd s fun t =>
      t.now = max s.now x ∧ t.cs.armEnd = none ∧ t.fb F.CS_STATUS.APASS = false ∧
      SameRegsBut [R.CS_STATUS] s t ∧ SameMem s t) ∧
    (s.cs.cadEnd = some x → s.cs.armEnd = none → Completes .passEnd s fun t =>
      t.now = max s.now x ∧ t.cs.cadEnd = none ∧ t.fb F.CS_STATUS.CPASS = false ∧
      SameRegsBut [R.CS_STATUS] s t ∧ SameMem s t)) ∧
  (∀ (s : State) (a : Fin 16), s.live = true → s.on 6 = true →
    (if s.fb (F.CS_ACFG.FOMFIX a) then 1000 ≤ (s.arm a).passes else s.ce.lineStart.testBit a = true) →
    Completes (.fomWindowEnd a) s fun t =>
      t.reg (R.CS_AFOMT a) = BitVec.ofNat 32 (s.arm a).tCount ∧ t.reg (R.CS_AFOML a) = BitVec.ofNat 32 (s.arm a).lam ∧
      t.reg (R.CS_ACREDIT a) = 0 ∧ (t.arm a).tCount = 0 ∧ (t.arm a).lam = 0 ∧ (t.arm a).passes = 0 ∧
      (108 * (s.arm a).lam < 100 * (s.arm a).tCount → t.fb (F.CS_ASTAT.FOMX a) = true) ∧ SameMem s t) ∧
  (∀ (s : State) (esc : Bool) (cell : Fin 64) (x y : Bool) (m : BitVec 16), s.live = true → s.on 6 = true →
    let b := (if esc then 0x08000000 else 0) + cell.val * 0x200000
    let waits := fun (c : Instr) (w : Nat) => Completes c s fun t =>
      t.cs.cmd = some (BitVec.ofNat 32 w) ∧ t.fb F.CS_CMDSTAT.BUSY = true ∧
      t.f F.CS_CMDSTAT.NOEFFECT = s.f F.CS_CMDSTAT.NOEFFECT ∧ SameRegsBut [R.CS_CMDSTAT] s t ∧ SameMem s t
    waits (.cellcmdBypass esc cell) (0x10000000 + b) ∧ waits (.cellcmdReturn esc cell) (0x20000000 + b) ∧
    waits (.cellcmdClear esc cell x y m)
      (0x30000000 + b + (if x then 0x20000 else 0) + (if y then 0x10000 else 0) + m.toNat) ∧
    waits (.cellcmdResume esc cell) (0x40000000 + b)) ∧
  (∀ (s : State) (op : BitVec 4), s.live = true → s.on 6 = true → (op.toNat = 0 ∨ 5 ≤ op.toNat) →
    Completes (.cellcmdInvalidOp op) s fun t =>
      t.f F.CS_CMDSTAT.NOEFFECT = wrapAdd 16 (s.f F.CS_CMDSTAT.NOEFFECT) 1 ∧ t.cs.cmd = s.cs.cmd ∧
      OnlyRegs [R.CS_CMDSTAT] s t) ∧
  (∀ (s : State) (p : PortId),
    let d := (s.reg (R.LNK_DELAY p.idx)).toNat % 2 ^ 24
    let long := tblGet (fun _ => (0 : Nat)) s.adm.dAdm p.idx + 8 * s.f F.LNK_MARGIN.M < d
    let c := tblGet (fun _ => (0 : Nat)) s.adm.longCnt p.idx
    (long → c = 7 → ∃ t : State, exec (.admittedDelayExceeded p) s = .next (t.raise 31) ∧
      bitAt (t.reg (R.ADM_LONGMAP (p.idx / 32))) (p.idx % 32) = true ∧ SameRegsBut [R.ADM_LONGMAP (p.idx / 32)] s t) ∧
    (long → c ≠ 7 → Completes (.admittedDelayExceeded p) s fun t =>
      tblGet (fun _ => (0 : Nat)) t.adm.longCnt p.idx = min 8 (c + 1) ∧ ∀ a, t.reg a = s.reg a) ∧
    (¬ long → Completes (.admittedDelayExceeded p) s fun t =>
      tblGet (fun _ => (0 : Nat)) t.adm.longCnt p.idx = 0 ∧ ∀ a, t.reg a = s.reg a))

/-- The transitions that the boundary evaluates context by context (01 R44, R45, R496; 04 R150 to R152). -/
def Obligations.ContextTransitions : Prop :=
  ∀ (s : State) (i : Nat), i < 128 →
    let keepsOthers := fun t : State => ∀ j, j < 128 → j ≠ i → ∀ off, off < 0x7FD → t.ctx j off = s.ctx j off
    (∀ b, (s.cst i = cActive ∨ s.cst i = cBypassed) → (s.cell i).bypStart = some b → s.bypBusy i = true →
      b + 2 ≤ s.tm.k → s.bypConfirmed i = false → ∃ t : State, s.contextFaulted i = t.raise 17 ∧
        t.cst i = cFaulted ∧ t.pendRet i = false ∧ t.bypBusy i = false ∧ keepsOthers t) ∧
    (s.cst i ≠ cActive → s.cst i ≠ cBypassed → (s.contextFaulted i).cst i = s.cst i) ∧
    (s.bypSeen i = true → s.cst i = cActive → s.bypBusy i = true →
      let t := s.contextBypassed i
      t.cst i = cBypassed ∧ t.bypBusy i = false ∧ t.pendRet i = s.pendRet i ∧ keepsOthers t) ∧
    (s.bypSeen i = false → s.contextBypassed i = s) ∧
    (s.bypSeen i = true → s.cst i = cFaulted → (s.cell i).clear ≠ none → s.fresh i 3 = true → s.faultWord i = 0 →
      let t := s.contextBypassed i
      t.cst i = cBypassed ∧ (t.cell i).clear = none ∧ keepsOthers t) ∧
    (s.bypBusy i = false →
      let t := s.startBypass i
      t.bypBusy i = true ∧ t.pendRet i = false ∧ t.cst i = s.cst i ∧ (t.cell i).bypStart = some s.tm.k ∧
      t.ctxF i 0xC0 31 27 = s.bypassEntry i (s.cClass i) (s.ctxF i 0xC0 31 27) % 32 ∧ keepsOthers t) ∧
    (s.bypBusy i = true → s.startBypass i = s) ∧
    (s.cst i = cBypassed → s.pendRet i = true → s.bypBusy i = false → s.fresh i 3 = true → s.faultWord i = 0 →
      let t := s.contextReturn i
      t.cst i = cActive ∧ t.pendRet i = false ∧ keepsOthers t) ∧
    (¬ (s.cst i = cBypassed ∧ s.pendRet i = true ∧ s.bypBusy i = false ∧ s.fresh i 3 = true ∧ s.faultWord i = 0) →
      s.contextReturn i = s)

/-- PERIOD_BOUNDARY (01 R46; 02 R56, R59; 04 R149, R153). -/
def Obligations.PeriodBoundary : Prop :=
  (∀ s : State, s.live = true → s.on 1 = true → s.tm.started = true → s.f F.STM_PERIOD.P ≠ 0 →
    ∃ t : State, t = (s.enterPeriod s.nextBoundary).modeApply ∧
      let ports := fun h => ctxIdx.filter fun i => h (t.port i)
      let u := (((t.beginPeriod.linkPart.hoBoundary.contextSteps (ports (·.capFull)) (ports (·.edgeSent))
        (ports (·.lostDone))).hoFinish.heldBackTakes.tokackCheck.ringBoundary).ceBoundary).timeBoundary.timeAction
      exec .periodBoundary s = .next u.wdtBoundary.policeBoundary.sfuBoundary.restartProcs.mgmtSettle) ∧
  (∀ s : State, s.tm.started = false → exec .periodBoundary s = .next s.mgmtSettle) ∧
  (∀ (s : State) (k : Nat), s.boundary k < 2 ^ 64 →
    let t := s.enterPeriod k
    t.tm.k = k ∧ t.now = max s.now (s.boundary k) ∧ t.reg R.STM_KLO = BitVec.ofNat 32 k ∧
    SameRegsBut [R.STM_KLO] s t ∧ SameMem s t) ∧
  (∀ (s : State) (caps sent lost : List Nat), s.on 6 = true →
    let s3 := ((s.forAll ctxIdx State.contextFaulted).forAll ctxIdx State.contextBypassed).forAll ctxIdx fun t i =>
      t.bypassCauses lost i
    let s4 := (s3.bypassCommands.takesDue.forAll ctxIdx State.giveDriving).adoptDue
    let s5 := s4.returnCommand.forAll ctxIdx State.contextReturn
    let s6 := (s5.forAll ctxIdx fun t i => t.stepFive caps sent i).resumeCommand
    ∃ u : State, s.contextSteps caps sent lost = u.forAll (List.range 16) State.armBoundary ∧ u.cs.cmd = none ∧
      (s6.cs.cmd ≠ none → u.fb F.CS_CMDSTAT.BUSY = false) ∧ SameRegsBut [R.CS_CMDSTAT] s6 u ∧ SameMem s6 u) ∧
  (∀ (s : State) (a : Nat), a < 16 →
    let flt := ((s.members a).filter fun i => s.cst i = cFaulted).length
    s.f (F.CS_ACFG.FLTMAX a) ≠ 0 → s.f (F.CS_ACFG.FLTMAX a) < flt →
    s.f (F.CS_ASTAT.NFLT a) ≤ s.f (F.CS_ACFG.FLTMAX a) → ∃ t : State,
      s.armBoundary a = (t.note 8 1 a).stopRequest ∧ t.fb F.CS_STATUS.STOPREQ = true ∧
      t.f (F.CS_ASTAT.NFLT a) = min 63 flt ∧ SameMem s t)

/-- SUPERVISION, FEEDBACK_IMPLAUSIBLE, FEEDBACK_FROZEN, FEEDBACK_EXPIRY, FEEDBACK_RECOVERY and FBEXP_WRITE (05 R187 to
R193). -/
def Obligations.EngineSupervision : Prop :=
  (∀ s : State, s.ceOn = true → s.ce.snapOpen = true → s.ce.supDone = false → ∃ t u : State,
    exec .supervision s = .next u.ceFlags ∧ u.ce.supDone = true ∧ u.ce.fbExp = [] ∧
    t.now = (s.advanceTo (s.ceTime (s.tSnap + s.tSup))).now ∧ t.ce.held = [] ∧ t.ce.snapOpen = false ∧
    u.mem = (t.forAll (List.range 512) fun v n => t.fbEval v n).mem) ∧
  (∀ (s0 s : State) (n : Nat), bitAt (s0.ldw (fbAddr n)) 31 = false → s0.fbEval s n = s) ∧
  (∀ (s : State) (n : Nat), n < 512 →
    let a := fbAddr n
    let w0 := s.ldw a
    let y := s.ldw (inAddr (fld w0 12 0))
    let p := s.fbPred n
    let out := absI (y.toInt - p.toInt) > (s.ldn (a + 8) : Int)
    let moved := absI (p.toInt - (s.ldw (a + 28)).toInt) > (s.ldn (a + 12) : Int)
    let w6 := s.fb6 n
    bitAt w0 31 = true → fld (s.ldw (a + 4)) 22 16 = 0 → fbState w6 < 2 →
    let t := s.fbEval s n
    let mcnt := if out then min 255 (fbCnt w6 + 1) else 0
    t.ldw (a + 20) = y ∧ t.ldw (a + 28) = p ∧ fbCoast (t.fb6 n) = 0 ∧ fbCnt (t.fb6 n) = mcnt ∧
    fbFcnt (t.fb6 n) = (if y ≠ s.ldw (a + 20) then 0 else if moved then min 255 (fbFcnt w6 + 1) else fbFcnt w6) ∧
    (mcnt = 0 → fbState (t.fb6 n) = 0) ∧
    (0 < mcnt → mcnt < fld (s.ldw (a + 16)) 31 24 → fbState (t.fb6 n) = 1) ∧ ∀ b, t.reg b = s.reg b) ∧
  (∀ (s : State) (n : Fin 512), s.fbUsed n = true →
    let w6 := s.fb6 n
    let image := inAddr (fld (s.ldw (fbAddr n)) 12 0)
    let enters := fun (c : Instr) (st : Nat) => ∃ t u : State, exec c s = .next (t.raise (st + 12)) ∧
      t = u.note 7 (st - 1) n ∧ fbState (u.fb6 n) = st ∧ u.ldw image = s.ldw (fbAddr n + 28) ∧
      fbCoast (u.fb6 n) = (if 2 ≤ fbState w6 then fbCoast w6 else 1) ∧ fbCnt (u.fb6 n) = 0 ∧
      bitAt (u.reg (R.CE_FBSUBST (n / 32))) (n % 32) = true ∧
      SameRegsBut [R.CE_FBSUBST (n / 32), R.CE_STATUS] s u
    (fbState w6 < 2 → 0 < fbCnt w6 → fld (s.ldw (fbAddr n + 16)) 31 24 ≤ fbCnt w6 → s.fbFrozenDue n = false →
      enters (.feedbackImplausible n) 2) ∧
    (fbState w6 < 3 → s.fbFrozenDue n = true → enters (.feedbackFrozen n) 3) ∧
    ((fbState w6 = 2 ∨ fbState w6 = 3) → fld (s.ldw (fbAddr n)) 25 13 ≤ fbCoast w6 → ∃ t u : State,
      t = u.note 7 3 n ∧ fbState (u.fb6 n) = 4 ∧ bitAt (u.reg (R.CE_FBEXP (n / 32))) (n % 32) = true ∧
      SameRegsBut [R.CE_FBEXP (n / 32)] s u ∧
      exec (.feedbackExpiry n) s = .next (if bitAt (s.ldw (fbAddr n)) 30 then
        ((t.noteMade (t.demandFuncs 1) true true).demand 1 4 0 false).ceFlags
        else (t.rampStart (fld (s.ldw (fbAddr n)) 29 27)).ceFlags)) ∧
    ((fbState w6 = 2 ∨ fbState w6 = 3) → 0 < fbCnt w6 → fld (s.ldw (fbAddr n + 16)) 15 8 ≤ fbCnt w6 →
      Completes (.feedbackRecovery n) s fun t => t.fb6 n = 0 ∧ t.ldw image = s.ldw (fbAddr n + 20) ∧
        bitAt (t.reg (R.CE_FBSUBST (n / 32))) (n % 32) = false ∧ bitAt (t.reg (R.CE_FBEXP (n / 32))) (n % 32) = false ∧
        SameRegsBut [R.CE_FBSUBST (n / 32), R.CE_FBEXP (n / 32), R.CE_STATUS] s t)) ∧
  (∀ (s : State) (w : Fin 16) (bits : Word), s.live = true → s.on 5 = true → Completes (.fbexpWrite w bits) s fun t =>
    (∀ n, n ∈ t.ce.fbExp ↔ n ∈ s.ce.fbExp ∨
      n / 32 = w.val ∧ bits.getLsbD (n % 32) = true ∧ (s.reg (R.CE_FBEXP w)).getLsbD (n % 32) = true) ∧
    (∀ a, t.reg a = s.reg a) ∧ SameMem s t)

/-- BUMPLESS_RECOMPUTE, PROGRAM_START, PROGRAM_OVERRUN, COMMIT_WINDOW, RAMP_CLEAR and TRACKER_MODE_WRITE (05 R159, R162,
R163, R178, R182 to R185, R194, R195). -/
def Obligations.EnginePeriodAndPrograms : Prop :=
  (∀ (s : State) (slot : Fin 8) (r : ProgramRec), (s.adm.progs.find? fun r => decide (r.proc = 5 ∧ r.slot = slot.val)) = some r →
    s.ceOn = true → s.admitted = true → s.ce.supDone = true → s.ce.swapNow = false → s.ce.slot = none →
    slot.val ∉ s.ce.ran → s.tm.k % r.mult = r.phase → Completes (.programStart slot) s fun t =>
      t.now = (s.advanceTo (s.ceTime (s.f (F.CE_PROGS.CYC slot)))).now ∧ (t.proc 5).pc = BitVec.ofNat 32 r.code ∧
      (t.proc 5).run = .running ∧ t.fb F.CE_STATUS.RUN = true ∧ t.ce.slot = some slot.val ∧
      t.ce.ran = slot.val :: s.ce.ran ∧ SameRegsBut [R.CE_STATUS] s t ∧ SameMem s t) ∧
  (∀ (s : State) (j : Nat), s.ce.slot = some j → s.ceOn = true → ∃ t : State,
    exec .programOverrun s = .next (t.raise 13) ∧ t.now = (s.advanceTo (s.ceTime (s.f (F.CE_PROGD.CYC j)))).now ∧
    t.fb F.CE_STATUS.OVERRUN = true ∧ t.fb F.CE_STATUS.RUN = false ∧ t.ce.slot = none ∧ t.ce.overrun = true ∧
    (t.proc 5).run = .halted ∧ SameRegsBut [R.CE_STATUS] s t ∧ SameMem s t) ∧
  (∀ s : State, s.ceOn = true → s.ce.supDone = true → s.ce.windowDone = false → ∃ t u : State,
    t = ((s.advanceTo (s.ceTime (s.f F.STM_PERIOD.P - 200))).forAll (List.range 4) State.trackerUpdate).forAll
      (List.range 8) State.rampStep ∧
    exec .commitWindow s = .next u.ceFlags ∧ u.ce.commit = t.commitBuffer ∧ u.ce.windowDone = true ∧
    (∀ a, u.reg a = t.reg a) ∧ SameMem t u) ∧
  (∀ (s : State) (g : Fin 8), s.fb (F.CE_RAMP.ZERO g) = false → s.fb (F.CE_RAMP.ACTIVE g) = true →
    let n := s.f (F.CE_RAMP.RAMPN g)
    let j := tblGet (fun _ => (0 : Nat)) s.ce.rampJ g + 1
    let t := s.rampStep g
    0 < n → t.f (F.CE_RAMP.GAIN g) = 32768 * (n - j) / n ∧ tblGet (fun _ => (0 : Nat)) t.ce.rampJ g = j ∧
      (n ≤ j → t.fb (F.CE_RAMP.ZERO g) = true ∧ t.fb (F.CE_RAMP.ACTIVE g) = false) ∧
      (j < n → t.fb (F.CE_RAMP.ZERO g) = false ∧ t.fb (F.CE_RAMP.ACTIVE g) = true)) ∧
  (∀ (s : State) (n : Fin 4), s.fb (F.CE_TRKCFG.EN n) = true → s.fb (F.CE_TRKCFG.MODE n) = true →
    let k := s.f (F.CE_TRKCFG.KADDR n)
    let w := (s.ldw (stateAddr (s.f (F.CE_TRKADDR.WADDR n)))).toInt
    let c := if w < s.coefV (k + 2) then s.coefV (k + 2) else if s.coefV (k + 3) < w then s.coefV (k + 3) else w
    let omega := ((s.reg (R.CE_TRKW0 n)).toNat : Int) + c
    let t := s.trackerUpdate n
    t.reg (R.CE_TRKOMEGA n) = BitVec.ofInt 32 omega ∧
    t.reg (R.CE_TRKTHETA n) = s.reg (R.CE_TRKTHETA n) + BitVec.ofInt 32 omega ∧
    (((s.reg (R.CE_TRKTHETA n)).toNat : Int) + omega < 2 ^ 32 → t.ce.lineStart = s.ce.lineStart) ∧ SameMem s t) ∧
  (∀ s : State, s.ceOn = true → s.ce.supDone = true → s.ce.swapNow = true → Completes .bumplessRecompute s fun t =>
    let u := s.advanceTo (s.ceTime (s.tSnap + s.tSup + s.tSwap))
    t = { u.forAll (List.range 256) State.bumplessOne with
      ce := { (u.forAll (List.range 256) State.bumplessOne).ce with swapNow := false } }) ∧
  (∀ (s : State) (d : Nat), d < 256 → fld (s.ldw (intAddr d)) 31 30 = 3 →
    let a := intAddr d
    let k := fld (s.ldw a) 29 16
    let x := (s.ldw (a + 12)).toInt - (s.coefMul k (s.ldw (a + 8)).toInt).1.toInt
    let t := s.bumplessOne d
    t.ldw (a + 4) = BitVec.ofInt 32 (if s.coefV (k + 3) < x then s.coefV (k + 3)
      else if x < s.coefV (k + 2) then s.coefV (k + 2) else x) ∧
    bitAt (t.ldw (a + 16)) 31 = (decide (s.coefV (k + 3) < x) || decide (x < s.coefV (k + 2))) ∧
    SameRegsBut [R.CE_STATUS] s t) ∧
  (∀ (s : State) (g : Fin 8), s.live = true → s.on 5 = true →
    (s.fb (F.CE_RAMP.ZERO g) = true → Completes (.rampClear g) s fun t =>
      tblGet (fun _ => false) t.ce.clrReq g = true ∧ (∀ a, t.reg a = s.reg a) ∧ SameMem s t) ∧
    (s.fb (F.CE_RAMP.ZERO g) = false → s.fb (F.CE_RAMP.ACTIVE g) = true → Completes (.rampClear g) s fun t =>
      t.fb (F.CE_RAMP.PENDCLR g) = true ∧ OnlyRegs [R.CE_RAMP g] s t)) ∧
  (∀ (s : State) (n : Fin 4) (forming : Bool), s.live = true → s.on 5 = true →
    Completes (.trackerModeWrite n forming) s fun t =>
      t.fb (F.CE_TRKCFG.MODE n) = forming ∧ OnlyRegs [R.CE_TRKCFG n] s t)

/-- CE_LOAD, LOAD_DONE, BANK_SWAP_REQUEST, PARAM_WRITE, ANGLE_TABLE_WRITE, CE_PARITY_ERROR, PARITY_RESTORATION and
RESTORATION_DONE (05 R160, R172 to R174, R180, R196; 06 R198). -/
def Obligations.EngineMemoryLoadsAndParity : Prop :=
  (∀ (s : State) (first last : BitVec 14), s.live = true → s.on 5 = true →
    (s.fb F.CE_BANK.LOADBUSY = true → Completes (.ceLoad first last) s fun t =>
      t.fb F.CE_BANK.LOADREJ = true ∧ t.ce.load = s.ce.load ∧ SameMem s t) ∧
    (s.fb F.CE_BANK.LOADBUSY = false → Completes (.ceLoad first last) s fun t =>
      t.fb F.CE_BANK.LOADBUSY = true ∧ t.ce.load = some (first.toNat, last.toNat) ∧
      t.f F.CE_LOAD.FIRST = first.toNat ∧ t.f F.CE_LOAD.LAST = last.toNat ∧
      SameRegsBut [R.CE_LOAD, R.CE_BANK] s t ∧ SameMem s t)) ∧
  (∀ (s : State) (first last : Nat), s.ce.load = some (first, last) → s.live = true → s.on 5 = true → first ≤ last →
    last < 16384 → s.activeBank ≤ 1 → s.masterAddr (1 - s.activeBank) last + 8 ≤ 0x31000000 →
    Completes .loadDone s fun t =>
      let b := 1 - s.activeBank
      t.ce.load = none ∧ t.fb F.CE_BANK.LOADBUSY = false ∧ t.fb F.CE_BANK.PBAD = t.limitsBad b ∧
      (∀ c, first ≤ c → c ≤ last → t.ldw (coefAddr b c) = s.ldw (s.masterAddr b c) ∧
        t.ldw (coefAddr b c + 4) = s.ldw (s.masterAddr b c + 4) &&& 0xFF) ∧
      (∀ a, a < coefAddr b first ∨ coefAddr b (last + 1) ≤ a → t.ldb a = s.ldb a) ∧ SameRegsBut [R.CE_BANK] s t) ∧
  (∀ s : State, s.live = true → s.on 5 = true → Completes .bankSwapRequest s fun t =>
    t.fb F.CE_BANK.SWAPPEND = true ∧ t.f F.CE_BANK.ACTIVE = s.f F.CE_BANK.ACTIVE ∧ OnlyRegs [R.CE_BANK] s t) ∧
  (∀ (s : State) (j : Fin 2048) (v : Word), s.live = true → s.on 5 = true →
    (s.ceOn = true → s.ce.snapOpen = true → s.now < s.ceTime s.tSnap → Completes (.paramWrite j v) s fun t =>
      t.ce.held = s.ce.held ++ [(j.val, v)] ∧ (∀ a, t.reg a = s.reg a) ∧ SameMem s t) ∧
    (s.ce.held = [] → s.ce.snapOpen = false → Completes (.paramWrite j v) s fun t =>
      t.ldw (paramAddr j) = v ∧ (∀ a, t.reg a = s.reg a) ∧
      ∀ b, b < paramAddr j ∨ paramAddr j + 4 ≤ b → t.ldb b = s.ldb b)) ∧
  (∀ (s : State) (p : CoreId) (tb : Fin 64) (i : Fin 1024) (v : Word), s.canRun p = true → s.on 5 = true →
    let a := 0x32000000 + tb.val * 0x1000 + i.val * 4
    (s.angleOpen tb = true → Completes (.angleTableWrite p tb i v) s fun t =>
      t.ldw a = v ∧ (∀ b, b < a ∨ a + 4 ≤ b → t.ldb b = s.ldb b) ∧ (∀ b, t.reg b = s.reg b) ∧
      t.proc p = retireProc (s.proc p)) ∧
    (s.angleOpen tb = false → exec (.angleTableWrite p tb i v) s = .next (s.retireWith p 3))) ∧
  (∀ (s : State) (off : Fin 0x80000), s.live = true → s.on 5 = true →
    let a := 0x31000000 + off.val / 4 * 4
    (0x40000 ≤ off.val → ∃ t : State, exec (.ceParityError off) s = .next (t.raise 10) ∧
      t = { s with badWords := t.badWords } ∧ t.isBad a = true) ∧
    (off.val < 0x40000 → ∃ t : State, exec (.ceParityError off) s = .next (t.restored a) ∧
      t = s.takeCoef (off.val / 0x20000) (off.val % 0x20000 / 8))) ∧
  (∀ (s : State) (p : ProcId) (addr : Word) (fetch : Bool), s.canRun p = true →
    let a := physAddr p addr.toNat / 4 * 4
    (Completes (.parityRestoration p addr fetch false) s fun t =>
      t.f F.FCU_PARCNT.REREAD = wrapAdd (F.FCU_PARCNT.REREAD.hi + 1 - F.FCU_PARCNT.REREAD.lo) (s.f F.FCU_PARCNT.REREAD) 1 ∧
      OnlyRegs [R.FCU_PARCNT] s t) ∧
    (s.restorable p a = true → Completes (.parityRestoration p addr fetch true) s fun t =>
      t.fcu.restoring = some (p.val, a) ∧ t.canRun p = false ∧ (∀ b, t.reg b = s.reg b) ∧ SameMem s t) ∧
    (s.restorable p a = false → regionOf a ≠ .context → ∃ t : State, t = { s with badWords := t.badWords } ∧
      t.isBad a = true ∧ exec (.parityRestoration p addr fetch true) s = .next (if fetch then
        (t.raise (badSource a)).exception p 5 addr else (t.raise (badSource a)).retireWith p 4))) ∧
  (∀ (s : State) (p a : Nat) (data : Word), s.fcu.restoring = some (p, a) → s.live = true → regionOf a = .context →
    a % 4 = 0 → ∃ t : State, exec (.restorationDone data) s = .next (t.restored a) ∧ t.fcu.restoring = none ∧
      t.ldw a = data ∧ t.isBad a = false ∧ ∀ b, b < a ∨ a + 4 ≤ b → t.ldb b = s.ldb b)

/-- ADMIT, ADMISSION_LOCK, ADMISSION_RESULT, UNLOAD and UNLOAD_DONE (07 R235 to R238; 01 R44, R495). -/
def Obligations.AdmissionAndUnload : Prop :=
  (∀ (s : State) (o e : Option (BitVec 192)), s.adm.request = none → s.canRun 0 = true → s.grave = false →
    s.fb F.RNG_STATUS.OBSERVER = false → s.fb F.ADM_STATUS.BUSY = false → s.admitted = false →
    s.fb F.ADM_STATUS.UNLOADING = false → s.on 3 = true → Completes (.admitRequest o e) s fun t =>
      t.adm.request = some (s.gpr 0 4).toNat ∧ t.fb F.ADM_STATUS.BUSY = true ∧ t.adm.result ≠ none ∧
      SameRegsBut [R.ADM_STATUS] s t ∧ SameMem s t) ∧
  (∀ (s : State) (o e : Option (BitVec 192)) (desc : Nat), s.adm.request = some desc → s.live = true → s.on 3 = true →
    s.adm.result = none → Completes (.admitRequest o e) s fun t =>
      t.adm.result = some (s.admitChecks desc o e).1 ∧ t.adm.count = fld (s.ldw desc) 15 0 ∧
      t.adm.tag = s.ldw (desc + 4) ∧ t.adm.lockPend = decide ((s.admitChecks desc o e).1.code = 0) ∧
      ((s.admitChecks desc o e).1.code ≠ 0 → t.adm.progs = [] ∧ t.adm.handlers = []) ∧ t = { s with adm := t.adm }) ∧
  (∀ (s : State) (desc : Nat), s.adm.request = some desc → s.live = true → s.on 3 = true → s.adm.lockPend = true →
    s.tm.k ≠ s.adm.lockK → ∃ t : State,
      exec .admissionLock s = .next (if t.on 6 then t.forAll ctxIdx State.contextAdmit else t) ∧
      t.fb F.ADM_STATUS.ADMITTED = true ∧ t.adm.lockPend = false ∧ t.adm.due = s.dueNow s.tm.k ∧
      t.f F.CE_START.CYC = s.ceStart % 2 ^ (F.CE_START.CYC.hi + 1 - F.CE_START.CYC.lo)) ∧
  (∀ (s : State) (i : Nat), i < 128 →
    (s.admitted = true → s.cst i = cDiscovered → s.ctxMatches i = true → (s.cell i).otherDrives ≠ some (s.tm.k - 1) →
      let t := s.contextAdmit i
      t.cst i = cAdmitted ∧ t.cInArm i = bitAt (s.naming i) 4 ∧ t.cArm i = fld (s.naming i) 7 5 ∧
      t.cClass i = fld (s.naming i) 3 0 ∧ (t.cell i).inStateK = s.tm.k) ∧
    ((s.admitted = false ∨ s.cst i ≠ cDiscovered ∨ s.ctxMatches i = false ∨
      (s.cell i).otherDrives = some (s.tm.k - 1)) → s.contextAdmit i = s)) ∧
  (∀ (s : State) (desc : Nat) (r : AdmResult), s.adm.request = some desc → s.adm.result = some r → s.live = true →
    s.on 3 = true → s.adm.lockPend = false → Completes .admissionResult s fun t =>
      t.adm.request = none ∧ t.adm.result = none ∧ t.adm.waiting = true ∧ t.fb F.ADM_STATUS.BUSY = false ∧
      t.f F.ADM_STATUS.CODE = r.code % 2 ^ (F.ADM_STATUS.CODE.hi + 1 - F.ADM_STATUS.CODE.lo) ∧
      t.fb F.ADM_STATUS.WARN = (decide (r.code = 0) && !r.warns.isEmpty) ∧
      t.reg R.ADM_FIGD = BitVec.ofNat 32 r.figd ∧ t.reg R.ADM_FIGA = BitVec.ofNat 32 r.figa ∧
      (∀ j (h : j < (resultWords r s.adm.tag).length),
        t.ldw (desc + 0x10 + 32 * s.adm.count + 4 * j) = (resultWords r s.adm.tag)[j]) ∧
      (∀ b, b < desc + 0x10 + 32 * s.adm.count → t.ldb b = s.ldb b)) ∧
  (∀ s : State, s.live = true → s.on 3 = true → s.adm.unloadReq = true → s.fb F.ADM_STATUS.UNLOADING = false →
    Completes .unload s fun t =>
      t.fb F.ADM_STATUS.UNLOADING = true ∧ t.adm.unloadReq = false ∧ t.adm.unloadK = s.tm.k ∧
      t.lnk = ((s.setB F.ADM_STATUS.UNLOADING true).forAll (ctxIdx.filter s.drives) State.stopPort).lnk ∧
      SameRegsBut [R.ADM_STATUS] s t ∧ SameMem s t) ∧
  (∀ s : State, s.live = true → s.fb F.ADM_STATUS.UNLOADING = true → s.tm.k ≠ s.adm.unloadK → s.on 6 = true →
    Completes .unloadDone s fun t =>
      t.fb F.ADM_STATUS.UNLOADING = false ∧ t.admitted = false ∧ t.adm.progs = [] ∧ t.adm.handlers = [] ∧
      t.adm.due = [] ∧ t.adm.waiting = true ∧ SameRegsBut [R.ADM_STATUS] s t ∧
      ∀ i, i ∈ ctxIdx → t.cst i = if s.drives i then cDiscovered else s.cst i)

/-- DISPATCH_PROGRAM, DEADLINE_MISS and DI_WINDOW_OVERRUN (07 R250, R251). -/
def Obligations.DispatchAndPolicing : Prop :=
  (∀ (s : State) (q : CoreId) (slot : Fin 8) (r : ProgramRec) (d : Nat × Nat × Nat), s.progRec q slot = some r →
    (s.adm.due.find? fun d => decide (d.1 = q.val ∧ d.2.1 = slot.val)) = some d → s.admitted = true → s.canRun q = true →
    (s.proc q).slot = none → (s.proc q).istack = [] →
    let start := s.boundary d.2.2 + r.start * 64
    (start + s.periodTicks < s.now → Completes (.dispatchProgram q slot) s fun t =>
      t.f (F.ADM_POL.SKIP q) = satAdd ((F.ADM_POL.SKIP q).hi + 1 - (F.ADM_POL.SKIP q).lo) (s.f (F.ADM_POL.SKIP q)) 1 ∧
      t.adm.due = s.adm.due.filter (fun x => decide (x ≠ d)) ∧ t.procs = s.procs ∧ SameRegsBut [R.ADM_POL q] s t) ∧
    (s.now ≤ start + s.periodTicks → start < 2 ^ 64 → Completes (.dispatchProgram q slot) s fun t =>
      t.now = max s.now start ∧ (t.proc q).pc = BitVec.ofNat 32 r.code ∧ (t.proc q).slot = some slot.val ∧
      (t.proc q).calls = [BitVec.ofNat 32 (dispatcherAt q)] ∧ (t.proc q).loops = [] ∧
      (t.proc q).slotEnd = s.boundary d.2.2 + r.deadline * 64 ∧ (t.proc q).missed = false ∧
      t.adm.due = s.adm.due.filter (fun x => decide (x ≠ d)) ∧ (∀ a, t.reg a = s.reg a) ∧ SameMem s t)) ∧
  (∀ (s : State) (q : CoreId) (slot : Fin 8), s.admitted = true → s.live = true → (s.proc q).slot = some slot.val →
    (s.proc q).missed = false → (s.proc q).slotEnd < 2 ^ 64 → ∃ t : State,
      exec (.deadlineMiss q slot) s = .next (t.raise 31) ∧ t.now = max s.now (s.proc q).slotEnd ∧
      t.proc q = { s.proc q with missed := true } ∧
      t.f (F.ADM_POL.DLMISS q) = satAdd ((F.ADM_POL.DLMISS q).hi + 1 - (F.ADM_POL.DLMISS q).lo) (s.f (F.ADM_POL.DLMISS q)) 1 ∧
      SameRegsBut [R.ADM_POL q] s t ∧ SameMem s t) ∧
  (∀ (s : State) (q : CoreId) (r : Nat), (s.proc q).diAt = some r → s.live = true → s.on (procDom q) = true →
    ieOf (s.proc q) = false → ∃ t : State, exec (.diWindowOverrun q) s = .next (t.raise 31) ∧
      (t.proc q).diAt = none ∧ (t.proc q).diDone = true ∧ (t.proc q).run = (s.proc q).run ∧
      t.f (F.ADM_POL.DIOVR q) = satAdd ((F.ADM_POL.DIOVR q).hi + 1 - (F.ADM_POL.DIOVR q).lo) (s.f (F.ADM_POL.DIOVR q)) 1 ∧
      SameRegsBut [R.ADM_POL q] s t ∧ SameMem s t)

/-- RING_SLOT, RING_PORT_UP, RING_PORT_BROKEN, RING_BAD_WORD, RING_NAK, RING_FRAMES_LOST, BREAK_NOTICE and MGMT_TRANSMIT (09
R276, R278 to R280, R282 to R286). -/
def Obligations.RingPortsSlotsAndLosses : Prop :=
  (∀ (s : State) (a b : Option (List Word)), s.queueSafety.rngOn = true → s.queueSafety.timeValid = true →
    s.queueSafety.ring.slot < s.queueSafety.f F.STM_PERIOD.P / 32 → Completes (.ringSlot a b) s fun t =>
      t.ring.slot = s.queueSafety.ring.slot + 1 ∧ t.ring.pa.poison = false ∧ t.ring.pb.poison = false ∧
      t.ring.pa.nak = false ∧ t.ring.pb.nak = false) ∧
  (∀ (s : State) (b : Bool),
    (s.rpEn b = true → s.f (rpField b) ≠ 2 → s.fb F.RNG_TOPO.BRKV = false → Completes (.ringPortUp b) s fun t =>
      t.f (rpField b) = 2 ∧ t.f (rpField !b) = s.f (rpField !b) ∧ OnlyRegs [R.RNG_STATUS] s t) ∧
    (s.rpUp b = true → s.rngJoined = false → Completes (.ringPortBroken b) s fun t =>
      t.f (rpField b) = 1 ∧ t.f (rpField !b) = s.f (rpField !b) ∧ OnlyRegs [R.RNG_STATUS] s t) ∧
    (s.rpUp b = true → s.rngJoined = true → Completes (.ringPortBroken b) s fun t =>
      t.f (rpField b) = 1 ∧ t.ring.brkPend = s.ring.brkPend ++ [if b then s.pos else (s.pos + s.nchip - 1) % s.nchip] ∧
      t.ring.outQ = s.ring.outQ ++ [{ msg := .notice 4 [if b then s.pos else (s.pos + s.nchip - 1) % s.nchip],
                                      a := b, b := !b }]) ∧
    (s.rpUp b = true → Completes (.ringBadWord b) s fun t =>
      (t.rp b).poison = true ∧ ((s.rp b).poison = false → (t.rp b).nak = true) ∧ (t.rp !b) = s.rp (!b) ∧
      t.f (if b then F.RNG_ERRB.BADWORDS else F.RNG_ERRA.BADWORDS) =
        wrapAdd 16 (s.f (if b then F.RNG_ERRB.BADWORDS else F.RNG_ERRA.BADWORDS)) 1 ∧ SameMem s t) ∧
    (∀ m, s.rpEn b = true → (s.rp b).kept.getLast? = some (m, false) → Completes (.ringNak b) s fun t =>
      (t.rp b).resend = m :: (s.rp b).resend ∧ (t.rp !b) = s.rp (!b) ∧ (∀ a, t.reg a = s.reg a) ∧ SameMem s t) ∧
    (∀ m, s.rpEn b = true → (s.rp b).kept.getLast? = some (m, true) → Completes (.ringNak b) s fun t =>
      (t.rp b).lossNow = true ∧ (t.rp b).resend = (s.rp b).resend ∧ SameRegsBut [R.RNG_LOST] s t) ∧
    (s.rngOn = true → (s.rp b).lossNow = true → Completes (.ringFramesLost b) s fun t =>
      OnlyRegs [R.RNG_LOST] s t) ∧
    (s.rngOn = true → (s.rp b).lossNow = false → ∃ t : State,
      (t.rp b).lossNow = true ∧ SameRegsBut [R.RNG_LOST] s t ∧
      t.f (if b then F.RNG_LOST.CONSB else F.RNG_LOST.CONSA) =
        min 3 (s.f (if b then F.RNG_LOST.CONSB else F.RNG_LOST.CONSA) + 1) ∧
      exec (.ringFramesLost b) s = .next
        (if s.f (if b then F.RNG_LOST.CONSB else F.RNG_LOST.CONSA) = 2 then t.raise 12 else t))) ∧
  (∀ (s : State) (u : Fin 64), s.rngOn = true → s.rngJoined = true → Completes (.breakNotice u) s fun t =>
    t.ring.brkPend = s.ring.brkPend ++ [u.val] ∧ t.ring.outQ = s.ring.outQ ∧ SameMem s t) ∧
  (∀ (s : State) (u : Nat), s.fb F.RNG_TOPO.BRKV = false → u < 64 →
    (s.applyBreak u).fb F.RNG_TOPO.BRKV = true ∧ (s.applyBreak u).f F.RNG_TOPO.BRKPOS = u) ∧
  (∀ (s : State) (dst : Fin 64) (bc bulk : Bool), s.on 9 = true → s.rngOn = true → s.fb F.RNG_MTXCTL.PEND = false →
    Completes (.mgmtTransmit dst bc bulk) s fun t =>
      t.fb F.RNG_MTXCTL.PEND = true ∧ t.f F.RNG_MTXCTL.DST = dst.val ∧ t.fb F.RNG_MTXCTL.BC = bc ∧
      t.fb F.RNG_MTXCTL.BULK = bulk ∧ SameRegsBut [R.RNG_MTXCTL] s t ∧
      ∃ g : List Word, g.length = 16 ∧ fClass g = (if bulk then 6 else 5) ∧ fDst g = dst.val ∧ fBc g = bc ∧
        (∀ w, w < 12 → fWord g (4 + w) = s.reg (R.RNG_MTX w)) ∧
        ∃ d, t.ring.outQ = s.ring.outQ ++ [{ msg := .frame g, a := bc || !d, b := bc || d, mtx := true }])

/-- REFB_RECEIVE, ESCROW_FRAME_RECEIVE, ARMCNT_RECEIVE, MGMT_FRAME_RECEIVE, BULK_FRAME_RECEIVE, RING_HOP_RECEIVE and
RING_BEACON_RECEIVE (09 R278, R279, R287 to R295, R498). -/
def Obligations.RingFramesReceived : Prop :=
  (∀ (s : State) (f : List Word), s.rngOn = true → s.rngJoined = true → fSrc f ≠ s.pos →
    fSrc f ∈ (s.hear f).1.ring.heard ∧ SameMem s (s.hear f).1 ∧
    ((s.hear f).2 = true → ((s.hear f).1.hear f).2 = false)) ∧
  (∀ (s : State) (f : List Word) (nshare : BitVec 8), fClass f = 2 → (s.hear f).2 = true →
    (s.hear f).1.fromMaster f = true → (s.hear f).1.rngJoined = true →
    Completes (.refbReceive f nshare) s fun t =>
      let u := (s.hear f).1
      let part := fld (fWord f 3) 7 0
      (∀ n, n < 12 → nshare.toNat ≤ 12 * part + n → 12 * part + n - nshare.toNat < 256 →
        tblGet (fun _ => (0 : Word)) t.ring.fw (12 * part + n - nshare.toNat) = fWord f (4 + n)) ∧
      (nshare.toNat ≤ 12 * part → t.cs = u.cs) ∧ (∀ a, t.reg a = u.reg a) ∧ SameMem u t) ∧
  (∀ (s : State) (f : List Word), fClass f = 2 → (s.hear f).2 = true → (s.hear f).1.fromMaster f = true →
    (s.hear f).1.rngJoined = true → fld (fWord f 3) 7 0 = 0 → fK f = BitVec.ofNat 32 (s.hear f).1.tm.k →
    fld (fWord f 4) 31 26 = (s.hear f).1.pos → Completes (.refbReceive f 1) s fun t =>
      (t.arm (fld (fWord f 4) 25 22)).share = BitVec.ofInt 32 (2 * sx 22 (fld (fWord f 4) 21 0)) ∧
      (t.arm (fld (fWord f 4) 25 22)).shareK = some (s.hear f).1.tm.k) ∧
  (∀ (s : State) (f : List Word), fClass f = 3 →
    let u := (s.hear f).1
    (s.hear f).2 = true → u.rngJoined = true → u.forMe f = true → fSrc f = u.f F.RNG_TOPO.BUDDYPOS →
    u.fb F.RNG_TOPO.BUDDYV = true → fK f = BitVec.ofNat 32 u.tm.k → u.on 6 = true →
    Completes (.escrowFrameReceive f) s fun t =>
      t.ring.escGot = true ∧ t.procs = u.procs ∧
      (∀ nn, fld (fWord f 3) 31 26 = nn → nn ≠ 0 → fld (fWord f 3) 25 20 = 0 → fld (fWord f 3) 19 14 = 0 →
        let i := if bitAt (fWord f 3) 13 then nn else nn + 64
        (t.cell i).recState = fld (fWord f 4) 31 29 ∧
        (u.drives i = false → t.ctx i 0xE8 = fWord f 4 ∧ t.ctx i 0xEC = BitVec.ofNat 32 u.tm.k) ∧
        (u.drives i = true → SameMem u t))) ∧
  (∀ (s : State) (f : List Word), fClass f = 5 → fld (fWord f 3) 31 24 = 0x20 → (s.hear f).2 = true →
    (s.hear f).1.on 6 = true → (∀ n, n < 12 → 1 ≤ n → fWord f (4 + n) = 0) →
    Completes (.armcntReceive f) s fun t =>
      (fWord f 4 ≠ 0 → fld (fWord f 4) 31 19 ≠ 0 →
        tblGet (fun _ => (0 : Nat)) t.cs.counts (countKey (fld (fWord f 4) 31 23) (fSrc f) (fld (fWord f 4) 22 19)) =
        fld (fWord f 4) 18 13 + 1) ∧ SameMem (s.hear f).1 t) ∧
  (∀ (s : State) (f : List Word), (s.hear f).2 = true → (s.hear f).1.forMe f = true →
    let u := (s.hear f).1
    (fClass f = 5 → fld (fWord f 3) 31 24 ≠ 0x20 → fld (fWord f 3) 31 24 ≠ 0x40 → fld (fWord f 3) 31 24 ≠ 0x41 →
      u.qOn 12 = true → (u.queue 12).length + 8 ≤ u.qCap 12 → Completes (.mgmtFrameReceive f) s fun t =>
        t.queue 12 = u.queue 12 ++ frameEntries f ∧ ∀ a, t.reg a = u.reg a) ∧
    (fClass f = 6 → u.qOn 13 = true → (u.queue 13).length + 8 ≤ u.qCap 13 → Completes (.bulkFrameReceive f) s fun t =>
        t.queue 13 = u.queue 13 ++ frameEntries f ∧ ∀ a, t.reg a = u.reg a)) ∧
  (∀ (s : State) (b : Bool) (f : List Word) (capture : Word), s.rpUp b = true → fClass f = 7 →
    Completes (.ringHopReceive b f capture) s fun t =>
      (t.rp b).rxLast = some (capture, fSeq f) ∧ (t.rp !b) = s.rp (!b) ∧
      ((s.rp b).rxLast = none → ∀ a, t.reg a = s.reg a) ∧ SameMem s t) ∧
  (∀ (s : State) (b : Bool) (f : List Word) (arrival : DWord), s.rpUp b = true → fClass f = 1 →
    (s.rngJoined = true → fSrc f = s.pos → Completes (.ringBeaconReceive b f arrival) s fun t =>
      (if b then t.ring.roundB else t.ring.roundA) = true ∧ SameMem s t) ∧
    ((s.rngJoined = false ∨ fSrc f ≠ s.pos) →
      ((s.hear f).1.follows = false ∨ (s.hear f).1.fromMaster f = false) →
      exec (.ringBeaconReceive b f arrival) s = .next (s.hear f).1) ∧
    ((s.rngJoined = false ∨ fSrc f ≠ s.pos) → (s.hear f).1.follows = true → (s.hear f).1.fromMaster f = true →
      fWord f 11 = 0 → fWord f 13 = 0 → ∃ u : State, u.f F.RNG_TOPO.MASTERPOS = fSrc f ∧
        OnlyRegs [R.RNG_TOPO] (s.hear f).1 u ∧
        exec (.ringBeaconReceive b f arrival) s = .next (if u.timeValid then
          u.errMeasure (meanI ((((fWord f 4).toNat + (fWord f 5).toNat * 2 ^ 32) * 16 + (fWord f 6).toNat +
            (s.hear f).1.f (if b then F.RNG_HOPB.DELAY else F.RNG_HOPA.DELAY) : Nat) - (arrival.toNat * 16 : Nat)) 16) b
          else u).timeAction))

/-- JOIN, JOIN_RECEIVE, GRANT_RECEIVE, ROLECMD_MASTER, ROLECMD_MEMBER, ROLE_SWAP, LEAVE, BUDDY_LOSS, OFFER_RECEIVE,
TAKEN_RECEIVE, TOKACK_RECEIVE, HANDOVER, HANDBACK, HANDOVER_CANCEL, HO_REQ_RECEIVE, HO_ACK_RECEIVE and TIME_TAKEBACK (01 R35,
R39; 02 R64; 09 R297 to R308). -/
def Obligations.RingRolesTakeoverAndHandover : Prop :=
  (∀ s : State, s.rngOn = true → s.rngJoined = false → s.grave = false → s.isMaster = false →
    Completes .join s fun t => t.ring.joining = true ∧ t.ring.joinWait = 0 ∧ (∀ a, t.reg a = s.reg a) ∧
      ((s.rpUp false = true ∨ s.rpUp true = true) → t.ring.outQ.length = s.ring.outQ.length + 1) ∧ SameMem s t) ∧
  (∀ (s : State) (serial : BitVec 48) (own : BitVec 8) (summary : DWord) (hops : Fin 64), s.rngOn = true →
    s.rngJoined = true → s.isMaster = true → s.fb F.RNG_STATUS.CONFLICT = false →
    (Completes (.joinReceive serial own summary hops true) s fun t =>
      t.ring.outQ = s.ring.outQ ++ [{ msg := .notice 3 [serial.toNat], a := true, b := true }] ∧ ∀ a, t.reg a = s.reg a) ∧
    (∀ m, m < 64 → ((List.range 64).filter fun m => s.fb (F.RNG_POS.VALID m)).find?
        (fun m => decide (s.posSerial m = serial.toNat)) = some m →
      Completes (.joinReceive serial own summary hops false) s fun t =>
        t.fb (F.RNG_POS.VALID m) = true ∧ t.fb (F.RNG_POS.PRESENT m) = true ∧ t.f (F.RNG_POS.GEN m) = own.toNat ∧
        t.posSerial m = serial.toNat ∧ tblGet (fun _ => (0 : Nat)) t.ring.posSums m = summary.toNat ∧ SameMem s t)) ∧
  (∀ (s : State) (g : Grant), s.rngOn = true → s.ring.joining = true → s.rngJoined = false →
    (g.refused = true → Completes (.grantReceive g) s fun t =>
      t.fb F.RNG_STATUS.JOINREF = true ∧ t.ring.joining = false ∧ SameRegsBut [R.RNG_STATUS] s t) ∧
    (g.refused = false → g.plans = false → Completes (.grantReceive g) s fun t =>
      t.f F.RNG_STATUS.POS = g.pos.val ∧ t.fb F.RNG_STATUS.OBSERVER = g.observer ∧ t.f F.STM_PERIOD.P = g.p.toNat ∧
      t.origin = g.origin.toNat ∧ t.f F.RNG_GEN.STACK = g.g.toNat ∧ t.f F.RNG_EPOCH.EPOCH = g.epoch.toNat ∧
      t.f F.RNG_STATUS.ROLE = (if g.standby then 2 else 3) ∧ t.ring.granted = true ∧ SameMem s t) ∧
    (g.refused = false → g.plans = true → s.f (F.FCU_REACT.REACT 20) ≠ 4 → ∃ t : State, exec (.grantReceive g) s =
        .next (t.ringEvent 14 t.pos 5 (t.f F.RNG_STATUS.ROLE)) ∧
      t.rngJoined = true ∧ t.joined = true ∧ t.ring.joining = false ∧ t.pos = g.pos.val ∧ t.origin = g.origin.toNat)) ∧
  (∀ s : State, s.on 9 = true → s.roleFree = true → s.rngJoined = false →
    (∃ t : State, exec .rolecmdMaster s = .next ((t.setRole 1).formOne) ∧ t.fb F.RNG_STATUS.CONFLICT = false ∧
      OnlyRegs [R.RNG_STATUS] s t) ∧
    (∃ t : State, exec .rolecmdMember s = .next (t.setRole 3) ∧ t.fb F.RNG_STATUS.CONFLICT = false ∧
      t.rngJoined = false ∧ t.f F.RNG_TOPO.NCHIP = 0 ∧ OnlyRegs [R.RNG_STATUS, R.STM_STATUS, R.RNG_TOPO] s t)) ∧
  (∀ (s : State) (r : Nat), r < 4 → s.timeValid = false → (s.setRole r).f F.RNG_STATUS.ROLE = r) ∧
  (∀ s : State, s.rngOn = true → s.rngJoined = true →
    (s.isMaster = true → Completes .roleSwap s fun t => t.ring.swapDue = true ∧ ∀ a, t.reg a = s.reg a) ∧
    (s.drivesCells = true → Completes .leave s fun t => t.fb F.RNG_STATUS.LEAVEREJ = true ∧ OnlyRegs [R.RNG_STATUS] s t) ∧
    (s.drivesCells = false → Completes .leave s fun t => t.ring.leaveDue = true ∧ ∀ a, t.reg a = s.reg a)) ∧
  (∀ s : State, s.rngOn = true → s.rngJoined = true → s.fb F.RNG_TOPO.BUDDYV = true → s.fb F.RNG_STATUS.BUDDYLOST = false →
    2 ≤ s.f F.RNG_ESCSTAT.MISSCONS → 2 ≤ s.ring.buddySilent → s.ring.ho = none → s.adm.escrowEmpty = true →
    s.f F.RNG_STATUS.ROLE = 2 → s.timeValid = false → Completes .buddyLoss s fun t =>
      t.fb F.RNG_STATUS.BUDDYLOST = true ∧ t.f F.RNG_STATUS.ROLE = 1 ∧ t.f F.RNG_TOPO.MASTERPOS = s.pos ∧
      t.f F.RNG_EPOCH.EPOCH = wrapAdd 16 (s.f F.RNG_EPOCH.EPOCH) 1) ∧
  (∀ (s : State) (cell : Fin 64), s.rngOn = true → cell.val ≠ 0 →
    (s.rngJoined = true → s.cst (cell.val + 64) = cEscrowed → s.recDrives (cell.val + 64) = true →
      s.takeOf (cell.val + 64) = none → ∃ t : State,
      exec (.offerReceive cell) s = .next (t.sendTake (cell.val + 64) (s.tm.k + 2) 1) ∧ t.tm = s.tm ∧ SameMem s t) ∧
    (∀ d, (s.cell cell).offerK = some d → Completes (.takenReceive cell) s fun t =>
      (t.cell cell).giveAt = some (max (s.tm.k + 1) (d + 2)) ∧ (∀ a, t.reg a = s.reg a) ∧ SameMem s t)) ∧
  (∀ (s : State) (i tb cause : Nat), (s.sendTake i tb cause).takeOf i =
    some { tb := tb, count := (match s.takeOf i with | some r => if r.cause = cause then r.count + 1 else 1 | none => 1),
           cause := cause,
           base := (match s.takeOf i with | some r => if r.cause = cause then r.base else none | none => none) } ∧
    ((s.sendTake i tb cause).cell i).takeAt = some tb) ∧
  (∀ (s : State) (p : PortId) (tb : BitVec 16) (r : TakeRec), s.rngOn = true → s.takeOf p.idx = some r →
    s.boundary r.tb % 65536 = tb.toNat → r.acked = false → Completes (.tokackReceive p tb) s fun t =>
      t.takeOf p.idx = some { r with acked := true } ∧ (∀ a, t.reg a = s.reg a) ∧ SameMem s t) ∧
  (∀ (s : State) (cell : Fin 64) (back : Bool), s.rngOn = true →
    let c := if back then Instr.handback cell else .handover cell
    (s.fb F.RNG_HOSTAT.BUSY = true → Completes c s fun t =>
      t.f F.RNG_HOSTAT.RESULT = 2 ∧ t.ring.ho = s.ring.ho ∧ t.fb F.RNG_HOSTAT.BUSY = true) ∧
    (s.fb F.RNG_HOSTAT.BUSY = false → s.buddyHere = true → s.fb F.RNG_STATUS.NOBUDDY = false →
      s.hoRefusal back back cell = 0 → Completes c s fun t =>
      t.fb F.RNG_HOSTAT.BUSY = true ∧ t.f F.RNG_HOSTAT.PHASE = 1 ∧ t.f F.RNG_HOSTAT.TBK = (s.tm.k + 4) % 65536 ∧
      t.ring.ho = some { back := back, cell := cell, mine := true, taking := back, tb := s.tm.k + 4 } ∧
      SameRegsBut [R.RNG_HOSTAT] s t)) ∧
  (∀ (s : State) (h : Handover), s.ring.ho = some h → s.rngOn = true → h.mine = true →
    (s.f F.RNG_HOSTAT.PHASE = 1 → exec .handoverCancel s = .next (s.hoEnd 7).mgmtSettle) ∧
    (∀ held : BitVec 64, h.sent = true → h.accepted = false → ∃ t : State,
      exec (.hoAckReceive 0 held) s = .next t.mgmtSettle ∧
      t.ring.ho = some { h with accepted := true, held := h.held ||| held.toNat } ∧ ∀ a, t.reg a = s.reg a) ∧
    (∀ (r : BitVec 8) (held : BitVec 64), h.sent = true → h.accepted = false → r ≠ 0 →
      exec (.hoAckReceive r held) s = .next (s.hoEnd r.toNat).mgmtSettle)) ∧
  (∀ (s : State) (r : Nat), r < 16 → s.fb F.STM_STATUS.THANDOVER = false →
    (s.hoEnd r).f F.RNG_HOSTAT.RESULT = r ∧ (s.hoEnd r).fb F.RNG_HOSTAT.BUSY = false ∧
    (s.hoEnd r).f F.RNG_HOSTAT.PHASE = 0 ∧ (s.hoEnd r).ring.ho = none) ∧
  (∀ (s : State) (back : Bool) (cell : Fin 64) (held : BitVec 64), s.rngOn = true → s.rngJoined = true →
    s.ring.ho = none → s.buddyHere = true → s.fb F.RNG_STATUS.OBSERVER = false → s.hoRefusal (!back) back cell = 0 →
    Completes (.hoReqReceive back cell held) s fun t =>
      t.fb F.RNG_HOSTAT.BUSY = true ∧ t.f F.RNG_HOSTAT.PHASE = 1 ∧ t.f F.RNG_HOSTAT.TBK = (s.tm.k + 3) % 65536 ∧
      (∃ m, t.ring.ho = some { back := back, cell := cell, mine := false, taking := !back, tb := s.tm.k + 3,
                               held := m ||| held.toNat, accepted := true, sent := true }) ∧ SameMem s t) ∧
  (∀ s : State, s.live = true → s.tm.takeBack = true → 64 ≤ s.tm.okPeriods → s.fb F.STM_STATUS.DRIFTBAD = false →
    s.f F.CLK_STATUS.SRC ≠ 3 → ∃ t : State, exec .timeTakeback s = .next (t.hoCommand true 0) ∧
      t.tm.takeBack = false ∧ t.tm.okPeriods = 0 ∧ (∀ a, t.reg a = s.reg a) ∧ SameMem s t)

/-- BRP_ENSET, BRP_ENCLR, SOFT_STOP_DONE, SHADOW_WRITE, SHADOW_COMMIT, SHADOW_DISCARD, FORCE_SET, FORCE_RELEASE,
PWM_BOUNDARY and PWM_EDGE (10 R314 to R321, R331). -/
def Obligations.BridgeChannelsAndShadow : Prop :=
  (∀ (s : State) (c : Fin 8), s.brpOn = true →
    let ch := BitVec.ofNat 8 (2 ^ c.val)
    (s.grave = false → s.fb (F.BRP_CFG.USE c) = true → s.safeHeld c = false → s.fb (F.BRP_STAT.STOPPING c) = false →
      s.brpRun c = false → Completes (.brpEnset ch) s fun t =>
        t.brpRun c = true ∧ t.fb (F.BRP_STAT.PENDEN c) = false ∧ t.reg (R.BRP_CARRY c) = 0 ∧
        (t.brpCh c).edges = [] ∧ (s.msr.gq = none → (t.brpCh c).bnd = some (s.brpStart c)) ∧
        (s.msr.gq = none → SameRegsBut [R.BRP_STAT c, R.BRP_CARRY c] s t) ∧ SameMem s t) ∧
    (s.grave = false → s.fb (F.BRP_CFG.USE c) = true → s.safeHeld c = false → s.fb (F.BRP_STAT.STOPPING c) = true →
      Completes (.brpEnset ch) s fun t => t.fb (F.BRP_STAT.PENDEN c) = true ∧ OnlyRegs [R.BRP_STAT c] s t) ∧
    (s.grave = true → exec (.brpEnset ch) s = .next s) ∧
    (s.fb (F.BRP_STAT.STOPPING c) = true → Completes (.brpEnclr ch) s fun t =>
      t.fb (F.BRP_STAT.PENDEN c) = false ∧ OnlyRegs [R.BRP_STAT c] s t) ∧
    (s.fb (F.BRP_STAT.STOPPING c) = false → s.brpRun c = true → s.brpLatched c = false → Completes (.brpEnclr ch) s fun t =>
      t.fb (F.BRP_STAT.STOPPING c) = true ∧ t.brpRun c = true ∧ OnlyRegs [R.BRP_STAT c] s t) ∧
    (s.fb (F.BRP_STAT.FORCED c) = true → s.safeHeld c = false → Completes (.forceRelease ch) s fun t =>
      (t.brpCh c).rel = true ∧ (∀ d, d ≠ c.val → t.brpCh d = s.brpCh d) ∧ ∀ a, t.reg a = s.reg a) ∧
    (∀ gates : BitVec 16, s.brpRun c = true → s.safeHeld c = false → s.fb (F.BRP_STAT.STOPPING c) = false →
      s.msr.gq = none → gates.getLsbD (2 * c.val) = true → gates.getLsbD (2 * c.val + 1) = true →
      Completes (.forceSet ch gates) s fun t => t.fb (F.BRP_STAT.ILK c) = true ∧ t.fb (F.BRP_STAT.FORCED c) = true ∧
        (t.brpCh c).ho = false ∧ (t.brpCh c).lo = false ∧ (t.brpCh c).edges = [] ∧ SameMem s t) ∧
    (∀ gates : BitVec 16, s.brpRun c = true → s.safeHeld c = false → s.msr.gq = none →
      gates.getLsbD (2 * c.val) = (s.brpCh c).lo → gates.getLsbD (2 * c.val + 1) = (s.brpCh c).ho →
      ¬ ((s.brpCh c).lo = true ∧ (s.brpCh c).ho = true) → Completes (.forceSet ch gates) s fun t =>
        t.fb (F.BRP_STAT.FORCED c) = true ∧ t.fb (F.BRP_STAT.ILK c) = false ∧ (t.brpCh c).edges = [] ∧
        (t.brpCh c).ho = (s.brpCh c).ho ∧ (t.brpCh c).lo = (s.brpCh c).lo ∧ SameMem s t)) ∧
  (∀ (s : State) (set rel ens enc : BitVec 8) (gates : BitVec 16), s.brpOn = false →
    exec (.forceSet set gates) s = .next s ∧ exec (.forceRelease rel) s = .next s ∧
    exec (.brpEnset ens) s = .next s ∧ exec (.brpEnclr enc) s = .next s) ∧
  (∀ (s : State) (c : Fin 8) (e : Nat), s.brpOn = true → (s.brpCh c).softEnd = some e → e < 2 ^ 64 →
    s.fb (F.BRP_STAT.PENDEN c) = false → Completes (.softStopDone c) s fun t =>
      t.now = max s.now e ∧ t.brpRun c = false ∧ t.fb (F.BRP_STAT.STOPPING c) = false ∧
      t.fb (F.BRP_STAT.STOPDONE c) = true ∧ (t.brpCh c).ho = false ∧ (t.brpCh c).lo = false ∧
      (t.brpCh c).bnd = none ∧ (t.brpCh c).softEnd = none ∧ SameMem s t) ∧
  (∀ (s : State) (c : Fin 8) (duty : Bool) (v : BitVec 24), s.brpOn = true →
    Completes (.shadowWrite .core0 c duty v) s fun t =>
      t.f (if duty then F.BRP_DUTY.VALUE c else F.BRP_PER.VALUE c) = v.toNat ∧ t.fb (F.BRP_SHCTL.DIRTY c) = true ∧
      t.fb (F.BRP_SHCTL.COMMITTED c) = false ∧ t.fb (F.BRP_SHCTL.CEPEND c) = false ∧ (t.brpCh c).procWr = true ∧
      SameRegsBut [if duty then R.BRP_DUTY c else R.BRP_PER c, R.BRP_SHCTL c] s t ∧ SameMem s t) ∧
  (∀ (s : State) (c : Fin 8), s.brpOn = true →
    (s.fb (F.BRP_SHCTL.DIRTY c) = true → Completes (.shadowCommit c) s fun t =>
      t.fb (F.BRP_SHCTL.COMMITTED c) = true ∧ OnlyRegs [R.BRP_SHCTL c] s t) ∧
    (s.fb (F.BRP_SHCTL.DIRTY c) = false → exec (.shadowCommit c) s = .next s) ∧
    (Completes (.shadowDiscard c) s fun t =>
      t.f (F.BRP_PER.VALUE c) = s.f (F.BRP_ACTPER.VALUE c) ∧ t.f (F.BRP_DUTY.VALUE c) = s.f (F.BRP_ACTDUTY.VALUE c) ∧
      t.fb (F.BRP_SHCTL.DIRTY c) = false ∧ t.fb (F.BRP_SHCTL.COMMITTED c) = false ∧
      SameRegsBut [R.BRP_PER c, R.BRP_DUTY c, R.BRP_SHCTL c] s t ∧ SameMem s t)) ∧
  (∀ (s : State) (c : Nat), c < 8 → s.fb (F.BRP_SHCTL.COMMITTED c) = true →
    (s.transferSet c).f (F.BRP_ACTPER.VALUE c) = s.f (F.BRP_PER.VALUE c) ∧
    (s.transferSet c).f (F.BRP_ACTDUTY.VALUE c) = s.f (F.BRP_DUTY.VALUE c) ∧
    (s.transferSet c).fb (F.BRP_SHCTL.COMMITTED c) = false) ∧
  (∀ (s : State) (c : Fin 8) (b : Nat), s.brpOn = true → s.brpRun c = true → s.timeValid = true →
    (s.brpCh c).bnd = some b → b < 2 ^ 64 → s.fb (F.BRP_STAT.STOPPING c) = false → s.fb (F.BRP_STAT.FORCED c) = false →
    (s.brpCh c).rel = false → Completes (.pwmBoundary c) s fun t =>
      t.now = max s.now b ∧
      (t.brpCh c).bnd = some (b + max 1 (((s.advanceTo b).transferSet c).f (F.BRP_ACTPER.VALUE c)))) ∧
  (∀ (s : State) (c : Fin 8) (e : GateEdge), s.brpOn = true → s.timeValid = true → (s.brpCh c).edges = [e] →
    e.at_ < 2 ^ 64 → ∃ t : State, exec (.pwmEdge c) s = .next (t.doEdge c e.hi e.on) ∧ t.now = max s.now e.at_ ∧
      (t.brpCh c).edges = [] ∧ ∀ a, t.reg a = s.reg a) ∧
  (∀ (s : State) (c : Nat) (hi : Bool), c < 8 →
    let lvl := fun (t : State) => if hi then (t.brpCh c).ho else (t.brpCh c).lo
    lvl (s.doEdge c hi false) = false ∧
    (s.brpHeld c = false → s.fb (F.BRP_STAT.BOOTLOW c) = false → lvl (s.doEdge c hi true) = true)) ∧
  (∀ (raw : Int) (per dt tmin : Nat), 0 ≤ raw → raw ≤ per → tmin ≤ raw.toNat → raw.toNat + 2 * dt + tmin ≤ per →
    raw ≠ 0 → formPeriod raw per dt tmin false = (.edges raw.toNat, 0, false))

/-- BOTHON_SENSED, BOOTSTRAP_UNDERVOLTAGE, BOOTLOW_CHANGE, SHORT_CIRCUIT, TRIP_INPUT, TRIP_BLANK_END, CLEAR_SC, CLEAR_BOOT,
CLEAR_TRIP, VGD_LOW and VGD_RECOVER (10 R313, R323, R325 to R329). -/
def Obligations.BridgeFaultLatches : Prop :=
  (∀ (s : State) (c : Nat) (x : Field), c < 8 →
    x = F.BRP_STAT.SC c ∨ x = F.BRP_STAT.BOOTUV c ∨ x = F.BRP_STAT.TRIP c ∨ x = F.BRP_STAT.BOTHON c →
    s.fb (F.BRP_STAT.STOPPING c) = false →
    let t := s.latchBrp c x
    t.fb x = true ∧ (t.brpCh c).ho = false ∧ (t.brpCh c).lo = false ∧ t.reg (R.BRP_CARRY c) = 0 ∧
    (∀ d, d ≠ c → t.brpCh d = s.brpCh d) ∧ SameMem s t) ∧
  (∀ (s : State) (c : Fin 8), s.brpOn = true →
    (exec (.bothonSensed c) s = .next ((s.latchBrp c (F.BRP_STAT.BOTHON c)).raise 3)) ∧
    (s.fb (F.BRP_SC.EN c) = true → (s.brpCh c).roseAt = none →
      exec (.shortCircuit c) s = .next (s.rose (s.latchBrp c (F.BRP_STAT.SC c)) [21])) ∧
    (s.fb (F.BRP_SC.EN c) = false → exec (.shortCircuit c) s = .next s) ∧
    ((s.brpCh c).ho = true → ∃ t : State, t.fb (F.BRP_STAT.BOOTLOW c) = true ∧ OnlyRegs [R.BRP_STAT c] s t ∧
      exec (.bootstrapUndervoltage c) s = .next (s.rose (t.latchBrp c (F.BRP_STAT.BOOTUV c)) [22]) ∧
      exec (.bootlowChange c true) s = exec (.bootstrapUndervoltage c) s) ∧
    ((s.brpCh c).ho = false → s.brpRun c = false → Completes (.bootstrapUndervoltage c) s fun t =>
      t.fb (F.BRP_STAT.BOOTLOW c) = true ∧ OnlyRegs [R.BRP_STAT c] s t) ∧
    (Completes (.bootlowChange c false) s fun t =>
      t.fb (F.BRP_STAT.BOOTLOW c) = false ∧ OnlyRegs [R.BRP_STAT c] s t)) ∧
  (∀ (s : State) (n : Fin 8), s.brpOn = true →
    (s.tripActive n = true → exec (.tripInput n) s = .next (s.showTrips.tripStop n)) ∧
    (s.tripActive n = false → exec (.tripInput n) s = .next s) ∧
    (∀ e, s.blankEnd n = some e → e < 2 ^ 64 → s.tripOut n = false → Completes (.tripBlankEnd n) s fun t =>
      t.now = max s.now e ∧ t.blankEnd n = none ∧ SameRegsBut [R.BRP_TRIPSTAT] s t ∧ SameMem s t) ∧
    (∀ e, s.blankEnd n = some e → s.tripOut n = true → s.fb (F.BRP_TRIP.EN n) = true → ∃ t : State,
      exec (.tripBlankEnd n) s = .next (t.tripStop n) ∧ t.blankEnd n = none ∧ t.tripActive n = true ∧
      SameRegsBut [R.BRP_TRIPSTAT] s t) ∧
    (∀ c, c < 8 → (List.range 8).filter (fun c => bitAt (s.reg (R.BRP_TRIP n)) (16 + c)) = [c] →
      s.tripStop n = s.rose (s.latchBrp c (F.BRP_STAT.TRIP c)) [23])) ∧
  (∀ (s : State) (c : Fin 8), s.brpOn = true →
    let ch := BitVec.ofNat 8 (2 ^ c.val)
    (Completes (.clearSc ch) s fun t => t.fb (F.BRP_STAT.SC c) = false ∧ OnlyRegs [R.BRP_STAT c] s t) ∧
    (Completes (.clearBoot ch) s fun t => t.fb (F.BRP_STAT.BOOTUV c) = false ∧ OnlyRegs [R.BRP_STAT c] s t) ∧
    ((∀ n, n < 8 → s.tripActive n = false) → ∃ t : State, exec (.clearTrip ch) s = .next (s.rose t [23]) ∧
      t.fb (F.BRP_STAT.TRIP c) = false ∧ OnlyRegs [R.BRP_STAT c] s t)) ∧
  (∀ s : State, s.brpOn = true →
    (Completes .vgdLow s fun t => t.fb F.BRP_CTRL.VGDLOW = true ∧
      (∀ c, c < 8 → (t.brpCh c).ho = false ∧ (t.brpCh c).lo = false) ∧
      (∀ c : Nat, c < 8 → t.reg (R.BRP_STAT c) = s.reg (R.BRP_STAT c)) ∧ SameMem s t) ∧
    (Completes .vgdRecover s fun t => t.fb F.BRP_CTRL.VGDLOW = false ∧ OnlyRegs [R.BRP_CTRL] s t))

/-- SAR_CONVERSION, OFFSET_CONVERSION, SIGMA_DELTA_OUTPUT, COMPARATOR_OUTPUT, COMPARATOR_THRESHOLD_WRITE,
SUPPLY_OUT_OF_WINDOW, SUPPLY_IN_WINDOW, JUNCTION_TEMPERATURE_HIGH and JUNCTION_TEMPERATURE_NORMAL (11 R333 to R341). -/
def Obligations.MeasurementResultsAndMonitors : Prop :=
  let cur := fun (t : State) (c : Nat) => tblGet (fun _ => (0 : Word)) t.msr.cur c
  (∀ (s : State) (e : Fin 32) (code : BitVec 16) (slot : Nat), s.sarOn (decide (16 ≤ e.val)) = true →
    ((s.sarPlan (decide (16 ≤ e.val))).find? fun x => x.1 == e.val) = some (e.val, slot) →
    s.msr.sarDone.contains e.val = false → ∃ t : State,
      let b := decide (16 ≤ e.val)
      let inv := !s.fb (F.MSR_OFF.VALID (b2n b)) || s.msr.rails.testBit 3
      let v := (code.toNat : Int) - nearest (s.sarOff b) 256
      let sample := s.boundary s.tm.k + slot * 6400
      exec (.sarConversion e code) s = .next (if s.fb (F.MSR_SEQ.QEN e) then t.hwPush 27 (BitVec.ofNat 64
        (e.val * 2 ^ 58 + b2n inv * 2 ^ 57 + sample / 64 % 2 ^ 24 * 2 ^ 32 + ux 32 v)) else t) ∧
      cur t e = BitVec.ofNat 32 (b2n inv * 2 ^ 31 + ux 30 v) ∧ e.val ∈ t.msr.fresh ∧ e.val ∈ t.msr.sarDone ∧
      (∀ c, c ≠ e.val → cur t c = cur s c) ∧ t.now = (s.advanceTo (sample + 5760)).now ∧ (∀ a, t.reg a = s.reg a) ∧
      SameMem s t) ∧
  (∀ (s : State) (b : Bool) (code : BitVec 16), s.sarOn b = true →
    let o := s.sarOff b
    (256 * code.toInt - o) % 16 = 0 → -8388608 ≤ o + (256 * code.toInt - o) / 16 → o + (256 * code.toInt - o) / 16 < 8388608 →
    Completes (.offsetConversion b code) s fun t =>
      t.sarOff b = o + (256 * code.toInt - o) / 16 ∧
      t.fb (F.MSR_OFF.VALID (b2n b)) = decide (16 ≤ tblGet (fun _ => (0 : Nat)) s.msr.offN (b2n b) + 1) ∧
      SameRegsBut [R.MSR_OFF (b2n b), R.MSR_STATUS] s t ∧ SameMem s t) ∧
  (∀ (s : State) (i : Fin 8) (v : BitVec 30) (stuck : Bool), s.msrOn = true → s.fb F.MSR_CTRL.SDEN = true →
    s.fb (F.MSR_SDCFG.EN i) = true → Completes (.sigmaDeltaOutput i v stuck) s fun t =>
      let n := tblGet (fun _ => (0 : Nat)) s.msr.sdN i
      (cur t (32 + i.val)).extractLsb' 0 30 = v ∧
      bitAt (cur t (32 + i.val)) 31 = (decide (n < 3) || (s.mclk (s.f (F.MSR_SDCFG.CLK i))).windowEnd.isSome || stuck) ∧
      tblGet (fun _ => (0 : Nat)) t.msr.sdN i = min 3 (n + 1) ∧ bitAt (t.reg R.MSR_STATUS) (24 + i.val) = stuck ∧
      SameRegsBut [R.MSR_STATUS] s t ∧ SameMem s t) ∧
  (∀ (s : State) (n : Fin 8) (out : Bool), s.msrOn = true → s.fb F.MSR_CTRL.CMPEN = true → s.fb (F.MSR_CMP.EN n) = true →
    tblGet (fun _ => (0 : Nat)) s.msr.cmpAt n = 0 → Completes (.comparatorOutput n out) s fun t =>
      bitAt (t.reg R.MSR_CMPSTAT) n = out ∧ SameRegsBut [R.MSR_CMPSTAT, R.BRP_TRIPSTAT] s t ∧ SameMem s t) ∧
  (∀ (s : State) (n : Fin 8) (thr : BitVec 8), s.on 11 = true → s.live = true →
    Completes (.comparatorThresholdWrite n thr) s fun t =>
      t.f (F.MSR_CMP.THR n) = thr.toNat ∧ tblGet (fun _ => (0 : Nat)) t.msr.cmpAt n = s.tm.refclk + 1 ∧
      SameRegsBut [R.MSR_CMP n] s t ∧ SameMem s t) ∧
  (∀ (s : State) (rail : Fin 6) (mv : BitVec 16), s.live = true → s.on 11 = true →
    let shows := fun (c : Instr) (out : Bool) => ∃ u v : State, exec c s = .next (u.rose v [24]) ∧
      v.msr.rails = putBit s.msr.rails rail out ∧ v.fb F.MSR_STATUS.SUPPLY = decide (v.msr.rails ≠ 0) ∧
      (cur v (48 + rail.val)).toNat = mv.toNat ∧ (∀ a, u.reg a = s.reg a) ∧ u.msr.rails = s.msr.rails ∧
      SameRegsBut [R.MSR_STATUS] s v ∧ SameMem s v
    shows (.supplyOutOfWindow rail mv) true ∧ shows (.supplyInWindow rail mv) false) ∧
  (∀ (s : State) (n : Fin 4) (q : BitVec 12), s.live = true → s.on 11 = true →
    (sx 12 (s.f F.MSR_TJLIM.TJHI) ≤ q.toInt → ∃ v : State, exec (.junctionTemperatureHigh n q) s = .next (s.rose v [25]) ∧
      v.fb F.MSR_STATUS.TJHI = true ∧ cur v (56 + n.val) = BitVec.ofNat 32 (ux 30 q.toInt) ∧
      SameRegsBut [R.MSR_STATUS] s v ∧ SameMem s v) ∧
    (q.toInt < sx 12 (s.f F.MSR_TJLIM.TJHI) → Completes (.junctionTemperatureHigh n q) s fun t =>
      cur t (56 + n.val) = BitVec.ofNat 32 (ux 30 q.toInt) ∧ (∀ a, t.reg a = s.reg a) ∧ SameMem s t)) ∧
  (∀ (s : State) (qs : BitVec 48), s.live = true → s.on 11 = true →
    let low := ∀ n, n < 4 → (qs.extractLsb' (12 * n) 12).toInt + 20 ≤ sx 12 (s.f F.MSR_TJLIM.TJHI)
    Completes (.junctionTemperatureNormal qs) s fun t =>
      (low → t.fb F.MSR_STATUS.TJHI = false) ∧ (¬ low → t.fb F.MSR_STATUS.TJHI = s.fb F.MSR_STATUS.TJHI) ∧
      (∀ n, n < 4 → cur t (56 + n) = BitVec.ofNat 32 (ux 30 (qs.extractLsb' (12 * n) 12).toInt)) ∧
      SameRegsBut [R.MSR_STATUS] s t ∧ SameMem s t) ∧
  (∀ s : State, s.live = true → s.on 11 = true →
    let t := s.resultLatch
    (∀ c, c < 64 → (∀ i, i < 32 → (t.reg (R.MSR_RES c)).getLsbD i =
      if i = 30 then !s.msr.fresh.contains c else (cur s c).getLsbD i)) ∧ t.msr.fresh = [] ∧ t.msr.sarDone = [] ∧ SameMem s t)

/-- SERIAL_ACCEPT, TRIMSET_WRITE, GATE_CHARGE_MEASURE and GATE_CHARGE_DONE (11 R343, R344, R350, R351). -/
def Obligations.SerialsGateChargeAndTrims : Prop :=
  (∀ (s : State) (lo : Word), s.on 11 = true → Completes (.serialAccept lo) s fun t =>
    t.msr.serReq = some (s.f F.MSR_SERHI.CTX, s.f F.MSR_SERHI.SER * 2 ^ 32 + lo.toNat) ∧
    (∀ a, t.reg a = s.reg a) ∧ SameMem s t) ∧
  (∀ (s : State) (i : Nat), i < 128 → s.on 6 = true →
    (s.ctxSerial i = 0 → s.portSerial i < 2 ^ 48 → (s.serialRecord i).ctxSerial i = s.portSerial i ∧
      (s.serialRecord i).ctx i 0x180 = 0x40000000#32 ∧ (s.serialRecord i).ctx i 0x184 = s.reg R.MSR_PINIT ∧
      ∀ a, (s.serialRecord i).reg a = s.reg a) ∧
    (s.ctxSerial i ≠ 0 → s.ctxSerial i = s.portSerial i → s.serialRecord i = s) ∧
    (s.ctxSerial i ≠ 0 → s.ctxSerial i ≠ s.portSerial i → s.on 11 = true → s.serNew i = false → ∃ t : State,
      s.serialRecord i = t.note 12 2 i ∧ t.serNew i = true ∧ t.fb F.MSR_STATUS.SERNEW = true ∧ t.mem = s.mem)) ∧
  (∀ (s : State) (c : Fin 8) (hs hsok : Bool), s.live = true → s.on 11 = true →
    let ok := s.commission = true ∧ s.fb (F.BRP_CFG.USE c) = true ∧ s.brpRun c = false ∧ s.brpLatched c = false ∧
      s.fb F.BRP_CTRL.VGDLOW = false ∧ s.msr.gq = none ∧ (hs = true → hsok = true)
    (ok → Completes (.gateChargeMeasure c hs hsok) s fun t =>
      t.msr.gq = some (c.val, hs) ∧ t.fb F.MSR_GQRES.BUSY = true ∧ (t.brpCh c).lo = true ∧
      SameRegsBut [R.MSR_GQRES] s t ∧ SameMem s t) ∧
    (¬ ok → Completes (.gateChargeMeasure c hs hsok) s fun t =>
      t.f F.MSR_GQRES.RES = 4 ∧ t.msr = s.msr ∧ OnlyRegs [R.MSR_GQRES] s t)) ∧
  (∀ (s : State) (c : Nat) (hs : Bool) (qg : BitVec 16), s.msr.gq = some (c, hs) → c < 8 → s.live = true → s.on 11 = true →
    Completes (.gateChargeDone qg) s fun t =>
      t.msr.gq = none ∧ t.fb F.MSR_GQRES.BUSY = false ∧ t.f F.MSR_GQRES.QG = qg.toNat ∧ t.fb F.MSR_GQRES.SIDE = hs ∧
      t.fb F.MSR_STATUS.GQDONE = true ∧ (t.brpCh c).lo = false ∧ (t.brpCh c).ho = false ∧
      t.f F.MSR_GQRES.RES = (if qg.toNat < 20 then 1 else if qg.toNat < s.f F.MSR_GQWIN.QMIN then 2
        else if s.f F.MSR_GQWIN.QMAX < qg.toNat then 3 else 0) ∧ SameMem s t) ∧
  (∀ (s : State) (fall : Bool) (i : BitVec 7) (gate : Fin 16) (trim : BitVec 12), s.on 11 = true → s.on 6 = true →
    i.toNat ∈ ctxIdx →
    ((groupMask (s.cClass i.toNat) 0).testBit gate = false → Completes (.trimsetWrite fall i gate trim) s fun t =>
      t.trim i.toNat gate (!fall) = trim.toInt ∧ t.trim i.toNat gate fall = s.trim i.toNat gate fall ∧
      pairKey i.toNat gate (!fall) ∈ t.msr.changed ∧ ∀ a, t.reg a = s.reg a) ∧
    ((groupMask (s.cClass i.toNat) 0).testBit gate = true → exec (.trimsetWrite fall i gate trim) s = .next s))

/-- FAULT_SOURCE_SET, DUAL_RAIL_EQUAL and FAULT_INJECT (12 R353 to R364, R375). The record joins the Ledger buffer
where it has room. -/
def Obligations.FaultBitsAndReactions : Prop :=
  let rec' := fun (s : State) (src code data : Nat) => (⟨s.tm.count,
    BitVec.ofNat 16 (b2n (!s.timeValid) * 0x8000 + 5 * 256 + src), BitVec.ofNat 16 code, BitVec.ofNat 32 data⟩ : LedgerRec)
  (∀ (s : State) (src : Fin 64) (unit : Fin 6), s.live = true → s.fsw src = true →
    Completes (.faultSourceSet src unit) s fun t =>
      t.f (F.FCU_REACT.COUNT src) = min 255 (s.f (F.FCU_REACT.COUNT src) + 1) ∧ OnlyRegs [R.FCU_REACT src] s t) ∧
  (∀ (s : State) (src : Fin 64) (unit : Fin 6), s.live = true → s.fsw src = false → s.f (F.FCU_REACT.REACT src) ≤ 2 →
    s.f (F.FCU_REACT.CLASS src) ≠ 4 → s.fcu.ledger.length < 32 → Completes (.faultSourceSet src unit) s fun t =>
      t.f (F.FCU_REACT.COUNT src) = min 255 (s.f (F.FCU_REACT.COUNT src) + 1) ∧ t.fsw src = true ∧
      (s.fb F.FCU_FSRC.VALID = false → t.fb F.FCU_FSRC.VALID = true ∧ t.f F.FCU_FSRC.SRC = src.val ∧
        t.f F.FCU_FSRC.CLASS = s.f (F.FCU_REACT.CLASS src) ∧ t.f F.FCU_FSRC.NLATER = 0 ∧ t.fb F.FCU_FSRC.OVF = false ∧
        t.fb F.FCU_FSRC.TINV = !s.timeValid ∧
        t.reg R.FCU_FTIMEHI ++ t.reg R.FCU_FTIMELO = s.tm.count) ∧
      (s.fb F.FCU_FSRC.VALID = true → t.fb F.FCU_FSRC.VALID = true ∧ t.fb F.FCU_FSRC.OVF = true ∧
        t.f F.FCU_FSRC.NLATER = min 255 (s.f F.FCU_FSRC.NLATER + 1) ∧ t.f F.FCU_FSRC.SRC = s.f F.FCU_FSRC.SRC ∧
        t.reg R.FCU_FTIMELO = s.reg R.FCU_FTIMELO ∧ t.reg R.FCU_FTIMEHI = s.reg R.FCU_FTIMEHI) ∧
      t.fcu = { s.fcu with ledger := s.fcu.ledger ++ [rec' s src 1 (b2n (!s.fb F.FCU_FSRC.VALID) * 0x200 +
        b2n (s.fb F.FCU_FSRC.VALID) * 0x100 + s.f (F.FCU_REACT.CLASS src) * 0x10 + s.f (F.FCU_REACT.REACT src))] } ∧
      SameRegsBut [R.FCU_REACT src, (fswField src).addr, R.FCU_FSRC, R.FCU_FTIMELO, R.FCU_FTIMEHI] s t ∧
      t = { s with regs := t.regs, fcu := t.fcu }) ∧
  (∀ (s : State) (src : Fin 64) (unit : Fin 6), s.live = true → s.fsw src = false → s.f (F.FCU_REACT.REACT src) ≤ 2 →
    s.f (F.FCU_REACT.CLASS src) = 4 → s.fcu.ledger.length < 31 → Completes (.faultSourceSet src unit) s fun t =>
      t.fsw src = true ∧ bitAt (t.reg R.FCU_GRAVE) (src.val % 8) = true ∧
      t.f F.FCU_GRAVE.SECS = (if s.grave then s.f F.FCU_GRAVE.SECS else min (s.f F.SYSC_BSEC.SECS) (2 ^ 24 - 1)) ∧
      (∃ r, t.fcu.ledger = s.fcu.ledger ++ [r, rec' s src 3 src]) ∧
      SameRegsBut [R.FCU_REACT src, (fswField src).addr, R.FCU_FSRC, R.FCU_FTIMELO, R.FCU_FTIMEHI, R.FCU_GRAVE] s t) ∧
  (∀ (s : State) (unit : Fin 6), s.live = true → s.fsw 26 = false → s.f (F.FCU_REACT.REACT 26) = 3 →
    s.f (F.FCU_REACT.CLASS 26) ≠ 4 → Completes (.faultSourceSet 26 unit) s fun t =>
      t.fsw 26 = true ∧ t.proc unit = { run := if s.admitted then .restart else .dead } ∧
      (∀ q, q ≠ unit.val → t.proc q = s.proc q) ∧ SameMem s t) ∧
  (∀ (s : State) (src : Fin 64) (unit : Fin 6), s.live = true → s.fsw src = false → s.f (F.FCU_REACT.REACT src) = 4 →
    Completes (.faultSourceSet src unit) s fun t =>
      t.pwr.inReset = true ∧ t.f F.FCU_RSTCAUSE.CAUSE = 2 ∧ t.f F.FCU_RSTCAUSE.SRC = src.val ∧ t.live = false) ∧
  (∀ (s : State) (src : Fin 8), s.live = true → s.fsw src = true → s.fcu.ledger.length < 32 →
    Completes (.dualRailEqual src) s fun t => bitAt (t.reg R.FCU_RAIL) src = true ∧ t.fsw src = true ∧
      t.fcu.ledger = s.fcu.ledger ++ (if bitAt (s.reg R.FCU_RAIL) src then [] else [rec' s src 0x11 src]) ∧
      SameRegsBut [R.FCU_RAIL, R.FCU_REACT src] s t) ∧
  (∀ (s : State) (rail : Bool) (src : Fin 64), s.fb F.FCU_CTRL.INJEN = false → exec (.faultInject rail src) s = .next s)

/-- FSW_CLEAR, FSRC_REARM, REACT_WRITE, FCU_SWSET, FCU_SWCLR, WATCHDOG_KICK, WATCHDOG_EXPIRY, LEDGER_WRITE and
FIRMWARE_RECORD (12 R353, R356, R357, R361, R366, R367, R369, R371, R373). -/
def Obligations.FaultRegistersWatchdogsAndLedger : Prop :=
  (∀ (s : State) (req : Requester) (lo hi : Word), s.on 2 = true → Completes (.fswClear req lo hi) s fun t =>
    (∀ src, src < 64 → t.fsw src = (s.fsw src && !((if src < 32 then bitAt lo src else bitAt hi (src - 32)) &&
      !s.level src && (decide (8 ≤ src) || (decide (req = .pair) && !bitAt (s.reg R.FCU_GRAVE) src))))) ∧
    t.fb F.FCU_CTRL.PRIVREJ = (s.fb F.FCU_CTRL.PRIVREJ || (decide (req ≠ .pair) && decide (fld lo 7 0 ≠ 0))) ∧
    SameRegsBut ([R.FCU_FSW0, R.FCU_FSW1, R.FCU_CTRL, R.FCU_RAIL] ++ (List.range 8).map R.BRP_STAT) s t ∧
    t = { s with regs := t.regs }) ∧
  (∀ s : State, s.on 2 = true → Completes .fsrcRearm s fun t => t.reg R.FCU_FSRC = 0 ∧ t.reg R.FCU_FTIMELO = 0 ∧
    t.reg R.FCU_FTIMEHI = 0 ∧ OnlyRegs [R.FCU_FSRC, R.FCU_FTIMELO, R.FCU_FTIMEHI] s t) ∧
  (∀ (s : State) (src : Fin 64) (v : Word), s.on 2 = true → s.admitted = false →
    let ok := fld v 2 0 ≤ 4 ∧ (fld v 2 0 = 3 → src.val = 26 ∨ src.val = 29) ∧
      (src.val < 8 → fld v 2 0 = 2 ∨ fld v 2 0 = 4) ∧ (32 ≤ src.val → 1 ≤ fld v 10 8 ∧ fld v 10 8 ≤ 3)
    (ok → Completes (.reactWrite src v) s fun t =>
      t.f (F.FCU_REACT.REACT src) = fld v 2 0 ∧ t.f (F.FCU_REACT.COUNT src) = s.f (F.FCU_REACT.COUNT src) ∧
      t.fb (F.FCU_REACT.ERREN src) = (if src.val < 8 then s.fb (F.FCU_REACT.ERREN src) else bitAt v 31) ∧
      t.f (F.FCU_REACT.CLASS src) = (if src.val < 32 then s.f (F.FCU_REACT.CLASS src) else fld v 10 8) ∧
      OnlyRegs [R.FCU_REACT src] s t) ∧
    (¬ ok → Completes (.reactWrite src v) s fun t => t.fb F.FCU_CTRL.REACTREJ = true ∧
      t.reg (R.FCU_REACT src) = s.reg (R.FCU_REACT src) ∧ OnlyRegs [R.FCU_CTRL] s t)) ∧
  (∀ (s : State) (src : Fin 64) (v : Word), s.admitted = true → exec (.reactWrite src v) s = .next s) ∧
  (∀ (s : State) (bits : Word), s.on 2 = true → bits &&& ~~~ s.reg R.FCU_SWFLT = 0 →
    Completes (.fcuSwset bits) s fun t => OnlyRegs [] s t) ∧
  (∀ (s : State) (b : Fin 32), s.on 2 = true → bitAt (s.reg R.FCU_SWFLT) b = false →
    Completes (.fcuSwset (1#32 <<< b.val)) s fun t => ∃ u : State, t = u.raise (32 + b.val) ∧
      u.reg R.FCU_SWFLT = s.reg R.FCU_SWFLT ||| (1#32 <<< b.val) ∧ OnlyRegs [R.FCU_SWFLT] s u) ∧
  (∀ (s : State) (bits : Word), s.on 2 = true → Completes (.fcuSwclr bits) s fun t =>
    t.reg R.FCU_SWFLT = s.reg R.FCU_SWFLT &&& ~~~ bits ∧ OnlyRegs [R.FCU_SWFLT] s t) ∧
  (∀ (s : State) (q : CoreId), s.on 2 = true → Completes (.watchdogKick q) s fun t =>
    tblGet (fun _ => (0 : Nat)) t.fcu.wdt q = 0 ∧ (∀ p, p ≠ q.val → tblGet (fun _ => (0 : Nat)) t.fcu.wdt p =
      tblGet (fun _ => (0 : Nat)) s.fcu.wdt p) ∧ t = { s with fcu := { s.fcu with wdt := t.fcu.wdt } }) ∧
  (∀ (s : State) (q : CoreId), s.live = true → 0 < s.f (F.FCU_WDT.TIMEOUT q) → s.fb (F.FCU_WDT.EXP q) = false →
    s.f (F.FCU_WDT.TIMEOUT q) ≤ tblGet (fun _ => (0 : Nat)) s.fcu.wdt q → Completes (.watchdogExpiry q) s fun t =>
      ∃ u : State, u.fb (F.FCU_WDT.EXP q) = true ∧ OnlyRegs [R.FCU_WDT q] s u ∧
        t = if s.level 26 then u else u.raiseUnit 26 q) ∧
  (∀ (s : State) (r : LedgerRec) (l : List LedgerRec), s.on 2 = true → s.fcu.ledger = r :: l →
    s.fb F.FCU_LEDGER.EXPEN = false → Completes .ledgerWrite s fun t =>
      let n := s.f F.FCU_LDGPTR.WPTR
      let a := 0x34000000 + n * 16
      t.ldd a = r.time ∧ t.ldw (a + 8) = r.code ++ r.source ∧ t.ldw (a + 12) = r.data ∧
      t.f F.FCU_LDGPTR.WPTR = (if n = 16383 then 0 else n + 1) ∧
      (∀ b, b < a ∨ a + 16 ≤ b → t.ldb b = s.ldb b) ∧ t.fcu.ledger = l ∧ SameRegsBut [R.FCU_LDGPTR] s t) ∧
  (∀ (s : State) (q : CoreId) (src : BitVec 8) (code : BitVec 16) (data : Word), s.on 2 = true →
    let ok := 0x8000 ≤ code.toNat ∧ (src.toNat = 0xFF ∨ (32 ≤ src.toNat ∧ src.toNat ≤ 63))
    Completes (.firmwareRecord q src code data) s fun t =>
      t.reg (R.FCU_LWDATA q) = data ∧
      (ok → s.fcu.ledger.length < 32 → t.fcu.ledger = s.fcu.ledger ++ [⟨s.tm.count,
        BitVec.ofNat 16 (b2n (!s.timeValid) * 0x8000 + (0x20 + q.val) * 256 + src.toNat), code, data⟩]) ∧
      (¬ ok → t.f F.FCU_LDGLOST.WREJ = (s.f F.FCU_LDGLOST.WREJ + 1) % 2 ^ 16 ∧ t.fcu = s.fcu) ∧
      SameRegsBut [R.FCU_LWDATA q, R.FCU_LDGLOST] s t ∧ SameMem s t)

/-- SAFE_INPUT_DEMAND, SAFE_INPUT_RELEASE, SF1_DEMAND, FWDEM_WRITE, BMON_MEASURE_UPDATE and MONITOR_THRESHOLD_DEMAND
(13 R376 to R382, R388, R389). -/
def Obligations.SafetyDemandsAndStop : Prop :=
  let isLive := fun (s : State) (cause pos : Nat) => s.sfu.live.any fun x => x.cause == cause && x.pos == pos
  (∀ (s : State) (cause : BitVec 8) (pos : Fin 64), s.live = true →
    ((1 ≤ cause.toNat ∧ cause.toNat ≤ 9) ∨ (0x10 ≤ cause.toNat ∧ cause.toNat ≤ 0x27)) →
    Completes (.sf1Demand cause pos) s fun t =>
      t.held = s.held ||| (if (s.f F.SFU_SFCFG.TRIP).testBit 0 then 3 else 1) ∧
      t.f F.SFU_CAUSE.CAUSE = (if s.f F.SFU_CAUSE.CAUSE = 0 then cause.toNat else s.f F.SFU_CAUSE.CAUSE) ∧
      t.f F.SFU_CAUSE.POS = (if s.f F.SFU_CAUSE.CAUSE = 0 then (if cause = 5#8 ∨ cause = 7#8 then pos.val else 0)
        else s.f F.SFU_CAUSE.POS) ∧
      (s.on 11 = true → ∀ c, c < 8 → t.fb (F.BRP_STAT.SAFEHOLD c) = true ∧ t.fb (F.BRP_STAT.RUN c) = false ∧
        t.fb (F.BRP_STAT.STOPPING c) = false ∧ t.fb (F.BRP_STAT.PENDEN c) = false) ∧
      (s.on 6 = true → t.cs.cmd = none ∧ t.fb F.CS_CMDSTAT.BUSY = false ∧ ∀ i ∈ ctxIdx, t.pendRet i = false) ∧
      (∀ i ∈ ctxIdx, t.fb (F.LNK_CMD.PEND i) = false ∧ (s.portOn i = true → (t.port i).stops = 2)) ∧
      t.procs = s.procs ∧ t.tm = s.tm) ∧
  (∀ (s : State) (b chA chB : Bool), s.live = true → (chA = true ∨ chB = true) →
    let cause := if b then 2 else 1
    (isLive s cause 0 = false → Completes (.safeInputDemand b chA chB) s fun t =>
      let f := if s.fb F.SFU_SIN.SF2MAP = true ∨ (s.f F.SFU_SFCFG.TRIP).testBit 0 = true then 3 else 1
      t.fb (if b then F.SFU_SIN.INB else F.SFU_SIN.INA) = false ∧ t.held = s.held ||| f ∧
      t.f F.SFU_STATUS.DEM &&& f = f ∧ t.sfu.live = s.sfu.live ++ [⟨cause, 0, f⟩]) ∧
    (isLive s cause 0 = true → Completes (.safeInputDemand b chA chB) s fun t =>
      t.fb (if b then F.SFU_SIN.INB else F.SFU_SIN.INA) = false ∧ t.sfu.live = s.sfu.live ∧ OnlyRegs [R.SFU_SIN] s { t with sfu := s.sfu })) ∧
  (∀ (s : State) (b : Bool), s.live = true → Completes (.safeInputRelease b) s fun t =>
    t.fb (if b then F.SFU_SIN.INB else F.SFU_SIN.INA) = true ∧ t.held = s.held ∧
    isLive t (if b then 2 else 1) 0 = false ∧
    t.fb F.SFU_STATUS.SINDISC = (s.fb F.SFU_STATUS.SINDISC && !s.fb (if b then F.SFU_SIN.INA else F.SFU_SIN.INB)) ∧
    OnlyRegs [R.SFU_SIN, R.SFU_STATUS] s { t with sfu := s.sfu }) ∧
  (∀ (s : State) (v : BitVec 4), s.on 2 = true → (∀ n, n < 4 → isLive s 3 n = false) →
    Completes (.fwdemWrite .pair v) s fun t => t.f F.SFU_CTRL.FWDEM = v.toNat ∧
      t.held = s.held ||| (if v.toNat.testBit 0 && !(s.f F.SFU_CTRL.FWDEM).testBit 0 then s.demandFuncs 1 else 0) |||
        (if v.toNat.testBit 1 && !(s.f F.SFU_CTRL.FWDEM).testBit 1 then s.demandFuncs 2 else 0) |||
        (if v.toNat.testBit 2 && !(s.f F.SFU_CTRL.FWDEM).testBit 2 then s.demandFuncs 4 else 0) |||
        (if v.toNat.testBit 3 && !(s.f F.SFU_CTRL.FWDEM).testBit 3 then s.demandFuncs 8 else 0) ∧
      t.procs = s.procs ∧ t.tm = s.tm) ∧
  (∀ (s : State) (m : Fin 6) (raw : Word), s.live = true → s.fb (F.SFU_BMON.EN m) = true → s.f (F.SFU_BMON.MODE m) ≠ 3 →
    Completes (.bmonMeasureUpdate m raw) s fun t =>
      let v := s.bmonValue m raw
      t.f (F.SFU_BVAL.VALUE m) = v ∧ t.held = s.held ∧ SameRegsBut [R.SFU_BVAL m, R.SFU_STATUS] s t ∧ SameMem s t ∧
      ∀ j, j < 4 →
        let hit := s.fb (F.SFU_BTHR.EN m j) &&
          (if s.fb (F.SFU_BTHR.DIR m j) then decide (v < s.f (F.SFU_BTHR.LEVEL m j)) else decide (s.f (F.SFU_BTHR.LEVEL m j) < v))
        bitAt (t.reg (R.SFU_BVAL m)) (28 + j) = hit ∧
        tblGet (fun _ => (0 : Nat)) t.sfu.ovl (4 * m + j) =
          (if hit then tblGet (fun _ => (0 : Nat)) s.sfu.ovl (4 * m + j) + 1 else 0)) ∧
  (∀ (s : State) (m : Fin 6) (j : Fin 4), s.live = true → s.fb (F.SFU_BMON.EN m) = true →
    tblGet (fun _ => (0 : Nat)) s.sfu.viol (4 * m + j) ≠ 0 → isLive s (0x10 + (4 * m + j)) 0 = false →
    (s.f (F.SFU_BMON.MODE m) = 2 → s.f (F.SFU_BMON.CONF m) ≤ tblGet (fun _ => (0 : Nat)) s.sfu.ovl (4 * m + j) →
      Completes (.monitorThresholdDemand m j) s fun t => t.held = s.held ||| s.demandFuncs 8) ∧
    (s.f (F.SFU_BMON.MODE m) ≠ 2 → Completes (.monitorThresholdDemand m j) s fun t =>
      t.held = s.held ||| s.demandFuncs 4 ∧
      t.now = (s.untilCycle (tblGet (fun _ => (0 : Nat)) s.sfu.viol (4 * m + j) - 1 +
        s.f (F.SFU_BTHR.DELAY m j) * 200000)).now))

/-- SAFETY_RESET, SFU_ARM, CHANNEL_LOST, TDEG_EXPIRY, REQUAL, XDIS, SINDISC, PULSE_TEST_START and PULSE_TEST_RESULT
(13 R383 to R394, R401). -/
def Obligations.SafetyResetArmAndChannels : Prop :=
  (∀ (s : State) (req : Requester) (v : BitVec 4) (mac : Bool), s.on 2 = true → req ≠ .pair →
    ∀ c ∈ [Instr.fwdemWrite req v, .safetyReset req, .sfuArm req, .requal req, .esubSubmit req mac],
      Completes c s fun t => t.f F.SFU_CTRL.WREJ = (s.f F.SFU_CTRL.WREJ + 1) % 256 ∧
        t.f F.SFU_CTRL.FWDEM = s.f F.SFU_CTRL.FWDEM ∧ OnlyRegs [R.SFU_CTRL] s t) ∧
  (∀ s : State, s.on 2 = true →
    let ok := s.f F.SFU_STATUS.DEM = 0 ∧ s.fb F.SFU_SIN.INA = true ∧ s.fb F.SFU_SIN.INB = true ∧
      s.fb F.SFU_STATUS.DEGA = false ∧ s.fb F.SFU_STATUS.DEGB = false ∧ s.sfu.tdegExp = false ∧
      (∀ w ∈ s.sfu.windows, 2 ≤ w.copies.length) ∧ s.fb F.SFU_STATUS.ARMED = true
    (ok → Completes (.safetyReset .pair) s fun t => t.held = 0 ∧ t.fb F.SFU_STATUS.SAFE = false ∧ t.reg R.SFU_CAUSE = 0 ∧
      t.fb F.SFU_STATUS.ARMED = true ∧ (∀ c, c < 8 → t.fb (F.BRP_STAT.SAFEHOLD c) = false) ∧ t.sfu.resetHold = false ∧
      (∀ o, o < 6 → tblGet (fun _ => (0 : Nat)) t.sfu.ptNext o = if s.fb (F.SFU_PTCFG.EN o) then
        s.tm.refclk + (1000 * s.f (F.SFU_PTCFG.INTV o) + 100 * o) * 200000 + 1 else 0) ∧
      SameRegsBut ([R.SFU_STATUS, R.SFU_CAUSE, R.FCU_LDGLOST] ++ (List.range 8).map R.BRP_STAT) s t ∧ SameMem s t) ∧
    (¬ ok → Completes (.safetyReset .pair) s fun t => t.fb F.SFU_STATUS.RSTREJ = true ∧ t.held = s.held ∧
      SameRegsBut [R.SFU_STATUS, R.FCU_LDGLOST] s t ∧ SameMem s t ∧ t.sfu = s.sfu)) ∧
  (∀ s : State, s.on 2 = true →
    let ok := (1 ≤ s.f F.SFU_SIN.FILT ∧ s.f F.SFU_SIN.FILT ≤ 160) ∧
      (∀ m, m < 6 → s.fb (F.SFU_BMON.EN m) = true →
        s.fb (F.CLK_MCLK.EN (s.f (F.MSR_SDCFG.CLK (s.f (F.SFU_BMON.SD m))))) = true ∧
        (s.f (F.SFU_BMON.MODE m) = 2 → s.f (F.SFU_BMON.CONF m) ≠ 0 ∧
          (3 + s.f (F.SFU_BMON.CONF m)) * (16 * 2 ^ min 4 (s.f (F.SFU_BMON.OSRC m))) *
            s.f (F.CLK_MCLK.DIV (s.f (F.MSR_SDCFG.CLK (s.f (F.SFU_BMON.SD m))))) ≤ 3700) ∧
        (s.f (F.SFU_BMON.MODE m) ≠ 2 → ∀ j, j < 4 → s.fb (F.SFU_BTHR.EN m j) = true → s.f (F.SFU_BTHR.DELAY m j) ≤ 1950)) ∧
      (∀ o, o < 6 → s.fb (F.SFU_PTCFG.EN o) = true → 10 ≤ s.f (F.SFU_PTCFG.TPW o) ∧ s.f (F.SFU_PTCFG.TPW o) ≤ 300 ∧
        1 ≤ s.f (F.SFU_PTCFG.INTV o) ∧ s.f (F.SFU_PTCFG.INTV o) ≤ 60) ∧
      (1 ≤ s.f F.SFU_TDEG.SECS ∧ s.f F.SFU_TDEG.SECS ≤ 259200)
    (ok → Completes (.sfuArm .pair) s fun t => t.fb F.SFU_STATUS.ARMED = true ∧ OnlyRegs [R.SFU_STATUS] s { t with sfu := s.sfu }) ∧
    (¬ ok → Completes (.sfuArm .pair) s fun t => 1 ≤ t.f F.SFU_STATUS.CFGERR ∧ t.f F.SFU_STATUS.CFGERR ≤ 6 ∧
      t.fb F.SFU_STATUS.ARMED = s.fb F.SFU_STATUS.ARMED ∧ OnlyRegs [R.SFU_STATUS] s t)) ∧
  (∀ (s : State) (b : Bool) (row : Fin 5), s.live = true → s.fb F.SFU_STATUS.ARMED = true → s.f (F.FCU_REACT.REACT 27) ≠ 4 →
    s.fb (if b then F.SFU_STATUS.DEGB else F.SFU_STATUS.DEGA) = false →
    (if b then row.val = 1 ∨ row.val = 2 else (row.val = 1 ∧ 2 ≤ s.sfu.hbMiss) ∨
      (row.val = 2 ∧ s.fb (F.FCU_WDT.EXP 4) = true) ∨ (row.val = 3 ∧ (s.proc 4).run = .stopped)) →
    Completes (.channelLost b row) s fun t =>
      t.fb (if b then F.SFU_STATUS.DEGB else F.SFU_STATUS.DEGA) = true ∧
      (s.sfu.tdegEnd = none → s.sfu.tdegExp = false → t.f F.SFU_TDEGREM.SECS = s.f F.SFU_TDEG.SECS ∧
        t.sfu.tdegEnd = some (s.f F.SYSC_BSEC.SECS + s.f F.SFU_TDEG.SECS)) ∧
      (s.fb (if b then F.SFU_STATUS.DEGA else F.SFU_STATUS.DEGB) = false → t.held = s.held) ∧
      (s.fb (if b then F.SFU_STATUS.DEGA else F.SFU_STATUS.DEGB) = true →
        (s.sfu.live.any fun x => x.cause == 9 && x.pos == 0) = false →
        t.fb F.SFU_STATUS.SAFE = true ∧ t.held = s.held ||| 3)) ∧
  (∀ (s : State) (e : Nat), s.live = true → s.sfu.tdegEnd = some e → (s.sfu.live.any fun x => x.cause == 8 && x.pos == 0) = false →
    Completes .tdegExpiry s fun t => t.fb F.SFU_STATUS.SAFE = true ∧ t.held = s.held ||| 3 ∧ t.sfu.tdegEnd = none ∧
      t.sfu.tdegExp = true ∧ t.f F.SFU_TDEGREM.SECS = 0) ∧
  (∀ s : State, s.live = true → (s.sfu.madeA ^^^ s.sfu.madeB) &&& (15 - s.sfu.xNoted) ≠ 0 → s.f F.SFU_XWIN.PER ≤ s.sfu.xAge →
    Completes .xdis s fun t => t.fb F.SFU_STATUS.XDIS = true ∧ t.held = s.held ∧
      SameRegsBut [R.SFU_STATUS, R.FCU_LDGLOST] s t ∧ SameMem s t) ∧
  (∀ (s : State) (c : Nat), s.live = true → s.sfu.discSince = some c → s.fb F.SFU_STATUS.SINDISC = false →
    Completes .sindisc s fun t => t.fb F.SFU_STATUS.SINDISC = true ∧ t.held = s.held ∧
      SameRegsBut [R.SFU_STATUS, R.FCU_LDGLOST] s t ∧ SameMem s t ∧
      t.now = (s.untilCycle (c + s.f F.SFU_SIN.DISC * 200000 + 1)).now) ∧
  (∀ s : State, s.on 2 = true →
    (s.fb F.SFU_STATUS.DEGA = false → s.fb F.SFU_STATUS.DEGB = false → Completes (.requal .pair) s fun t =>
      t.fb F.SFU_STATUS.RSTREJ = true ∧ t.sfu = s.sfu ∧ SameRegsBut [R.SFU_STATUS, R.FCU_LDGLOST] s t) ∧
    (s.fb F.SFU_STATUS.DEGA = true → 64 ≤ s.sfu.cleanA → s.sfu.requal = none → Completes (.requal .pair) s fun t =>
      t.sfu.requal = some (false, [0, 2, 4]) ∧ t.fb (F.SFU_PTSTAT.RUNNING 0) = true ∧ t.fb F.SFU_STATUS.DEGA = true) ∧
    (s.fb F.SFU_STATUS.DEGA = false → s.fb F.SFU_STATUS.DEGB = true → 64 ≤ s.sfu.cleanB → s.sfu.requal = none →
      Completes (.requal .pair) s fun t => t.sfu.requal = some (true, [1, 3, 5]) ∧ t.fb (F.SFU_PTSTAT.RUNNING 1) = true)) ∧
  (∀ (s : State) (o : Fin 6), s.live = true → s.sfu.requal = none → s.fb F.SFU_STATUS.ARMED = true →
    s.fb (F.SFU_PTCFG.EN o) = true → tblGet (fun _ => (0 : Nat)) s.sfu.ptNext o ≠ 0 → s.outTrip o = false →
    tblGet (fun _ => (0 : Nat)) s.sfu.ptRun o = 0 → tblGet (fun _ => (0 : Nat)) s.sfu.ptRun (ptOther o) = 0 →
    Completes (.pulseTestStart o) s fun t => t.fb (F.SFU_PTSTAT.RUNNING o) = true ∧ t.outTrip o = true ∧
      tblGet (fun _ => (0 : Nat)) t.sfu.ptNext o = tblGet (fun _ => (0 : Nat)) s.sfu.ptNext o +
        s.f (F.SFU_PTCFG.INTV o) * 200000000 ∧ SameRegsBut [R.SFU_PTSTAT o] s t ∧ SameMem s t) ∧
  (∀ (s : State) (o : Fin 6) (c : Nat), s.live = true → tblGet (fun _ => (0 : Nat)) s.sfu.ptRun o = c + 1 →
    s.sfu.requal = none →
    (Completes (.pulseTestResult o true) s fun t => t.f (F.SFU_PTSTAT.TESTS o) = (s.f (F.SFU_PTSTAT.TESTS o) + 1) % 65536 ∧
      t.fb (F.SFU_PTSTAT.RUNNING o) = false ∧ SameRegsBut [R.SFU_PTSTAT o] s t ∧ SameMem s t) ∧
    (s.f (F.FCU_REACT.REACT 27) ≠ 4 → Completes (.pulseTestResult o false) s fun t =>
      t.fb F.SFU_STATUS.PTFAIL = true ∧ t.fb (F.SFU_PTSTAT.FAIL o) = true ∧ t.fb (F.SFU_PTSTAT.RUNNING o) = false ∧
      t.fb (if o.val % 2 = 1 then F.SFU_STATUS.DEGB else F.SFU_STATUS.DEGA) = true))

/-- ESUB_SUBMIT, SAFETY_FRAME_RECEIVE, SAFETY_WINDOW_CLOSE and FOLLOW_WATCHDOG (13 R395 to R399; 09 R286). -/
def Obligations.SafetyMessages : Prop :=
  (∀ (s : State) (mac : Bool), s.on 2 = true → s.fb F.SFU_FRCFG.ETHEN = true →
    let m := (List.range 13).map fun w => s.reg (R.SFU_EBUF w)
    let key := (fld (s.reg (R.SFU_EBUF 1)) 31 12, fld (s.reg (R.SFU_EBUF 0)) 31 16)
    (∀ w ∈ s.sfu.windows, ¬ (w.eth = true ∧ w.key = key)) → Completes (.esubSubmit .pair mac) s fun t =>
      t.sfu.windows = s.sfu.windows ++ [⟨true, key, s.tm.refclk, [(mac, if msgOk m then some m else none)]⟩]) ∧
  (∀ (s : State) (mac : Bool), s.on 2 = true → s.fb F.SFU_FRCFG.ETHEN = false →
    exec (.esubSubmit .pair mac) s = .next s) ∧
  (∀ (s : State) (f : List Word), s.rngOn = true → fClass f = 4 → (s.rngJoined = true → fSrc f ≠ s.pos) →
    (∀ w ∈ s.sfu.windows, ¬ (w.eth = false ∧ w.key = (fSrc f, fSeq f))) → Completes (.safetyFrameReceive f) s fun t =>
      let m := (f.drop 3).take 13
      t.sfu.windows = s.sfu.windows ++ [⟨false, (fSrc f, fSeq f), s.tm.refclk,
        [(bitAt (fWord f 0) 14, if msgOk m then some m else none)]⟩]) ∧
  (∀ (s : State) (w : SfuWindow) (l : List SfuWindow) (d : Bool) (a b : List Word), s.live = true →
    s.sfu.windows = w :: l → w.eth = true → w.copies = [(d, some a), (!d, some b)] →
    (a = b → Completes .safetyWindowClose s fun t => t.reg R.SFU_FRCNT = s.reg R.SFU_FRCNT ∧
      (∀ x ∈ t.sfu.windows, ¬ (x.eth = true ∧ x.key = w.key)) ∧
      t.now = (s.untilCycle (w.openAt + s.f F.SFU_FRCFG.WIN * 20000)).now) ∧
    (a ≠ b → s.f (F.FCU_REACT.REACT 28) ≠ 4 → Completes .safetyWindowClose s fun t =>
      t.f F.SFU_FRCNT.MISMATCH = (s.f F.SFU_FRCNT.MISMATCH + 1) % 65536 ∧ t.fb F.SFU_STATUS.SAFE = true ∧
      t.held = s.held ||| 3 ∧ t.fsw 28 = true)) ∧
  (∀ (s : State) (w : SfuWindow) (l : List SfuWindow) (d : Bool) (a : List Word), s.live = true →
    s.sfu.windows = w :: l → w.eth = true → w.copies = [(d, some a)] → s.f (F.FCU_REACT.REACT 27) ≠ 4 →
    Completes .safetyWindowClose s fun t =>
      t.f F.SFU_FRCNT.MISSING = (s.f F.SFU_FRCNT.MISSING + 1) % 65536 ∧
      (s.f F.SFU_FRCFG.MISSMAX ≤ tblGet (fun _ => (0 : Nat)) s.sfu.missRun
        (128 + b2n (!d) * 64 + fld (a.getD 1 0) 17 12) + 1 → t.fb F.SFU_STATUS.PATHDEG = true)) ∧
  (∀ (s : State) (p : Fin 64), s.live = true → s.fb F.SFU_STATUS.ARMED = true →
    (s.fb F.SFU_FRCFG.RINGEN = true ∨ s.fb F.SFU_FRCFG.ETHEN = true) → s.followsPos p = true → p.val ∉ s.sfu.silent →
    (s.fb F.SFU_FRCFG.WDACT = true → (s.sfu.live.any fun x => x.cause == 7 && x.pos == p.val) = false →
      Completes (.followWatchdog p) s fun t => t.held = s.held ||| s.demandFuncs 1 ∧ p.val ∈ t.sfu.silent) ∧
    (s.fb F.SFU_FRCFG.WDACT = false → s.f (F.FCU_REACT.REACT 27) ≠ 4 → Completes (.followWatchdog p) s fun t =>
      t.fb F.SFU_STATUS.PATHDEG = true ∧ p.val ∈ t.sfu.silent ∧ t.held = s.held))

/-- ETH_FRAME_RECEIVE, ETH_RXREL_WRITE, ETH_LAUNCH and PRPSET_WRITE (14 R402 to R413). -/
def Obligations.EthernetReceiveAndTransmit : Prop :=
  (∀ (s : State) (m : Fin 2) (l : List Byte) (fcsOk : Bool),
    (s.macOn m = false ∨ s.fb (F.ETH_MCFG.RXEN m) = false) → exec (.ethFrameReceive m l fcsOk) s = .next s) ∧
  (∀ (s : State) (m : Fin 2) (l : List Byte) (fcsOk : Bool), s.macOn m = true → s.fb (F.ETH_MCFG.RXEN m) = true →
    let ok := fcsOk = true ∧ (60 ≤ l.length ∧ l.length ≤ 1532) ∧ s.destOk m l = true ∧ s.vlanOk m l = true
    let a := (s.reg (R.ETH_RXBASE m)).toNat + (s.mac m).rxSlot * 2048
    let safe := b16At l (typeAt l) = s.f (F.ETH_SAFETYPE.TYPE m)
    (¬ ok → Completes (.ethFrameReceive m l fcsOk) s fun t =>
      t.f (F.ETH_CNT.RXDROP m) = (s.f (F.ETH_CNT.RXDROP m) + 1) % 65536 ∧
      t.f (F.ETH_CNT.FCSERR m) = (s.f (F.ETH_CNT.FCSERR m) + b2n (!fcsOk)) % 65536 ∧ OnlyRegs [R.ETH_CNT m] s t) ∧
    (ok → ¬ safe → prpTrailer l = none → (s.mac m).rxUsed < s.rxSlots m → regionOf a = .sram →
      regionOf (a + l.length - 1) = .sram → s.on 3 = true → Completes (.ethFrameReceive m l fcsOk) s fun t =>
        (∀ i (h : i < l.length), t.ldb (a + i) = l[i]) ∧ (∀ b, b < a ∨ a + l.length ≤ b → t.ldb b = s.ldb b) ∧
        (t.mac m).rxSlot = ((s.mac m).rxSlot + 1) % s.rxSlots m ∧ (t.mac m).rxUsed = (s.mac m).rxUsed + 1 ∧
        (s.qOn (20 + m) = true → (s.queue (20 + m)).length < s.qCap (20 + m) → t.queue (20 + m) = s.queue (20 + m) ++
          [BitVec.ofNat 64 (b2n (vlanTag l) * 2 ^ 60 + b2n (ptpEvent l).isSome * 2 ^ 59 + l.length * 2 ^ 48 +
            (s.mac m).rxSlot * 2 ^ 32 + (if vlanTag l then b16At l 14 else 0))]) ∧
        SameRegsBut [R.ETH_MSTAT m, R.HQ_DROP (20 + m), R.HQ_STAT (20 + m)] s t) ∧
    (ok → ¬ safe → prpTrailer l = none → s.rxSlots m ≤ (s.mac m).rxUsed → Completes (.ethFrameReceive m l fcsOk) s fun t =>
      t.f (F.ETH_CNT.RXDROP m) = (s.f (F.ETH_CNT.RXDROP m) + 1) % 65536 ∧ OnlyRegs [R.ETH_CNT m] s t) ∧
    (ok → safe → prpTrailer l = none → let b := 0x3307F000 + m.val * 0x200 + (s.mac m).safeSlot * 0x40
      (bitAt (s.ldw (b + 52)) 31 = true → Completes (.ethFrameReceive m l fcsOk) s fun t =>
        t.f (F.ETH_SAFETYPE.SAFEDROP m) = (s.f (F.ETH_SAFETYPE.SAFEDROP m) + 1) % 65536 ∧ SameMem s t) ∧
      (bitAt (s.ldw (b + 52)) 31 = false → Completes (.ethFrameReceive m l fcsOk) s fun t =>
        t.fb (F.ETH_MSTAT.SAFERX m) = true ∧ (t.mac m).safeSlot = ((s.mac m).safeSlot + 1) % 8 ∧
        (∀ k, k < 13 → let p := typeAt l + 2 + 4 * k
          (t.ldw (b + 4 * k)).toNat = bAt l p + bAt l (p + 1) * 2 ^ 8 + bAt l (p + 2) * 2 ^ 16 + bAt l (p + 3) * 2 ^ 24) ∧
        t.ldw (b + 52) = 0x80000000#32 ∧ (∀ x, x < b ∨ b + 56 ≤ x → t.ldb x = s.ldb x) ∧
        SameRegsBut [R.ETH_MSTAT m] s t))) ∧
  (∀ (s : State) (m : Fin 2) (n : BitVec 12), s.on 10 = true → Completes (.ethRxrelWrite m n) s fun t =>
    (t.mac m).rxUsed = (s.mac m).rxUsed - n.toNat ∧ (t.mac m).rxSlot = (s.mac m).rxSlot ∧
    t.fb (F.ETH_MSTAT.RXLOW m) = decide (s.rxSlots m - ((s.mac m).rxUsed - n.toNat) < 4) ∧
    SameRegsBut [R.ETH_MSTAT m] s t ∧ SameMem s t) ∧
  (∀ (s : State) (m low : Fin 2) (e : DWord) (l : List DWord), s.macOn m = true → s.fb (F.ETH_MCFG.TXEN m) = true →
    s.qOn (16 + 2 * m + low) = true → s.queue (16 + 2 * m + low) = e :: l → s.f (F.ETH_TXQ.DONE m low) < 65535 →
    s.f (F.ETH_TXQ.DISC m low) < 255 →
    ((fld e 58 48 < 14 ∨ 1518 < fld e 58 48) → Completes (.ethLaunch m low) s fun t =>
      t.queue (16 + 2 * m + low) = l ∧ t.f (F.ETH_TXQ.DISC m low) = s.f (F.ETH_TXQ.DISC m low) + 1 ∧
      t.f (F.ETH_TXQ.DONE m low) = s.f (F.ETH_TXQ.DONE m low) + 1 ∧ (t.mac m).out = (s.mac m).out ∧
      SameRegsBut [R.ETH_TXQ m low, R.ETH_PRPSET] s t ∧ SameMem s t) ∧
    (14 ≤ fld e 58 48 → fld e 58 48 ≤ 1518 → bitAt e 63 = false → (s.mac m).txEnd ≤ s.tm.refclk →
      (low.val = 0 ∨ s.queue (16 + 2 * m) = []) → Completes (.ethLaunch m low) s fun t =>
        let seq := if m.val = 0 then s.f F.ETH_PRPSET.SEQ0 else s.f F.ETH_PRPSET.SEQ1
        t.queue (16 + 2 * m + low) = l ∧ (t.mac m).out = s.txFrame m seq e ∧
        (t.mac m).txEnd = s.tm.refclk + s.txCycles m (txBytes e) ∧
        t.f (F.ETH_TXQ.DONE m low) = s.f (F.ETH_TXQ.DONE m low) + 1 ∧
        t.f (F.ETH_TXQ.DISC m low) = s.f (F.ETH_TXQ.DISC m low) ∧
        (if m.val = 0 then t.f F.ETH_PRPSET.SEQ0 else t.f F.ETH_PRPSET.SEQ1) = (seq + b2n (bitAt e 62)) % 65536 ∧
        SameRegsBut [R.ETH_TXQ m low, R.ETH_PRPSET] s t ∧ SameMem s t)) ∧
  (∀ (s : State) (v : BitVec 16), s.on 10 = true → Completes (.prpsetWrite v) s fun t =>
    t.f F.ETH_PRPSET.SEQ0 = v.toNat ∧ t.f F.ETH_PRPSET.SEQ1 = v.toNat ∧ OnlyRegs [R.ETH_PRPSET] s t)

/-- PTP_EVENT, TSINFO_READ, DOMAIN_MAP_COMMIT, DTIMELO_READ, TPO_PULSE_END, MDIO_GO, MDIO_DONE and ETH_LINK_CHANGE
(14 R402, R415, R416, R419, R421). -/
def Obligations.NetworkTimePulsesAndPhy : Prop :=
  (∀ (s : State) (m : Fin 2) (tx : Bool) (mt : BitVec 4) (seq : BitVec 16), s.macOn m = true → mt.toNat ≤ 3 →
    ((s.mac m).ts.length < 4 → Completes (.ptpEvent m tx mt seq) s fun t =>
      (t.mac m).ts = (s.mac m).ts ++ [BitVec.ofNat 32 (b2n tx * 2 ^ 30 + b2n (!(s.mac m).ts.isEmpty) * 2 ^ 29 +
        mt.toNat * 2 ^ 24 + seq.toNat)] ∧ t.fb (F.ETH_MSTAT.TSEV m) = true ∧ SameRegsBut [R.ETH_MSTAT m] s t ∧ SameMem s t) ∧
    (4 ≤ (s.mac m).ts.length → Completes (.ptpEvent m tx mt seq) s fun t =>
      t.f (F.ETH_TSINFO.TSLOST m) = (s.f (F.ETH_TSINFO.TSLOST m) + 1) % 256 ∧ OnlyRegs [R.ETH_TSINFO m] s t)) ∧
  (∀ (s : State) (m : Fin 2), s.on 10 = true →
    ((s.mac m).ts = [] → Completes (.tsinfoRead m) s fun t =>
      t.busOut.toNat = s.f (F.ETH_TSINFO.TSLOST m) * 2 ^ 16 ∧ t = { s with busOut := t.busOut }) ∧
    (∀ w l, (s.mac m).ts = w :: l → Completes (.tsinfoRead m) s fun t =>
      (t.mac m).ts = l ∧ t.fb (F.ETH_MSTAT.TSEV m) = !l.isEmpty ∧ bitAt t.busOut 31 = true ∧
      (w.toNat < 2 ^ 31 → fld t.busOut 15 0 = fld w 15 0 ∧ fld t.busOut 27 24 = fld w 27 24 ∧
        bitAt t.busOut 30 = bitAt w 30) ∧ SameRegsBut [R.ETH_MSTAT m] s t ∧ SameMem s t)) ∧
  (∀ s : State, s.on 10 = true → Completes .domainMapCommit s fun t => t.fb F.ETH_DMAPCTL.VALID = true ∧
    t.eth = { s.eth with dmap := { dref := s.reg R.ETH_DREFHI ++ s.reg R.ETH_DREFLO,
                                   dns := s.reg R.ETH_DNSHI ++ s.reg R.ETH_DNSLO, drate := s.reg R.ETH_DRATE } } ∧
    SameRegsBut [R.ETH_DMAPCTL] s t ∧ SameMem s t) ∧
  (∀ (s : State) (req : Requester), s.on 10 = true →
    (s.fb F.ETH_DMAPCTL.VALID = true → Completes (.dtimeloRead req) s fun t =>
      let d := s.eth.dmap
      let v : Int := (d.dns.toNat : Int) +
        (((s.tm.count.toNat : Int) - (d.dref.toNat : Int)) * 5 * (2 ^ 40 + d.drate.toInt)) / 2 ^ 46
      (t.busOut.toNat : Int) = v % 2 ^ 32 ∧ ((t.dtimeHi (reqIdx req)).toNat : Int) = v / 2 ^ 32 % 2 ^ 32 ∧
      (∀ a, t.reg a = s.reg a) ∧ SameMem s t) ∧
    (s.fb F.ETH_DMAPCTL.VALID = false → Completes (.dtimeloRead req) s fun t =>
      t.busOut = 0 ∧ t.dtimeHi (reqIdx req) = 0 ∧ (∀ a, t.reg a = s.reg a) ∧ SameMem s t)) ∧
  (∀ (s : State) (n : Fin 2) (e : Nat), tblGet (fun _ => (none : Option Nat)) s.eth.tpo n = some e →
    Completes (.tpoPulseEnd n) s fun t => t.tpoActive n = false ∧ t.now = (s.untilCycle e).now ∧
      (∀ a, t.reg a = s.reg a) ∧ SameMem s t) ∧
  (∀ (s : State) (m : Fin 2) (read : Bool) (phy reg : BitVec 5) (data : BitVec 16), s.on 10 = true →
    (s.fb (F.ETH_MDIO.GO m) = true → exec (.mdioGo m read phy reg data) s = .next s) ∧
    (s.fb (F.ETH_MDIO.GO m) = false → Completes (.mdioGo m read phy reg data) s fun t =>
      t.fb (F.ETH_MDIO.GO m) = true ∧ t.fb (F.ETH_MDIO.READ m) = read ∧ t.f (F.ETH_MDIO.PHYAD m) = phy.toNat ∧
      t.f (F.ETH_MDIO.REGAD m) = reg.toNat ∧ t.f (F.ETH_MDIO.DATA m) = data.toNat ∧ OnlyRegs [R.ETH_MDIO m] s t)) ∧
  (∀ (s : State) (m : Fin 2) (data : BitVec 16), s.on 10 = true → s.fb (F.ETH_MDIO.GO m) = true →
    Completes (.mdioDone m data) s fun t => t.fb (F.ETH_MDIO.GO m) = false ∧
      t.f (F.ETH_MDIO.DATA m) = (if s.fb (F.ETH_MDIO.READ m) then data.toNat else s.f (F.ETH_MDIO.DATA m)) ∧
      t.f (F.ETH_MDIO.REGAD m) = s.f (F.ETH_MDIO.REGAD m) ∧ OnlyRegs [R.ETH_MDIO m] s t) ∧
  (∀ (s : State) (m : Fin 2) (up : Bool) (speed : BitVec 2) (half : Bool), s.live = true → s.on 10 = true →
    s.fb (F.ETH_MCFG.EN m) = true → s.fb (F.ETH_MCFG.AUTO m) = true → Completes (.ethLinkChange m up speed half) s fun t =>
      t.fb (F.ETH_MSTAT.LINK m) = up ∧ t.f (F.ETH_MSTAT.PSPEED m) = min 2 speed.toNat ∧
      t.fb (F.ETH_MSTAT.LINKBAD m) = (up && half) ∧
      (s.fb (F.ETH_MSTAT.LINK m) ≠ up → t.fb (F.ETH_MSTAT.LINKCHG m) = true) ∧
      SameRegsBut [R.ETH_MSTAT m, R.FCU_LDGLOST] s t ∧ SameMem s t)

/-- CAN_ENABLE, CAN_FRAME_RECEIVE, CAN_TRANSMIT and CAN_TRANSMIT_OUTCOME (14 R422 to R429). The value from 119 to 127
and the one of codes 4 and 5 are free (logs 48, 49). -/
def Obligations.CanFramesAndAttempts : Prop :=
  let pushed := fun (s t : State) (e : Nat) => s.qOn 23 = true → (s.queue 23).length < s.qCap 23 →
    t.queue 23 = s.queue 23 ++ [BitVec.ofNat 64 e]
  (∀ (s : State) (n : Fin 2) (fden strict tdcen listen : Bool), s.on 10 = true →
    (s.fb (F.CAN_CFG.EN n) = true → exec (.canEnable n fden strict tdcen listen) s = .next s) ∧
    (s.fb (F.CAN_CFG.EN n) = false →
      let nom := (s.f (F.CAN_NBT.NBRP n) + 1) * (3 + s.f (F.CAN_NBT.NTSEG1 n) + s.f (F.CAN_NBT.NTSEG2 n))
      let dat := (s.f (F.CAN_DBT.DBRP n) + 1) * (3 + s.f (F.CAN_DBT.DTSEG1 n) + s.f (F.CAN_DBT.DTSEG2 n))
      let ok := 200 ≤ nom ∧ 40 ≤ dat ∧ s.f (F.CAN_NBT.NSJW n) ≤ s.f (F.CAN_NBT.NTSEG2 n) ∧
        s.f (F.CAN_DBT.DSJW n) ≤ s.f (F.CAN_DBT.DTSEG2 n) ∧ (fden = true → dat < 200 → tdcen = true)
      Completes (.canEnable n fden strict tdcen listen) s fun t =>
        t.fb (F.CAN_CFG.FDEN n) = fden ∧ t.fb (F.CAN_CFG.CONF n) = strict ∧ t.fb (F.CAN_CFG.TDCEN n) = tdcen ∧
        t.fb (F.CAN_CFG.LISTEN n) = listen ∧ (t.fb (F.CAN_CFG.EN n) = true ↔ ok) ∧
        (¬ ok → t.fb (F.CAN_CFG.CFGERR n) = true) ∧ OnlyRegs [R.CAN_CFG n] s t)) ∧
  (∀ (s : State) (n : Fin 2) (h : CanHeader) (data : List Byte), s.canOn n = true → s.fb (F.CAN_STAT.SLEEP n) = false →
    Completes (.canFrameReceive n h data 0) s fun t =>
      (s.canRec n < 128 → t.canRec n = s.canRec n - 1) ∧ (128 ≤ s.canRec n → 119 ≤ t.canRec n ∧ t.canRec n ≤ 127) ∧
      (s.f (F.CAN_RXCFG.COUNT n) ≤ (s.canCtl n).rxUsed →
        t.f (F.CAN_RXCFG.RXDROP n) = (s.f (F.CAN_RXCFG.RXDROP n) + 1) % 65536 ∧ SameMem s t) ∧
      ((s.canCtl n).rxUsed < s.f (F.CAN_RXCFG.COUNT n) →
        let k := (s.canCtl n).rxSlot
        let len := if h.rtr then 0 else dlcBytes h.fdf h.dlc.toNat
        let a := (s.reg (R.CAN_RXBASE n)).toNat + k * 64
        (t.canCtl n).rxUsed = (s.canCtl n).rxUsed + 1 ∧ (t.canCtl n).rxSlot = (k + 1) % s.f (F.CAN_RXCFG.COUNT n) ∧
        pushed s t (n.val * 2 ^ 63 + canHdr h + k * 2 ^ 32) ∧ (∀ b, b < a ∨ a + len ≤ b → t.ldb b = s.ldb b) ∧
        (s.on 3 = true → regionOf a = .sram → regionOf (a + len - 1) = .sram → ∀ i, i < len →
          t.ldb (a + i) = (data[i]?).getD 0))) ∧
  (∀ (s : State) (n : Fin 2) (h : CanHeader) (data : List Byte) (err : BitVec 4), s.canOn n = true →
    s.fb (F.CAN_STAT.SLEEP n) = false → err ≠ 0 → Completes (.canFrameReceive n h data err) s fun t =>
      t.f (F.CAN_CNT.ERRS n) = (s.f (F.CAN_CNT.ERRS n) + 1) % 65536 ∧ t.canRec n = min 255 (s.canRec n + 1) ∧
      pushed s t (n.val * 2 ^ 63 + 4 * 2 ^ 60 + canHdr h + err.toNat * 2 ^ 47) ∧ SameMem s t) ∧
  (∀ (s : State) (e : DWord) (l : List DWord), s.live = true → s.on 10 = true → s.qOn 22 = true → s.queue 22 = e :: l →
    let n := fld e 63 63
    let disc := fun (code : Nat) => Completes .canTransmit s fun t => t.queue 22 = l ∧
      pushed s t (n * 2 ^ 63 + 6 * 2 ^ 60 + txHeader e + code * 2 ^ 47) ∧ SameMem s t
    (s.f (F.CAN_STAT.STATE n) = 2 → disc 9) ∧ (s.f (F.CAN_STAT.STATE n) = 3 → disc 10) ∧
    (s.f (F.CAN_STAT.STATE n) ≤ 1 → s.fb (F.CAN_STAT.SLEEP n) = true → disc 11) ∧
    (s.txDisc n e = none → s.canOn n = true → s.fb (F.CAN_CFG.LISTEN n) = false → s.fb (F.CAN_STAT.TXBUSY n) = false →
      (s.canCtl n).sleepPend = false → s.f (F.CAN_ERRCNT.TEC n) < 256 → Completes .canTransmit s fun t =>
        t.queue 22 = l ∧ t.fb (F.CAN_STAT.TXBUSY n) = true ∧ (t.canCtl n).tx = some e ∧
        SameRegsBut [R.CAN_STAT n] s t ∧ SameMem s t)) ∧
  (∀ (s : State) (n : Fin 2) (e : DWord) (tdcv : BitVec 8), s.canOn n = true → (s.canCtl n).tx = some e →
    let ovf := 127 < tdcv.toNat ∧ s.fb (F.CAN_CFG.TDCEN n) = true ∧ bitAt e 62 = true ∧ bitAt e 61 = true
    let ended := fun (t : State) (kind code : Nat) => t.fb (F.CAN_STAT.TXBUSY n) = false ∧ (t.canCtl n).tx = none ∧
      pushed s t (fld e 63 63 * 2 ^ 63 + kind * 2 ^ 60 + txHeader e + code * 2 ^ 47) ∧ SameMem s t
    (¬ ovf → Completes (.canTransmitOutcome n .done tdcv) s fun t =>
      t.f (F.CAN_ERRCNT.TEC n) = s.f (F.CAN_ERRCNT.TEC n) - 1 ∧ ended t 1 0) ∧
    (ovf → Completes (.canTransmitOutcome n .done tdcv) s fun t => t.fb (F.CAN_TDC.TDCOVF n) = true ∧
      (ended t 3 4 ∨ ended t 3 5)) ∧
    (Completes (.canTransmitOutcome n .arbLost tdcv) s fun t =>
      t.f (F.CAN_CNT.ARBLOST n) = (s.f (F.CAN_CNT.ARBLOST n) + 1) % 65536 ∧
      t.f (F.CAN_ERRCNT.TEC n) = s.f (F.CAN_ERRCNT.TEC n) ∧ ended t 2 0) ∧
    (∀ c : BitVec 4, Completes (.canTransmitOutcome n (.error c) tdcv) s fun t =>
      t.f (F.CAN_CNT.ERRS n) = (s.f (F.CAN_CNT.ERRS n) + 1) % 65536 ∧
      t.f (F.CAN_ERRCNT.TEC n) = (if c = 3#4 ∧ s.f (F.CAN_STAT.STATE n) = 1 then s.f (F.CAN_ERRCNT.TEC n)
        else min 511 (s.f (F.CAN_ERRCNT.TEC n) + 8)) ∧
      (c = 7#4 → t.fb (F.CAN_STAT.COLLSEEN n) = true ∧ t.fb (F.CAN_LASTCOLL.VALID n) = true ∧
        t.f (F.CAN_LASTCOLL.ID n) = fld e 28 0 ∧ t.fb (F.CAN_LASTCOLL.IDE n) = bitAt e 60) ∧ ended t 3 c.toNat))

/-- CAN_BUS_OFF, CAN_RECOVER, CAN_RESET, CAN_RECOVERY_DONE, CAN_SLEEP, CAN_WAKE, CAN_WAKE_UP_FRAME and
CAN_FRAME_ERROR_WAKE (14 R429 to R431). -/
def Obligations.CanStatesSleepAndWake : Prop :=
  (∀ (s : State) (n : Fin 2), s.live = true → s.on 10 = true → s.fb (F.CAN_CFG.EN n) = true →
    256 ≤ s.f (F.CAN_ERRCNT.TEC n) → s.f (F.CAN_STAT.STATE n) ≠ 2 → s.f (F.FCU_REACT.REACT 29) ≤ 2 →
    Completes (.canBusOff n) s fun t => t.f (F.CAN_STAT.STATE n) = 2 ∧ t.fb (F.CAN_STAT.STATECHG n) = true ∧
      t.fb (F.CAN_STAT.TXBUSY n) = false ∧ (t.canCtl n).tx = none ∧
      t.fb (F.CAN_STAT.RECOVERING n) = (s.fb (F.CAN_STAT.RECOVERING n) || !s.fb (F.CAN_CFG.CONF n)) ∧
      (s.f (F.CAN_STAT.STATE (1 - n.val)) ≠ 2 → t.fsw 29 = true) ∧
      (s.qOn 23 = true → (s.queue 23).length < s.qCap 23 →
        t.queue 23 = s.queue 23 ++ [BitVec.ofNat 64 (n.val * 2 ^ 63 + 5 * 2 ^ 60 + 9 * 2 ^ 47)]) ∧ SameMem s t) ∧
  (∀ (s : State) (n : Fin 2), s.on 10 = true →
    (s.fb (F.CAN_CFG.CONF n) = true → s.f (F.CAN_STAT.STATE n) = 2 → Completes (.canRecover n) s fun t =>
      t.fb (F.CAN_STAT.RECOVERING n) = true ∧ t.f (F.CAN_STAT.STATE n) = 2 ∧ OnlyRegs [R.CAN_STAT n] s t) ∧
    (s.fb (F.CAN_CFG.CONF n) = false → exec (.canRecover n) s = .next s)) ∧
  (∀ (s : State) (n : Fin 2), s.on 10 = true → Completes (.canReset n) s fun t =>
    t.f (F.CAN_ERRCNT.TEC n) = 0 ∧ t.canRec n = 0 ∧ t.f (F.CAN_STAT.STATE n) = 0 ∧ t.fb (F.CAN_STAT.TXBUSY n) = false ∧
    t.fb (F.CAN_STAT.RECOVERING n) = true ∧ (t.canCtl n).tx = none ∧ t.reg (R.CAN_CFG n) = s.reg (R.CAN_CFG n) ∧
    SameRegsBut [R.CAN_STAT n, R.CAN_ERRCNT n] s t ∧ SameMem s t) ∧
  (∀ (s : State) (n : Fin 2), s.live = true → s.on 10 = true → s.fb (F.CAN_STAT.RECOVERING n) = true →
    Completes (.canRecoveryDone n) s fun t => t.f (F.CAN_ERRCNT.TEC n) = 0 ∧ t.canRec n = 0 ∧
      t.f (F.CAN_STAT.STATE n) = 0 ∧ t.fb (F.CAN_STAT.RECOVERING n) = false ∧
      OnlyRegs [R.CAN_STAT n, R.CAN_ERRCNT n] s t) ∧
  (∀ (s : State) (n : Fin 2), s.on 10 = true →
    (s.fb (F.CAN_STAT.TXBUSY n) = true → Completes (.canSleep n) s fun t =>
      (t.canCtl n).sleepPend = true ∧ (t.canCtl n).tx = (s.canCtl n).tx ∧ (∀ a, t.reg a = s.reg a) ∧ SameMem s t) ∧
    (s.fb (F.CAN_STAT.TXBUSY n) = false → Completes (.canSleep n) s fun t =>
      t.fb (F.CAN_STAT.SLEEP n) = true ∧ OnlyRegs [R.CAN_STAT n] s t)) ∧
  (∀ (s : State) (n : Fin 2), s.on 10 = true → Completes (.canWake n) s fun t =>
    t.fb (F.CAN_STAT.SLEEP n) = false ∧ (t.canCtl n).sleepPend = false ∧ SameRegsBut [R.CAN_STAT n] s t ∧ SameMem s t) ∧
  (∀ (s : State) (n : Fin 2) (h : CanHeader) (data : List Byte), s.live = true → s.on 10 = true →
    s.fb (F.CAN_CFG.EN n) = true → s.fb (F.CAN_STAT.SLEEP n) = true → s.fb (F.CAN_WUFID.EN n) = true →
    (Completes (.canWakeUpFrame n h data) s fun t => (t.canCtl n).fec = (s.canCtl n).fec - 1 ∧
      (s.wufMatch n h data = true → bitAt (t.reg R.CAN_WAKESTAT) (2 + n) = true) ∧
      (s.wufMatch n h data = false → t.reg R.CAN_WAKESTAT = s.reg R.CAN_WAKESTAT) ∧
      SameRegsBut [R.CAN_WAKESTAT, R.FCU_LDGLOST] s t ∧ SameMem s t) ∧
    (Completes (.canFrameErrorWake n) s fun t => (t.canCtl n).fec = min 32 ((s.canCtl n).fec + 1) ∧
      (31 ≤ (s.canCtl n).fec → bitAt (t.reg R.CAN_WAKESTAT) (4 + n) = true) ∧
      ((s.canCtl n).fec < 31 → t.reg R.CAN_WAKESTAT = s.reg R.CAN_WAKESTAT) ∧
      SameRegsBut [R.CAN_WAKESTAT, R.FCU_LDGLOST] s t ∧ SameMem s t))

/-- ASSAY_EXTEND, EXTENSION_DONE, REPORT_REQUEST, RING_REPORT_REQUEST, REPORT_DONE and IDENT_LOCK (15 R433 to R444,
R450). The signature is an opaque function of the digest (FIPS 186-5 is not in the text). -/
def Obligations.AssayRegistersAndReports : Prop :=
  (∀ (s : State) (req : Requester) (n : Fin 8), s.on 2 = true →
    let ok := (req = .core0 ∨ req = .pair) ∧ (n.val = 6 ∨ n.val = 7)
    (ok → Completes (.assayExtend req n) s fun t =>
      t.tru.ext = s.tru.ext ++ [(n.val, (List.range 12).flatMap fun w => wordBytes (s.reg (R.TRU_EXTD w)))] ∧
      t.fb F.TRU_STATUS.EXTBUSY = true ∧ SameRegsBut [R.TRU_STATUS] s t ∧ SameMem s t) ∧
    (¬ ok → Completes (.assayExtend req n) s fun t => t.fb F.TRU_STATUS.EXTREJ = true ∧ OnlyRegs [R.TRU_STATUS] s t)) ∧
  (∀ (s : State) (n : Fin 8) (d : List Byte) (l : List (Nat × List Byte)), s.on 2 = true →
    s.tru.ext = (n.val, d) :: l → Completes .extensionDone s fun t =>
      t.asBytes n = sha384 (s.asBytes n ++ d) ∧ (∀ j, j < 8 → j ≠ n.val → t.asBytes j = s.asBytes j) ∧
      t.tru.ext = l ∧ t.fb F.TRU_STATUS.EXTBUSY = !l.isEmpty ∧ SameMem s t ∧
      t.now = (s.untilCycle (s.tru.extStart + 24)).now) ∧
  (∀ (s : State) (req : Requester) (b : Fin 2) (key : KeyCheck), s.live = true →
    (if b.val = 1 then req = .host else req ∈ [Requester.pair, .ce, .core0, .core1, .core2, .core3]) →
    ((∃ r ∈ s.tru.reqs, r.buf = b.val) → Completes (.reportRequest req b key) s fun t =>
      t.fb (F.TRU_REQ.BUSY b) = true ∧ OnlyRegs [R.TRU_REQ b] s t) ∧
    (s.tru.reqs = [] → s.tru.body = none → key = .good → Completes (.reportRequest req b key) s fun t =>
      t.fb (F.TRU_REQ.PEND b) = true ∧ t.fb F.TRU_STATUS.SIGBUSY = true ∧ t.fb F.TRU_STATUS.KEYBAD = false ∧
      (∃ m, t.tru.body = some m ∧ m.length = 512 ∧ (m.drop 48).take 32 = s.nonceOf b ∧
        (m.drop 80).take 384 = (List.range 8).flatMap (State.asBytes s.extendAll)) ∧
      SameRegsBut [R.TRU_REQ b, R.TRU_STATUS] s t ∧ SameMem s t) ∧
    (s.tru.reqs = [] → s.tru.body = none → key ≠ .good → s.f (F.FCU_REACT.REACT 5) ≠ 4 →
      Completes (.reportRequest req b key) s fun t =>
        t.fb F.TRU_STATUS.KEYBAD = true ∧ t.fsw 5 = true ∧ t.fb F.TRU_STATUS.SIGBUSY = true)) ∧
  (∀ (s : State) (f : List Word), s.rngOn = true → fClass f = 5 → fld (fWord f 3) 31 24 = 0x40 → (s.hear f).2 = true →
    let h := (s.hear f).1
    h.forMe f = true → (∀ r ∈ h.tru.reqs, r.buf ≠ 2) → (h.tru.body = none → h.tru.reqs = []) →
    Completes (.ringReportRequest f .good) s fun t =>
      t.tru.reqs = h.tru.reqs ++ [⟨2, (List.range 8).flatMap fun w => wordBytes (fWord f (4 + w)), fSrc f, .good⟩]) ∧
  (∀ (s : State) (m : List Byte) (r : TruReq), s.live = true → s.tru.body = some m → s.tru.reqs = [r] → r.buf < 2 →
    m.length = 512 → s.tru.mgmt = [] → Completes .reportDone s fun t =>
      let win := if r.buf = 0 then t.tru.win0 else t.tru.win1
      win.take 512 = m ∧ win.length = 608 ∧ (s.fb F.TRU_STATUS.KEYBAD = true → win.drop 512 = List.replicate 96 0) ∧
      (s.fb F.TRU_STATUS.KEYBAD = false → ∃ z, win.drop 512 = (Config.sign (sha384 m)).take 96 ++ List.replicate z 0) ∧
      t.fb F.TRU_STATUS.SIGBUSY = false ∧ t.fb (F.TRU_REQ.PEND r.buf) = false ∧ bitAt (t.reg R.TRU_STATUS) r.buf = true ∧
      t.tru.reqs = [] ∧ t.tru.body = none ∧ SameMem s t) ∧
  (∀ (s : State) (id : BitVec 14), s.on 2 = true →
    (s.fb F.TRU_IDENT.LOCK = false → Completes (.identLock id) s fun t => t.f F.TRU_IDENT.STACKID = id.toNat ∧
      t.fb F.TRU_IDENT.LOCK = true ∧ OnlyRegs [R.TRU_IDENT] s t) ∧
    (s.fb F.TRU_IDENT.LOCK = true → exec (.identLock id) s = .next s))

/-- FLASH_PROGRAM, FLASH_ERASE, FLASH_OPERATION_DONE and CONFIRM (15 R448, R449). -/
def Obligations.FlashAndConfirmation : Prop :=
  (∀ (s : State) (erase : Bool), s.live = true →
    let c := if erase then Instr.flashErase else .flashProgram
    let n := if erase then 65536 else 256
    let a := (s.reg R.TRU_FLADDR).toNat / n * n
    let slot := 0x61000000 + s.f F.TRU_BOOTSEL.ACTIVE * 0x2000000
    let refused := s.fb F.TRU_FLCMD.BUSY = true ∨ regionOf a ≠ .flash ∨
      (s.admitted = true ∧ a < slot + 0x2000000 ∧ slot < a + n)
    (refused → Completes c s fun t => t.fb F.TRU_FLCMD.REFUSED = true ∧ t.tru = s.tru ∧
      SameRegsBut [R.TRU_FLCMD, R.FCU_LDGLOST] s t ∧ SameMem s t) ∧
    (¬ refused → Completes c s fun t => t.fb F.TRU_FLCMD.BUSY = true ∧ t.fb F.TRU_FLCMD.REFUSED = false ∧
      t.tru = { s.tru with fl := some (erase, a, if erase then [] else
        (List.range 64).flatMap fun w => wordBytes (s.reg (R.TRU_FLDATA w))) } ∧
      SameRegsBut [R.TRU_FLCMD] s t ∧ SameMem s t)) ∧
  (∀ (s : State) (erase : Bool) (a : Nat) (page : List Byte), s.on 2 = true → s.tru.fl = some (erase, a, page) →
    s.tru.mgmt = [] →
    (Completes (.flashOperationDone false) s fun t => t.fb F.TRU_FLCMD.BUSY = false ∧ t.tru.fl = none ∧
      (erase = true → (∀ i, i < 65536 → t.ldb (a + i) = 0xFF#8) ∧ ∀ b, b < a ∨ a + 65536 ≤ b → t.ldb b = s.ldb b) ∧
      (erase = false → (∀ i (h : i < page.length), t.ldb (a + i) = page[i]) ∧
        ∀ b, b < a ∨ a + page.length ≤ b → t.ldb b = s.ldb b) ∧ SameRegsBut [R.TRU_FLCMD] s t) ∧
    (Completes (.flashOperationDone true) s fun t => t.fb F.TRU_FLCMD.BUSY = false ∧ t.fb F.TRU_FLCMD.FAIL = true ∧
      t.tru.fl = none ∧ (∀ b, b < a ∨ a + (if erase then 65536 else 256) ≤ b → t.ldb b = s.ldb b) ∧
      SameRegsBut [R.TRU_FLCMD] s t)) ∧
  (∀ s : State, s.live = true →
    let ok := s.fb F.TRU_BOOTSEL.TRIAL = true ∧ s.f F.TRU_BOOTSEL.NEXT = s.f F.TRU_BOOTSEL.ACTIVE
    (ok → Completes .confirm s fun t => t.fb F.TRU_BOOTSEL.TRIAL = false ∧ t.fb F.TRU_BOOTSEL.TRIED = false ∧
      t.f F.TRU_BOOTSEL.NEXT = s.f F.TRU_BOOTSEL.NEXT ∧ OnlyRegs [R.TRU_BOOTSEL] s t) ∧
    (¬ ok → exec .confirm s = .next s))

/-- MGMT_STATUS, MGMT_ASSAY, MGMT_ADMIT, MGMT_UNLOAD, MGMT_HANDOVER, MGMT_FLASH_WRITE, MGMT_FLASH_ERASE, BOOT_TRIAL,
MGMT_CONFIRM, REBOOT, MGMT_POWER and MGMT_UNKNOWN_OP through the mailbox (15 R446, R447). STATUS 0 DONE, 1 ACCEPTED,
2 REFUSED, 3 UNKNOWN; the ARG of an answer is free except POWER's (log 55). The last clause: the same service for a
request that the ring forwards. -/
def Obligations.MailboxRequests : Prop :=
  let asks := fun (s : State) (op : Nat) (h : DWord) (l : List DWord) => s.mgmtServes op = true ∧ s.qOn 25 = true ∧
    s.queue 25 = h :: l ∧ fld h 47 40 ≤ l.length ∧ fld h 63 56 = op ∧ s.tru.mgmt = []
  let box := fun (s : State) => s.queue 26 ++ s.tru.mbxOut
  let answered := fun (s t : State) (h : DWord) (l : List DWord) (status : Nat) =>
    t.queue 25 = l.drop (fld h 47 40) ∧ ∃ e rest, box t = box s ++ e :: rest ∧ fld e 63 56 = fld h 63 56 ∧
      fld e 55 48 = fld h 55 48 ∧ fld e 47 40 = 0 ∧ fld e 39 32 = status ∧ (status ≠ 1 → rest = [])
  (∀ (s : State) (h : DWord) (l : List DWord), asks s 1 h l → Completes (.mgmtStatus none) s fun t =>
    answered s t h l 0 ∧ (∀ a, t.reg a = s.reg a) ∧ SameMem s t) ∧
  (∀ (s : State) (h : DWord) (l : List DWord), asks s 2 h l →
    ((fld h 47 40 ≠ 4 ∨ ∃ r ∈ s.tru.reqs, r.buf = 0) → Completes (.mgmtAssay none) s fun t => answered s t h l 2) ∧
    (fld h 47 40 = 4 → s.tru.reqs = [] → s.tru.body = none → s.fb F.TRU_STATUS.KEYBAD = false →
      Completes (.mgmtAssay none) s fun t => answered s t h l 1 ∧ t.tru.reqs.length = 1 ∧
        t.fb (F.TRU_REQ.PEND 0) = true ∧ t.tru.mgmt = [⟨2, fld h 55 48, false⟩])) ∧
  (∀ (s : State) (h : DWord) (l : List DWord), asks s 3 h l →
    (s.adm.request ≠ none → Completes (.mgmtAdmit none) s fun t => answered s t h l 2) ∧
    (s.adm.request = none → s.grave = false → s.fb F.RNG_STATUS.OBSERVER = false → s.fb F.ADM_STATUS.BUSY = false →
      s.admitted = false → s.fb F.ADM_STATUS.UNLOADING = false → Completes (.mgmtAdmit none) s fun t =>
        answered s t h l 1 ∧ t.adm.request = some (fld h 31 0) ∧ t.fb F.ADM_STATUS.BUSY = true ∧
        (∀ r, t.gpr 0 r = s.gpr 0 r))) ∧
  (∀ (s : State) (h : DWord) (l : List DWord), asks s 4 h l →
    ((s.fb F.ADM_STATUS.BUSY = true ∨ s.fb F.ADM_STATUS.UNLOADING = true) → Completes (.mgmtUnload none) s fun t =>
      answered s t h l 2) ∧
    (s.fb F.ADM_STATUS.BUSY = false → s.fb F.ADM_STATUS.UNLOADING = false → s.admitted = true →
      Completes (.mgmtUnload none) s fun t => answered s t h l 1 ∧ t.adm.unloadReq = true)) ∧
  (∀ (s : State) (h : DWord) (l : List DWord), asks s 5 h l →
    ((fld h 31 28 = 0 ∨ 3 < fld h 31 28 ∨ (fld h 31 28 ≠ 3 ∧ s.fb F.RNG_HOSTAT.BUSY = true)) →
      Completes (.mgmtHandover none) s fun t => answered s t h l 2) ∧
    ((fld h 31 28 = 1 ∨ fld h 31 28 = 2) → s.fb F.RNG_HOSTAT.BUSY = false →
      Completes (.mgmtHandover none) s fun t => answered s t h l 1)) ∧
  (∀ (s : State) (h : DWord) (l : List DWord), asks s 6 h l → fld h 47 40 ≤ 32 →
    let a := fld h 31 0 / 256 * 256
    (s.fb F.TRU_FLCMD.BUSY = true → Completes (.mgmtFlashWrite none) s fun t => answered s t h l 2) ∧
    (s.fb F.TRU_FLCMD.BUSY = false → regionOf a = .flash → s.admitted = false →
      Completes (.mgmtFlashWrite none) s fun t => answered s t h l 1 ∧ ∃ page, t.tru.fl = some (false, a, page) ∧
        page.length = 256 ∧ ∀ i, i < 256 → page[i]? = some (match (l.take (fld h 47 40))[i / 8]? with
          | some e => e.extractLsb' (8 * (i % 8)) 8
          | none => 0xFF#8))) ∧
  (∀ (s : State) (h : DWord) (l : List DWord), asks s 7 h l → let a := fld h 31 0 / 65536 * 65536
    (s.fb F.TRU_FLCMD.BUSY = true → Completes (.mgmtFlashErase none) s fun t => answered s t h l 2) ∧
    (s.fb F.TRU_FLCMD.BUSY = false → regionOf a = .flash → s.admitted = false →
      Completes (.mgmtFlashErase none) s fun t => answered s t h l 1 ∧ t.tru.fl = some (true, a, []))) ∧
  (∀ (s : State) (h : DWord) (l : List DWord), asks s 8 h l → Completes (.bootTrial none) s fun t =>
    answered s t h l 0 ∧ t.fb F.TRU_BOOTSEL.TRIAL = true ∧ t.f F.TRU_BOOTSEL.NEXT = fld h 0 0 ∧
    SameRegsBut [R.TRU_BOOTSEL] s t ∧ SameMem s t) ∧
  (∀ (s : State) (h : DWord) (l : List DWord), asks s 9 h l →
    let ok := s.fb F.TRU_BOOTSEL.TRIAL = true ∧ s.f F.TRU_BOOTSEL.NEXT = s.f F.TRU_BOOTSEL.ACTIVE
    (ok → Completes (.mgmtConfirm none) s fun t => answered s t h l 0 ∧ t.fb F.TRU_BOOTSEL.TRIAL = false ∧
      (∃ r, r < 2 ∧ ∃ q : Word, t.ldw (0x60000000 + r * 0x1000) = q ∧
        (t.ldw (0x60000000 + r * 0x1000 + 4)).toNat = s.f F.TRU_BOOTSEL.ACTIVE ∧
        t.ldw (0x60000000 + r * 0x1000 + 8) = ~~~ (q ^^^ t.ldw (0x60000000 + r * 0x1000 + 4)) ∧
        ∀ b, b < 0x60000000 + r * 0x1000 ∨ 0x60000000 + r * 0x1000 + 12 ≤ b → t.ldb b = s.ldb b)) ∧
    (¬ ok → Completes (.mgmtConfirm none) s fun t => answered s t h l 2 ∧ (∀ a, t.reg a = s.reg a) ∧ SameMem s t)) ∧
  (∀ (s : State) (h : DWord) (l : List DWord), asks s 0xA h l → s.on 0 = true → Completes (.reboot none) s fun t =>
    t.pwr.inReset = true ∧ fld t.busOut 63 56 = 0xA ∧ fld t.busOut 55 48 = fld h 55 48 ∧ fld t.busOut 39 32 = 0) ∧
  (∀ (s : State) (h : DWord) (l : List DWord), asks s 0xB h l →
    (fld h 30 28 = 0 → Completes (.mgmtPower none) s fun t => answered s t h l 0 ∧ (∀ a, t.reg a = s.reg a)) ∧
    (fld h 30 28 ≠ 0 → Completes (.mgmtPower none) s fun t => answered s t h l 2 ∧ (∀ a, t.reg a = s.reg a))) ∧
  (∀ (s : State) (h : DWord) (l : List DWord) (op : Nat), asks s op h l → s.mgmtServes 1 = true → ¬ (1 ≤ op ∧ op ≤ 0xB) →
    Completes (.mgmtUnknownOp none) s fun t => answered s t h l 3 ∧ (∀ a, t.reg a = s.reg a) ∧ SameMem s t) ∧
  (∀ (s : State) (h : DWord) (l : List DWord), s.mgmtServes 8 = true → s.rngOn = true → s.rngJoined = true →
    fld h 47 40 ≤ l.length → fld h 63 56 = 8 → Completes (.bootTrial (some (h, l))) s fun t =>
      t.fb F.TRU_BOOTSEL.TRIAL = true ∧ t.f F.TRU_BOOTSEL.NEXT = fld h 0 0 ∧ t.queues = s.queues)

/-- RESET_RELEASE and ROM_HAND_OVER (15 R436 to R439, R444; 16 R464; 17 R478; 12 R364). -/
def Obligations.ResetReleaseAndHandOver : Prop :=
  (∀ (s : State) (a b c : BitVec 4) (k : KeyCheck), s.pwr.inReset = false → exec (.resetRelease a b c k) s = .next s) ∧
  (∀ (s : State) (a b c : BitVec 4) (k : KeyCheck), s.pwr.inReset = true → s.on 0 = true → s.on 3 = false →
    Completes (.resetRelease a b c k) s fun t => t.reg R.SYSC_STRAP = (a &&& b &&& c).setWidth 32 ∧
      t.pwr.inReset = true ∧ OnlyRegs [R.SYSC_STRAP] s t) ∧
  (∀ (s : State) (a b c : BitVec 4), s.pwr.inReset = true → s.on 0 = true → s.on 3 = true →
    Completes (.resetRelease a b c .good) s fun t => t.pwr.inReset = false ∧
      t.reg R.SYSC_STRAP = (a &&& b &&& c).setWidth 32 ∧
      (t.reg R.TRU_BOOTCNT).toNat = min (2 ^ 32 - 1) ((s.reg R.TRU_BOOTCNT).toNat + 1) ∧
      t.fb F.TRU_STATUS.KEYBAD = false ∧ (∀ n, n < 8 → bitAt (s.reg R.FCU_GRAVE) n = true → t.fsw n = true) ∧
      ((t.pwr.rom = .running ∧ t.imgBad (t.f F.TRU_BOOTSEL.ACTIVE) = none) ∨
        (t.pwr.rom = .recovery ∧ t.fb F.TRU_STATUS.ROMREC = true)) ∧ SameMem s t) ∧
  (∀ s : State, s.live = true → s.on 3 = true → s.pwr.rom = .running →
    let slot := s.f F.TRU_BOOTSEL.ACTIVE
    let b := 0x61000000 + slot * 0x2000000
    Completes .romHandOver s fun t => t.pwr.rom = .handedOver ∧
      (t.proc 0).run = .running ∧ (t.proc 0).pc = s.ldw (b + 0xC) ∧
      (t.proc 4).run = .running ∧ (t.proc 4).pc = s.ldw (b + 0x10) ∧ (∀ p, p ≠ 0 → p ≠ 4 → t.proc p = s.proc p) ∧
      t.tru.ext = [] ∧ t.reg R.TRU_SUMHI ++ t.reg R.TRU_SUMLO = t.assaySummary ∧
      (∀ x, (∀ y ∈ s.imgSects slot, y.xip = true ∨ x < y.dest ∨ y.dest + y.len ≤ x) → t.ldb x = s.ldb x) ∧
      (s.imgBad slot = none → ∀ y ∈ s.imgSects slot, y.xip = false → ∀ i, i < y.len →
        t.ldb (y.dest + i) = s.ldb (b + 1024 + y.src + i)))

/-- HP_READ, HP_WRITE and REGISTER_WRITE (16 R462, R469; 08 R256). -/
def Obligations.HostPortAccessRules : Prop :=
  let rejected := fun (s t : State) (a : Word) => t.fb F.HPD_STATUS.HERR = true ∧ t.reg R.HPD_HERRADDR = a ∧
    SameRegsBut [R.HPD_STATUS, R.HPD_HERRADDR, R.SYSC_MODE] s t ∧ SameMem s t
  (∀ (s : State) (a : Word) (late : Bool), s.on 0 = true → s.on 3 = false → bedrockReg a.toNat = false →
    Completes (.hpRead a late) s fun t => t = { s with busOut := 0 }) ∧
  (∀ (s : State) (a : Word), s.on 0 = true → s.on 3 = true → Completes (.hpRead a true) s fun t =>
    t.busOut = 0 ∧ t.fb F.HPD_STATUS.HERR = true ∧ t.fb F.HPD_STATUS.LATE = true ∧
    SameRegsBut [R.HPD_STATUS] s t ∧ SameMem s t) ∧
  (∀ (s : State) (a : Word), s.on 0 = true → s.on 3 = true →
    ((a.toNat % 4 ≠ 0 ∨ regionOf a.toNat ∈ [Region.hole, .pool, .pairTcm, .flash]) →
      Completes (.hpRead a false) s fun t => t.busOut = 0 ∧ rejected s t a) ∧
    (a.toNat % 4 = 0 → regionOf a.toNat ∉ [Region.hole, .pool, .pairTcm, .flash, .periph] →
      s.memOn (regionOf a.toNat) = true → s.isBad a.toNat = false → Completes (.hpRead a false) s fun t =>
        t = { s with busOut := (s.ldw a.toNat).setWidth 64 }) ∧
    (a.toNat % 4 = 0 → regionOf a.toNat = .periph → Completes (.hpRead a false) s fun t =>
      t.busOut = (s.regView .host a.toNat).setWidth 64 ∧ SameMem s t)) ∧
  (∀ (s : State) (a v : Word), s.on 0 = true → s.on 3 = true →
    ((a.toNat % 4 ≠ 0 ∨ (hostNormalReg a.toNat = false ∧ s.commission = false)) →
      Completes (.hpWrite a v) s fun t => rejected s t a) ∧
    (a.toNat % 4 = 0 → hostNormalReg a.toNat = true → exec (.hpWrite a v) s = .next (s.regWrite .host a.toNat v)) ∧
    (s.commission = true → a.toNat % 4 = 0 → regionOf a.toNat = .sram → Completes (.hpWrite a v) s fun t =>
      t.ldw a.toNat = v ∧ (∀ b, b < a.toNat ∨ a.toNat + 4 ≤ b → t.ldb b = s.ldb b) ∧ (∀ b, t.reg b = s.reg b))) ∧
  (∀ (s : State) (req : Requester) (a : Nat) (r : RegRow) (v : Word), s.live = true → req ≠ .host → regRow? a = some r →
    (s.on r.dom = false → exec (.registerWrite req (.addr a) v) s = .next s) ∧
    (s.on r.dom = true → s.hookWrite req a v = none → Completes (.registerWrite req (.addr a) v) s fun t =>
      (∀ i, i < 32 → (t.reg a).getLsbD i =
        if (r.w1c.getLsbD i && v.getLsbD i) = true then false
        else if (r.rw.getLsbD i || (r.rwl.getLsbD i && !s.rwlLocked a)) = true then v.getLsbD i
        else (s.reg a).getLsbD i) ∧ OnlyRegs [a] s t)) ∧
  (∀ (s : State) (req : Requester) (a : Nat) (v : Word), s.live = true → req ≠ .host → regRow? a = none →
    exec (.registerWrite req (.addr a) v) s = .next s ∧ s.regRead req a = (s, 0))

/-- 01 R25, for the writes of pattern tables and interlock pairs. Entry 0, which firmware cannot change, belongs to R23. -/
def Obligations.PatternTablesLockWithTheirClass : Prop :=
  (∀ (s : State) (req : Requester) (cls : Fin 16) (i : Fin 32) (j : Fin 8) (v : Word), s.admitted = true →
    (∃ p ∈ ctxIdx, fld (s.naming p) 3 0 = cls.val ∧ s.naming p ≠ 0) →
    exec (.registerWrite req (.pattern cls i) v) s = .next s ∧ exec (.registerWrite req (.pair cls j) v) s = .next s) ∧
  (∀ (s : State) (req : Requester) (cls : Fin 16) (i : Fin 32) (j : Fin 8) (v : Word), s.live = true → s.on 6 = true →
    (s.admitted = false ∨ ∀ p ∈ ctxIdx, ¬ (fld (s.naming p) 3 0 = cls.val ∧ s.naming p ≠ 0)) →
    (i.val ≠ 0 → Completes (.registerWrite req (.pattern cls i) v) s fun t =>
      t.pat cls i = v &&& 0xFE00FFFF#32 ∧ (∀ (c : Fin 16) (k : Fin 32), (c, k) ≠ (cls, i) → t.pat c k = s.pat c k) ∧
      t = { s with cs := { s.cs with pat := t.cs.pat } }) ∧
    (Completes (.registerWrite req (.pair cls j) v) s fun t =>
      tblGet (fun _ => (0 : Word)) t.cs.pairs (cls * 8 + j) = v ∧
      (∀ k, k ≠ cls.val * 8 + j.val → tblGet (fun _ => (0 : Word)) t.cs.pairs k =
        tblGet (fun _ => (0 : Word)) s.cs.pairs k) ∧ t = { s with cs := { s.cs with pairs := t.cs.pairs } }))

/-- The step of this block (the model's form; log 59 for the empty queue). -/
def Obligations.StepTakesTheFrontCommand : Prop :=
  ∀ (c : Instr) (l : List Instr) (s : State), s.pending = c :: l → step s = exec c { s with pending := l }

/-- The tick of an empty queue (DESIGN CHOICE, log 59), with the advance of stack time of 02 R52 and R56. -/
def Obligations.EmptyQueueIsOneCycle : Prop :=
  ∀ s : State, s.pending = [] →
    (s.on 1 = true → s.pwr.inReset = false → s.fb F.CLK_CTRL.DLL_EN = true → s.tm.started = true →
      step s = .next { s with tm := { s.tm with count := s.tm.count + 64, refclk := s.tm.refclk + 1 } }) ∧
    ((s.on 1 = false ∨ s.pwr.inReset = true ∨ s.fb F.CLK_CTRL.DLL_EN = false ∨ s.tm.started = false) → step s = .next s)

/-- No command of the table stops (NOTES.md, Stops). -/
def Obligations.EveryCommandCompletes : Prop := ∀ (c : Instr) (s : State), ∃ t, exec c s = .next t

/-- The queue belongs to the step alone (the model's form). -/
def Obligations.CommandsLeaveTheQueue : Prop :=
  ∀ (c : Instr) (s t : State), exec c s = .next t → t.pending = s.pending

/-- The canonical form at reset. -/
def Obligations.CanonicalAtReset : Prop := State.reset.Canonical

/-- Equal memories are equal data, after every step. -/
def Obligations.EveryStepKeepsCanonical : Prop :=
  ∀ s t : State, s.Canonical → step s = .next t → t.Canonical

/-- 01 R26, the table spelled out: class code, index, ROLE, GROUP and GATES of every default entry from 1 on, and
entry 0, which R23 gives. -/
def Obligations.PatternTablesAtReset : Prop :=
  let h : List (Nat × Nat × Nat × Nat) := [(1, 1, 0, 0x000A), (2, 2, 0, 0x000A), (3, 2, 0, 0x0005), (4, 3, 0, 0x0009),
    (5, 4, 0, 0x0006)]
  let table : List (Nat × List (Nat × Nat × Nat × Nat)) := [(1, h), (4, h),
    (3, [(1, 1, 0, 0x0002), (2, 2, 0, 0x0002), (3, 3, 0, 0x0001)]),
    (2, h ++ [(6, 5, 1, 0x0090), (7, 5, 1, 0x0060), (8, 5, 2, 0x0900), (9, 5, 2, 0x0600), (10, 5, 1, 0), (11, 5, 2, 0)]),
    (5, [(1, 1, 0, 0), (2, 5, 1, 0x0009), (3, 5, 1, 0x0006), (4, 5, 2, 0x0090), (5, 5, 2, 0x0060), (6, 5, 1, 0),
      (7, 5, 2, 0)]),
    (6, [(1, 1, 0, 0), (2, 5, 1, 0x01), (3, 5, 1, 0x02), (4, 5, 1, 0), (5, 5, 2, 0x04), (6, 5, 2, 0x08), (7, 5, 2, 0),
      (8, 5, 3, 0x10), (9, 5, 3, 0x20), (10, 5, 3, 0), (11, 5, 4, 0x40), (12, 5, 4, 0x80), (13, 5, 4, 0)])]
  (∀ c ∈ table, ∀ e ∈ c.2, pValid (State.reset.pat c.1 e.1) = true ∧ pRole (State.reset.pat c.1 e.1) = e.2.1 ∧
    pGroup (State.reset.pat c.1 e.1) = e.2.2.1 ∧ pGates (State.reset.pat c.1 e.1) = e.2.2.2) ∧
  (∀ (cls : Fin 16) (i : Fin 32), i.val ≠ 0 →
    (∀ c ∈ table, c.1 = cls.val → ∀ e ∈ c.2, e.1 ≠ i.val) → State.reset.pat cls i = 0) ∧
  (∀ cls : Fin 16, 1 ≤ cls.val → cls.val ≤ 6 → State.reset.pat cls 0 = 0x80000000#32)
end

