-- ==== Sys2Proof/Laws/Bits.lean ====
section
/-! SUPPORT. The laws of bit fields: a field reads what was put into it, and other fields of the word stay. -/

namespace Sys2Proof.Machine

@[simp] theorem b2n_true : b2n true = 1 := rfl
@[simp] theorem b2n_false : b2n false = 0 := rfl

theorem testBit_fld (w : Word) (hi lo i : Nat) :
    (fld w hi lo).testBit i = (decide (i < hi + 1 - lo) && w.getLsbD (lo + i)) := by
  unfold fld
  rw [← Nat.shiftRight_eq_div_pow, Nat.testBit_mod_two_pow, Nat.testBit_shiftRight]
  rfl

theorem getLsbD_maskOf (hi lo i : Nat) :
    (maskOf hi lo).getLsbD i = (decide (i < 32) && (decide (lo ≤ i) && decide (i < lo + (hi + 1 - lo)))) := by
  unfold maskOf
  rw [BitVec.getLsbD_ofNat, Nat.testBit_mul_two_pow, Nat.testBit_two_pow_sub_one]
  by_cases h : lo ≤ i
  · have : (i - lo < hi + 1 - lo) ↔ (i < lo + (hi + 1 - lo)) := by omega
    simp [h, this]
  · simp [h]

/-- A bit of a word after a field was replaced. -/
theorem getLsbD_setFld (w : Word) (hi lo v i : Nat) :
    (setFld w hi lo v).getLsbD i =
      if i < 32 ∧ lo ≤ i ∧ i < hi + 1 then v.testBit (i - lo) else w.getLsbD i := by
  unfold setFld
  rw [BitVec.getLsbD_or, BitVec.getLsbD_and, BitVec.getLsbD_and, BitVec.getLsbD_not, getLsbD_maskOf,
    BitVec.getLsbD_ofNat, Nat.testBit_mul_two_pow]
  by_cases h : i < 32 ∧ lo ≤ i ∧ i < hi + 1
  · obtain ⟨h1, h2, h3⟩ := h
    have h4 : i < lo + (hi + 1 - lo) := by omega
    simp [h1, h2, h3, h4]
  · rw [if_neg h]
    by_cases h1 : i < 32
    · by_cases h2 : lo ≤ i
      · have h4 : ¬ i < lo + (hi + 1 - lo) := by omega
        simp [h1, h2, h4]
      · simp [h1, h2]
    · have : w.getLsbD i = false := BitVec.getLsbD_of_ge _ _ (by omega)
      simp [h1, this]

/-- A field reads what was put into it. -/
theorem fld_setFld_same (w : Word) (hi lo v : Nat) (h : hi < 32) :
    fld (setFld w hi lo v) hi lo = v % 2 ^ (hi + 1 - lo) := by
  apply Nat.eq_of_testBit_eq
  intro i
  rw [testBit_fld, Nat.testBit_mod_two_pow, getLsbD_setFld]
  by_cases hi' : i < hi + 1 - lo
  · have : lo + i < 32 ∧ lo ≤ lo + i ∧ lo + i < hi + 1 := by omega
    rw [if_pos this]
    simp
  · simp [hi']

/-- A field apart from the one replaced stays. -/
theorem fld_setFld_apart (w : Word) (hi lo v hi' lo' : Nat) (h : hi' < lo ∨ hi < lo') :
    fld (setFld w hi lo v) hi' lo' = fld w hi' lo' := by
  apply Nat.eq_of_testBit_eq
  intro i
  rw [testBit_fld, testBit_fld, getLsbD_setFld]
  by_cases hi2 : i < hi' + 1 - lo'
  · have : ¬ (lo' + i < 32 ∧ lo ≤ lo' + i ∧ lo' + i < hi + 1) := by omega
    rw [if_neg this]
  · simp [hi2]

/-- A one-bit field reads what was put into it. -/
theorem bitAt_setFld_same (w : Word) (i v : Nat) (h : i < 32) : bitAt (setFld w i i v) i = v.testBit 0 := by
  unfold bitAt
  rw [getLsbD_setFld, if_pos ⟨h, Nat.le_refl i, Nat.lt_succ_self i⟩]
  simp

/-- A bit apart from the field replaced stays. -/
theorem bitAt_setFld_apart (w : Word) (hi lo v i : Nat) (h : i < lo ∨ hi < i) :
    bitAt (setFld w hi lo v) i = bitAt w i := by
  unfold bitAt
  rw [getLsbD_setFld, if_neg (by omega)]

/-- A field is below two to its width. -/
theorem fld_lt (w : Word) (hi lo : Nat) : fld w hi lo < 2 ^ (hi + 1 - lo) := Nat.mod_lt _ (Nat.two_pow_pos _)

@[simp] theorem testBit_b2n (b : Bool) : (b2n b).testBit 0 = b := by cases b <;> rfl

end Sys2Proof.Machine
end

