-- ==== Sys2Proof/Laws/State.lean ====
section
/-! SUPPORT. One lemma per field of the state per primitive update: what a write of a register, of a byte of memory, of a
processor and the use of a free value leave as it was. -/

namespace Sys2Proof.Machine

variable (s : State)

@[simp] theorem State.setReg_mem (a : Nat) (v : Word) : (s.setReg a v).mem = s.mem := rfl
@[simp] theorem State.setReg_badWords (a : Nat) (v : Word) : (s.setReg a v).badWords = s.badWords := rfl
@[simp] theorem State.setReg_pwr (a : Nat) (v : Word) : (s.setReg a v).pwr = s.pwr := rfl
@[simp] theorem State.setReg_tm (a : Nat) (v : Word) : (s.setReg a v).tm = s.tm := rfl
@[simp] theorem State.setReg_procs (a : Nat) (v : Word) : (s.setReg a v).procs = s.procs := rfl
@[simp] theorem State.setReg_queues (a : Nat) (v : Word) : (s.setReg a v).queues = s.queues := rfl
@[simp] theorem State.setReg_fcu (a : Nat) (v : Word) : (s.setReg a v).fcu = s.fcu := rfl
@[simp] theorem State.setReg_can (a : Nat) (v : Word) : (s.setReg a v).can = s.can := rfl
@[simp] theorem State.setReg_adm (a : Nat) (v : Word) : (s.setReg a v).adm = s.adm := rfl
@[simp] theorem State.setReg_ce (a : Nat) (v : Word) : (s.setReg a v).ce = s.ce := rfl
@[simp] theorem State.setReg_eth (a : Nat) (v : Word) : (s.setReg a v).eth = s.eth := rfl
@[simp] theorem State.setReg_lnk (a : Nat) (v : Word) : (s.setReg a v).lnk = s.lnk := rfl
@[simp] theorem State.setReg_eps (a : Nat) (v : Word) : (s.setReg a v).eps = s.eps := rfl
@[simp] theorem State.setReg_cs (a : Nat) (v : Word) : (s.setReg a v).cs = s.cs := rfl
@[simp] theorem State.setReg_msr (a : Nat) (v : Word) : (s.setReg a v).msr = s.msr := rfl
@[simp] theorem State.setReg_ring (a : Nat) (v : Word) : (s.setReg a v).ring = s.ring := rfl
@[simp] theorem State.setReg_brp (a : Nat) (v : Word) : (s.setReg a v).brp = s.brp := rfl
@[simp] theorem State.setReg_sfu (a : Nat) (v : Word) : (s.setReg a v).sfu = s.sfu := rfl
@[simp] theorem State.setReg_tru (a : Nat) (v : Word) : (s.setReg a v).tru = s.tru := rfl
@[simp] theorem State.setReg_busOut (a : Nat) (v : Word) : (s.setReg a v).busOut = s.busOut := rfl
@[simp] theorem State.setReg_freeCtr (a : Nat) (v : Word) : (s.setReg a v).freeCtr = s.freeCtr := rfl
@[simp] theorem State.setReg_pending (a : Nat) (v : Word) : (s.setReg a v).pending = s.pending := rfl

@[simp] theorem State.stb_regs (a : Nat) (v : Byte) : (s.stb a v).regs = s.regs := rfl
@[simp] theorem State.stb_badWords (a : Nat) (v : Byte) : (s.stb a v).badWords = s.badWords := rfl
@[simp] theorem State.stb_pwr (a : Nat) (v : Byte) : (s.stb a v).pwr = s.pwr := rfl
@[simp] theorem State.stb_tm (a : Nat) (v : Byte) : (s.stb a v).tm = s.tm := rfl
@[simp] theorem State.stb_procs (a : Nat) (v : Byte) : (s.stb a v).procs = s.procs := rfl
@[simp] theorem State.stb_queues (a : Nat) (v : Byte) : (s.stb a v).queues = s.queues := rfl
@[simp] theorem State.stb_fcu (a : Nat) (v : Byte) : (s.stb a v).fcu = s.fcu := rfl
@[simp] theorem State.stb_can (a : Nat) (v : Byte) : (s.stb a v).can = s.can := rfl
@[simp] theorem State.stb_adm (a : Nat) (v : Byte) : (s.stb a v).adm = s.adm := rfl
@[simp] theorem State.stb_ce (a : Nat) (v : Byte) : (s.stb a v).ce = s.ce := rfl
@[simp] theorem State.stb_eth (a : Nat) (v : Byte) : (s.stb a v).eth = s.eth := rfl
@[simp] theorem State.stb_lnk (a : Nat) (v : Byte) : (s.stb a v).lnk = s.lnk := rfl
@[simp] theorem State.stb_eps (a : Nat) (v : Byte) : (s.stb a v).eps = s.eps := rfl
@[simp] theorem State.stb_cs (a : Nat) (v : Byte) : (s.stb a v).cs = s.cs := rfl
@[simp] theorem State.stb_msr (a : Nat) (v : Byte) : (s.stb a v).msr = s.msr := rfl
@[simp] theorem State.stb_ring (a : Nat) (v : Byte) : (s.stb a v).ring = s.ring := rfl
@[simp] theorem State.stb_brp (a : Nat) (v : Byte) : (s.stb a v).brp = s.brp := rfl
@[simp] theorem State.stb_sfu (a : Nat) (v : Byte) : (s.stb a v).sfu = s.sfu := rfl
@[simp] theorem State.stb_tru (a : Nat) (v : Byte) : (s.stb a v).tru = s.tru := rfl
@[simp] theorem State.stb_busOut (a : Nat) (v : Byte) : (s.stb a v).busOut = s.busOut := rfl
@[simp] theorem State.stb_freeCtr (a : Nat) (v : Byte) : (s.stb a v).freeCtr = s.freeCtr := rfl
@[simp] theorem State.stb_pending (a : Nat) (v : Byte) : (s.stb a v).pending = s.pending := rfl

@[simp] theorem State.setProc_regs (p : Nat) (q : Proc) : (s.setProc p q).regs = s.regs := rfl
@[simp] theorem State.setProc_mem (p : Nat) (q : Proc) : (s.setProc p q).mem = s.mem := rfl
@[simp] theorem State.setProc_badWords (p : Nat) (q : Proc) : (s.setProc p q).badWords = s.badWords := rfl
@[simp] theorem State.setProc_pwr (p : Nat) (q : Proc) : (s.setProc p q).pwr = s.pwr := rfl
@[simp] theorem State.setProc_tm (p : Nat) (q : Proc) : (s.setProc p q).tm = s.tm := rfl
@[simp] theorem State.setProc_queues (p : Nat) (q : Proc) : (s.setProc p q).queues = s.queues := rfl
@[simp] theorem State.setProc_fcu (p : Nat) (q : Proc) : (s.setProc p q).fcu = s.fcu := rfl
@[simp] theorem State.setProc_can (p : Nat) (q : Proc) : (s.setProc p q).can = s.can := rfl
@[simp] theorem State.setProc_adm (p : Nat) (q : Proc) : (s.setProc p q).adm = s.adm := rfl
@[simp] theorem State.setProc_ce (p : Nat) (q : Proc) : (s.setProc p q).ce = s.ce := rfl
@[simp] theorem State.setProc_eth (p : Nat) (q : Proc) : (s.setProc p q).eth = s.eth := rfl
@[simp] theorem State.setProc_lnk (p : Nat) (q : Proc) : (s.setProc p q).lnk = s.lnk := rfl
@[simp] theorem State.setProc_eps (p : Nat) (q : Proc) : (s.setProc p q).eps = s.eps := rfl
@[simp] theorem State.setProc_cs (p : Nat) (q : Proc) : (s.setProc p q).cs = s.cs := rfl
@[simp] theorem State.setProc_msr (p : Nat) (q : Proc) : (s.setProc p q).msr = s.msr := rfl
@[simp] theorem State.setProc_ring (p : Nat) (q : Proc) : (s.setProc p q).ring = s.ring := rfl
@[simp] theorem State.setProc_brp (p : Nat) (q : Proc) : (s.setProc p q).brp = s.brp := rfl
@[simp] theorem State.setProc_sfu (p : Nat) (q : Proc) : (s.setProc p q).sfu = s.sfu := rfl
@[simp] theorem State.setProc_tru (p : Nat) (q : Proc) : (s.setProc p q).tru = s.tru := rfl
@[simp] theorem State.setProc_busOut (p : Nat) (q : Proc) : (s.setProc p q).busOut = s.busOut := rfl
@[simp] theorem State.setProc_freeCtr (p : Nat) (q : Proc) : (s.setProc p q).freeCtr = s.freeCtr := rfl
@[simp] theorem State.setProc_pending (p : Nat) (q : Proc) : (s.setProc p q).pending = s.pending := rfl

@[simp] theorem State.freeNext_regs : (s.freeNext).regs = s.regs := rfl
@[simp] theorem State.freeNext_mem : (s.freeNext).mem = s.mem := rfl
@[simp] theorem State.freeNext_badWords : (s.freeNext).badWords = s.badWords := rfl
@[simp] theorem State.freeNext_pwr : (s.freeNext).pwr = s.pwr := rfl
@[simp] theorem State.freeNext_tm : (s.freeNext).tm = s.tm := rfl
@[simp] theorem State.freeNext_procs : (s.freeNext).procs = s.procs := rfl
@[simp] theorem State.freeNext_queues : (s.freeNext).queues = s.queues := rfl
@[simp] theorem State.freeNext_fcu : (s.freeNext).fcu = s.fcu := rfl
@[simp] theorem State.freeNext_can : (s.freeNext).can = s.can := rfl
@[simp] theorem State.freeNext_adm : (s.freeNext).adm = s.adm := rfl
@[simp] theorem State.freeNext_ce : (s.freeNext).ce = s.ce := rfl
@[simp] theorem State.freeNext_eth : (s.freeNext).eth = s.eth := rfl
@[simp] theorem State.freeNext_lnk : (s.freeNext).lnk = s.lnk := rfl
@[simp] theorem State.freeNext_eps : (s.freeNext).eps = s.eps := rfl
@[simp] theorem State.freeNext_cs : (s.freeNext).cs = s.cs := rfl
@[simp] theorem State.freeNext_msr : (s.freeNext).msr = s.msr := rfl
@[simp] theorem State.freeNext_ring : (s.freeNext).ring = s.ring := rfl
@[simp] theorem State.freeNext_brp : (s.freeNext).brp = s.brp := rfl
@[simp] theorem State.freeNext_sfu : (s.freeNext).sfu = s.sfu := rfl
@[simp] theorem State.freeNext_tru : (s.freeNext).tru = s.tru := rfl
@[simp] theorem State.freeNext_busOut : (s.freeNext).busOut = s.busOut := rfl
@[simp] theorem State.freeNext_pending : (s.freeNext).pending = s.pending := rfl

@[simp] theorem State.setF_mem (x : Field) (v : Nat) : (s.setF x v).mem = s.mem := rfl
@[simp] theorem State.setF_badWords (x : Field) (v : Nat) : (s.setF x v).badWords = s.badWords := rfl
@[simp] theorem State.setF_pwr (x : Field) (v : Nat) : (s.setF x v).pwr = s.pwr := rfl
@[simp] theorem State.setF_tm (x : Field) (v : Nat) : (s.setF x v).tm = s.tm := rfl
@[simp] theorem State.setF_procs (x : Field) (v : Nat) : (s.setF x v).procs = s.procs := rfl
@[simp] theorem State.setF_queues (x : Field) (v : Nat) : (s.setF x v).queues = s.queues := rfl
@[simp] theorem State.setF_fcu (x : Field) (v : Nat) : (s.setF x v).fcu = s.fcu := rfl
@[simp] theorem State.setF_can (x : Field) (v : Nat) : (s.setF x v).can = s.can := rfl
@[simp] theorem State.setF_adm (x : Field) (v : Nat) : (s.setF x v).adm = s.adm := rfl
@[simp] theorem State.setF_ce (x : Field) (v : Nat) : (s.setF x v).ce = s.ce := rfl
@[simp] theorem State.setF_eth (x : Field) (v : Nat) : (s.setF x v).eth = s.eth := rfl
@[simp] theorem State.setF_lnk (x : Field) (v : Nat) : (s.setF x v).lnk = s.lnk := rfl
@[simp] theorem State.setF_eps (x : Field) (v : Nat) : (s.setF x v).eps = s.eps := rfl
@[simp] theorem State.setF_cs (x : Field) (v : Nat) : (s.setF x v).cs = s.cs := rfl
@[simp] theorem State.setF_msr (x : Field) (v : Nat) : (s.setF x v).msr = s.msr := rfl
@[simp] theorem State.setF_ring (x : Field) (v : Nat) : (s.setF x v).ring = s.ring := rfl
@[simp] theorem State.setF_brp (x : Field) (v : Nat) : (s.setF x v).brp = s.brp := rfl
@[simp] theorem State.setF_sfu (x : Field) (v : Nat) : (s.setF x v).sfu = s.sfu := rfl
@[simp] theorem State.setF_tru (x : Field) (v : Nat) : (s.setF x v).tru = s.tru := rfl
@[simp] theorem State.setF_busOut (x : Field) (v : Nat) : (s.setF x v).busOut = s.busOut := rfl
@[simp] theorem State.setF_freeCtr (x : Field) (v : Nat) : (s.setF x v).freeCtr = s.freeCtr := rfl
@[simp] theorem State.setF_pending (x : Field) (v : Nat) : (s.setF x v).pending = s.pending := rfl

@[simp] theorem State.setB_mem (x : Field) (b : Bool) : (s.setB x b).mem = s.mem := rfl
@[simp] theorem State.setB_badWords (x : Field) (b : Bool) : (s.setB x b).badWords = s.badWords := rfl
@[simp] theorem State.setB_pwr (x : Field) (b : Bool) : (s.setB x b).pwr = s.pwr := rfl
@[simp] theorem State.setB_tm (x : Field) (b : Bool) : (s.setB x b).tm = s.tm := rfl
@[simp] theorem State.setB_procs (x : Field) (b : Bool) : (s.setB x b).procs = s.procs := rfl
@[simp] theorem State.setB_queues (x : Field) (b : Bool) : (s.setB x b).queues = s.queues := rfl
@[simp] theorem State.setB_fcu (x : Field) (b : Bool) : (s.setB x b).fcu = s.fcu := rfl
@[simp] theorem State.setB_can (x : Field) (b : Bool) : (s.setB x b).can = s.can := rfl
@[simp] theorem State.setB_adm (x : Field) (b : Bool) : (s.setB x b).adm = s.adm := rfl
@[simp] theorem State.setB_ce (x : Field) (b : Bool) : (s.setB x b).ce = s.ce := rfl
@[simp] theorem State.setB_eth (x : Field) (b : Bool) : (s.setB x b).eth = s.eth := rfl
@[simp] theorem State.setB_lnk (x : Field) (b : Bool) : (s.setB x b).lnk = s.lnk := rfl
@[simp] theorem State.setB_eps (x : Field) (b : Bool) : (s.setB x b).eps = s.eps := rfl
@[simp] theorem State.setB_cs (x : Field) (b : Bool) : (s.setB x b).cs = s.cs := rfl
@[simp] theorem State.setB_msr (x : Field) (b : Bool) : (s.setB x b).msr = s.msr := rfl
@[simp] theorem State.setB_ring (x : Field) (b : Bool) : (s.setB x b).ring = s.ring := rfl
@[simp] theorem State.setB_brp (x : Field) (b : Bool) : (s.setB x b).brp = s.brp := rfl
@[simp] theorem State.setB_sfu (x : Field) (b : Bool) : (s.setB x b).sfu = s.sfu := rfl
@[simp] theorem State.setB_tru (x : Field) (b : Bool) : (s.setB x b).tru = s.tru := rfl
@[simp] theorem State.setB_busOut (x : Field) (b : Bool) : (s.setB x b).busOut = s.busOut := rfl
@[simp] theorem State.setB_freeCtr (x : Field) (b : Bool) : (s.setB x b).freeCtr = s.freeCtr := rfl
@[simp] theorem State.setB_pending (x : Field) (b : Bool) : (s.setB x b).pending = s.pending := rfl

@[simp] theorem State.incF_mem (x : Field) (d : Nat) : (s.incF x d).mem = s.mem := rfl
@[simp] theorem State.incF_badWords (x : Field) (d : Nat) : (s.incF x d).badWords = s.badWords := rfl
@[simp] theorem State.incF_pwr (x : Field) (d : Nat) : (s.incF x d).pwr = s.pwr := rfl
@[simp] theorem State.incF_tm (x : Field) (d : Nat) : (s.incF x d).tm = s.tm := rfl
@[simp] theorem State.incF_procs (x : Field) (d : Nat) : (s.incF x d).procs = s.procs := rfl
@[simp] theorem State.incF_queues (x : Field) (d : Nat) : (s.incF x d).queues = s.queues := rfl
@[simp] theorem State.incF_fcu (x : Field) (d : Nat) : (s.incF x d).fcu = s.fcu := rfl
@[simp] theorem State.incF_can (x : Field) (d : Nat) : (s.incF x d).can = s.can := rfl
@[simp] theorem State.incF_adm (x : Field) (d : Nat) : (s.incF x d).adm = s.adm := rfl
@[simp] theorem State.incF_ce (x : Field) (d : Nat) : (s.incF x d).ce = s.ce := rfl
@[simp] theorem State.incF_eth (x : Field) (d : Nat) : (s.incF x d).eth = s.eth := rfl
@[simp] theorem State.incF_lnk (x : Field) (d : Nat) : (s.incF x d).lnk = s.lnk := rfl
@[simp] theorem State.incF_eps (x : Field) (d : Nat) : (s.incF x d).eps = s.eps := rfl
@[simp] theorem State.incF_cs (x : Field) (d : Nat) : (s.incF x d).cs = s.cs := rfl
@[simp] theorem State.incF_msr (x : Field) (d : Nat) : (s.incF x d).msr = s.msr := rfl
@[simp] theorem State.incF_ring (x : Field) (d : Nat) : (s.incF x d).ring = s.ring := rfl
@[simp] theorem State.incF_brp (x : Field) (d : Nat) : (s.incF x d).brp = s.brp := rfl
@[simp] theorem State.incF_sfu (x : Field) (d : Nat) : (s.incF x d).sfu = s.sfu := rfl
@[simp] theorem State.incF_tru (x : Field) (d : Nat) : (s.incF x d).tru = s.tru := rfl
@[simp] theorem State.incF_busOut (x : Field) (d : Nat) : (s.incF x d).busOut = s.busOut := rfl
@[simp] theorem State.incF_freeCtr (x : Field) (d : Nat) : (s.incF x d).freeCtr = s.freeCtr := rfl
@[simp] theorem State.incF_pending (x : Field) (d : Nat) : (s.incF x d).pending = s.pending := rfl

@[simp] theorem State.satF_mem (x : Field) (d : Nat) : (s.satF x d).mem = s.mem := rfl
@[simp] theorem State.satF_badWords (x : Field) (d : Nat) : (s.satF x d).badWords = s.badWords := rfl
@[simp] theorem State.satF_pwr (x : Field) (d : Nat) : (s.satF x d).pwr = s.pwr := rfl
@[simp] theorem State.satF_tm (x : Field) (d : Nat) : (s.satF x d).tm = s.tm := rfl
@[simp] theorem State.satF_procs (x : Field) (d : Nat) : (s.satF x d).procs = s.procs := rfl
@[simp] theorem State.satF_queues (x : Field) (d : Nat) : (s.satF x d).queues = s.queues := rfl
@[simp] theorem State.satF_fcu (x : Field) (d : Nat) : (s.satF x d).fcu = s.fcu := rfl
@[simp] theorem State.satF_can (x : Field) (d : Nat) : (s.satF x d).can = s.can := rfl
@[simp] theorem State.satF_adm (x : Field) (d : Nat) : (s.satF x d).adm = s.adm := rfl
@[simp] theorem State.satF_ce (x : Field) (d : Nat) : (s.satF x d).ce = s.ce := rfl
@[simp] theorem State.satF_eth (x : Field) (d : Nat) : (s.satF x d).eth = s.eth := rfl
@[simp] theorem State.satF_lnk (x : Field) (d : Nat) : (s.satF x d).lnk = s.lnk := rfl
@[simp] theorem State.satF_eps (x : Field) (d : Nat) : (s.satF x d).eps = s.eps := rfl
@[simp] theorem State.satF_cs (x : Field) (d : Nat) : (s.satF x d).cs = s.cs := rfl
@[simp] theorem State.satF_msr (x : Field) (d : Nat) : (s.satF x d).msr = s.msr := rfl
@[simp] theorem State.satF_ring (x : Field) (d : Nat) : (s.satF x d).ring = s.ring := rfl
@[simp] theorem State.satF_brp (x : Field) (d : Nat) : (s.satF x d).brp = s.brp := rfl
@[simp] theorem State.satF_sfu (x : Field) (d : Nat) : (s.satF x d).sfu = s.sfu := rfl
@[simp] theorem State.satF_tru (x : Field) (d : Nat) : (s.satF x d).tru = s.tru := rfl
@[simp] theorem State.satF_busOut (x : Field) (d : Nat) : (s.satF x d).busOut = s.busOut := rfl
@[simp] theorem State.satF_freeCtr (x : Field) (d : Nat) : (s.satF x d).freeCtr = s.freeCtr := rfl
@[simp] theorem State.satF_pending (x : Field) (d : Nat) : (s.satF x d).pending = s.pending := rfl

@[simp] theorem State.w1c_mem (a : Nat) (m : Word) : (s.w1c a m).mem = s.mem := rfl
@[simp] theorem State.w1c_badWords (a : Nat) (m : Word) : (s.w1c a m).badWords = s.badWords := rfl
@[simp] theorem State.w1c_pwr (a : Nat) (m : Word) : (s.w1c a m).pwr = s.pwr := rfl
@[simp] theorem State.w1c_tm (a : Nat) (m : Word) : (s.w1c a m).tm = s.tm := rfl
@[simp] theorem State.w1c_procs (a : Nat) (m : Word) : (s.w1c a m).procs = s.procs := rfl
@[simp] theorem State.w1c_queues (a : Nat) (m : Word) : (s.w1c a m).queues = s.queues := rfl
@[simp] theorem State.w1c_fcu (a : Nat) (m : Word) : (s.w1c a m).fcu = s.fcu := rfl
@[simp] theorem State.w1c_can (a : Nat) (m : Word) : (s.w1c a m).can = s.can := rfl
@[simp] theorem State.w1c_adm (a : Nat) (m : Word) : (s.w1c a m).adm = s.adm := rfl
@[simp] theorem State.w1c_ce (a : Nat) (m : Word) : (s.w1c a m).ce = s.ce := rfl
@[simp] theorem State.w1c_eth (a : Nat) (m : Word) : (s.w1c a m).eth = s.eth := rfl
@[simp] theorem State.w1c_lnk (a : Nat) (m : Word) : (s.w1c a m).lnk = s.lnk := rfl
@[simp] theorem State.w1c_eps (a : Nat) (m : Word) : (s.w1c a m).eps = s.eps := rfl
@[simp] theorem State.w1c_cs (a : Nat) (m : Word) : (s.w1c a m).cs = s.cs := rfl
@[simp] theorem State.w1c_msr (a : Nat) (m : Word) : (s.w1c a m).msr = s.msr := rfl
@[simp] theorem State.w1c_ring (a : Nat) (m : Word) : (s.w1c a m).ring = s.ring := rfl
@[simp] theorem State.w1c_brp (a : Nat) (m : Word) : (s.w1c a m).brp = s.brp := rfl
@[simp] theorem State.w1c_sfu (a : Nat) (m : Word) : (s.w1c a m).sfu = s.sfu := rfl
@[simp] theorem State.w1c_tru (a : Nat) (m : Word) : (s.w1c a m).tru = s.tru := rfl
@[simp] theorem State.w1c_busOut (a : Nat) (m : Word) : (s.w1c a m).busOut = s.busOut := rfl
@[simp] theorem State.w1c_freeCtr (a : Nat) (m : Word) : (s.w1c a m).freeCtr = s.freeCtr := rfl
@[simp] theorem State.w1c_pending (a : Nat) (m : Word) : (s.w1c a m).pending = s.pending := rfl

@[simp] theorem State.stw_regs (a : Nat) (v : Word) : (s.stw a v).regs = s.regs := rfl
@[simp] theorem State.stw_badWords (a : Nat) (v : Word) : (s.stw a v).badWords = s.badWords := rfl
@[simp] theorem State.stw_pwr (a : Nat) (v : Word) : (s.stw a v).pwr = s.pwr := rfl
@[simp] theorem State.stw_tm (a : Nat) (v : Word) : (s.stw a v).tm = s.tm := rfl
@[simp] theorem State.stw_procs (a : Nat) (v : Word) : (s.stw a v).procs = s.procs := rfl
@[simp] theorem State.stw_queues (a : Nat) (v : Word) : (s.stw a v).queues = s.queues := rfl
@[simp] theorem State.stw_fcu (a : Nat) (v : Word) : (s.stw a v).fcu = s.fcu := rfl
@[simp] theorem State.stw_can (a : Nat) (v : Word) : (s.stw a v).can = s.can := rfl
@[simp] theorem State.stw_adm (a : Nat) (v : Word) : (s.stw a v).adm = s.adm := rfl
@[simp] theorem State.stw_ce (a : Nat) (v : Word) : (s.stw a v).ce = s.ce := rfl
@[simp] theorem State.stw_eth (a : Nat) (v : Word) : (s.stw a v).eth = s.eth := rfl
@[simp] theorem State.stw_lnk (a : Nat) (v : Word) : (s.stw a v).lnk = s.lnk := rfl
@[simp] theorem State.stw_eps (a : Nat) (v : Word) : (s.stw a v).eps = s.eps := rfl
@[simp] theorem State.stw_cs (a : Nat) (v : Word) : (s.stw a v).cs = s.cs := rfl
@[simp] theorem State.stw_msr (a : Nat) (v : Word) : (s.stw a v).msr = s.msr := rfl
@[simp] theorem State.stw_ring (a : Nat) (v : Word) : (s.stw a v).ring = s.ring := rfl
@[simp] theorem State.stw_brp (a : Nat) (v : Word) : (s.stw a v).brp = s.brp := rfl
@[simp] theorem State.stw_sfu (a : Nat) (v : Word) : (s.stw a v).sfu = s.sfu := rfl
@[simp] theorem State.stw_tru (a : Nat) (v : Word) : (s.stw a v).tru = s.tru := rfl
@[simp] theorem State.stw_busOut (a : Nat) (v : Word) : (s.stw a v).busOut = s.busOut := rfl
@[simp] theorem State.stw_freeCtr (a : Nat) (v : Word) : (s.stw a v).freeCtr = s.freeCtr := rfl
@[simp] theorem State.stw_pending (a : Nat) (v : Word) : (s.stw a v).pending = s.pending := rfl

@[simp] theorem State.modProc_regs (p : Nat) (h : Proc → Proc) : (s.modProc p h).regs = s.regs := rfl
@[simp] theorem State.modProc_mem (p : Nat) (h : Proc → Proc) : (s.modProc p h).mem = s.mem := rfl
@[simp] theorem State.modProc_badWords (p : Nat) (h : Proc → Proc) : (s.modProc p h).badWords = s.badWords := rfl
@[simp] theorem State.modProc_pwr (p : Nat) (h : Proc → Proc) : (s.modProc p h).pwr = s.pwr := rfl
@[simp] theorem State.modProc_tm (p : Nat) (h : Proc → Proc) : (s.modProc p h).tm = s.tm := rfl
@[simp] theorem State.modProc_queues (p : Nat) (h : Proc → Proc) : (s.modProc p h).queues = s.queues := rfl
@[simp] theorem State.modProc_fcu (p : Nat) (h : Proc → Proc) : (s.modProc p h).fcu = s.fcu := rfl
@[simp] theorem State.modProc_can (p : Nat) (h : Proc → Proc) : (s.modProc p h).can = s.can := rfl
@[simp] theorem State.modProc_adm (p : Nat) (h : Proc → Proc) : (s.modProc p h).adm = s.adm := rfl
@[simp] theorem State.modProc_ce (p : Nat) (h : Proc → Proc) : (s.modProc p h).ce = s.ce := rfl
@[simp] theorem State.modProc_eth (p : Nat) (h : Proc → Proc) : (s.modProc p h).eth = s.eth := rfl
@[simp] theorem State.modProc_lnk (p : Nat) (h : Proc → Proc) : (s.modProc p h).lnk = s.lnk := rfl
@[simp] theorem State.modProc_eps (p : Nat) (h : Proc → Proc) : (s.modProc p h).eps = s.eps := rfl
@[simp] theorem State.modProc_cs (p : Nat) (h : Proc → Proc) : (s.modProc p h).cs = s.cs := rfl
@[simp] theorem State.modProc_msr (p : Nat) (h : Proc → Proc) : (s.modProc p h).msr = s.msr := rfl
@[simp] theorem State.modProc_ring (p : Nat) (h : Proc → Proc) : (s.modProc p h).ring = s.ring := rfl
@[simp] theorem State.modProc_brp (p : Nat) (h : Proc → Proc) : (s.modProc p h).brp = s.brp := rfl
@[simp] theorem State.modProc_sfu (p : Nat) (h : Proc → Proc) : (s.modProc p h).sfu = s.sfu := rfl
@[simp] theorem State.modProc_tru (p : Nat) (h : Proc → Proc) : (s.modProc p h).tru = s.tru := rfl
@[simp] theorem State.modProc_busOut (p : Nat) (h : Proc → Proc) : (s.modProc p h).busOut = s.busOut := rfl
@[simp] theorem State.modProc_freeCtr (p : Nat) (h : Proc → Proc) : (s.modProc p h).freeCtr = s.freeCtr := rfl
@[simp] theorem State.modProc_pending (p : Nat) (h : Proc → Proc) : (s.modProc p h).pending = s.pending := rfl

end Sys2Proof.Machine
end

