-- ==== Sys2Proof/Laws/Table.lean ====
section
/-! SUPPORT. The laws of sparse tables: a read after a write, and the canonical form kept by writes and by drops. -/

namespace Sys2Proof.Machine

variable {α : Type}

theorem tblAbove_trans {b c : Nat} (t : Tbl α) (h : c ≤ b) (ha : tblAbove b t = true) : tblAbove c t = true := by
  induction t with
  | nil => rfl
  | cons e t ih =>
    obtain ⟨j, v⟩ := e
    simp only [tblAbove, Bool.and_eq_true, decide_eq_true_eq] at ha ⊢
    exact ⟨by omega, ih ha.2⟩

theorem filter_above (p : Nat × α → Bool) (t : Tbl α) (b : Nat) (h : tblAbove b t = true) :
    tblAbove b (t.filter p) = true := by
  induction t with
  | nil => rfl
  | cons e t ih =>
    obtain ⟨j, v⟩ := e
    simp only [tblAbove, Bool.and_eq_true, decide_eq_true_eq] at h
    rw [List.filter_cons]
    split
    · simp [tblAbove, h.1, ih h.2]
    · exact ih h.2


/-- The value at a key after its entries are dropped. -/
theorem tblGet_drop_same (d : Nat → α) (t : Tbl α) (k : Nat) :
    tblGet d (tblDel t k) k = d k := by
  induction t with
  | nil => rfl
  | cons e t ih =>
    obtain ⟨j, v⟩ := e
    rw [tblDel, List.filter_cons, ← tblDel]
    split
    · rename_i h
      have hj : j ≠ k := by simpa using h
      simp [tblGet, hj, ih]
    · exact ih

/-- The value at another key after the entries of a key are dropped. -/
theorem tblGet_drop_ne (d : Nat → α) (t : Tbl α) {k a : Nat} (h : a ≠ k) :
    tblGet d (tblDel t k) a = tblGet d t a := by
  induction t with
  | nil => rfl
  | cons e t ih =>
    obtain ⟨j, v⟩ := e
    rw [tblDel, List.filter_cons, ← tblDel]
    split
    · simp [tblGet, ih]
    · rename_i hj
      have hjk : j = k := by simpa using hj
      have : j ≠ a := by omega
      simp [tblGet, this, ih]

/-- A read after keys are dropped. -/
theorem tblGet_tblDrop (d : Nat → α) (p : Nat → Bool) (t : Tbl α) (k : Nat) :
    tblGet d (tblDrop p t) k = if p k = true then d k else tblGet d t k := by
  induction t with
  | nil => simp [tblDrop, tblGet]
  | cons e t ih =>
    obtain ⟨j, v⟩ := e
    unfold tblDrop at ih ⊢
    rw [List.filter_cons]
    by_cases hj : j = k
    · subst hj
      by_cases hp : p j = true
      · simp [hp, ih]
      · simp [hp, tblGet]
    · by_cases hp : p j = true
      · simp [hp, ih, tblGet, hj]
      · simp [hp, tblGet, hj, ih]

variable [DecidableEq α]

/-- A read of the written key. -/
@[simp] theorem tblGet_tblSet_same (d : Nat → α) (t : Tbl α) (k : Nat) (v : α) : tblGet d (tblSet d t k v) k = v := by
  induction t with
  | nil => by_cases hv : v = d k <;> simp [tblSet, tblGet, hv]
  | cons e t ih =>
    obtain ⟨j, w⟩ := e
    unfold tblSet
    split
    · rename_i hj
      have : j ≠ k := by omega
      simp [tblGet, this, ih]
    · split
      · rename_i hv; rw [tblGet_drop_same, hv]
      · simp [tblGet]

/-- A read of another key. -/
theorem tblGet_tblSet_ne (d : Nat → α) (t : Tbl α) {k a : Nat} (v : α) (h : a ≠ k) :
    tblGet d (tblSet d t k v) a = tblGet d t a := by
  induction t with
  | nil => by_cases hv : v = d k <;> simp [tblSet, tblGet, hv, Ne.symm h]
  | cons e t ih =>
    obtain ⟨j, w⟩ := e
    unfold tblSet
    split
    · simp [tblGet, ih]
    · split
      · rw [tblGet_drop_ne d _ h]
      · rw [tblGet, if_neg (Ne.symm h), tblGet_drop_ne d _ h]

/-- A read after a write. -/
theorem tblGet_tblSet (d : Nat → α) (t : Tbl α) (k a : Nat) (v : α) :
    tblGet d (tblSet d t k v) a = if a = k then v else tblGet d t a := by
  by_cases h : a = k
  · simp [h]
  · simp [h, tblGet_tblSet_ne d t v h]

theorem filter_wf (d : Nat → α) (p : Nat × α → Bool) (t : Tbl α) (h : tblWf d t = true) :
    tblWf d (t.filter p) = true := by
  induction t with
  | nil => rfl
  | cons e t ih =>
    obtain ⟨j, v⟩ := e
    simp only [tblWf, Bool.and_eq_true, decide_eq_true_eq] at h
    rw [List.filter_cons]
    split
    · simp [tblWf, h.1.1, filter_above p t j h.1.2, ih h.2]
    · exact ih h.2

/-- Dropping keys keeps the canonical form. -/
theorem tblDrop_wf (d : Nat → α) (p : Nat → Bool) (t : Tbl α) (h : tblWf d t = true) : tblWf d (tblDrop p t) = true :=
  filter_wf d _ t h

theorem tblSet_above (d : Nat → α) (t : Tbl α) (b k : Nat) (v : α) (h : tblAbove b t = true) (hk : b < k) :
    tblAbove b (tblSet d t k v) = true := by
  induction t with
  | nil => by_cases hv : v = d k <;> simp [tblSet, tblAbove, hv, hk]
  | cons e t ih =>
    have hf := filter_above (fun e => decide (e.1 ≠ k)) (e :: t) b h
    obtain ⟨j, w⟩ := e
    simp only [tblAbove, Bool.and_eq_true, decide_eq_true_eq] at h
    unfold tblSet
    split
    · simp [tblAbove, h.1, ih h.2]
    · split
      · exact hf
      · simp only [tblAbove, Bool.and_eq_true, decide_eq_true_eq]
        exact ⟨hk, hf⟩

/-- A write keeps the canonical form. -/
theorem tblSet_wf (d : Nat → α) (t : Tbl α) (k : Nat) (v : α) (h : tblWf d t = true) :
    tblWf d (tblSet d t k v) = true := by
  induction t with
  | nil => by_cases hv : v = d k <;> simp [tblSet, tblWf, tblAbove, hv]
  | cons e t ih =>
    have hf := filter_wf d (fun e => decide (e.1 ≠ k)) (e :: t) h
    obtain ⟨j, w⟩ := e
    simp only [tblWf, Bool.and_eq_true, decide_eq_true_eq] at h
    obtain ⟨⟨hw, ha⟩, ht⟩ := h
    unfold tblSet
    split
    · rename_i hj
      simp [tblWf, hw, ih ht, tblSet_above d t j k v ha hj]
    · rename_i hj
      split
      · exact hf
      · rename_i hv
        have hab : tblAbove k (tblDel ((j, w) :: t) k) = true := by
          by_cases hjk : j = k
          · subst hjk
            rw [tblDel, List.filter_cons]
            simpa using filter_above _ t j ha
          · have hlt : k < j := by omega
            refine filter_above _ _ k ?_
            simp [tblAbove, hlt, tblAbove_trans t (Nat.le_of_lt hlt) ha]
        simp only [tblWf, Bool.and_eq_true, decide_eq_true_eq]
        exact ⟨⟨hv, hab⟩, hf⟩

end Sys2Proof.Machine
end

