-- ==== Sys2Proof/Laws/Ops.lean ====
section
/-! SUPPORT. The laws of the named operations over registers, fields, memory and processors. -/

namespace Sys2Proof.Machine

variable (s : State)

/-! ## Registers and fields -/

@[simp] theorem State.reg_setReg_same (a : Nat) (v : Word) : (s.setReg a v).reg a = v := tblGet_tblSet_same _ _ _ _

theorem State.reg_setReg_ne {a b : Nat} (v : Word) (h : b ≠ a) : (s.setReg a v).reg b = s.reg b :=
  tblGet_tblSet_ne _ _ _ h

theorem State.reg_setReg (a b : Nat) (v : Word) : (s.setReg a v).reg b = if b = a then v else s.reg b :=
  tblGet_tblSet _ _ _ _ _

theorem State.reg_setF (x : Field) (v b : Nat) :
    (s.setF x v).reg b = if b = x.addr then setFld (s.reg x.addr) x.hi x.lo v else s.reg b := State.reg_setReg _ _ _ _

theorem State.reg_setF_ne (x : Field) (v : Nat) {b : Nat} (h : b ≠ x.addr) : (s.setF x v).reg b = s.reg b :=
  State.reg_setReg_ne _ _ h

theorem State.reg_setB_ne (x : Field) (v : Bool) {b : Nat} (h : b ≠ x.addr) : (s.setB x v).reg b = s.reg b :=
  State.reg_setReg_ne _ _ h

/-- A field reads what was put into it, modulo its width. -/
theorem State.f_setF_same (x : Field) (v : Nat) (h : x.hi < 32) :
    (s.setF x v).f x = v % 2 ^ (x.hi + 1 - x.lo) := by
  unfold State.f State.setF
  rw [State.reg_setReg_same, fld_setFld_same _ _ _ _ h]

/-- A field of another register, or apart in the same register, stays. -/
theorem State.f_setF_apart (x y : Field) (v : Nat) (h : y.addr ≠ x.addr ∨ y.hi < x.lo ∨ x.hi < y.lo) :
    (s.setF x v).f y = s.f y := by
  unfold State.f State.setF
  by_cases ha : y.addr = x.addr
  · rw [ha, State.reg_setReg_same]
    exact fld_setFld_apart _ _ _ _ _ _ (h.resolve_left (fun k => k ha))
  · rw [State.reg_setReg_ne _ _ ha]

/-- A one-bit field reads what was put into it. -/
theorem State.fb_setB_same (x : Field) (b : Bool) (h : x.hi = x.lo) (h32 : x.lo < 32) : (s.setB x b).fb x = b := by
  unfold State.fb State.setB State.setF
  rw [State.reg_setReg_same, h, bitAt_setFld_same _ _ _ h32, testBit_b2n]

/-- A one-bit field reads the low bit of the number put into it. -/
theorem State.fb_setF_same (x : Field) (v : Nat) (h : x.hi = x.lo) (h32 : x.lo < 32) :
    (s.setF x v).fb x = v.testBit 0 := by
  unfold State.fb State.setF
  rw [State.reg_setReg_same, h, bitAt_setFld_same _ _ _ h32]

theorem State.fb_setF_apart (x y : Field) (v : Nat) (h : y.addr ≠ x.addr ∨ y.lo < x.lo ∨ x.hi < y.lo) :
    (s.setF x v).fb y = s.fb y := by
  unfold State.fb State.setF
  by_cases ha : y.addr = x.addr
  · rw [ha, State.reg_setReg_same]
    exact bitAt_setFld_apart _ _ _ _ _ (h.resolve_left (fun k => k ha))
  · rw [State.reg_setReg_ne _ _ ha]

theorem State.fb_setB_apart (x y : Field) (v : Bool) (h : y.addr ≠ x.addr ∨ y.lo < x.lo ∨ x.hi < y.lo) :
    (s.setB x v).fb y = s.fb y := State.fb_setF_apart s x y _ h

theorem State.f_setB_apart (x y : Field) (v : Bool) (h : y.addr ≠ x.addr ∨ y.hi < x.lo ∨ x.hi < y.lo) :
    (s.setB x v).f y = s.f y := State.f_setF_apart s x y _ h

theorem State.f_setReg_ne (a : Nat) (v : Word) (y : Field) (h : y.addr ≠ a) : (s.setReg a v).f y = s.f y := by
  unfold State.f; rw [State.reg_setReg_ne _ _ h]

theorem State.fb_setReg_ne (a : Nat) (v : Word) (y : Field) (h : y.addr ≠ a) : (s.setReg a v).fb y = s.fb y := by
  unfold State.fb; rw [State.reg_setReg_ne _ _ h]

theorem State.on_setF (x : Field) (v d : Nat) (h : x.addr ≠ R.SYSC_PSTAT ∨ d < x.lo ∨ x.hi < d) :
    (s.setF x v).on d = s.on d :=
  State.fb_setF_apart s x ⟨R.SYSC_PSTAT, d, d⟩ v (h.imp_left Ne.symm)

theorem State.on_setReg (a : Nat) (v : Word) (d : Nat) (h : a ≠ R.SYSC_PSTAT) : (s.setReg a v).on d = s.on d := by
  unfold State.on; rw [State.reg_setReg_ne _ _ (Ne.symm h)]

/-! ## A record update that does not touch the part read -/

theorem State.reg_upd (x1 : List Host.Cell) (x2 : Tbl Bool) (x3 : PowerUnit) (x4 : TimeUnit) (x5 : Tbl
    Proc) (x6 : Tbl (List DWord)) (x7 : FaultUnit) (x8 : Tbl CanCtl) (x9 : AdmUnit) (x10 : CeUnit) (x11 :
    EthUnit) (x12 : LinkUnit) (x13 : Tbl Endpoint) (x14 : CsUnit) (x15 : MsrUnit) (x16 : RingUnit) (x17 :
    BrpUnit) (x18 : SfuUnit) (x19 : TruUnit) (x20 : DWord) (x21 : Nat) (x22 : List Instr) (a : Nat) : State.reg
    ⟨s.regs, x1, x2, x3, x4, x5, x6, x7, x8, x9, x10, x11, x12, x13, x14, x15, x16, x17, x18, x19, x20, x21,
    x22⟩ a = s.reg a := rfl

theorem State.f_upd (x1 : List Host.Cell) (x2 : Tbl Bool) (x3 : PowerUnit) (x4 : TimeUnit) (x5 : Tbl
    Proc) (x6 : Tbl (List DWord)) (x7 : FaultUnit) (x8 : Tbl CanCtl) (x9 : AdmUnit) (x10 : CeUnit) (x11 :
    EthUnit) (x12 : LinkUnit) (x13 : Tbl Endpoint) (x14 : CsUnit) (x15 : MsrUnit) (x16 : RingUnit) (x17 :
    BrpUnit) (x18 : SfuUnit) (x19 : TruUnit) (x20 : DWord) (x21 : Nat) (x22 : List Instr) (x : Field) : State.f
    ⟨s.regs, x1, x2, x3, x4, x5, x6, x7, x8, x9, x10, x11, x12, x13, x14, x15, x16, x17, x18, x19, x20, x21,
    x22⟩ x = s.f x := rfl

theorem State.fb_upd (x1 : List Host.Cell) (x2 : Tbl Bool) (x3 : PowerUnit) (x4 : TimeUnit) (x5 : Tbl
    Proc) (x6 : Tbl (List DWord)) (x7 : FaultUnit) (x8 : Tbl CanCtl) (x9 : AdmUnit) (x10 : CeUnit) (x11 :
    EthUnit) (x12 : LinkUnit) (x13 : Tbl Endpoint) (x14 : CsUnit) (x15 : MsrUnit) (x16 : RingUnit) (x17 :
    BrpUnit) (x18 : SfuUnit) (x19 : TruUnit) (x20 : DWord) (x21 : Nat) (x22 : List Instr) (x : Field) : State.fb
    ⟨s.regs, x1, x2, x3, x4, x5, x6, x7, x8, x9, x10, x11, x12, x13, x14, x15, x16, x17, x18, x19, x20, x21,
    x22⟩ x = s.fb x := rfl

theorem State.on_upd (x1 : List Host.Cell) (x2 : Tbl Bool) (x3 : PowerUnit) (x4 : TimeUnit) (x5 : Tbl
    Proc) (x6 : Tbl (List DWord)) (x7 : FaultUnit) (x8 : Tbl CanCtl) (x9 : AdmUnit) (x10 : CeUnit) (x11 :
    EthUnit) (x12 : LinkUnit) (x13 : Tbl Endpoint) (x14 : CsUnit) (x15 : MsrUnit) (x16 : RingUnit) (x17 :
    BrpUnit) (x18 : SfuUnit) (x19 : TruUnit) (x20 : DWord) (x21 : Nat) (x22 : List Instr) (d : Nat) : State.on
    ⟨s.regs, x1, x2, x3, x4, x5, x6, x7, x8, x9, x10, x11, x12, x13, x14, x15, x16, x17, x18, x19, x20, x21,
    x22⟩ d = s.on d := rfl

theorem State.ldb_upd (x0 : Tbl Word) (x2 : Tbl Bool) (x3 : PowerUnit) (x4 : TimeUnit) (x5 : Tbl Proc)
    (x6 : Tbl (List DWord)) (x7 : FaultUnit) (x8 : Tbl CanCtl) (x9 : AdmUnit) (x10 : CeUnit) (x11 : EthUnit)
    (x12 : LinkUnit) (x13 : Tbl Endpoint) (x14 : CsUnit) (x15 : MsrUnit) (x16 : RingUnit) (x17 : BrpUnit) (x18 :
    SfuUnit) (x19 : TruUnit) (x20 : DWord) (x21 : Nat) (x22 : List Instr) (a : Nat) : State.ldb ⟨x0, s.mem, x2,
    x3, x4, x5, x6, x7, x8, x9, x10, x11, x12, x13, x14, x15, x16, x17, x18, x19, x20, x21, x22⟩ a = s.ldb a :=
    rfl

theorem State.proc_upd (x0 : Tbl Word) (x1 : List Host.Cell) (x2 : Tbl Bool) (x3 : PowerUnit) (x4 :
    TimeUnit) (x6 : Tbl (List DWord)) (x7 : FaultUnit) (x8 : Tbl CanCtl) (x9 : AdmUnit) (x10 : CeUnit) (x11 :
    EthUnit) (x12 : LinkUnit) (x13 : Tbl Endpoint) (x14 : CsUnit) (x15 : MsrUnit) (x16 : RingUnit) (x17 :
    BrpUnit) (x18 : SfuUnit) (x19 : TruUnit) (x20 : DWord) (x21 : Nat) (x22 : List Instr) (p : Nat) : State.proc
    ⟨x0, x1, x2, x3, x4, s.procs, x6, x7, x8, x9, x10, x11, x12, x13, x14, x15, x16, x17, x18, x19, x20, x21,
    x22⟩ p = s.proc p := rfl

/-! ## States with the same registers or memory -/

theorem State.reg_congr {t u : State} (h : t.regs = u.regs) (a : Nat) : t.reg a = u.reg a := by unfold State.reg; rw [h]
theorem State.f_congr {t u : State} (h : t.regs = u.regs) (x : Field) : t.f x = u.f x := by
  unfold State.f; rw [State.reg_congr h]
theorem State.fb_congr {t u : State} (h : t.regs = u.regs) (x : Field) : t.fb x = u.fb x := by
  unfold State.fb; rw [State.reg_congr h]
theorem State.on_congr {t u : State} (h : t.regs = u.regs) (d : Nat) : t.on d = u.on d := by
  unfold State.on; rw [State.reg_congr h]
theorem State.ldb_congr {t u : State} (h : t.mem = u.mem) (a : Nat) : t.ldb a = u.ldb a := by unfold State.ldb; rw [h]

/-! ## Memory -/

@[simp] theorem State.ldb_stb_same (a : Nat) (v : Byte) : (s.stb a v).ldb a = v := tblGet_tblSet_same _ _ _ _

theorem State.ldb_stb_ne {a b : Nat} (v : Byte) (h : b ≠ a) : (s.stb a v).ldb b = s.ldb b := tblGet_tblSet_ne _ _ _ h

@[simp] theorem State.ldb_setReg (a : Nat) (v : Word) (b : Nat) : (s.setReg a v).ldb b = s.ldb b := rfl
@[simp] theorem State.reg_stb (a : Nat) (v : Byte) (b : Nat) : (s.stb a v).reg b = s.reg b := rfl

@[simp] theorem State.ldb_setF (x : Field) (v : Nat) (k : Nat) : (s.setF x v).ldb k = s.ldb k := rfl
@[simp] theorem State.proc_setF (x : Field) (v : Nat) (k : Nat) : (s.setF x v).proc k = s.proc k := rfl
@[simp] theorem State.ldb_setB (x : Field) (b : Bool) (k : Nat) : (s.setB x b).ldb k = s.ldb k := rfl
@[simp] theorem State.proc_setB (x : Field) (b : Bool) (k : Nat) : (s.setB x b).proc k = s.proc k := rfl
@[simp] theorem State.ldb_incF (x : Field) (d : Nat) (k : Nat) : (s.incF x d).ldb k = s.ldb k := rfl
@[simp] theorem State.proc_incF (x : Field) (d : Nat) (k : Nat) : (s.incF x d).proc k = s.proc k := rfl
@[simp] theorem State.ldb_satF (x : Field) (d : Nat) (k : Nat) : (s.satF x d).ldb k = s.ldb k := rfl
@[simp] theorem State.proc_satF (x : Field) (d : Nat) (k : Nat) : (s.satF x d).proc k = s.proc k := rfl
@[simp] theorem State.ldb_w1c (a : Nat) (m : Word) (k : Nat) : (s.w1c a m).ldb k = s.ldb k := rfl
@[simp] theorem State.proc_w1c (a : Nat) (m : Word) (k : Nat) : (s.w1c a m).proc k = s.proc k := rfl

/-- A word stored leaves every byte outside its four as it was. -/
theorem State.ldb_stw_ne (a : Nat) (v : Word) (b : Nat) (h : b < a ∨ a + 4 ≤ b) : (s.stw a v).ldb b = s.ldb b := by
  unfold State.stw
  rw [State.ldb_stb_ne _ _ (by omega), State.ldb_stb_ne _ _ (by omega), State.ldb_stb_ne _ _ (by omega),
    State.ldb_stb_ne _ _ (by omega)]

/-- A word reads as it was stored. -/
theorem State.ldw_stw_same (a : Nat) (v : Word) : (s.stw a v).ldw a = v := by
  have h0 : (s.stw a v).ldb a = v.extractLsb' 0 8 := by
    unfold State.stw
    rw [State.ldb_stb_ne _ _ (by omega), State.ldb_stb_ne _ _ (by omega), State.ldb_stb_ne _ _ (by omega),
      State.ldb_stb_same]
  have h1 : (s.stw a v).ldb (a + 1) = v.extractLsb' 8 8 := by
    unfold State.stw
    rw [State.ldb_stb_ne _ _ (by omega), State.ldb_stb_ne _ _ (by omega), State.ldb_stb_same]
  have h2 : (s.stw a v).ldb (a + 2) = v.extractLsb' 16 8 := by
    unfold State.stw
    rw [State.ldb_stb_ne _ _ (by omega), State.ldb_stb_same]
  have h3 : (s.stw a v).ldb (a + 3) = v.extractLsb' 24 8 := by
    unfold State.stw
    rw [State.ldb_stb_same]
  unfold State.ldw
  rw [h0, h1, h2, h3]
  apply BitVec.eq_of_getLsbD_eq
  intro i hi
  simp only [BitVec.getLsbD_append, BitVec.getLsbD_extractLsb']
  by_cases c1 : i < 8
  · simp [c1]
  · by_cases c2 : i - 8 < 8
    · simp [c1, c2, show 8 + (i - 8) = i by omega]
    · by_cases c3 : i - 8 - 8 < 8
      · simp [c1, c2, c3, show 16 + (i - 8 - 8) = i by omega]
      · have c4 : i - 8 - 8 - 8 < 8 := by omega
        simp [c1, c2, c3, c4, show 24 + (i - 8 - 8 - 8) = i by omega]

/-- A word apart from the one stored stays. -/
theorem State.ldw_stw_apart (a : Nat) (v : Word) (b : Nat) (h : b + 4 ≤ a ∨ a + 4 ≤ b) :
    (s.stw a v).ldw b = s.ldw b := by
  unfold State.ldw
  rw [State.ldb_stw_ne _ _ _ _ (by omega), State.ldb_stw_ne _ _ _ _ (by omega), State.ldb_stw_ne _ _ _ _ (by omega),
    State.ldb_stw_ne _ _ _ _ (by omega)]

/-! ## Processors -/

@[simp] theorem State.proc_setProc_same (p : Nat) (q : Proc) : (s.setProc p q).proc p = q := tblGet_tblSet_same _ _ _ _

theorem State.proc_setProc_ne {p q : Nat} (x : Proc) (h : q ≠ p) : (s.setProc p x).proc q = s.proc q :=
  tblGet_tblSet_ne _ _ _ h

@[simp] theorem State.reg_setProc (p : Nat) (x : Proc) (a : Nat) : (s.setProc p x).reg a = s.reg a := rfl
@[simp] theorem State.ldb_setProc (p : Nat) (x : Proc) (a : Nat) : (s.setProc p x).ldb a = s.ldb a := rfl

/-! ## The canonical form of memory -/

theorem State.stb_wf (a : Nat) (v : Byte) (h : Memory.wf s.mem = true) : Memory.wf (s.stb a v).mem = true :=
  tblSet_wf _ _ _ _ h

theorem State.stw_wf (a : Nat) (v : Word) (h : Memory.wf s.mem = true) : Memory.wf (s.stw a v).mem = true :=
  State.stb_wf _ _ _ (State.stb_wf _ _ _ (State.stb_wf _ _ _ (State.stb_wf _ _ _ h)))

theorem State.std_wf (a : Nat) (v : DWord) (h : Memory.wf s.mem = true) : Memory.wf (s.std a v).mem = true :=
  State.stw_wf _ _ _ (State.stw_wf _ _ _ h)

theorem State.putBytes_wf (l : List Byte) (s : State) (a : Nat) (h : Memory.wf s.mem = true) :
    Memory.wf (s.putBytes a l).mem = true := by
  induction l generalizing s a with
  | nil => exact h
  | cons b l ih => exact ih _ _ (State.stb_wf _ _ _ h)

theorem State.putWords_wf (l : List Word) (s : State) (a : Nat) (h : Memory.wf s.mem = true) :
    Memory.wf (s.putWords a l).mem = true := by
  induction l generalizing s a with
  | nil => exact h
  | cons b l ih => exact ih _ _ (State.stw_wf _ _ _ h)

theorem State.setCtx_wf (i off : Nat) (v : Word) (h : Memory.wf s.mem = true) : Memory.wf (s.setCtx i off v).mem = true :=
  State.stw_wf _ _ _ h

end Sys2Proof.Machine
end

