-- ==== Sys2Proof/Laws/Reset.lean ====
section
/-! SUPPORT. What a power-down, a power-up and a reset leave (16 R455, R464). -/

namespace Sys2Proof.Machine

variable (s : State)

/-! ## Folds -/

/-- A property that every element's operation keeps holds after the fold. -/
theorem State.forAll_keeps {α : Type} (P : State → Prop) (l : List α) (h : State → α → State) (s : State) (hs : P s)
    (hk : ∀ t x, x ∈ l → P t → P (h t x)) : P (s.forAll l h) := by
  unfold State.forAll
  induction l generalizing s with
  | nil => exact hs
  | cons x l ih =>
    exact ih (h s x) (hk s x List.mem_cons_self hs) fun t y hy => hk t y (List.mem_cons_of_mem _ hy)

/-! ## Registers of a domain -/

theorem State.reg_dropRegs {d a : Nat} (h : d ≠ 1 ∨ a ≠ R.CLK_STATUS) :
    (s.dropRegs d).reg a = if regDom a = d then regReset a else s.reg a := by
  have key : ∀ t : State, t = { s with regs := tblDrop (fun a => regDom a == d) s.regs } →
      t.reg a = if regDom a = d then regReset a else s.reg a := by
    rintro t rfl
    unfold State.reg
    simp [tblGet_tblDrop]
  unfold State.dropRegs
  dsimp only
  split
  · rename_i h1
    rw [State.reg_setF_ne _ _ _ (h.resolve_left (fun k => k h1))]
    exact key _ rfl
  · exact key _ rfl

@[simp] theorem State.reg_dropMem (d a : Nat) : (s.dropMem d).reg a = s.reg a := rfl

@[simp] theorem State.regs_initUnits (d : Nat) : (s.initUnits d).regs = s.regs := by
  unfold State.initUnits; split <;> rfl

@[simp] theorem State.reg_initUnits (d a : Nat) : (s.initUnits d).reg a = s.reg a := by
  unfold State.reg; rw [State.regs_initUnits]

@[simp] theorem State.mem_initUnits (d : Nat) : (s.initUnits d).mem = s.mem := by
  unfold State.initUnits; split <;> rfl

@[simp] theorem State.pwr_initUnits (d : Nat) : (s.initUnits d).pwr = s.pwr := by
  unfold State.initUnits; split <;> rfl

@[simp] theorem State.pending_initUnits (d : Nat) : (s.initUnits d).pending = s.pending := by
  unfold State.initUnits; split <;> rfl

@[simp] theorem State.mem_dropRegs (d : Nat) : (s.dropRegs d).mem = s.mem := by
  unfold State.dropRegs; dsimp only; split <;> rfl

@[simp] theorem State.pwr_dropRegs (d : Nat) : (s.dropRegs d).pwr = s.pwr := by
  unfold State.dropRegs; dsimp only; split <;> rfl

@[simp] theorem State.pending_dropRegs (d : Nat) : (s.dropRegs d).pending = s.pending := by
  unfold State.dropRegs; dsimp only; split <;> rfl

@[simp] theorem State.pwr_dropMem (d : Nat) : (s.dropMem d).pwr = s.pwr := rfl
@[simp] theorem State.pending_dropMem (d : Nat) : (s.dropMem d).pending = s.pending := rfl

theorem State.ldb_dropMem (d a : Nat) :
    (s.dropMem d).ldb a = if (regionOf a).dom = some d then memDefault a else s.ldb a := by
  unfold State.ldb State.dropMem
  simp [tblGet_tblDrop]

theorem regDom_pstat : regDom R.SYSC_PSTAT = 0 := by decide

/-! ## A domain goes off or comes on -/

theorem State.reg_powerOff {d a : Nat} (h1 : d ≠ 1 ∨ a ≠ R.CLK_STATUS) (ha : a ≠ R.SYSC_PSTAT) :
    (s.powerOff d).reg a = if regDom a = d then regReset a else s.reg a := by
  unfold State.powerOff
  dsimp only
  rw [State.reg_setReg_ne _ _ ha]
  split
  · exact (State.reg_initUnits _ _ _).trans ((State.reg_dropMem _ _ _).trans (State.reg_dropRegs _ h1))
  · exact (State.reg_initUnits _ _ _).trans ((State.reg_dropMem _ _ _).trans (State.reg_dropRegs _ h1))

theorem State.pstat_powerOff {d : Nat} (h : 1 ≤ d) :
    (s.powerOff d).reg R.SYSC_PSTAT = setFld (s.reg R.SYSC_PSTAT) d d 0 := by
  have key : (((s.dropRegs d).dropMem d).initUnits d).reg R.SYSC_PSTAT = s.reg R.SYSC_PSTAT := by
    rw [State.reg_initUnits, State.reg_dropMem, State.reg_dropRegs _ (Or.inr (by decide)), regDom_pstat,
      if_neg (by omega)]
  unfold State.powerOff
  dsimp only
  rw [State.reg_setReg_same]
  split
  · exact congrArg (fun w => setFld w d d 0) key
  · exact congrArg (fun w => setFld w d d 0) key

theorem State.on_powerOff {d e : Nat} (h : 1 ≤ d) (h32 : d < 32) :
    (s.powerOff d).on e = if e = d then false else s.on e := by
  unfold State.on
  rw [State.pstat_powerOff _ h]
  by_cases he : e = d
  · subst he; rw [bitAt_setFld_same _ _ _ h32]; simp
  · rw [bitAt_setFld_apart _ _ _ _ _ (by omega), if_neg he]

theorem State.reg_powerOn_pstat {d : Nat} (h : 1 ≤ d) :
    (s.powerOn d).reg R.SYSC_PSTAT = setFld (s.reg R.SYSC_PSTAT) d d 1 := by
  have key : (((s.dropRegs d).dropMem d).initUnits d).reg R.SYSC_PSTAT = s.reg R.SYSC_PSTAT := by
    rw [State.reg_initUnits, State.reg_dropMem, State.reg_dropRegs _ (Or.inr (by decide)), regDom_pstat,
      if_neg (by omega)]
  unfold State.powerOn
  dsimp only
  split
  · rw [State.reg_setB_ne _ _ _ (by decide), State.reg_setF_ne _ _ _ (by decide), State.reg_setReg_same, key]
  · rw [State.reg_setReg_same, key]

theorem State.on_powerOn {d e : Nat} (h : 1 ≤ d) (h32 : d < 32) :
    (s.powerOn d).on e = if e = d then true else s.on e := by
  unfold State.on
  rw [State.reg_powerOn_pstat _ h]
  by_cases he : e = d
  · subst he; rw [bitAt_setFld_same _ _ _ h32]; simp
  · rw [bitAt_setFld_apart _ _ _ _ _ (by omega), if_neg he]

@[simp] theorem State.pwr_powerOff (d : Nat) : (s.powerOff d).pwr = s.pwr := by
  unfold State.powerOff; dsimp only; split <;> simp

@[simp] theorem State.pending_powerOff (d : Nat) : (s.powerOff d).pending = s.pending := by
  unfold State.powerOff; dsimp only; split <;> simp

end Sys2Proof.Machine
end

