-- ==== Sys2Proof/Tests/Slice0.lean ====
section
/-! SUPPORT. The model's own tests: ill-formed terms that well-formedness refuses, Yalirti words written out from the
spec's encodings, the spec's worked examples, and for every statement with hypotheses a concrete state and operands that
meet the hypotheses of each of its clauses. -/

section

set_option synthInstance.maxSize 1000
set_option Elab.async false

namespace Sys2Proof.Machine

/-! ### Helpers that change one part of a state -/

def State.tEp (s : State) (i : Nat) (f : Endpoint → Endpoint) : State := s.setEp i (f (s.ep i))
def State.tPwr (s : State) (f : PowerUnit → PowerUnit) : State := { s with pwr := f s.pwr }
def State.tTm (s : State) (f : TimeUnit → TimeUnit) : State := { s with tm := f s.tm }
def State.tFcu (s : State) (f : FaultUnit → FaultUnit) : State := { s with fcu := f s.fcu }
def State.tAdm (s : State) (f : AdmUnit → AdmUnit) : State := { s with adm := f s.adm }
def State.tCe (s : State) (f : CeUnit → CeUnit) : State := { s with ce := f s.ce }
def State.tEth (s : State) (f : EthUnit → EthUnit) : State := { s with eth := f s.eth }
def State.tLnk (s : State) (f : LinkUnit → LinkUnit) : State := { s with lnk := f s.lnk }
def State.tCs (s : State) (f : CsUnit → CsUnit) : State := { s with cs := f s.cs }
def State.tMsr (s : State) (f : MsrUnit → MsrUnit) : State := { s with msr := f s.msr }
def State.tRing (s : State) (f : RingUnit → RingUnit) : State := { s with ring := f s.ring }
def State.tBrp (s : State) (f : BrpUnit → BrpUnit) : State := { s with brp := f s.brp }
def State.tSfu (s : State) (f : SfuUnit → SfuUnit) : State := { s with sfu := f s.sfu }
def State.tTru (s : State) (f : TruUnit → TruUnit) : State := { s with tru := f s.tru }

end Sys2Proof.Machine

namespace Sys2Proof.Tests
open Sys2Proof Sys2Proof.Machine

/-- The registers of a chip in RUN: every domain on, stack time locked, P = 10,000 cycles, every unit enabled. -/
def upRegs : List (Nat × Word) := [(1073741828, 0x80000fff#32), (1073807364, 0x00000005#32), (1073872932, 0x00002710#32),
 (1073938432, 0x00000001#32), (1074003968, 0x00000001#32), (1074004224, 0x80000000#32), (1074004608, 0x80000000#32),
 (1074004640, 0x80000000#32), (1074004736, 0x80000000#32), (1074004928, 0x80000000#32), (1074004960, 0x80000000#32),
 (1074005024, 0x80000000#32), (1074005056, 0x80000000#32), (1074200576, 0x00000001#32), (1074266112, 0x00000001#32),
 (1074331648, 0x00000003#32), (1074335808, 0x80000000#32), (1074335816, 0x40000000#32), (1074397184, 0x00000007#32),
 (1074462720, 0x00000001#32), (1074528256, 0x0000001f#32), (1074597888, 0xf0000000#32), (1074659328, 0x80000000#32)]

/-- A processor that runs from its own TCM. -/
def runProc : Proc := { run := .running, pc := 0x00100000 }

/-- A chip in RUN, its reset released, cores 0 and 1, the safety pair and the engine running, and the endpoint of port 1 up. -/
def upState : State :=
  { State.reset with
    regs := upRegs, pwr := { inReset := false, rom := .handedOver }, tm := { started := true }
    procs := [(0, runProc), (1, runProc), (4, runProc), (5, runProc)]
    eps := [(1, { powered := true, estate := 2, prim := { aligned := true }, esc := { aligned := true } })] }

/-! ### Well-formedness: an ill-formed term for each check, which the check refuses -/

def frame16 : List Word := List.replicate 16 0
def canHdr (fdf : Bool) : CanHeader := ⟨fdf, false, false, false, false, 0, 0⟩

theorem test_wf_cell_zero :
    Instr.wf (.cellcmdBypass false 0) = false ∧ Instr.wf (.cellcmdReturn false 0) = false ∧
    Instr.wf (.cellcmdClear false 0 true true 0) = false ∧ Instr.wf (.cellcmdResume true 0) = false ∧
    Instr.wf (.offerReceive 0) = false ∧ Instr.wf (.takenReceive 0) = false ∧ Instr.wf (.handover 0) = false ∧
    Instr.wf (.handback 0) = false ∧ Instr.wf (.hoReqReceive false 0 0) = false ∧
    Instr.wf (.cellcmdBypass false 1) = true ∧ Instr.wf (.handback 63) = true := by decide

theorem test_wf_cellcmd_op : Instr.wf (.cellcmdInvalidOp 1) = false ∧ Instr.wf (.cellcmdInvalidOp 4) = false ∧
    Instr.wf (.cellcmdInvalidOp 0) = true ∧ Instr.wf (.cellcmdInvalidOp 5) = true := by decide

theorem test_wf_ce_load : Instr.wf (.ceLoad 6 5) = false ∧ Instr.wf (.ceLoad 5 5) = true := by decide

theorem test_wf_core_profile :
    Instr.wf (.mac 5 0 0 1 2) = false ∧ Instr.wf (.msu 5 0 0 1 2) = false ∧ Instr.wf (.mla 5 0 0 1 2) = false ∧
    Instr.wf (.rda 5 1 0 0) = false ∧ Instr.wf (.cla 5 0) = false ∧ Instr.wf (.rdw 5 1 0 0) = false ∧
    Instr.wf (.wrw 5 0 0 1) = false ∧ Instr.wf (.twaitp 5 0) = false ∧ Instr.wf (.twait 5 1) = false ∧
    Instr.wf (.twaitComplete 5) = false ∧ Instr.wf (.mts 5 0 1) = false ∧ Instr.wf (.di 5) = false ∧
    Instr.wf (.ei 5) = false ∧ Instr.wf (.iret 5) = false ∧ Instr.wf (.brk 5) = false ∧ Instr.wf (.wfi 5) = false ∧
    Instr.wf (.atw 5 1 2 3) = false ∧ Instr.wf (.timedWritePerform 5) = false ∧ Instr.wf (.sys 5 0) = false ∧
    Instr.wf (.qpush 5 1 2 0) = false ∧ Instr.wf (.qpop 5 2 0) = false ∧ Instr.wf (.qcnt 5 1 0) = false ∧
    Instr.wf (.mac 4 0 0 1 2) = true := by decide

theorem test_wf_tables_and_loops :
    Instr.wf (.jt 0 1 0) = false ∧ Instr.wf (.jt 0 1 257) = false ∧ Instr.wf (.jt 0 1 256) = true ∧
    Instr.wf (.loop 0 0 1 5) = false ∧ Instr.wf (.loopi 0 0 5) = false ∧ Instr.wf (.loopi 0 31 5) = true := by decide

theorem test_wf_frames :
    Instr.wf (.ringSlot (some [0]) none) = false ∧ Instr.wf (.ringSlot none (some [])) = false ∧
    Instr.wf (.ringSlot (some frame16) none) = true ∧ Instr.wf (.ringBeaconReceive false [0] 0) = false ∧
    Instr.wf (.ringHopReceive false [0] 0) = false ∧ Instr.wf (.refbReceive [0] 0) = false ∧
    Instr.wf (.escrowFrameReceive [0]) = false ∧ Instr.wf (.safetyFrameReceive [0]) = false ∧
    Instr.wf (.armcntReceive [0]) = false ∧ Instr.wf (.mgmtFrameReceive [0]) = false ∧
    Instr.wf (.bulkFrameReceive [0]) = false ∧ Instr.wf (.ringReportRequest [0] .good) = false := by decide

theorem test_wf_grant_trim_can :
    Instr.wf (.grantReceive ⟨false, 0, false, false, 2, 10000, 0, 0, 0, true⟩) = false ∧
    Instr.wf (.grantReceive ⟨false, 1, false, false, 0, 10000, 0, 0, 0, true⟩) = false ∧
    Instr.wf (.grantReceive ⟨false, 1, false, false, 2, 0, 0, 0, 0, true⟩) = false ∧
    Instr.wf (.grantReceive ⟨true, 0, false, false, 0, 0, 0, 0, 0, false⟩) = true ∧
    Instr.wf (.trimsetWrite false 0 0 0) = false ∧ Instr.wf (.trimsetWrite false 64 0 0) = false ∧
    Instr.wf (.canFrameReceive 0 (canHdr true) (List.replicate 65 0) 0) = false ∧
    Instr.wf (.canFrameReceive 0 (canHdr false) (List.replicate 9 0) 0) = false ∧
    Instr.wf (.canFrameReceive 0 (canHdr true) (List.replicate 64 0) 0) = true ∧
    Instr.wf (.canWakeUpFrame 0 (canHdr true) (List.replicate 65 0)) = false ∧
    Instr.wf (.canWakeUpFrame 0 (canHdr false) (List.replicate 9 0)) = false := by decide

/-! ### Yalirti words, written field by field from 06 R206, R208 and R217 -/

/-- Format F-R: op, d, a, b, function. -/
def fR (op : BitVec 6) (d a b : BitVec 5) (f : BitVec 11) : Word := op ++ d ++ a ++ b ++ f
/-- Format F-I: op, d, a, immediate. -/
def fI (op : BitVec 6) (d a : BitVec 5) (i : BitVec 16) : Word := op ++ d ++ a ++ i
/-- Format F-J: op, offset. -/
def fJ (op : BitVec 6) (o : BitVec 26) : Word := op ++ o
/-- Format F-V: op, vd, va, vb, function or coefficient address. -/
def fV (op : BitVec 6) (vd va vb : BitVec 4) (f : BitVec 14) : Word := op ++ vd ++ va ++ vb ++ f

theorem test_decode_alu :
    decodeWord 0 0x00000000 = some (.add 0 0 0 0) ∧ decodeWord 1 (fR 0x00 3 1 2 0x001) = some (.sub 1 3 1 2) ∧
    decodeWord 5 (fR 0x00 31 30 29 0x017) = some (.remu 5 31 30 29) ∧
    decodeWord 0 (fR 0x00 3 1 0 0x00E) = some (.clz 0 3 1) ∧ decodeWord 0 (fR 0x00 3 1 2 0x00E) = none ∧
    decodeWord 0 (fR 0x00 3 1 2 0x00F) = none := by decide

theorem test_decode_accumulators :
    decodeWord 0 (fR 0x01 0 4 5 (2#2 ++ 15#5 ++ 0#4)) = some (.mac 0 2 15 4 5) ∧
    decodeWord 4 (fR 0x01 7 0 0 (3#2 ++ 31#5 ++ 3#4)) = some (.rda 4 7 3 31) ∧
    decodeWord 0 (fR 0x01 7 0 0 (1#2 ++ 2#5 ++ 5#4)) = some (.rdw 0 7 1 2) ∧
    decodeWord 0 (fR 0x01 7 0 0 (1#2 ++ 4#5 ++ 5#4)) = none ∧
    decodeWord 0 (fR 0x01 0 0 0 (0#2 ++ 0#5 ++ 7#4)) = none ∧
    decodeWord 5 (fR 0x01 0 4 5 (2#2 ++ 15#5 ++ 0#4)) = none := by decide

theorem test_decode_immediate_and_memory :
    decodeWord 0 (fI 0x02 4 4 0x0800) = some (.addi 0 4 4 0x800) ∧
    decodeWord 0 (fI 0x07 4 0 0x3000) = some (.lui 0 4 0x3000) ∧ decodeWord 0 (fI 0x07 4 1 0x3000) = none ∧
    decodeWord 0 (fI 0x0A 4 1 31) = some (.srai 0 4 1 31) ∧ decodeWord 0 (fI 0x0A 4 1 32) = none ∧
    decodeWord 0 (fI 0x10 5 4 0xFFFC) = some (.lw 0 5 4 0xFFFC) ∧
    decodeWord 5 (fI 0x17 5 4 1) = some (.sb 5 5 4 1) := by decide

theorem test_decode_control :
    decodeWord 0 (fI 0x20 1 2 0xFFFF) = some (.beq 0 1 2 0xFFFF) ∧
    decodeWord 0 (fJ 0x29 0x3FFFFFF) = some (.call 0 0x3FFFFFF) ∧ decodeWord 0 (fJ 0x2A 0) = some (.ret 0) ∧
    decodeWord 0 (fJ 0x2A 1) = none ∧ decodeWord 0 (fJ 0x2B 0x3FFFF) = some (.twaitp 0 0x3FFFF) ∧
    decodeWord 0 (fJ 0x2B 0x40000) = none ∧ decodeWord 5 (fJ 0x2B 1) = none ∧
    decodeWord 0 (fI 0x2C 0 9 256) = some (.jt 0 9 256) ∧ decodeWord 0 (fI 0x2C 0 9 257) = none ∧
    decodeWord 0 (fI 0x2D 31 9 8) = some (.loop 0 31 9 8) ∧ decodeWord 0 (fI 0x2E 3 0 63) = some (.loopi 0 3 63) ∧
    decodeWord 0 (fI 0x2E 0 0 63) = none := by decide

theorem test_decode_system_and_queues :
    decodeWord 0 (fR 0x30 7 3 0 0x000) = some (.mfs 0 7 3) ∧ decodeWord 0 (fR 0x30 3 7 0 0x001) = some (.mts 0 3 7) ∧
    decodeWord 5 (fR 0x30 3 7 0 0x001) = none ∧ decodeWord 0 (fR 0x30 0 0 0 0x004) = some (.iret 0) ∧
    decodeWord 0 (fR 0x30 1 2 3 0x008) = some (.atw 0 1 2 3) ∧ decodeWord 0 (fJ 0x31 0xFF) = some (.sys 0 0xFF) ∧
    decodeWord 0 (fJ 0x31 0x100) = none ∧ decodeWord 0 (fR 0x32 0 1 2 31) = some (.qpush 0 1 2 31) ∧
    decodeWord 0 (fR 0x33 6 0 0 8) = some (.qpop 0 6 8) := by decide

theorem test_decode_lanes :
    decodeWord 5 (fV 0x38 1 2 3 0x0000) = some (.vadd 1 2 3) ∧ decodeWord 0 (fV 0x38 1 2 3 0x0000) = none ∧
    decodeWord 5 (fV 0x38 1 2 0 0x011F) = some (.vsra 1 2 31) ∧ decodeWord 5 (fV 0x38 1 2 0 0x000D) = none ∧
    decodeWord 5 (0x39#6 ++ 2#2 ++ 1#1 ++ 0#1 ++ 7#4 ++ 1#4 ++ 0x3FFF#14) = some (.vcmac .msu 2 true 7 0x3FFF) ∧
    decodeWord 5 (0x3A#6 ++ 1#4 ++ 2#4 ++ 1#1 ++ 0#3 ++ 5#14) = some (.vcm 1 2 true 5) ∧
    decodeWord 5 (fV 0x3B 4 0 0 (0#2 ++ 3#2 ++ 0#5 ++ 16#5)) = some (.vrda 4 3 16) ∧
    decodeWord 5 (fV 0x3B 0 1 2 (2#2 ++ 1#2 ++ 0#5 ++ 9#5)) = some (.vvmac 1 9 1 2) := by decide

theorem test_decode_lane_memory_and_posts :
    decodeWord 5 (fV 0x3C 1 0 2 (0#1 ++ 1#1 ++ 0xABC#12)) = some (.vld 1 2 true 0xABC) ∧
    decodeWord 5 (fV 0x3C 0 1 2 (1#1 ++ 0#1 ++ 0xABC#12)) = some (.vst 1 2 0xABC) ∧
    decodeWord 5 (fV 0x3C 1 1 2 (1#1 ++ 0#1 ++ 0xABC#12)) = none ∧
    decodeWord 5 (fV 0x3D 1 2 0 240) = some (.vint 1 2 240) ∧ decodeWord 5 (fV 0x3E 1 2 0 63) = some (.vang 1 2 63) ∧
    decodeWord 5 (fV 0x3F 0 0 0 (0#3 ++ 0#9 ++ 3#2)) = some (.post 3) ∧
    decodeWord 5 (fV 0x3F 0 0 0 (1#3 ++ 0#11)) = some .endProgram ∧
    decodeWord 5 (fV 0x3F 0 2 0 (3#3 ++ 0#2 ++ 15#4 ++ 7#5)) = some (.vext 2 15 7) := by decide

/-! ### The spec's worked examples -/

/-- 05, Fixed-point rounding: (2,400 × 3,435,974 + 524,288) >> 20 = 7,864, and −1.5 rounds to −1. -/
theorem test_rounding_examples : rsh (2400 * 3435974) 20 = 7864 ∧ rsh (-3) 1 = -1 := by decide

/-- A coefficient of bank 0. -/
def coef (s : State) (c : Nat) (v sh : Word) : State := (s.stw (coefAddr 0 c) v).stw (coefAddr 0 c + 4) sh

/-- The answer of a command, for a look at one field. -/
def after {α : Type} (o : Out) (f : State → α) : Option α := match o with | .next t => some (f t) | _ => none

/-- 05, The arithmetic of one step: e = 2,400, x = 12,000 give x = 12,315 and y = 20,179. -/
def stepState : State :=
  ((coef (coef (coef (coef upState 0 3435974 20) 1 2199023 24) 2 (0 - 98304) 0) 3 98304 0).stw (intAddr 0) 0x80000000
    |>.stw (intAddr 0 + 4) 12000).tCe fun z => { z with v := [(0, 2400#32)] }

theorem test_integrator_example :
    after (execVint 1 0 0 stepState) (fun t => (t.lane 1 0, t.ldw (intAddr 0 + 4))) = some (20179, 12315) := by
  decide +kernel

/-- 05, The arithmetic of one step: t[100] = 343,400, t[101] = 346,260 at angle 0x1910_0000 give 344,115. -/
def angleState : State :=
  ((upState.stw (0x32000000 + 400) 343400).stw (0x32000000 + 404) 346260).tCe fun z => { z with v := [(0, 0x19100000#32)] }

theorem test_interpolation_example : after (execVang 1 0 0 angleState) (fun t => t.lane 1 0) = some 344115 := by
  decide +kernel

/-- 06, Worked example: cycles on core 1. Admission counts 711 cycles for the listing; RET adds 2 and its fetch 2. -/
def listing : YCode :=
  { proc := 1, code := 0x00100000, handler := false, restores := false, start := 0, fetch := 2,
    words := [fI 0x07 4 0 0x3000, fI 0x04 4 4 0x0860, fR 0x00 6 0 0 0, fI 0x2E 3 0 63, fI 0x10 5 4 0, fR 0x00 6 6 5 0,
      fI 0x02 4 4 0x800, fJ 0x2A 0] }

theorem test_path_bound_example : (match listing.facts with | .ok f => f.wcet | .error _ => 0) = 711 + 4 := by
  decide +kernel

/-- 03, Delay measurement: D_used = 11,520, ECHO 182,400 and t_rx 193,928 give rtt = 23,048. -/
theorem test_delay_example :
    after (execEchoReceive 0 0 182400 193928 ((upState.setF (F.LNK_PSTAT.LSTATE 1) 3).setReg (R.LNK_DELAY 1) 184320))
      (fun t => t.f (F.LNK_RTT.RTT 1)) = some 23048 := by decide +kernel

/-- 08, Worked example: cores 0 to 3 at cycle 199. -/
def routing : State :=
  let src := fun (s : State) n => (s.setReg (R.VIC_SRC n) 0x800F0006)
  let s0 := src (src (upState.setB F.VIC_CTRL.EN true) 10) 36
  let s1 := (s0.setB (F.STM_CMPHI.FIRED 2) true).setB (F.STM_CMPHI.INT 2) true
  let s2 := (s1.setB (F.HQ_CFG.EN 20) true).setQueue 20 (List.replicate 8 0)
  ((((s2.modProc 0 fun z => { z with status := 0x10 }).modProc 1 fun z => { z with status := 0x13 }).modProc 2 fun z =>
    { z with run := .running, status := 0x00 }).modProc 3 fun z => { z with run := .sleeping, status := 0x10 })

/-- Source 10 takes core 0 and source 36 core 3; cores 1 and 2 take none. -/
theorem test_routing_example :
    after (execVicArbitration routing) (fun t => (List.range 4).map fun p => (t.proc p).latched) =
      some [some 10, none, none, some 36] := by decide +kernel

/-- 12, Worked example: VIO33 low raises source 24 with DATA 0x0000_0231, and FSRC holds VALID, class 3, source 24. -/
theorem test_fault_example :
    after (execSupplyOutOfWindow 3 2969 (upState.setF F.FCU_CTRL.ERRCLASS 3))
      (fun t => (t.fcu.ledger.map (·.data), t.reg R.FCU_FSRC)) = some ([0x00000231], 0x83000018) := by decide +kernel

/-- 10, Worked example, a light-load runt: the buck of channel 0 at boundary 1,280,000. -/
def buck (duty : Nat) : State :=
  let s := ((upState.setReg R.SFU_STATUS 0).setReg (R.BRP_STAT 0) 0x80000000).setB F.BRP_CTRL.EN true
  let t := ((s.setF (F.BRP_PER.VALUE 0) 128000).setF (F.BRP_ACTPER.VALUE 0) 128000).setReg (R.BRP_TIM 0) 0x0A000500
  let u := (t.setReg (R.BRP_CFG 0) 0xC0320000).setF (F.BRP_TCHG.TCHG 0) 3200
  ((u.setF (F.BRP_DUTY.VALUE 0) duty).setF (F.BRP_ACTDUTY.VALUE 0) duty).modBrpCh 0 fun z =>
    { z with bnd := some 1280000, lo := true, loAt := some 0 }

/-- Period m at DUTY 1,500: LO throughout, carry 1,500 at age 1. -/
theorem test_runt_carried : after (execPwmBoundary 0 (buck 1500)) (fun t => ((t.brpCh 0).edges, t.reg (R.BRP_CARRY 0))) =
    some ([], 0x010005DC) := by decide +kernel

/-- Period m+1 at DUTY 1,800 with that carry: LO off b, HO on b + 1,280, HO off b + 4,580, LO on b + 5,860, carry 0. -/
theorem test_runt_emitted :
    after (execPwmBoundary 0 ((buck 1800).setReg (R.BRP_CARRY 0) 0x010005DC)) (fun t =>
      ((t.brpCh 0).edges, t.reg (R.BRP_CARRY 0))) =
    some ([⟨1280000, false, false⟩, ⟨1281280, true, true⟩, ⟨1284580, true, false⟩, ⟨1285860, false, true⟩], 0) := by
  decide +kernel

/-- 10, a near-full duty: DUTY 125,000 with n = 440 drops the notch, carry −440 at age 1. -/
theorem test_notch_dropped : after (execPwmBoundary 0 (buck 125000)) (fun t => t.reg (R.BRP_CARRY 0)) =
    some 0x01FFFE48 := by decide +kernel

/-- 04, Worked example: arm 0 with 12 HD cells, six inserted, r = 6.728 in Q16.16, MTL. -/
def armExample : State :=
  let s := (((upState.setF F.STM_PERIOD.P 4000).setReg (R.CS_ACFG 0) 0xE01404FF).setF (F.CS_ALVL.VLVL 0) 12500)
  let t := ((s.setF (F.CS_CLASS.TMIN 2) 25600).setF (F.CS_CLASS.TDEAD 2) 12800).setReg (R.CS_AREF 0) 440926
  let u := ((t.setB (F.CS_AIN.VALID 0) true).setB F.CS_CTRL.EN true).setF F.CS_TIMING.RCUT 44
  let cell := fun (v : State) (i mv idx : Nat) =>
    ((v.setCtx i 0 0x20403).setCtx i 0x188 (wN mv)).setCtx i 0xC0 (wN (idx * 2 ^ 27))
  cell (cell (cell (cell (cell (cell (cell (cell u 1 1248000 4) 2 1255000 4) 3 1262000 4) 4 1240000 4) 6 1259000 4)
    7 1251000 4) 5 1238000 3) 8 1245000 3 |>.setCtx 3 0x100 5

/-- The views of the arm's cells, and the standing ones. -/
def armViews : List CellView := ((armExample.members 0).filter armExample.activeNext).map armExample.view
def armStanding : List CellView := armViews.filter fun c => decide (levelOfEntry (armExample.pat c.cls c.idx) = 1)

/-- Cell 05 joins at T_k+1 with entry 4, and cell 03 takes a notch whose edges stand 82,379 ticks apart (82,378 before r
is rounded to Q16.16), with entry 3 because leg a has switched more. -/
theorem test_level_example :
    (armExample.mtlPass ⟨256000, 256000, 1250000, 4000, true, 1, true⟩ 0 440926 0 armViews armViews armStanding).o.edges.map
      (fun e => (e.ctx, e.due, e.idx)) = [(5, 256000, 4), (3, 256000 + 86810, 3), (3, 256000 + 169189, 4)] := by
  decide +kernel

/-! ### Statements whose hypotheses name a next state -/

theorem witness_StepTakesTheFrontCommand : ∃ (c : Instr) (l : List Instr) (s : State), s.pending = c :: l :=
  ⟨.vgdLow, [.vicArbitration], { upState with pending := [.vgdLow, .vicArbitration] }, rfl⟩

theorem witness_CommandsLeaveTheQueue : ∃ (c : Instr) (s t : State), exec c s = .next t := ⟨.vicArbitration, upState, _, rfl⟩

theorem witness_EveryStepKeepsCanonical : ∃ s t : State, s.Canonical ∧ step s = .next t :=
  ⟨State.reset, _, by decide, rfl⟩

/-! ### Every hypothesis is met: one witness per clause -/

theorem witness_SupplyEdgesAndResets :
    (∃ (s : State), s.pwr.vbed = false) ∧
    (∃ (s : State), s.pwr.vbed = true) ∧
    (∃ (s : State) (req : Requester), s.on 0 = true ∧ s.live = true ∧ (s.authority req = true ∨ req = Requester.core0)) ∧
    (∃ (key : BitVec 16), key ≠ 2652) :=
  ⟨⟨((upState.tPwr fun z => { z with vbed := false })), by decide +kernel⟩,
   ⟨((upState.tPwr fun z => { z with vbed := true })), by decide +kernel⟩,
   ⟨((upState.setB ⟨R.SYSC_PSTAT, 0, 0⟩ (true))), (.host), by decide +kernel⟩,
   ⟨(0), by decide +kernel⟩⟩

theorem witness_ChipResetLeavesBedrockOrStandby :
    (∃ (d : Nat), (4 ≤ d) ∧ (d < 12)) ∧
    (∃ (a : Nat), (regionOf a).dom = none) :=
  ⟨⟨(5), by decide +kernel⟩,
   ⟨(0x40000000), by decide +kernel⟩⟩

theorem witness_PowerCommandsAndSequence :
    (∃ (s : State) (req : Requester) (opt : BitVec 12) (st : Fin 4), s.on 0 = true ∧ (req = Requester.host ∨ s.live = true) ∧ s.powerRefusal req (↑st + 1) opt.toNat = none ∧ s.fb F.SYSC_PSTAT.BUSY = false) ∧
    (∃ (s : State) (req : Requester) (opt : BitVec 12) (st : Fin 4) (r : Nat × Nat), s.on 0 = true ∧ (req = Requester.host ∨ s.live = true) ∧ s.powerRefusal req (↑st + 1) opt.toNat = some r) ∧
    (∃ (s : State) (d : Fin 12) (l : List Nat), s.fb F.SYSC_PSTAT.BUSY = true ∧ (s.pwr.downs = ↑d :: l) ∧ (1 ≤ ↑d)) ∧
    (∃ (s : State) (d : Fin 12) (l : List Nat), s.fb F.SYSC_PSTAT.BUSY = true ∧ (s.pwr.downs = []) ∧ (s.pwr.ups = ↑d :: l) ∧ (2 ≤ ↑d)) ∧
    (∃ (s : State), s.fb F.SYSC_PSTAT.BUSY = true ∧ (s.pwr.downs = []) ∧ (s.pwr.ups = []) ∧ s.pwr.pend = none) ∧
    (∃ (s : State) (l : List Nat), s.fb F.SYSC_PSTAT.BUSY = true ∧ (s.pwr.downs = []) ∧ (s.pwr.ups = 1 :: l) ∧ s.pwr.pend = none) :=
  ⟨⟨(((upState.setB ⟨R.SYSC_PSTAT, 0, 0⟩ (true)).setB (F.SYSC_PSTAT.BUSY) (false))), (.host), (0), (0), by decide +kernel⟩,
   ⟨(((upState.setB F.RNG_STATUS.JOINED true).setF F.SYSC_PSTAT.ON 0xFFF)), (.host), (0), (1), ((4, 9)), by decide +kernel⟩,
   ⟨(((upState.setB (F.SYSC_PSTAT.BUSY) (true)).tPwr fun z => { z with downs := (1 : Fin 12) :: ([] : List Nat) })), (1), ([]), by decide +kernel⟩,
   ⟨((((upState.setB (F.SYSC_PSTAT.BUSY) (true)).tPwr fun z => { z with downs := [] }).tPwr fun z => { z with ups := (2 : Fin 12) :: ([] : List Nat) })), (2), ([]), by decide +kernel⟩,
   ⟨(((((upState.setB (F.SYSC_PSTAT.BUSY) (true)).tPwr fun z => { z with downs := [] }).tPwr fun z => { z with ups := [] }).tPwr fun z => { z with pend := none })), by decide +kernel⟩,
   ⟨(((((upState.setB (F.SYSC_PSTAT.BUSY) (true)).tPwr fun z => { z with downs := [] }).tPwr fun z => { z with ups := 1 :: ([] : List Nat) }).tPwr fun z => { z with pend := none })), ([]), by decide +kernel⟩⟩

theorem witness_AuthorityModeAndCores :
    (∃ (req : Requester), req ≠ Requester.host) ∧
    (∃ (s : State) (req : Requester), s.on 0 = true ∧ (req = Requester.host ∨ s.live = true) ∧ s.authority req = true ∧ s.timeValid = true) ∧
    (∃ (s : State) (req : Requester), s.on 0 = true ∧ (req = Requester.host ∨ s.live = true) ∧ s.authority req = false) ∧
    (∃ (s : State), s.live = true) ∧
    (∃ (req : Requester), req ≠ Requester.core0) ∧
    (∃ (s : State) (n : Fin 2), s.on 0 = true ∧ s.on 10 = false ∧ (s.fb (if (↑n : Nat) = 0 then F.CAN_WAKECFG.WUPEN0 else F.CAN_WAKECFG.WUPEN1) = true)) ∧
    (∃ (s : State), s.on 0 = true ∧ s.f F.SYSC_ALARM.SECS ≠ 0 ∧ (s.f F.SYSC_BSEC.SECS ≤ s.f F.SYSC_ALARM.SECS)) :=
  ⟨⟨(.pair), by decide +kernel⟩,
   ⟨(((upState.setB ⟨R.SYSC_PSTAT, 0, 0⟩ (true)).setB F.CLK_STATUS.LOCKED (true))), (.host), by decide +kernel⟩,
   ⟨((upState.setB ⟨R.SYSC_PSTAT, 0, 0⟩ (true))), (.pair), by decide +kernel⟩,
   ⟨(upState), by decide +kernel⟩,
   ⟨(.pair), by decide +kernel⟩,
   ⟨((((upState.setB ⟨R.SYSC_PSTAT, 0, 0⟩ (true)).setB ⟨R.SYSC_PSTAT, 10, 10⟩ (false)).setB ((if ((0 : Fin 2) : Nat) = 0 then F.CAN_WAKECFG.WUPEN0 else F.CAN_WAKECFG.WUPEN1)) (true))), (0), by decide +kernel⟩,
   ⟨(upState.setF F.SYSC_ALARM.SECS 5), by decide +kernel⟩⟩

theorem witness_HostPortMailboxAndDebug :
    (∃ (s : State), s.on 0 = true) ∧
    (∃ (s : State), s.on 3 = true ∧ s.qOn 25 = true ∧ ((s.queue 25).length < s.qCap 25)) ∧
    (∃ (s : State), s.on 3 = true ∧ s.qOn 25 = true ∧ (s.qCap 25 ≤ (s.queue 25).length)) ∧
    (∃ (s : State) (e : DWord) (l : List DWord), s.on 3 = true ∧ s.qOn 26 = true ∧ (s.queue 26 = e :: l) ∧ (s.tru.mbxOut = [])) ∧
    (∃ (s : State), s.on 3 = true ∧ (s.queue 26 = [])) ∧
    (∃ (s : State), s.on 3 = true ∧ s.commission = false) ∧
    (∃ (s : State), s.on 3 = true ∧ s.commission = true) :=
  ⟨⟨((upState.setB ⟨R.SYSC_PSTAT, 0, 0⟩ (true))), by decide +kernel⟩,
   ⟨(((upState.setB ⟨R.SYSC_PSTAT, 3, 3⟩ (true)).setB (F.HQ_CFG.EN 25) (true))), by decide +kernel⟩,
   ⟨((upState.setB (F.HQ_CFG.EN 25) true).setQueue 25 (List.replicate 16 0)), by decide +kernel⟩,
   ⟨(((((upState.setB ⟨R.SYSC_PSTAT, 3, 3⟩ (true)).setB (F.HQ_CFG.EN 26) (true)).setQueue 26 ((0 : DWord) :: ([] : List DWord))).tTru fun z => { z with mbxOut := [] })), (0), ([]), by decide +kernel⟩,
   ⟨(((upState.setB ⟨R.SYSC_PSTAT, 3, 3⟩ (true)).setQueue 26 ([]))), by decide +kernel⟩,
   ⟨(((upState.setB ⟨R.SYSC_PSTAT, 3, 3⟩ (true)).setB F.SYSC_MODE.MODEACT (false))), by decide +kernel⟩,
   ⟨(((upState.setB ⟨R.SYSC_PSTAT, 3, 3⟩ (true)).setB F.SYSC_MODE.MODEACT (true))), by decide +kernel⟩⟩

theorem witness_DllAndForwardedClock :
    (∃ (s : State), s.on 1 = true ∧ s.fb F.CLK_CTRL.DLL_EN = true ∧ s.timeValid = false ∧ s.tm.lockLost = false) ∧
    (∃ (s : State), s.on 1 = true ∧ s.timeValid = true ∧ s.on 2 = false) ∧
    (∃ (s : State), s.on 1 = true ∧ s.timeValid = true ∧ s.on 2 = true) ∧
    (∃ (s : State), s.on 1 = true ∧ s.tm.lockLost = true) ∧
    (∃ (s : State), s.live = true ∧ s.on 1 = true ∧ s.f F.CLK_STATUS.SRC ≠ 2) ∧
    (∃ (s : State), s.live = true ∧ s.on 1 = true ∧ s.f F.CLK_STATUS.SRC = 2 ∧ s.follows = true ∧ s.timeValid = true) ∧
    (∃ (s : State), s.live = true ∧ s.timeValid = true ∧ s.follows = true ∧ s.fb F.CLK_STATUS.FWD_QUAL = true ∧ s.fb F.CLK_CTRL.FWD_EN = true ∧ s.f F.CLK_STATUS.SRC = 3 ∧ s.f F.STM_PHASE.TAP = s.tm.fwdTap ∧ s.fb F.STM_STATUS.THANDOVER = false) ∧
    (∃ (s : State), s.fb F.STM_STATUS.SETTLE = true ∧ s.errWithin 8 = true) :=
  ⟨⟨(((((upState.setB ⟨R.SYSC_PSTAT, 1, 1⟩ (true)).setB (F.CLK_CTRL.DLL_EN) (true)).setB F.CLK_STATUS.LOCKED (false)).tTm fun z => { z with lockLost := false })), by decide +kernel⟩,
   ⟨((((upState.setB ⟨R.SYSC_PSTAT, 1, 1⟩ (true)).setB F.CLK_STATUS.LOCKED (true)).setB ⟨R.SYSC_PSTAT, 2, 2⟩ (false))), by decide +kernel⟩,
   ⟨((((upState.setB ⟨R.SYSC_PSTAT, 1, 1⟩ (true)).setB F.CLK_STATUS.LOCKED (true)).setB ⟨R.SYSC_PSTAT, 2, 2⟩ (true))), by decide +kernel⟩,
   ⟨(((upState.setB ⟨R.SYSC_PSTAT, 1, 1⟩ (true)).tTm fun z => { z with lockLost := true })), by decide +kernel⟩,
   ⟨(((upState.setB ⟨R.SYSC_PSTAT, 1, 1⟩ (true)).setF (F.CLK_STATUS.SRC) (1))), by decide +kernel⟩,
   ⟨((((((upState.setB ⟨R.SYSC_PSTAT, 1, 1⟩ (true)).setF (F.CLK_STATUS.SRC) (2)).setB F.STM_STATUS.JOINED true).setF F.RNG_STATUS.ROLE 3).setB F.CLK_STATUS.LOCKED (true))), by decide +kernel⟩,
   ⟨((((((((upState.setB F.CLK_STATUS.LOCKED (true)).setB F.STM_STATUS.JOINED true).setF F.RNG_STATUS.ROLE 3).setB (F.CLK_STATUS.FWD_QUAL) (true)).setB (F.CLK_CTRL.FWD_EN) (true)).setF (F.CLK_STATUS.SRC) (3)).setB (F.STM_STATUS.THANDOVER) (false))), by decide +kernel⟩,
   ⟨((upState.setB (F.STM_STATUS.SETTLE) (true))), by decide +kernel⟩⟩

theorem witness_StackTimeReadsLoadsAndSteps :
    (∃ (s : State) (req : Requester), s.on 1 = true ∧ (req = Requester.host ∨ s.live = true)) ∧
    (∃ (s : State) (req : Requester), s.on 1 = true ∧ s.live = true ∧ (req = Requester.host → s.on 3 = true ∧ s.commission = true) ∧ (s.follows = true ∨ s.drivesCells = true)) ∧
    (∃ (s : State) (req : Requester), s.on 1 = true ∧ s.live = true ∧ (req = Requester.host → s.on 3 = true ∧ s.commission = true) ∧ s.follows = false ∧ s.drivesCells = false) ∧
    (∃ (s : State) (n : Fin 8), s.on 1 = true ∧ s.timeValid = true ∧ s.fb (F.STM_CMPHI.EN ↑n) = true ∧ (s.cmpDiff ↑n ≤ 0) ∧ (↑n < 6)) ∧
    (∃ (s : State), s.live = true ∧ s.timeValid = true ∧ s.follows = true ∧ s.slewDir ≠ 0 ∧ s.tm.lastSlew = none) ∧
    (∃ (s : State), s.timeValid = true ∧ s.follows = true ∧ s.drivesCells = false ∧ s.tm.stepDue = true ∧ s.fb F.STM_STATUS.THANDOVER = false) :=
  ⟨⟨((upState.setB ⟨R.SYSC_PSTAT, 1, 1⟩ (true))), (.pair), by decide +kernel⟩,
   ⟨((((upState.setB ⟨R.SYSC_PSTAT, 1, 1⟩ (true)).setB F.STM_STATUS.JOINED true).setF F.RNG_STATUS.ROLE 3)), (.pair), by decide +kernel⟩,
   ⟨((((upState.setB ⟨R.SYSC_PSTAT, 1, 1⟩ (true)).setB F.STM_STATUS.JOINED false).setF F.RNG_STATUS.ROLE 3)), (.pair), by decide +kernel⟩,
   ⟨((((upState.setB ⟨R.SYSC_PSTAT, 1, 1⟩ (true)).setB F.CLK_STATUS.LOCKED (true)).setB ((F.STM_CMPHI.EN (0 : Fin 8))) (true))), (0), by decide +kernel⟩,
   ⟨(((upState.setB F.RNG_STATUS.JOINED true).setF F.RNG_STATUS.ROLE 3).setB F.STM_STATUS.JOINED true |>.tTm fun z => { z with errs := [⟨100, false, 0⟩] }), by decide +kernel⟩,
   ⟨((((((upState.setB F.CLK_STATUS.LOCKED (true)).setB F.STM_STATUS.JOINED true).setF F.RNG_STATUS.ROLE 3).tTm fun z => { z with stepDue := true }).setB (F.STM_STATUS.THANDOVER) (false))), by decide +kernel⟩⟩

theorem witness_MeasurementClocksAndSync :
    (∃ (n : Nat) (a : Nat), (n < 4) ∧ a ≠ R.CLK_MCLK n ∧ a ≠ R.CLK_STATUS) ∧
    (∃ (s : State), s.live = true ∧ s.on 1 = true ∧ s.timeValid = true ∧ s.tm.lastSync = none) ∧
    (∃ (s : State), s.live = true ∧ s.on 1 = true ∧ s.timeValid = false) ∧
    (∃ (s : State) (n : Fin 4) (r : Nat), (s.mclk ↑n).windowEnd = some r) :=
  ⟨⟨(0), (0), by decide +kernel⟩,
   ⟨((((upState.setB ⟨R.SYSC_PSTAT, 1, 1⟩ (true)).setB F.CLK_STATUS.LOCKED (true)).tTm fun z => { z with lastSync := none })), by decide +kernel⟩,
   ⟨(((upState.setB ⟨R.SYSC_PSTAT, 1, 1⟩ (true)).setB F.CLK_STATUS.LOCKED (false))), by decide +kernel⟩,
   ⟨(upState.tTm fun z => { z with clocks := [(0, ⟨0, some 64⟩)] }), (0), (64), by decide +kernel⟩⟩

theorem witness_LinkPortStatesAndWords :
    (∃ (s : State), s.lnkOn = true ∧ s.timeValid = true ∧ (s.lnk.slot < s.slots)) ∧
    (∃ (s : State) (p : PortId), s.portOn p.idx = true ∧ s.lstate p.idx = 1) ∧
    (∃ (s : State) (p : PortId) (v : Nat), (v < 4) ∧ s.lstate p.idx ≠ v) ∧
    (∃ (s : State) (p : PortId), (s.ep p.idx).powered = true) ∧
    (∃ (s : State) (p : PortId) (ty : BitVec 3) (seq : BitVec 4) (data : Word), s.portOn p.idx = true ∧ (2 ≤ s.lstate p.idx) ∧ (s.port p.idx).tooLate seq.toNat = false ∧ s.on 6 = true ∧ ty = 0 ∧ (1 ≤ fld data 31 29) ∧ (fld data 31 29 ≤ 5)) ∧
    (∃ (s : State) (p : PortId) (seq : BitVec 4), s.portOn p.idx = true ∧ (2 ≤ s.lstate p.idx) ∧ (s.port p.idx).tooLate seq.toNat = true) ∧
    (∃ (s : State) (p : PortId), s.portOn p.idx = true ∧ (s.port p.idx).capMask = 15 ∧ (2 ≤ s.lstate p.idx) ∧ (s.port p.idx).capFull = false) ∧
    (∃ (s : State) (p : PortId), s.portOn p.idx = true ∧ s.f (F.LNK_PSTAT.EXHCONS p.idx) = 3 ∧ (s.port p.idx).lostDone = false) ∧
    (∃ (s : State), s.live = true ∧ s.on 7 = true) ∧
    (∃ (s : State) (p : PortId), s.on 7 = true ∧ (64 ≤ p.idx → s.on 8 = true)) :=
  ⟨⟨((upState.setB F.CLK_STATUS.LOCKED (true))), by decide +kernel⟩,
   ⟨((upState.setF (F.LNK_PSTAT.LSTATE (0 : PortId).idx) (1))), (0), by decide +kernel⟩,
   ⟨(upState), (0), (0), by decide +kernel⟩,
   ⟨((upState.tEp ((0 : PortId).idx) fun z => { z with powered := true })), (0), by decide +kernel⟩,
   ⟨((upState.setB ⟨R.SYSC_PSTAT, 6, 6⟩ (true))), (0), (0), (0), (0x80000000), by decide +kernel⟩,
   ⟨(((upState.setF (F.LNK_PSTAT.LSTATE 1) 2).modPort 1 fun z => { z with late := [5], rx := some 9 })), (0), (5), by decide +kernel⟩,
   ⟨(((upState.modPort (0 : PortId).idx fun z => { z with capMask := 15 }).modPort (0 : PortId).idx fun z => { z with capFull := false })), (0), by decide +kernel⟩,
   ⟨(((upState.setF ((F.LNK_PSTAT.EXHCONS (0 : PortId).idx)) (3)).modPort (0 : PortId).idx fun z => { z with lostDone := false })), (0), by decide +kernel⟩,
   ⟨((upState.setB ⟨R.SYSC_PSTAT, 7, 7⟩ (true))), by decide +kernel⟩,
   ⟨((upState.setB ⟨R.SYSC_PSTAT, 7, 7⟩ (true))), (0), by decide +kernel⟩⟩

theorem witness_EndpointWordsTimeAndBundles :
    (∃ (s : State) (p : PortId) (escrow : Bool), s.Hears p.idx escrow ∧ escrow = (s.ep p.idx).active) ∧
    (∃ (s : State) (p : PortId) (escrow : Bool) (seq : BitVec 4) (edge : Word), s.Hears p.idx escrow ∧ s.epSource (s.heard p.idx escrow seq.toNat (if bitAt edge 19 = true then 1 else 2)) = escrow ∧ (s.ep p.idx).decided = false) ∧
    (∃ (s : State) (p : PortId), (s.ep p.idx).powered = true ∧ (s.ep p.idx).decided = false) ∧
    (∃ (s : State) (p : PortId) (x : EpEdge), firstDue (s.ep p.idx).tk (s.ep p.idx).edges = some x) :=
  ⟨⟨(upState), (0), (false), by decide +kernel⟩,
   ⟨((upState.tEp ((0 : PortId).idx) fun z => { z with decided := false })), (0), (false), (0), (0), by decide +kernel⟩,
   ⟨(((upState.tEp ((0 : PortId).idx) fun z => { z with powered := true }).tEp ((0 : PortId).idx) fun z => { z with decided := false })), (0), by decide +kernel⟩,
   ⟨(upState.tEp 1 fun z => { z with edges := [⟨0, true, 1, 0xA, false, 5⟩] }), (0), (⟨0, true, 1, 0xA, false, 5⟩), by decide +kernel⟩⟩

theorem witness_EndpointCommandsAndCadences :
    (∃ (s : State) (p : PortId) (escrow : Bool) (seq : BitVec 4) (idx : Fin 32), s.Hears p.idx escrow ∧ s.epSource (s.heard p.idx escrow seq.toNat 2) = escrow ∧ (s.heard p.idx escrow seq.toNat 2).runs = true ∧ ((s.heard p.idx escrow seq.toNat 2).entry ↑idx).snd.fst = 2 ∧ ((s.heard p.idx escrow seq.toNat 2).entry ↑idx).fst = true) ∧
    (∃ (s : State) (p : PortId) (idx : Nat) (due : Word), ((s.ep p.idx).bypassAt = some (idx, due))) ∧
    (∃ (s : State) (p : PortId) (escrow : Bool) (seq : BitVec 4), s.Hears p.idx escrow ∧ s.epSource (s.heard p.idx escrow seq.toNat 1) = escrow) ∧
    (∃ (s : State) (p : PortId) (escrow : Bool) (seq : BitVec 4) (tb : Word), s.Hears p.idx escrow ∧ s.takeOk (s.heard p.idx escrow seq.toNat 2) tb = true ∧ (s.heard p.idx escrow seq.toNat 2).take = none ∧ escrow ≠ (s.heard p.idx escrow seq.toNat 2).active) ∧
    (∃ (s : State) (p : PortId) (escrow : Bool) (seq : BitVec 4) (tb : Word), s.Hears p.idx escrow ∧ s.takeOk (s.heard p.idx escrow seq.toNat 2) tb = false) ∧
    (∃ (s : State) (p : PortId) (escrow : Bool) (seq : BitVec 4), s.Hears p.idx escrow ∧ (s.heard p.idx escrow seq.toNat 1).estate ≠ 0) ∧
    (∃ (s : State) (p : PortId) (escrow : Bool) (op : BitVec 4), s.Hears p.idx escrow ∧ (op.toNat = 0 ∨ 9 ≤ op.toNat)) ∧
    (∃ (s : State) (p : PortId) (escrow : Bool) (seq : BitVec 4) (named : BitVec 4) (w : EpWord), s.Hears p.idx escrow ∧ (List.find? (fun (w : EpWord) => w.escrow == escrow && w.seq == named.toNat) (s.heard p.idx escrow seq.toNat 1).kept = some w) ∧ w.ty ≠ 4 ∧ ((BitVec.toNat (wN s.now + (s.heard p.idx escrow seq.toNat 1).off - (s.heard p.idx escrow seq.toNat 1).tk) / 3200 + 1 + 1) * 3200 * 16 + (s.heard p.idx escrow seq.toNat 1).d ≤ s.epP (s.heard p.idx escrow seq.toNat 1) * 64 * 16)) ∧
    (∃ (s : State) (p : PortId) (escrow : Bool) (seq : BitVec 4), s.Hears p.idx escrow ∧ s.epSource (s.heard p.idx escrow seq.toNat 1) ≠ escrow) ∧
    (∃ (s : State) (p : PortId) (escrow : Bool) (seq : BitVec 4) (w : Word) (c3 : Word), s.Hears p.idx escrow ∧ s.epSource (s.heard p.idx escrow seq.toNat 4) = escrow ∧ (s.heard p.idx escrow seq.toNat 4).runs = true ∧ (1 ≤ fld w 31 29) ∧ (fld w 31 29 ≤ 4) ∧ groupMask (s.heard p.idx escrow seq.toNat 4).cls (fld w 31 29) ≠ 0 ∧ (s.heard p.idx escrow seq.toNat 4).stageOk (fld w 9 5) (fld w 31 29) = true ∧ bitAt w 28 = true ∧ (¬min (sg (c3 - (s.heard p.idx escrow seq.toNat 4).tk)) (↑(s.epP (s.heard p.idx escrow seq.toNat 4) * 64) : Int) - (↑(s.heard p.idx escrow seq.toNat 4).lat : Int) < sg (wN s.now + (s.heard p.idx escrow seq.toNat 4).off - (s.heard p.idx escrow seq.toNat 4).tk))) ∧
    (∃ (s : State) (p : PortId) (g : Fin 5) (c : EpCadence), (List.find? (fun (c : EpCadence) => c.group == ↑g) (s.ep p.idx).nextCads = some c)) ∧
    (∃ (s : State) (p : PortId) (g : Fin 5) (c : EpCadence), (List.find? (fun (c : EpCadence) => c.group == ↑g) (s.ep p.idx).cadences = some c)) :=
  ⟨⟨(upState.tEp 1 fun z => { z with cfg := [(1, 0x00A00000#32)] }), (0), (false), (0), (1), by decide +kernel⟩,
   ⟨((upState.tEp ((0 : PortId).idx) fun z => { z with bypassAt := some ((0 : Nat), (0 : Word)) })), (0), (0), (0), by decide +kernel⟩,
   ⟨(upState), (0), (false), (0), by decide +kernel⟩,
   ⟨(upState), (0), (true), (0), (1280000), by decide +kernel⟩,
   ⟨(upState), (0), (false), (0), (0), by decide +kernel⟩,
   ⟨(upState), (0), (false), (0), by decide +kernel⟩,
   ⟨(upState), (0), (false), (0), by decide +kernel⟩,
   ⟨(upState.tEp 1 fun z => { z with kept := [⟨false, 2, 0, 3⟩] }), (0), (false), (0), (3), (⟨false, 2, 0, 3⟩), by decide +kernel⟩,
   ⟨(upState), (0), (true), (0), by decide +kernel⟩,
   ⟨(upState.tEp 1 fun z => { z with caps := [(0, 0x04000000#32)], cfg := [(1, 0x00D20000#32)] }), (0), (false), (0), (0x30000020), (100000), by decide +kernel⟩,
   ⟨(upState.tEp 1 fun z => { z with nextCads := [{ group := 1, halt := false, a := 1, b := 2, half := 640, phase := 0, start := 0 }] }), (0), (1), ({ group := 1, halt := false, a := 1, b := 2, half := 640, phase := 0, start := 0 }), by decide +kernel⟩,
   ⟨(upState.tEp 1 fun z => { z with cadences := [{ group := 1, halt := false, a := 1, b := 2, half := 640, phase := 0, start := 0 }] }), (0), (1), ({ group := 1, halt := false, a := 1, b := 2, half := 640, phase := 0, start := 0 }), by decide +kernel⟩⟩

theorem witness_EndpointCalibrationConfigurationAndReports :
    (∃ (s : State) (p : PortId) (escrow : Bool) (seq : BitVec 4) (addr : BitVec 8), s.Hears p.idx escrow ∧ s.epSource (s.heard p.idx escrow seq.toNat 1) = escrow ∧ (s.heard p.idx escrow seq.toNat 1).runs = false ∧ (addr.toNat ≤ 44)) ∧
    (∃ (s : State) (p : PortId) (escrow : Bool) (seq : BitVec 4), s.Hears p.idx escrow ∧ s.epSource (s.heard p.idx escrow seq.toNat 1) = escrow ∧ (s.heard p.idx escrow seq.toNat 1).runs = true) ∧
    (∃ (s : State) (p : PortId), (s.ep p.idx).powered = true) :=
  ⟨⟨(upState.tEp 1 fun z => { z with estate := 0 }), (0), (false), (0), (44), by decide +kernel⟩,
   ⟨(upState), (0), (false), (0), by decide +kernel⟩,
   ⟨((upState.tEp ((0 : PortId).idx) fun z => { z with powered := true })), (0), by decide +kernel⟩⟩

theorem witness_YalirtiArithmetic :
    (∃ (s : State) (p : ProcId) (a : Gpr) (b : Gpr), s.Executes ↑p true true ∧ s.gpr ↑p ↑b ≠ 0 ∧ (¬(s.gpr ↑p ↑a = 2147483648#32 ∧ s.gpr ↑p ↑b = 4294967295#32))) ∧
    (∃ (s : State) (p : ProcId) (b : Gpr), s.Executes ↑p true true ∧ s.gpr ↑p ↑b = 0) ∧
    (∃ (s : State) (p : ProcId) (a : Gpr) (b : Gpr), s.Executes ↑p true true ∧ s.gpr ↑p ↑a = 2147483648#32 ∧ s.gpr ↑p ↑b = 4294967295#32) :=
  ⟨⟨(((upState).setGpr 0 1 0x80000000#32).setGpr 0 2 1#32), (0), (1), (2), by decide +kernel⟩,
   ⟨((upState.setGpr (0 : ProcId) (1 : Gpr) (0))), (0), (1), by decide +kernel⟩,
   ⟨(((upState.setGpr (0 : ProcId) (1 : Gpr) (2147483648#32)).setGpr (0 : ProcId) (2 : Gpr) (4294967295#32))), (0), (1), (2), by decide +kernel⟩⟩

theorem witness_YalirtiImmediatesAndAccumulators :
    (∃ (s : State) (p : ProcId), s.Executes ↑p true true) ∧
    (∃ (s : State) (p : ProcId) (w : Fin 4), s.Executes ↑p true false ∧ (↑w < 3)) :=
  ⟨⟨(upState), (0), by decide +kernel⟩,
   ⟨(upState), (0), (0), by decide +kernel⟩⟩

theorem witness_YalirtiLoadsStoresAndTimedWrites :
    (∃ (s : State) (p : ProcId) (a : Gpr) (imm : BitVec 16), s.Executes ↑p true true ∧ (s.isBad (physAddr ↑p (s.effAddr ↑p ↑a imm)) = false ∧ (regionOf (physAddr ↑p (s.effAddr ↑p ↑a imm)) = Region.flash → s.tru.fl = none) ∧ if (↑p : Nat) = 5 then engRegion (physAddr ↑p (s.effAddr ↑p ↑a imm)) ≠ none else s.memOn (regionOf (physAddr ↑p (s.effAddr ↑p ↑a imm))) = true ∧ (regionOf (physAddr ↑p (s.effAddr ↑p ↑a imm)) = Region.sram ∨ regionOf (physAddr ↑p (s.effAddr ↑p ↑a imm)) = Region.rom ∨ regionOf (physAddr ↑p (s.effAddr ↑p ↑a imm)) = Region.context ∨ regionOf (physAddr ↑p (s.effAddr ↑p ↑a imm)) = Region.ceMem ∨ regionOf (physAddr ↑p (s.effAddr ↑p ↑a imm)) = Region.angle ∨ regionOf (physAddr ↑p (s.effAddr ↑p ↑a imm)) = Region.buffers ∨ regionOf (physAddr ↑p (s.effAddr ↑p ↑a imm)) = Region.ledger ∨ regionOf (physAddr ↑p (s.effAddr ↑p ↑a imm)) = Region.flash ∨ (∃ (n : Fin 4), regionOf (physAddr ↑p (s.effAddr ↑p ↑a imm)) = Region.tcm ↑n) ∨ regionOf (physAddr ↑p (s.effAddr ↑p ↑a imm)) = Region.pairTcm ∧ ↑p = 4)) ∧ physAddr ↑p (s.effAddr ↑p ↑a imm) % 4 = 0) ∧
    (∃ (s : State) (p : ProcId) (a : Gpr) (imm : BitVec 16), s.Executes ↑p true true ∧ (s.isBad (physAddr ↑p (s.effAddr ↑p ↑a imm)) = false ∧ (regionOf (physAddr ↑p (s.effAddr ↑p ↑a imm)) = Region.flash → s.tru.fl = none) ∧ if (↑p : Nat) = 5 then engRegion (physAddr ↑p (s.effAddr ↑p ↑a imm)) ≠ none else s.memOn (regionOf (physAddr ↑p (s.effAddr ↑p ↑a imm))) = true ∧ (regionOf (physAddr ↑p (s.effAddr ↑p ↑a imm)) = Region.sram ∨ regionOf (physAddr ↑p (s.effAddr ↑p ↑a imm)) = Region.rom ∨ regionOf (physAddr ↑p (s.effAddr ↑p ↑a imm)) = Region.context ∨ regionOf (physAddr ↑p (s.effAddr ↑p ↑a imm)) = Region.ceMem ∨ regionOf (physAddr ↑p (s.effAddr ↑p ↑a imm)) = Region.angle ∨ regionOf (physAddr ↑p (s.effAddr ↑p ↑a imm)) = Region.buffers ∨ regionOf (physAddr ↑p (s.effAddr ↑p ↑a imm)) = Region.ledger ∨ regionOf (physAddr ↑p (s.effAddr ↑p ↑a imm)) = Region.flash ∨ (∃ (n : Fin 4), regionOf (physAddr ↑p (s.effAddr ↑p ↑a imm)) = Region.tcm ↑n) ∨ regionOf (physAddr ↑p (s.effAddr ↑p ↑a imm)) = Region.pairTcm ∧ ↑p = 4)) ∧ physAddr ↑p (s.effAddr ↑p ↑a imm) % 2 = 0) ∧
    (∃ (s : State) (p : ProcId) (a : Gpr) (imm : BitVec 16), s.Executes ↑p true true ∧ (if (↑p : Nat) = 5 then engRegion (physAddr ↑p (s.effAddr ↑p ↑a imm)) = some 0 ∨ engRegion (physAddr ↑p (s.effAddr ↑p ↑a imm)) = some 2 else s.memOn (regionOf (physAddr ↑p (s.effAddr ↑p ↑a imm))) = true ∧ (regionOf (physAddr ↑p (s.effAddr ↑p ↑a imm)) = Region.sram ∨ regionOf (physAddr ↑p (s.effAddr ↑p ↑a imm)) = Region.buffers ∨ (∃ (n : Fin 4), regionOf (physAddr ↑p (s.effAddr ↑p ↑a imm)) = Region.tcm ↑n) ∨ regionOf (physAddr ↑p (s.effAddr ↑p ↑a imm)) = Region.pairTcm ∧ ↑p = 4)) ∧ physAddr ↑p (s.effAddr ↑p ↑a imm) % 4 = 0) ∧
    (∃ (s : State) (p : ProcId) (a : Gpr) (imm : BitVec 16), s.Executes ↑p true true ∧ (if (↑p : Nat) = 5 then engRegion (physAddr ↑p (s.effAddr ↑p ↑a imm)) = some 0 ∨ engRegion (physAddr ↑p (s.effAddr ↑p ↑a imm)) = some 2 else s.memOn (regionOf (physAddr ↑p (s.effAddr ↑p ↑a imm))) = true ∧ (regionOf (physAddr ↑p (s.effAddr ↑p ↑a imm)) = Region.sram ∨ regionOf (physAddr ↑p (s.effAddr ↑p ↑a imm)) = Region.buffers ∨ (∃ (n : Fin 4), regionOf (physAddr ↑p (s.effAddr ↑p ↑a imm)) = Region.tcm ↑n) ∨ regionOf (physAddr ↑p (s.effAddr ↑p ↑a imm)) = Region.pairTcm ∧ ↑p = 4)) ∧ physAddr ↑p (s.effAddr ↑p ↑a imm) % 2 = 0) ∧
    (∃ (s : State) (p : ProcId) (a : Gpr) (imm : BitVec 16), s.Executes ↑p true true ∧ physAddr ↑p (s.effAddr ↑p ↑a imm) % 4 ≠ 0 ∧ regionOf (physAddr ↑p (s.effAddr ↑p ↑a imm)) ≠ Region.periph ∧ (regionOf (physAddr ↑p (s.effAddr ↑p ↑a imm)) = Region.flash → s.tru.fl = none)) ∧
    (∃ (s : State) (p : ProcId) (a : Gpr) (imm : BitVec 16), s.Executes ↑p true true ∧ ↑p ≠ 5 ∧ regionOf (physAddr ↑p (s.effAddr ↑p ↑a imm)) = Region.hole ∧ physAddr ↑p (s.effAddr ↑p ↑a imm) % 4 = 0) ∧
    (∃ (s : State) (p : ProcId) (a : Gpr), s.Executes ↑p true false ∧ BitVec.toNat (s.gpr ↑p ↑a) % 4 = 0 ∧ regionOf (BitVec.toNat (s.gpr ↑p ↑a)) = Region.periph ∧ ((s.proc ↑p).timed.length < 4)) ∧
    (∃ (s : State) (p : ProcId) (a : Gpr), s.Executes ↑p true false ∧ BitVec.toNat (s.gpr ↑p ↑a) % 4 = 0 ∧ regionOf (BitVec.toNat (s.gpr ↑p ↑a)) = Region.periph ∧ (4 ≤ (s.proc ↑p).timed.length)) ∧
    (∃ (s : State) (p : ProcId) (a : Gpr), s.Executes ↑p true false ∧ regionOf (BitVec.toNat (s.gpr ↑p ↑a)) ≠ Region.periph) ∧
    (∃ (s : State) (p : ProcId) (w : TimedWrite), s.live = true ∧ s.on (procDom ↑p) = true ∧ ((s.proc ↑p).timed = [w])) :=
  ⟨⟨((upState).setGpr 0 1 0x00100004#32), (0), (1), (0xFFFC), by decide +kernel⟩,
   ⟨((upState).setGpr 0 1 0x20000000#32), (0), (1), (2), by decide +kernel⟩,
   ⟨((upState).setGpr 5 1 0x31040000#32), (5), (1), (0), by decide +kernel⟩,
   ⟨((upState).setGpr 4 1 0x0011FFFE#32), (4), (1), (0), by decide +kernel⟩,
   ⟨(upState), (0), (1), (1), by decide +kernel⟩,
   ⟨((upState).setGpr 0 1 0x20400000#32), (0), (1), (0), by decide +kernel⟩,
   ⟨((upState).setGpr 0 1 0x40000000#32), (0), (1), by decide +kernel⟩,
   ⟨(((upState).setGpr 0 1 0x4010FFFC#32).modProc 0 fun z => { z with timed := [⟨0x40000000, 0, 100⟩, ⟨0x40000000, 0, 100⟩, ⟨0x40000000, 0, 100⟩, ⟨0x40000000, 0, 100⟩] }), (0), (1), by decide +kernel⟩,
   ⟨(upState), (0), (1), by decide +kernel⟩,
   ⟨(upState.modProc 0 fun z => { z with timed := [⟨0x40000000, 1, 5⟩] }), (0), (⟨0x40000000, 1, 5⟩), by decide +kernel⟩⟩

theorem witness_YalirtiControlTransfer :
    (∃ (s : State) (p : ProcId) (a : Gpr) (b : Gpr), s.Executes ↑p true true ∧ s.gpr ↑p ↑a = s.gpr ↑p ↑b) ∧
    (∃ (s : State) (p : ProcId) (a : Gpr) (b : Gpr), s.Executes ↑p true true ∧ (¬s.gpr ↑p ↑a = s.gpr ↑p ↑b)) ∧
    (∃ (s : State) (p : ProcId) (a : Gpr) (b : Gpr), s.Executes ↑p true true ∧ s.gpr ↑p ↑a ≠ s.gpr ↑p ↑b) ∧
    (∃ (s : State) (p : ProcId) (a : Gpr) (b : Gpr), s.Executes ↑p true true ∧ (¬s.gpr ↑p ↑a ≠ s.gpr ↑p ↑b)) ∧
    (∃ (s : State) (p : ProcId) (a : Gpr) (b : Gpr), s.Executes ↑p true true ∧ (BitVec.toInt (s.gpr ↑p ↑a) < BitVec.toInt (s.gpr ↑p ↑b))) ∧
    (∃ (s : State) (p : ProcId) (a : Gpr) (b : Gpr), s.Executes ↑p true true ∧ (¬BitVec.toInt (s.gpr ↑p ↑a) < BitVec.toInt (s.gpr ↑p ↑b))) ∧
    (∃ (s : State) (p : ProcId) (a : Gpr) (b : Gpr), s.Executes ↑p true true ∧ (BitVec.toInt (s.gpr ↑p ↑b) ≤ BitVec.toInt (s.gpr ↑p ↑a))) ∧
    (∃ (s : State) (p : ProcId) (a : Gpr) (b : Gpr), s.Executes ↑p true true ∧ (¬BitVec.toInt (s.gpr ↑p ↑b) ≤ BitVec.toInt (s.gpr ↑p ↑a))) ∧
    (∃ (s : State) (p : ProcId) (a : Gpr) (b : Gpr), s.Executes ↑p true true ∧ (BitVec.toNat (s.gpr ↑p ↑a) < BitVec.toNat (s.gpr ↑p ↑b))) ∧
    (∃ (s : State) (p : ProcId) (a : Gpr) (b : Gpr), s.Executes ↑p true true ∧ (¬BitVec.toNat (s.gpr ↑p ↑a) < BitVec.toNat (s.gpr ↑p ↑b))) ∧
    (∃ (s : State) (p : ProcId) (a : Gpr) (b : Gpr), s.Executes ↑p true true ∧ (BitVec.toNat (s.gpr ↑p ↑b) ≤ BitVec.toNat (s.gpr ↑p ↑a))) ∧
    (∃ (s : State) (p : ProcId) (a : Gpr) (b : Gpr), s.Executes ↑p true true ∧ (¬BitVec.toNat (s.gpr ↑p ↑b) ≤ BitVec.toNat (s.gpr ↑p ↑a))) ∧
    (∃ (s : State) (p : ProcId), s.Executes ↑p true true ∧ ((s.proc ↑p).calls.length < 16)) ∧
    (∃ (s : State) (p : ProcId), s.Executes ↑p true true ∧ (16 ≤ (s.proc ↑p).calls.length)) ∧
    (∃ (s : State) (p : ProcId) (c : Word) (l : List Word), s.Executes ↑p true true ∧ ((s.proc ↑p).calls = c :: l) ∧ (s.proc ↑p).slot = none) ∧
    (∃ (s : State) (p : ProcId) (c : Word) (l : List Word), s.Executes ↑p true true ∧ ((s.proc ↑p).calls = c :: l) ∧ ((s.proc ↑p).slot = none ∨ l ≠ [] ∨ (s.proc ↑p).istack ≠ [])) ∧
    (∃ (s : State) (p : ProcId), s.Executes ↑p true true ∧ ((s.proc ↑p).calls = [])) ∧
    (∃ (s : State) (p : ProcId) (body : Fin 32) (imm : BitVec 16), s.Executes ↑p true true ∧ (1 ≤ ↑body) ∧ imm.toNat = 0) ∧
    (∃ (s : State) (p : ProcId) (body : Fin 32) (imm : BitVec 16), s.Executes ↑p true true ∧ (1 ≤ ↑body) ∧ imm.toNat ≠ 0 ∧ ((s.proc ↑p).loops.length < 4)) ∧
    (∃ (s : State) (p : ProcId) (body : Fin 32) (imm : BitVec 16), s.Executes ↑p true true ∧ (1 ≤ ↑body) ∧ imm.toNat ≠ 0 ∧ (4 ≤ (s.proc ↑p).loops.length)) ∧
    (∃ (s : State) (p : ProcId) (body : Fin 32) (a : Gpr) (imm : BitVec 16), s.Executes ↑p true true ∧ (1 ≤ ↑body) ∧ min (BitVec.toNat (s.gpr ↑p ↑a)) imm.toNat = 0) ∧
    (∃ (s : State) (p : ProcId) (body : Fin 32) (a : Gpr) (imm : BitVec 16), s.Executes ↑p true true ∧ (1 ≤ ↑body) ∧ min (BitVec.toNat (s.gpr ↑p ↑a)) imm.toNat ≠ 0 ∧ ((s.proc ↑p).loops.length < 4)) ∧
    (∃ (s : State) (p : ProcId) (body : Fin 32) (a : Gpr) (imm : BitVec 16), s.Executes ↑p true true ∧ (1 ≤ ↑body) ∧ min (BitVec.toNat (s.gpr ↑p ↑a)) imm.toNat ≠ 0 ∧ (4 ≤ (s.proc ↑p).loops.length)) ∧
    (∃ (s : State) (p : ProcId) (off : BitVec 18), s.Executes ↑p true false ∧ (s.boundary s.tm.k + off.toNat * 64 ≤ s.now)) ∧
    (∃ (s : State) (p : ProcId) (off : BitVec 18), s.Executes ↑p true false ∧ (s.now < s.boundary s.tm.k + off.toNat * 64)) ∧
    (∃ (s : State) (p : ProcId) (a : Gpr), s.Executes ↑p true false ∧ (timeDiff 32 (BitVec.toNat (s.gpr ↑p ↑a)) s.now ≤ 0)) ∧
    (∃ (s : State) (p : ProcId) (a : Gpr), s.Executes ↑p true false ∧ (0 < timeDiff 32 (BitVec.toNat (s.gpr ↑p ↑a)) s.now)) ∧
    (∃ (s : State) (p : ProcId) (t : Nat), s.live = true ∧ s.on (procDom ↑p) = true ∧ (s.proc ↑p).dbgHalt = false ∧ (s.proc ↑p).run = RunState.waitPeriod t ∧ (t < 2 ^ 64)) :=
  ⟨⟨(upState), (0), (1), (1), by decide +kernel⟩,
   ⟨((upState).setGpr 0 1 1#32), (0), (1), (2), by decide +kernel⟩,
   ⟨((upState).setGpr 0 1 1#32), (0), (1), (2), by decide +kernel⟩,
   ⟨(upState), (0), (1), (1), by decide +kernel⟩,
   ⟨((upState).setGpr 0 1 0xFFFFFFFF#32), (0), (1), (2), by decide +kernel⟩,
   ⟨(upState), (0), (1), (1), by decide +kernel⟩,
   ⟨(upState), (0), (1), (1), by decide +kernel⟩,
   ⟨((upState).setGpr 0 2 1#32), (0), (1), (2), by decide +kernel⟩,
   ⟨((upState).setGpr 0 2 0x80000000#32), (0), (1), (2), by decide +kernel⟩,
   ⟨(upState), (0), (1), (1), by decide +kernel⟩,
   ⟨(upState), (0), (1), (1), by decide +kernel⟩,
   ⟨((upState).setGpr 0 2 0x80000000#32), (0), (1), (2), by decide +kernel⟩,
   ⟨(upState), (0), by decide +kernel⟩,
   ⟨(upState.modProc 0 fun z => { z with calls := List.replicate 16 0 }), (0), by decide +kernel⟩,
   ⟨(((upState.modProc (0 : ProcId) fun z => { z with calls := (0 : Word) :: ([] : List Word) }).modProc (0 : ProcId) fun z => { z with slot := none })), (0), (0), ([]), by decide +kernel⟩,
   ⟨(((upState.modProc (0 : ProcId) fun z => { z with calls := (0 : Word) :: ([] : List Word) }).modProc (0 : ProcId) fun z => { z with slot := none })), (0), (0), ([]), by decide +kernel⟩,
   ⟨((upState.modProc (0 : ProcId) fun z => { z with calls := [] })), (0), by decide +kernel⟩,
   ⟨(upState), (0), (1), (0), by decide +kernel⟩,
   ⟨(upState), (0), (1), (1), by decide +kernel⟩,
   ⟨(upState.modProc 0 fun z => { z with loops := List.replicate 4 ⟨0, 0, 1, 0, 0⟩ }), (0), (1), (0xFFFF), by decide +kernel⟩,
   ⟨(upState), (0), (1), (1), (0), by decide +kernel⟩,
   ⟨((upState).setGpr 0 1 5#32), (0), (31), (1), (1), by decide +kernel⟩,
   ⟨(((upState).setGpr 0 1 5#32).modProc 0 fun z => { z with loops := List.replicate 4 ⟨0, 0, 1, 0, 0⟩ }), (0), (1), (1), (1), by decide +kernel⟩,
   ⟨(upState), (0), (0), by decide +kernel⟩,
   ⟨(upState), (0), (1), by decide +kernel⟩,
   ⟨(upState), (0), (1), by decide +kernel⟩,
   ⟨((upState).setGpr 0 1 5#32), (0), (1), by decide +kernel⟩,
   ⟨((((upState.setB ⟨R.SYSC_PSTAT, (procDom (0 : ProcId)), (procDom (0 : ProcId))⟩ (true)).modProc (0 : ProcId) fun z => { z with dbgHalt := false }).modProc (0 : ProcId) fun z => { z with run := RunState.waitPeriod (0 : Nat) })), (0), (0), by decide +kernel⟩⟩

theorem witness_YalirtiSystemInstructions :
    (∃ (s : State) (p : ProcId), s.Executes ↑p true true ∧ ↑p ≠ 5) ∧
    (∃ (s : State) (p : ProcId) (n : Fin 32), s.Executes ↑p true true ∧ (7 ≤ ↑n)) ∧
    (∃ (s : State) (p : ProcId) (n : Fin 32), s.Executes ↑p true false ∧ (3 ≤ ↑n)) ∧
    (∃ (s : State) (p : ProcId), s.Executes ↑p true false ∧ ieOf (s.proc ↑p) = true) ∧
    (∃ (s : State) (p : ProcId), s.Executes ↑p true false ∧ ieOf (s.proc ↑p) = false) ∧
    (∃ (s : State) (p : ProcId) (e : StackEntry) (l : List StackEntry) (x : Option Nat) (sv : List (Option Nat)), s.Executes ↑p true false ∧ ((s.proc ↑p).istack = e :: l) ∧ ((s.proc ↑p).serv = x :: sv) ∧ ((s.setProc ↑p { run := (s.proc ↑p).run, dbgHalt := (s.proc ↑p).dbgHalt, g := (s.proc ↑p).g, gi := (s.proc ↑p).gi, acc := (s.proc ↑p).acc, pc := (s.proc ↑p).pc, status := (s.proc ↑p).status, istack := (s.proc ↑p).istack, epc0 := (s.proc ↑p).epc0, estat0 := (s.proc ↑p).estat0, calls := (s.proc ↑p).calls, loops := (s.proc ↑p).loops, timed := (s.proc ↑p).timed, hiThread := (s.proc ↑p).hiThread, hiHandler := (s.proc ↑p).hiHandler, latched := (s.proc ↑p).latched, serv := none :: sv, diAt := (s.proc ↑p).diAt, diDone := (s.proc ↑p).diDone, entries := (s.proc ↑p).entries, slot := (s.proc ↑p).slot, slotEnd := (s.proc ↑p).slotEnd, missed := (s.proc ↑p).missed }).bestFor ↑p (fld e.estat 3 0) = none)) ∧
    (∃ (s : State) (p : ProcId), s.Executes ↑p true false ∧ ((s.proc ↑p).istack = [])) ∧
    (∃ (s : State) (p : ProcId), s.Executes ↑p true false ∧ s.commission = true ∧ s.fb F.SYSC_MODE.DBGATT = true) ∧
    (∃ (s : State) (p : ProcId), s.Executes ↑p true false ∧ (s.commission = false ∨ s.fb F.SYSC_MODE.DBGATT = false)) ∧
    (∃ (s : State) (p : ProcId) (q : QueueId), s.Executes ↑p true false ∧ s.qOn ↑q = true ∧ s.mayPush ↑p ↑q = true ∧ ((s.queue ↑q).length < s.qCap ↑q)) ∧
    (∃ (s : State) (p : ProcId) (q : QueueId), s.Executes ↑p true false ∧ s.qOn ↑q = true ∧ s.mayPush ↑p ↑q = true ∧ (s.qCap ↑q ≤ (s.queue ↑q).length)) ∧
    (∃ (s : State) (p : ProcId) (q : QueueId), s.Executes ↑p true false ∧ s.mayPush ↑p ↑q = false) ∧
    (∃ (s : State) (p : ProcId) (d : Gpr) (q : QueueId) (e : DWord) (l : List DWord), s.Executes ↑p true false ∧ ↑d % 2 = 0 ∧ (2 ≤ ↑d) ∧ s.qOn ↑q = true ∧ s.mayPop ↑p ↑q = true ∧ (s.queue ↑q = e :: l)) ∧
    (∃ (s : State) (p : ProcId) (d : Gpr) (q : QueueId), s.Executes ↑p true false ∧ ↑d % 2 = 0 ∧ (2 ≤ ↑d) ∧ s.qOn ↑q = true ∧ s.mayPop ↑p ↑q = true ∧ (s.queue ↑q = [])) ∧
    (∃ (s : State) (p : ProcId) (d : Gpr), s.Executes ↑p true false ∧ (↑d % 2 = 1 ∨ ↑d = 0)) :=
  ⟨⟨(upState), (0), by decide +kernel⟩,
   ⟨(upState), (0), (7), by decide +kernel⟩,
   ⟨(upState), (0), (3), by decide +kernel⟩,
   ⟨(upState.modProc 0 fun z => { z with status := 0x10#32 }), (0), by decide +kernel⟩,
   ⟨(upState), (0), by decide +kernel⟩,
   ⟨(((upState.modProc (0 : ProcId) fun z => { z with istack := (⟨0,0⟩ : StackEntry) :: ([] : List StackEntry) }).modProc (0 : ProcId) fun z => { z with serv := (none : Option Nat) :: ([] : List (Option Nat)) })), (0), (⟨0,0⟩), ([]), (none), ([]), by decide +kernel⟩,
   ⟨((upState.modProc (0 : ProcId) fun z => { z with istack := [] })), (0), by decide +kernel⟩,
   ⟨(((upState.setB F.SYSC_MODE.MODEACT (true)).setB (F.SYSC_MODE.DBGATT) (true))), (0), by decide +kernel⟩,
   ⟨((upState.setB F.SYSC_MODE.MODEACT (false))), (0), by decide +kernel⟩,
   ⟨((upState.setB (F.HQ_CFG.EN 0) true).setReg (R.HQ_ACL 0) 0xFFFFFFFF#32), (0), (0), by decide +kernel⟩,
   ⟨(((upState.setB (F.HQ_CFG.EN 0) true).setReg (R.HQ_ACL 0) 0xFFFFFFFF#32).setQueue 0 (List.replicate 16 0)), (0), (0), by decide +kernel⟩,
   ⟨(upState), (0), (0), by decide +kernel⟩,
   ⟨(((upState.setB (F.HQ_CFG.EN 8) true).setReg (R.HQ_ACL 8) 0xFFFFFFFF#32).setQueue 8 [7, 1]), (0), (2), (8), (7), ([1]), by decide +kernel⟩,
   ⟨((upState.setB (F.HQ_CFG.EN 8) true).setReg (R.HQ_ACL 8) 0xFFFFFFFF#32), (0), (30), (8), by decide +kernel⟩,
   ⟨(upState), (0), (1), by decide +kernel⟩⟩

theorem witness_EngineLaneInstructions :
    (∃ (s : State) (va : Vreg) (vb : Vreg), s.Executes 5 false true ∧ (∃ (l : Nat), l < 16 ∧ (if 2147483647 < BitVec.toInt (s.lane ↑va l) + BitVec.toInt (s.lane ↑vb l) then 2147483647 else if BitVec.toInt (s.lane ↑va l) + BitVec.toInt (s.lane ↑vb l) < -2147483648 then -2147483648 else BitVec.toInt (s.lane ↑va l) + BitVec.toInt (s.lane ↑vb l)) ≠ BitVec.toInt (s.lane ↑va l) + BitVec.toInt (s.lane ↑vb l))) ∧
    (∃ (s : State) (va : Vreg) (vb : Vreg), s.Executes 5 false true ∧ (∃ (l : Nat), l < 16 ∧ (if 2147483647 < BitVec.toInt (s.lane ↑va l) - BitVec.toInt (s.lane ↑vb l) then 2147483647 else if BitVec.toInt (s.lane ↑va l) - BitVec.toInt (s.lane ↑vb l) < -2147483648 then -2147483648 else BitVec.toInt (s.lane ↑va l) - BitVec.toInt (s.lane ↑vb l)) ≠ BitVec.toInt (s.lane ↑va l) - BitVec.toInt (s.lane ↑vb l))) ∧
    (∃ (s : State) (va : Vreg), s.Executes 5 false true ∧ (∃ (l : Nat), l < 16 ∧ (if 2147483647 < if BitVec.toInt (s.lane ↑va l) < 0 then -BitVec.toInt (s.lane ↑va l) else BitVec.toInt (s.lane ↑va l) then 2147483647 else if (if BitVec.toInt (s.lane ↑va l) < 0 then -BitVec.toInt (s.lane ↑va l) else BitVec.toInt (s.lane ↑va l)) < -2147483648 then -2147483648 else if BitVec.toInt (s.lane ↑va l) < 0 then -BitVec.toInt (s.lane ↑va l) else BitVec.toInt (s.lane ↑va l)) ≠ if BitVec.toInt (s.lane ↑va l) < 0 then -BitVec.toInt (s.lane ↑va l) else BitVec.toInt (s.lane ↑va l))) ∧
    (∃ (s : State) (va : Vreg), s.Executes 5 false true ∧ (∃ (l : Nat), l < 16 ∧ (if 2147483647 < -BitVec.toInt (s.lane ↑va l) then 2147483647 else if -BitVec.toInt (s.lane ↑va l) < -2147483648 then -2147483648 else -BitVec.toInt (s.lane ↑va l)) ≠ -BitVec.toInt (s.lane ↑va l))) ∧
    (∃ (s : State) (base : Fin 16) (w : BitVec 12), s.Executes 5 false true ∧ s.laneAddr ↑base w.toNat % 4 = 0 ∧ (s.laneAddr ↑base w.toNat + 64 ≤ 2 ^ 32) ∧ engReadOk (s.laneAddr ↑base w.toNat) 16 = true ∧ (∀ (l : Nat), l < 16 → s.isBad (s.laneAddr ↑base w.toNat + 4 * l) = false)) ∧
    (∃ (s : State) (base : Fin 16) (w : BitVec 12), s.Executes 5 false true ∧ s.laneAddr ↑base w.toNat % 4 = 0 ∧ (s.laneAddr ↑base w.toNat + 64 ≤ 2 ^ 32) ∧ engReadOk (s.laneAddr ↑base w.toNat) 1 = true ∧ s.isBad (s.laneAddr ↑base w.toNat) = false) ∧
    (∃ (s : State) (base : Fin 16) (w : BitVec 12), s.Executes 5 false true ∧ s.laneAddr ↑base w.toNat % 4 = 0 ∧ (s.laneAddr ↑base w.toNat + 64 ≤ 2 ^ 32) ∧ engWriteOk (s.laneAddr ↑base w.toNat) 16 = true) ∧
    (∃ (s : State) (base : Fin 16) (w : BitVec 12), s.Executes 5 false true ∧ s.laneAddr ↑base w.toNat % 4 = 0 ∧ (s.laneAddr ↑base w.toNat + 64 ≤ 2 ^ 32) ∧ engWriteOk (s.laneAddr ↑base w.toNat) 16 = false) ∧
    (∃ (s : State) (n : BitVec 8), s.Executes 5 false true ∧ (n.toNat + 15 < 256)) ∧
    (∃ (s : State) (d : Nat), (d < 256) ∧ bitAt (s.ldw (intAddr d)) 31 = false) ∧
    (∃ (s : State) (d : Nat) (e : Word), (d < 256) ∧ bitAt (s.ldw (intAddr d)) 31 = true ∧ (s.coefV (fld (s.ldw (intAddr d)) 29 16 + 2) ≤ BitVec.toInt (s.ldw (intAddr d + 4)) + BitVec.toInt (s.coefMul (fld (s.ldw (intAddr d)) 29 16 + 1) (BitVec.toInt e)).fst) ∧ (BitVec.toInt (s.ldw (intAddr d + 4)) + BitVec.toInt (s.coefMul (fld (s.ldw (intAddr d)) 29 16 + 1) (BitVec.toInt e)).fst ≤ s.coefV (fld (s.ldw (intAddr d)) 29 16 + 3))) ∧
    (∃ (s : State) (d : Nat) (e : Word), (d < 256) ∧ bitAt (s.ldw (intAddr d)) 31 = true ∧ (s.coefV (fld (s.ldw (intAddr d)) 29 16 + 3) < BitVec.toInt (s.ldw (intAddr d + 4)) + BitVec.toInt (s.coefMul (fld (s.ldw (intAddr d)) 29 16 + 1) (BitVec.toInt e)).fst)) ∧
    (∃ (s : State) (d : Nat) (e : Word), (d < 256) ∧ bitAt (s.ldw (intAddr d)) 31 = true ∧ (BitVec.toInt (s.ldw (intAddr d + 4)) + BitVec.toInt (s.coefMul (fld (s.ldw (intAddr d)) 29 16 + 1) (BitVec.toInt e)).fst < s.coefV (fld (s.ldw (intAddr d)) 29 16 + 2)) ∧ (BitVec.toInt (s.ldw (intAddr d + 4)) + BitVec.toInt (s.coefMul (fld (s.ldw (intAddr d)) 29 16 + 1) (BitVec.toInt e)).fst ≤ s.coefV (fld (s.ldw (intAddr d)) 29 16 + 3))) ∧
    (∃ (s : State) (g : Fin 4), s.Executes 5 false true ∧ ((s.retire 5).now + 64 * ((s.retire 5).outEntries fun (w : Word) => decide (fld w 31 28 = 1 ∧ fld w 27 26 = ↑g)).length < (s.retire 5).boundary (s.retire 5).tm.k + (s.retire 5).f (F.CE_POST.CUT ↑g) * 3200)) ∧
    (∃ (s : State) (g : Fin 4), s.Executes 5 false true ∧ ((s.retire 5).boundary (s.retire 5).tm.k + (s.retire 5).f (F.CE_POST.CUT ↑g) * 3200 ≤ (s.retire 5).now + 64) ∧ (((s.retire 5).outEntries fun (w : Word) => decide (fld w 31 28 = 1 ∧ fld w 27 26 = ↑g)) ≠ [])) ∧
    (∃ (s : State) (w0 : BitVec 32) (r : RegRow), s.Executes 5 false true ∧ s.on 6 = true ∧ (regRow? (1074266112 + fld w0 15 0) = some r)) :=
  ⟨⟨(upState.tCe fun z => { z with v := [(0, 0x7FFFFFFF#32), (16, 1#32)] }), (0), (1), by decide +kernel⟩,
   ⟨(upState.tCe fun z => { z with v := [(0, 0x80000000#32), (16, 1#32)] }), (0), (1), by decide +kernel⟩,
   ⟨(upState.tCe fun z => { z with v := [(15, 0x80000000#32)] }), (0), by decide +kernel⟩,
   ⟨(upState.tCe fun z => { z with v := [(0, 0x80000000#32)] }), (0), by decide +kernel⟩,
   ⟨((upState).setGpr 5 16 0x31040000#32), (0), (0), by decide +kernel⟩,
   ⟨((upState).setGpr 5 31 0x31064000#32), (15), (0xFFF), by decide +kernel⟩,
   ⟨((upState).setGpr 5 16 0x31068000#32), (0), (0), by decide +kernel⟩,
   ⟨(upState), (0), (0), by decide +kernel⟩,
   ⟨(upState), (0), by decide +kernel⟩,
   ⟨(upState), (0), by decide +kernel⟩,
   ⟨(((upState).stw 0x3107DFE0 0x80000000#32)), (255), (0), by decide +kernel⟩,
   ⟨(((((upState).stw 0x3107C000 0x80000000#32)).stw 0x3107C004 5#32)), (0), (0), by decide +kernel⟩,
   ⟨(((((upState).stw 0x3107C000 0x80000000#32)).stw 0x3107C004 0xFFFFFFFF#32)), (0), (0), by decide +kernel⟩,
   ⟨(upState.setF (F.CE_POST.CUT 0) 1), (0), by decide +kernel⟩,
   ⟨((((upState).stw 0x31074000 0x10000000#32)).setF F.CE_LISTS.NOUT 1), (0), by decide +kernel⟩,
   ⟨((upState.setB ⟨R.SYSC_PSTAT, 6, 6⟩ (true))), (0), (⟨1074266112, [], 0, 6, 1, 0, 0⟩), by decide +kernel⟩⟩

theorem witness_GeneralRegistersAndBanks :
    (∃ (r : Nat) (n : Nat), (1 ≤ r) ∧ (r < 32) ∧ (1 ≤ n) ∧ (n < 32)) ∧
    (∃ (r : Nat) (n : Nat), (24 ≤ r) ∧ (r < 32) ∧ (24 ≤ n) ∧ (n < 32)) ∧
    (∃ (n : Nat), (n < 24)) ∧
    (∃ (s : State) (p : Nat), ((s.proc p).istack.length < 16)) ∧
    (∃ (s : State) (p : Nat) (e : StackEntry) (l : List StackEntry) (x : Option Nat) (sv : List (Option Nat)), ((s.proc p).istack = e :: l) ∧ ((s.proc p).serv = x :: sv) ∧ ((s.setProc p { run := (s.proc p).run, dbgHalt := (s.proc p).dbgHalt, g := (s.proc p).g, gi := (s.proc p).gi, acc := (s.proc p).acc, pc := (s.proc p).pc, status := (s.proc p).status, istack := (s.proc p).istack, epc0 := (s.proc p).epc0, estat0 := (s.proc p).estat0, calls := (s.proc p).calls, loops := (s.proc p).loops, timed := (s.proc p).timed, hiThread := (s.proc p).hiThread, hiHandler := (s.proc p).hiHandler, latched := (s.proc p).latched, serv := none :: sv, diAt := (s.proc p).diAt, diDone := (s.proc p).diDone, entries := (s.proc p).entries, slot := (s.proc p).slot, slotEnd := (s.proc p).slotEnd, missed := (s.proc p).missed }).bestFor p (fld e.estat 3 0) = none)) :=
  ⟨⟨(1), (1), by decide +kernel⟩,
   ⟨(24), (31), by decide +kernel⟩,
   ⟨(0), by decide +kernel⟩,
   ⟨(upState), (0), by decide +kernel⟩,
   ⟨(((upState.modProc (0 : Nat) fun z => { z with istack := (⟨0,0⟩ : StackEntry) :: ([] : List StackEntry) }).modProc (0 : Nat) fun z => { z with serv := (none : Option Nat) :: ([] : List (Option Nat)) })), (0), (⟨0,0⟩), ([]), (none), ([]), by decide +kernel⟩⟩

theorem witness_ExceptionEntry :
    (∃ (s : State) (p : Nat) (cause : Nat) (r : Nat), (p < 5) ∧ (cause < 16) ∧ ((s.proc p).istack.length < 16) ∧ (r < 24)) ∧
    (∃ (s : State) (p : Nat), (p < 5) ∧ (16 ≤ (s.proc p).istack.length)) :=
  ⟨⟨(upState), (0), (0), (0), by decide +kernel⟩,
   ⟨(upState.modProc 0 fun z => { z with istack := List.replicate 16 ⟨0, 0⟩ }), (0), by decide +kernel⟩⟩

theorem witness_InterruptRoutingAndEntry :
    (∃ (s : State) (p : CoreId) (n : Nat), (s.proc ↑p).latched = some n ∧ s.takesInt ↑p = true ∧ s.bestFor ↑p (levelOf (s.proc ↑p)) = none ∧ s.isPending n = true ∧ ((s.proc ↑p).istack.length < 16)) ∧
    (∃ (s : State) (p : CoreId) (n : Nat), (s.proc ↑p).latched = some n ∧ s.takesInt ↑p = true ∧ s.bestFor ↑p (levelOf (s.proc ↑p)) = none ∧ s.isPending n = false) ∧
    (∃ (s : State), s.asserted 0 = true ∧ s.takesInt s.nmiProc = true ∧ (s.proc s.nmiProc).serv.contains (some 0) = false ∧ ((s.proc s.nmiProc).istack.length < 16)) ∧
    (∃ (s : State) (n : Fin 256), s.on 3 = true ∧ ↑n ≠ 0) :=
  ⟨⟨((((upState.setReg R.VIC_SWSRC 1#32).setB (F.VIC_SRC.EN 224) true).setF (F.VIC_SRC.PRIO 224) 1).modProc 0 fun z => { z with latched := some 224 }), (0), (224), by decide +kernel⟩,
   ⟨((upState.modProc (0 : CoreId) fun z => { z with latched := some (0 : Nat) })), (0), (0), by decide +kernel⟩,
   ⟨((upState.setF (F.FCU_REACT.REACT 5) 2).setB (fswField 5) true), by decide +kernel⟩,
   ⟨((upState.setB ⟨R.SYSC_PSTAT, 3, 3⟩ (true))), (1), by decide +kernel⟩⟩

theorem witness_HardwareQueueEnds :
    (∃ (s : State) (q : QueueId), hwProducer ↑q = true ∧ s.qOn ↑q = true ∧ ((s.queue ↑q).length < s.qCap ↑q)) ∧
    (∃ (s : State) (q : QueueId), hwProducer ↑q = true ∧ s.qOn ↑q = true ∧ (s.qCap ↑q ≤ (s.queue ↑q).length)) ∧
    (∃ (s : State) (q : QueueId), hwConsumer ↑q = true ∧ s.qOn ↑q = true ∧ (s.queue ↑q = [])) ∧
    (∃ (s : State) (q : QueueId) (e : DWord) (l : List DWord), hwConsumer ↑q = true ∧ s.qOn ↑q = true ∧ (s.queue ↑q = e :: l)) :=
  ⟨⟨((upState.setB (F.HQ_CFG.EN (8 : QueueId)) (true))), (8), by decide +kernel⟩,
   ⟨((upState.setB (F.HQ_CFG.EN 8) true).setQueue 8 (List.replicate 16 0)), (8), by decide +kernel⟩,
   ⟨(((upState.setB (F.HQ_CFG.EN (16 : QueueId)) (true)).setQueue (16 : QueueId) ([]))), (16), by decide +kernel⟩,
   ⟨(((upState.setB (F.HQ_CFG.EN (16 : QueueId)) (true)).setQueue (16 : QueueId) ((0 : DWord) :: ([] : List DWord)))), (16), (0), ([]), by decide +kernel⟩⟩

theorem witness_SemaphoresFlushesAndThresholds :
    (∃ (s : State) (req : Requester) (n : Fin 64), s.on 3 = true ∧ s.f (F.HQ_SEM.OWNER ↑n) = 15 ∧ semUser req = true) ∧
    (∃ (s : State) (n : Fin 64), s.on 3 = true ∧ s.f (F.HQ_SEM.OWNER ↑n) ≠ 15) ∧
    (∃ (s : State) (req : Requester) (n : Fin 64), s.on 3 = true ∧ s.f (F.HQ_SEM.OWNER ↑n) = reqIdx req) ∧
    (∃ (s : State) (req : Requester) (n : Fin 64), s.on 3 = true ∧ s.f (F.HQ_SEM.OWNER ↑n) ≠ reqIdx req) ∧
    (∃ (s : State) (q : QueueId), s.qOn ↑q = true) :=
  ⟨⟨(((upState.setB ⟨R.SYSC_PSTAT, 3, 3⟩ (true)).setF ((F.HQ_SEM.OWNER (0 : Fin 64))) (15))), (.pair), (0), by decide +kernel⟩,
   ⟨(((upState.setB ⟨R.SYSC_PSTAT, 3, 3⟩ (true)).setF ((F.HQ_SEM.OWNER (0 : Fin 64))) (1))), (0), by decide +kernel⟩,
   ⟨(((upState.setB ⟨R.SYSC_PSTAT, 3, 3⟩ (true)).setF ((F.HQ_SEM.OWNER (0 : Fin 64))) (reqIdx (.pair : Requester)))), (.pair), (0), by decide +kernel⟩,
   ⟨(((upState.setB ⟨R.SYSC_PSTAT, 3, 3⟩ (true)).setF ((F.HQ_SEM.OWNER (0 : Fin 64))) ((reqIdx (.pair : Requester))+1))), (.pair), (0), by decide +kernel⟩,
   ⟨((upState.setB (F.HQ_CFG.EN (0 : QueueId)) (true))), (0), by decide +kernel⟩⟩

theorem witness_SchedulerPassesAndCommands :
    (∃ (s : State), s.shareSplit.csOn = true ∧ s.shareSplit.cs.armDone = false) ∧
    (∃ (s : State), s.csOn = true ∧ s.cs.cadDone = false) ∧
    (∃ (s : State) (x : Nat), s.live = true ∧ s.on 6 = true ∧ (x < 2 ^ 64) ∧ s.cs.armEnd = some x ∧ s.cs.cadEnd = none) ∧
    (∃ (s : State) (x : Nat), s.live = true ∧ s.on 6 = true ∧ (x < 2 ^ 64) ∧ s.cs.cadEnd = some x ∧ s.cs.armEnd = none) ∧
    (∃ (s : State) (a : Fin 16), s.live = true ∧ s.on 6 = true ∧ (if s.fb (F.CS_ACFG.FOMFIX ↑a) = true then 1000 ≤ (s.arm ↑a).passes else s.ce.lineStart.testBit ↑a = true)) ∧
    (∃ (s : State) (op : BitVec 4), s.live = true ∧ s.on 6 = true ∧ (op.toNat = 0 ∨ 5 ≤ op.toNat)) ∧
    (∃ (s : State) (p : PortId), (tblGet (fun (_ : Nat) => 0) s.adm.dAdm p.idx + 8 * s.f F.LNK_MARGIN.M < BitVec.toNat (s.reg (R.LNK_DELAY p.idx)) % 2 ^ 24) ∧ (tblGet (fun (_ : Nat) => 0) s.adm.longCnt p.idx = 7)) ∧
    (∃ (s : State) (p : PortId), (tblGet (fun (_ : Nat) => 0) s.adm.dAdm p.idx + 8 * s.f F.LNK_MARGIN.M < BitVec.toNat (s.reg (R.LNK_DELAY p.idx)) % 2 ^ 24) ∧ (tblGet (fun (_ : Nat) => 0) s.adm.longCnt p.idx ≠ 7)) ∧
    (∃ (s : State) (p : PortId), (¬tblGet (fun (_ : Nat) => 0) s.adm.dAdm p.idx + 8 * s.f F.LNK_MARGIN.M < BitVec.toNat (s.reg (R.LNK_DELAY p.idx)) % 2 ^ 24)) :=
  ⟨⟨(upState), by decide +kernel⟩,
   ⟨((upState.tCs fun z => { z with cadDone := false })), by decide +kernel⟩,
   ⟨((((upState.setB ⟨R.SYSC_PSTAT, 6, 6⟩ (true)).tCs fun z => { z with armEnd := some (0 : Nat) }).tCs fun z => { z with cadEnd := none })), (0), by decide +kernel⟩,
   ⟨((((upState.setB ⟨R.SYSC_PSTAT, 6, 6⟩ (true)).tCs fun z => { z with cadEnd := some (0 : Nat) }).tCs fun z => { z with armEnd := none })), (0), by decide +kernel⟩,
   ⟨((upState.setB (F.CS_ACFG.FOMFIX 0) true).modArm 0 fun z => { z with passes := 1000 }), (0), by decide +kernel⟩,
   ⟨((upState.setB ⟨R.SYSC_PSTAT, 6, 6⟩ (true))), (0), by decide +kernel⟩,
   ⟨(((upState.setReg (R.LNK_DELAY 1) 1#32).setF F.LNK_MARGIN.M 0).tAdm fun z => { z with longCnt := [(1, 7)] }), (0), by decide +kernel⟩,
   ⟨((upState.setReg (R.LNK_DELAY 1) 1#32).setF F.LNK_MARGIN.M 0), (0), by decide +kernel⟩,
   ⟨(upState), (0), by decide +kernel⟩⟩

theorem witness_ContextTransitions :
    (∃ (s : State) (i : Nat) (b : Nat), (i < 128) ∧ (s.cst i = cActive ∨ s.cst i = cBypassed) ∧ (s.cell i).bypStart = some b ∧ s.bypBusy i = true ∧ (b + 2 ≤ s.tm.k) ∧ s.bypConfirmed i = false) ∧
    (∃ (s : State) (i : Nat), (i < 128) ∧ s.cst i ≠ cActive ∧ s.cst i ≠ cBypassed) ∧
    (∃ (s : State) (i : Nat) (j : Nat) (off : Nat), (i < 128) ∧ s.bypSeen i = true ∧ s.cst i = cActive ∧ s.bypBusy i = true ∧ (j < 128) ∧ j ≠ i ∧ (off < 2045)) ∧
    (∃ (s : State) (i : Nat), (i < 128) ∧ s.bypSeen i = false) ∧
    (∃ (s : State) (i : Nat) (j : Nat) (off : Nat), (i < 128) ∧ s.bypSeen i = true ∧ s.cst i = cFaulted ∧ (s.cell i).clear ≠ none ∧ s.fresh i 3 = true ∧ s.faultWord i = 0 ∧ (j < 128) ∧ j ≠ i ∧ (off < 2045)) ∧
    (∃ (s : State) (i : Nat) (j : Nat) (off : Nat), (i < 128) ∧ s.cst i = cBypassed ∧ s.pendRet i = true ∧ s.bypBusy i = false ∧ s.fresh i 3 = true ∧ s.faultWord i = 0 ∧ (j < 128) ∧ j ≠ i ∧ (off < 2045)) ∧
    (∃ (s : State) (i : Nat), (i < 128) ∧ (¬(s.cst i = cBypassed ∧ s.pendRet i = true ∧ s.bypBusy i = false ∧ s.fresh i 3 = true ∧ s.faultWord i = 0))) :=
  ⟨⟨((((upState.setCtx 1 0 0x303#32).modCell 1 fun z => { z with bypStart := some 0 }).tTm fun z => { z with k := 2 })), (1), (0), by decide +kernel⟩,
   ⟨(upState), (0), by decide +kernel⟩,
   ⟨(((upState.setCtx 1 0 0x303#32).setCtx 1 0x60 0x03100000#32)), (1), (127), (2044), by decide +kernel⟩,
   ⟨(upState), (1), by decide +kernel⟩,
   ⟨((((upState.setCtx 127 0 0x206#32).setCtx 127 0x60 0x03100000#32).modCell 127 fun z => { z with clear := some 0 })), (127), (2), (0), by decide +kernel⟩,
   ⟨((upState.setCtx 1 0 0x284#32)), (1), (2), (0), by decide +kernel⟩,
   ⟨(upState), (0), by decide +kernel⟩⟩

theorem witness_PeriodBoundary :
    (∃ (s : State), s.live = true ∧ s.on 1 = true ∧ s.tm.started = true ∧ s.f F.STM_PERIOD.P ≠ 0) ∧
    (∃ (s : State), s.tm.started = false) ∧
    (∃ (s : State) (k : Nat), (s.boundary k < 2 ^ 64)) ∧
    (∃ (s : State), s.on 6 = true) ∧
    (∃ (s : State) (a : Nat), (a < 16) ∧ s.f (F.CS_ACFG.FLTMAX a) ≠ 0 ∧ (s.f (F.CS_ACFG.FLTMAX a) < (List.filter (fun (i : Nat) => decide (s.cst i = cFaulted)) (s.members a)).length) ∧ (s.f (F.CS_ASTAT.NFLT a) ≤ s.f (F.CS_ACFG.FLTMAX a))) :=
  ⟨⟨((((upState.setB ⟨R.SYSC_PSTAT, 1, 1⟩ (true)).tTm fun z => { z with started := true }).setF (F.STM_PERIOD.P) (1))), by decide +kernel⟩,
   ⟨((upState.tTm fun z => { z with started := false })), by decide +kernel⟩,
   ⟨(upState), (0), by decide +kernel⟩,
   ⟨((upState.setB ⟨R.SYSC_PSTAT, 6, 6⟩ (true))), by decide +kernel⟩,
   ⟨(((upState.setF (F.CS_ACFG.FLTMAX 0) 1).setCtx 1 0 0x20006#32).setCtx 2 0 0x20006#32), (0), by decide +kernel⟩⟩

theorem witness_EngineSupervision :
    (∃ (s : State), s.ceOn = true ∧ s.ce.snapOpen = true ∧ s.ce.supDone = false) ∧
    (∃ (s0 : State) (n : Nat), bitAt (s0.ldw (fbAddr n)) 31 = false) ∧
    (∃ (s : State) (n : Nat), (n < 512) ∧ bitAt (s.ldw (fbAddr n)) 31 = true ∧ fld (s.ldw (fbAddr n + 4)) 22 16 = 0 ∧ (fbState (s.fb6 n) < 2) ∧ ((if absI (BitVec.toInt (s.ldw (inAddr (fld (s.ldw (fbAddr n)) 12 0))) - BitVec.toInt (s.fbPred n)) > (↑(s.ldn (fbAddr n + 8)) : Int) then min 255 (fbCnt (s.fb6 n) + 1) else 0) = 0)) ∧
    (∃ (s : State) (n : Nat), (n < 512) ∧ bitAt (s.ldw (fbAddr n)) 31 = true ∧ fld (s.ldw (fbAddr n + 4)) 22 16 = 0 ∧ (fbState (s.fb6 n) < 2) ∧ (0 < if absI (BitVec.toInt (s.ldw (inAddr (fld (s.ldw (fbAddr n)) 12 0))) - BitVec.toInt (s.fbPred n)) > (↑(s.ldn (fbAddr n + 8)) : Int) then min 255 (fbCnt (s.fb6 n) + 1) else 0) ∧ ((if absI (BitVec.toInt (s.ldw (inAddr (fld (s.ldw (fbAddr n)) 12 0))) - BitVec.toInt (s.fbPred n)) > (↑(s.ldn (fbAddr n + 8)) : Int) then min 255 (fbCnt (s.fb6 n) + 1) else 0) < fld (s.ldw (fbAddr n + 16)) 31 24)) ∧
    (∃ (s : State) (n : Fin 512), s.fbUsed ↑n = true ∧ (fbState (s.fb6 ↑n) < 2) ∧ (0 < fbCnt (s.fb6 ↑n)) ∧ (fld (s.ldw (fbAddr ↑n + 16)) 31 24 ≤ fbCnt (s.fb6 ↑n)) ∧ s.fbFrozenDue ↑n = false) ∧
    (∃ (s : State) (n : Fin 512), s.fbUsed ↑n = true ∧ (fbState (s.fb6 ↑n) < 3) ∧ s.fbFrozenDue ↑n = true) ∧
    (∃ (s : State) (n : Fin 512), s.fbUsed ↑n = true ∧ (fbState (s.fb6 ↑n) = 2 ∨ fbState (s.fb6 ↑n) = 3) ∧ (fld (s.ldw (fbAddr ↑n)) 25 13 ≤ fbCoast (s.fb6 ↑n))) ∧
    (∃ (s : State) (n : Fin 512), s.fbUsed ↑n = true ∧ (fbState (s.fb6 ↑n) = 2 ∨ fbState (s.fb6 ↑n) = 3) ∧ (0 < fbCnt (s.fb6 ↑n)) ∧ (fld (s.ldw (fbAddr ↑n + 16)) 15 8 ≤ fbCnt (s.fb6 ↑n))) ∧
    (∃ (s : State), s.live = true ∧ s.on 5 = true) :=
  ⟨⟨(((upState.tCe fun z => { z with snapOpen := true }).tCe fun z => { z with supDone := false })), by decide +kernel⟩,
   ⟨(upState), (0), by decide +kernel⟩,
   ⟨(((upState).stw (fbAddr 511) 0x80000000#32)), (511), by decide +kernel⟩,
   ⟨(((((((upState).stw (fbAddr 0) 0x80000000#32)).stw 0x31060000 5#32)).stw (fbAddr 0 + 16) 0x02000000#32)), (0), by decide +kernel⟩,
   ⟨((((((((((upState).stw (fbAddr 0) 0x80000000#32)).stw (fbAddr 0 + 24) 0x300#32)).stw (fbAddr 0 + 16) 0x03010000#32)).setB F.CE_CTRL.EN true).tCe fun z => { z with supDone := true, fbLive := [(0, true)] })), (0), by decide +kernel⟩,
   ⟨((((((upState).stw (fbAddr 0) 0x80000000#32)).setB F.CE_CTRL.EN true).tCe fun z => { z with supDone := true, fbLive := [(0, true)] })), (0), by decide +kernel⟩,
   ⟨((((((((upState).stw (fbAddr 0) 0x80000000#32)).stw (fbAddr 0 + 24) 0x40000000#32)).setB F.CE_CTRL.EN true).tCe fun z => { z with supDone := true, fbLive := [(0, true)] })), (0), by decide +kernel⟩,
   ⟨((((((((((upState).stw (fbAddr 0) 0x80000000#32)).stw (fbAddr 0 + 24) 0x60000500#32)).stw (fbAddr 0 + 16) 0x00000500#32)).setB F.CE_CTRL.EN true).tCe fun z => { z with supDone := true, fbLive := [(0, true)] })), (0), by decide +kernel⟩,
   ⟨((upState.setB ⟨R.SYSC_PSTAT, 5, 5⟩ (true))), by decide +kernel⟩⟩

theorem witness_EnginePeriodAndPrograms :
    (∃ (s : State) (slot : Fin 8) (r : ProgramRec), (List.find? (fun (r : ProgramRec) => decide (r.proc = 5 ∧ r.slot = ↑slot)) s.adm.progs = some r) ∧ s.ceOn = true ∧ s.admitted = true ∧ s.ce.supDone = true ∧ s.ce.swapNow = false ∧ s.ce.slot = none ∧ (¬↑slot ∈ s.ce.ran) ∧ s.tm.k % r.mult = r.phase) ∧
    (∃ (s : State) (j : Nat), s.ce.slot = some j ∧ s.ceOn = true) ∧
    (∃ (s : State), s.ceOn = true ∧ s.ce.supDone = true ∧ s.ce.windowDone = false) ∧
    (∃ (s : State) (g : Fin 8), s.fb (F.CE_RAMP.ZERO ↑g) = false ∧ s.fb (F.CE_RAMP.ACTIVE ↑g) = true ∧ (0 < s.f (F.CE_RAMP.RAMPN ↑g)) ∧ (s.f (F.CE_RAMP.RAMPN ↑g) ≤ tblGet (fun (_ : Nat) => 0) s.ce.rampJ ↑g + 1)) ∧
    (∃ (s : State) (g : Fin 8), s.fb (F.CE_RAMP.ZERO ↑g) = false ∧ s.fb (F.CE_RAMP.ACTIVE ↑g) = true ∧ (0 < s.f (F.CE_RAMP.RAMPN ↑g)) ∧ (tblGet (fun (_ : Nat) => 0) s.ce.rampJ ↑g + 1 < s.f (F.CE_RAMP.RAMPN ↑g))) ∧
    (∃ (s : State) (n : Fin 4), s.fb (F.CE_TRKCFG.EN ↑n) = true ∧ s.fb (F.CE_TRKCFG.MODE ↑n) = true ∧ ((↑(BitVec.toNat (s.reg (R.CE_TRKTHETA ↑n))) : Int) + ((↑(BitVec.toNat (s.reg (R.CE_TRKW0 ↑n))) : Int) + if BitVec.toInt (s.ldw (stateAddr (s.f (F.CE_TRKADDR.WADDR ↑n)))) < s.coefV (s.f (F.CE_TRKCFG.KADDR ↑n) + 2) then s.coefV (s.f (F.CE_TRKCFG.KADDR ↑n) + 2) else if s.coefV (s.f (F.CE_TRKCFG.KADDR ↑n) + 3) < BitVec.toInt (s.ldw (stateAddr (s.f (F.CE_TRKADDR.WADDR ↑n)))) then s.coefV (s.f (F.CE_TRKCFG.KADDR ↑n) + 3) else BitVec.toInt (s.ldw (stateAddr (s.f (F.CE_TRKADDR.WADDR ↑n))))) < 2 ^ 32)) ∧
    (∃ (s : State), s.ceOn = true ∧ s.ce.supDone = true ∧ s.ce.swapNow = true) ∧
    (∃ (s : State) (d : Nat), (d < 256) ∧ fld (s.ldw (intAddr d)) 31 30 = 3) ∧
    (∃ (s : State) (g : Fin 8), s.live = true ∧ s.on 5 = true ∧ s.fb (F.CE_RAMP.ZERO ↑g) = true) ∧
    (∃ (s : State) (g : Fin 8), s.live = true ∧ s.on 5 = true ∧ s.fb (F.CE_RAMP.ZERO ↑g) = false ∧ s.fb (F.CE_RAMP.ACTIVE ↑g) = true) :=
  ⟨⟨(((upState.setB F.ADM_STATUS.ADMITTED true).tAdm fun z => { z with progs := [⟨5, 0, 1, 0, 0, 0, 0, 0, 0, 0⟩] }).tCe fun z => { z with supDone := true }), (0), (⟨5, 0, 1, 0, 0, 0, 0, 0, 0, 0⟩), by decide +kernel⟩,
   ⟨((upState.tCe fun z => { z with slot := some (0 : Nat) })), (0), by decide +kernel⟩,
   ⟨(((upState.tCe fun z => { z with supDone := true }).tCe fun z => { z with windowDone := false })), by decide +kernel⟩,
   ⟨((((upState.setB ((F.CE_RAMP.ZERO (0 : Fin 8))) (false)).setB ((F.CE_RAMP.ACTIVE (0 : Fin 8))) (true)).setF ((F.CE_RAMP.RAMPN (0 : Fin 8))) ((0)+1))), (0), by decide +kernel⟩,
   ⟨((upState.setB (F.CE_RAMP.ACTIVE 0) true).setF (F.CE_RAMP.RAMPN 0) 5), (0), by decide +kernel⟩,
   ⟨(((upState.setB ((F.CE_TRKCFG.EN (0 : Fin 4))) (true)).setB ((F.CE_TRKCFG.MODE (0 : Fin 4))) (true))), (0), by decide +kernel⟩,
   ⟨(((upState.tCe fun z => { z with supDone := true }).tCe fun z => { z with swapNow := true })), by decide +kernel⟩,
   ⟨(((upState).stw (intAddr 0) 0xC0000000#32)), (0), by decide +kernel⟩,
   ⟨(((upState.setB ⟨R.SYSC_PSTAT, 5, 5⟩ (true)).setB ((F.CE_RAMP.ZERO (0 : Fin 8))) (true))), (0), by decide +kernel⟩,
   ⟨((((upState.setB ⟨R.SYSC_PSTAT, 5, 5⟩ (true)).setB ((F.CE_RAMP.ZERO (0 : Fin 8))) (false)).setB ((F.CE_RAMP.ACTIVE (0 : Fin 8))) (true))), (0), by decide +kernel⟩⟩

theorem witness_EngineMemoryLoadsAndParity :
    (∃ (s : State), s.live = true ∧ s.on 5 = true ∧ s.fb F.CE_BANK.LOADBUSY = true) ∧
    (∃ (s : State), s.live = true ∧ s.on 5 = true ∧ s.fb F.CE_BANK.LOADBUSY = false) ∧
    (∃ (s : State) (first : Nat) (last : Nat), (s.ce.load = some (first, last)) ∧ s.live = true ∧ s.on 5 = true ∧ (first ≤ last) ∧ (last < 16384) ∧ (s.activeBank ≤ 1) ∧ (s.masterAddr (1 - s.activeBank) last + 8 ≤ 822083584)) ∧
    (∃ (s : State), s.live = true ∧ s.on 5 = true ∧ s.ceOn = true ∧ s.ce.snapOpen = true ∧ (s.now < s.ceTime s.tSnap)) ∧
    (∃ (s : State), s.live = true ∧ s.on 5 = true ∧ (s.ce.held = []) ∧ s.ce.snapOpen = false) ∧
    (∃ (s : State) (p : CoreId) (tb : Fin 64), s.canRun ↑p = true ∧ s.on 5 = true ∧ s.angleOpen ↑tb = true) ∧
    (∃ (s : State) (p : CoreId) (tb : Fin 64), s.canRun ↑p = true ∧ s.on 5 = true ∧ s.angleOpen ↑tb = false) ∧
    (∃ (s : State) (off : Fin 524288), s.live = true ∧ s.on 5 = true ∧ (262144 ≤ ↑off)) ∧
    (∃ (s : State) (off : Fin 524288), s.live = true ∧ s.on 5 = true ∧ (↑off < 262144)) ∧
    (∃ (s : State) (p : ProcId) (addr : Word), s.canRun ↑p = true ∧ (s.restorable ↑p (physAddr ↑p (BitVec.toNat addr) / 4 * 4) = true)) ∧
    (∃ (s : State) (p : ProcId) (addr : Word), s.canRun ↑p = true ∧ (s.restorable ↑p (physAddr ↑p (BitVec.toNat addr) / 4 * 4) = false) ∧ (regionOf (physAddr ↑p (BitVec.toNat addr) / 4 * 4) ≠ Region.context)) ∧
    (∃ (s : State) (p : Nat) (a : Nat), (s.fcu.restoring = some (p, a)) ∧ s.live = true ∧ regionOf a = Region.context ∧ a % 4 = 0) :=
  ⟨⟨(((upState.setB ⟨R.SYSC_PSTAT, 5, 5⟩ (true)).setB (F.CE_BANK.LOADBUSY) (true))), by decide +kernel⟩,
   ⟨(((upState.setB ⟨R.SYSC_PSTAT, 5, 5⟩ (true)).setB (F.CE_BANK.LOADBUSY) (false))), by decide +kernel⟩,
   ⟨(((upState.tCe fun z => { z with load := some ((0 : Nat), (0 : Nat)) }).setB ⟨R.SYSC_PSTAT, 5, 5⟩ (true))), (0), (0), by decide +kernel⟩,
   ⟨(((upState.setB ⟨R.SYSC_PSTAT, 5, 5⟩ (true)).tCe fun z => { z with snapOpen := true })), by decide +kernel⟩,
   ⟨((((upState.setB ⟨R.SYSC_PSTAT, 5, 5⟩ (true)).tCe fun z => { z with held := [] }).tCe fun z => { z with snapOpen := false })), by decide +kernel⟩,
   ⟨((upState.setB ⟨R.SYSC_PSTAT, 5, 5⟩ (true))), (0), (0), by decide +kernel⟩,
   ⟨(((upState.setB F.ADM_STATUS.ADMITTED true).tAdm fun z => { z with progs := [⟨5, 0, 1, 0, 0, 0, 0, 0, 0, 0⟩] })), (0), (63), by decide +kernel⟩,
   ⟨((upState.setB ⟨R.SYSC_PSTAT, 5, 5⟩ (true))), (262144), by decide +kernel⟩,
   ⟨((upState.setB ⟨R.SYSC_PSTAT, 5, 5⟩ (true))), (0), by decide +kernel⟩,
   ⟨(((upState.setB F.RNG_STATUS.JOINED true).setB F.RNG_TOPO.BUDDYV true)), (0), (0x30000000), by decide +kernel⟩,
   ⟨(upState), (0), (0), by decide +kernel⟩,
   ⟨(upState.tFcu fun z => { z with restoring := some (0, 0x30000000) }), (0), (0x30000000), by decide +kernel⟩⟩

theorem witness_AdmissionAndUnload :
    (∃ (s : State), s.adm.request = none ∧ s.canRun 0 = true ∧ s.grave = false ∧ s.fb F.RNG_STATUS.OBSERVER = false ∧ s.fb F.ADM_STATUS.BUSY = false ∧ s.admitted = false ∧ s.fb F.ADM_STATUS.UNLOADING = false ∧ s.on 3 = true) ∧
    (∃ (s : State) (desc : Nat), s.adm.request = some desc ∧ s.live = true ∧ s.on 3 = true ∧ s.adm.result = none) ∧
    (∃ (s : State) (desc : Nat), s.adm.request = some desc ∧ s.live = true ∧ s.on 3 = true ∧ s.adm.lockPend = true ∧ s.tm.k ≠ s.adm.lockK) ∧
    (∃ (s : State) (i : Nat), (i < 128) ∧ s.admitted = true ∧ s.cst i = cDiscovered ∧ s.ctxMatches i = true ∧ ((s.cell i).otherDrives ≠ some (s.tm.k - 1))) ∧
    (∃ (s : State) (i : Nat), (i < 128) ∧ (s.admitted = false ∨ s.cst i ≠ cDiscovered ∨ s.ctxMatches i = false ∨ (s.cell i).otherDrives = some (s.tm.k - 1))) ∧
    (∃ (s : State) (desc : Nat) (r : AdmResult), s.adm.request = some desc ∧ s.adm.result = some r ∧ s.live = true ∧ s.on 3 = true ∧ s.adm.lockPend = false) ∧
    (∃ (s : State), s.live = true ∧ s.on 3 = true ∧ s.adm.unloadReq = true ∧ s.fb F.ADM_STATUS.UNLOADING = false) ∧
    (∃ (s : State), s.live = true ∧ s.fb F.ADM_STATUS.UNLOADING = true ∧ s.tm.k ≠ s.adm.unloadK ∧ s.on 6 = true) :=
  ⟨⟨(((((((upState.tAdm fun z => { z with request := none }).setB (F.RNG_STATUS.OBSERVER) (false)).setB (F.ADM_STATUS.BUSY) (false)).setB F.ADM_STATUS.ADMITTED (false)).setB (F.ADM_STATUS.UNLOADING) (false)).setB ⟨R.SYSC_PSTAT, 3, 3⟩ (true))), by decide +kernel⟩,
   ⟨((((upState.tAdm fun z => { z with request := some (0 : Nat) }).setB ⟨R.SYSC_PSTAT, 3, 3⟩ (true)).tAdm fun z => { z with result := none })), (0), by decide +kernel⟩,
   ⟨((upState.tAdm fun z => { z with request := some 0, lockPend := true }).tTm fun z => { z with k := 1 }), (0), by decide +kernel⟩,
   ⟨(((((upState.setB F.ADM_STATUS.ADMITTED true).setCst 1 1).setReg (R.LNK_CAP 1 0) 0x02404000#32).setF (F.LNK_PSTAT.LSTATE 1) 3).tAdm fun z => { z with cells := [(1, 0x80000001#32)] }), (1), by decide +kernel⟩,
   ⟨((upState.setB F.ADM_STATUS.ADMITTED (false))), (0), by decide +kernel⟩,
   ⟨(upState.tAdm fun z => { z with request := some 0, result := some {} }), (0), ({}), by decide +kernel⟩,
   ⟨((((upState.setB ⟨R.SYSC_PSTAT, 3, 3⟩ (true)).tAdm fun z => { z with unloadReq := true }).setB (F.ADM_STATUS.UNLOADING) (false))), by decide +kernel⟩,
   ⟨((upState.setB F.ADM_STATUS.UNLOADING true).tTm fun z => { z with k := 1 }), by decide +kernel⟩⟩

theorem witness_DispatchAndPolicing :
    (∃ (s : State) (q : CoreId) (slot : Fin 8) (r : ProgramRec) (d : Nat × Nat × Nat), s.progRec ↑q ↑slot = some r ∧ (List.find? (fun (d : Nat × Nat × Nat) => decide (d.fst = ↑q ∧ d.snd.fst = ↑slot)) s.adm.due = some d) ∧ s.admitted = true ∧ s.canRun ↑q = true ∧ (s.proc ↑q).slot = none ∧ ((s.proc ↑q).istack = []) ∧ (s.boundary d.snd.snd + r.start * 64 + s.periodTicks < s.now)) ∧
    (∃ (s : State) (q : CoreId) (slot : Fin 8) (r : ProgramRec) (d : Nat × Nat × Nat), s.progRec ↑q ↑slot = some r ∧ (List.find? (fun (d : Nat × Nat × Nat) => decide (d.fst = ↑q ∧ d.snd.fst = ↑slot)) s.adm.due = some d) ∧ s.admitted = true ∧ s.canRun ↑q = true ∧ (s.proc ↑q).slot = none ∧ ((s.proc ↑q).istack = []) ∧ (s.now ≤ s.boundary d.snd.snd + r.start * 64 + s.periodTicks) ∧ (s.boundary d.snd.snd + r.start * 64 < 2 ^ 64)) ∧
    (∃ (s : State) (q : CoreId) (slot : Fin 8), s.admitted = true ∧ s.live = true ∧ (s.proc ↑q).slot = some ↑slot ∧ (s.proc ↑q).missed = false ∧ ((s.proc ↑q).slotEnd < 2 ^ 64)) ∧
    (∃ (s : State) (q : CoreId) (r : Nat), (s.proc ↑q).diAt = some r ∧ s.live = true ∧ s.on (procDom ↑q) = true ∧ ieOf (s.proc ↑q) = false) :=
  ⟨⟨((((upState.setB F.ADM_STATUS.ADMITTED true).tAdm fun z => { z with progs := [⟨0, 0, 1, 0, 0, 0, 0, 0, 0, 0⟩], due := [(0, 0, 0)] }).tTm fun z => { z with count := 640001 })), (0), (0), (⟨0, 0, 1, 0, 0, 0, 0, 0, 0, 0⟩), ((0, 0, 0)), by decide +kernel⟩,
   ⟨((((upState.setB F.ADM_STATUS.ADMITTED true).tAdm fun z => { z with progs := [⟨0, 0, 1, 0, 0, 0, 0, 0, 0, 0⟩], due := [(0, 0, 0)] }).tTm fun z => { z with count := 640000 })), (0), (0), (⟨0, 0, 1, 0, 0, 0, 0, 0, 0, 0⟩), ((0, 0, 0)), by decide +kernel⟩,
   ⟨((((upState.setB F.ADM_STATUS.ADMITTED (true)).modProc (0 : CoreId) fun z => { z with slot := some (0 : Fin 8) }).modProc (0 : CoreId) fun z => { z with missed := false })), (0), (0), by decide +kernel⟩,
   ⟨(((upState.modProc (0 : CoreId) fun z => { z with diAt := some (0 : Nat) }).setB ⟨R.SYSC_PSTAT, (procDom (0 : CoreId)), (procDom (0 : CoreId))⟩ (true))), (0), (0), by decide +kernel⟩⟩

theorem witness_RingPortsSlotsAndLosses :
    (∃ (s : State), s.queueSafety.rngOn = true ∧ s.queueSafety.timeValid = true ∧ (s.queueSafety.ring.slot < s.queueSafety.f F.STM_PERIOD.P / 32)) ∧
    (∃ (s : State) (b : Bool), s.rpEn b = true ∧ s.f (rpField b) ≠ 2 ∧ s.fb F.RNG_TOPO.BRKV = false) ∧
    (∃ (s : State) (b : Bool), s.rpUp b = true ∧ s.rngJoined = false) ∧
    (∃ (s : State) (b : Bool), s.rpUp b = true ∧ s.rngJoined = true) ∧
    (∃ (s : State) (b : Bool) (m : RingMsg), s.rpEn b = true ∧ ((s.rp b).kept.getLast? = some (m, false))) ∧
    (∃ (s : State) (b : Bool) (m : RingMsg), s.rpEn b = true ∧ ((s.rp b).kept.getLast? = some (m, true))) ∧
    (∃ (s : State) (b : Bool), s.rngOn = true ∧ (s.rp b).lossNow = true) ∧
    (∃ (s : State) (b : Bool), s.rngOn = true ∧ (s.rp b).lossNow = false) ∧
    (∃ (s : State), s.rngOn = true ∧ s.rngJoined = true) ∧
    (∃ (s : State) (u : Nat), s.fb F.RNG_TOPO.BRKV = false ∧ (u < 64)) ∧
    (∃ (s : State), s.on 9 = true ∧ s.rngOn = true ∧ s.fb F.RNG_MTXCTL.PEND = false) :=
  ⟨⟨(upState), by decide +kernel⟩,
   ⟨(((upState.setF ((rpField (false : Bool))) (1)).setB (F.RNG_TOPO.BRKV) (false))), (false), by decide +kernel⟩,
   ⟨(((upState.setF (rpField (false : Bool)) 2).setB F.RNG_STATUS.JOINED (false))), (false), by decide +kernel⟩,
   ⟨(((upState.setF (rpField (false : Bool)) 2).setB F.RNG_STATUS.JOINED (true))), (false), by decide +kernel⟩,
   ⟨(upState.modRp false fun z => { z with kept := [(.notice 1 [], false)] }), (false), (.notice 1 []), by decide +kernel⟩,
   ⟨(upState.modRp true fun z => { z with kept := [(.frame [0], true)] }), (true), (.frame [0]), by decide +kernel⟩,
   ⟨(upState.modRp false fun z => { z with lossNow := true }), (false), by decide +kernel⟩,
   ⟨(upState), (false), by decide +kernel⟩,
   ⟨((upState.setB F.RNG_STATUS.JOINED (true))), by decide +kernel⟩,
   ⟨((upState.setB (F.RNG_TOPO.BRKV) (false))), (0), by decide +kernel⟩,
   ⟨(((upState.setB ⟨R.SYSC_PSTAT, 9, 9⟩ (true)).setB (F.RNG_MTXCTL.PEND) (false))), by decide +kernel⟩⟩

theorem witness_RingFramesReceived :
    (∃ (s : State) (f : List Word), s.rngOn = true ∧ s.rngJoined = true ∧ fSrc f ≠ s.pos ∧ (s.hear f).snd = true) ∧
    (∃ (s : State) (f : List Word), fClass f = 2 ∧ (s.hear f).snd = true ∧ (s.hear f).fst.fromMaster f = true ∧ (s.hear f).fst.rngJoined = true ∧ fld (fWord f 3) 7 0 = 0 ∧ fK f = BitVec.ofNat 32 (s.hear f).fst.tm.k ∧ fld (fWord f 4) 31 26 = (s.hear f).fst.pos) ∧
    (∃ (s : State) (f : List Word), fClass f = 3 ∧ (s.hear f).snd = true ∧ (s.hear f).fst.rngJoined = true ∧ (s.hear f).fst.forMe f = true ∧ fSrc f = (s.hear f).fst.f F.RNG_TOPO.BUDDYPOS ∧ (s.hear f).fst.fb F.RNG_TOPO.BUDDYV = true ∧ fK f = BitVec.ofNat 32 (s.hear f).fst.tm.k ∧ (s.hear f).fst.on 6 = true) ∧
    (∃ (s : State) (f : List Word), fClass f = 5 ∧ fld (fWord f 3) 31 24 = 32 ∧ (s.hear f).snd = true ∧ (s.hear f).fst.on 6 = true ∧ (∀ (n : Nat), n < 12 → 1 ≤ n → fWord f (4 + n) = 0)) ∧
    (∃ (s : State) (f : List Word), (s.hear f).snd = true ∧ (s.hear f).fst.forMe f = true ∧ fClass f = 5 ∧ fld (fWord f 3) 31 24 ≠ 32 ∧ fld (fWord f 3) 31 24 ≠ 64 ∧ fld (fWord f 3) 31 24 ≠ 65 ∧ (s.hear f).fst.qOn 12 = true ∧ (((s.hear f).fst.queue 12).length + 8 ≤ (s.hear f).fst.qCap 12)) ∧
    (∃ (s : State) (f : List Word), (s.hear f).snd = true ∧ (s.hear f).fst.forMe f = true ∧ fClass f = 6 ∧ (s.hear f).fst.qOn 13 = true ∧ (((s.hear f).fst.queue 13).length + 8 ≤ (s.hear f).fst.qCap 13)) ∧
    (∃ (s : State) (b : Bool) (f : List Word), s.rpUp b = true ∧ fClass f = 7) ∧
    (∃ (s : State) (b : Bool) (f : List Word), s.rpUp b = true ∧ fClass f = 1 ∧ s.rngJoined = true ∧ fSrc f = s.pos) ∧
    (∃ (s : State) (b : Bool) (f : List Word), s.rpUp b = true ∧ fClass f = 1 ∧ (s.rngJoined = false ∨ fSrc f ≠ s.pos) ∧ ((s.hear f).fst.follows = false ∨ (s.hear f).fst.fromMaster f = false)) ∧
    (∃ (s : State) (b : Bool) (f : List Word), s.rpUp b = true ∧ fClass f = 1 ∧ (s.rngJoined = false ∨ fSrc f ≠ s.pos) ∧ (s.hear f).fst.follows = true ∧ (s.hear f).fst.fromMaster f = true ∧ fWord f 11 = 0 ∧ fWord f 13 = 0) :=
  ⟨⟨((upState.setB F.RNG_STATUS.JOINED true)), ([0x20400000#32]), by decide +kernel⟩,
   ⟨((upState.setB F.RNG_STATUS.JOINED true)), ([0x20402000#32]), by decide +kernel⟩,
   ⟨((((upState.setB F.RNG_STATUS.JOINED true).setF F.RNG_TOPO.BUDDYPOS 1).setB F.RNG_TOPO.BUDDYV true)), ([0x30400000#32]), by decide +kernel⟩,
   ⟨((upState.setB F.RNG_STATUS.JOINED true)), ([0x50400000#32, 0#32, 0#32, 0x20000000#32]), by decide +kernel⟩,
   ⟨(((upState.setB F.RNG_STATUS.JOINED true).setB (F.HQ_CFG.EN 12) true)), ([0x50400000#32]), by decide +kernel⟩,
   ⟨(((upState.setB F.RNG_STATUS.JOINED true).setB (F.HQ_CFG.EN 13) true)), ([0x60400000#32]), by decide +kernel⟩,
   ⟨(upState.setF F.RNG_STATUS.PASTATE 2), (false), ([0x70400000#32]), by decide +kernel⟩,
   ⟨(((upState.setB F.RNG_STATUS.JOINED true).setF F.RNG_STATUS.PASTATE 2)), (false), ([0x10000000#32]), by decide +kernel⟩,
   ⟨(((upState.setB F.RNG_STATUS.JOINED true).setF F.RNG_STATUS.PBSTATE 2)), (true), ([0x10400000#32]), by decide +kernel⟩,
   ⟨(((((upState.setB F.RNG_STATUS.JOINED true).setF F.RNG_STATUS.PASTATE 2).setB F.STM_STATUS.JOINED true).setF F.RNG_STATUS.ROLE 3)), (false), ([0x10402000#32]), by decide +kernel⟩⟩

theorem witness_RingRolesTakeoverAndHandover :
    (∃ (s : State), s.rngOn = true ∧ s.rngJoined = false ∧ s.grave = false ∧ s.isMaster = false) ∧
    (∃ (s : State) (serial : BitVec 48) (m : Nat), s.rngOn = true ∧ s.rngJoined = true ∧ s.isMaster = true ∧ s.fb F.RNG_STATUS.CONFLICT = false ∧ (m < 64) ∧ (List.find? (fun (m : Nat) => decide (s.posSerial m = serial.toNat)) (List.filter (fun (m : Nat) => s.fb (F.RNG_POS.VALID m)) (List.range 64)) = some m)) ∧
    (∃ (s : State) (g : Grant), s.rngOn = true ∧ s.ring.joining = true ∧ s.rngJoined = false ∧ g.refused = true) ∧
    (∃ (s : State) (g : Grant), s.rngOn = true ∧ s.ring.joining = true ∧ s.rngJoined = false ∧ g.refused = false ∧ g.plans = false) ∧
    (∃ (s : State) (g : Grant), s.rngOn = true ∧ s.ring.joining = true ∧ s.rngJoined = false ∧ g.refused = false ∧ g.plans = true ∧ s.f (F.FCU_REACT.REACT 20) ≠ 4) ∧
    (∃ (s : State), s.on 9 = true ∧ s.roleFree = true ∧ s.rngJoined = false) ∧
    (∃ (s : State) (r : Nat), (r < 4) ∧ s.timeValid = false) ∧
    (∃ (s : State), s.rngOn = true ∧ s.rngJoined = true ∧ s.drivesCells = true) ∧
    (∃ (s : State), s.rngOn = true ∧ s.rngJoined = true ∧ s.drivesCells = false) ∧
    (∃ (s : State), s.rngOn = true ∧ s.rngJoined = true ∧ s.fb F.RNG_TOPO.BUDDYV = true ∧ s.fb F.RNG_STATUS.BUDDYLOST = false ∧ (2 ≤ s.f F.RNG_ESCSTAT.MISSCONS) ∧ (2 ≤ s.ring.buddySilent) ∧ s.ring.ho = none ∧ s.adm.escrowEmpty = true ∧ s.f F.RNG_STATUS.ROLE = 2 ∧ s.timeValid = false) ∧
    (∃ (s : State) (cell : Fin 64), s.rngOn = true ∧ ↑cell ≠ 0 ∧ s.rngJoined = true ∧ s.cst (↑cell + 64) = cEscrowed ∧ s.recDrives (↑cell + 64) = true ∧ s.takeOf (↑cell + 64) = none) ∧
    (∃ (s : State) (cell : Fin 64) (d : Nat), s.rngOn = true ∧ ↑cell ≠ 0 ∧ (s.cell ↑cell).offerK = some d) ∧
    (∃ (s : State) (p : PortId) (tb : BitVec 16) (r : TakeRec), s.rngOn = true ∧ s.takeOf p.idx = some r ∧ s.boundary r.tb % 65536 = tb.toNat ∧ r.acked = false) ∧
    (∃ (s : State), s.rngOn = true ∧ s.fb F.RNG_HOSTAT.BUSY = true) ∧
    (∃ (s : State) (cell : Fin 64) (back : Bool), s.rngOn = true ∧ s.fb F.RNG_HOSTAT.BUSY = false ∧ s.buddyHere = true ∧ s.fb F.RNG_STATUS.NOBUDDY = false ∧ s.hoRefusal back back ↑cell = 0) ∧
    (∃ (s : State) (h : Handover), s.ring.ho = some h ∧ s.rngOn = true ∧ h.mine = true ∧ s.f F.RNG_HOSTAT.PHASE = 1) ∧
    (∃ (s : State) (h : Handover) (r : BitVec 8), s.ring.ho = some h ∧ s.rngOn = true ∧ h.mine = true ∧ h.sent = true ∧ h.accepted = false ∧ r ≠ 0) ∧
    (∃ (s : State) (r : Nat), (r < 16) ∧ s.fb F.STM_STATUS.THANDOVER = false) ∧
    (∃ (s : State) (back : Bool) (cell : Fin 64), s.rngOn = true ∧ s.rngJoined = true ∧ s.ring.ho = none ∧ s.buddyHere = true ∧ s.fb F.RNG_STATUS.OBSERVER = false ∧ s.hoRefusal (!back) back ↑cell = 0) ∧
    (∃ (s : State), s.live = true ∧ s.tm.takeBack = true ∧ (64 ≤ s.tm.okPeriods) ∧ s.fb F.STM_STATUS.DRIFTBAD = false ∧ s.f F.CLK_STATUS.SRC ≠ 3) :=
  ⟨⟨(((upState.setB F.RNG_STATUS.JOINED (false)).setF F.RNG_STATUS.ROLE 3)), by decide +kernel⟩,
   ⟨((((upState.setB F.RNG_STATUS.JOINED true).setF F.RNG_STATUS.ROLE 1).setB (F.RNG_POS.VALID 63) true)), (0), (63), by decide +kernel⟩,
   ⟨(upState.tRing fun z => { z with joining := true }), (⟨true, 1, false, false, 2, 10000, 0, 0, 0, false⟩), by decide +kernel⟩,
   ⟨(upState.tRing fun z => { z with joining := true }), (⟨false, 1, false, false, 2, 10000, 0, 0, 0, false⟩), by decide +kernel⟩,
   ⟨(upState.tRing fun z => { z with joining := true }), (⟨false, 1, false, false, 2, 10000, 0, 0, 0, true⟩), by decide +kernel⟩,
   ⟨(((upState.setB ⟨R.SYSC_PSTAT, 9, 9⟩ (true)).setB F.RNG_STATUS.JOINED (false))), by decide +kernel⟩,
   ⟨((upState.setB F.CLK_STATUS.LOCKED (false))), (0), by decide +kernel⟩,
   ⟨(((upState.setB F.RNG_STATUS.JOINED true).setCst 127 3)), by decide +kernel⟩,
   ⟨((upState.setB F.RNG_STATUS.JOINED (true))), by decide +kernel⟩,
   ⟨(((((((upState.setB F.RNG_STATUS.JOINED true).setB F.RNG_TOPO.BUDDYV true).setF F.RNG_ESCSTAT.MISSCONS 2).setF F.RNG_STATUS.ROLE 2).setB F.CLK_STATUS.LOCKED false).tRing fun z => { z with buddySilent := 2 }).tAdm fun z => { z with escrowEmpty := true }), by decide +kernel⟩,
   ⟨((((upState.setB F.RNG_STATUS.JOINED true).setCst 127 5).setCtx 127 0xE8 0x60000000#32)), (63), by decide +kernel⟩,
   ⟨((upState.modCell (1 : Fin 64) fun z => { z with offerK := some (0 : Nat) })), (1), (0), by decide +kernel⟩,
   ⟨(upState.tRing fun z => { z with takes := [(1, ⟨1, 1, false, 0, none⟩)] }), (0), (50176), (⟨1, 1, false, 0, none⟩), by decide +kernel⟩,
   ⟨((upState.setB (F.RNG_HOSTAT.BUSY) (true))), by decide +kernel⟩,
   ⟨(((((upState.setB (F.RNG_HOSTAT.BUSY) (false)).setB F.RNG_STATUS.JOINED true).setB F.RNG_TOPO.BUDDYV true).setB (F.RNG_STATUS.NOBUDDY) (false))), (0), (false), by decide +kernel⟩,
   ⟨((upState.setF F.RNG_HOSTAT.PHASE 1).tRing fun z => { z with ho := some ⟨false, 1, true, true, 1, 0, false, false⟩ }), (⟨false, 1, true, true, 1, 0, false, false⟩), by decide +kernel⟩,
   ⟨((upState.setF F.RNG_HOSTAT.PHASE 1).tRing fun z => { z with ho := some ⟨false, 1, true, true, 1, 0, false, true⟩ }), (⟨false, 1, true, true, 1, 0, false, true⟩), (1), by decide +kernel⟩,
   ⟨((upState.setB (F.STM_STATUS.THANDOVER) (false))), (0), by decide +kernel⟩,
   ⟨((((((upState.setB F.RNG_STATUS.JOINED (true)).tRing fun z => { z with ho := none }).setB F.RNG_STATUS.JOINED true).setB F.RNG_TOPO.BUDDYV true).setB (F.RNG_STATUS.OBSERVER) (false))), (true), (0), by decide +kernel⟩,
   ⟨(upState.tTm fun z => { z with takeBack := true, okPeriods := 64 }), by decide +kernel⟩⟩

theorem witness_BridgeChannelsAndShadow :
    (∃ (s : State) (c : Fin 8), s.brpOn = true ∧ s.grave = false ∧ s.fb (F.BRP_CFG.USE ↑c) = true ∧ s.safeHeld ↑c = false ∧ s.fb (F.BRP_STAT.STOPPING ↑c) = false ∧ s.brpRun ↑c = false) ∧
    (∃ (s : State) (c : Fin 8), s.brpOn = true ∧ s.grave = false ∧ s.fb (F.BRP_CFG.USE ↑c) = true ∧ s.safeHeld ↑c = false ∧ s.fb (F.BRP_STAT.STOPPING ↑c) = true) ∧
    (∃ (s : State), s.brpOn = true ∧ s.grave = true) ∧
    (∃ (s : State) (c : Fin 8), s.brpOn = true ∧ s.fb (F.BRP_STAT.STOPPING ↑c) = false ∧ s.brpRun ↑c = true ∧ s.brpLatched ↑c = false) ∧
    (∃ (s : State) (c : Fin 8), s.brpOn = true ∧ s.fb (F.BRP_STAT.FORCED ↑c) = true ∧ s.safeHeld ↑c = false) ∧
    (∃ (s : State) (c : Fin 8) (gates : BitVec 16), s.brpOn = true ∧ s.brpRun ↑c = true ∧ s.safeHeld ↑c = false ∧ s.fb (F.BRP_STAT.STOPPING ↑c) = false ∧ s.msr.gq = none ∧ gates.getLsbD (2 * ↑c) = true ∧ gates.getLsbD (2 * ↑c + 1) = true) ∧
    (∃ (s : State) (c : Fin 8) (gates : BitVec 16), s.brpOn = true ∧ s.brpRun ↑c = true ∧ s.safeHeld ↑c = false ∧ s.msr.gq = none ∧ gates.getLsbD (2 * ↑c) = (s.brpCh ↑c).lo ∧ gates.getLsbD (2 * ↑c + 1) = (s.brpCh ↑c).ho ∧ (¬((s.brpCh ↑c).lo = true ∧ (s.brpCh ↑c).ho = true))) ∧
    (∃ (s : State), s.brpOn = false) ∧
    (∃ (s : State) (c : Fin 8) (e : Nat), s.brpOn = true ∧ (s.brpCh ↑c).softEnd = some e ∧ (e < 2 ^ 64) ∧ s.fb (F.BRP_STAT.PENDEN ↑c) = false) ∧
    (∃ (s : State) (c : Fin 8), s.brpOn = true ∧ s.fb (F.BRP_SHCTL.DIRTY ↑c) = true) ∧
    (∃ (s : State) (c : Fin 8), s.brpOn = true ∧ s.fb (F.BRP_SHCTL.DIRTY ↑c) = false) ∧
    (∃ (s : State) (c : Nat), (c < 8) ∧ s.fb (F.BRP_SHCTL.COMMITTED c) = true) ∧
    (∃ (s : State) (c : Fin 8) (b : Nat), s.brpOn = true ∧ s.brpRun ↑c = true ∧ s.timeValid = true ∧ (s.brpCh ↑c).bnd = some b ∧ (b < 2 ^ 64) ∧ s.fb (F.BRP_STAT.STOPPING ↑c) = false ∧ s.fb (F.BRP_STAT.FORCED ↑c) = false ∧ (s.brpCh ↑c).rel = false) ∧
    (∃ (s : State) (c : Fin 8) (e : GateEdge), s.brpOn = true ∧ s.timeValid = true ∧ ((s.brpCh ↑c).edges = [e]) ∧ (e.at_ < 2 ^ 64)) ∧
    (∃ (s : State) (c : Nat), (c < 8) ∧ s.brpHeld c = false ∧ s.fb (F.BRP_STAT.BOOTLOW c) = false) ∧
    (∃ (raw : Int) (per : Nat) (dt : Nat) (tmin : Nat), (0 ≤ raw) ∧ (raw ≤ (↑per : Int)) ∧ (tmin ≤ raw.toNat) ∧ (raw.toNat + 2 * dt + tmin ≤ per) ∧ raw ≠ 0) :=
  ⟨⟨((((upState.setReg R.SFU_STATUS 0#32).setReg (R.BRP_STAT 7) 0#32).setB (F.BRP_CFG.USE 7) true)), (7), by decide +kernel⟩,
   ⟨(((((upState.setReg R.SFU_STATUS 0#32).setReg (R.BRP_STAT 0) 0#32).setB (F.BRP_CFG.USE 0) true).setB (F.BRP_STAT.STOPPING 0) true)), (0), by decide +kernel⟩,
   ⟨((upState.setF F.FCU_GRAVE.GRAVE 1)), by decide +kernel⟩,
   ⟨(((upState.setB ((F.BRP_STAT.STOPPING (0 : Fin 8))) (false)).setB (F.BRP_STAT.RUN (0 : Fin 8)) (true))), (0), by decide +kernel⟩,
   ⟨((((upState.setReg R.SFU_STATUS 0#32).setReg (R.BRP_STAT 0) 0#32).setB (F.BRP_STAT.FORCED 0) true)), (0), by decide +kernel⟩,
   ⟨((((upState.setReg R.SFU_STATUS 0#32).setReg (R.BRP_STAT 7) 0#32).setB (F.BRP_STAT.RUN 7) true)), (7), (0xC000), by decide +kernel⟩,
   ⟨((((upState.setReg R.SFU_STATUS 0#32).setReg (R.BRP_STAT 0) 0#32).setB (F.BRP_STAT.RUN 0) true)), (0), (0), by decide +kernel⟩,
   ⟨(State.reset), by decide +kernel⟩,
   ⟨(((upState.modBrpCh (0 : Fin 8) fun z => { z with softEnd := some (0 : Nat) }).setB ((F.BRP_STAT.PENDEN (0 : Fin 8))) (false))), (0), (0), by decide +kernel⟩,
   ⟨((upState.setB ((F.BRP_SHCTL.DIRTY (0 : Fin 8))) (true))), (0), by decide +kernel⟩,
   ⟨((upState.setB ((F.BRP_SHCTL.DIRTY (0 : Fin 8))) (false))), (0), by decide +kernel⟩,
   ⟨((upState.setB ((F.BRP_SHCTL.COMMITTED (0 : Nat))) (true))), (0), by decide +kernel⟩,
   ⟨(((((((upState.setB (F.BRP_STAT.RUN (0 : Fin 8)) (true)).setB F.CLK_STATUS.LOCKED (true)).modBrpCh (0 : Fin 8) fun z => { z with bnd := some (0 : Nat) }).setB ((F.BRP_STAT.STOPPING (0 : Fin 8))) (false)).setB ((F.BRP_STAT.FORCED (0 : Fin 8))) (false)).modBrpCh (0 : Fin 8) fun z => { z with rel := false })), (0), (0), by decide +kernel⟩,
   ⟨(upState.modBrpCh 0 fun z => { z with edges := [⟨5, true, true⟩] }), (0), (⟨5, true, true⟩), by decide +kernel⟩,
   ⟨(((((upState.setReg R.SFU_STATUS 0#32).setReg (R.BRP_STAT 7) 0#32).setB (F.BRP_STAT.RUN 7) true).setB F.BRP_CTRL.EN true)), (7), by decide +kernel⟩,
   ⟨(100), (1000), (5), (10), by decide +kernel⟩⟩

theorem witness_BridgeFaultLatches :
    (∃ (s : State) (c : Nat) (x : Field) (d : Nat), (c < 8) ∧ (x = F.BRP_STAT.SC c ∨ x = F.BRP_STAT.BOOTUV c ∨ x = F.BRP_STAT.TRIP c ∨ x = F.BRP_STAT.BOTHON c) ∧ s.fb (F.BRP_STAT.STOPPING c) = false ∧ d ≠ c) ∧
    (∃ (s : State) (c : Fin 8), s.brpOn = true ∧ s.fb (F.BRP_SC.EN ↑c) = true ∧ (s.brpCh ↑c).roseAt = none) ∧
    (∃ (s : State) (c : Fin 8), s.brpOn = true ∧ s.fb (F.BRP_SC.EN ↑c) = false) ∧
    (∃ (s : State) (c : Fin 8), s.brpOn = true ∧ (s.brpCh ↑c).ho = true) ∧
    (∃ (s : State) (c : Fin 8), s.brpOn = true ∧ (s.brpCh ↑c).ho = false ∧ s.brpRun ↑c = false) ∧
    (∃ (s : State) (n : Fin 8), s.brpOn = true ∧ s.tripActive ↑n = true) ∧
    (∃ (s : State) (n : Fin 8), s.brpOn = true ∧ s.tripActive ↑n = false) ∧
    (∃ (s : State) (n : Fin 8) (e : Nat), s.brpOn = true ∧ s.blankEnd ↑n = some e ∧ (e < 2 ^ 64) ∧ s.tripOut ↑n = false) ∧
    (∃ (s : State) (n : Fin 8) (e : Nat), s.brpOn = true ∧ s.blankEnd ↑n = some e ∧ s.tripOut ↑n = true ∧ s.fb (F.BRP_TRIP.EN ↑n) = true) ∧
    (∃ (s : State) (n : Fin 8) (c : Nat), s.brpOn = true ∧ (c < 8) ∧ (List.filter (fun (c : Nat) => bitAt (s.reg (R.BRP_TRIP ↑n)) (16 + c)) (List.range 8) = [c])) ∧
    (∃ (s : State), s.brpOn = true ∧ (∀ (n : Nat), n < 8 → s.tripActive n = false)) :=
  ⟨⟨(upState), (0), (F.BRP_STAT.SC 0), (1), by decide +kernel⟩,
   ⟨(((upState.setB ((F.BRP_SC.EN (0 : Fin 8))) (true)).modBrpCh (0 : Fin 8) fun z => { z with roseAt := none })), (0), by decide +kernel⟩,
   ⟨((upState.setB ((F.BRP_SC.EN (0 : Fin 8))) (false))), (0), by decide +kernel⟩,
   ⟨((upState.modBrpCh (0 : Fin 8) fun z => { z with ho := true })), (0), by decide +kernel⟩,
   ⟨(((upState.modBrpCh (0 : Fin 8) fun z => { z with ho := false }).setB (F.BRP_STAT.RUN (0 : Fin 8)) (false))), (0), by decide +kernel⟩,
   ⟨((upState.setReg R.MSR_CMPSTAT 1#32).setB (F.BRP_TRIP.EN 0) true), (0), by decide +kernel⟩,
   ⟨(upState), (0), by decide +kernel⟩,
   ⟨(upState.tBrp fun z => { z with blank := [(7, some 100)] }), (7), (100), by decide +kernel⟩,
   ⟨(((upState.setReg R.MSR_CMPSTAT 1#32).setB (F.BRP_TRIP.EN 0) true).tBrp fun z => { z with blank := [(0, some 100)] }), (0), (100), by decide +kernel⟩,
   ⟨(upState.setReg (R.BRP_TRIP 0) 0x00010000#32), (0), (0), by decide +kernel⟩,
   ⟨(upState), by decide +kernel⟩⟩

theorem witness_MeasurementResultsAndMonitors :
    (∃ (s : State) (e : Fin 32) (slot : Nat), (s.sarOn (decide (16 ≤ ↑e)) = true) ∧ (List.find? (fun (x : Nat × Nat) => x.fst == ↑e) (s.sarPlan (decide (16 ≤ ↑e))) = some (↑e, slot)) ∧ s.msr.sarDone.contains ↑e = false) ∧
    (∃ (s : State) (b : Bool) (code : BitVec 16), s.sarOn b = true ∧ ((256 * code.toInt - s.sarOff b) % 16 = 0) ∧ (-8388608 ≤ s.sarOff b + (256 * code.toInt - s.sarOff b) / 16) ∧ (s.sarOff b + (256 * code.toInt - s.sarOff b) / 16 < 8388608)) ∧
    (∃ (s : State) (i : Fin 8), s.msrOn = true ∧ s.fb F.MSR_CTRL.SDEN = true ∧ s.fb (F.MSR_SDCFG.EN ↑i) = true) ∧
    (∃ (s : State) (n : Fin 8), s.msrOn = true ∧ s.fb F.MSR_CTRL.CMPEN = true ∧ s.fb (F.MSR_CMP.EN ↑n) = true ∧ (tblGet (fun (_ : Nat) => 0) s.msr.cmpAt ↑n = 0)) ∧
    (∃ (s : State) (q : BitVec 12), s.live = true ∧ s.on 11 = true ∧ (sx 12 (s.f F.MSR_TJLIM.TJHI) ≤ q.toInt)) ∧
    (∃ (s : State) (q : BitVec 12), s.live = true ∧ s.on 11 = true ∧ (q.toInt < sx 12 (s.f F.MSR_TJLIM.TJHI))) ∧
    (∃ (s : State) (c : Nat) (i : Nat), s.live = true ∧ s.on 11 = true ∧ (c < 64) ∧ (i < 32)) :=
  ⟨⟨(((upState.setB F.MSR_CTRL.EN true).setB F.MSR_CTRL.SAREN_B true).setB (F.MSR_SEQ.EN 31) true), (31), (0), by decide +kernel⟩,
   ⟨(upState), (false), (0), by decide +kernel⟩,
   ⟨(((upState.setB (F.MSR_CTRL.SDEN) (true)).setB ((F.MSR_SDCFG.EN (0 : Fin 8))) (true))), (0), by decide +kernel⟩,
   ⟨(((upState.setB (F.MSR_CTRL.CMPEN) (true)).setB ((F.MSR_CMP.EN (0 : Fin 8))) (true))), (0), by decide +kernel⟩,
   ⟨(upState.setF F.MSR_TJLIM.TJHI 5), (5), by decide +kernel⟩,
   ⟨((upState.setB ⟨R.SYSC_PSTAT, 11, 11⟩ (true))), (0), by decide +kernel⟩,
   ⟨((upState.setB ⟨R.SYSC_PSTAT, 11, 11⟩ (true))), (0), (0), by decide +kernel⟩⟩

theorem witness_SerialsGateChargeAndTrims :
    (∃ (s : State) (i : Nat), (i < 128) ∧ s.on 6 = true ∧ s.ctxSerial i = 0 ∧ (s.portSerial i < 2 ^ 48)) ∧
    (∃ (s : State) (i : Nat), (i < 128) ∧ s.on 6 = true ∧ s.ctxSerial i ≠ 0 ∧ s.ctxSerial i = s.portSerial i) ∧
    (∃ (s : State) (i : Nat), (i < 128) ∧ s.on 6 = true ∧ s.ctxSerial i ≠ 0 ∧ s.ctxSerial i ≠ s.portSerial i ∧ s.on 11 = true ∧ s.serNew i = false) ∧
    (∃ (s : State) (c : Fin 8) (hs : Bool) (hsok : Bool), s.live = true ∧ s.on 11 = true ∧ (s.commission = true ∧ s.fb (F.BRP_CFG.USE ↑c) = true ∧ s.brpRun ↑c = false ∧ s.brpLatched ↑c = false ∧ s.fb F.BRP_CTRL.VGDLOW = false ∧ s.msr.gq = none ∧ (hs = true → hsok = true))) ∧
    (∃ (s : State) (c : Fin 8) (hs : Bool) (hsok : Bool), s.live = true ∧ s.on 11 = true ∧ (¬(s.commission = true ∧ s.fb (F.BRP_CFG.USE ↑c) = true ∧ s.brpRun ↑c = false ∧ s.brpLatched ↑c = false ∧ s.fb F.BRP_CTRL.VGDLOW = false ∧ s.msr.gq = none ∧ (hs = true → hsok = true)))) ∧
    (∃ (s : State) (c : Nat) (hs : Bool), (s.msr.gq = some (c, hs)) ∧ (c < 8) ∧ s.live = true ∧ s.on 11 = true) ∧
    (∃ (s : State) (i : BitVec 7) (gate : Fin 16), s.on 11 = true ∧ s.on 6 = true ∧ (i.toNat ∈ ctxIdx) ∧ (groupMask (s.cClass i.toNat) 0).testBit ↑gate = false) ∧
    (∃ (s : State) (i : BitVec 7) (gate : Fin 16), s.on 11 = true ∧ s.on 6 = true ∧ (i.toNat ∈ ctxIdx) ∧ (groupMask (s.cClass i.toNat) 0).testBit ↑gate = true) :=
  ⟨⟨((upState.setB ⟨R.SYSC_PSTAT, 6, 6⟩ (true))), (0), by decide +kernel⟩,
   ⟨((upState.setCtx 1 0xE4 7#32).setReg (R.LNK_CAP 1 2) 7#32), (1), by decide +kernel⟩,
   ⟨(upState.setCtx 1 0xE4 7#32), (1), by decide +kernel⟩,
   ⟨(((((((upState.setB ⟨R.SYSC_PSTAT, 11, 11⟩ (true)).setB F.SYSC_MODE.MODEACT (true)).setB ((F.BRP_CFG.USE (0 : Fin 8))) (true)).setB (F.BRP_STAT.RUN (0 : Fin 8)) (false)).setB (F.BRP_CTRL.VGDLOW) (false)).tMsr fun z => { z with gq := none })), (0), (false), (false), by decide +kernel⟩,
   ⟨((upState.setB ⟨R.SYSC_PSTAT, 11, 11⟩ (true))), (0), (false), (false), by decide +kernel⟩,
   ⟨(((upState.tMsr fun z => { z with gq := some ((0 : Nat), (false : Bool)) }).setB ⟨R.SYSC_PSTAT, 11, 11⟩ (true))), (0), (false), by decide +kernel⟩,
   ⟨(((upState.setB ⟨R.SYSC_PSTAT, 11, 11⟩ (true)).setB ⟨R.SYSC_PSTAT, 6, 6⟩ (true))), (1), (0), by decide +kernel⟩,
   ⟨(upState.setCtx 1 0 0x200#32), (1), (3), by decide +kernel⟩⟩

theorem witness_FaultBitsAndReactions :
    (∃ (s : State) (src : Fin 64), s.live = true ∧ s.fsw ↑src = false ∧ (s.f (F.FCU_REACT.REACT ↑src) ≤ 2) ∧ s.f (F.FCU_REACT.CLASS ↑src) ≠ 4 ∧ (s.fcu.ledger.length < 32)) ∧
    (∃ (s : State) (src : Fin 64), s.live = true ∧ s.fsw ↑src = false ∧ (s.f (F.FCU_REACT.REACT ↑src) ≤ 2) ∧ s.f (F.FCU_REACT.CLASS ↑src) = 4 ∧ (s.fcu.ledger.length < 31)) ∧
    (∃ (s : State), s.live = true ∧ s.fsw 26 = false ∧ s.f (F.FCU_REACT.REACT 26) = 3 ∧ s.f (F.FCU_REACT.CLASS 26) ≠ 4) ∧
    (∃ (s : State) (src : Fin 64), s.live = true ∧ s.fsw ↑src = false ∧ s.f (F.FCU_REACT.REACT ↑src) = 4) ∧
    (∃ (s : State) (src : Fin 8), s.live = true ∧ s.fsw ↑src = true ∧ (s.fcu.ledger.length < 32)) ∧
    (∃ (s : State), s.fb F.FCU_CTRL.INJEN = false) :=
  ⟨⟨(((upState.setF ((F.FCU_REACT.REACT (0 : Fin 64))) ((2))).setF ((F.FCU_REACT.CLASS (0 : Fin 64))) (1))), (0), by decide +kernel⟩,
   ⟨(((upState.setF ((F.FCU_REACT.REACT (0 : Fin 64))) ((2))).setF ((F.FCU_REACT.CLASS (0 : Fin 64))) (4))), (0), by decide +kernel⟩,
   ⟨(((upState.setF ((F.FCU_REACT.REACT 26)) (3)).setF ((F.FCU_REACT.CLASS 26)) (1))), by decide +kernel⟩,
   ⟨((upState.setF ((F.FCU_REACT.REACT (0 : Fin 64))) (4))), (0), by decide +kernel⟩,
   ⟨(upState.setB (fswField 7) true), (7), by decide +kernel⟩,
   ⟨((upState.setB (F.FCU_CTRL.INJEN) (false))), by decide +kernel⟩⟩

theorem witness_FaultRegistersWatchdogsAndLedger :
    (∃ (s : State) (src : Fin 64) (v : Word), s.on 2 = true ∧ s.admitted = false ∧ (fld v 2 0 ≤ 4 ∧ (fld v 2 0 = 3 → ↑src = 26 ∨ ↑src = 29) ∧ (↑src < 8 → fld v 2 0 = 2 ∨ fld v 2 0 = 4) ∧ (32 ≤ ↑src → 1 ≤ fld v 10 8 ∧ fld v 10 8 ≤ 3))) ∧
    (∃ (s : State) (src : Fin 64) (v : Word), s.on 2 = true ∧ s.admitted = false ∧ (¬(fld v 2 0 ≤ 4 ∧ (fld v 2 0 = 3 → ↑src = 26 ∨ ↑src = 29) ∧ (↑src < 8 → fld v 2 0 = 2 ∨ fld v 2 0 = 4) ∧ (32 ≤ ↑src → 1 ≤ fld v 10 8 ∧ fld v 10 8 ≤ 3)))) ∧
    (∃ (s : State), s.admitted = true) ∧
    (∃ (s : State) (bits : Word), s.on 2 = true ∧ (bits &&& ~~~s.reg R.FCU_SWFLT = 0)) ∧
    (∃ (s : State) (b : Fin 32), s.on 2 = true ∧ bitAt (s.reg R.FCU_SWFLT) ↑b = false) ∧
    (∃ (s : State) (q : CoreId), s.live = true ∧ (0 < s.f (F.FCU_WDT.TIMEOUT ↑q)) ∧ s.fb (F.FCU_WDT.EXP ↑q) = false ∧ (s.f (F.FCU_WDT.TIMEOUT ↑q) ≤ tblGet (fun (_ : Nat) => 0) s.fcu.wdt ↑q)) ∧
    (∃ (s : State) (r : LedgerRec) (l : List LedgerRec), s.on 2 = true ∧ (s.fcu.ledger = r :: l) ∧ s.fb F.FCU_LEDGER.EXPEN = false) :=
  ⟨⟨(upState), (63), (0x101), by decide +kernel⟩,
   ⟨(((upState.setB ⟨R.SYSC_PSTAT, 2, 2⟩ (true)).setB F.ADM_STATUS.ADMITTED (false))), (0), (0), by decide +kernel⟩,
   ⟨((upState.setB F.ADM_STATUS.ADMITTED (true))), by decide +kernel⟩,
   ⟨((upState.setB ⟨R.SYSC_PSTAT, 2, 2⟩ (true))), (0), by decide +kernel⟩,
   ⟨(((upState.setB ⟨R.SYSC_PSTAT, 2, 2⟩ (true)).setReg R.FCU_SWFLT (0))), (0), by decide +kernel⟩,
   ⟨((upState.setF (F.FCU_WDT.TIMEOUT 3) 1).tFcu fun z => { z with wdt := [(3, 1)] }), (3), by decide +kernel⟩,
   ⟨(upState.tFcu fun z => { z with ledger := [⟨0, 0, 0, 0⟩] }), (⟨0, 0, 0, 0⟩), ([]), by decide +kernel⟩⟩

theorem witness_SafetyDemandsAndStop :
    (∃ (s : State) (cause : BitVec 8), s.live = true ∧ (1 ≤ cause.toNat ∧ cause.toNat ≤ 9 ∨ 16 ≤ cause.toNat ∧ cause.toNat ≤ 39)) ∧
    (∃ (s : State) (b : Bool) (chA : Bool) (chB : Bool), s.live = true ∧ (chA = true ∨ chB = true) ∧ ((s.sfu.live.any fun (x : SfuLive) => (x.cause == if b = true then 2 else 1) && x.pos == 0) = false)) ∧
    (∃ (s : State) (b : Bool) (chA : Bool) (chB : Bool), s.live = true ∧ (chA = true ∨ chB = true) ∧ ((s.sfu.live.any fun (x : SfuLive) => (x.cause == if b = true then 2 else 1) && x.pos == 0) = true)) ∧
    (∃ (s : State), s.on 2 = true ∧ (∀ (n : Nat), n < 4 → (s.sfu.live.any fun (x : SfuLive) => x.cause == 3 && x.pos == n) = false)) ∧
    (∃ (s : State) (m : Fin 6), s.live = true ∧ s.fb (F.SFU_BMON.EN ↑m) = true ∧ s.f (F.SFU_BMON.MODE ↑m) ≠ 3) ∧
    (∃ (s : State) (m : Fin 6) (j : Fin 4), s.live = true ∧ s.fb (F.SFU_BMON.EN ↑m) = true ∧ (tblGet (fun (_ : Nat) => 0) s.sfu.viol (4 * ↑m + ↑j) ≠ 0) ∧ ((s.sfu.live.any fun (x : SfuLive) => x.cause == 16 + (4 * ↑m + ↑j) && x.pos == 0) = false) ∧ s.f (F.SFU_BMON.MODE ↑m) = 2 ∧ (s.f (F.SFU_BMON.CONF ↑m) ≤ tblGet (fun (_ : Nat) => 0) s.sfu.ovl (4 * ↑m + ↑j))) ∧
    (∃ (s : State) (m : Fin 6) (j : Fin 4), s.live = true ∧ s.fb (F.SFU_BMON.EN ↑m) = true ∧ (tblGet (fun (_ : Nat) => 0) s.sfu.viol (4 * ↑m + ↑j) ≠ 0) ∧ ((s.sfu.live.any fun (x : SfuLive) => x.cause == 16 + (4 * ↑m + ↑j) && x.pos == 0) = false) ∧ s.f (F.SFU_BMON.MODE ↑m) ≠ 2) :=
  ⟨⟨(upState), (1), by decide +kernel⟩,
   ⟨(upState), (false), (false), (true), by decide +kernel⟩,
   ⟨(upState.tSfu fun z => { z with live := [⟨1, 0, 15⟩] }), (false), (true), (false), by decide +kernel⟩,
   ⟨((upState.setB ⟨R.SYSC_PSTAT, 2, 2⟩ (true))), by decide +kernel⟩,
   ⟨(((upState.setB ((F.SFU_BMON.EN (0 : Fin 6))) (true)).setF ((F.SFU_BMON.MODE (0 : Fin 6))) (1))), (0), by decide +kernel⟩,
   ⟨(((upState.setB (F.SFU_BMON.EN 0) true).setF (F.SFU_BMON.MODE 0) 2).tSfu fun z => { z with viol := [(3, 1)] }), (0), (3), by decide +kernel⟩,
   ⟨(((upState.setB (F.SFU_BMON.EN 5) true).setF (F.SFU_BMON.MODE 5) 0).tSfu fun z => { z with viol := [(23, 1)] }), (5), (3), by decide +kernel⟩⟩

theorem witness_SafetyResetArmAndChannels :
    (∃ (s : State) (req : Requester) (v : BitVec 4) (mac : Bool) (c : Instr), s.on 2 = true ∧ req ≠ Requester.pair ∧ (c ∈ [Instr.fwdemWrite req v, Instr.safetyReset req, Instr.sfuArm req, Instr.requal req, Instr.esubSubmit req mac])) ∧
    (∃ (s : State), s.on 2 = true ∧ (s.f F.SFU_STATUS.DEM = 0 ∧ s.fb F.SFU_SIN.INA = true ∧ s.fb F.SFU_SIN.INB = true ∧ s.fb F.SFU_STATUS.DEGA = false ∧ s.fb F.SFU_STATUS.DEGB = false ∧ s.sfu.tdegExp = false ∧ (∀ (w : SfuWindow), w ∈ s.sfu.windows → 2 ≤ w.copies.length) ∧ s.fb F.SFU_STATUS.ARMED = true)) ∧
    (∃ (s : State), s.on 2 = true ∧ (¬(s.f F.SFU_STATUS.DEM = 0 ∧ s.fb F.SFU_SIN.INA = true ∧ s.fb F.SFU_SIN.INB = true ∧ s.fb F.SFU_STATUS.DEGA = false ∧ s.fb F.SFU_STATUS.DEGB = false ∧ s.sfu.tdegExp = false ∧ (∀ (w : SfuWindow), w ∈ s.sfu.windows → 2 ≤ w.copies.length) ∧ s.fb F.SFU_STATUS.ARMED = true))) ∧
    (∃ (s : State), s.on 2 = true ∧ ((1 ≤ s.f F.SFU_SIN.FILT ∧ s.f F.SFU_SIN.FILT ≤ 160) ∧ (∀ (m : Nat), m < 6 → s.fb (F.SFU_BMON.EN m) = true → s.fb (F.CLK_MCLK.EN (s.f (F.MSR_SDCFG.CLK (s.f (F.SFU_BMON.SD m))))) = true ∧ (s.f (F.SFU_BMON.MODE m) = 2 → s.f (F.SFU_BMON.CONF m) ≠ 0 ∧ (3 + s.f (F.SFU_BMON.CONF m)) * (16 * 2 ^ min 4 (s.f (F.SFU_BMON.OSRC m))) * s.f (F.CLK_MCLK.DIV (s.f (F.MSR_SDCFG.CLK (s.f (F.SFU_BMON.SD m))))) ≤ 3700) ∧ (s.f (F.SFU_BMON.MODE m) ≠ 2 → ∀ (j : Nat), j < 4 → s.fb (F.SFU_BTHR.EN m j) = true → s.f (F.SFU_BTHR.DELAY m j) ≤ 1950)) ∧ (∀ (o : Nat), o < 6 → s.fb (F.SFU_PTCFG.EN o) = true → 10 ≤ s.f (F.SFU_PTCFG.TPW o) ∧ s.f (F.SFU_PTCFG.TPW o) ≤ 300 ∧ 1 ≤ s.f (F.SFU_PTCFG.INTV o) ∧ s.f (F.SFU_PTCFG.INTV o) ≤ 60) ∧ 1 ≤ s.f F.SFU_TDEG.SECS ∧ s.f F.SFU_TDEG.SECS ≤ 259200)) ∧
    (∃ (s : State), s.on 2 = true ∧ (¬((1 ≤ s.f F.SFU_SIN.FILT ∧ s.f F.SFU_SIN.FILT ≤ 160) ∧ (∀ (m : Nat), m < 6 → s.fb (F.SFU_BMON.EN m) = true → s.fb (F.CLK_MCLK.EN (s.f (F.MSR_SDCFG.CLK (s.f (F.SFU_BMON.SD m))))) = true ∧ (s.f (F.SFU_BMON.MODE m) = 2 → s.f (F.SFU_BMON.CONF m) ≠ 0 ∧ (3 + s.f (F.SFU_BMON.CONF m)) * (16 * 2 ^ min 4 (s.f (F.SFU_BMON.OSRC m))) * s.f (F.CLK_MCLK.DIV (s.f (F.MSR_SDCFG.CLK (s.f (F.SFU_BMON.SD m))))) ≤ 3700) ∧ (s.f (F.SFU_BMON.MODE m) ≠ 2 → ∀ (j : Nat), j < 4 → s.fb (F.SFU_BTHR.EN m j) = true → s.f (F.SFU_BTHR.DELAY m j) ≤ 1950)) ∧ (∀ (o : Nat), o < 6 → s.fb (F.SFU_PTCFG.EN o) = true → 10 ≤ s.f (F.SFU_PTCFG.TPW o) ∧ s.f (F.SFU_PTCFG.TPW o) ≤ 300 ∧ 1 ≤ s.f (F.SFU_PTCFG.INTV o) ∧ s.f (F.SFU_PTCFG.INTV o) ≤ 60) ∧ 1 ≤ s.f F.SFU_TDEG.SECS ∧ s.f F.SFU_TDEG.SECS ≤ 259200))) ∧
    (∃ (s : State) (b : Bool) (row : Fin 5), s.live = true ∧ s.fb F.SFU_STATUS.ARMED = true ∧ s.f (F.FCU_REACT.REACT 27) ≠ 4 ∧ s.fb (if b = true then F.SFU_STATUS.DEGB else F.SFU_STATUS.DEGA) = false ∧ (if b = true then ↑row = 1 ∨ ↑row = 2 else ↑row = 1 ∧ 2 ≤ s.sfu.hbMiss ∨ ↑row = 2 ∧ s.fb (F.FCU_WDT.EXP 4) = true ∨ ↑row = 3 ∧ (s.proc 4).run = RunState.stopped)) ∧
    (∃ (s : State) (e : Nat), s.live = true ∧ s.sfu.tdegEnd = some e ∧ ((s.sfu.live.any fun (x : SfuLive) => x.cause == 8 && x.pos == 0) = false)) ∧
    (∃ (s : State), s.live = true ∧ ((s.sfu.madeA ^^^ s.sfu.madeB) &&& 15 - s.sfu.xNoted ≠ 0) ∧ (s.f F.SFU_XWIN.PER ≤ s.sfu.xAge)) ∧
    (∃ (s : State) (c : Nat), s.live = true ∧ s.sfu.discSince = some c ∧ s.fb F.SFU_STATUS.SINDISC = false) ∧
    (∃ (s : State), s.on 2 = true ∧ s.fb F.SFU_STATUS.DEGA = false ∧ s.fb F.SFU_STATUS.DEGB = false) ∧
    (∃ (s : State), s.on 2 = true ∧ s.fb F.SFU_STATUS.DEGA = true ∧ (64 ≤ s.sfu.cleanA) ∧ s.sfu.requal = none) ∧
    (∃ (s : State), s.on 2 = true ∧ s.fb F.SFU_STATUS.DEGA = false ∧ s.fb F.SFU_STATUS.DEGB = true ∧ (64 ≤ s.sfu.cleanB) ∧ s.sfu.requal = none) ∧
    (∃ (s : State) (o : Fin 6), s.live = true ∧ s.sfu.requal = none ∧ s.fb F.SFU_STATUS.ARMED = true ∧ s.fb (F.SFU_PTCFG.EN ↑o) = true ∧ (tblGet (fun (_ : Nat) => 0) s.sfu.ptNext ↑o ≠ 0) ∧ s.outTrip ↑o = false ∧ (tblGet (fun (_ : Nat) => 0) s.sfu.ptRun ↑o = 0) ∧ (tblGet (fun (_ : Nat) => 0) s.sfu.ptRun (ptOther ↑o) = 0)) ∧
    (∃ (s : State) (o : Fin 6) (c : Nat), s.live = true ∧ (tblGet (fun (_ : Nat) => 0) s.sfu.ptRun ↑o = c + 1) ∧ s.sfu.requal = none ∧ s.f (F.FCU_REACT.REACT 27) ≠ 4) :=
  ⟨⟨(upState), (.host), (3), (false), (.fwdemWrite .host 3), by decide +kernel⟩,
   ⟨(((((((((upState.setB ⟨R.SYSC_PSTAT, 2, 2⟩ (true)).setF (F.SFU_STATUS.DEM) (0)).setB (F.SFU_SIN.INA) (true)).setB (F.SFU_SIN.INB) (true)).setB (F.SFU_STATUS.DEGA) (false)).setB (F.SFU_STATUS.DEGB) (false)).tSfu fun z => { z with tdegExp := false }).setB (F.SFU_STATUS.ARMED) (true))), by decide +kernel⟩,
   ⟨((upState.setB ⟨R.SYSC_PSTAT, 2, 2⟩ (true))), by decide +kernel⟩,
   ⟨(((((upState.setF F.SFU_SIN.FILT 160).setF F.SFU_TDEG.SECS 259200).setB (F.SFU_PTCFG.EN 0) true).setF (F.SFU_PTCFG.TPW 0) 10).setF (F.SFU_PTCFG.INTV 0) 60), by decide +kernel⟩,
   ⟨((upState.setF F.SFU_SIN.FILT 161).setF F.SFU_TDEG.SECS 259200), by decide +kernel⟩,
   ⟨((((upState.setB (F.SFU_STATUS.ARMED) (true)).setF ((F.FCU_REACT.REACT 27)) (1)).setB ((if (true : Bool) = true then F.SFU_STATUS.DEGB else F.SFU_STATUS.DEGA)) (false))), (true), (1), by decide +kernel⟩,
   ⟨((upState.tSfu fun z => { z with tdegEnd := some (0 : Nat) })), (0), by decide +kernel⟩,
   ⟨(upState.tSfu fun z => { z with madeA := 1, xAge := 255 }), by decide +kernel⟩,
   ⟨(((upState.tSfu fun z => { z with discSince := some (0 : Nat) }).setB (F.SFU_STATUS.SINDISC) (false))), (0), by decide +kernel⟩,
   ⟨((((upState.setB ⟨R.SYSC_PSTAT, 2, 2⟩ (true)).setB (F.SFU_STATUS.DEGA) (false)).setB (F.SFU_STATUS.DEGB) (false))), by decide +kernel⟩,
   ⟨((upState.setB F.SFU_STATUS.DEGA true).tSfu fun z => { z with cleanA := 64 }), by decide +kernel⟩,
   ⟨((upState.setB F.SFU_STATUS.DEGB true).tSfu fun z => { z with cleanB := 64 }), by decide +kernel⟩,
   ⟨((((upState.setReg R.SFU_STATUS 0#32).setB F.SFU_STATUS.ARMED true).setB (F.SFU_PTCFG.EN 5) true).tSfu fun z => { z with ptNext := [(5, 100)], resetHold := false }), (5), by decide +kernel⟩,
   ⟨(upState.tSfu fun z => { z with ptRun := [(0, 101)] }), (0), (100), by decide +kernel⟩⟩

theorem witness_SafetyMessages :
    (∃ (s : State), s.on 2 = true ∧ s.fb F.SFU_FRCFG.ETHEN = true ∧ (∀ (w : SfuWindow), w ∈ s.sfu.windows → ¬(w.eth = true ∧ w.key = (fld (s.reg (R.SFU_EBUF 1)) 31 12, fld (s.reg (R.SFU_EBUF 0)) 31 16)))) ∧
    (∃ (s : State), s.on 2 = true ∧ s.fb F.SFU_FRCFG.ETHEN = false) ∧
    (∃ (s : State) (f : List Word), s.rngOn = true ∧ fClass f = 4 ∧ (s.rngJoined = true → fSrc f ≠ s.pos) ∧ (∀ (w : SfuWindow), w ∈ s.sfu.windows → ¬(w.eth = false ∧ w.key = (fSrc f, fSeq f)))) ∧
    (∃ (s : State) (w : SfuWindow) (l : List SfuWindow) (d : Bool) (a : List Word) (b : List Word), s.live = true ∧ (s.sfu.windows = w :: l) ∧ w.eth = true ∧ (w.copies = [(d, some a), (!d, some b)]) ∧ a = b) ∧
    (∃ (s : State) (w : SfuWindow) (l : List SfuWindow) (d : Bool) (a : List Word) (b : List Word), s.live = true ∧ (s.sfu.windows = w :: l) ∧ w.eth = true ∧ (w.copies = [(d, some a), (!d, some b)]) ∧ a ≠ b ∧ s.f (F.FCU_REACT.REACT 28) ≠ 4) ∧
    (∃ (s : State) (w : SfuWindow) (l : List SfuWindow) (d : Bool) (a : List Word), s.live = true ∧ (s.sfu.windows = w :: l) ∧ w.eth = true ∧ (w.copies = [(d, some a)]) ∧ s.f (F.FCU_REACT.REACT 27) ≠ 4) ∧
    (∃ (s : State) (p : Fin 64), s.live = true ∧ s.fb F.SFU_STATUS.ARMED = true ∧ (s.fb F.SFU_FRCFG.RINGEN = true ∨ s.fb F.SFU_FRCFG.ETHEN = true) ∧ s.followsPos ↑p = true ∧ (¬↑p ∈ s.sfu.silent) ∧ s.fb F.SFU_FRCFG.WDACT = true ∧ ((s.sfu.live.any fun (x : SfuLive) => x.cause == 7 && x.pos == ↑p) = false)) ∧
    (∃ (s : State) (p : Fin 64), s.live = true ∧ s.fb F.SFU_STATUS.ARMED = true ∧ (s.fb F.SFU_FRCFG.RINGEN = true ∨ s.fb F.SFU_FRCFG.ETHEN = true) ∧ s.followsPos ↑p = true ∧ (¬↑p ∈ s.sfu.silent) ∧ s.fb F.SFU_FRCFG.WDACT = false ∧ s.f (F.FCU_REACT.REACT 27) ≠ 4) :=
  ⟨⟨(((upState.setB ⟨R.SYSC_PSTAT, 2, 2⟩ (true)).setB (F.SFU_FRCFG.ETHEN) (true))), by decide +kernel⟩,
   ⟨(((upState.setB ⟨R.SYSC_PSTAT, 2, 2⟩ (true)).setB (F.SFU_FRCFG.ETHEN) (false))), by decide +kernel⟩,
   ⟨((upState.setB F.RNG_STATUS.JOINED true)), ([0x40400000#32]), by decide +kernel⟩,
   ⟨(upState.tSfu fun z => { z with windows := [⟨true, (0, 0), 0, [(true, some []), (false, some [])]⟩] }), (⟨true, (0, 0), 0, [(true, some []), (false, some [])]⟩), ([]), (true), ([]), ([]), by decide +kernel⟩,
   ⟨(upState.tSfu fun z => { z with windows := [⟨true, (0, 0), 0, [(true, some [0]), (false, some [1])]⟩] }), (⟨true, (0, 0), 0, [(true, some [0]), (false, some [1])]⟩), ([]), (true), ([0]), ([1]), by decide +kernel⟩,
   ⟨(upState.tSfu fun z => { z with windows := [⟨true, (0, 0), 0, [(true, some [])]⟩] }), (⟨true, (0, 0), 0, [(true, some [])]⟩), ([]), (true), ([]), by decide +kernel⟩,
   ⟨(((((upState.setReg R.SFU_STATUS 0#32).setB F.SFU_STATUS.ARMED true).setB F.SFU_FRCFG.RINGEN true).setB F.SFU_FRCFG.WDACT true).setReg (R.SFU_FOLLOW 1) 0x80000000#32), (63), by decide +kernel⟩,
   ⟨((((upState.setReg R.SFU_STATUS 0#32).setB F.SFU_STATUS.ARMED true).setB F.SFU_FRCFG.ETHEN true).setReg (R.SFU_FOLLOW 0) 1#32), (0), by decide +kernel⟩⟩

theorem witness_EthernetReceiveAndTransmit :
    (∃ (s : State) (m : Fin 2), (s.macOn ↑m = false ∨ s.fb (F.ETH_MCFG.RXEN ↑m) = false)) ∧
    (∃ (s : State) (m : Fin 2) (l : List Byte) (fcsOk : Bool), s.macOn ↑m = true ∧ s.fb (F.ETH_MCFG.RXEN ↑m) = true ∧ (¬(fcsOk = true ∧ (60 ≤ l.length ∧ l.length ≤ 1532) ∧ s.destOk ↑m l = true ∧ s.vlanOk ↑m l = true))) ∧
    (∃ (s : State) (m : Fin 2) (l : List Byte) (fcsOk : Bool), s.macOn ↑m = true ∧ s.fb (F.ETH_MCFG.RXEN ↑m) = true ∧ (fcsOk = true ∧ (60 ≤ l.length ∧ l.length ≤ 1532) ∧ s.destOk ↑m l = true ∧ s.vlanOk ↑m l = true) ∧ (¬b16At l (typeAt l) = s.f (F.ETH_SAFETYPE.TYPE ↑m)) ∧ prpTrailer l = none ∧ ((s.mac ↑m).rxUsed < s.rxSlots ↑m) ∧ regionOf (BitVec.toNat (s.reg (R.ETH_RXBASE ↑m)) + (s.mac ↑m).rxSlot * 2048) = Region.sram ∧ (regionOf (BitVec.toNat (s.reg (R.ETH_RXBASE ↑m)) + (s.mac ↑m).rxSlot * 2048 + l.length - 1) = Region.sram) ∧ s.on 3 = true) ∧
    (∃ (s : State) (m : Fin 2) (l : List Byte) (fcsOk : Bool), s.macOn ↑m = true ∧ s.fb (F.ETH_MCFG.RXEN ↑m) = true ∧ (fcsOk = true ∧ (60 ≤ l.length ∧ l.length ≤ 1532) ∧ s.destOk ↑m l = true ∧ s.vlanOk ↑m l = true) ∧ (¬b16At l (typeAt l) = s.f (F.ETH_SAFETYPE.TYPE ↑m)) ∧ prpTrailer l = none ∧ (s.rxSlots ↑m ≤ (s.mac ↑m).rxUsed)) ∧
    (∃ (s : State) (m : Fin 2) (l : List Byte) (fcsOk : Bool), s.macOn ↑m = true ∧ s.fb (F.ETH_MCFG.RXEN ↑m) = true ∧ (fcsOk = true ∧ (60 ≤ l.length ∧ l.length ≤ 1532) ∧ s.destOk ↑m l = true ∧ s.vlanOk ↑m l = true) ∧ b16At l (typeAt l) = s.f (F.ETH_SAFETYPE.TYPE ↑m) ∧ prpTrailer l = none ∧ bitAt (s.ldw (856158208 + ↑m * 512 + (s.mac ↑m).safeSlot * 64 + 52)) 31 = true) ∧
    (∃ (s : State) (m : Fin 2) (l : List Byte) (fcsOk : Bool), s.macOn ↑m = true ∧ s.fb (F.ETH_MCFG.RXEN ↑m) = true ∧ (fcsOk = true ∧ (60 ≤ l.length ∧ l.length ≤ 1532) ∧ s.destOk ↑m l = true ∧ s.vlanOk ↑m l = true) ∧ b16At l (typeAt l) = s.f (F.ETH_SAFETYPE.TYPE ↑m) ∧ prpTrailer l = none ∧ bitAt (s.ldw (856158208 + ↑m * 512 + (s.mac ↑m).safeSlot * 64 + 52)) 31 = false) ∧
    (∃ (s : State), s.on 10 = true) ∧
    (∃ (s : State) (m : Fin 2) (low : Fin 2) (e : DWord) (l : List DWord), s.macOn ↑m = true ∧ s.fb (F.ETH_MCFG.TXEN ↑m) = true ∧ s.qOn (16 + 2 * ↑m + ↑low) = true ∧ (s.queue (16 + 2 * ↑m + ↑low) = e :: l) ∧ (s.f (F.ETH_TXQ.DONE ↑m ↑low) < 65535) ∧ (s.f (F.ETH_TXQ.DISC ↑m ↑low) < 255) ∧ (fld e 58 48 < 14 ∨ 1518 < fld e 58 48)) ∧
    (∃ (s : State) (m : Fin 2) (low : Fin 2) (e : DWord) (l : List DWord), s.macOn ↑m = true ∧ s.fb (F.ETH_MCFG.TXEN ↑m) = true ∧ s.qOn (16 + 2 * ↑m + ↑low) = true ∧ (s.queue (16 + 2 * ↑m + ↑low) = e :: l) ∧ (s.f (F.ETH_TXQ.DONE ↑m ↑low) < 65535) ∧ (s.f (F.ETH_TXQ.DISC ↑m ↑low) < 255) ∧ (14 ≤ fld e 58 48) ∧ (fld e 58 48 ≤ 1518) ∧ bitAt e 63 = false ∧ ((s.mac ↑m).txEnd ≤ s.tm.refclk) ∧ (↑low = 0 ∨ s.queue (16 + 2 * ↑m) = [])) :=
  ⟨⟨(upState), (0), by decide +kernel⟩,
   ⟨(((((((upState.setB (F.ETH_MCFG.AUTO 0) false).setB (F.ETH_MSTAT.LINKBAD 0) false).setB (F.ETH_MCFG.EN 0) true).setB (F.ETH_MCFG.RXEN 0) true).setB (F.ETH_MCFG.PROMISC 0) true).setB (F.ETH_MCFG.UNTAG 0) true)), (0), (List.replicate 60 0), (false), by decide +kernel⟩,
   ⟨(((((((((upState.setB (F.ETH_MCFG.AUTO 0) false).setB (F.ETH_MSTAT.LINKBAD 0) false).setB (F.ETH_MCFG.EN 0) true).setB (F.ETH_MCFG.RXEN 0) true).setB (F.ETH_MCFG.PROMISC 0) true).setB (F.ETH_MCFG.UNTAG 0) true).setF (F.ETH_SAFETYPE.TYPE 0) 1).setReg (R.ETH_RXBASE 0) 0x20000000#32)), (0), (List.replicate 60 0), (true), by decide +kernel⟩,
   ⟨((((((((((upState.setB (F.ETH_MCFG.AUTO 0) false).setB (F.ETH_MSTAT.LINKBAD 0) false).setB (F.ETH_MCFG.EN 0) true).setB (F.ETH_MCFG.RXEN 0) true).setB (F.ETH_MCFG.PROMISC 0) true).setB (F.ETH_MCFG.UNTAG 0) true).setF (F.ETH_SAFETYPE.TYPE 0) 1).setReg (R.ETH_RXBASE 0) 0x20000000#32).setF (F.ETH_RXCFG.COUNT 0) 1).modMac 0 fun z => { z with rxUsed := 1 }), (0), (List.replicate 60 0), (true), by decide +kernel⟩,
   ⟨((((((((upState.setB (F.ETH_MCFG.AUTO 0) false).setB (F.ETH_MSTAT.LINKBAD 0) false).setB (F.ETH_MCFG.EN 0) true).setB (F.ETH_MCFG.RXEN 0) true).setB (F.ETH_MCFG.PROMISC 0) true).setB (F.ETH_MCFG.UNTAG 0) true).setF (F.ETH_SAFETYPE.TYPE 0) 0).stw (856158208 + 52) 0x80000000#32), (0), (List.replicate 60 0), (true), by decide +kernel⟩,
   ⟨((((((((upState.setB (F.ETH_MCFG.AUTO 0) false).setB (F.ETH_MSTAT.LINKBAD 0) false).setB (F.ETH_MCFG.EN 0) true).setB (F.ETH_MCFG.RXEN 0) true).setB (F.ETH_MCFG.PROMISC 0) true).setB (F.ETH_MCFG.UNTAG 0) true).setF (F.ETH_SAFETYPE.TYPE 0) 0)), (0), (List.replicate 60 0), (true), by decide +kernel⟩,
   ⟨((upState.setB ⟨R.SYSC_PSTAT, 10, 10⟩ (true))), by decide +kernel⟩,
   ⟨((((((((((upState.setB (F.ETH_MCFG.AUTO 0) false).setB (F.ETH_MSTAT.LINKBAD 0) false).setB (F.ETH_MCFG.EN 0) true).setB (F.ETH_MCFG.RXEN 0) true).setB (F.ETH_MCFG.PROMISC 0) true).setB (F.ETH_MCFG.UNTAG 0) true).setB (F.ETH_MCFG.TXEN 0) true).setB (F.HQ_CFG.EN 16) true).setQueue 16 [0])), (0), (0), (0), ([]), by decide +kernel⟩,
   ⟨((((((((((upState.setB (F.ETH_MCFG.AUTO 0) false).setB (F.ETH_MSTAT.LINKBAD 0) false).setB (F.ETH_MCFG.EN 0) true).setB (F.ETH_MCFG.RXEN 0) true).setB (F.ETH_MCFG.PROMISC 0) true).setB (F.ETH_MCFG.UNTAG 0) true).setB (F.ETH_MCFG.TXEN 0) true).setB (F.HQ_CFG.EN 17) true).setQueue 17 [0x05EE000000000000])), (0), (1), (0x05EE000000000000), ([]), by decide +kernel⟩⟩

theorem witness_NetworkTimePulsesAndPhy :
    (∃ (s : State) (m : Fin 2) (mt : BitVec 4), s.macOn ↑m = true ∧ (mt.toNat ≤ 3) ∧ ((s.mac ↑m).ts.length < 4)) ∧
    (∃ (s : State) (m : Fin 2) (mt : BitVec 4), s.macOn ↑m = true ∧ (mt.toNat ≤ 3) ∧ (4 ≤ (s.mac ↑m).ts.length)) ∧
    (∃ (s : State) (m : Fin 2), s.on 10 = true ∧ ((s.mac ↑m).ts = [])) ∧
    (∃ (s : State) (m : Fin 2) (w : Word) (l : List Word), s.on 10 = true ∧ ((s.mac ↑m).ts = w :: l)) ∧
    (∃ (s : State), s.on 10 = true ∧ s.fb F.ETH_DMAPCTL.VALID = true) ∧
    (∃ (s : State), s.on 10 = true ∧ s.fb F.ETH_DMAPCTL.VALID = false) ∧
    (∃ (s : State) (n : Fin 2) (e : Nat), (tblGet (fun (_ : Nat) => none) s.eth.tpo ↑n = some e)) ∧
    (∃ (s : State) (m : Fin 2), s.on 10 = true ∧ s.fb (F.ETH_MDIO.GO ↑m) = true) ∧
    (∃ (s : State) (m : Fin 2), s.on 10 = true ∧ s.fb (F.ETH_MDIO.GO ↑m) = false) ∧
    (∃ (s : State) (m : Fin 2), s.live = true ∧ s.on 10 = true ∧ s.fb (F.ETH_MCFG.EN ↑m) = true ∧ s.fb (F.ETH_MCFG.AUTO ↑m) = true) :=
  ⟨⟨(((((((upState.setB (F.ETH_MCFG.AUTO 0) false).setB (F.ETH_MSTAT.LINKBAD 0) false).setB (F.ETH_MCFG.EN 0) true).setB (F.ETH_MCFG.RXEN 0) true).setB (F.ETH_MCFG.PROMISC 0) true).setB (F.ETH_MCFG.UNTAG 0) true)), (0), (3), by decide +kernel⟩,
   ⟨(((((((upState.setB (F.ETH_MCFG.AUTO 0) false).setB (F.ETH_MSTAT.LINKBAD 0) false).setB (F.ETH_MCFG.EN 0) true).setB (F.ETH_MCFG.RXEN 0) true).setB (F.ETH_MCFG.PROMISC 0) true).setB (F.ETH_MCFG.UNTAG 0) true).modMac 0 fun z => { z with ts := [1, 2, 3, 4] }), (0), (0), by decide +kernel⟩,
   ⟨((upState.setB ⟨R.SYSC_PSTAT, 10, 10⟩ (true))), (0), by decide +kernel⟩,
   ⟨(upState.modMac 1 fun z => { z with ts := [5] }), (1), (5), ([]), by decide +kernel⟩,
   ⟨(((upState.setB ⟨R.SYSC_PSTAT, 10, 10⟩ (true)).setB (F.ETH_DMAPCTL.VALID) (true))), by decide +kernel⟩,
   ⟨(((upState.setB ⟨R.SYSC_PSTAT, 10, 10⟩ (true)).setB (F.ETH_DMAPCTL.VALID) (false))), by decide +kernel⟩,
   ⟨(upState.tEth fun z => { z with tpo := [(1, some 100)] }), (1), (100), by decide +kernel⟩,
   ⟨(((upState.setB ⟨R.SYSC_PSTAT, 10, 10⟩ (true)).setB ((F.ETH_MDIO.GO (0 : Fin 2))) (true))), (0), by decide +kernel⟩,
   ⟨(((upState.setB ⟨R.SYSC_PSTAT, 10, 10⟩ (true)).setB ((F.ETH_MDIO.GO (0 : Fin 2))) (false))), (0), by decide +kernel⟩,
   ⟨((((upState.setB ⟨R.SYSC_PSTAT, 10, 10⟩ (true)).setB ((F.ETH_MCFG.EN (0 : Fin 2))) (true)).setB ((F.ETH_MCFG.AUTO (0 : Fin 2))) (true))), (0), by decide +kernel⟩⟩

theorem witness_CanFramesAndAttempts :
    (∃ (s : State) (n : Fin 2), s.on 10 = true ∧ s.fb (F.CAN_CFG.EN ↑n) = true) ∧
    (∃ (s : State) (n : Fin 2), s.on 10 = true ∧ s.fb (F.CAN_CFG.EN ↑n) = false) ∧
    (∃ (s : State) (n : Fin 2) (err : BitVec 4), s.canOn ↑n = true ∧ s.fb (F.CAN_STAT.SLEEP ↑n) = false ∧ err ≠ 0) ∧
    (∃ (s : State) (e : DWord) (l : List DWord), s.live = true ∧ s.on 10 = true ∧ s.qOn 22 = true ∧ (s.queue 22 = e :: l) ∧ s.f (F.CAN_STAT.STATE (fld e 63 63)) = 2) ∧
    (∃ (s : State) (e : DWord) (l : List DWord), s.live = true ∧ s.on 10 = true ∧ s.qOn 22 = true ∧ (s.queue 22 = e :: l) ∧ s.f (F.CAN_STAT.STATE (fld e 63 63)) = 3) ∧
    (∃ (s : State) (e : DWord) (l : List DWord), s.live = true ∧ s.on 10 = true ∧ s.qOn 22 = true ∧ (s.queue 22 = e :: l) ∧ (s.f (F.CAN_STAT.STATE (fld e 63 63)) ≤ 1) ∧ s.fb (F.CAN_STAT.SLEEP (fld e 63 63)) = true) ∧
    (∃ (s : State) (e : DWord) (l : List DWord), s.live = true ∧ s.on 10 = true ∧ s.qOn 22 = true ∧ (s.queue 22 = e :: l) ∧ s.txDisc (fld e 63 63) e = none ∧ s.canOn (fld e 63 63) = true ∧ s.fb (F.CAN_CFG.LISTEN (fld e 63 63)) = false ∧ s.fb (F.CAN_STAT.TXBUSY (fld e 63 63)) = false ∧ (s.canCtl (fld e 63 63)).sleepPend = false ∧ (s.f (F.CAN_ERRCNT.TEC (fld e 63 63)) < 256)) ∧
    (∃ (s : State) (n : Fin 2) (e : DWord) (tdcv : BitVec 8), s.canOn ↑n = true ∧ (s.canCtl ↑n).tx = some e ∧ (¬(127 < tdcv.toNat ∧ s.fb (F.CAN_CFG.TDCEN ↑n) = true ∧ bitAt e 62 = true ∧ bitAt e 61 = true))) ∧
    (∃ (s : State) (n : Fin 2) (e : DWord) (tdcv : BitVec 8), s.canOn ↑n = true ∧ (s.canCtl ↑n).tx = some e ∧ (127 < tdcv.toNat ∧ s.fb (F.CAN_CFG.TDCEN ↑n) = true ∧ bitAt e 62 = true ∧ bitAt e 61 = true)) :=
  ⟨⟨(((upState.setB ⟨R.SYSC_PSTAT, 10, 10⟩ (true)).setB ((F.CAN_CFG.EN (0 : Fin 2))) (true))), (0), by decide +kernel⟩,
   ⟨(((upState.setB ⟨R.SYSC_PSTAT, 10, 10⟩ (true)).setB ((F.CAN_CFG.EN (0 : Fin 2))) (false))), (0), by decide +kernel⟩,
   ⟨((upState.setB ((F.CAN_STAT.SLEEP (0 : Fin 2))) (false))), (0), (1), by decide +kernel⟩,
   ⟨(((((upState.setB ⟨R.SYSC_PSTAT, 10, 10⟩ (true)).setB (F.HQ_CFG.EN 22) (true)).setQueue 22 ((0 : DWord) :: ([] : List DWord))).setF ((F.CAN_STAT.STATE (fld (0 : DWord) 63 63))) (2))), (0), ([]), by decide +kernel⟩,
   ⟨(((((upState.setB ⟨R.SYSC_PSTAT, 10, 10⟩ (true)).setB (F.HQ_CFG.EN 22) (true)).setQueue 22 ((0 : DWord) :: ([] : List DWord))).setF ((F.CAN_STAT.STATE (fld (0 : DWord) 63 63))) (3))), (0), ([]), by decide +kernel⟩,
   ⟨((((((upState.setB ⟨R.SYSC_PSTAT, 10, 10⟩ (true)).setB (F.HQ_CFG.EN 22) (true)).setQueue 22 ((0 : DWord) :: ([] : List DWord))).setF ((F.CAN_STAT.STATE (fld (0 : DWord) 63 63))) ((1))).setB ((F.CAN_STAT.SLEEP (fld (0 : DWord) 63 63))) (true))), (0), ([]), by decide +kernel⟩,
   ⟨(((((((upState.setB ⟨R.SYSC_PSTAT, 10, 10⟩ (true)).setB (F.HQ_CFG.EN 22) (true)).setQueue 22 ((0 : DWord) :: ([] : List DWord))).setB ((F.CAN_CFG.LISTEN (fld (0 : DWord) 63 63))) (false)).setB ((F.CAN_STAT.TXBUSY (fld (0 : DWord) 63 63))) (false)).setF ((F.CAN_ERRCNT.TEC (fld (0 : DWord) 63 63))) ((256)-1))), (0), ([]), by decide +kernel⟩,
   ⟨((upState.setB (F.CAN_CFG.EN 1) true).modCan 1 fun z => { z with tx := some 0 }), (1), (0), (0), by decide +kernel⟩,
   ⟨(((upState.setB (F.CAN_CFG.EN 0) true).setB (F.CAN_CFG.TDCEN 0) true).modCan 0 fun z => { z with tx := some 0x6000000000000000 }), (0), (0x6000000000000000), (128), by decide +kernel⟩⟩

theorem witness_CanStatesSleepAndWake :
    (∃ (s : State) (n : Fin 2), s.live = true ∧ s.on 10 = true ∧ s.fb (F.CAN_CFG.EN ↑n) = true ∧ (256 ≤ s.f (F.CAN_ERRCNT.TEC ↑n)) ∧ s.f (F.CAN_STAT.STATE ↑n) ≠ 2 ∧ (s.f (F.FCU_REACT.REACT 29) ≤ 2)) ∧
    (∃ (s : State) (n : Fin 2), s.on 10 = true ∧ s.fb (F.CAN_CFG.CONF ↑n) = true ∧ s.f (F.CAN_STAT.STATE ↑n) = 2) ∧
    (∃ (s : State) (n : Fin 2), s.on 10 = true ∧ s.fb (F.CAN_CFG.CONF ↑n) = false) ∧
    (∃ (s : State) (n : Fin 2), s.live = true ∧ s.on 10 = true ∧ s.fb (F.CAN_STAT.RECOVERING ↑n) = true) ∧
    (∃ (s : State) (n : Fin 2), s.on 10 = true ∧ s.fb (F.CAN_STAT.TXBUSY ↑n) = true) ∧
    (∃ (s : State) (n : Fin 2), s.on 10 = true ∧ s.fb (F.CAN_STAT.TXBUSY ↑n) = false) ∧
    (∃ (s : State) (n : Fin 2), s.live = true ∧ s.on 10 = true ∧ s.fb (F.CAN_CFG.EN ↑n) = true ∧ s.fb (F.CAN_STAT.SLEEP ↑n) = true ∧ s.fb (F.CAN_WUFID.EN ↑n) = true) :=
  ⟨⟨((((((upState.setB ⟨R.SYSC_PSTAT, 10, 10⟩ (true)).setB ((F.CAN_CFG.EN (0 : Fin 2))) (true)).setF ((F.CAN_ERRCNT.TEC (0 : Fin 2))) ((256))).setF ((F.CAN_STAT.STATE (0 : Fin 2))) (1)).setF ((F.FCU_REACT.REACT 29)) ((2)))), (0), by decide +kernel⟩,
   ⟨((((upState.setB ⟨R.SYSC_PSTAT, 10, 10⟩ (true)).setB ((F.CAN_CFG.CONF (0 : Fin 2))) (true)).setF ((F.CAN_STAT.STATE (0 : Fin 2))) (2))), (0), by decide +kernel⟩,
   ⟨(((upState.setB ⟨R.SYSC_PSTAT, 10, 10⟩ (true)).setB ((F.CAN_CFG.CONF (0 : Fin 2))) (false))), (0), by decide +kernel⟩,
   ⟨(((upState.setB ⟨R.SYSC_PSTAT, 10, 10⟩ (true)).setB ((F.CAN_STAT.RECOVERING (0 : Fin 2))) (true))), (0), by decide +kernel⟩,
   ⟨(((upState.setB ⟨R.SYSC_PSTAT, 10, 10⟩ (true)).setB ((F.CAN_STAT.TXBUSY (0 : Fin 2))) (true))), (0), by decide +kernel⟩,
   ⟨(((upState.setB ⟨R.SYSC_PSTAT, 10, 10⟩ (true)).setB ((F.CAN_STAT.TXBUSY (0 : Fin 2))) (false))), (0), by decide +kernel⟩,
   ⟨(((((upState.setB ⟨R.SYSC_PSTAT, 10, 10⟩ (true)).setB ((F.CAN_CFG.EN (0 : Fin 2))) (true)).setB ((F.CAN_STAT.SLEEP (0 : Fin 2))) (true)).setB ((F.CAN_WUFID.EN (0 : Fin 2))) (true))), (0), by decide +kernel⟩⟩

theorem witness_AssayRegistersAndReports :
    (∃ (s : State) (req : Requester) (n : Fin 8), s.on 2 = true ∧ ((req = Requester.core0 ∨ req = Requester.pair) ∧ (↑n = 6 ∨ ↑n = 7))) ∧
    (∃ (s : State) (req : Requester) (n : Fin 8), s.on 2 = true ∧ (¬((req = Requester.core0 ∨ req = Requester.pair) ∧ (↑n = 6 ∨ ↑n = 7)))) ∧
    (∃ (s : State) (n : Fin 8) (d : List Byte) (l : List (Nat × List Byte)), s.on 2 = true ∧ (s.tru.ext = (↑n, d) :: l)) ∧
    (∃ (s : State) (req : Requester) (b : Fin 2), s.live = true ∧ (if (↑b : Nat) = 1 then req = Requester.host else req ∈ [Requester.pair, Requester.ce, Requester.core0, Requester.core1, Requester.core2, Requester.core3]) ∧ (∃ (r : TruReq), r ∈ s.tru.reqs ∧ r.buf = ↑b)) ∧
    (∃ (s : State) (req : Requester) (b : Fin 2) (key : KeyCheck), s.live = true ∧ (if (↑b : Nat) = 1 then req = Requester.host else req ∈ [Requester.pair, Requester.ce, Requester.core0, Requester.core1, Requester.core2, Requester.core3]) ∧ (s.tru.reqs = []) ∧ s.tru.body = none ∧ key = KeyCheck.good) ∧
    (∃ (s : State) (req : Requester) (b : Fin 2) (key : KeyCheck), s.live = true ∧ (if (↑b : Nat) = 1 then req = Requester.host else req ∈ [Requester.pair, Requester.ce, Requester.core0, Requester.core1, Requester.core2, Requester.core3]) ∧ (s.tru.reqs = []) ∧ s.tru.body = none ∧ key ≠ KeyCheck.good ∧ s.f (F.FCU_REACT.REACT 5) ≠ 4) ∧
    (∃ (s : State) (f : List Word), s.rngOn = true ∧ fClass f = 5 ∧ fld (fWord f 3) 31 24 = 64 ∧ (s.hear f).snd = true ∧ (s.hear f).fst.forMe f = true ∧ (∀ (r : TruReq), r ∈ (s.hear f).fst.tru.reqs → r.buf ≠ 2) ∧ ((s.hear f).fst.tru.body = none → (s.hear f).fst.tru.reqs = [])) ∧
    (∃ (s : State) (m : List Byte) (r : TruReq), s.live = true ∧ s.tru.body = some m ∧ (s.tru.reqs = [r]) ∧ (r.buf < 2) ∧ m.length = 512 ∧ (s.tru.mgmt = [])) ∧
    (∃ (s : State), s.on 2 = true ∧ s.fb F.TRU_IDENT.LOCK = false) ∧
    (∃ (s : State), s.on 2 = true ∧ s.fb F.TRU_IDENT.LOCK = true) :=
  ⟨⟨(upState), (.core0), (6), by decide +kernel⟩,
   ⟨((upState.setB ⟨R.SYSC_PSTAT, 2, 2⟩ (true))), (.pair), (0), by decide +kernel⟩,
   ⟨(((upState.setB ⟨R.SYSC_PSTAT, 2, 2⟩ (true)).tTru fun z => { z with ext := ((0 : Fin 8), ([] : List Byte)) :: ([] : List (Nat × List Byte)) })), (0), ([]), ([]), by decide +kernel⟩,
   ⟨(upState.tTru fun z => { z with reqs := [⟨1, [], 0, .good⟩] }), (.host), (1), by decide +kernel⟩,
   ⟨(((upState.tTru fun z => { z with reqs := [] }).tTru fun z => { z with body := none })), (.pair), (0), (.good), by decide +kernel⟩,
   ⟨((((upState.tTru fun z => { z with reqs := [] }).tTru fun z => { z with body := none }).setF ((F.FCU_REACT.REACT 5)) (1))), (.pair), (0), (.keyBad), by decide +kernel⟩,
   ⟨((upState.setB F.RNG_STATUS.JOINED true)), ([0x50400000#32, 0#32, 0#32, 0x40000000#32]), by decide +kernel⟩,
   ⟨(upState.tTru fun z => { z with body := some (List.replicate 512 0), reqs := [⟨0, [], 0, .good⟩] }), (List.replicate 512 0), (⟨0, [], 0, .good⟩), by decide +kernel⟩,
   ⟨(((upState.setB ⟨R.SYSC_PSTAT, 2, 2⟩ (true)).setB (F.TRU_IDENT.LOCK) (false))), by decide +kernel⟩,
   ⟨(((upState.setB ⟨R.SYSC_PSTAT, 2, 2⟩ (true)).setB (F.TRU_IDENT.LOCK) (true))), by decide +kernel⟩⟩

theorem witness_FlashAndConfirmation :
    (∃ (s : State) (erase : Bool), s.live = true ∧ (s.fb F.TRU_FLCMD.BUSY = true ∨ regionOf ((BitVec.toNat (s.reg R.TRU_FLADDR) / if erase = true then 65536 else 256) * if erase = true then 65536 else 256) ≠ Region.flash ∨ s.admitted = true ∧ ((BitVec.toNat (s.reg R.TRU_FLADDR) / if erase = true then 65536 else 256) * if erase = true then 65536 else 256) < 1627389952 + s.f F.TRU_BOOTSEL.ACTIVE * 33554432 + 33554432 ∧ 1627389952 + s.f F.TRU_BOOTSEL.ACTIVE * 33554432 < ((BitVec.toNat (s.reg R.TRU_FLADDR) / if erase = true then 65536 else 256) * if erase = true then 65536 else 256) + if erase = true then 65536 else 256)) ∧
    (∃ (s : State) (erase : Bool), s.live = true ∧ (¬(s.fb F.TRU_FLCMD.BUSY = true ∨ regionOf ((BitVec.toNat (s.reg R.TRU_FLADDR) / if erase = true then 65536 else 256) * if erase = true then 65536 else 256) ≠ Region.flash ∨ s.admitted = true ∧ ((BitVec.toNat (s.reg R.TRU_FLADDR) / if erase = true then 65536 else 256) * if erase = true then 65536 else 256) < 1627389952 + s.f F.TRU_BOOTSEL.ACTIVE * 33554432 + 33554432 ∧ 1627389952 + s.f F.TRU_BOOTSEL.ACTIVE * 33554432 < ((BitVec.toNat (s.reg R.TRU_FLADDR) / if erase = true then 65536 else 256) * if erase = true then 65536 else 256) + if erase = true then 65536 else 256))) ∧
    (∃ (s : State) (erase : Bool) (a : Nat) (page : List Byte), s.on 2 = true ∧ (s.tru.fl = some (erase, a, page)) ∧ (s.tru.mgmt = [])) ∧
    (∃ (s : State), s.live = true ∧ (s.fb F.TRU_BOOTSEL.TRIAL = true ∧ s.f F.TRU_BOOTSEL.NEXT = s.f F.TRU_BOOTSEL.ACTIVE)) ∧
    (∃ (s : State), s.live = true ∧ (¬(s.fb F.TRU_BOOTSEL.TRIAL = true ∧ s.f F.TRU_BOOTSEL.NEXT = s.f F.TRU_BOOTSEL.ACTIVE))) :=
  ⟨⟨((upState.setB (F.TRU_FLCMD.BUSY) (true))), (false), by decide +kernel⟩,
   ⟨(upState.setReg R.TRU_FLADDR 0x6FFFFFFF#32), (false), by decide +kernel⟩,
   ⟨((((upState.setB ⟨R.SYSC_PSTAT, 2, 2⟩ (true)).tTru fun z => { z with fl := some ((false : Bool), (0 : Nat), ([] : List Byte)) }).tTru fun z => { z with mgmt := [] })), (false), (0), ([]), by decide +kernel⟩,
   ⟨((upState.setB (F.TRU_BOOTSEL.TRIAL) (true))), by decide +kernel⟩,
   ⟨(upState), by decide +kernel⟩⟩

theorem witness_MailboxRequests :
    (∃ (s : State) (h : DWord) (l : List DWord), (s.mgmtServes 1 = true ∧ s.qOn 25 = true ∧ s.queue 25 = h :: l ∧ fld h 47 40 ≤ l.length ∧ fld h 63 56 = 1 ∧ s.tru.mgmt = [])) ∧
    (∃ (s : State) (h : DWord) (l : List DWord), (s.mgmtServes 2 = true ∧ s.qOn 25 = true ∧ s.queue 25 = h :: l ∧ fld h 47 40 ≤ l.length ∧ fld h 63 56 = 2 ∧ s.tru.mgmt = []) ∧ (fld h 47 40 ≠ 4 ∨ ∃ (r : TruReq), r ∈ s.tru.reqs ∧ r.buf = 0)) ∧
    (∃ (s : State) (h : DWord) (l : List DWord), (s.mgmtServes 2 = true ∧ s.qOn 25 = true ∧ s.queue 25 = h :: l ∧ fld h 47 40 ≤ l.length ∧ fld h 63 56 = 2 ∧ s.tru.mgmt = []) ∧ fld h 47 40 = 4 ∧ (s.tru.reqs = []) ∧ s.tru.body = none ∧ s.fb F.TRU_STATUS.KEYBAD = false) ∧
    (∃ (s : State) (h : DWord) (l : List DWord), (s.mgmtServes 3 = true ∧ s.qOn 25 = true ∧ s.queue 25 = h :: l ∧ fld h 47 40 ≤ l.length ∧ fld h 63 56 = 3 ∧ s.tru.mgmt = []) ∧ s.adm.request ≠ none) ∧
    (∃ (s : State) (h : DWord) (l : List DWord), (s.mgmtServes 3 = true ∧ s.qOn 25 = true ∧ s.queue 25 = h :: l ∧ fld h 47 40 ≤ l.length ∧ fld h 63 56 = 3 ∧ s.tru.mgmt = []) ∧ s.adm.request = none ∧ s.grave = false ∧ s.fb F.RNG_STATUS.OBSERVER = false ∧ s.fb F.ADM_STATUS.BUSY = false ∧ s.admitted = false ∧ s.fb F.ADM_STATUS.UNLOADING = false) ∧
    (∃ (s : State) (h : DWord) (l : List DWord), (s.mgmtServes 4 = true ∧ s.qOn 25 = true ∧ s.queue 25 = h :: l ∧ fld h 47 40 ≤ l.length ∧ fld h 63 56 = 4 ∧ s.tru.mgmt = []) ∧ (s.fb F.ADM_STATUS.BUSY = true ∨ s.fb F.ADM_STATUS.UNLOADING = true)) ∧
    (∃ (s : State) (h : DWord) (l : List DWord), (s.mgmtServes 4 = true ∧ s.qOn 25 = true ∧ s.queue 25 = h :: l ∧ fld h 47 40 ≤ l.length ∧ fld h 63 56 = 4 ∧ s.tru.mgmt = []) ∧ s.fb F.ADM_STATUS.BUSY = false ∧ s.fb F.ADM_STATUS.UNLOADING = false ∧ s.admitted = true) ∧
    (∃ (s : State) (h : DWord) (l : List DWord), (s.mgmtServes 5 = true ∧ s.qOn 25 = true ∧ s.queue 25 = h :: l ∧ fld h 47 40 ≤ l.length ∧ fld h 63 56 = 5 ∧ s.tru.mgmt = []) ∧ (fld h 31 28 = 0 ∨ 3 < fld h 31 28 ∨ fld h 31 28 ≠ 3 ∧ s.fb F.RNG_HOSTAT.BUSY = true)) ∧
    (∃ (s : State) (h : DWord) (l : List DWord), (s.mgmtServes 5 = true ∧ s.qOn 25 = true ∧ s.queue 25 = h :: l ∧ fld h 47 40 ≤ l.length ∧ fld h 63 56 = 5 ∧ s.tru.mgmt = []) ∧ (fld h 31 28 = 1 ∨ fld h 31 28 = 2) ∧ s.fb F.RNG_HOSTAT.BUSY = false) ∧
    (∃ (s : State) (h : DWord) (l : List DWord), (s.mgmtServes 6 = true ∧ s.qOn 25 = true ∧ s.queue 25 = h :: l ∧ fld h 47 40 ≤ l.length ∧ fld h 63 56 = 6 ∧ s.tru.mgmt = []) ∧ (fld h 47 40 ≤ 32) ∧ s.fb F.TRU_FLCMD.BUSY = true) ∧
    (∃ (s : State) (h : DWord) (l : List DWord), (s.mgmtServes 6 = true ∧ s.qOn 25 = true ∧ s.queue 25 = h :: l ∧ fld h 47 40 ≤ l.length ∧ fld h 63 56 = 6 ∧ s.tru.mgmt = []) ∧ (fld h 47 40 ≤ 32) ∧ s.fb F.TRU_FLCMD.BUSY = false ∧ (regionOf (fld h 31 0 / 256 * 256) = Region.flash) ∧ s.admitted = false) ∧
    (∃ (s : State) (h : DWord) (l : List DWord), (s.mgmtServes 7 = true ∧ s.qOn 25 = true ∧ s.queue 25 = h :: l ∧ fld h 47 40 ≤ l.length ∧ fld h 63 56 = 7 ∧ s.tru.mgmt = []) ∧ s.fb F.TRU_FLCMD.BUSY = true) ∧
    (∃ (s : State) (h : DWord) (l : List DWord), (s.mgmtServes 7 = true ∧ s.qOn 25 = true ∧ s.queue 25 = h :: l ∧ fld h 47 40 ≤ l.length ∧ fld h 63 56 = 7 ∧ s.tru.mgmt = []) ∧ s.fb F.TRU_FLCMD.BUSY = false ∧ (regionOf (fld h 31 0 / 65536 * 65536) = Region.flash) ∧ s.admitted = false) ∧
    (∃ (s : State) (h : DWord) (l : List DWord), (s.mgmtServes 8 = true ∧ s.qOn 25 = true ∧ s.queue 25 = h :: l ∧ fld h 47 40 ≤ l.length ∧ fld h 63 56 = 8 ∧ s.tru.mgmt = [])) ∧
    (∃ (s : State) (h : DWord) (l : List DWord), (s.mgmtServes 9 = true ∧ s.qOn 25 = true ∧ s.queue 25 = h :: l ∧ fld h 47 40 ≤ l.length ∧ fld h 63 56 = 9 ∧ s.tru.mgmt = []) ∧ (s.fb F.TRU_BOOTSEL.TRIAL = true ∧ s.f F.TRU_BOOTSEL.NEXT = s.f F.TRU_BOOTSEL.ACTIVE)) ∧
    (∃ (s : State) (h : DWord) (l : List DWord), (s.mgmtServes 9 = true ∧ s.qOn 25 = true ∧ s.queue 25 = h :: l ∧ fld h 47 40 ≤ l.length ∧ fld h 63 56 = 9 ∧ s.tru.mgmt = []) ∧ (¬(s.fb F.TRU_BOOTSEL.TRIAL = true ∧ s.f F.TRU_BOOTSEL.NEXT = s.f F.TRU_BOOTSEL.ACTIVE))) ∧
    (∃ (s : State) (h : DWord) (l : List DWord), (s.mgmtServes 10 = true ∧ s.qOn 25 = true ∧ s.queue 25 = h :: l ∧ fld h 47 40 ≤ l.length ∧ fld h 63 56 = 10 ∧ s.tru.mgmt = []) ∧ s.on 0 = true) ∧
    (∃ (s : State) (h : DWord) (l : List DWord), (s.mgmtServes 11 = true ∧ s.qOn 25 = true ∧ s.queue 25 = h :: l ∧ fld h 47 40 ≤ l.length ∧ fld h 63 56 = 11 ∧ s.tru.mgmt = []) ∧ fld h 30 28 = 0) ∧
    (∃ (s : State) (h : DWord) (l : List DWord), (s.mgmtServes 11 = true ∧ s.qOn 25 = true ∧ s.queue 25 = h :: l ∧ fld h 47 40 ≤ l.length ∧ fld h 63 56 = 11 ∧ s.tru.mgmt = []) ∧ fld h 30 28 ≠ 0) ∧
    (∃ (s : State) (h : DWord) (l : List DWord) (op : Nat), (s.mgmtServes op = true ∧ s.qOn 25 = true ∧ s.queue 25 = h :: l ∧ fld h 47 40 ≤ l.length ∧ fld h 63 56 = op ∧ s.tru.mgmt = []) ∧ s.mgmtServes 1 = true ∧ (¬(1 ≤ op ∧ op ≤ 11))) ∧
    (∃ (s : State) (h : DWord) (l : List DWord), s.mgmtServes 8 = true ∧ s.rngOn = true ∧ s.rngJoined = true ∧ (fld h 47 40 ≤ l.length) ∧ fld h 63 56 = 8) :=
  ⟨⟨(((upState.setB (F.HQ_CFG.EN 25) true).setQueue 25 [0x0100000000000000])), (0x0100000000000000), ([]), by decide +kernel⟩,
   ⟨(((upState.setB (F.HQ_CFG.EN 25) true).setQueue 25 [0x0200000000000000])), (0x0200000000000000), ([]), by decide +kernel⟩,
   ⟨(((upState.setB (F.HQ_CFG.EN 25) true).setQueue 25 [0x0200040000000000, 1, 2, 3, 4])), (0x0200040000000000), ([1, 2, 3, 4]), by decide +kernel⟩,
   ⟨(((upState.setB (F.HQ_CFG.EN 25) true).setQueue 25 [0x0300000000000000]).tAdm fun z => { z with request := some 0 }), (0x0300000000000000), ([]), by decide +kernel⟩,
   ⟨(((upState.setB (F.HQ_CFG.EN 25) true).setQueue 25 [0x0300000000000000])), (0x0300000000000000), ([]), by decide +kernel⟩,
   ⟨((((upState.setB F.ADM_STATUS.BUSY true).setB (F.HQ_CFG.EN 25) true).setQueue 25 [0x0400000000000000])), (0x0400000000000000), ([]), by decide +kernel⟩,
   ⟨((((upState.setB F.ADM_STATUS.ADMITTED true).setB (F.HQ_CFG.EN 25) true).setQueue 25 [0x0400000000000000])), (0x0400000000000000), ([]), by decide +kernel⟩,
   ⟨(((upState.setB (F.HQ_CFG.EN 25) true).setQueue 25 [0x0500000000000000])), (0x0500000000000000), ([]), by decide +kernel⟩,
   ⟨(((upState.setB (F.HQ_CFG.EN 25) true).setQueue 25 [0x0500000010000000])), (0x0500000010000000), ([]), by decide +kernel⟩,
   ⟨((((upState.setB F.TRU_FLCMD.BUSY true).setB (F.HQ_CFG.EN 25) true).setQueue 25 [0x0600000000000000])), (0x0600000000000000), ([]), by decide +kernel⟩,
   ⟨(((upState.setB (F.HQ_CFG.EN 25) true).setQueue 25 [0x0600000060000000])), (0x0600000060000000), ([]), by decide +kernel⟩,
   ⟨((((upState.setB F.TRU_FLCMD.BUSY true).setB (F.HQ_CFG.EN 25) true).setQueue 25 [0x0700000000000000])), (0x0700000000000000), ([]), by decide +kernel⟩,
   ⟨(((upState.setB (F.HQ_CFG.EN 25) true).setQueue 25 [0x070000006FFFFFFF])), (0x070000006FFFFFFF), ([]), by decide +kernel⟩,
   ⟨(((upState.setB (F.HQ_CFG.EN 25) true).setQueue 25 [0x0800000000000000])), (0x0800000000000000), ([]), by decide +kernel⟩,
   ⟨(((((upState.setB F.TRU_BOOTSEL.TRIAL true).setF F.TRU_BOOTSEL.NEXT 0).setB (F.HQ_CFG.EN 25) true).setQueue 25 [0x0900000000000000])), (0x0900000000000000), ([]), by decide +kernel⟩,
   ⟨(((upState.setB (F.HQ_CFG.EN 25) true).setQueue 25 [0x0900000000000000])), (0x0900000000000000), ([]), by decide +kernel⟩,
   ⟨(((upState.setB (F.HQ_CFG.EN 25) true).setQueue 25 [0x0A00000000000000])), (0x0A00000000000000), ([]), by decide +kernel⟩,
   ⟨(((upState.setB (F.HQ_CFG.EN 25) true).setQueue 25 [0x0B00000000000000])), (0x0B00000000000000), ([]), by decide +kernel⟩,
   ⟨(((upState.setB (F.HQ_CFG.EN 25) true).setQueue 25 [0x0B00000010000000])), (0x0B00000010000000), ([]), by decide +kernel⟩,
   ⟨((((upState.setB (F.HQ_CFG.EN 25) (true)).setQueue 25 ((0 : DWord) :: ([] : List DWord))).tTru fun z => { z with mgmt := [] })), (0), ([]), (0), by decide +kernel⟩,
   ⟨((((upState.setB F.RNG_STATUS.JOINED true).setB (F.HQ_CFG.EN 25) true).setQueue 25 [0x0800000000000000])), (0x0800000000000000), ([]), by decide +kernel⟩⟩

theorem witness_ResetReleaseAndHandOver :
    (∃ (s : State), s.pwr.inReset = false) ∧
    (∃ (s : State), s.pwr.inReset = true ∧ s.on 0 = true ∧ s.on 3 = false) ∧
    (∃ (s : State), s.pwr.inReset = true ∧ s.on 0 = true ∧ s.on 3 = true) ∧
    (∃ (s : State), s.live = true ∧ s.on 3 = true ∧ s.pwr.rom = RomStage.running) :=
  ⟨⟨((upState.tPwr fun z => { z with inReset := false })), by decide +kernel⟩,
   ⟨((((upState.tPwr fun z => { z with inReset := true }).setB ⟨R.SYSC_PSTAT, 0, 0⟩ (true)).setB ⟨R.SYSC_PSTAT, 3, 3⟩ (false))), by decide +kernel⟩,
   ⟨((((upState.tPwr fun z => { z with inReset := true }).setB ⟨R.SYSC_PSTAT, 0, 0⟩ (true)).setB ⟨R.SYSC_PSTAT, 3, 3⟩ (true))), by decide +kernel⟩,
   ⟨(((upState.setB ⟨R.SYSC_PSTAT, 3, 3⟩ (true)).tPwr fun z => { z with rom := RomStage.running })), by decide +kernel⟩⟩

theorem witness_HostPortAccessRules :
    (∃ (s : State) (a : Word), s.on 0 = true ∧ s.on 3 = false ∧ bedrockReg (BitVec.toNat a) = false) ∧
    (∃ (s : State) (a : Word), s.on 0 = true ∧ s.on 3 = true ∧ (BitVec.toNat a % 4 ≠ 0 ∨ regionOf (BitVec.toNat a) ∈ [Region.hole, Region.pool, Region.pairTcm, Region.flash])) ∧
    (∃ (s : State) (a : Word), s.on 0 = true ∧ s.on 3 = true ∧ BitVec.toNat a % 4 = 0 ∧ (¬regionOf (BitVec.toNat a) ∈ [Region.hole, Region.pool, Region.pairTcm, Region.flash, Region.periph]) ∧ s.memOn (regionOf (BitVec.toNat a)) = true ∧ s.isBad (BitVec.toNat a) = false) ∧
    (∃ (s : State) (a : Word), s.on 0 = true ∧ s.on 3 = true ∧ BitVec.toNat a % 4 = 0 ∧ regionOf (BitVec.toNat a) = Region.periph) ∧
    (∃ (s : State) (a : Word), s.on 0 = true ∧ s.on 3 = true ∧ (BitVec.toNat a % 4 ≠ 0 ∨ hostNormalReg (BitVec.toNat a) = false ∧ s.commission = false)) ∧
    (∃ (s : State) (a : Word), s.on 0 = true ∧ s.on 3 = true ∧ BitVec.toNat a % 4 = 0 ∧ hostNormalReg (BitVec.toNat a) = true) ∧
    (∃ (s : State) (a : Word), s.on 0 = true ∧ s.on 3 = true ∧ s.commission = true ∧ BitVec.toNat a % 4 = 0 ∧ regionOf (BitVec.toNat a) = Region.sram) ∧
    (∃ (s : State) (req : Requester) (a : Nat) (r : RegRow), s.live = true ∧ req ≠ Requester.host ∧ (regRow? a = some r) ∧ s.on r.dom = false) ∧
    (∃ (s : State) (req : Requester) (a : Nat) (r : RegRow) (v : Word), s.live = true ∧ req ≠ Requester.host ∧ (regRow? a = some r) ∧ s.on r.dom = true ∧ s.hookWrite req a v = none) ∧
    (∃ (s : State) (req : Requester) (a : Nat), s.live = true ∧ req ≠ Requester.host ∧ (regRow? a = none)) :=
  ⟨⟨(((upState.setB ⟨R.SYSC_PSTAT, 0, 0⟩ (true)).setB ⟨R.SYSC_PSTAT, 3, 3⟩ (false))), (0), by decide +kernel⟩,
   ⟨(((upState.setB ⟨R.SYSC_PSTAT, 0, 0⟩ (true)).setB ⟨R.SYSC_PSTAT, 3, 3⟩ (true))), (1), by decide +kernel⟩,
   ⟨(((upState.setB ⟨R.SYSC_PSTAT, 0, 0⟩ (true)).setB ⟨R.SYSC_PSTAT, 3, 3⟩ (true))), (0), by decide +kernel⟩,
   ⟨(upState), (0x4010FFFC), by decide +kernel⟩,
   ⟨(((upState.setB ⟨R.SYSC_PSTAT, 0, 0⟩ (true)).setB ⟨R.SYSC_PSTAT, 3, 3⟩ (true))), (0), by decide +kernel⟩,
   ⟨(upState), (wN R.SYSC_PCMD), by decide +kernel⟩,
   ⟨(upState.setB F.SYSC_MODE.MODEACT true), (0x203FFFFC), by decide +kernel⟩,
   ⟨(upState.setB ⟨R.SYSC_PSTAT, 6, 6⟩ false), (.pair), (1074266112), (⟨1074266112, [], 0, 6, 1, 0, 0⟩), by decide +kernel⟩,
   ⟨(upState), (.pair), (1074266112), (⟨1074266112, [], 0, 6, 1, 0, 0⟩), (0), by decide +kernel⟩,
   ⟨(upState), (.pair), (0), by decide +kernel⟩⟩

theorem witness_PatternTablesLockWithTheirClass :
    (∃ (s : State) (cls : Fin 16), s.admitted = true ∧ (∃ (p : Nat), p ∈ ctxIdx ∧ fld (s.naming p) 3 0 = ↑cls ∧ s.naming p ≠ 0)) ∧
    (∃ (s : State) (cls : Fin 16) (i : Fin 32), s.live = true ∧ s.on 6 = true ∧ (s.admitted = false ∨ ∀ (p : Nat), p ∈ ctxIdx → ¬(fld (s.naming p) 3 0 = ↑cls ∧ s.naming p ≠ 0)) ∧ ↑i ≠ 0) :=
  ⟨⟨((upState.setB F.ADM_STATUS.ADMITTED true).tAdm fun z => { z with cells := [(1, 0x80000001#32)] }), (1), by decide +kernel⟩,
   ⟨((upState.setB ⟨R.SYSC_PSTAT, 6, 6⟩ (true))), (0), (1), by decide +kernel⟩⟩

theorem witness_EmptyQueueIsOneCycle :
    (∃ (s : State), (s.pending = []) ∧ s.on 1 = true ∧ s.pwr.inReset = false ∧ s.fb F.CLK_CTRL.DLL_EN = true ∧ s.tm.started = true) ∧
    (∃ (s : State), (s.pending = []) ∧ (s.on 1 = false ∨ s.pwr.inReset = true ∨ s.fb F.CLK_CTRL.DLL_EN = false ∨ s.tm.started = false)) :=
  ⟨⟨(((((upState.setB ⟨R.SYSC_PSTAT, 1, 1⟩ (true)).tPwr fun z => { z with inReset := false }).setB (F.CLK_CTRL.DLL_EN) (true)).tTm fun z => { z with started := true })), by decide +kernel⟩,
   ⟨((upState.setB ⟨R.SYSC_PSTAT, 1, 1⟩ (false))), by decide +kernel⟩⟩

theorem witness_PatternTablesAtReset :
    (∃ (c : Nat × List (Nat × Nat × Nat × Nat)) (e : Nat × Nat × Nat × Nat), (c ∈ [(1, [(1, 1, 0, 10), (2, 2, 0, 10), (3, 2, 0, 5), (4, 3, 0, 9), (5, 4, 0, 6)]), (4, [(1, 1, 0, 10), (2, 2, 0, 10), (3, 2, 0, 5), (4, 3, 0, 9), (5, 4, 0, 6)]), (3, [(1, 1, 0, 2), (2, 2, 0, 2), (3, 3, 0, 1)]), (2, [(1, 1, 0, 10), (2, 2, 0, 10), (3, 2, 0, 5), (4, 3, 0, 9), (5, 4, 0, 6)] ++ [(6, 5, 1, 144), (7, 5, 1, 96), (8, 5, 2, 2304), (9, 5, 2, 1536), (10, 5, 1, 0), (11, 5, 2, 0)]), (5, [(1, 1, 0, 0), (2, 5, 1, 9), (3, 5, 1, 6), (4, 5, 2, 144), (5, 5, 2, 96), (6, 5, 1, 0), (7, 5, 2, 0)]), (6, [(1, 1, 0, 0), (2, 5, 1, 1), (3, 5, 1, 2), (4, 5, 1, 0), (5, 5, 2, 4), (6, 5, 2, 8), (7, 5, 2, 0), (8, 5, 3, 16), (9, 5, 3, 32), (10, 5, 3, 0), (11, 5, 4, 64), (12, 5, 4, 128), (13, 5, 4, 0)])]) ∧ (e ∈ c.snd)) ∧
    (∃ (cls : Fin 16) (i : Fin 32), ↑i ≠ 0 ∧ (∀ (c : Nat × List (Nat × Nat × Nat × Nat)), c ∈ [(1, [(1, 1, 0, 10), (2, 2, 0, 10), (3, 2, 0, 5), (4, 3, 0, 9), (5, 4, 0, 6)]), (4, [(1, 1, 0, 10), (2, 2, 0, 10), (3, 2, 0, 5), (4, 3, 0, 9), (5, 4, 0, 6)]), (3, [(1, 1, 0, 2), (2, 2, 0, 2), (3, 3, 0, 1)]), (2, [(1, 1, 0, 10), (2, 2, 0, 10), (3, 2, 0, 5), (4, 3, 0, 9), (5, 4, 0, 6)] ++ [(6, 5, 1, 144), (7, 5, 1, 96), (8, 5, 2, 2304), (9, 5, 2, 1536), (10, 5, 1, 0), (11, 5, 2, 0)]), (5, [(1, 1, 0, 0), (2, 5, 1, 9), (3, 5, 1, 6), (4, 5, 2, 144), (5, 5, 2, 96), (6, 5, 1, 0), (7, 5, 2, 0)]), (6, [(1, 1, 0, 0), (2, 5, 1, 1), (3, 5, 1, 2), (4, 5, 1, 0), (5, 5, 2, 4), (6, 5, 2, 8), (7, 5, 2, 0), (8, 5, 3, 16), (9, 5, 3, 32), (10, 5, 3, 0), (11, 5, 4, 64), (12, 5, 4, 128), (13, 5, 4, 0)])] → c.fst = ↑cls → ∀ (e : Nat × Nat × Nat × Nat), e ∈ c.snd → e.fst ≠ ↑i)) ∧
    (∃ (cls : Fin 16), (1 ≤ ↑cls) ∧ (↑cls ≤ 6)) :=
  ⟨⟨((3, [(1, 1, 0, 2), (2, 2, 0, 2), (3, 3, 0, 1)])), ((3, 3, 0, 1)), by decide +kernel⟩,
   ⟨(0), (1), by decide +kernel⟩,
   ⟨(1), by decide +kernel⟩⟩

end Sys2Proof.Tests

end
end

/-! SUPPORT. The canonical form of memory and registers, kept by every step (00 R14, 16 R455). The relation
`State.Evolves` says what an operation may do to the state; it holds of the few operations that write a table
(`setReg`, `stb`, `dropRegs`, `dropMem`, `coldStart`) by the laws of sparse tables, and of every other operation because
its definition is made of operations of which it holds. There is one lemma per operation, named after it, in the
order of the model; `exec_evolves` collects the commands. -/

namespace Sys2Proof.Machine

/-- What every operation of the machine does to the state: the canonical form of memory and registers is kept, and the
queue of waiting commands stays as it is. -/
structure State.Evolves (s t : State) : Prop where
  canonical : s.Canonical → t.Canonical
  pending : t.pending = s.pending

/-- Whatever an operation that need not answer gives satisfies `P`. -/
def Gives {α : Type} (P : α → Prop) (o : Option α) : Prop := ∀ x, o = some x → P x

/-- A command that completes leads to a state that evolved from `s`. -/
def State.EvolvesOut (s : State) (o : Out) : Prop := ∀ t, o = .next t → s.Evolves t

variable {s₀ s t : State}

/-! ## The shapes of a definition -/

theorem State.Evolves.refl : s₀.Evolves s₀ := ⟨id, rfl⟩

/-- An update of parts other than memory, the registers and the queue. -/
theorem State.Evolves.update {badWords pwr tm procs queues fcu can adm ce eth lnk eps cs msr ring brp sfu tru busOut
    freeCtr} (h : s₀.Evolves s) :
    s₀.Evolves (State.mk s.regs s.mem badWords pwr tm procs queues fcu can adm ce eth lnk eps cs msr ring brp sfu tru
      busOut freeCtr s.pending) :=
  ⟨h.canonical, h.pending⟩

theorem State.Evolves.ite {c : Prop} [Decidable c] (hs : s₀.Evolves s) (ht : s₀.Evolves t) :
    s₀.Evolves (if c then s else t) := by
  split
  · exact hs
  · exact ht

theorem State.Evolves.iteFst {α : Type} {c : Prop} [Decidable c] {x y : State × α} (hx : s₀.Evolves x.1)
    (hy : s₀.Evolves y.1) : s₀.Evolves (if c then x else y).1 := by
  split
  · exact hx
  · exact hy

theorem State.Evolves.foldl {α : Type} {f : State → α → State} {l : List α} (h : s₀.Evolves s)
    (hf : ∀ u x, s₀.Evolves u → s₀.Evolves (f u x)) : s₀.Evolves (l.foldl f s) :=
  List.foldlRecOn l f h fun u hu x _ => hf u x hu

theorem State.Evolves.foldlFst {α β : Type} {f : State × β → α → State × β} {l : List α} {x : State × β}
    (h : s₀.Evolves x.1) (hf : ∀ u a, s₀.Evolves u.1 → s₀.Evolves (f u a).1) :
    s₀.Evolves (l.foldl f x).1 :=
  List.foldlRecOn (motive := fun x => s₀.Evolves x.1) l f h fun u hu a _ => hf u a hu

theorem State.Evolves.forAll {α : Type} {l : List α} {f : State → α → State} (h : s₀.Evolves s)
    (hf : ∀ u x, s₀.Evolves u → s₀.Evolves (f u x)) : s₀.Evolves (s.forAll l f) := .foldl h hf

/-- The state of a pair that an operation answered. -/
theorem State.Evolves.ofEq {α : Type} {r : State × α} {x : α} (hr : r = (t, x)) (h : s₀.Evolves r.1) :
    s₀.Evolves t := by
  subst hr
  exact h

theorem State.Evolves.getD {o : Option State} (ho : Gives s₀.Evolves o) (h : s₀.Evolves s) :
    s₀.Evolves (o.getD s) := by
  cases o with
  | none => exact h
  | some t => exact ho t rfl

theorem State.Evolves.getDFst {α : Type} {o : Option (State × α)} {x : State × α}
    (ho : Gives (fun y => s₀.Evolves y.1) o) (h : s₀.Evolves x.1) : s₀.Evolves (o.getD x).1 := by
  cases o with
  | none => exact h
  | some t => exact ho t rfl

theorem Gives.none {α : Type} {P : α → Prop} : Gives P .none := fun _ hx => nomatch hx

theorem Gives.some {α : Type} {P : α → Prop} {x : α} (h : P x) : Gives P (.some x) := fun _ hx => by
  cases hx
  exact h

theorem Gives.ite {α : Type} {P : α → Prop} {c : Prop} [Decidable c] {o o' : Option α} (ho : Gives P o)
    (ho' : Gives P o') : Gives P (if c then o else o') := by
  split
  · exact ho
  · exact ho'

theorem Gives.map {α β : Type} {P : α → Prop} {f : β → α} {o : Option β} (h : ∀ x, P (f x)) :
    Gives P (o.map f) := by
  cases o with
  | none => exact .none
  | some x => exact .some (h x)

theorem Gives.orElse {α : Type} {P : α → Prop} {o o' : Option α} (ho : Gives P o) (ho' : Gives P o') :
    Gives P (o <|> o') := by
  cases o with
  | none => exact ho'
  | some x => exact ho

theorem Gives.one {α : Type} {P : α → Prop} {a base : Nat} {x : α} (h : P x) : Gives P (one a base x) :=
  .ite (.some h) .none

theorem Gives.hit {α : Type} {P : α → Prop} {a base stride n : Nat} {f : Nat → α} (h : ∀ i, P (f i)) :
    Gives P (hit a base stride n f) :=
  .ite (.some (h _)) .none

theorem State.EvolvesOut.next (h : s₀.Evolves s) : s₀.EvolvesOut (.next s) := fun _ ht => by
  cases ht
  exact h

/-! ## Machine/Ops -/

theorem State.Evolves.setReg {a : Nat} {v : Word} (h : s₀.Evolves s) : s₀.Evolves (s.setReg a v) :=
  ⟨fun hs => ⟨(h.canonical hs).1, tblSet_wf _ _ _ _ (h.canonical hs).2⟩, h.pending⟩

theorem State.Evolves.setF {x : Field} {v : Nat} (h : s₀.Evolves s) : s₀.Evolves (s.setF x v) := .setReg h

theorem State.Evolves.setB {x : Field} {b : Bool} (h : s₀.Evolves s) : s₀.Evolves (s.setB x b) := .setF h

theorem State.Evolves.incF {x : Field} {d : Nat} (h : s₀.Evolves s) : s₀.Evolves (s.incF x d) := .setF h

theorem State.Evolves.satF {x : Field} {d : Nat} (h : s₀.Evolves s) : s₀.Evolves (s.satF x d) := .setF h

theorem State.Evolves.w1c {a : Nat} {m : Word} (h : s₀.Evolves s) : s₀.Evolves (s.w1c a m) := .setReg h

theorem State.Evolves.advanceTo {t : Nat} (h : s₀.Evolves s) : s₀.Evolves (s.advanceTo t) :=
  .ite (.update h) h

theorem State.Evolves.setProc {p : Nat} {q : Proc} (h : s₀.Evolves s) : s₀.Evolves (s.setProc p q) :=
  .update h

theorem State.Evolves.modProc {p : Nat} {f : Proc → Proc} (h : s₀.Evolves s) : s₀.Evolves (s.modProc p f) :=
  .setProc h

theorem State.Evolves.stb {a : Nat} {v : Byte} (h : s₀.Evolves s) : s₀.Evolves (s.stb a v) :=
  ⟨fun hs => ⟨tblSet_wf _ _ _ _ (h.canonical hs).1, (h.canonical hs).2⟩, h.pending⟩

theorem State.Evolves.stw {a : Nat} {v : Word} (h : s₀.Evolves s) : s₀.Evolves (s.stw a v) :=
  .stb <| .stb <| .stb <| .stb h

theorem State.Evolves.std {a : Nat} {v : DWord} (h : s₀.Evolves s) : s₀.Evolves (s.std a v) := .stw <| .stw h

theorem State.Evolves.putBytes {a : Nat} {l : List Byte} (h : s₀.Evolves s) : s₀.Evolves (s.putBytes a l) := by
  induction l generalizing s a with
  | nil => exact h
  | cons b l ih => exact ih (.stb h)

theorem State.Evolves.putWords {a : Nat} {l : List Word} (h : s₀.Evolves s) : s₀.Evolves (s.putWords a l) := by
  induction l generalizing s a with
  | nil => exact h
  | cons w l ih => exact ih (.stw h)

theorem State.Evolves.setCtx {i off : Nat} {v : Word} (h : s₀.Evolves s) : s₀.Evolves (s.setCtx i off v) :=
  .stw h

theorem State.Evolves.setCtxF {i off hi lo v : Nat} (h : s₀.Evolves s) :
    s₀.Evolves (s.setCtxF i off hi lo v) :=
  .setCtx h

theorem State.Evolves.freeNext (h : s₀.Evolves s) : s₀.Evolves s.freeNext := .update h

theorem State.Evolves.record {block src code data : Nat} (h : s₀.Evolves s) :
    s₀.Evolves (s.record block src code data) :=
  .ite (.ite (.update h) <| .incF h) h

theorem State.Evolves.note {block code data : Nat} (h : s₀.Evolves s) : s₀.Evolves (s.note block code data) :=
  .record h

theorem State.Evolves.when {c : Bool} {f : State → State} (h : s₀.Evolves s)
    (hf : ∀ u, s₀.Evolves u → s₀.Evolves (f u)) : s₀.Evolves (s.when c f) := .ite (hf _ h) h

/-! ## Machine/Reset -/

theorem State.Evolves.dropRegs {d : Nat} (h : s₀.Evolves s) : s₀.Evolves (s.dropRegs d) := by
  have hdrop : s₀.Evolves { s with regs := tblDrop (fun a => regDom a == d) s.regs } :=
    ⟨fun hs => ⟨(h.canonical hs).1, tblDrop_wf _ (fun a => regDom a == d) _ (h.canonical hs).2⟩, h.pending⟩
  exact .ite (.setF hdrop) hdrop

theorem State.Evolves.dropMem {d : Nat} (h : s₀.Evolves s) : s₀.Evolves (s.dropMem d) :=
  ⟨fun hs =>
    ⟨tblDrop_wf _ (fun a => (regionOf a).dom == some d) _ (h.canonical hs).1, (h.canonical hs).2⟩, h.pending⟩

theorem State.Evolves.initUnits {d : Nat} (h : s₀.Evolves s) : s₀.Evolves (s.initUnits d) := by
  unfold State.initUnits
  split
  · exact .update h
  · exact .update <| .setProc h
  · exact .update <| .setProc h
  · exact .setProc <| .setProc <| .setProc h
  · exact .update <| .setProc h
  · exact .update h
  · exact .update h
  · exact .update h
  · exact .update h
  · exact .update h
  · exact .update h
  · exact h

theorem State.Evolves.powerOff {d : Nat} (h : s₀.Evolves s) : s₀.Evolves (s.powerOff d) := by
  unfold State.powerOff
  extract_lets t u
  have ht : s₀.Evolves t := .initUnits <| .dropMem <| .dropRegs h
  have hu : s₀.Evolves u := .ite (.update ht) ht
  exact .setReg hu

theorem State.Evolves.powerOn {d : Nat} (h : s₀.Evolves s) : s₀.Evolves (s.powerOn d) := by
  unfold State.powerOn
  extract_lets t u
  have ht : s₀.Evolves t := .initUnits <| .dropMem <| .dropRegs h
  have hu : s₀.Evolves u := .setReg ht
  exact .ite (.setB <| .setF hu) hu

theorem State.Evolves.chipReset (h : s₀.Evolves s) : s₀.Evolves s.chipReset :=
  .update <| .setF <| .setF <| .setF <| .setF <| .setReg <| .setReg <|
    .forAll (.forAll h fun _ _ hu => .powerOff hu) fun _ _ hu => .initUnits <| .dropRegs hu

theorem State.Evolves.freeSems {idx : Nat} (h : s₀.Evolves s) : s₀.Evolves (s.freeSems idx) :=
  .forAll h fun _ _ hu => .ite (.setF hu) hu

theorem State.Evolves.resetProc {p : Nat} (h : s₀.Evolves s) : s₀.Evolves (s.resetProc p) :=
  .update <| .setB <| .freeSems <| .setProc h

theorem State.Evolves.modCan {n : Nat} {f : CanCtl → CanCtl} (h : s₀.Evolves s) : s₀.Evolves (s.modCan n f) :=
  .update h

theorem State.Evolves.resetCan {n : Nat} (h : s₀.Evolves s) : s₀.Evolves (s.resetCan n) := by
  unfold State.resetCan
  extract_lets t u
  have ht : s₀.Evolves t := .setB <| .setReg h
  have hu : s₀.Evolves u := .ite ht <| .setB <| .setF ht
  exact .modCan <| .setB hu

/-! ## Machine/Fault -/

theorem State.Evolves.latchFirst {src : Nat} (h : s₀.Evolves s) : s₀.Evolves (s.latchFirst src) :=
  .ite (.satF <| .setB h) <| .setReg <| .setReg <| .setReg h

theorem State.Evolves.latchGrave {src : Nat} (h : s₀.Evolves s) : s₀.Evolves (s.latchGrave src) :=
  .setReg <| .ite h <| .setF h

theorem State.Evolves.recordsAhead {l : List LedgerRec} (h : s₀.Evolves s) : s₀.Evolves (s.recordsAhead l) :=
  .update h

theorem State.Evolves.react {src unit : Nat} {first : Bool} (h : s₀.Evolves s) :
    s₀.Evolves (s.react src unit first) := by
  unfold State.react
  split
  · extract_lets t
    have ht : s₀.Evolves t := .record h
    exact .ite (.resetProc ht) <| .ite (.resetCan ht) ht
  · exact .chipReset <| .recordsAhead <| .setReg h
  · extract_lets t
    have ht : s₀.Evolves t := .record h
    exact .ite (.record ht) ht

theorem State.Evolves.raiseUnit {src unit : Nat} (h : s₀.Evolves s) : s₀.Evolves (s.raiseUnit src unit) := by
  refine .ite ?_ h
  extract_lets t first u v
  have ht : s₀.Evolves t := .satF h
  have hu : s₀.Evolves u := .latchFirst <| .setB ht
  have hv : s₀.Evolves v := .ite (.latchGrave hu) hu
  exact .ite ht <| .react hv

theorem State.Evolves.raise {src : Nat} (h : s₀.Evolves s) : s₀.Evolves (s.raise src) := .raiseUnit h

theorem State.Evolves.roseUnit {r : State} {srcs : List Nat} {unit : Nat} (h : s₀.Evolves s) :
    s₀.Evolves (r.roseUnit s srcs unit) :=
  .forAll h fun _ _ hu => .ite (.raiseUnit hu) hu

theorem State.Evolves.rose {r : State} {srcs : List Nat} (h : s₀.Evolves s) : s₀.Evolves (r.rose s srcs) :=
  .roseUnit h

theorem State.Evolves.stopProc {p : Nat} (h : s₀.Evolves s) : s₀.Evolves (s.stopProc p) :=
  .roseUnit <| .note <| .setProc h

theorem State.Evolves.faultSourceSet {src unit : Nat} (h : s₀.Evolves s) :
    s₀.Evolves (s.faultSourceSet src unit) :=
  .ite (.raiseUnit h) h

theorem State.Evolves.dualRailEqual {src : Nat} (h : s₀.Evolves s) : s₀.Evolves (s.dualRailEqual src) :=
  .ite (.raise <| .ite h <| .record <| .setReg h) h

theorem State.Evolves.fswClear {req : Requester} {lo hi : Word} (h : s₀.Evolves s) :
    s₀.Evolves (s.fswClear req lo hi) := by
  refine .ite ?_ h
  extract_lets pair t
  have ht : s₀.Evolves t := .ite (.setB h) h
  refine .forAll ht fun _ _ hu => ?_
  extract_lets asked held v w
  have hv : s₀.Evolves v := .setB hu
  have hw : s₀.Evolves w := .ite (.setReg hv) hv
  exact .ite (.ite (.forAll hw fun _ _ hx => .setB hx) hw) hu

theorem State.Evolves.fsrcRearm (h : s₀.Evolves s) : s₀.Evolves s.fsrcRearm :=
  .ite (.setReg <| .setReg <| .setF <| .setB <| .setB <| .setB h) h

theorem State.Evolves.reactWrite {src : Nat} {v : Word} (h : s₀.Evolves s) :
    s₀.Evolves (s.reactWrite src v) :=
  .ite (.ite h <| .ite (.setReg h) <| .setB h) h

theorem State.Evolves.setSwFlt {v : Word} (h : s₀.Evolves s) : s₀.Evolves (s.setSwFlt v) :=
  .ite (.rose <| .setReg h) h

theorem State.Evolves.watchdogKick {q : Nat} (h : s₀.Evolves s) : s₀.Evolves (s.watchdogKick q) :=
  .ite (.update h) h

theorem State.Evolves.watchdogExpiry {q : Nat} (h : s₀.Evolves s) : s₀.Evolves (s.watchdogExpiry q) :=
  .ite (.roseUnit <| .setB h) h

theorem State.Evolves.wdtBoundary (h : s₀.Evolves s) : s₀.Evolves s.wdtBoundary :=
  .ite (.forAll h fun _ _ hu => .ite (.update hu) hu) h

theorem State.Evolves.writeRecord {r : LedgerRec} (h : s₀.Evolves s) : s₀.Evolves (s.writeRecord r) := by
  unfold State.writeRecord
  extract_lets n a t
  have ht : s₀.Evolves t := .stw <| .stw <| .std h
  exact .ite (.incF <| .setF ht) <| .setF ht

theorem State.Evolves.firmwareRecord {q src code : Nat} {data : Word} (h : s₀.Evolves s) :
    s₀.Evolves (s.firmwareRecord q src code data) := by
  refine .ite ?_ h
  extract_lets t
  have ht : s₀.Evolves t := .setReg h
  exact .ite (.record ht) <| .incF ht

theorem State.Evolves.faultInject {rail : Bool} {src : Nat} (h : s₀.Evolves s) :
    s₀.Evolves (s.faultInject rail src) :=
  .ite (.ite (.ite (.dualRailEqual h) h) <| .raise h) h

/-! ## Machine/Queue -/

theorem State.Evolves.setQueue {q : Nat} {l : List DWord} (h : s₀.Evolves s) : s₀.Evolves (s.setQueue q l) :=
  .update h

theorem State.Evolves.hwPush {q : Nat} {e : DWord} (h : s₀.Evolves s) : s₀.Evolves (s.hwPush q e) :=
  .ite (.ite (.setQueue h) <| .setB <| .incF h) h

theorem State.Evolves.procPush {p q : Nat} {e : DWord} (h : s₀.Evolves s) : s₀.Evolves (s.procPush p q e).1 :=
  .iteFst h <| .iteFst (.setQueue h) <| .incF h

theorem State.Evolves.procPop {p q : Nat} (h : s₀.Evolves s) : s₀.Evolves (s.procPop p q).1 := by
  refine .iteFst h ?_
  split
  · exact h
  · exact .setQueue h

theorem State.Evolves.hwPop {q : Nat} (h : s₀.Evolves s) : s₀.Evolves (s.hwPop q).1 := by
  refine .iteFst ?_ h
  split
  · exact h
  · exact .setQueue h

theorem State.Evolves.hardwarePush {q : Nat} {e : DWord} (h : s₀.Evolves s) :
    s₀.Evolves (s.hardwarePush q e) :=
  .ite (.hwPush h) h

theorem State.Evolves.hardwarePop {q : Nat} (h : s₀.Evolves s) : s₀.Evolves (s.hardwarePop q) := by
  refine .ite ?_ h
  split
  next hp => exact .update <| .ofEq hp <| .hwPop h
  next hp => exact .ofEq hp <| .hwPop h

theorem State.Evolves.queueFlush {q : Nat} (h : s₀.Evolves s) : s₀.Evolves (s.queueFlush q) :=
  .ite (.setQueue h) h

theorem State.Evolves.semRead {req : Requester} {n : Nat} (h : s₀.Evolves s) :
    s₀.Evolves (s.semRead req n).1 :=
  .iteFst (.iteFst (.setF h) h) h

theorem State.Evolves.semAcquire {req : Requester} {n : Nat} (h : s₀.Evolves s) :
    s₀.Evolves (s.semAcquire req n) :=
  .ite (.update <| .semRead h) h

theorem State.Evolves.semRelease {req : Requester} {n : Nat} (h : s₀.Evolves s) :
    s₀.Evolves (s.semRelease req n) :=
  .ite (.ite (.setF h) <| .incF h) h

theorem State.Evolves.ledgerWrite (h : s₀.Evolves s) : s₀.Evolves s.ledgerWrite := by
  refine .ite ?_ h
  split
  · exact h
  · extract_lets _ t
    have ht : s₀.Evolves t := .writeRecord <| .update h
    exact .ite (.ite (.setQueue ht) <| .setB <| .incF ht) ht

/-! ## Machine/Interrupt -/

theorem State.Evolves.engineStop (h : s₀.Evolves s) : s₀.Evolves s.engineStop :=
  .raise <| .update <| .modProc <| .setB <| .setB h

theorem State.Evolves.enter {p : Nat} {epc : Word} {isInt : Bool} {code level : Nat} {target : Word}
    (h : s₀.Evolves s) : s₀.Evolves (s.enter p epc isInt code level target) :=
  .ite (.stopProc h) <| .setProc h

theorem State.Evolves.exception {p cause : Nat} {epc : Word} (h : s₀.Evolves s) :
    s₀.Evolves (s.exception p cause epc) :=
  .ite (.engineStop <| .modProc h) <| .enter h

theorem State.Evolves.countEntry {p n : Nat} (h : s₀.Evolves s) : s₀.Evolves (s.countEntry p n) := by
  unfold State.countEntry
  split
  · extract_lets c t
    have ht : s₀.Evolves t := .modProc h
    exact .ite (.raise <| .satF ht) ht
  · exact h

theorem State.Evolves.enterInt {p n : Nat} (h : s₀.Evolves s) : s₀.Evolves (s.enterInt p n) := by
  unfold State.enterInt
  extract_lets full t
  have ht : s₀.Evolves t := .enter h
  exact .ite ht <| .countEntry ht

theorem State.Evolves.arbitrate (h : s₀.Evolves s) : s₀.Evolves s.arbitrate :=
  .forAll h fun _ _ hu => .modProc hu

theorem State.Evolves.interruptEntry {p : Nat} (h : s₀.Evolves s) : s₀.Evolves (s.interruptEntry p) := by
  unfold State.interruptEntry
  split
  · exact h
  · refine .ite h ?_
    extract_lets b
    refine .ite ?_ ?_
    · clear_value b
      split
      · exact .ite (.enterInt h) <| .enterInt h
      · exact .enterInt h
    · clear_value b
      split
      · exact .enterInt h
      · exact .incF <| .modProc h

theorem State.Evolves.nmiEntry (h : s₀.Evolves s) : s₀.Evolves s.nmiEntry := .ite (.enterInt h) h

theorem State.Evolves.returnInt {p : Nat} (h : s₀.Evolves s) : s₀.Evolves (s.returnInt p) := by
  unfold State.returnInt
  extract_lets
  split
  · extract_lets lev t
    have ht : s₀.Evolves t := .setProc h
    split
    · exact .countEntry <| .setProc ht
    · exact .setProc ht
  · exact h

theorem State.Evolves.vicSrcWrite {n en route prio : Nat} (h : s₀.Evolves s) :
    s₀.Evolves (s.vicSrcWrite n en route prio) := by
  refine .ite ?_ h
  extract_lets t
  have ht : s₀.Evolves t := .setF h
  exact .ite ht <| .setF <| .setF ht

theorem State.Evolves.vicSwSet {bits : Word} (h : s₀.Evolves s) : s₀.Evolves (s.vicSwSet bits) :=
  .ite (.setReg h) h

theorem State.Evolves.vicSwClr {bits : Word} (h : s₀.Evolves s) : s₀.Evolves (s.vicSwClr bits) :=
  .ite (.setReg h) h

/-! ## Machine/Operands -/

theorem State.Evolves.setGpr {p r : Nat} {v : Word} (h : s₀.Evolves s) : s₀.Evolves (s.setGpr p r v) :=
  .modProc h

theorem State.Evolves.retire {p : Nat} (h : s₀.Evolves s) : s₀.Evolves (s.retire p) := .modProc h

theorem State.Evolves.retireWith {p cause : Nat} (h : s₀.Evolves s) : s₀.Evolves (s.retireWith p cause) :=
  .exception <| .retire h

theorem State.Evolves.instr {p : Nat} {core engine : Bool} {body : State → State} (h : s₀.Evolves s)
    (hbody : ∀ u, s₀.Evolves u → s₀.Evolves (body u)) : s₀.Evolves (s.instr p core engine body) :=
  .ite h <| .ite (.exception h) <| .ite (hbody _ h) <| .exception h

/-! ## Machine/IsaAlu -/

theorem State.Evolves.aluOp {p d a b : Nat} {f : Word → Word → Word} (h : s₀.Evolves s) :
    s₀.Evolves (s.aluOp p d a b f) :=
  .instr h fun _ hu => .retire <| .setGpr hu

theorem State.Evolves.immOp {p d a : Nat} {f : Word → Word} (h : s₀.Evolves s) :
    s₀.Evolves (s.immOp p d a f) :=
  .instr h fun _ hu => .retire <| .setGpr hu

theorem State.Evolves.satOp {p d a b : Nat} {f : Int → Int → Int} (h : s₀.Evolves s) :
    s₀.Evolves (s.satOp p d a b f) :=
  .instr h fun _ hu => .retire <| .modProc <| .setGpr hu

theorem State.Evolves.divOp {p d a b : Nat} {f : Word → Word → Word × Bool × Bool} (h : s₀.Evolves s) :
    s₀.Evolves (s.divOp p d a b f) :=
  .instr h fun _ hu => .retire <| .modProc <| .setGpr hu

theorem State.Evolves.macOp {p n sh a b : Nat} {f : Int → Int → Int} (h : s₀.Evolves s) :
    s₀.Evolves (s.macOp p n sh a b f) :=
  .instr h fun _ hu => .retire <| .modProc hu

theorem State.Evolves.rdaOp {p d n sh : Nat} (h : s₀.Evolves s) : s₀.Evolves (s.rdaOp p d n sh) :=
  .instr h fun _ hu => .retire <| .modProc <| .setGpr hu

theorem State.EvolvesOut.execRdw {p : ProcId} {d : Gpr} {n w : Fin 4} (h : s₀.Evolves s) :
    s₀.EvolvesOut (execRdw p d n w s) :=
  .next <| .instr h fun _ hu => .ite (.exception hu) <| .retire <| .setGpr hu

theorem State.EvolvesOut.execWrw {p : ProcId} {n w : Fin 4} {a : Gpr} (h : s₀.Evolves s) :
    s₀.EvolvesOut (execWrw p n w a s) :=
  .next <| .instr h fun _ hu => .ite (.exception hu) <| .retire <| .modProc hu

/-! ## Machine/IsaControl -/

theorem State.Evolves.branchOp {p a b : Nat} {off : BitVec 16} {c : Word → Word → Bool} (h : s₀.Evolves s) :
    s₀.Evolves (s.branchOp p a b off c) :=
  .instr h fun _ hu => .ite (.modProc hu) <| .retire hu

theorem State.Evolves.programReturn {p : Nat} (h : s₀.Evolves s) : s₀.Evolves (s.programReturn p) := by
  unfold State.programReturn
  extract_lets q late t
  have ht : s₀.Evolves t := .setProc h
  exact .ite (.raise <| .satF ht) ht

theorem State.EvolvesOut.execRet {p : ProcId} (h : s₀.Evolves s) : s₀.EvolvesOut (execRet p s) := by
  refine .next <| .instr h fun _ hu => ?_
  extract_lets
  split
  · exact .exception hu
  · extract_lets u'
    have hu' : s₀.Evolves u' := .setProc hu
    exact .ite (.programReturn hu') hu'

theorem State.Evolves.twaitComplete {p : Nat} (h : s₀.Evolves s) : s₀.Evolves (s.twaitComplete p) := by
  refine .ite ?_ h
  split
  · exact .retire <| .advanceTo h
  · exact .retire <| .advanceTo h
  · exact h

theorem State.Evolves.loopOp {p d : Nat} {count : Proc → Nat × Bool} (h : s₀.Evolves s) :
    s₀.Evolves (s.loopOp p d count) :=
  .instr h fun _ hu => .ite (.exception hu) <| .ite (.setProc hu) <| .ite (.exception hu) <| .setProc hu

/-! ## Machine/IsaSystem -/

theorem State.EvolvesOut.execMfs {p : ProcId} {d : Gpr} {n : Fin 32} (h : s₀.Evolves s) :
    s₀.EvolvesOut (execMfs p d n s) := by
  refine .next <| .instr h fun _ hu => ?_
  split
  · exact .retire <| .setGpr <| .ite (.modProc hu) hu
  · exact .exception hu

theorem State.EvolvesOut.execMts {p : ProcId} {n : Fin 32} {a : Gpr} (h : s₀.Evolves s) :
    s₀.EvolvesOut (execMts p n a s) := by
  refine .next <| .instr h fun _ hu => ?_
  split
  · exact .retire <| .setProc hu
  · exact .exception hu

theorem State.EvolvesOut.execIret {p : ProcId} (h : s₀.Evolves s) : s₀.EvolvesOut (execIret p s) :=
  .next <| .instr h fun _ hu => .ite (.exception hu) <| .modProc <| .returnInt hu

theorem State.Evolves.haltForDebug {p : Nat} (h : s₀.Evolves s) : s₀.Evolves (s.haltForDebug p) :=
  .setReg <| .setB <| .modProc h

theorem State.EvolvesOut.execBrk {p : ProcId} (h : s₀.Evolves s) : s₀.EvolvesOut (execBrk p s) :=
  .next <| .instr h fun _ hu => .ite (.haltForDebug <| .retire hu) <| .retireWith hu

theorem State.EvolvesOut.execWfi {p : ProcId} (h : s₀.Evolves s) : s₀.EvolvesOut (execWfi p s) :=
  .next <| .instr h fun _ hu => .ite (.modProc <| .retire hu) <| .exception hu

theorem State.Evolves.admRequest {p code : Nat} (h : s₀.Evolves s) : s₀.Evolves (s.admRequest p code) :=
  .ite (.ite (.setF h) <| .ite (.setF h) <| .update <| .setB h) <|
  .ite (.ite (.setF h) <| .ite (.setF h) <| .update h) h

theorem State.EvolvesOut.execQpop {p : ProcId} {d : Gpr} {q : QueueId} (h : s₀.Evolves s) :
    s₀.EvolvesOut (execQpop p d q s) := by
  refine .next <| .instr h fun _ hu => .ite ?_ <| .exception hu
  split
  next hp => exact .retire <| .modProc <| .setGpr <| .setGpr <| .ofEq hp <| .procPop hu
  next hp => exact .retire <| .modProc <| .ofEq hp <| .procPop hu

/-! ## Machine/IsaEngine -/

theorem State.Evolves.setLane {n l : Nat} {v : Word} (h : s₀.Evolves s) : s₀.Evolves (s.setLane n l v) :=
  .update h

theorem State.Evolves.setLaneAcc {n l : Nat} {v : Acc} (h : s₀.Evolves s) : s₀.Evolves (s.setLaneAcc n l v) :=
  .update h

theorem State.Evolves.engInstr {body : State → State} (h : s₀.Evolves s)
    (hbody : ∀ u, s₀.Evolves u → s₀.Evolves (body u)) : s₀.Evolves (s.engInstr body) :=
  .instr h fun _ hu => hbody _ hu

theorem State.Evolves.lanesOut {vd : Nat} {f : Nat → Word × Bool} (h : s₀.Evolves s) :
    s₀.Evolves (s.lanesOut vd f) := by
  unfold State.lanesOut
  extract_lets t
  have ht : s₀.Evolves t := .forAll h fun _ _ hu => .setLane hu
  exact .ite (.setB ht) ht

theorem State.Evolves.laneOp {vd va vb : Nat} {f : Word → Word → Word × Bool} (h : s₀.Evolves s) :
    s₀.Evolves (s.laneOp vd va vb f) :=
  .engInstr h fun _ hu => .retire <| .lanesOut hu

theorem State.Evolves.laneOp1 {vd va : Nat} {f : Word → Word × Bool} (h : s₀.Evolves s) :
    s₀.Evolves (s.laneOp1 vd va f) :=
  .engInstr h fun _ hu => .retire <| .lanesOut hu

theorem State.Evolves.lanesAcc {n : Nat} {f : Nat → Int} (h : s₀.Evolves s) :
    s₀.Evolves (s.lanesAcc n f) := by
  unfold State.lanesAcc
  extract_lets t
  have ht : s₀.Evolves t := .forAll h fun _ _ hu => .setLaneAcc hu
  exact .ite (.setB ht) ht

theorem State.Evolves.store {a : Nat} {v : Word} (h : s₀.Evolves s) : s₀.Evolves (s.store a v) :=
  .update <| .stw h

theorem State.EvolvesOut.execVld {vd : Vreg} {base : Fin 16} {bc : Bool} {w : BitVec 12} (h : s₀.Evolves s) :
    s₀.EvolvesOut (execVld vd base bc w s) := by
  refine .next <| .engInstr h fun _ hu => ?_
  extract_lets a pc at_ bad u'
  have hu' : s₀.Evolves u' := .lanesOut hu
  exact .ite (.exception hu) <|
    .ite (.retireWith <| .lanesOut hu) <| .ite (.retireWith <| .raise hu') <| .retire hu'

theorem State.EvolvesOut.execVst {va : Vreg} {base : Fin 16} {w : BitVec 12} (h : s₀.Evolves s) :
    s₀.EvolvesOut (execVst va base w s) :=
  .next <|
    .engInstr h fun _ hu =>
      .ite (.exception hu) <| .ite (.retireWith hu) <| .retire <| .forAll hu fun _ _ hv => .store hv

theorem State.Evolves.intStep {d : Nat} {e : Word} (h : s₀.Evolves s) : s₀.Evolves (s.intStep d e).1 :=
  .iteFst h <| .store <| .store <| .store <| .store h

theorem State.EvolvesOut.execVint {vd va : Vreg} {n : BitVec 8} (h : s₀.Evolves s) :
    s₀.EvolvesOut (execVint vd va n s) :=
  .next <| .engInstr h fun _ hu => .retire <| .lanesOut <| .foldlFst hu fun _ _ hv => .intStep hv

theorem State.Evolves.postWrite {w0 v : Word} (h : s₀.Evolves s) : s₀.Evolves (s.postWrite w0 v) := by
  refine .ite ?_ h
  split
  · exact .setReg h
  · exact h

theorem State.Evolves.postGroup {g : Nat} (h : s₀.Evolves s) : s₀.Evolves (s.postGroup g) := by
  unfold State.postGroup
  extract_lets es cut fit t
  have ht : s₀.Evolves t := .foldl h fun _ _ hu => .postWrite hu
  exact .ite (.raise <| .setB ht) <| .setF ht

theorem State.Evolves.endOp (h : s₀.Evolves s) : s₀.Evolves s.endOp :=
  .engInstr h fun _ hu => .update <| .setF <| .setB <| .modProc hu

/-! ## Machine/Ctx -/

theorem State.Evolves.setCst {i v : Nat} (h : s₀.Evolves s) : s₀.Evolves (s.setCst i v) := .setCtxF h

/-! ## Machine/Time -/

theorem State.Evolves.showErr (h : s₀.Evolves s) : s₀.Evolves s.showErr :=
  .ite (.setB <| .setReg h) <| .setB <| .setReg h

theorem State.Evolves.reduceErr {d : Int} (h : s₀.Evolves s) : s₀.Evolves (s.reduceErr d) :=
  .showErr <| .update h

theorem State.Evolves.setSrc {v : Nat} (h : s₀.Evolves s) : s₀.Evolves (s.setSrc v) :=
  .rose <| .setB <| .setF h

theorem State.Evolves.setMclk {n : Nat} {c : MeasClock} (h : s₀.Evolves s) : s₀.Evolves (s.setMclk n c) :=
  .update h

theorem State.Evolves.showMclkBad (h : s₀.Evolves s) : s₀.Evolves s.showMclkBad :=
  .forAll h fun _ _ hu => .setReg hu

theorem State.Evolves.mclkRestart {n : Nat} (h : s₀.Evolves s) : s₀.Evolves (s.mclkRestart n) := .setMclk h

theorem State.Evolves.mclkWrite {n : Nat} {v : Word} (h : s₀.Evolves s) : s₀.Evolves (s.mclkWrite n v) := by
  unfold State.mclkWrite
  extract_lets old t
  have ht : s₀.Evolves t := .showMclkBad <| .setReg h
  exact .ite (.mclkRestart ht) <| .ite (.setMclk ht) ht

theorem State.Evolves.mdlyWrite {n : Nat} {v : Word} (h : s₀.Evolves s) : s₀.Evolves (s.mdlyWrite n v) := by
  unfold State.mdlyWrite
  extract_lets t
  have ht : s₀.Evolves t := .setReg h
  exact .ite (.setMclk ht) ht

theorem State.Evolves.mclkStart {n : Nat} (h : s₀.Evolves s) : s₀.Evolves (s.mclkStart n) :=
  .ite (.mclkWrite h) h

theorem State.Evolves.mclkStop {n : Nat} (h : s₀.Evolves s) : s₀.Evolves (s.mclkStop n) :=
  .ite (.mclkWrite h) h

theorem State.Evolves.mclkAfterLock (h : s₀.Evolves s) : s₀.Evolves s.mclkAfterLock :=
  .forAll (.setF h) fun _ _ hu => .ite (.mclkRestart hu) hu

theorem State.Evolves.sdRestart {n : Nat} (h : s₀.Evolves s) : s₀.Evolves (s.sdRestart n) :=
  .forAll h fun _ _ hu => .update hu

theorem State.Evolves.syncChannel {l n : Nat} (h : s₀.Evolves s) : s₀.Evolves (s.syncChannel l n) := by
  refine .ite h ?_
  extract_lets unsync t
  have ht : s₀.Evolves t := .setReg h
  exact .ite ht <| .ite (.setMclk ht) <| .sdRestart <| .setMclk ht

theorem State.Evolves.syncInEdge {ph : Nat} (h : s₀.Evolves s) : s₀.Evolves (s.syncInEdge ph) :=
  .ite (.ite (.forAll (.update <| .setReg <| .setReg h) fun _ _ hu => .syncChannel hu) <| .incF h) h

theorem State.Evolves.advanceCycles {n : Nat} (h : s₀.Evolves s) : s₀.Evolves (s.advanceCycles n) :=
  .advanceTo h

theorem State.Evolves.windowEnd {n : Nat} (h : s₀.Evolves s) : s₀.Evolves (s.windowEnd n) := by
  unfold State.windowEnd
  split
  · exact .sdRestart <| .setMclk <| .advanceCycles h
  · exact h

theorem State.Evolves.clkCtrlWrite {v : Word} (h : s₀.Evolves s) : s₀.Evolves (s.clkCtrlWrite v) := by
  unfold State.clkCtrlWrite
  extract_lets r t u
  have hr : s₀.Evolves r := .setF h
  have ht : s₀.Evolves t := .ite (.setSrc hr) hr
  have hu : s₀.Evolves u := .setSrc <| .setB <| .setB ht
  exact .ite (.setB ht) <| .ite ht <| .update hu

theorem State.Evolves.dllEnable (h : s₀.Evolves s) : s₀.Evolves s.dllEnable := .ite (.setB h) h

theorem State.Evolves.lockNow (h : s₀.Evolves s) : s₀.Evolves s.lockNow :=
  .mclkAfterLock <| .setSrc <| .satF <| .setB h

theorem State.Evolves.dllLock (h : s₀.Evolves s) : s₀.Evolves s.dllLock := by
  refine .ite ?_ h
  extract_lets t
  have ht : s₀.Evolves t := .lockNow h
  exact .ite ht <| .update ht

theorem State.Evolves.dllLockLoss (h : s₀.Evolves s) : s₀.Evolves s.dllLockLoss :=
  .ite (.rose <| .update <| .setSrc <| .setB h) h

theorem State.Evolves.dllRelock (h : s₀.Evolves s) : s₀.Evolves s.dllRelock := .ite (.lockNow <| .update h) h

theorem State.Evolves.cmpArm {n target : Nat} (h : s₀.Evolves s) : s₀.Evolves (s.cmpArm n target) :=
  .update <| .setB <| .setF <| .setReg h

theorem State.Evolves.compareArm {n : Nat} {target : BitVec 40} {int : Bool} (h : s₀.Evolves s) :
    s₀.Evolves (s.compareArm n target int) :=
  .ite (.cmpArm <| .setB h) h

theorem State.Evolves.tpoFire {n : Nat} (h : s₀.Evolves s) : s₀.Evolves (s.tpoFire n) := by
  refine .ite ?_ h
  extract_lets o _ t
  have ht : s₀.Evolves t := .update h
  exact .ite (.cmpArm ht) ht

theorem State.Evolves.cmpFire {n : Nat} {late : Bool} (h : s₀.Evolves s) : s₀.Evolves (s.cmpFire n late) := by
  unfold State.cmpFire
  extract_lets t u
  have ht : s₀.Evolves t := .setB <| .setB h
  have hu : s₀.Evolves u := .ite (.setB ht) ht
  exact .tpoFire <| .update hu

theorem State.Evolves.compareFire {n : Nat} (h : s₀.Evolves s) : s₀.Evolves (s.compareFire n) :=
  .ite (.cmpFire <| .advanceTo h) h

theorem State.Evolves.drefStep {e : Int} (h : s₀.Evolves s) : s₀.Evolves (s.drefStep e) :=
  .ite (.update <| .setReg <| .setReg h) h

theorem State.Evolves.stepBy {e : Int} {code : Nat} (h : s₀.Evolves s) : s₀.Evolves (s.stepBy e code) := by
  unfold State.stepBy
  extract_lets old n _ s1 s2 _ s3 s4
  have hs1 : s₀.Evolves s1 := .update h
  have hs2 : s₀.Evolves s2 := .note <| .setB <| .setF hs1
  have hs3 : s₀.Evolves s3 := .ite (.update hs2) hs2
  have hs4 : s₀.Evolves s4 := .forAll hs3 fun _ _ hu => .ite (.cmpFire hu) hu
  exact .drefStep <| .reduceErr hs4

theorem State.Evolves.stmLoad (h : s₀.Evolves s) : s₀.Evolves s.stmLoad :=
  .ite (.ite (.stepBy h) <| .setB h) h

theorem State.Evolves.timeStep (h : s₀.Evolves s) : s₀.Evolves s.timeStep := by
  refine .ite ?_ h
  extract_lets t __src _ u
  have ht : s₀.Evolves t := .stepBy h
  have h__src : s₀.Evolves __src := .setB ht
  have hu : s₀.Evolves u := .ite (.update h__src) <| .update ht
  exact .rose <| .setB hu

theorem State.Evolves.errMeasure {e : Int} {fromB : Bool} (h : s₀.Evolves s) :
    s₀.Evolves (s.errMeasure e fromB) := by
  unfold State.errMeasure
  extract_lets k mine old keep __src _ s1
  have h__src : s₀.Evolves __src := .setB h
  have hs1 : s₀.Evolves s1 := .update h__src
  clear_value keep
  split
  · exact hs1
  · exact .update <| .showErr <| .update hs1

theorem State.Evolves.slewStep (h : s₀.Evolves s) : s₀.Evolves s.slewStep :=
  .ite (.freeNext <| .reduceErr <| .incF <| .setF <| .update h) h

theorem State.Evolves.forwardedClockLost {jump : Bool} (h : s₀.Evolves s) :
    s₀.Evolves (s.forwardedClockLost jump) := by
  refine .ite ?_ h
  extract_lets t
  have ht : s₀.Evolves t := .setB <| .setB h
  exact .ite (.setSrc ht) ht

theorem State.Evolves.forwardedClockQualify {tap : Nat} (h : s₀.Evolves s) :
    s₀.Evolves (s.forwardedClockQualify tap) :=
  .ite (.update <| .setB <| .setB h) h

theorem State.Evolves.fwdResume (h : s₀.Evolves s) : s₀.Evolves s.fwdResume := .ite (.setSrc <| .setB h) h

theorem State.Evolves.settleEnd (h : s₀.Evolves s) : s₀.Evolves s.settleEnd := .ite (.setB h) h

theorem State.Evolves.timeloRead {idx : Nat} (h : s₀.Evolves s) : s₀.Evolves (s.timeloRead idx).1 := .update h

theorem State.Evolves.enterPeriod {k : Nat} (h : s₀.Evolves s) : s₀.Evolves (s.enterPeriod k) :=
  .update <| .setReg <| .advanceTo h

theorem State.Evolves.timeBoundary (h : s₀.Evolves s) : s₀.Evolves s.timeBoundary := by
  unfold State.timeBoundary
  extract_lets ok s1 _ _ _ t d bad u s2 _ t'
  have hs1 : s₀.Evolves s1 := .setB h
  have ht : s₀.Evolves t := .update hs1
  have hu : s₀.Evolves u := .setB <| .setF ht
  have hs2 : s₀.Evolves s2 := .ite (.ite ht <| .ite (.note hu) hu) <| .update hs1
  have ht' : s₀.Evolves t' := .update hs2
  exact .ite (.ite (.satF ht') ht') hs2

theorem State.Evolves.refclkCycle (h : s₀.Evolves s) : s₀.Evolves s.refclkCycle := .ite (.update h) h

/-! ## Machine/Bridge -/

theorem State.Evolves.setBrpCh {c : Nat} {x : BrpChan} (h : s₀.Evolves s) : s₀.Evolves (s.setBrpCh c x) :=
  .update h

theorem State.Evolves.modBrpCh {c : Nat} {f : BrpChan → BrpChan} (h : s₀.Evolves s) :
    s₀.Evolves (s.modBrpCh c f) :=
  .setBrpCh h

theorem State.Evolves.setBlank {t : Nat} {e : Option Nat} (h : s₀.Evolves s) : s₀.Evolves (s.setBlank t e) :=
  .update h

theorem State.Evolves.showTrips (h : s₀.Evolves s) : s₀.Evolves s.showTrips := .setF <| .setF h

theorem State.Evolves.openWindows {c : Nat} (h : s₀.Evolves s) : s₀.Evolves (s.openWindows c) :=
  .showTrips <| .forAll h fun _ _ hu => .setBlank hu

theorem State.Evolves.gateNow {c : Nat} {hi on : Bool} (h : s₀.Evolves s) :
    s₀.Evolves (s.gateNow c hi on) := by
  unfold State.gateNow
  extract_lets x n y z t
  have ht : s₀.Evolves t := .setBrpCh h
  exact .ite h <| .ite (.openWindows ht) ht

theorem State.Evolves.gatesOff {c : Nat} {drop : Bool} (h : s₀.Evolves s) :
    s₀.Evolves (s.gatesOff c drop) := by
  unfold State.gatesOff
  extract_lets t
  have ht : s₀.Evolves t := .gateNow <| .gateNow h
  exact .ite (.modBrpCh ht) ht

theorem State.Evolves.carryZero {c : Nat} (h : s₀.Evolves s) : s₀.Evolves (s.carryZero c) := .setReg h

theorem State.Evolves.gqAbort {c : Nat} (h : s₀.Evolves s) : s₀.Evolves (s.gqAbort c) := by
  unfold State.gqAbort
  split
  · exact .ite (.update <| .gatesOff <| .setB <| .setF <| .setB h) h
  · exact h

theorem State.Evolves.startChannel {c : Nat} (h : s₀.Evolves s) : s₀.Evolves (s.startChannel c) :=
  .setBrpCh <| .carryZero <| .setB <| .setB <| .gqAbort h

theorem State.Evolves.endSoftStop {c : Nat} (h : s₀.Evolves s) : s₀.Evolves (s.endSoftStop c) := by
  unfold State.endSoftStop
  extract_lets t u
  have ht : s₀.Evolves t := .modBrpCh <| .gatesOff h
  have hu : s₀.Evolves u := .carryZero <| .setB <| .setB <| .setB <| .setB ht
  exact .ite (.startChannel hu) hu

theorem State.Evolves.latchBrp {c : Nat} {x : Field} (h : s₀.Evolves s) : s₀.Evolves (s.latchBrp c x) := by
  unfold State.latchBrp
  extract_lets t
  have ht : s₀.Evolves t := .carryZero <| .gatesOff <| .setB h
  exact .ite (.endSoftStop ht) ht

theorem State.Evolves.tripStop {t : Nat} (h : s₀.Evolves s) : s₀.Evolves (s.tripStop t) :=
  .rose <| .forAll h fun _ _ hu => .latchBrp hu

theorem State.Evolves.tripAgain {c : Nat} (h : s₀.Evolves s) : s₀.Evolves (s.tripAgain c) :=
  .ite (.latchBrp h) h

theorem State.Evolves.clearByEdge {c : Nat} (h : s₀.Evolves s) : s₀.Evolves (s.clearByEdge c) :=
  .ite (.tripAgain <| .setB <| .setB <| .setB h) h

theorem State.Evolves.doEdge {c : Nat} {hi on : Bool} (h : s₀.Evolves s) : s₀.Evolves (s.doEdge c hi on) := by
  refine .ite (.gateNow h) ?_
  extract_lets t
  have ht : s₀.Evolves t := .ite (.clearByEdge h) h
  exact .ite (.rose <| .latchBrp ht) <| .ite ht <| .gateNow ht

theorem State.Evolves.brpEnset {ch : Nat} (h : s₀.Evolves s) : s₀.Evolves (s.brpEnset ch) :=
  .ite (.forAll h fun _ _ hu => .ite hu <| .ite (.setB hu) <| .ite hu <| .startChannel hu) h

theorem State.Evolves.brpEnclr {ch : Nat} (h : s₀.Evolves s) : s₀.Evolves (s.brpEnclr ch) := by
  refine .ite (.forAll h fun _ _ hu => .ite (.setB hu) <| .ite ?_ hu) h
  extract_lets u'
  have hu' : s₀.Evolves u' := .setB hu
  exact .ite (.endSoftStop hu') hu'

theorem State.Evolves.softStopDone {c : Nat} (h : s₀.Evolves s) : s₀.Evolves (s.softStopDone c) := by
  unfold State.softStopDone
  split
  · exact .ite (.endSoftStop <| .advanceTo h) h
  · exact h

theorem State.Evolves.shadowWrite {ce : Bool} {c : Nat} {duty : Bool} {v : Nat} (h : s₀.Evolves s) :
    s₀.Evolves (s.shadowWrite ce c duty v) := by
  refine .ite ?_ h
  extract_lets t u
  have ht : s₀.Evolves t := .setF h
  have hu : s₀.Evolves u := .setB <| .setB ht
  exact .ite (.setB hu) <| .modBrpCh <| .setB hu

theorem State.Evolves.shadowCommit {c : Nat} (h : s₀.Evolves s) : s₀.Evolves (s.shadowCommit c) :=
  .ite (.setB h) h

theorem State.Evolves.shadowClean {c : Nat} (h : s₀.Evolves s) : s₀.Evolves (s.shadowClean c) :=
  .modBrpCh <| .setB <| .setB <| .setB h

theorem State.Evolves.shadowDiscard {c : Nat} (h : s₀.Evolves s) : s₀.Evolves (s.shadowDiscard c) :=
  .ite (.shadowClean <| .setF <| .setF h) h

theorem State.Evolves.runDue {c : Nat} (h : s₀.Evolves s) : s₀.Evolves (s.runDue c) :=
  .forAll (.modBrpCh h) fun _ _ hu => .doEdge hu

theorem State.Evolves.forceChannel {c : Nat} {ho lo : Bool} (h : s₀.Evolves s) :
    s₀.Evolves (s.forceChannel c ho lo) := by
  refine .ite h <| .ite ?_ <| .runDue <| .modBrpCh <| .modBrpCh <| .carryZero <| .setB <| .setB h
  extract_lets t u
  have ht : s₀.Evolves t := .incF <| .setB <| .gatesOff h
  have hu : s₀.Evolves u := .modBrpCh <| .note <| .carryZero <| .setB ht
  exact .ite (.endSoftStop hu) hu

theorem State.Evolves.forceSet {set gates : Nat} (h : s₀.Evolves s) : s₀.Evolves (s.forceSet set gates) :=
  .ite (.forAll h fun _ _ hu => .forceChannel <| .gqAbort hu) h

theorem State.Evolves.forceRelease {rel : Nat} (h : s₀.Evolves s) : s₀.Evolves (s.forceRelease rel) :=
  .ite (.forAll h fun _ _ hu => .ite (.modBrpCh hu) hu) h

theorem State.Evolves.clearLatch {ch : Nat} {x : Nat → Field} {trip : Bool} (h : s₀.Evolves s) :
    s₀.Evolves (s.clearLatch ch x trip) := by
  refine .ite (.rose <| .forAll h fun _ _ hu => ?_) h
  extract_lets u'
  have hu' : s₀.Evolves u' := .setB hu
  exact .ite (.tripAgain hu') hu'

theorem State.Evolves.transferSet {c : Nat} (h : s₀.Evolves s) : s₀.Evolves (s.transferSet c) :=
  .ite (.shadowClean <| .setF <| .setF h) <| .ite (.ite h <| .raise <| .setB h) h

theorem State.Evolves.setBrpCarry {c : Nat} {v : Int} {oldAge : Nat} (h : s₀.Evolves s) :
    s₀.Evolves (s.setBrpCarry c v oldAge) :=
  .setF <| .setF <| .ite h <| .incF h

theorem State.Evolves.newPeriod {c b : Nat} (h : s₀.Evolves s) : s₀.Evolves (s.newPeriod c b) := by
  unfold State.newPeriod
  extract_lets age old drop s1 carry p s2 s3 e s4
  have hs1 : s₀.Evolves s1 := .ite (.incF h) h
  have hs2 : s₀.Evolves s2 := .ite (.carryZero hs1) <| .setBrpCarry hs1
  have hs3 : s₀.Evolves s3 := .ite (.incF hs2) hs2
  have hs4 : s₀.Evolves s4 := .ite (.incF hs3) hs3
  exact .modBrpCh hs4

theorem State.Evolves.pwmBoundary {c : Nat} (h : s₀.Evolves s) : s₀.Evolves (s.pwmBoundary c) := by
  unfold State.pwmBoundary
  split
  · exact h
  · refine .ite h ?_
    extract_lets t rel t1 t2 hold e next t3
    have ht : s₀.Evolves t := .transferSet <| .advanceTo h
    have ht1 : s₀.Evolves t1 := .ite (.modBrpCh <| .setB <| .setB ht) ht
    have ht2 : s₀.Evolves t2 := .modBrpCh ht1
    have ht3 : s₀.Evolves t3 := .modBrpCh ht2
    exact .ite (.ite (.endSoftStop ht2) <| .runDue <| .modBrpCh ht2) <| .ite ht3 <| .newPeriod ht3

theorem State.Evolves.pwmEdge {c : Nat} (h : s₀.Evolves s) : s₀.Evolves (s.pwmEdge c) := by
  unfold State.pwmEdge
  extract_lets l
  clear_value l
  split
  · exact h
  · exact .ite (.runDue <| .advanceTo h) h

theorem State.Evolves.bothonSensed {c : Nat} (h : s₀.Evolves s) : s₀.Evolves (s.bothonSensed c) :=
  .ite (.raise <| .latchBrp h) h

theorem State.Evolves.bootLow {c : Nat} (h : s₀.Evolves s) : s₀.Evolves (s.bootLow c) := by
  unfold State.bootLow
  extract_lets t
  have ht : s₀.Evolves t := .setB h
  exact .ite (.rose <| .latchBrp ht) ht

theorem State.Evolves.bootstrapUndervoltage {c : Nat} (h : s₀.Evolves s) :
    s₀.Evolves (s.bootstrapUndervoltage c) :=
  .ite (.bootLow h) h

theorem State.Evolves.bootlowChange {c : Nat} {low : Bool} (h : s₀.Evolves s) :
    s₀.Evolves (s.bootlowChange c low) :=
  .ite (.ite (.bootLow h) <| .setB h) h

theorem State.Evolves.shortCircuit {c : Nat} (h : s₀.Evolves s) : s₀.Evolves (s.shortCircuit c) :=
  .ite (.rose <| .latchBrp h) h

theorem State.Evolves.tripInput {t : Nat} (h : s₀.Evolves s) : s₀.Evolves (s.tripInput t) :=
  .ite (.tripStop <| .showTrips h) h

theorem State.Evolves.tripBlankEnd {t : Nat} (h : s₀.Evolves s) : s₀.Evolves (s.tripBlankEnd t) := by
  unfold State.tripBlankEnd
  split
  · refine .ite ?_ h
    extract_lets u
    have hu : s₀.Evolves u := .showTrips <| .setBlank <| .advanceTo h
    exact .ite (.tripStop hu) hu
  · exact h

theorem State.Evolves.vgdLow (h : s₀.Evolves s) : s₀.Evolves s.vgdLow :=
  .ite (.setB <| .forAll h fun _ _ hu => .modBrpCh <| .gatesOff hu) h

theorem State.Evolves.vgdRecover (h : s₀.Evolves s) : s₀.Evolves s.vgdRecover := .ite (.setB h) h

theorem State.Evolves.hardStop {sf1 : Bool} (h : s₀.Evolves s) : s₀.Evolves (s.hardStop sf1) := by
  refine .ite (.forAll h fun _ _ hu => ?_) h
  extract_lets u' v w
  have hu' : s₀.Evolves u' := .carryZero <| .gatesOff <| .gqAbort hu
  have hv : s₀.Evolves v := .setB <| .setB <| .setB <| .setB hu'
  have hw : s₀.Evolves w := .ite (.setB hv) hv
  exact .modBrpCh hw

theorem State.Evolves.brpCtrlWrite {en : Bool} (h : s₀.Evolves s) : s₀.Evolves (s.brpCtrlWrite en) := by
  unfold State.brpCtrlWrite
  extract_lets t
  have ht : s₀.Evolves t := .setB h
  exact .ite ht <| .forAll ht fun _ _ hu => .gatesOff hu

/-! ## Machine/Link -/

theorem State.Evolves.setPort {i : Nat} {p : LinkPort} (h : s₀.Evolves s) : s₀.Evolves (s.setPort i p) :=
  .update h

theorem State.Evolves.modPort {i : Nat} {f : LinkPort → LinkPort} (h : s₀.Evolves s) :
    s₀.Evolves (s.modPort i f) :=
  .setPort h

theorem State.Evolves.linkEvent {q i kind word : Nat} (h : s₀.Evolves s) :
    s₀.Evolves (s.linkEvent q i kind word) :=
  .hwPush h

theorem State.Evolves.setLstate {i v : Nat} (h : s₀.Evolves s) : s₀.Evolves (s.setLstate i v) :=
  .ite h <| .linkEvent <| .setReg <| .setF h

theorem State.Evolves.lnkRefresh (h : s₀.Evolves s) : s₀.Evolves s.lnkRefresh :=
  .forAll h fun _ _ hu => .ite (.ite (.setLstate hu) hu) <| .ite hu <| .setPort <| .setLstate hu

theorem State.Evolves.sendNew {i : Nat} {w : LinkWord} (h : s₀.Evolves s) : s₀.Evolves (s.sendNew i w) := by
  unfold State.sendNew
  extract_lets p q edge kept t
  have ht : s₀.Evolves t := .setPort h
  exact .ite (.setB ht) ht

theorem State.Evolves.sendItem {i : Nat} {l : List LinkWord} (h : s₀.Evolves s) :
    s₀.Evolves (s.sendItem i l) := by
  unfold State.sendItem
  split
  · exact h
  · exact .modPort <| .sendNew h

theorem State.Evolves.takeResend {i j : Nat} (h : s₀.Evolves s) : s₀.Evolves (s.takeResend i j).1 :=
  .setPort h

theorem State.Evolves.sendSched {i : Nat} {l : List LinkWord} {rest : List (Nat × List LinkWord)}
    (h : s₀.Evolves s) : s₀.Evolves (s.sendSched i l rest) := by
  unfold State.sendSched
  extract_lets u d x v
  have hu : s₀.Evolves u := .modPort h
  have hx : s₀.Evolves x := .modPort hu
  have hv : s₀.Evolves v := by
    unfold v
    split
    · exact .ite (.setF <| .setF hx) hu
    · exact hu
  exact .sendItem hv

theorem State.Evolves.sendOrdered {i j : Nat} (h : s₀.Evolves s) : s₀.Evolves (s.sendOrdered i j) := by
  unfold State.sendOrdered
  extract_lets r t p due quota t'
  have hr : s₀.Evolves r.1 := .takeResend h
  have ht : s₀.Evolves t := hr
  have ht' : s₀.Evolves t' := by
    unfold t'
    split
    · exact .setPort ht
    · exact ht
  split
  · exact .setPort ht
  · clear_value quota
    split
    · exact .sendNew <| .setPort ht'
    · split
      · exact .sendItem <| .setPort ht'
      · clear_value due
        split
        · exact .sendSched ht'
        · refine .ite (.sendNew <| .setPort ht') ?_
          split
          · exact .sendNew <| .setPort ht'
          · exact .setPort ht'

theorem State.Evolves.sendCalSlot {i j : Nat} (h : s₀.Evolves s) : s₀.Evolves (s.sendCalSlot i j) := by
  unfold State.sendCalSlot
  split
  · exact .ite (.sendSched h) <| .modPort h
  · exact .modPort h

theorem State.Evolves.sf1Filter {i : Nat} (h : s₀.Evolves s) : s₀.Evolves (s.sf1Filter i) :=
  .ite (.modPort h) h

theorem State.Evolves.sendSlot {i j : Nat} (h : s₀.Evolves s) : s₀.Evolves (s.sendSlot i j) := by
  unfold State.sendSlot
  extract_lets s'
  have hs' : s₀.Evolves s' := .sf1Filter h
  refine .ite (.sendNew <| .setPort hs') <| .ite (.sendNew hs') <| .ite (.setPort hs') ?_
  split
  · exact .sendNew <| .setPort hs'
  · exact .ite (.sendCalSlot hs') <| .sendOrdered hs'

theorem State.Evolves.linkSlot (h : s₀.Evolves s) : s₀.Evolves s.linkSlot :=
  .ite (.forAll (.update <| .advanceTo h) fun _ _ hu => .sendSlot hu) h

theorem State.Evolves.stopRequest (h : s₀.Evolves s) : s₀.Evolves s.stopRequest :=
  .forAll h fun _ _ hu => .modPort hu

theorem State.Evolves.stopPort {i : Nat} (h : s₀.Evolves s) : s₀.Evolves (s.stopPort i) := .ite (.modPort h) h

theorem State.Evolves.pushCmd {i : Nat} {l : List LinkWord} (h : s₀.Evolves s) : s₀.Evolves (s.pushCmd i l) :=
  .ite (.modPort h) h

theorem State.Evolves.pushDue {i op arg t lep : Nat} (h : s₀.Evolves s) :
    s₀.Evolves (s.pushDue i op arg t lep) :=
  .pushCmd h

theorem State.Evolves.sendSvc {i : Nat} (h : s₀.Evolves s) : s₀.Evolves (s.sendSvc i) := .pushCmd h

theorem State.Evolves.lnkCmdWrite {i op arg : Nat} (h : s₀.Evolves s) :
    s₀.Evolves (s.lnkCmdWrite i op arg) := by
  refine .ite ?_ h
  extract_lets t u
  have ht : s₀.Evolves t := .setF <| .setF h
  have hu : s₀.Evolves u := .modPort ht
  exact .ite (.modPort <| .setB hu) <| .setB hu

theorem State.Evolves.linkAligned {i : Nat} (h : s₀.Evolves s) : s₀.Evolves (s.linkAligned i) :=
  .ite (.modPort <| .setLstate h) h

theorem State.Evolves.linkAlignLost {i : Nat} (h : s₀.Evolves s) : s₀.Evolves (s.linkAlignLost i) :=
  .ite (.setLstate h) h

theorem State.Evolves.badUplink {i : Nat} (h : s₀.Evolves s) : s₀.Evolves (s.badUplink i) :=
  .setPort <| .incF h

theorem State.Evolves.reportWord {i n : Nat} {data : Word} (h : s₀.Evolves s) :
    s₀.Evolves (s.reportWord i n data) := by
  unfold State.reportWord
  exact .modPort <| .ite (.setCtx h) h

theorem State.Evolves.statusWordIn {i : Nat} {data : Word} {w40 : Nat} (h : s₀.Evolves s) :
    s₀.Evolves (s.statusWordIn i data w40) := by
  unfold State.statusWordIn
  extract_lets act t t'
  have ht : s₀.Evolves t := .setF <| .setB <| .setB h
  have ht' : s₀.Evolves t' := .ite (.sendSvc ht) ht
  exact .ite (.linkEvent <| .incF ht') ht'

theorem State.Evolves.echoIn {i : Nat} {echo trx : Word} (h : s₀.Evolves s) :
    s₀.Evolves (s.echoIn i echo trx) := by
  unfold State.echoIn
  extract_lets p dUsed rtt l _ d long t
  have ht : s₀.Evolves t := .setPort <| .setB <| .setF h
  exact .ite (.linkEvent ht) ht

theorem State.Evolves.nakIn {i named : Nat} (h : s₀.Evolves s) : s₀.Evolves (s.nakIn i named) := by
  unfold State.nakIn
  extract_lets t
  have ht : s₀.Evolves t := .incF h
  split
  · exact .ite ht <| .ite (.modPort ht) <| .modPort ht
  · exact ht

theorem State.Evolves.uplinkGood {i ty seq : Nat} {data trx : Word} (h : s₀.Evolves s) :
    s₀.Evolves (s.uplinkGood i ty seq data trx) := by
  unfold State.uplinkGood
  extract_lets w40 t n u u'
  have ht : s₀.Evolves t := .modPort h
  have hu : s₀.Evolves u := .reportWord ht
  have hu' : s₀.Evolves u' := .linkEvent ht
  split
  · exact .ite ht <| .ite (.statusWordIn hu) hu
  · exact .reportWord ht
  · exact .echoIn <| .reportWord ht
  · exact .ite ht <| .modPort <| .setReg ht
  · exact .nakIn ht
  · exact .ite (.incF hu') hu'
  · exact ht

theorem State.Evolves.uplinkWord {i : Nat} {good : Bool} {ty seq : Nat} {data trx : Word} (h : s₀.Evolves s) :
    s₀.Evolves (s.uplinkWord i good ty seq data trx) :=
  .ite (.ite (.ite (.modPort h) <| .uplinkGood h) <| .badUplink h) h

theorem State.Evolves.reportSnapshot {i : Nat} (h : s₀.Evolves s) : s₀.Evolves (s.reportSnapshot i) :=
  .ite (.setCtx <| .putWords h) h

theorem State.Evolves.portBoundary {i : Nat} (h : s₀.Evolves s) : s₀.Evolves (s.portBoundary i) := by
  unfold State.portBoundary
  extract_lets p up dn lost t0 t1 ex t2
  have ht0 : s₀.Evolves t0 := .ite (.linkEvent <| .incF h) h
  have ht1 : s₀.Evolves t1 := .ite (.linkEvent <| .incF ht0) ht0
  have ht2 : s₀.Evolves t2 := .setF <| .setF ht1
  exact .setPort ht2

theorem State.Evolves.schedCal {i : Nat} {l : List Word} (h : s₀.Evolves s) : s₀.Evolves (s.schedCal i l) :=
  .modPort h

theorem State.Evolves.schedAdd {i slot : Nat} {items : List (List LinkWord)} (h : s₀.Evolves s) :
    s₀.Evolves (s.schedAdd i slot items) := by
  unfold State.schedAdd
  exact .modPort h

theorem State.Evolves.linkLost {i : Nat} (h : s₀.Evolves s) : s₀.Evolves (s.linkLost i) :=
  .ite (.rose <| .modPort <| .setReg h) h

/-! ## Machine/Endpoint -/

theorem State.Evolves.setEp {i : Nat} {e : Endpoint} (h : s₀.Evolves s) : s₀.Evolves (s.setEp i e) :=
  .update h

theorem State.Evolves.modEp {i : Nat} {f : Endpoint → Endpoint} (h : s₀.Evolves s) :
    s₀.Evolves (s.modEp i f) :=
  .setEp h

theorem State.Evolves.epWord {i : Nat} {escrow : Bool} {seq n : Nat} {body : Endpoint → Endpoint}
    (h : s₀.Evolves s) : s₀.Evolves (s.epWord i escrow seq n body) := .ite (.setEp h) h

theorem State.Evolves.epCmd {i : Nat} {escrow : Bool} {seq n op : Nat} {body : Endpoint → Endpoint}
    (h : s₀.Evolves s) : s₀.Evolves (s.epCmd i escrow seq n op body) := .epWord h

theorem State.Evolves.endpointPowerUp {i : Nat} {c0 c1 c2 c3 : Word} (h : s₀.Evolves s) :
    s₀.Evolves (s.endpointPowerUp i c0 c1 c2 c3) :=
  .setEp h

theorem State.Evolves.epAlign {i : Nat} {escrow ok : Bool} (h : s₀.Evolves s) :
    s₀.Evolves (s.epAlign i escrow ok) :=
  .ite (.setEp h) h

theorem State.Evolves.endpointBeacon {i : Nat} {escrow : Bool} {seq : Nat} {beacon : Word}
    (h : s₀.Evolves s) : s₀.Evolves (s.endpointBeacon i escrow seq beacon) := .epWord h

theorem State.Evolves.endpointDelayWord {i : Nat} {escrow : Bool} {seq d : Nat} (h : s₀.Evolves s) :
    s₀.Evolves (s.endpointDelayWord i escrow seq d) :=
  .epWord h

theorem State.Evolves.endpointBadWord {i : Nat} {escrow : Bool} (h : s₀.Evolves s) :
    s₀.Evolves (s.endpointBadWord i escrow) :=
  .ite (.setEp h) h

theorem State.Evolves.edgeCommand {i : Nat} {escrow : Bool} {seq : Nat} {edge cont : Word}
    (h : s₀.Evolves s) : s₀.Evolves (s.edgeCommand i escrow seq edge cont) := by
  unfold State.edgeCommand
  exact .epWord h

theorem State.Evolves.bundleDeadline {i : Nat} (h : s₀.Evolves s) : s₀.Evolves (s.bundleDeadline i) :=
  .ite (.modEp <| .advanceTo h) h

theorem State.Evolves.edgeDue {i : Nat} (h : s₀.Evolves s) : s₀.Evolves (s.edgeDue i) := by
  unfold State.edgeDue
  extract_lets
  split
  · exact .modEp <| .advanceTo h
  · exact h

theorem State.Evolves.cadenceCommand {i : Nat} {escrow : Bool} {seq : Nat} {w c1 c2 c3 : Word}
    (h : s₀.Evolves s) : s₀.Evolves (s.cadenceCommand i escrow seq w c1 c2 c3) := .epWord h

theorem State.Evolves.cadenceStart {i g : Nat} (h : s₀.Evolves s) : s₀.Evolves (s.cadenceStart i g) := by
  unfold State.cadenceStart
  extract_lets
  split
  · exact .modEp <| .advanceTo h
  · exact h

theorem State.Evolves.cadenceEdge {i g : Nat} (h : s₀.Evolves s) : s₀.Evolves (s.cadenceEdge i g) := by
  unfold State.cadenceEdge
  extract_lets
  split
  · exact .modEp <| .advanceTo h
  · exact h

theorem State.Evolves.cmdStop {i : Nat} {escrow : Bool} {seq : Nat} (h : s₀.Evolves s) :
    s₀.Evolves (s.cmdStop i escrow seq) :=
  .epWord h

theorem State.Evolves.cmdBypass {i : Nat} {escrow : Bool} {seq idx : Nat} {due : Word} (h : s₀.Evolves s) :
    s₀.Evolves (s.cmdBypass i escrow seq idx due) :=
  .epCmd h

theorem State.Evolves.bypassDue {i : Nat} (h : s₀.Evolves s) : s₀.Evolves (s.bypassDue i) := by
  unfold State.bypassDue
  extract_lets
  split
  · exact .modEp <| .advanceTo h
  · exact h

theorem State.Evolves.cmdClear {i : Nat} {escrow : Bool} {seq : Nat} {clrStop clrCell : Bool} {mask : Nat}
    (h : s₀.Evolves s) : s₀.Evolves (s.cmdClear i escrow seq clrStop clrCell mask) := .epCmd h

theorem State.Evolves.cmdTake {i : Nat} {escrow : Bool} {seq : Nat} {tb : Word} (h : s₀.Evolves s) :
    s₀.Evolves (s.cmdTake i escrow seq tb) :=
  .epWord h

theorem State.Evolves.cmdReturn {i : Nat} {escrow : Bool} {seq : Nat} (h : s₀.Evolves s) :
    s₀.Evolves (s.cmdReturn i escrow seq) :=
  .epCmd h

theorem State.Evolves.cmdReplay {i : Nat} {escrow : Bool} {seq named : Nat} (h : s₀.Evolves s) :
    s₀.Evolves (s.cmdReplay i escrow seq named) :=
  .epWord h

theorem State.Evolves.cmdCapreq {i : Nat} {escrow : Bool} {seq : Nat} (h : s₀.Evolves s) :
    s₀.Evolves (s.cmdCapreq i escrow seq) :=
  .epWord h

theorem State.Evolves.cmdSvc {i : Nat} {escrow : Bool} {seq : Nat} {com : Bool} (h : s₀.Evolves s) :
    s₀.Evolves (s.cmdSvc i escrow seq com) :=
  .epCmd h

theorem State.Evolves.cmdUnlistedOp {i : Nat} {escrow : Bool} {seq op : Nat} (h : s₀.Evolves s) :
    s₀.Evolves (s.cmdUnlistedOp i escrow seq op) :=
  .epWord h

theorem State.Evolves.calWord {i : Nat} {escrow : Bool} {seq : Nat} {falling : Bool} {g trim : Nat}
    (h : s₀.Evolves s) : s₀.Evolves (s.calWord i escrow seq falling g trim) := .epWord h

theorem State.Evolves.cfgWord {i : Nat} {escrow : Bool} {seq : Nat} {body : Endpoint → Endpoint}
    (h : s₀.Evolves s) : s₀.Evolves (s.cfgWord i escrow seq body) := .epWord h

theorem State.Evolves.cfgWrite {i : Nat} {escrow : Bool} {seq addr value : Nat} (h : s₀.Evolves s) :
    s₀.Evolves (s.cfgWrite i escrow seq addr value) :=
  .cfgWord h

theorem State.Evolves.cfgCommit {i : Nat} {escrow : Bool} {seq sum : Nat} (h : s₀.Evolves s) :
    s₀.Evolves (s.cfgCommit i escrow seq sum) :=
  .cfgWord h

theorem State.Evolves.endpointBoundary {i : Nat} (h : s₀.Evolves s) : s₀.Evolves (s.endpointBoundary i) :=
  .ite (.modEp <| .advanceTo h) h

theorem State.Evolves.reportSample {i vcap current temps : Nat} (h : s₀.Evolves s) :
    s₀.Evolves (s.reportSample i vcap current temps) :=
  .ite (.modEp <| .advanceTo h) h

theorem State.Evolves.faultLatch {i mask present : Nat} (h : s₀.Evolves s) :
    s₀.Evolves (s.faultLatch i mask present) :=
  .ite (.setEp h) h

/-! ## Machine/Scheduler -/

theorem State.Evolves.modCell {i : Nat} {f : CellAux → CellAux} (h : s₀.Evolves s) :
    s₀.Evolves (s.modCell i f) :=
  .update h

theorem State.Evolves.modArm {a : Nat} {f : ArmAux → ArmAux} (h : s₀.Evolves s) : s₀.Evolves (s.modArm a f) :=
  .update h

theorem State.Evolves.emitCell {endT : Nat} {frac : Bool} {c : CellView} {o : PassOut} (h : s₀.Evolves s) :
    s₀.Evolves (s.emitCell endT frac c o) := by
  unfold State.emitCell
  extract_lets es idx ins t t' t'' pairs cap _ t'''
  have ht : s₀.Evolves t := .setCtxF <| .setCtxF <| .setCtxF <| .setCtxF h
  have ht' : s₀.Evolves t' := by
    unfold t'
    split
    · exact .setCtx ht
    · exact ht
  have ht'' : s₀.Evolves t'' := .modCell ht'
  have ht''' : s₀.Evolves t''' := .update ht''
  exact .ite ht''' <| .ite (.schedAdd ht''') <| .ite (.schedAdd ht''') ht'''

theorem State.Evolves.armInputs {a : Nat} (h : s₀.Evolves s) : s₀.Evolves (s.armInputs a).1 := by
  unfold State.armInputs
  extract_lets v neg s1 fresh s2
  have hs1 : s₀.Evolves s1 := .ite (.setB h) <| .incF <| .setB h
  have hs2 : s₀.Evolves s2 := .ite hs1 <| .incF hs1
  split <;> dsimp only
  · exact .modArm hs2
  · exact .modArm hs1

theorem State.Evolves.setCarry {a : Nat} {pol unmet vl old : Int} {age : Nat} {absorbed full : Bool}
    (h : s₀.Evolves s) : s₀.Evolves (s.setCarry a pol unmet vl old age absorbed full) :=
  .setF <| .setF <| .ite h <| .incF h

theorem State.Evolves.countPass {a t lam band wear : Nat} (h : s₀.Evolves s) :
    s₀.Evolves (s.countPass a t lam band wear) := by
  unfold State.countPass
  exact .modArm <| .setReg h

theorem State.Evolves.clampNote {a : Nat} {c : Bool} (h : s₀.Evolves s) : s₀.Evolves (s.clampNote a c) :=
  .ite (.incF <| .setB h) h

theorem State.Evolves.setPscCarry {c : CellView} {unmet vl old : Int} (h : s₀.Evolves s) :
    s₀.Evolves (s.setPscCarry c unmet vl old) :=
  .setCtxF <| .setCtxF <| .ite h <| .incF h

theorem State.Evolves.armPassOne {endT a : Nat} (h : s₀.Evolves s) : s₀.Evolves (s.armPassOne endT a) := by
  unfold State.armPassOne
  extract_lets inp s0 cells rg r s1 neg s2 pol e elig standing nact o t age raw drop old s3 m t' u v
  have hinp : s₀.Evolves inp.1 := .armInputs h
  have hs0 : s₀.Evolves s0 := hinp
  have hs1 : s₀.Evolves s1 := .clampNote hs0
  have hs2 : s₀.Evolves s2 := .modArm hs1
  have ht : s₀.Evolves t := .foldl hs2 fun _ _ hu => .emitCell hu
  have hs3 : s₀.Evolves s3 := .ite (.incF hs2) hs2
  have ht' : s₀.Evolves t' := .foldl hs3 fun _ _ hu => .emitCell hu
  have hu : s₀.Evolves u := .setCarry ht'
  have hv : s₀.Evolves v := .ite (.clampNote hu) hu
  split
  · exact .foldl hs2 fun _ _ hw =>
      .countPass <| .emitCell <| .setPscCarry <| .ite (.incF <| .setCtx hw) hw
  · exact .setReg <| .countPass ht
  · exact .countPass hv
  · exact hs2

theorem State.Evolves.armPass (h : s₀.Evolves s) : s₀.Evolves s.armPass := by
  refine .ite ?_ h
  extract_lets t endT u v _
  have ht : s₀.Evolves t := .advanceTo h
  have hu : s₀.Evolves u := .foldl ht fun _ _ hu => .armPassOne hu
  have hv : s₀.Evolves v := .setF <| .setB hu
  exact .update hv

theorem State.Evolves.cadenceCell {endT i : Nat} (h : s₀.Evolves s) : s₀.Evolves (s.cadenceCell endT i).1 := by
  unfold State.cadenceCell
  extract_lets
  refine .iteFst h <| .iteFst ?_ <| .iteFst h ?_ <;> dsimp only
  · exact .modCell <| .setCtx <| .schedAdd h
  · exact .modCell <| .setCtx <| .schedAdd h

theorem State.Evolves.cadencePass (h : s₀.Evolves s) : s₀.Evolves s.cadencePass := by
  refine .ite ?_ h
  extract_lets t start count endT u v _
  have ht : s₀.Evolves t := .advanceTo h
  have hu : s₀.Evolves u := .foldl ht fun _ _ hu => .cadenceCell hu
  have hv : s₀.Evolves v := .setB hu
  exact .update hv

theorem State.Evolves.endArm {endT : Nat} (h : s₀.Evolves s) : s₀.Evolves (s.endArm endT) := by
  unfold State.endArm
  extract_lets t u _
  have ht : s₀.Evolves t := .advanceTo h
  have hu : s₀.Evolves u := .when (.setB ht) fun _ hu => .setB hu
  exact .update hu

theorem State.Evolves.passEnd (h : s₀.Evolves s) : s₀.Evolves s.passEnd := by
  refine .ite h ?_
  split
  · refine .ite (.endArm h) ?_
    extract_lets t u _
    have ht : s₀.Evolves t := .advanceTo h
    have hu : s₀.Evolves u := .when (.setB ht) fun _ hu => .setB hu
    exact .update hu
  · exact .endArm h
  · exact h

theorem State.Evolves.fomWindowEnd {a : Nat} (h : s₀.Evolves s) : s₀.Evolves (s.fomWindowEnd a) :=
  .ite
    (.update <| .modArm <| .setReg <| .when (.setF <| .setF <| .setReg <| .setReg h) fun _ hu => .setB hu)
    h

/-! ## Machine/Ring -/

theorem State.Evolves.modRp {b : Bool} {f : RingPort → RingPort} (h : s₀.Evolves s) :
    s₀.Evolves (s.modRp b f) :=
  .ite (.update h) <| .update h

theorem State.Evolves.ringEvent {q pos kind data : Nat} (h : s₀.Evolves s) :
    s₀.Evolves (s.ringEvent q pos kind data) :=
  .hwPush h

theorem State.Evolves.mkFrame {cls dst : Nat} {bc : Bool} {w3 : Word} {body : List Word} (h : s₀.Evolves s) :
    s₀.Evolves (s.mkFrame cls dst bc w3 body).1 :=
  .update h

theorem State.Evolves.ringPush {m : RingMsg} {a b : Bool} (h : s₀.Evolves s) :
    s₀.Evolves (s.ringPush m a b) :=
  .update h

theorem State.Evolves.ringSend {dst : Nat} {m : RingMsg} (h : s₀.Evolves s) : s₀.Evolves (s.ringSend dst m) :=
  .ringPush h

theorem State.Evolves.noticeBc {kind : Nat} {args : List Nat} (h : s₀.Evolves s) :
    s₀.Evolves (s.noticeBc kind args) :=
  .ringPush h

theorem State.Evolves.noticeBuddy {kind : Nat} {args : List Nat} (h : s₀.Evolves s) :
    s₀.Evolves (s.noticeBuddy kind args) :=
  .ringSend h

theorem State.Evolves.setJoined {j : Bool} (h : s₀.Evolves s) : s₀.Evolves (s.setJoined j) := .setB <| .setB h

theorem State.Evolves.setRole {r : Nat} (h : s₀.Evolves s) : s₀.Evolves (s.setRole r) := by
  unfold State.setRole
  extract_lets t u
  have ht : s₀.Evolves t := .setF h
  have hu : s₀.Evolves u := .ite (.setSrc ht) ht
  exact .ite hu <| .ringEvent hu

theorem State.Evolves.hear {f : List Word} (h : s₀.Evolves s) : s₀.Evolves (s.hear f).1 := by
  unfold State.hear
  extract_lets own t0 foreign claim s1 _ s2 up _ s3 swap s4
  have hs1 : s₀.Evolves s1 := .ite (.note <| .setB h) h
  have hs2 : s₀.Evolves s2 := .update hs1
  have hs3 : s₀.Evolves s3 := .ite (.ite (.update hs2) <| .setF <| .setF hs2) hs2
  have hs4 : s₀.Evolves s4 := .ite (.setF <| .setF <| .setRole hs3) hs3
  exact .iteFst h <| .iteFst h <| .iteFst hs1 <| .iteFst hs4 <| .update hs4

theorem State.Evolves.shareSplit (h : s₀.Evolves s) : s₀.Evolves s.shareSplit := by
  refine .ite (.forAll h fun _ _ hu => ?_) h
  extract_lets
  refine .forAll hu fun _ _ hv => ?_
  extract_lets _ v'
  have hv' : s₀.Evolves v' := .update hv
  exact .ite (.modArm hv') hv'

theorem State.Evolves.queueHop {b : Bool} (h : s₀.Evolves s) : s₀.Evolves (s.queueHop b) :=
  .ite (.ringPush <| .mkFrame h) h

theorem State.Evolves.queueArmcnt (h : s₀.Evolves s) : s₀.Evolves s.queueArmcnt :=
  .forAll h fun _ _ hu => .ringPush <| .mkFrame hu

theorem State.Evolves.dripTake {i : Nat} (h : s₀.Evolves s) : s₀.Evolves (s.dripTake i).1 := by
  unfold State.dripTake
  extract_lets
  refine .iteFst h <| .iteFst h ?_
  split
  · exact .update h
  · exact .update h

theorem State.Evolves.queueEscSide {esc : Bool} (h : s₀.Evolves s) : s₀.Evolves (s.queueEscSide esc) :=
  .forAll h fun _ _ hu => .ringSend <| .mkFrame <| .foldlFst hu fun _ _ hv => .dripTake hv

theorem State.Evolves.queueEscrow (h : s₀.Evolves s) : s₀.Evolves s.queueEscrow :=
  .ite (.update <| .queueEscSide <| .queueEscSide h) h

theorem State.Evolves.queueRefbWay {down : Bool} (h : s₀.Evolves s) : s₀.Evolves (s.queueRefbWay down) :=
  .forAll h fun _ _ hu => .ringPush <| .mkFrame hu

theorem State.Evolves.queueOwn {j : Nat} (h : s₀.Evolves s) : s₀.Evolves (s.queueOwn j) := by
  unfold State.queueOwn
  extract_lets r __src _ b h' s1 n rdy t _ s2 ended t'
  have hr : s₀.Evolves r.1 := .mkFrame h
  have h__src : s₀.Evolves __src := hr
  have hb : s₀.Evolves b := .ite (.update h__src) h
  have hh' : s₀.Evolves h' := .queueHop <| .queueHop hb
  have hs1 : s₀.Evolves s1 := .ite (.ite (.queueArmcnt hh') hh') h
  have ht : s₀.Evolves t := .queueRefbWay <| .queueRefbWay hs1
  have hs2 : s₀.Evolves s2 := .ite (.update ht) hs1
  have ht' : s₀.Evolves t' := .queueEscrow hs2
  exact .ite (.update ht') hs2

theorem State.Evolves.arriveAt {b : Bool} {f : Option (List Word)} (h : s₀.Evolves s) :
    s₀.Evolves (s.arriveAt b f) := by
  unfold State.arriveAt
  split
  · exact .ite (.incF h) h
  · exact h

theorem State.Evolves.sendOn {b : Bool} {m : RingMsg} {resent : Bool} (h : s₀.Evolves s) :
    s₀.Evolves (s.sendOn b m resent) :=
  .modRp h

theorem State.Evolves.sendOwn {b : Bool} (h : s₀.Evolves s) : s₀.Evolves (s.sendOwn b) := by
  unfold State.sendOwn
  split
  · exact .modRp h
  · extract_lets m1 q _ t u
    have ht : s₀.Evolves t := .update h
    have hu : s₀.Evolves u := .ite (.setB ht) ht
    exact .sendOn hu

theorem State.Evolves.portSlot {b : Bool} {onw : Option RingMsg} (h : s₀.Evolves s) :
    s₀.Evolves (s.portSlot b onw) := by
  refine .ite (.modRp h) ?_
  split
  · exact .sendOn <| .modRp h
  · exact .sendOn h
  · exact .sendOwn h

theorem State.Evolves.ringSlot {inA inB : Option (List Word)} (h : s₀.Evolves s) :
    s₀.Evolves (s.ringSlot inA inB) :=
  .ite (.update <| .portSlot <| .portSlot <| .arriveAt <| .arriveAt <| .queueOwn <| .advanceTo h) h

theorem State.Evolves.ringBadWord {b : Bool} (h : s₀.Evolves s) : s₀.Evolves (s.ringBadWord b) := by
  refine .ite ?_ h
  extract_lets t
  have ht : s₀.Evolves t := .incF h
  exact .ite ht <| .modRp <| .incF ht

theorem State.Evolves.frameLost {b : Bool} (h : s₀.Evolves s) : s₀.Evolves (s.frameLost b) :=
  .modRp <| .incF h

theorem State.Evolves.ringNak {b : Bool} (h : s₀.Evolves s) : s₀.Evolves (s.ringNak b) := by
  refine .ite ?_ h
  split
  · exact .modRp h
  · exact .frameLost h

theorem State.Evolves.ringFramesLost {b : Bool} (h : s₀.Evolves s) : s₀.Evolves (s.ringFramesLost b) := by
  refine .ite ?_ h
  extract_lets x n t
  have ht : s₀.Evolves t := .setF <| .frameLost h
  exact .ite (.incF h) <| .ite (.raise ht) ht

theorem State.Evolves.ringPortUp {b : Bool} (h : s₀.Evolves s) : s₀.Evolves (s.ringPortUp b) := by
  refine .ite ?_ h
  extract_lets t
  have ht : s₀.Evolves t := .setF h
  exact .ite (.ringEvent ht) ht

theorem State.Evolves.ringPortBroken {b : Bool} (h : s₀.Evolves s) : s₀.Evolves (s.ringPortBroken b) := by
  refine .ite ?_ h
  extract_lets t u v
  have ht : s₀.Evolves t := .setF h
  have hv : s₀.Evolves v := .ringEvent <| .ringPush ht
  exact .ite (.update hv) ht

theorem State.Evolves.breakNotice {u : Nat} (h : s₀.Evolves s) : s₀.Evolves (s.breakNotice u) :=
  .ite (.update <| .ringEvent h) h

theorem State.Evolves.applyBreak {u : Nat} (h : s₀.Evolves s) : s₀.Evolves (s.applyBreak u) :=
  .ite (.ite h <| .ite (.setB h) <| .ite (.setB <| .setF h) h) <| .setF <| .setB h

theorem State.Evolves.planSwitch (h : s₀.Evolves s) : s₀.Evolves s.planSwitch := by
  unfold State.planSwitch
  extract_lets k s1 _ s2 __src _ s3 _
  have hs1 : s₀.Evolves s1 := .forAll h fun _ _ hu => .applyBreak hu
  have hs2 : s₀.Evolves s2 := .update hs1
  have h__src : s₀.Evolves __src := .setF <| .setB <| .setB hs2
  have hs3 : s₀.Evolves s3 := by
    unfold s3
    split
    · exact .ite (.update h__src) hs2
    · exact hs2
  exact .ite (.update hs3) hs3

theorem State.Evolves.generationChange (h : s₀.Evolves s) : s₀.Evolves s.generationChange := by
  unfold State.generationChange
  extract_lets k _ s1 full low __src
  have hs1 : s₀.Evolves s1 := by
    unfold s1
    split
    · exact .ite (.update <| .ringEvent <| .setF <| .setF h) h
    · exact h
  have h__src : s₀.Evolves __src := .setF hs1
  exact .ite (.ite (.update h__src) hs1) hs1

theorem State.Evolves.ringHopReceive {b : Bool} {f : List Word} {capture : Word} (h : s₀.Evolves s) :
    s₀.Evolves (s.ringHopReceive b f capture) := by
  refine .ite ?_ h
  extract_lets p _ h' t t1 t4
  have hh' : s₀.Evolves h' := .update h
  have ht : s₀.Evolves t := .modRp hh'
  clear_value t1
  clear_value t4
  split
  · exact .setB <| .setB <| .setF <| .modRp ht
  · exact ht

theorem State.Evolves.setTake {i : Nat} {r : Option TakeRec} (h : s₀.Evolves s) :
    s₀.Evolves (s.setTake i r) :=
  .update h

theorem State.Evolves.sendTake {i tb cause : Nat} (h : s₀.Evolves s) : s₀.Evolves (s.sendTake i tb cause) := by
  unfold State.sendTake
  exact .modCell <| .setTake <| .pushDue h

theorem State.Evolves.adoptEdge {i b : Nat} {r : TakeRec} (h : s₀.Evolves s) :
    s₀.Evolves (s.adoptEdge i b r) := by
  unfold State.adoptEdge
  exact .modCell <| .setTake <| .setCtx <| .setCtxF <| .setCtxF h

theorem State.Evolves.tokackReceive {i tb : Nat} (h : s₀.Evolves s) : s₀.Evolves (s.tokackReceive i tb) := by
  refine .ite ?_ h
  split
  · refine .ite ?_ h
    extract_lets t
    have ht : s₀.Evolves t := .setTake h
    exact .ite (.noticeBuddy ht) ht
  · exact h

theorem State.Evolves.tokackCheck (h : s₀.Evolves s) : s₀.Evolves s.tokackCheck :=
  .forAll h fun _ _ hu => .ite hu <| .sendTake <| .ite (.ringEvent <| .note <| .incF hu) hu

theorem State.Evolves.hoEnd {result : Nat} (h : s₀.Evolves s) : s₀.Evolves (s.hoEnd result) := by
  unfold State.hoEnd
  extract_lets t _ u v
  have ht : s₀.Evolves t := .setF <| .setB <| .setF h
  have hu : s₀.Evolves u := .update ht
  have hv : s₀.Evolves v := .ringEvent hu
  exact .ite (.rose <| .setB <| .setB hv) hv

theorem State.Evolves.hoCommand {back : Bool} {cell : Nat} (h : s₀.Evolves s) :
    s₀.Evolves (s.hoCommand back cell) :=
  .ite
    (.ite (.ringEvent <| .setF h) <|
     .ite (.ringEvent <| .setF h) <| .ite (.ringEvent <| .setF h) <| .update <| .setF <| .setF <| .setB h)
    h

theorem State.Evolves.handoverCancel (h : s₀.Evolves s) : s₀.Evolves s.handoverCancel := by
  unfold State.handoverCancel
  split
  · exact .ite (.hoEnd h) h
  · exact h

theorem State.Evolves.hoReqReceive {back : Bool} {cell held : Nat} (h : s₀.Evolves s) :
    s₀.Evolves (s.hoReqReceive back cell held) := by
  refine .ite ?_ h
  extract_lets s1 cross taking r m s2 tb t
  have hs1 : s₀.Evolves s1 := .ringEvent h
  have hs2 : s₀.Evolves s2 := .noticeBc hs1
  have ht : s₀.Evolves t := .setF <| .setF <| .setB hs2
  exact .ite (.hoEnd hs2) <| .ite hs2 <| .update ht

theorem State.Evolves.hoAckReceive {result held : Nat} (h : s₀.Evolves s) :
    s₀.Evolves (s.hoAckReceive result held) := by
  unfold State.hoAckReceive
  split
  · exact .ite (.ite (.update h) <| .hoEnd h) h
  · exact h

theorem State.Evolves.hoBoundary (h : s₀.Evolves s) : s₀.Evolves s.hoBoundary := by
  unfold State.hoBoundary
  split
  · exact h
  · extract_lets k m t _ t'
    have ht : s₀.Evolves t := .noticeBuddy h
    have ht' : s₀.Evolves t' := .setF h
    exact .ite (.update ht) <|
      .ite
        (.ite (.forAll ht' fun _ _ hu => .sendTake hu) <| .forAll ht' fun _ _ hu => .modCell hu) <|
      .ite (.setF h) h

theorem State.Evolves.hoFinish (h : s₀.Evolves s) : s₀.Evolves s.hoFinish := by
  unfold State.hoFinish
  split
  · exact .ite (.hoEnd <| .update h) <| .ite (.hoEnd h) h
  · exact h

theorem State.Evolves.heldBackTakes (h : s₀.Evolves s) : s₀.Evolves s.heldBackTakes :=
  .update <| .forAll h fun _ _ hu => .sendTake hu

theorem State.Evolves.timeAction (h : s₀.Evolves s) : s₀.Evolves s.timeAction := by
  refine .ite (.ite h <| .ite ?_ <| .rose <| .setB h) <| .ite (.setB h) h
  extract_lets t
  have ht : s₀.Evolves t := .hoCommand h
  exact .ite (.setB ht) <| .rose <| .setB ht

theorem State.Evolves.timeTakeback (h : s₀.Evolves s) : s₀.Evolves s.timeTakeback :=
  .ite (.hoCommand <| .update h) h

theorem State.Evolves.ringBeaconReceive {b : Bool} {f : List Word} {arrival : DWord} (h : s₀.Evolves s) :
    s₀.Evolves (s.ringBeaconReceive b f arrival) := by
  refine .ite ?_ h
  extract_lets own s1 _ s2 t16 e kg kh __src _ s3 _ s4
  have hs1 : s₀.Evolves s1 := .hear h
  have hs2 : s₀.Evolves s2 := .setF hs1
  have h__src : s₀.Evolves __src := .setF hs2
  have hs3 : s₀.Evolves s3 := .ite hs2 <| .update h__src
  have hs4 : s₀.Evolves s4 := .ite hs3 <| .update hs3
  exact .ite (.ite (.update hs1) <| .update hs1) <|
    .ite (.timeAction <| .ite (.errMeasure hs4) hs4) hs1

theorem State.Evolves.refbReceive {f : List Word} {nshare : Nat} (h : s₀.Evolves s) :
    s₀.Evolves (s.refbReceive f nshare) := by
  refine .ite ?_ h
  extract_lets h'
  have hh' : s₀.Evolves h'.1 := .hear h
  exact .ite (.forAll hh' fun _ _ hu => .ite (.ite (.modArm hu) hu) <| .ite (.update hu) hu) hh'

theorem State.Evolves.recordIn {i : Nat} {w0 w1 w2 w3 : Word} (h : s₀.Evolves s) :
    s₀.Evolves (s.recordIn i w0 w1 w2 w3) := by
  unfold State.recordIn
  extract_lets k off drv s1 own s2 s3 s4 slot got full s5
  have hs1 : s₀.Evolves s1 := .modCell h
  have hs2 : s₀.Evolves s2 := .ite hs1 <| .setCtx <| .setCtx <| .setCtxF <| .setCtxF hs1
  have hs3 : s₀.Evolves s3 := .setCtx <| .setCtx hs2
  have hs4 : s₀.Evolves s4 := .ite hs3 <| .ite (.setCtx hs3) hs3
  have hs5 : s₀.Evolves s5 := .modCell hs4
  exact .ite hs1 <| .ite (.ite (.setReg hs5) hs5) hs4

theorem State.Evolves.escrowFrameReceive {f : List Word} (h : s₀.Evolves s) :
    s₀.Evolves (s.escrowFrameReceive f) :=
  .ite (.ite (.forAll (.update <| .hear h) fun _ _ hv => .ite hv <| .recordIn hv) <| .hear h) h

theorem State.Evolves.armcntReceive {f : List Word} (h : s₀.Evolves s) : s₀.Evolves (s.armcntReceive f) := by
  refine .ite ?_ h
  extract_lets h'
  have hh' : s₀.Evolves h'.1 := .hear h
  exact .ite (.forAll hh' fun _ _ hu => .ite hu <| .update hu) hh'

theorem State.Evolves.mgmtFrameReceive {f : List Word} (h : s₀.Evolves s) :
    s₀.Evolves (s.mgmtFrameReceive f) := by
  refine .ite ?_ h
  extract_lets h'
  have hh' : s₀.Evolves h'.1 := .hear h
  exact .ite (.forAll hh' fun _ _ hu => .hwPush hu) hh'

theorem State.Evolves.bulkFrameReceive {f : List Word} (h : s₀.Evolves s) :
    s₀.Evolves (s.bulkFrameReceive f) := by
  refine .ite ?_ h
  extract_lets h'
  have hh' : s₀.Evolves h'.1 := .hear h
  exact .ite (.forAll hh' fun _ _ hu => .hwPush hu) hh'

theorem State.Evolves.mgmtTransmit {dst : Nat} {bc bulk : Bool} (h : s₀.Evolves s) :
    s₀.Evolves (s.mgmtTransmit dst bc bulk) := by
  refine .ite (.ite h ?_) h
  extract_lets t r d u
  have ht : s₀.Evolves t := .setB <| .setB <| .setF h
  have hr : s₀.Evolves r.1 := .mkFrame ht
  have hu : s₀.Evolves u := .setB hr
  exact .ite (.update hu) ht

theorem State.Evolves.sendJoin (h : s₀.Evolves s) : s₀.Evolves s.sendJoin := .noticeBc h

theorem State.Evolves.ringJoin (h : s₀.Evolves s) : s₀.Evolves s.ringJoin := by
  refine .ite ?_ h
  extract_lets _ t
  have ht : s₀.Evolves t := .update h
  exact .ite (.sendJoin ht) ht

theorem State.Evolves.joinBoundary (h : s₀.Evolves s) : s₀.Evolves s.joinBoundary := by
  refine .ite (.ite (.update h) ?_) h
  extract_lets _ t
  have ht : s₀.Evolves t := .update h
  exact .ite (.sendJoin ht) ht

theorem State.Evolves.setPos {m : Nat} {obs : Bool} {gen serial : Nat} (h : s₀.Evolves s) :
    s₀.Evolves (s.setPos m obs gen serial) :=
  .setReg <| .setReg h

theorem State.Evolves.setBuddy {n : Nat} {buddyObs joinsNow : Bool} (h : s₀.Evolves s) :
    s₀.Evolves (s.setBuddy n buddyObs joinsNow) := by
  unfold State.setBuddy
  extract_lets bp v nb t
  have ht : s₀.Evolves t := .setB <| .setF <| .setB h
  exact .ite (.note ht) ht

theorem State.Evolves.formOne (h : s₀.Evolves s) : s₀.Evolves s.formOne :=
  .ite (.setBuddy <| .setPos <| .setJoined <| .setF <| .setF <| .setF <| .setF h) h

theorem State.Evolves.strapRole (h : s₀.Evolves s) : s₀.Evolves s.strapRole := by
  unfold State.strapRole
  split
  · exact .setF h
  · exact .setF h
  · exact .setB h
  · exact h

theorem State.Evolves.rolecmdMaster (h : s₀.Evolves s) : s₀.Evolves s.rolecmdMaster :=
  .ite (.formOne <| .setRole <| .setB h) h

theorem State.Evolves.rolecmdMember (h : s₀.Evolves s) : s₀.Evolves s.rolecmdMember :=
  .ite (.setRole <| .setF <| .setJoined <| .setB h) h

theorem State.Evolves.roleSwap (h : s₀.Evolves s) : s₀.Evolves s.roleSwap := .ite (.update h) h

theorem State.Evolves.ringLeave (h : s₀.Evolves s) : s₀.Evolves s.ringLeave :=
  .ite (.ite (.setB h) <| .update h) h

theorem State.Evolves.joinReceive {serial own summary hops : Nat} {longHop : Bool} (h : s₀.Evolves s) :
    s₀.Evolves (s.joinReceive serial own summary hops longHop) := by
  refine .ite ?_ h
  extract_lets
  split
  · exact .noticeBc h
  · extract_lets full lo hi obs s1 n s2 s3 __src _ s4 _ s4'
    have hs1 : s₀.Evolves s1 := .setPos h
    have hs2 : s₀.Evolves s2 := .setReg <| .setF hs1
    have hs3 : s₀.Evolves s3 := .ite (.setB <| .setBuddy hs2) hs2
    have h__src : s₀.Evolves __src := .setF hs3
    have hs4 : s₀.Evolves s4 := .ite (.update h__src) hs3
    have hs4' : s₀.Evolves s4' := .update hs4
    exact .ringEvent <| .noticeBc hs4'

theorem State.Evolves.grantReceive {g : Grant} (h : s₀.Evolves s) : s₀.Evolves (s.grantReceive g) := by
  refine .ite (.ite (.update <| .setB h) ?_) h
  extract_lets n s1 s2 s3 _ s4 s5 s6 _ s7 s8
  have hs1 : s₀.Evolves s1 := .setF <| .setF <| .setB <| .setF h
  have hs2 : s₀.Evolves s2 := .setF <| .setReg <| .setReg <| .setF hs1
  have hs3 : s₀.Evolves s3 := .setF <| .setF hs2
  have hs4 : s₀.Evolves s4 := .update hs3
  have hs5 : s₀.Evolves s5 := .setB <| .setJoined hs4
  have hs6 : s₀.Evolves s6 := .setBuddy hs5
  have hs7 : s₀.Evolves s7 := .update hs6
  have hs8 : s₀.Evolves s8 := .ite (.setSrc hs7) hs7
  exact .ite (.ringEvent hs8) hs4

theorem State.Evolves.roleBoundary (h : s₀.Evolves s) : s₀.Evolves s.roleBoundary := by
  unfold State.roleBoundary
  extract_lets _ _ s1 t _ s2 __src _ t' u
  have hs1 : s₀.Evolves s1 := by
    unfold s1
    split
    · exact .ite (.update <| .setRole <| .setF h) <| .update h
    · exact h
  have ht : s₀.Evolves t := .ite (.noticeBuddy <| .setRole <| .incF hs1) hs1
  have hs2 : s₀.Evolves s2 := .ite (.update ht) hs1
  have h__src : s₀.Evolves __src := .setB hs2
  have ht' : s₀.Evolves t' := .setB <| .setJoined <| .noticeBc hs2
  have hu : s₀.Evolves u := .ite (.setSrc ht') ht'
  exact .ite (.ite (.update h__src) <| .update hu) hs2

theorem State.Evolves.buddyLoss (h : s₀.Evolves s) : s₀.Evolves s.buddyLoss := by
  refine .ite ?_ h
  extract_lets d bp s1 s2 s3 s4 ports s5
  have hs1 : s₀.Evolves s1 := .rose <| .setB <| .setB h
  have hs2 : s₀.Evolves s2 := .ringEvent <| .note hs1
  have hs3 : s₀.Evolves s3 := .ringSend hs2
  have hs4 : s₀.Evolves s4 := by
    unfold s4
    split
    · exact .ite (.hoEnd <| .forAll hs3 fun _ _ hu => .modCell <| .sendTake hu) <|
        .ite hs3 <| .hoEnd hs3
    · exact hs3
  have hs5 : s₀.Evolves s5 := .forAll hs4 fun _ _ hu => .sendTake hu
  exact .ite (.setF <| .setRole <| .incF hs5) hs5

theorem State.Evolves.offerReceive {nn : Nat} (h : s₀.Evolves s) : s₀.Evolves (s.offerReceive nn) := by
  unfold State.offerReceive
  extract_lets i t
  have ht : s₀.Evolves t := .ringEvent h
  exact .ite (.ite (.sendTake ht) ht) h

theorem State.Evolves.takenReceive {nn : Nat} (h : s₀.Evolves s) : s₀.Evolves (s.takenReceive nn) := by
  refine .ite ?_ h
  split
  · exact .modCell h
  · exact h

theorem State.Evolves.ringBoundary (h : s₀.Evolves s) : s₀.Evolves s.ringBoundary := by
  refine .ite h ?_
  extract_lets k _ map s1 bp miss c t quiet u _ s2 stale s3 cons s4 _ _ _ s5 s6
  have hs1 : s₀.Evolves s1 := .setReg <| .setReg h
  have ht : s₀.Evolves t := .setF <| .ite (.incF hs1) hs1
  have hu : s₀.Evolves u := .setB <| .setB ht
  have hs2 : s₀.Evolves s2 := .ite (.update hu) hs1
  have hs3 : s₀.Evolves s3 := .incF hs2
  have hs4 : s₀.Evolves s4 := .ite (.ite hs3 <| .setF hs3) <| .setF <| .ite hs3 <| .setF hs3
  have hs5 : s₀.Evolves s5 := .update hs4
  have hs6 : s₀.Evolves s6 :=
    .joinBoundary <| .generationChange <| .planSwitch <| .roleBoundary hs5
  exact .update hs6

/-! ## Machine/Measure -/

theorem State.Evolves.result {c : Nat} {v : Int} {invalid : Bool} (h : s₀.Evolves s) :
    s₀.Evolves (s.result c v invalid) :=
  .update h

theorem State.Evolves.resultLatch (h : s₀.Evolves s) : s₀.Evolves s.resultLatch :=
  .ite (.update <| .forAll h fun _ _ hu => .setReg hu) h

theorem State.Evolves.sarConversion {e code : Nat} (h : s₀.Evolves s) :
    s₀.Evolves (s.sarConversion e code) := by
  unfold State.sarConversion
  extract_lets
  split
  · refine .ite ?_ h
    extract_lets sample t v inv u _ w
    have ht : s₀.Evolves t := .advanceTo h
    have hu : s₀.Evolves u := .result ht
    have hw : s₀.Evolves w := .update hu
    exact .ite (.hwPush hw) hw
  · exact h

theorem State.Evolves.offsetConversion {b : Bool} {code : Int} (h : s₀.Evolves s) :
    s₀.Evolves (s.offsetConversion b code) :=
  .ite (.update <| .setB <| .setB <| .setF <| .advanceTo h) h

theorem State.Evolves.msrCtrlWrite {v : Word} (h : s₀.Evolves s) : s₀.Evolves (s.msrCtrlWrite v) := by
  unfold State.msrCtrlWrite
  extract_lets old t run off t1 _ t2
  have ht : s₀.Evolves t := .setReg h
  have ht1 : s₀.Evolves t1 :=
    .ite (.update <| .setReg <| .ite (.update <| .setReg ht) ht) <|
    .ite (.update <| .setReg ht) ht
  have ht2 : s₀.Evolves t2 := .ite (.update ht1) ht1
  exact .ite ht2 <| .showTrips <| .setReg ht2

theorem State.Evolves.sigmaDeltaOutput {i : Nat} {value : Int} {stuck : Bool} (h : s₀.Evolves s) :
    s₀.Evolves (s.sigmaDeltaOutput i value stuck) :=
  .ite (.update <| .setReg <| .result h) h

theorem State.Evolves.comparatorOutput {t : Nat} {out : Bool} (h : s₀.Evolves s) :
    s₀.Evolves (s.comparatorOutput t out) :=
  .ite (.showTrips <| .result <| .setReg h) h

theorem State.Evolves.comparatorThreshold {t thr : Nat} (h : s₀.Evolves s) :
    s₀.Evolves (s.comparatorThreshold t thr) :=
  .ite (.update <| .setF h) h

theorem State.Evolves.setRails {m : Nat} (h : s₀.Evolves s) : s₀.Evolves (s.setRails m) :=
  .rose <| .setB <| .update h

theorem State.Evolves.supplyRail {rail mv : Nat} {out : Bool} (h : s₀.Evolves s) :
    s₀.Evolves (s.supplyRail rail mv out) :=
  .ite (.setRails <| .result h) h

theorem State.Evolves.junctionHigh {sensor : Nat} {q : Int} (h : s₀.Evolves s) :
    s₀.Evolves (s.junctionHigh sensor q) := by
  refine .ite ?_ h
  extract_lets t
  have ht : s₀.Evolves t := .result h
  exact .ite (.rose <| .setB ht) ht

theorem State.Evolves.junctionNormal {qs : Nat → Int} (h : s₀.Evolves s) :
    s₀.Evolves (s.junctionNormal qs) := by
  refine .ite ?_ h
  extract_lets t
  have ht : s₀.Evolves t := .forAll h fun _ _ hu => .result hu
  exact .ite (.setB ht) ht

theorem State.Evolves.calReset {i : Nat} (h : s₀.Evolves s) : s₀.Evolves (s.calReset i) :=
  .forAll (.setCtx <| .setCtx h) fun _ _ hu => .setCtx hu

theorem State.Evolves.putSerial {i serial : Nat} (h : s₀.Evolves s) : s₀.Evolves (s.putSerial i serial) :=
  .calReset <| .setCtx <| .setCtx h

theorem State.Evolves.setSerNew {i : Nat} {b : Bool} (h : s₀.Evolves s) : s₀.Evolves (s.setSerNew i b) :=
  .setB <| .setReg h

theorem State.Evolves.serialRecord {i : Nat} (h : s₀.Evolves s) : s₀.Evolves (s.serialRecord i) :=
  .ite h <| .ite (.putSerial h) <| .ite (.note <| .setSerNew h) h

theorem State.Evolves.capsetComplete {i : Nat} (h : s₀.Evolves s) : s₀.Evolves (s.capsetComplete i) :=
  .ite (.serialRecord <| .setLstate <| .linkEvent <| .modPort h) h

theorem State.Evolves.serialAccept {lo : Word} (h : s₀.Evolves s) : s₀.Evolves (s.serialAccept lo) :=
  .ite (.update h) h

theorem State.Evolves.serialBoundary (h : s₀.Evolves s) : s₀.Evolves s.serialBoundary := by
  unfold State.serialBoundary
  split
  · extract_lets _ t u
    have ht : s₀.Evolves t := .update h
    have hu : s₀.Evolves u := .forAll (.setCtx <| .setCtx <| .setCtx ht) fun _ _ hu => .setCtx <| .setCtx hu
    exact .ite (.setSerNew <| .putSerial hu) <| .setB ht
  · exact h

theorem State.Evolves.gateChargeMeasure {c : Nat} {hs hsok : Bool} (h : s₀.Evolves s) :
    s₀.Evolves (s.gateChargeMeasure c hs hsok) :=
  .ite (.ite (.update <| .modBrpCh <| .setB h) <| .setF h) h

theorem State.Evolves.gateChargeDone {qg : Nat} (h : s₀.Evolves s) : s₀.Evolves (s.gateChargeDone qg) := by
  unfold State.gateChargeDone
  split
  · exact .ite
      (.update <| .setB <| .setF <| .setB <| .setF <| .setB <| .gatesOff <|
         .advanceTo h)
      h
  · exact h

theorem State.Evolves.setTrim {i g : Nat} {rising : Bool} {v : Int} (h : s₀.Evolves s) :
    s₀.Evolves (s.setTrim i g rising v) :=
  .ite (.setCtxF h) <| .setCtxF h

theorem State.Evolves.trimChanged {key : Nat} (h : s₀.Evolves s) : s₀.Evolves (s.trimChanged key) := .update h

theorem State.Evolves.timeSample {i : Nat} {data : Word} (h : s₀.Evolves s) :
    s₀.Evolves (s.timeSample i data) := by
  unfold State.timeSample
  extract_lets g rising key err hold n sum avg full put m t st v u
  have ht : s₀.Evolves t := .update h
  have hu : s₀.Evolves u := .trimChanged <| .setTrim ht
  exact .ite h <| .ite (.update h) <| .ite ht <| .ite ht <| .update hu

theorem State.Evolves.trimsetWrite {i gate : Nat} {fall : Bool} {v : Int} (h : s₀.Evolves s) :
    s₀.Evolves (s.trimsetWrite i gate fall v) :=
  .ite (.trimChanged <| .setTrim h) h

theorem State.Evolves.calPort {i : Nat} (h : s₀.Evolves s) : s₀.Evolves (s.calPort i) :=
  .update <| .schedCal h

theorem State.Evolves.calBoundary (h : s₀.Evolves s) : s₀.Evolves s.calBoundary :=
  .ite (.forAll h fun _ _ hu => .calPort hu) h

theorem State.Evolves.gainOne {i : Nat} {x d rn rd dn dd lam : Int} {lim : Nat} (h : s₀.Evolves s) :
    s₀.Evolves (s.gainOne i x d rn rd dn dd lam lim) := by
  unfold State.gainOne
  extract_lets g p u gn g1 p1 hi lo out g2 t v
  have ht : s₀.Evolves t := .setCtx <| .setCtx <| .setCtx h
  have hv : s₀.Evolves v := .setB ht
  exact .ite (.ite hv <| .note <| .update hv) ht

theorem State.Evolves.gainUpdate {a : Nat} (h : s₀.Evolves s) : s₀.Evolves (s.gainUpdate a) := by
  unfold State.gainUpdate
  extract_lets k t0 t1 outs n yn yd inv s1
  have hs1 : s₀.Evolves s1 := .ite (.result h) h
  exact .ite hs1 <| .forAll hs1 fun _ _ hu => .gainOne hu

theorem State.Evolves.ucalBoundary (h : s₀.Evolves s) : s₀.Evolves s.ucalBoundary :=
  .ite (.forAll h fun _ _ hu => .setCtx hu) h

theorem State.Evolves.msrBoundary (h : s₀.Evolves s) : s₀.Evolves s.msrBoundary := by
  refine .ite ?_ <| .resultLatch <| .ucalBoundary h
  extract_lets t cut _ u
  have ht : s₀.Evolves t := .forAll h fun _ _ hu => .gainUpdate hu
  have hu : s₀.Evolves u := .update ht
  exact .resultLatch <| .calBoundary <| .ucalBoundary hu

theorem State.Evolves.uplinkReceive {i : Nat} {good : Bool} {ty seq : Nat} {data trx : Word}
    (h : s₀.Evolves s) : s₀.Evolves (s.uplinkReceive i good ty seq data trx) := by
  unfold State.uplinkReceive
  extract_lets live t
  have ht : s₀.Evolves t := .uplinkWord h
  exact .ite (.timeSample ht) <| .ite (.tokackReceive ht) ht

/-! ## Machine/SafetyUnit -/

theorem State.Evolves.untilCycle {rc : Nat} (h : s₀.Evolves s) : s₀.Evolves (s.untilCycle rc) :=
  .advanceCycles h

theorem State.Evolves.untilSecond {n : Nat} (h : s₀.Evolves s) : s₀.Evolves (s.untilSecond n) :=
  .ite (.setF h) h

theorem State.Evolves.sfuWrite {req : Requester} {f : State → State} (h : s₀.Evolves s)
    (hf : ∀ u, s₀.Evolves u → s₀.Evolves (f u)) : s₀.Evolves (s.sfuWrite req f) :=
  .ite (.ite (hf _ h) <| .incF h) h

theorem State.Evolves.ptStop {o : Nat} (h : s₀.Evolves s) : s₀.Evolves (s.ptStop o) := .update <| .setB h

theorem State.Evolves.ptAbort {o : Nat} (h : s₀.Evolves s) : s₀.Evolves (s.ptAbort o) :=
  .ite (.update <| .ptStop <| .incF h) h

theorem State.Evolves.sf1Act (h : s₀.Evolves s) : s₀.Evolves s.sf1Act := by
  unfold State.sf1Act
  extract_lets t u __src _ v
  have ht : s₀.Evolves t := .hardStop <| .stopRequest h
  have hu : s₀.Evolves u := .ite (.forAll ht fun _ _ hu => .setCtxF hu) ht
  have h__src : s₀.Evolves __src := .setB hu
  have hv : s₀.Evolves v := .ite (.update h__src) hu
  exact .forAll hv fun _ _ hw => .modPort <| .setB hw

theorem State.Evolves.showDem (h : s₀.Evolves s) : s₀.Evolves s.showDem := .setF h

theorem State.Evolves.noteMade {funcs : Nat} {a b : Bool} (h : s₀.Evolves s) :
    s₀.Evolves (s.noteMade funcs a b) :=
  .update h

theorem State.Evolves.demand {m cause pos : Nat} {safe : Bool} (h : s₀.Evolves s) :
    s₀.Evolves (s.demand m cause pos safe) := by
  unfold State.demand
  extract_lets f t u v w
  have ht : s₀.Evolves t := .setF h
  have hu : s₀.Evolves u := .ite (.setF <| .setF ht) ht
  have hv : s₀.Evolves v := .note <| .ite (.setB hu) hu
  have hw : s₀.Evolves w := .forAll hv fun _ _ hw => .ptAbort hw
  exact .ite h <| .ite (.sf1Act hw) hw

theorem State.Evolves.demandLevel {m cause pos : Nat} {safe : Bool} (h : s₀.Evolves s) :
    s₀.Evolves (s.demandLevel m cause pos safe) :=
  .ite h <| .ite h <| .demand <| .showDem <| .update h

theorem State.Evolves.demandEnd {cause pos : Nat} (h : s₀.Evolves s) : s₀.Evolves (s.demandEnd cause pos) :=
  .showDem <| .update h

theorem State.Evolves.safeState {cause : Nat} {level : Bool} (h : s₀.Evolves s) :
    s₀.Evolves (s.safeState cause level) :=
  .ite (.demandLevel h) <| .demand h

theorem State.Evolves.sf1Demand {cause pos : Nat} (h : s₀.Evolves s) : s₀.Evolves (s.sf1Demand cause pos) :=
  .ite (.demand <| .ite (.noteMade h) h) h

theorem State.Evolves.setInput {b lvl : Bool} (h : s₀.Evolves s) : s₀.Evolves (s.setInput b lvl) :=
  .update <| .setB h

theorem State.Evolves.safeInputDemand {b chA chB : Bool} (h : s₀.Evolves s) :
    s₀.Evolves (s.safeInputDemand b chA chB) :=
  .ite (.demandLevel <| .noteMade <| .setInput h) h

theorem State.Evolves.safeInputRelease {b : Bool} (h : s₀.Evolves s) : s₀.Evolves (s.safeInputRelease b) := by
  refine .ite ?_ h
  extract_lets t
  have ht : s₀.Evolves t := .demandEnd <| .setInput h
  exact .ite (.setB ht) ht

theorem State.Evolves.sindisc (h : s₀.Evolves s) : s₀.Evolves s.sindisc := by
  unfold State.sindisc
  split
  · exact .ite (.note <| .setB <| .untilCycle h) h
  · exact h

theorem State.Evolves.fwdemWrite {req : Requester} {v : Nat} (h : s₀.Evolves s) :
    s₀.Evolves (s.fwdemWrite req v) :=
  .sfuWrite h fun _ hu => .forAll (.setF hu) fun _ _ hv => .ite (.demandLevel hv) <| .ite (.demandEnd hv) hv

theorem State.Evolves.tdegStart (h : s₀.Evolves s) : s₀.Evolves s.tdegStart := .ite h <| .update <| .setF h

theorem State.Evolves.tdegStop (h : s₀.Evolves s) : s₀.Evolves s.tdegStop := .update <| .setF h

theorem State.Evolves.channelLoss {b : Bool} {r : Nat} (h : s₀.Evolves s) :
    s₀.Evolves (s.channelLoss b r) := by
  unfold State.channelLoss
  extract_lets _ t u v
  have ht : s₀.Evolves t := .update h
  have hu : s₀.Evolves u := .tdegStart <| .note <| .setB ht
  have hv : s₀.Evolves v := .rose hu
  exact .ite ht <| .ite (.safeState hv) hv

theorem State.Evolves.channelLost {b : Bool} {r : Nat} (h : s₀.Evolves s) : s₀.Evolves (s.channelLost b r) :=
  .ite (.channelLoss h) h

theorem State.Evolves.tdegExpiry (h : s₀.Evolves s) : s₀.Evolves s.tdegExpiry := by
  unfold State.tdegExpiry
  split
  · exact .ite (.safeState <| .update <| .setF <| .untilSecond h) h
  · exact h

theorem State.Evolves.sfuArm {req : Requester} (h : s₀.Evolves s) : s₀.Evolves (s.sfuArm req) := by
  refine .sfuWrite h fun _ hu => ?_
  split
  · exact .setF hu
  · exact .ite hu <| .update <| .setB hu

theorem State.Evolves.sfuRefuse {n : Nat} (h : s₀.Evolves s) : s₀.Evolves (s.sfuRefuse n) := .note <| .setB h

theorem State.Evolves.ptSchedule (h : s₀.Evolves s) : s₀.Evolves s.ptSchedule :=
  .forAll h fun _ _ hu => .update hu

theorem State.Evolves.safetyReset {req : Requester} (h : s₀.Evolves s) : s₀.Evolves (s.safetyReset req) := by
  refine .sfuWrite h fun _ hu => ?_
  split
  · exact .sfuRefuse hu
  · extract_lets t u' _ v
    have ht : s₀.Evolves t := .setReg <| .setB <| .setF hu
    have hu' : s₀.Evolves u' := .forAll ht fun _ _ hv => .ite (.setB hv) hv
    have hv : s₀.Evolves v := .update hu'
    exact .note <| .ptSchedule hv

theorem State.Evolves.xdis (h : s₀.Evolves s) : s₀.Evolves s.xdis := .ite (.note <| .setB <| .update h) h

theorem State.Evolves.ptBegin {o : Nat} (h : s₀.Evolves s) : s₀.Evolves (s.ptBegin o) := .update <| .setB h

theorem State.Evolves.pulseTestStart {o : Nat} (h : s₀.Evolves s) : s₀.Evolves (s.pulseTestStart o) := by
  refine .ite ?_ h
  split
  · exact .ite (.ptBegin <| .untilCycle h) h
  · exact .ite (.update <| .ptBegin <| .untilCycle h) h

theorem State.Evolves.requalEnd {b ok : Bool} (h : s₀.Evolves s) : s₀.Evolves (s.requalEnd b ok) := by
  unfold State.requalEnd
  extract_lets _ t u _ v
  have ht : s₀.Evolves t := .update h
  have hu : s₀.Evolves u := .note <| .tdegStop <| .setB ht
  have hv : s₀.Evolves v := .update hu
  exact .ite (.demandEnd <| .demandEnd hv) <| .sfuRefuse ht

theorem State.Evolves.pulseTestResult {o : Nat} {pass : Bool} (h : s₀.Evolves s) :
    s₀.Evolves (s.pulseTestResult o pass) := by
  unfold State.pulseTestResult
  split
  · refine .ite ?_ h
    extract_lets w t b u
    have ht : s₀.Evolves t := .ptStop <| .untilCycle h
    have hu : s₀.Evolves u := .ite (.incF ht) <| .channelLoss <| .note <| .setB <| .setB ht
    split
    · exact .ite hu <| .ite (.requalEnd hu) <| .ite (.requalEnd hu) <| .update hu
    · exact hu
  · exact h

theorem State.Evolves.requalWrite {req : Requester} (h : s₀.Evolves s) : s₀.Evolves (s.requalWrite req) :=
  .sfuWrite h fun _ hu =>
    .ite (.sfuRefuse hu) <|
    .ite (.ptBegin <| .update <| .forAll hu fun _ _ hv => .ite (.ptStop hv) hv) <| .sfuRefuse hu

theorem State.Evolves.bmonUpdate {m : Nat} {raw : Word} (h : s₀.Evolves s) :
    s₀.Evolves (s.bmonUpdate m raw) := by
  refine .ite ?_ h
  extract_lets v t
  have ht : s₀.Evolves t := .setF h
  refine .forAll ht fun _ _ hu => ?_
  extract_lets key hit r old since cnt _ w
  have hr : s₀.Evolves r := .setReg hu
  have hw : s₀.Evolves w := .update hr
  exact .ite hw <| .demandEnd hw

theorem State.Evolves.monitorDemand {m j : Nat} (h : s₀.Evolves s) : s₀.Evolves (s.monitorDemand m j) :=
  .ite (.ite (.ite (.demandLevel h) h) <| .demandLevel <| .untilCycle h) h

theorem State.Evolves.queueSafety (h : s₀.Evolves s) : s₀.Evolves s.queueSafety :=
  .ite (.ringPush <| .mkFrame <| .update h) h

theorem State.Evolves.pathDeg (h : s₀.Evolves s) : s₀.Evolves s.pathDeg := by
  unfold State.pathDeg
  extract_lets _ t
  have ht : s₀.Evolves t := .update h
  exact .ite ht <| .rose <| .tdegStart <| .setB ht

theorem State.Evolves.pathGood (h : s₀.Evolves s) : s₀.Evolves s.pathGood := by
  unfold State.pathGood
  extract_lets n _ t u
  have ht : s₀.Evolves t := .update h
  have hu : s₀.Evolves u := .setB ht
  exact .ite (.ite hu <| .tdegStop hu) ht

theorem State.Evolves.takeHeld {eth : Bool} {m : List Word} (h : s₀.Evolves s) :
    s₀.Evolves (s.takeHeld eth m) := by
  unfold State.takeHeld
  extract_lets p _ old t
  have ht : s₀.Evolves t := .demandEnd h
  exact .ite (.ite h <| .demandLevel <| .ite ht <| .noteMade ht) h

theorem State.Evolves.acceptMsg {eth : Bool} {m : List Word} (h : s₀.Evolves s) :
    s₀.Evolves (s.acceptMsg eth m) := by
  unfold State.acceptMsg
  extract_lets p _ t u
  have ht : s₀.Evolves t := .update h
  have hu : s₀.Evolves u := .demandEnd ht
  exact .ite (.demandEnd hu) <| .takeHeld hu

theorem State.Evolves.copyIn {eth : Bool} {key : Nat × Nat} {dir : Bool} {m : List Word} {take : Bool}
    (h : s₀.Evolves s) : s₀.Evolves (s.copyIn eth key dir m take) := by
  unfold State.copyIn
  extract_lets good c same old join ws _ t
  have ht : s₀.Evolves t := .update h
  exact .ite (.takeHeld ht) ht

theorem State.Evolves.esubSubmit {req : Requester} {mac : Bool} (h : s₀.Evolves s) :
    s₀.Evolves (s.esubSubmit req mac) :=
  .sfuWrite h fun _ hu => .ite (.copyIn hu) hu

theorem State.Evolves.safetyFrameReceive {f : List Word} (h : s₀.Evolves s) :
    s₀.Evolves (s.safetyFrameReceive f) := by
  refine .ite ?_ h
  extract_lets t dir m key prev u
  have ht : s₀.Evolves t := .hear h
  have hu : s₀.Evolves u := .copyIn ht
  clear_value prev
  split
  · exact .ite (.raise <| .incF hu) hu
  · exact hu

theorem State.Evolves.copyMissing {eth dir : Bool} {pos : Nat} (h : s₀.Evolves s) :
    s₀.Evolves (s.copyMissing eth dir pos) := by
  unfold State.copyMissing
  extract_lets k n _ t u
  have ht : s₀.Evolves t := .update h
  have hu : s₀.Evolves u := .incF ht
  exact .ite (.pathDeg hu) hu

theorem State.Evolves.closeWindow {w : SfuWindow} (h : s₀.Evolves s) : s₀.Evolves (s.closeWindow w) := by
  unfold State.closeWindow
  extract_lets _ t good pos lost sfu u v _ x y
  have ht : s₀.Evolves t := .update h
  have hu : s₀.Evolves u := .forAll ht fun _ _ hu => .copyMissing hu
  have hv : s₀.Evolves v := .forAll hu fun _ _ hv => .update hv
  have hx : s₀.Evolves x := .update hv
  have hy : s₀.Evolves y := .ite (.raise <| .incF hx) hx
  clear_value good
  split
  · exact .ite (.ite (.pathGood <| .acceptMsg hv) hv) <|
      .ite (.safeState <| .ite hy <| .noteMade hy) hy
  · exact .ite (.acceptMsg hv) hv
  · exact hv

theorem State.Evolves.safetyWindowClose (h : s₀.Evolves s) : s₀.Evolves s.safetyWindowClose := by
  unfold State.safetyWindowClose
  split
  · exact .ite (.closeWindow <| .untilCycle h) h
  · exact h

theorem State.Evolves.followWatchdog {p : Nat} (h : s₀.Evolves s) : s₀.Evolves (s.followWatchdog p) := by
  unfold State.followWatchdog
  extract_lets on l t _ u
  have ht : s₀.Evolves t := .untilCycle h
  have hu : s₀.Evolves u := .update ht
  exact .ite (.ite (.demandLevel <| .noteMade hu) <| .pathDeg <| .incF hu) h

theorem State.Evolves.ahbWrite {req : Requester} {v : Word} (h : s₀.Evolves s) :
    s₀.Evolves (s.ahbWrite req v) :=
  .sfuWrite h fun _ hu => .update <| .setReg hu

theorem State.Evolves.sfuBoundary (h : s₀.Evolves s) : s₀.Evolves s.sfuBoundary := by
  refine .ite ?_ h
  extract_lets miss _ t bad _ u
  have ht : s₀.Evolves t := .update h
  have hu : s₀.Evolves u := .update ht
  exact .ite (.stopRequest hu) hu

/-! ## Machine/Network -/

theorem State.Evolves.modMac {m : Nat} {f : MacUnit → MacUnit} (h : s₀.Evolves s) :
    s₀.Evolves (s.modMac m f) :=
  .ite (.update h) <| .update h

theorem State.Evolves.showRxLow {m : Nat} (h : s₀.Evolves s) : s₀.Evolves (s.showRxLow m) := .setB h

theorem State.Evolves.netStore {a : Nat} {l : List Byte} (h : s₀.Evolves s) : s₀.Evolves (s.netStore a l) :=
  .ite (.putBytes h) h

theorem State.Evolves.dupCheck {src : List Byte} {seq : Nat} (h : s₀.Evolves s) :
    s₀.Evolves (s.dupCheck src seq).1 :=
  .update h

theorem State.Evolves.ethDrop {m : Nat} {fcsOk : Bool} (h : s₀.Evolves s) :
    s₀.Evolves (s.ethDrop m fcsOk) := by
  unfold State.ethDrop
  extract_lets t
  have ht : s₀.Evolves t := .incF h
  exact .ite ht <| .incF ht

theorem State.Evolves.ethSafety {m : Nat} {l : List Byte} {prp : Option (Nat × Bool)} (h : s₀.Evolves s) :
    s₀.Evolves (s.ethSafety m l prp) :=
  .ite (.note <| .incF h) <| .modMac <| .setB <| .putWords h

theorem State.Evolves.ethStore {m : Nat} {l : List Byte} {prp : Option (Nat × Bool)} {dup : Bool}
    (h : s₀.Evolves s) : s₀.Evolves (s.ethStore m l prp dup) :=
  .ite (.incF h) <| .hwPush <| .showRxLow <| .modMac <| .netStore h

theorem State.Evolves.ethReceive {m : Nat} {l : List Byte} {fcsOk : Bool} (h : s₀.Evolves s) :
    s₀.Evolves (s.ethReceive m l fcsOk) := by
  refine .ite ?_ h
  extract_lets ok prp d
  have hd : s₀.Evolves d.1 := by
    clear_value prp
    unfold d
    split
    · exact .dupCheck h
    · exact h
  exact .ite (.ethDrop h) <| .ite (.ethSafety hd) <| .ethStore hd

theorem State.Evolves.rxRelease {m n : Nat} (h : s₀.Evolves s) : s₀.Evolves (s.rxRelease m n) :=
  .ite (.showRxLow <| .modMac h) h

theorem State.Evolves.txPop {m f : Nat} {e : DWord} (h : s₀.Evolves s) : s₀.Evolves (s.txPop m f e) := by
  unfold State.txPop
  extract_lets t
  have ht : s₀.Evolves t := .incF <| .hwPop h
  exact .ite (.incF ht) ht

theorem State.Evolves.ethLaunch {m f : Nat} (h : s₀.Evolves s) : s₀.Evolves (s.ethLaunch m f) := by
  refine .ite ?_ h
  split
  · exact h
  · refine .ite (.incF <| .txPop h) ?_
    extract_lets t u late seq v
    have ht : s₀.Evolves t := .untilCycle h
    have hu : s₀.Evolves u := .advanceTo ht
    have hv : s₀.Evolves v := .modMac <| .txPop hu
    exact .ite h <| .ite (.incF <| .txPop hu) <| .ite (.incF hv) hv

theorem State.Evolves.prpsetWrite {v : Nat} (h : s₀.Evolves s) : s₀.Evolves (s.prpsetWrite v) :=
  .ite (.setF <| .setF h) h

theorem State.Evolves.ptpPass {m : Nat} {tx : Bool} {mtype seq : Nat} (h : s₀.Evolves s) :
    s₀.Evolves (s.ptpPass m tx mtype seq) :=
  .ite (.ite (.setB <| .modMac h) <| .incF h) h

theorem State.Evolves.tsinfoRead {m : Nat} (h : s₀.Evolves s) : s₀.Evolves (s.tsinfoRead m).1 := by
  unfold State.tsinfoRead
  extract_lets
  split
  · exact h
  · exact .setB <| .modMac h

theorem State.Evolves.tsinfoReadCmd {m : Nat} (h : s₀.Evolves s) : s₀.Evolves (s.tsinfoReadCmd m) :=
  .ite (.update <| .tsinfoRead h) h

theorem State.Evolves.domainCommit (h : s₀.Evolves s) : s₀.Evolves s.domainCommit :=
  .ite (.setB <| .update h) h

theorem State.Evolves.dtimeRead {idx : Nat} (h : s₀.Evolves s) : s₀.Evolves (s.dtimeRead idx).1 := .update h

theorem State.Evolves.dtimeReadCmd {req : Requester} (h : s₀.Evolves s) : s₀.Evolves (s.dtimeReadCmd req) :=
  .ite (.update <| .dtimeRead h) h

theorem State.Evolves.tpoEnd {n : Nat} (h : s₀.Evolves s) : s₀.Evolves (s.tpoEnd n) := by
  unfold State.tpoEnd
  split
  · exact .update <| .untilCycle h
  · exact h

theorem State.Evolves.tpoCfgWrite {n : Nat} {v : Word} (h : s₀.Evolves s) :
    s₀.Evolves (s.tpoCfgWrite n v) := by
  unfold State.tpoCfgWrite
  extract_lets t
  have ht : s₀.Evolves t := .setReg h
  exact .ite ht <| .update ht

theorem State.Evolves.mdioWrite {m : Nat} {v : Word} (h : s₀.Evolves s) : s₀.Evolves (s.mdioWrite m v) :=
  .ite (.setReg h) h

theorem State.Evolves.mdioGo {m : Nat} {read : Bool} {phy reg data : Nat} (h : s₀.Evolves s) :
    s₀.Evolves (s.mdioGo m read phy reg data) :=
  .mdioWrite h

theorem State.Evolves.mdioDone {m data : Nat} (h : s₀.Evolves s) : s₀.Evolves (s.mdioDone m data) := by
  refine .ite ?_ h
  extract_lets t
  have ht : s₀.Evolves t := .setB h
  exact .ite (.setF ht) ht

theorem State.Evolves.linkChange {m : Nat} {up : Bool} {speed : Nat} {half : Bool} (h : s₀.Evolves s) :
    s₀.Evolves (s.linkChange m up speed half) := by
  refine .ite ?_ h
  extract_lets bad t u
  have ht : s₀.Evolves t := .setB <| .setF h
  have hu : s₀.Evolves u := .ite ht <| .note <| .setB <| .setB ht
  exact .ite (.note hu) hu

/-! ## Machine/Can -/

theorem State.Evolves.canCfgWrite {n : Nat} {v : Word} (h : s₀.Evolves s) :
    s₀.Evolves (s.canCfgWrite n v) := by
  refine .ite ?_ h
  extract_lets t u
  have ht : s₀.Evolves t := .ite (.setB h) h
  have hu : s₀.Evolves u := .setReg ht
  exact .ite (.ite ht <| .setB ht) <| .ite hu <| .ite (.setB hu) <| .setB hu

theorem State.Evolves.canEnable {n : Nat} {fden strict tdcen listen : Bool} (h : s₀.Evolves s) :
    s₀.Evolves (s.canEnable n fden strict tdcen listen) :=
  .canCfgWrite h

theorem State.Evolves.setCanState {n v : Nat} (h : s₀.Evolves s) : s₀.Evolves (s.setCanState n v) :=
  .ite h <| .setB <| .setF h

theorem State.Evolves.setCanRec {n v : Nat} (h : s₀.Evolves s) : s₀.Evolves (s.setCanRec n v) :=
  .setB <| .setF h

theorem State.Evolves.canConfine {n : Nat} (h : s₀.Evolves s) : s₀.Evolves (s.canConfine n) :=
  .ite h <| .ite (.note <| .setCanState h) <| .setCanState h

theorem State.Evolves.canBusOff {n : Nat} (h : s₀.Evolves s) : s₀.Evolves (s.canBusOff n) := by
  refine .ite ?_ h
  extract_lets t u e v
  have ht : s₀.Evolves t := .modCan <| .setB <| .setCanState h
  have hu : s₀.Evolves u := .ite ht <| .setB ht
  have hv : s₀.Evolves v := .note <| .hwPush hu
  exact .roseUnit hv

theorem State.Evolves.canRecover {n : Nat} (h : s₀.Evolves s) : s₀.Evolves (s.canRecover n) :=
  .ite (.setB h) h

theorem State.Evolves.canReset {n : Nat} (h : s₀.Evolves s) : s₀.Evolves (s.canReset n) :=
  .ite (.resetCan h) h

theorem State.Evolves.canRecoveryDone {n : Nat} (h : s₀.Evolves s) : s₀.Evolves (s.canRecoveryDone n) :=
  .ite (.setCanState <| .setB <| .setReg h) h

theorem State.Evolves.showCanLow {n : Nat} (h : s₀.Evolves s) : s₀.Evolves (s.showCanLow n) := .setB h

theorem State.Evolves.canRelease {n k : Nat} (h : s₀.Evolves s) : s₀.Evolves (s.canRelease n k) :=
  .ite (.showCanLow <| .modCan h) h

theorem State.Evolves.canReceive {n : Nat} {f : CanHeader} {data : List Byte} {err : Nat} (h : s₀.Evolves s) :
    s₀.Evolves (s.canReceive n f data err) := by
  refine .ite (.ite ?_ <| .hwPush <| .canConfine <| .setCanRec <| .incF h) h
  extract_lets r s1 t k len u v
  have hs1 : s₀.Evolves s1 := .ite (.freeNext <| .setCanRec h) <| .setCanRec h
  have ht : s₀.Evolves t := .canConfine hs1
  have hu : s₀.Evolves u := .netStore ht
  have hv : s₀.Evolves v := .modCan hu
  exact .ite (.incF ht) <| .hwPush <| .showCanLow hv

theorem State.Evolves.canOutcome {e : DWord} {kind code : Nat} (h : s₀.Evolves s) :
    s₀.Evolves (s.canOutcome e kind code) :=
  .hwPush h

theorem State.Evolves.canTransmit (h : s₀.Evolves s) : s₀.Evolves s.canTransmit := by
  refine .ite ?_ h
  split
  · exact h
  · extract_lets
    split
    · exact .canOutcome <| .hwPop h
    · exact .ite (.modCan <| .setB <| .hwPop h) h

theorem State.Evolves.canTxEnd {n : Nat} {e : DWord} {kind code : Nat} (h : s₀.Evolves s) :
    s₀.Evolves (s.canTxEnd n e kind code) := by
  unfold State.canTxEnd
  extract_lets t u
  have ht : s₀.Evolves t := .canOutcome <| .setB h
  have hu : s₀.Evolves u := .ite (.setB ht) ht
  exact .modCan hu

theorem State.Evolves.canTdc {n : Nat} {e : DWord} {tdcv : Nat} (h : s₀.Evolves s) :
    s₀.Evolves (s.canTdc n e tdcv) := by
  refine .ite ?_ h
  extract_lets t
  have ht : s₀.Evolves t := .setF h
  exact .ite (.setB ht) ht

theorem State.Evolves.canTxOutcome {n : Nat} {out : CanTxOutcome} {tdcv : Nat} (h : s₀.Evolves s) :
    s₀.Evolves (s.canTxOutcome n out tdcv) := by
  unfold State.canTxOutcome
  split
  · exact h
  · refine .ite ?_ h
    extract_lets t ovf o u
    have ht : s₀.Evolves t := .canTdc h
    have ho : s₀.Evolves o.1 := by
      clear_value ovf
      unfold o
      split
      · exact .freeNext ht
      · exact ht
    have hu : s₀.Evolves u := .incF ho
    split
    · exact .canTxEnd <| .canConfine <| .setF ho
    · exact .canTxEnd <| .incF ho
    · extract_lets c v w
      have hv : s₀.Evolves v := .ite hu <| .setF hu
      have hw : s₀.Evolves w := .ite (.setReg <| .setB hv) hv
      exact .canTxEnd <| .canConfine hw

theorem State.Evolves.canSleep {n : Nat} (h : s₀.Evolves s) : s₀.Evolves (s.canSleep n) :=
  .ite (.ite (.modCan h) <| .setB h) h

theorem State.Evolves.canWake {n : Nat} (h : s₀.Evolves s) : s₀.Evolves (s.canWake n) :=
  .ite (.modCan <| .setB h) h

theorem State.Evolves.wakeCause {bit : Nat} (h : s₀.Evolves s) : s₀.Evolves (s.wakeCause bit) :=
  .note <| .setReg h

theorem State.Evolves.canWakeFrame {n : Nat} {f : CanHeader} {data : List Byte} (h : s₀.Evolves s) :
    s₀.Evolves (s.canWakeFrame n f data) := by
  refine .ite ?_ h
  extract_lets t
  have ht : s₀.Evolves t := .modCan h
  exact .ite (.wakeCause ht) ht

theorem State.Evolves.canFrameError {n : Nat} (h : s₀.Evolves s) : s₀.Evolves (s.canFrameError n) := by
  refine .ite ?_ h
  extract_lets k t
  have ht : s₀.Evolves t := .modCan h
  exact .ite (.wakeCause ht) ht

/-! ## Machine/Trust -/

theorem State.Evolves.setAs {n : Nat} {l : List Byte} (h : s₀.Evolves s) : s₀.Evolves (s.setAs n l) :=
  .forAll h fun _ _ hu => .setReg hu

theorem State.Evolves.extendNow {x : Nat × List Byte} (h : s₀.Evolves s) : s₀.Evolves (s.extendNow x) :=
  .setAs h

theorem State.Evolves.extend {n : Nat} {d : List Byte} (h : s₀.Evolves s) : s₀.Evolves (s.extend n d) :=
  .ite (.setB <| .update h) h

theorem State.Evolves.extendAll (h : s₀.Evolves s) : s₀.Evolves s.extendAll :=
  .setB <| .update <| .forAll h fun _ _ hu => .extendNow hu

theorem State.Evolves.extensionDone (h : s₀.Evolves s) : s₀.Evolves s.extensionDone := by
  unfold State.extensionDone
  split
  · exact h
  · exact .ite (.setB <| .update <| .extendNow <| .untilCycle h) h

theorem State.Evolves.assayExtend {req : Requester} {n : Nat} (h : s₀.Evolves s) :
    s₀.Evolves (s.assayExtend req n) :=
  .ite (.ite (.extend h) <| .setB h) h

theorem State.Evolves.extendEvent {attach : Bool} (h : s₀.Evolves s) : s₀.Evolves (s.extendEvent attach) :=
  .ite (.note <| .update <| .freeNext <| .extend h) h

theorem State.Evolves.romRecovery (h : s₀.Evolves s) : s₀.Evolves s.romRecovery :=
  .update <| .setB <| .setB <| .setB <| .setB h

theorem State.Evolves.chooseSlot (h : s₀.Evolves s) : s₀.Evolves s.chooseSlot := by
  unfold State.chooseSlot
  extract_lets t next c u
  have ht : s₀.Evolves t := .setB <| .setB h
  have hu : s₀.Evolves u := by
    unfold u c
    split
    · exact .setB ht
    · split
      · dsimp only
        exact .note <| .setB <| .setB <| .setB ht
      · exact ht
  split
  · exact .update <| .setF hu
  · extract_lets v w
    have hv : s₀.Evolves v := .extend <| .note hu
    have hw : s₀.Evolves w := .setB <| .setAs <| .setAs <| .setAs hv
    split
    · exact .update <| .setF hw
    · exact .romRecovery hw

theorem State.Evolves.keyCheck {k : KeyCheck} (h : s₀.Evolves s) : s₀.Evolves (s.keyCheck k) := by
  unfold State.keyCheck
  split
  · exact .setB h
  · exact .raise <| .note <| .setB h
  · exact .raise <| .note <| .setB h

theorem State.Evolves.sampleStraps {a b c : BitVec 4} (h : s₀.Evolves s) :
    s₀.Evolves (s.sampleStraps a b c) :=
  .setReg h

theorem State.Evolves.graveBits (h : s₀.Evolves s) : s₀.Evolves s.graveBits :=
  .forAll h fun _ _ hu => .setB hu

theorem State.Evolves.resetRelease {a b c : BitVec 4} {k : KeyCheck} (h : s₀.Evolves s) :
    s₀.Evolves (s.resetRelease a b c k) := by
  refine .ite ?_ h
  extract_lets t _ t1 t2 t3 u
  have ht : s₀.Evolves t := .sampleStraps h
  have ht1 : s₀.Evolves t1 := .update ht
  have ht2 : s₀.Evolves t2 := .graveBits <| .setReg ht1
  have ht3 : s₀.Evolves t3 := .setF ht2
  have hu : s₀.Evolves u := .keyCheck ht3
  exact .ite ht <| .ite hu <| .chooseSlot <| .extend <| .extend hu

theorem State.Evolves.copySection {slot : Nat} {x : Section} (h : s₀.Evolves s) :
    s₀.Evolves (s.copySection slot x) :=
  .putBytes h

theorem State.Evolves.startProc {p : Nat} {pc : Word} (h : s₀.Evolves s) : s₀.Evolves (s.startProc p pc) :=
  .modProc h

theorem State.Evolves.romHandOver (h : s₀.Evolves s) : s₀.Evolves s.romHandOver :=
  .ite
    (.update <| .startProc <| .startProc <| .note <| .setReg <| .setReg <| .extendAll <|
       .forAll (.forAll (.extend h) fun _ _ hu => .extend <| .copySection hu) fun _ _ hu => .extend hu)
    h

theorem State.Evolves.signStart (h : s₀.Evolves s) : s₀.Evolves s.signStart := by
  unfold State.signStart
  split
  · extract_lets t
    have ht : s₀.Evolves t := .keyCheck h
    exact .ite ht <| .setB <| .update ht
  · exact h

theorem State.Evolves.reportQueue {r : TruReq} (h : s₀.Evolves s) : s₀.Evolves (s.reportQueue r) :=
  .signStart <| .update h

theorem State.Evolves.reportRequest {req : Requester} {b : Nat} {k : KeyCheck} (h : s₀.Evolves s) :
    s₀.Evolves (s.reportRequest req b k) :=
  .ite (.ite (.setB h) <| .reportQueue <| .setB h) h

theorem State.Evolves.replyFrame {dst part : Nat} {body : List Word} (h : s₀.Evolves s) :
    s₀.Evolves (s.replyFrame dst part body) :=
  .ringSend <| .mkFrame h

theorem State.Evolves.ringReportRequest {f : List Word} {k : KeyCheck} (h : s₀.Evolves s) :
    s₀.Evolves (s.ringReportRequest f k) := by
  refine .ite ?_ h
  extract_lets h' t
  have hh' : s₀.Evolves h'.1 := .hear h
  have ht : s₀.Evolves t := hh'
  exact .ite (.ite (.replyFrame ht) <| .reportQueue ht) hh'

theorem State.Evolves.reportDone (h : s₀.Evolves s) : s₀.Evolves s.reportDone := by
  unfold State.reportDone
  split
  · refine .ite ?_ h
    extract_lets bad sig rep t _ u x _ v
    have ht : s₀.Evolves t := .ite (.note h) h
    have hu : s₀.Evolves u := .setB <| .update ht
    have hx : s₀.Evolves x := .setReg <| .setB hu
    have hv : s₀.Evolves v :=
      .ite (.forAll hu fun _ _ hv => .replyFrame hv) <| .ite (.update hx) <| .update hx
    exact .signStart hv
  · exact h

theorem State.Evolves.flashStart {erase : Bool} {page : List Byte} (h : s₀.Evolves s) :
    s₀.Evolves (s.flashStart erase page) :=
  .ite (.note <| .setB h) <| .update <| .setB <| .setB h

theorem State.Evolves.flashProgram (h : s₀.Evolves s) : s₀.Evolves s.flashProgram := .ite (.flashStart h) h

theorem State.Evolves.flashErase (h : s₀.Evolves s) : s₀.Evolves s.flashErase := .ite (.flashStart h) h

theorem State.Evolves.flashDone {fail : Bool} (h : s₀.Evolves s) : s₀.Evolves (s.flashDone fail) := by
  unfold State.flashDone
  split
  · refine .ite ?_ h
    extract_lets n open8 l t _ u
    have ht : s₀.Evolves t := .putBytes <| .setB h
    have hu : s₀.Evolves u := .update ht
    exact .ite (.setB hu) hu
  · exact h

theorem State.Evolves.confirm (h : s₀.Evolves s) : s₀.Evolves s.confirm := .ite (.setB <| .setB h) h

theorem State.Evolves.bootselWrite {v : Word} (h : s₀.Evolves s) : s₀.Evolves (s.bootselWrite v) :=
  .ite (.confirm h) <| .setF <| .setB h

theorem State.Evolves.identWrite {v : Word} (h : s₀.Evolves s) : s₀.Evolves (s.identWrite v) :=
  .ite (.ite h <| .setB <| .setF h) h

/-! ## Machine/Power -/

theorem State.Evolves.powerResult {r d : Nat} (h : s₀.Evolves s) : s₀.Evolves (s.powerResult r d) :=
  .setB <| .setF <| .setF h

theorem State.Evolves.powerStart {st opt : Nat} (h : s₀.Evolves s) : s₀.Evolves (s.powerStart st opt) :=
  .update <| .setB h

theorem State.Evolves.powerCommand {req : Requester} {st opt : Nat} (h : s₀.Evolves s) :
    s₀.Evolves (s.powerCommand req st opt) := by
  refine .ite ?_ h
  split
  · exact .powerResult h
  · exact .ite (.update <| .setB h) <| .powerStart h

theorem State.Evolves.powerEnd {st r d : Nat} (h : s₀.Evolves s) : s₀.Evolves (s.powerEnd st r d) := by
  unfold State.powerEnd
  extract_lets t u
  have ht : s₀.Evolves t := .powerResult <| .setF <| .setB h
  have hu : s₀.Evolves u := .setB ht
  split
  · exact .powerStart <| .update hu
  · exact ht

theorem State.Evolves.domainDown {d : Nat} (h : s₀.Evolves s) : s₀.Evolves (s.domainDown d) := by
  unfold State.domainDown
  split
  · exact .ite (.update <| .powerOff h) h
  · exact h

theorem State.Evolves.domainUp {d : Nat} (h : s₀.Evolves s) : s₀.Evolves (s.domainUp d) := by
  unfold State.domainUp
  split
  · refine .ite ?_ h
    extract_lets t0 _ t
    have ht0 : s₀.Evolves t0 := .powerOn h
    have ht : s₀.Evolves t := .update ht0
    exact .ite (.dllLock <| .dllEnable ht) <| .ite (.strapRole ht) ht
  · exact h

theorem State.Evolves.powerDone (h : s₀.Evolves s) : s₀.Evolves s.powerDone := .ite (.powerEnd h) h

theorem State.Evolves.noclk (h : s₀.Evolves s) : s₀.Evolves s.noclk := .ite (.powerEnd <| .update h) h

theorem State.Evolves.coldStart {vbed : Bool} (h : s₀.Evolves s) : s₀.Evolves (s.coldStart vbed) := by
  unfold State.coldStart
  extract_lets _ t
  have ht : s₀.Evolves t :=
    ⟨fun hs => ⟨tblDrop_wf _ (fun a => decide (regionOf a ≠ .flash)) _ (h.canonical hs).1, rfl⟩, h.pending⟩
  exact .ite ht <| .update <| .setReg ht

theorem State.Evolves.vbedUp (h : s₀.Evolves s) : s₀.Evolves s.vbedUp := .ite h <| .coldStart h

theorem State.Evolves.vbedOff (h : s₀.Evolves s) : s₀.Evolves s.vbedOff := .ite (.coldStart h) h

theorem State.Evolves.supplyCollapse (h : s₀.Evolves s) : s₀.Evolves s.supplyCollapse := by
  refine .ite ?_ h
  extract_lets t u _
  have ht : s₀.Evolves t := .forAll h fun _ _ hu => .powerOff hu
  have hu : s₀.Evolves u := .setF <| .setF <| .setF <| .setF ht
  exact .update hu

theorem State.Evolves.resetN (h : s₀.Evolves s) : s₀.Evolves s.resetN := .ite (.chipReset <| .setReg h) h

theorem State.Evolves.syscReset {req : Requester} {key : Nat} (h : s₀.Evolves s) :
    s₀.Evolves (s.syscReset req key) :=
  .ite (.resetN h) h

theorem State.Evolves.authWrite {req : Requester} {ring : Bool} (h : s₀.Evolves s) :
    s₀.Evolves (s.authWrite req ring) :=
  .ite (.setB h) h

theorem State.Evolves.modeApply (h : s₀.Evolves s) : s₀.Evolves s.modeApply := by
  unfold State.modeApply
  extract_lets m t v u
  have ht : s₀.Evolves t := .setB h
  have hv : s₀.Evolves v := .setB <| .forAll ht fun _ _ hu => .modProc hu
  have hu : s₀.Evolves u := .ite (.extendEvent ht) <| .ite (.setF hv) hv
  exact .ite h <| .forAll hu fun _ _ hw => .sendSvc hw

theorem State.Evolves.modeWrite {req : Requester} {m : Bool} (h : s₀.Evolves s) :
    s₀.Evolves (s.modeWrite req m) := by
  refine .ite (.ite (.powerResult h) ?_) h
  extract_lets t
  have ht : s₀.Evolves t := .setB h
  exact .ite ht <| .modeApply ht

theorem State.Evolves.coreStart {req : Requester} {m : Nat} (h : s₀.Evolves s) :
    s₀.Evolves (s.coreStart req m) :=
  .ite (.forAll h fun _ _ hu => .ite (.startProc hu) hu) h

theorem State.Evolves.wakePattern {n : Nat} (h : s₀.Evolves s) : s₀.Evolves (s.wakePattern n) :=
  .ite (.wakeCause h) h

theorem State.Evolves.bedrockAlarm (h : s₀.Evolves s) : s₀.Evolves s.bedrockAlarm :=
  .ite (.setB <| .untilSecond h) h

theorem State.Evolves.wakeClear {req : Requester} {alarm : Bool} {can : Nat} (h : s₀.Evolves s) :
    s₀.Evolves (s.wakeClear req alarm can) := by
  refine .ite ?_ h
  extract_lets t
  have ht : s₀.Evolves t := .w1c h
  exact .ite (.setB ht) ht

theorem State.Evolves.debugAttach (h : s₀.Evolves s) : s₀.Evolves s.debugAttach :=
  .ite (.extendEvent <| .setB <| .setB <| .setB h) h

theorem State.Evolves.debugDetach (h : s₀.Evolves s) : s₀.Evolves s.debugDetach :=
  .ite (.setB <| .setB <| .setB h) h

theorem State.Evolves.showHalted (h : s₀.Evolves s) : s₀.Evolves s.showHalted := .setB <| .setF h

theorem State.Evolves.debugHalt {m : Nat} (h : s₀.Evolves s) : s₀.Evolves (s.debugHalt m) :=
  .ite (.ite (.stopRequest <| .hardStop <| .showHalted <| .forAll h fun _ _ hu => .modProc hu) <| .incF h) h

theorem State.Evolves.debugResume {m : Nat} (h : s₀.Evolves s) : s₀.Evolves (s.debugResume m) :=
  .ite (.ite (.showHalted <| .forAll h fun _ _ hu => .modProc hu) <| .incF h) h

theorem State.Evolves.hpStatus (h : s₀.Evolves s) : s₀.Evolves s.hpStatus := .ite (.update h) h

theorem State.Evolves.hpError (h : s₀.Evolves s) : s₀.Evolves s.hpError := .ite (.setB h) h

theorem State.Evolves.mbxPush {e : DWord} (h : s₀.Evolves s) : s₀.Evolves (s.mbxPush e) := by
  refine .ite ?_ h
  extract_lets t
  have ht : s₀.Evolves t := .hwPush h
  exact .ite (.setB ht) ht

theorem State.Evolves.mbxDrain (h : s₀.Evolves s) : s₀.Evolves s.mbxDrain := .ite (.update <| .setQueue h) h

theorem State.Evolves.mbxPop (h : s₀.Evolves s) : s₀.Evolves s.mbxPop := by
  refine .ite ?_ h
  split
  next hp => exact .mbxDrain <| .update <| .ofEq hp <| .hwPop h
  next hp => exact .setB <| .update <| .ofEq hp <| .hwPop h

theorem State.Evolves.doorbell {v : Word} (h : s₀.Evolves s) : s₀.Evolves (s.doorbell v) :=
  .ite (.setB <| .setReg h) h

/-! ## Machine/Engine -/

theorem State.Evolves.ceFlags (h : s₀.Evolves s) : s₀.Evolves s.ceFlags := .setB <| .setB h

theorem State.Evolves.flushHeld (h : s₀.Evolves s) : s₀.Evolves s.flushHeld :=
  .update <| .forAll h fun _ _ hu => .store hu

theorem State.Evolves.paramWrite {j : Nat} {v : Word} (h : s₀.Evolves s) : s₀.Evolves (s.paramWrite j v) :=
  .ite (.ite (.update h) <| .store <| .flushHeld h) h

theorem State.Evolves.ceSnapshot (h : s₀.Evolves s) : s₀.Evolves s.ceSnapshot := by
  unfold State.ceSnapshot
  extract_lets s' t _
  have hs' : s₀.Evolves s' := .flushHeld h
  have ht : s₀.Evolves t := by
    refine .forAll hs' fun _ _ hu => ?_
    extract_lets w0 v u1
    have hu1 : s₀.Evolves u1 := .store hu
    exact .ite (.update hu1) hu1
  exact .update ht

theorem State.Evolves.ceCommit (h : s₀.Evolves s) : s₀.Evolves s.ceCommit := by
  refine .ite h ?_
  extract_lets chans t
  have ht : s₀.Evolves t := by
    refine .forAll h fun _ _ hu => ?_
    split
    · split
      · exact .shadowWrite hu
      · exact hu
    · exact .ite (.store hu) hu
    · split
      · exact .comparatorThreshold hu
      · exact hu
  exact .forAll ht fun _ _ hu => .shadowCommit hu

theorem State.Evolves.ceSwap (h : s₀.Evolves s) : s₀.Evolves s.ceSwap := by
  refine .ite ?_ h
  extract_lets t u
  have ht : s₀.Evolves t := .setB h
  have hu : s₀.Evolves u := .incF <| .setF ht
  exact .ite (.setB ht) <| .update hu

theorem State.Evolves.ceBoundary (h : s₀.Evolves s) : s₀.Evolves s.ceBoundary := by
  refine .ite ?_ h
  extract_lets s1 s2 s3 _ s4
  have hs1 : s₀.Evolves s1 := .setF <| .setF h
  have hs2 : s₀.Evolves s2 := .ite (.ceSnapshot hs1) <| .flushHeld hs1
  have hs3 : s₀.Evolves s3 := .ite (.ceCommit hs2) hs2
  have hs4 : s₀.Evolves s4 := .update hs3
  exact .ceSwap hs4

theorem State.Evolves.setFbBit {base : Nat → Nat} {n : Nat} {b : Bool} (h : s₀.Evolves s) :
    s₀.Evolves (s.setFbBit base n b) :=
  .setReg h

theorem State.Evolves.fbClear {n : Nat} (h : s₀.Evolves s) : s₀.Evolves (s.fbClear n) :=
  .setFbBit <| .setFbBit <| .store h

theorem State.Evolves.fbImage {n : Nat} {v : Word} (h : s₀.Evolves s) : s₀.Evolves (s.fbImage n v) := .store h

theorem State.Evolves.fbEval {r : State} {n : Nat} (h : s₀.Evolves s) : s₀.Evolves (r.fbEval s n) := by
  unfold State.fbEval
  extract_lets a w0 cx ctx t _ first y p out yraw moved echo check stuck w6 st fcnt m recov s1 _ s2
  have ht : s₀.Evolves t := .fbClear h
  have hs1 : s₀.Evolves s1 := .store <| .store h
  have hs2 : s₀.Evolves s2 := .update hs1
  exact .ite h <|
    .ite (.update ht) <| .ite (.ite (.fbClear hs2) <| .fbImage <| .store hs2) <| .store hs2

theorem State.Evolves.supervise (h : s₀.Evolves s) : s₀.Evolves s.supervise := by
  refine .ite ?_ h
  extract_lets s1 _ s2 t _ u
  have hs1 : s₀.Evolves s1 := .flushHeld <| .advanceTo h
  have hs2 : s₀.Evolves s2 := .update hs1
  have ht : s₀.Evolves t := .forAll hs2 fun _ _ hu => .fbEval hu
  have hu : s₀.Evolves u := .update ht
  exact .ceFlags hu

theorem State.Evolves.fbEnter {n st : Nat} (h : s₀.Evolves s) : s₀.Evolves (s.fbEnter n st) :=
  .raise <| .note <| .ceFlags <| .setFbBit <| .fbImage <| .store h

theorem State.Evolves.fbImplausible {n : Nat} (h : s₀.Evolves s) : s₀.Evolves (s.fbImplausible n) :=
  .ite (.fbEnter h) h

theorem State.Evolves.fbFrozen {n : Nat} (h : s₀.Evolves s) : s₀.Evolves (s.fbFrozen n) := .ite (.fbEnter h) h

theorem State.Evolves.rampStart {g : Nat} (h : s₀.Evolves s) : s₀.Evolves (s.rampStart g) :=
  .ite (.setB h) <| .update <| .setB h

theorem State.Evolves.fbExpiry {n : Nat} (h : s₀.Evolves s) : s₀.Evolves (s.fbExpiry n) := by
  unfold State.fbExpiry
  extract_lets w0 w6 t u v
  have ht : s₀.Evolves t := .store h
  have hu : s₀.Evolves u := .note <| .setFbBit ht
  have hv : s₀.Evolves v := .ite (.demand <| .noteMade hu) <| .rampStart hu
  exact .ite (.ceFlags hv) h

theorem State.Evolves.fbRecovery {n : Nat} (h : s₀.Evolves s) : s₀.Evolves (s.fbRecovery n) :=
  .ite (.ceFlags <| .fbImage <| .fbClear h) h

theorem State.Evolves.fbexpWrite {w : Nat} {bits : Word} (h : s₀.Evolves s) :
    s₀.Evolves (s.fbexpWrite w bits) :=
  .ite (.update h) h

theorem State.Evolves.rampClear {g : Nat} (h : s₀.Evolves s) : s₀.Evolves (s.rampClear g) :=
  .ite (.ite (.update h) <| .ite (.setB h) h) h

theorem State.Evolves.rampStep {g : Nat} (h : s₀.Evolves s) : s₀.Evolves (s.rampStep g) := by
  refine .ite (.ite (.update <| .setB <| .setB <| .setF h) h) <| .ite ?_ h
  extract_lets n j _ t u
  have ht : s₀.Evolves t := .update h
  have hu : s₀.Evolves u := .setF ht
  exact .ite (.setB <| .setB hu) hu

theorem State.Evolves.trkAdvance {n : Nat} {omega : Int} (h : s₀.Evolves s) :
    s₀.Evolves (s.trkAdvance n omega) := by
  unfold State.trkAdvance
  extract_lets th t
  have ht : s₀.Evolves t := .setReg <| .setReg h
  exact .ite (.update ht) ht

theorem State.Evolves.trackerUpdate {n : Nat} (h : s₀.Evolves s) : s₀.Evolves (s.trackerUpdate n) := by
  unfold State.trackerUpdate
  extract_lets forming wcmd s1 s2 k lo hi w0 c _ s3 eps x pr u lim ir s3' s3'' s4
  have hs1 : s₀.Evolves s1 := .ite (.setReg h) h
  have hs2 : s₀.Evolves s2 := .setB hs1
  have hs3 : s₀.Evolves s3 := .update hs2
  have hs3' : s₀.Evolves s3' := .setB <| .setReg hs2
  have hs3'' : s₀.Evolves s3'' := .ite hs2 <| .incF hs2
  have hs4 : s₀.Evolves s4 := .setB hs3''
  exact .ite hs2 <|
    .ite (.trkAdvance <| .setB hs3) <|
    .ite (.trkAdvance <| .ite (.setB hs3') hs3') <| .trkAdvance <| .ite (.setB hs4) hs4

theorem State.Evolves.trackerMode {n : Nat} {forming : Bool} (h : s₀.Evolves s) :
    s₀.Evolves (s.trackerMode n forming) :=
  .ite (.setB h) h

theorem State.Evolves.bumplessOne {d : Nat} (h : s₀.Evolves s) : s₀.Evolves (s.bumplessOne d) := by
  unfold State.bumplessOne
  extract_lets a w0 k r x lo hi t
  have ht : s₀.Evolves t := .ite (.setB h) h
  exact .ite h <| .ite (.store <| .store ht) <| .ite (.store <| .store ht) <| .store <| .store ht

theorem State.Evolves.bumpless (h : s₀.Evolves s) : s₀.Evolves s.bumpless :=
  .ite (.update <| .forAll (.advanceTo h) fun _ _ hu => .bumplessOne hu) h

theorem State.Evolves.programStart {slot : Nat} (h : s₀.Evolves s) : s₀.Evolves (s.programStart slot) := by
  unfold State.programStart
  split
  · exact .ite (.update <| .setB <| .modProc <| .advanceTo h) h
  · exact h

theorem State.Evolves.programOverrun (h : s₀.Evolves s) : s₀.Evolves s.programOverrun := by
  unfold State.programOverrun
  split
  · exact .ite (.engineStop <| .advanceTo h) h
  · exact h

theorem State.Evolves.commitWindow (h : s₀.Evolves s) : s₀.Evolves s.commitWindow :=
  .ite
    (.ceFlags <| .update <|
       .forAll (.forAll (.advanceTo h) fun _ _ hu => .trackerUpdate hu) fun _ _ hu => .rampStep hu)
    h

theorem State.Evolves.ceLoad {first last : Nat} (h : s₀.Evolves s) : s₀.Evolves (s.ceLoad first last) := by
  refine .ite ?_ h
  extract_lets t u
  have ht : s₀.Evolves t := .setF <| .setF h
  have hu : s₀.Evolves u := .setB ht
  exact .ite (.setB ht) <| .update hu

theorem State.Evolves.takeCoef {bank c : Nat} (h : s₀.Evolves s) : s₀.Evolves (s.takeCoef bank c) :=
  .store <| .store h

theorem State.Evolves.loadDone (h : s₀.Evolves s) : s₀.Evolves s.loadDone := by
  unfold State.loadDone
  split
  · exact .ite
      (.update <| .setB <| .setB <|
         .forAll (.advanceCycles h) fun _ _ hu => .takeCoef hu)
      h
  · exact h

theorem State.Evolves.swapRequest (h : s₀.Evolves s) : s₀.Evolves s.swapRequest := .ite (.setB h) h

theorem State.Evolves.angleWrite {p t i : Nat} {v : Word} (h : s₀.Evolves s) :
    s₀.Evolves (s.angleWrite p t i v) :=
  .ite (.ite (.retire <| .store h) <| .retireWith h) h

theorem State.Evolves.restored {a : Nat} (h : s₀.Evolves s) : s₀.Evolves (s.restored a) := .note <| .incF h

theorem State.Evolves.badWord {a : Nat} (h : s₀.Evolves s) : s₀.Evolves (s.badWord a) := .update h

theorem State.Evolves.ceParity {off : Nat} (h : s₀.Evolves s) : s₀.Evolves (s.ceParity off) := by
  unfold State.ceParity
  extract_lets
  refine .ite ?_ h
  split
  · exact .restored <| .takeCoef h
  · exact .raise <| .badWord h

theorem State.Evolves.parityRestoration {p : Nat} {addr : Word} {fetch persists : Bool} (h : s₀.Evolves s) :
    s₀.Evolves (s.parityRestoration p addr fetch persists) := by
  unfold State.parityRestoration
  extract_lets a _ t cell _ _ u
  have ht : s₀.Evolves t := .raise <| .badWord h
  have hu : s₀.Evolves u := .ite (.update ht) ht
  exact .ite h <| .ite (.incF h) <| .ite (.update h) <| .ite (.exception hu) <| .retireWith hu

theorem State.Evolves.restorationDone {data : Word} (h : s₀.Evolves s) :
    s₀.Evolves (s.restorationDone data) := by
  unfold State.restorationDone
  split
  · exact h
  · refine .ite ?_ h
    extract_lets _ t u
    have ht : s₀.Evolves t := .update h
    have hu : s₀.Evolves u := by
      unfold u
      split
      · exact .store ht
      · split
        · exact .takeCoef ht
        · exact ht
      · split
        · exact .store ht
        · exact ht
    exact .restored hu

/-! ## Machine/Admission -/

theorem State.Evolves.admitRun {buddyOwn buddyEsc : Option (BitVec 192)} (h : s₀.Evolves s) :
    s₀.Evolves (s.admitRun buddyOwn buddyEsc) := by
  unfold State.admitRun
  extract_lets s'
  have hs' : s₀.Evolves s' := .ite (.admRequest h) h
  split
  · exact hs'
  · exact .ite (.update hs') hs'

theorem State.Evolves.writeOffsets {progs : List ProgramRec} (h : s₀.Evolves s) :
    s₀.Evolves (s.writeOffsets progs) :=
  .forAll (.setF <| .setF h) fun _ _ hu => .setF <| .setF hu

theorem State.Evolves.writeDispatchers (h : s₀.Evolves s) : s₀.Evolves s.writeDispatchers :=
  .forAll h fun _ _ hu => .putBytes hu

theorem State.Evolves.measureSetup {desc : Nat} (h : s₀.Evolves s) : s₀.Evolves (s.measureSetup desc) :=
  .extend h

theorem State.Evolves.nameHeader {i : Nat} (h : s₀.Evolves s) : s₀.Evolves (s.nameHeader i) :=
  .setCtxF <| .setCtxF <| .setCtxF <| .setCtxF h

theorem State.Evolves.contextAdmit {i : Nat} (h : s₀.Evolves s) : s₀.Evolves (s.contextAdmit i) :=
  .ite (.modCell <| .setCst <| .nameHeader h) h

theorem State.Evolves.admissionLock (h : s₀.Evolves s) : s₀.Evolves s.admissionLock := by
  unfold State.admissionLock
  split
  · exact h
  · refine .ite ?_ h
    extract_lets e s1 _ s2
    have hs1 : s₀.Evolves s1 := .measureSetup <| .writeDispatchers <| .writeOffsets <| .setB h
    have hs2 : s₀.Evolves s2 := .update hs1
    exact .ite (.forAll hs2 fun _ _ hu => .contextAdmit hu) hs2

theorem State.Evolves.admissionResult (h : s₀.Evolves s) : s₀.Evolves s.admissionResult := by
  unfold State.admissionResult
  split
  · exact .ite
      (.update <| .setF <| .setF <| .setReg <| .setReg <| .setB <| .setB <| .setF <|
         .putWords <| .putWords h)
      h
  · exact h

theorem State.Evolves.unload (h : s₀.Evolves s) : s₀.Evolves s.unload := by
  unfold State.unload
  extract_lets s' t _
  have hs' : s₀.Evolves s' := .ite (.admRequest h) h
  have ht : s₀.Evolves t := .forAll (.setB hs') fun _ _ hu => .stopPort hu
  exact .ite (.update ht) hs'

theorem State.Evolves.unloadCtx {i : Nat} (h : s₀.Evolves s) : s₀.Evolves (s.unloadCtx i) :=
  .ite (.modCell <| .setCtxF <| .setCst h) h

theorem State.Evolves.unloadDone (h : s₀.Evolves s) : s₀.Evolves s.unloadDone :=
  .ite (.update <| .setF <| .setB <| .setB <| .ite (.forAll h fun _ _ hu => .unloadCtx hu) h) h

theorem State.Evolves.dispatch {q slot : Nat} (h : s₀.Evolves s) : s₀.Evolves (s.dispatch q slot) := by
  unfold State.dispatch
  split
  · refine .ite ?_ h
    extract_lets _ t
    have ht : s₀.Evolves t := .update h
    exact .ite (.satF ht) <| .modProc <| .advanceTo ht
  · exact h

theorem State.Evolves.deadlineMiss {q slot : Nat} (h : s₀.Evolves s) : s₀.Evolves (s.deadlineMiss q slot) :=
  .ite (.raise <| .satF <| .modProc <| .advanceTo h) h

theorem State.Evolves.diOverrun {q : Nat} (h : s₀.Evolves s) : s₀.Evolves (s.diOverrun q) := by
  unfold State.diOverrun
  split
  · exact .ite (.raise <| .satF <| .modProc <| .advanceCycles h) h
  · exact h

theorem State.Evolves.policeDelay {i : Nat} (h : s₀.Evolves s) : s₀.Evolves (s.policeDelay i) := by
  unfold State.policeDelay
  extract_lets d adm c tooLong _ _ t
  have ht : s₀.Evolves t := .update h
  exact .ite (.raise <| .setReg ht) ht

theorem State.Evolves.policeBoundary (h : s₀.Evolves s) : s₀.Evolves s.policeBoundary :=
  .ite (.update <| .forAll (.forAll h fun _ _ hu => .policeDelay hu) fun _ _ hu => .modProc hu) h

theorem State.Evolves.longmapWrite {n : Nat} {v : Word} (h : s₀.Evolves s) :
    s₀.Evolves (s.longmapWrite n v) :=
  .update <| .w1c h

/-! ## Machine/Mgmt -/

theorem Gives.mgmtTake {ring : Option (DWord × List DWord)} (h : s₀.Evolves s) :
    Gives (fun x => s₀.Evolves x.1) (s.mgmtTake ring) := by
  unfold State.mgmtTake
  split
  · exact .ite (.map fun _ => h) .none
  · split
    · exact .ite (.map fun _ => .setQueue h) .none
    · exact .none

theorem State.Evolves.mgmtSend {ring : Bool} {l : List DWord} (h : s₀.Evolves s) :
    s₀.Evolves (s.mgmtSend ring l) :=
  .ite (.forAll h fun _ _ hu => .ringSend <| .mkFrame hu) <| .mbxDrain <| .update h

theorem State.Evolves.mgmtReply {ring : Bool} {op tag status arg : Nat} {body : List DWord}
    (h : s₀.Evolves s) : s₀.Evolves (s.mgmtReply ring op tag status arg body) := .mgmtSend h

theorem State.Evolves.mgmtAnswer {ring : Bool} {op tag status : Nat} {body : List DWord} (h : s₀.Evolves s) :
    s₀.Evolves (s.mgmtAnswer ring op tag status body) :=
  .freeNext <| .mgmtReply h

theorem State.Evolves.mgmtFinalReply {m : MgmtOpen} {status : Nat} {body : List DWord} (h : s₀.Evolves s) :
    s₀.Evolves (s.mgmtFinalReply m status body) :=
  .ite (.mgmtReply h) <| .mgmtAnswer h

theorem State.Evolves.mgmtClose {m : MgmtOpen} (h : s₀.Evolves s) : s₀.Evolves (s.mgmtClose m) := by
  refine .ite ?_ h
  split
  · exact .mgmtFinalReply <| .update h
  · exact h

theorem State.Evolves.mgmtSettle (h : s₀.Evolves s) : s₀.Evolves s.mgmtSettle :=
  .forAll h fun _ _ hu => .mgmtClose hu

theorem State.Evolves.mgmtOpenReq {r : MgmtReq} (h : s₀.Evolves s) : s₀.Evolves (s.mgmtOpenReq r) :=
  .mgmtSettle <| .update <| .mgmtAnswer h

theorem State.Evolves.mgmtDone {r : MgmtReq} {ok : Bool} (h : s₀.Evolves s) : s₀.Evolves (s.mgmtDone r ok) :=
  .mgmtAnswer h

theorem State.Evolves.mgmtServe {ring : Option (DWord × List DWord)} {op : Nat}
    {f : State → MgmtReq → State} (h : s₀.Evolves s) (hf : ∀ u x, s₀.Evolves u → s₀.Evolves (f u x)) :
    s₀.Evolves (s.mgmtServe ring op f) := by
  refine .ite ?_ h
  split
  next x hx => exact .ite (hf _ _ (Gives.mgmtTake h x hx)) h
  next => exact h

theorem State.Evolves.mgmtStatus {ring : Option (DWord × List DWord)} (h : s₀.Evolves s) :
    s₀.Evolves (s.mgmtStatus ring) :=
  .mgmtServe h fun _ _ hu => .mgmtDone hu

theorem State.Evolves.mgmtAssay {ring : Option (DWord × List DWord)} (h : s₀.Evolves s) :
    s₀.Evolves (s.mgmtAssay ring) :=
  .mgmtServe h fun _ _ hu => .ite (.mgmtDone hu) <| .mgmtOpenReq <| .reportQueue <| .setB hu

theorem State.Evolves.mgmtSys {code g4 : Nat} (h : s₀.Evolves s) : s₀.Evolves (s.mgmtSys code g4) :=
  .setGpr <| .admRequest <| .setGpr h

theorem State.Evolves.mgmtAdmit {ring : Option (DWord × List DWord)} (h : s₀.Evolves s) :
    s₀.Evolves (s.mgmtAdmit ring) := by
  refine .mgmtServe h fun _ _ hu => ?_
  extract_lets busy u'
  have hu' : s₀.Evolves u' := .mgmtSys hu
  exact .ite (.mgmtDone hu') <| .mgmtOpenReq hu'

theorem State.Evolves.mgmtUnload {ring : Option (DWord × List DWord)} (h : s₀.Evolves s) :
    s₀.Evolves (s.mgmtUnload ring) :=
  .mgmtServe h fun _ _ hu => .ite (.mgmtDone <| .mgmtSys hu) <| .mgmtOpenReq <| .mgmtSys hu

theorem State.Evolves.mgmtHandover {ring : Option (DWord × List DWord)} (h : s₀.Evolves s) :
    s₀.Evolves (s.mgmtHandover ring) := by
  refine .mgmtServe h fun _ _ hu => ?_
  extract_lets op u'
  have hu' : s₀.Evolves u' :=
    .ite (.hoCommand hu) <| .ite (.hoCommand hu) <| .ite (.handoverCancel hu) hu
  exact .ite (.mgmtDone hu') <| .ite (.mgmtOpenReq hu') <| .mgmtDone hu'

theorem State.Evolves.mgmtFlashWrite {ring : Option (DWord × List DWord)} (h : s₀.Evolves s) :
    s₀.Evolves (s.mgmtFlashWrite ring) := by
  refine .mgmtServe h fun _ _ hu => ?_
  extract_lets data page u' v
  have hu' : s₀.Evolves u' := .forAll (.setReg hu) fun _ _ hv => .setReg hv
  have hv : s₀.Evolves v := .flashProgram hu'
  exact .ite (.mgmtDone hu) <| .ite (.mgmtDone hv) <| .mgmtOpenReq hv

theorem State.Evolves.mgmtFlashErase {ring : Option (DWord × List DWord)} (h : s₀.Evolves s) :
    s₀.Evolves (s.mgmtFlashErase ring) := by
  refine .mgmtServe h fun _ _ hu => .ite (.mgmtDone hu) ?_
  extract_lets v
  have hv : s₀.Evolves v := .flashErase <| .setReg hu
  exact .ite (.mgmtDone hv) <| .mgmtOpenReq hv

theorem State.Evolves.bootTrial {ring : Option (DWord × List DWord)} (h : s₀.Evolves s) :
    s₀.Evolves (s.bootTrial ring) :=
  .mgmtServe h fun _ _ hu => .mgmtDone <| .setF <| .setB hu

theorem State.Evolves.writeDirectory {slot : Nat} (h : s₀.Evolves s) : s₀.Evolves (s.writeDirectory slot) :=
  .stw <| .stw <| .stw h

theorem State.Evolves.mgmtConfirm {ring : Option (DWord × List DWord)} (h : s₀.Evolves s) :
    s₀.Evolves (s.mgmtConfirm ring) :=
  .mgmtServe h fun _ _ hu => .ite (.mgmtDone <| .writeDirectory <| .confirm hu) <| .mgmtDone hu

theorem State.Evolves.reboot {ring : Option (DWord × List DWord)} (h : s₀.Evolves s) :
    s₀.Evolves (s.reboot ring) :=
  .mgmtServe h fun _ _ hu => .syscReset <| .update <| .freeNext hu

theorem State.Evolves.mgmtPower {ring : Option (DWord × List DWord)} (h : s₀.Evolves s) :
    s₀.Evolves (s.mgmtPower ring) := by
  refine .mgmtServe h fun _ _ hu => ?_
  extract_lets st opt answer u'
  have hu' : s₀.Evolves u' := .powerCommand <| .mgmtAnswer hu
  refine .ite (.mgmtReply hu) <|
    .ite (.mgmtReply hu) <| .ite (.mgmtReply hu) <| .ite (.powerCommand <| .mgmtReply hu) ?_
  split
  · exact .mgmtReply hu'
  · exact .mgmtSettle <| .update hu'

theorem State.Evolves.mgmtUnknown {ring : Option (DWord × List DWord)} (h : s₀.Evolves s) :
    s₀.Evolves (s.mgmtUnknown ring) := by
  refine .ite ?_ h
  split
  next x hx => exact .ite h <| .mgmtAnswer <| Gives.mgmtTake h x hx
  next => exact h

/-! ## Machine/Bus -/

theorem State.Evolves.plainWrite {r : RegRow} {a : Nat} {locked : Bool} {v : Word} (h : s₀.Evolves s) :
    s₀.Evolves (s.plainWrite r a locked v) :=
  .setReg h

theorem State.Evolves.plainAt {a : Nat} {v : Word} (h : s₀.Evolves s) : s₀.Evolves (s.plainAt a v) := by
  unfold State.plainAt
  split
  · exact .plainWrite h
  · exact h

theorem State.Evolves.cellCmd {v : Word} (h : s₀.Evolves s) : s₀.Evolves (s.cellCmd v) :=
  .ite (.ite (.update <| .setB h) <| .incF h) h

theorem Gives.syscWrite {req : Requester} {a : Nat} {v : Word} (h : s₀.Evolves s) :
    Gives s₀.Evolves (s.syscWrite req a v) :=
  .orElse (.one <| .ite (.powerCommand h) h) <|
  .orElse (.one <| .authWrite h) <|
  .orElse (.one <| .modeWrite h) <|
  .orElse (.one <| .wakeClear h) <|
  .orElse (.one <| .syscReset h) <|
  .orElse (.one <| .coreStart h) <|
  .orElse (.hit fun _ => .forAll h fun _ _ hu => .ite hu <| .setReg hu) <| .hit fun _ => .longmapWrite h

theorem Gives.clkWrite {a : Nat} {v : Word} (h : s₀.Evolves s) : Gives s₀.Evolves (s.clkWrite a v) := by
  refine .orElse (.one <| .clkCtrlWrite h) <|
    .orElse (.hit fun _ => .mclkWrite h) <|
    .orElse (.hit fun _ => .mdlyWrite h) <|
    .orElse (.one <| .ite (.stmLoad h) h) <| .hit fun _ => ?_
  extract_lets t
  have ht : s₀.Evolves t := .plainAt h
  exact .ite (.cmpArm ht) ht

theorem Gives.vicWrite {req : Requester} {a : Nat} {v : Word} (h : s₀.Evolves s) :
    Gives s₀.Evolves (s.vicWrite req a v) :=
  .orElse (.one <| .vicSwSet h) <|
  .orElse (.one <| .vicSwClr h) <|
  .orElse (.hit fun _ => .vicSrcWrite h) <|
  .orElse (.hit fun _ => .ite (.queueFlush h) h) <| .hit fun _ => .ite (.semRelease h) h

theorem Gives.fcuWrite {req : Requester} {a : Nat} {v : Word} (h : s₀.Evolves s) :
    Gives s₀.Evolves (s.fcuWrite req a v) := by
  refine .orElse (.one <| .fswClear h) <|
    .orElse (.one <| .fswClear h) <|
    .orElse (.one <| .ite (.fsrcRearm h) h) <|
    .orElse (.one <| .setSwFlt h) <|
    .orElse (.one <| .setSwFlt h) <|
    .orElse (.one <| .setSwFlt h) <|
    .orElse (.hit fun _ => .firmwareRecord h) <|
    .orElse (.one <| .ite (.faultInject h) h) <|
    .orElse (.hit fun _ => ?_) <| .hit fun _ => .reactWrite h
  extract_lets t
  have ht : s₀.Evolves t := .plainAt h
  exact .ite (.watchdogKick ht) ht

theorem Gives.sfuRegWrite {req : Requester} {a : Nat} {v : Word} (h : s₀.Evolves s) :
    Gives s₀.Evolves (s.sfuRegWrite req a v) := by
  refine .orElse (.one <| .sfuWrite h fun _ hu => ?_) <|
    .orElse (.one <| .ahbWrite h) <|
    .orElse (.one <| .ite (.esubSubmit h) h) <| .some <| .sfuWrite h fun _ hu => .plainAt hu
  extract_lets t1 t2 t3
  have ht1 : s₀.Evolves t1 := .fwdemWrite hu
  have ht2 : s₀.Evolves t2 := .ite (.sfuArm ht1) ht1
  have ht3 : s₀.Evolves t3 := .ite (.requalWrite ht2) ht2
  exact .ite (.safetyReset ht3) ht3

theorem Gives.ceWrite {a : Nat} {v : Word} (h : s₀.Evolves s) : Gives s₀.Evolves (s.ceWrite a v) := by
  refine .orElse ?_ ?_
  · refine .one ?_
    extract_lets t
    have ht : s₀.Evolves t := .plainAt h
    exact .ite (.setReg ht) ht
  · refine .orElse ?_ ?_
    · refine .one ?_
      extract_lets t
      have ht : s₀.Evolves t := .plainAt h
      exact .ite (.swapRequest ht) ht
    · refine .orElse ?_ ?_
      · refine .one ?_
        extract_lets t
        have ht : s₀.Evolves t := .plainAt h
        exact .ite (.ceLoad ht) ht
      · refine .orElse (.hit fun _ => .fbexpWrite h) <|
          .orElse (.hit fun _ => ?_) <| .one <| .cellCmd h
        extract_lets t
        have ht : s₀.Evolves t := .plainAt h
        exact .ite (.rampClear ht) ht

theorem Gives.lnkWrite {a : Nat} {v : Word} (h : s₀.Evolves s) : Gives s₀.Evolves (s.lnkWrite a v) := by
  refine .orElse (.one <| .ite (.lnkRefresh <| .setB h) <| .lnkRefresh <| .plainAt h) <|
    .orElse (.one <| .ite (.stopRequest h) h) <|
    .orElse (.hit fun _ => .lnkRefresh <| .plainAt h) <|
    .orElse (.hit fun _ => .lnkCmdWrite h) <| .orElse ?_ ?_
  · refine .one ?_
    extract_lets t t1 t2 t3 t4
    have ht : s₀.Evolves t := .plainAt h
    have ht1 : s₀.Evolves t1 := .ite (.formOne ht) ht
    have ht2 : s₀.Evolves t2 := .ite (.rolecmdMaster ht1) <| .ite (.rolecmdMember ht1) ht1
    have ht3 : s₀.Evolves t3 := .ite (.ringJoin ht2) ht2
    have ht4 : s₀.Evolves t4 := .ite (.ringLeave ht3) ht3
    exact .ite (.roleSwap ht4) ht4
  · refine .orElse (.one <| .ite (.setB h) <| .plainAt h) <|
      .orElse (.one ?_) <| .one <| .ite (.mgmtTransmit h) <| .plainAt h
    split
    · exact .hoCommand h
    · exact .hoCommand h
    · exact .handoverCancel h
    · exact h

theorem Gives.brpWrite {a : Nat} {v : Word} (h : s₀.Evolves s) : Gives s₀.Evolves (s.brpWrite a v) := by
  refine .orElse (.one <| .brpCtrlWrite h) <|
    .orElse (.one <| .brpEnset h) <|
    .orElse (.one <| .brpEnclr h) <|
    .orElse (.one <| .forceRelease <| .forceSet h) <| .orElse ?_ ?_
  · refine .one ?_
    extract_lets t1 t2
    have ht1 : s₀.Evolves t1 := .ite (.clearLatch h) h
    have ht2 : s₀.Evolves t2 := .ite (.clearLatch ht1) ht1
    exact .ite (.clearLatch ht2) ht2
  · refine .orElse (.hit fun _ => .shadowWrite h) <|
      .orElse (.hit fun _ => .shadowWrite h) <|
      .orElse (.hit fun _ => ?_) <|
      .orElse (.one <| .msrCtrlWrite h) <|
      .orElse (.one <| .ite (.gateChargeMeasure h) h) <|
      .orElse (.one <| .serialAccept h) <|
      .orElse (.one <| .trimsetWrite h) <| .hit fun _ => .comparatorThreshold <| .plainAt h
    extract_lets t
    have ht : s₀.Evolves t := .ite (.shadowDiscard h) h
    exact .ite (.shadowCommit ht) ht

theorem Gives.ethWrite {a : Nat} {v : Word} (h : s₀.Evolves s) : Gives s₀.Evolves (s.ethWrite a v) := by
  refine .orElse (.one <| .ite (.domainCommit h) h) <|
    .orElse (.one <| .prpsetWrite h) <|
    .orElse (.hit fun _ => .tpoCfgWrite h) <|
    .orElse (.hit fun _ => .rxRelease h) <|
    .orElse (.hit fun _ => .mdioWrite h) <|
    .orElse (.hit fun _ => .canCfgWrite h) <|
    .orElse (.hit fun _ => .canRelease h) <| .hit fun _ => ?_
  extract_lets t1 t2 t3
  have ht1 : s₀.Evolves t1 := .ite (.canRecover h) h
  have ht2 : s₀.Evolves t2 := .ite (.canReset ht1) ht1
  have ht3 : s₀.Evolves t3 := .ite (.canSleep ht2) ht2
  exact .ite (.canWake ht3) ht3

theorem Gives.truWrite {req : Requester} {a : Nat} {v : Word} (h : s₀.Evolves s) :
    Gives s₀.Evolves (s.truWrite req a v) := by
  refine .orElse (.one <| .identWrite h) <|
    .orElse (.one <| .bootselWrite h) <|
    .orElse (.one <| .ite (.assayExtend h) h) <| .orElse ?_ ?_
  · refine .one ?_
    extract_lets t
    have ht : s₀.Evolves t := .plainAt h
    exact .ite (.ite (.flashErase ht) <| .flashProgram ht) ht
  · refine .orElse ?_ ?_
    · refine .hit fun _ => ?_
      extract_lets t
      have ht : s₀.Evolves t := .plainAt h
      exact .ite (.reportRequest ht) ht
    · refine .orElse (.one <| .ite (.doorbell h) h) <| .one <| .ite ?_ h
      extract_lets t1 t2 t3
      have ht1 : s₀.Evolves t1 := .ite (.debugAttach h) h
      have ht2 : s₀.Evolves t2 := .ite (.debugDetach ht1) ht1
      have ht3 : s₀.Evolves t3 := .ite (.debugHalt ht2) ht2
      exact .ite (.debugResume ht3) ht3

theorem Gives.hookWrite {req : Requester} {a : Nat} {v : Word} (h : s₀.Evolves s) :
    Gives s₀.Evolves (s.hookWrite req a v) := by
  unfold State.hookWrite
  split
  · exact .syscWrite h
  · exact .clkWrite h
  · exact .clkWrite h
  · exact .vicWrite h
  · exact .vicWrite h
  · exact .fcuWrite h
  · exact .sfuRegWrite h
  · exact .ceWrite h
  · exact .ceWrite h
  · exact .lnkWrite h
  · exact .lnkWrite h
  · exact .brpWrite h
  · exact .brpWrite h
  · exact .ethWrite h
  · exact .ethWrite h
  · exact .truWrite h
  · exact .truWrite h
  · exact .none

theorem State.Evolves.regWrite {req : Requester} {a : Nat} {v : Word} (h : s₀.Evolves s) :
    s₀.Evolves (s.regWrite req a v) := by
  unfold State.regWrite
  split
  · exact .ite (.getD (.hookWrite h) (.plainWrite h)) h
  · exact h

theorem Gives.hookRead {req : Requester} {a : Nat} (h : s₀.Evolves s) :
    Gives (fun x => s₀.Evolves x.1) (s.hookRead req a) :=
  .orElse (.one <| .timeloRead h) <|
  .orElse (.one h) <|
  .orElse (.one h) <|
  .orElse (.one <| .update h) <|
  .orElse (.one h) <|
  .orElse (.one h) <|
  .orElse (.hit fun _ => h) <|
  .orElse (.hit fun _ => h) <|
  .orElse (.hit fun _ => h) <|
  .orElse (.hit fun _ => h) <|
  .orElse (.hit fun _ => h) <|
  .orElse (.hit fun _ => .semRead h) <|
  .orElse (.one h) <|
  .orElse (.one h) <|
  .orElse (.one h) <|
  .orElse (.one h) <|
  .orElse (.one h) <|
  .orElse (.one <| .dtimeRead h) <|
  .orElse (.one h) <|
  .orElse (.hit fun _ => h) <|
  .orElse (.hit fun _ => .tsinfoRead h) <|
  .orElse (.hit fun _ => h) <| .orElse (.hit fun _ => h) <| .hit fun _ => h

theorem State.Evolves.regRead {req : Requester} {a : Nat} (h : s₀.Evolves s) : s₀.Evolves (s.regRead req a).1 := by
  unfold State.regRead
  split
  · exact .iteFst (.getDFst (.hookRead h) h) h
  · exact h

theorem State.Evolves.targetWrite {req : Requester} {t : WriteTarget} {v : Word} (h : s₀.Evolves s) :
    s₀.Evolves (s.targetWrite req t v) := by
  unfold State.targetWrite
  split
  · exact .regWrite h
  · exact .ite h <| .update h
  · exact .ite h <| .update h
  · exact .ite h <| .update h
  · exact .ite h <| .update h
  · exact .ite h <| .update h

theorem State.Evolves.hostReject {a : Nat} (h : s₀.Evolves s) : s₀.Evolves (s.hostReject a) :=
  .setReg <| .setB h

/-! ## Machine/Mem -/

theorem State.Evolves.storeN {a n : Nat} {v : Word} (h : s₀.Evolves s) : s₀.Evolves (s.storeN a n v) :=
  .update <| .putBytes h

theorem State.Evolves.readAs {p a n : Nat} (h : s₀.Evolves s) : s₀.Evolves (s.readAs p a n).1 := by
  unfold State.readAs
  extract_lets parity r
  have hr : s₀.Evolves r.1 := .regRead h
  refine .iteFst h <| .iteFst (.iteFst h <| .iteFst (.raise h) h) ?_
  split
  · exact .iteFst hr h
  · exact h
  · exact h
  · exact .iteFst h <| .iteFst (.raise h) h
  · exact .iteFst h <| .iteFst (.raise h) h

theorem State.Evolves.ctxStore {p a n : Nat} {v : Word} (h : s₀.Evolves s) :
    s₀.Evolves (s.ctxStore p a n v).1 := by
  unfold State.ctxStore
  extract_lets i off t
  have ht : s₀.Evolves t := .storeN h
  exact .iteFst h <| .iteFst (.incF h) <| .iteFst ht <| .update ht

theorem State.Evolves.writeAs {p a n : Nat} {v : Word} (h : s₀.Evolves s) :
    s₀.Evolves (s.writeAs p a n v).1 := by
  refine .iteFst h <| .iteFst (.iteFst (.storeN h) h) ?_
  split
  · exact .iteFst (.regWrite h) h
  · exact h
  · exact h
  · exact h
  · exact h
  · exact .incF h
  · exact .iteFst (.storeN h) h
  · refine .iteFst h ?_
    split
    · exact .ctxStore h
    · exact .iteFst (.paramWrite h) <| .iteFst (.storeN h) h
    · exact .iteFst (.storeN h) h
    · exact .storeN h

theorem State.Evolves.loadOp {p d a : Nat} {imm : BitVec 16} {n : Nat} {ext : Word → Word}
    (h : s₀.Evolves s) : s₀.Evolves (s.loadOp p d a imm n ext) := by
  refine .instr h fun _ hu => ?_
  extract_lets ad r
  have hr : s₀.Evolves r.1 := .readAs hu
  refine .ite hu ?_
  split
  · exact .retire <| .setGpr hr
  · exact .ite (.exception hr) <| .retireWith <| .setGpr hr

theorem State.Evolves.storeOp {p d a : Nat} {imm : BitVec 16} {n : Nat} (h : s₀.Evolves s) :
    s₀.Evolves (s.storeOp p d a imm n) := by
  refine .instr h fun _ hu => ?_
  extract_lets r
  have hr : s₀.Evolves r.1 := .writeAs hu
  split
  · exact .retire hr
  · exact .ite (.exception hr) <| .retireWith hr

theorem State.Evolves.atwOp {p d a b : Nat} (h : s₀.Evolves s) : s₀.Evolves (s.atwOp p d a b) :=
  .instr h fun _ hu => .ite (.retireWith hu) <| .ite (.modProc <| .retire hu) <| .modProc <| .retire hu

theorem State.Evolves.timedWrite {p : Nat} (h : s₀.Evolves s) : s₀.Evolves (s.timedWrite p) := by
  refine .ite ?_ h
  split
  · extract_lets t
    have ht : s₀.Evolves t := .modProc <| .advanceTo h
    exact .ite (.modProc ht) <| .regWrite ht
  · exact h

theorem State.Evolves.hpRead {addr : Word} {late : Bool} (h : s₀.Evolves s) :
    s₀.Evolves (s.hpRead addr late) :=
  .ite h <|
  .ite (.ite (.update <| .regRead h) <| .update h) <|
  .ite (.update <| .setB <| .setB h) <|
  .ite (.update <| .hostReject h) <| .ite (.update <| .regRead h) <| .ite (.update h) <| .update h

theorem State.Evolves.hpWrite {addr data : Word} (h : s₀.Evolves s) : s₀.Evolves (s.hpWrite addr data) := by
  unfold State.hpWrite
  extract_lets a r
  have hr : s₀.Evolves r.1 := .writeAs h
  refine .ite h <|
    .ite (.ite (.regWrite h) h) <|
    .ite (.hostReject h) <|
    .ite (.regWrite h) <| .ite (.ite (.incF <| .hostReject h) <| .hostReject h) ?_
  split
  · exact .regWrite h
  · exact .hostReject h
  · exact .ite (.hostReject h) hr

theorem State.Evolves.registerWrite {req : Requester} {t : WriteTarget} {v : Word} (h : s₀.Evolves s) :
    s₀.Evolves (s.registerWrite req t v) := by
  unfold State.registerWrite
  split
  · exact .hpWrite h
  · exact .ite (.targetWrite h) h

/-! ## Machine/Boundary -/

theorem State.Evolves.sendBypass {i : Nat} (h : s₀.Evolves s) : s₀.Evolves (s.sendBypass i) := .pushDue h

theorem State.Evolves.bypassState {i : Nat} (h : s₀.Evolves s) : s₀.Evolves (s.bypassState i) := by
  unfold State.bypassState
  exact .modCell <| .setCtx <| .setCtxF h

theorem State.Evolves.startBypass {i : Nat} (h : s₀.Evolves s) : s₀.Evolves (s.startBypass i) :=
  .ite h <| .bypassState <| .setCtxF <| .sendBypass h

theorem State.Evolves.sendClear {i arg : Nat} (h : s₀.Evolves s) : s₀.Evolves (s.sendClear i arg) :=
  .sendBypass <| .pushCmd h

theorem State.Evolves.startClear {i : Nat} {v : Word} (h : s₀.Evolves s) : s₀.Evolves (s.startClear i v) :=
  .modCell <| .bypassState <| .sendClear h

theorem State.Evolves.sendReturn {i : Nat} (h : s₀.Evolves s) : s₀.Evolves (s.sendReturn i) := .pushCmd h

theorem State.Evolves.noEffect (h : s₀.Evolves s) : s₀.Evolves s.noEffect := .incF h

theorem State.Evolves.repeatBundle {i : Nat} {prev : List CsEdge} (h : s₀.Evolves s) :
    s₀.Evolves (s.repeatBundle i prev) := by
  unfold State.repeatBundle
  exact .modCell <| .incF <| .setCtx <| .setCtxF <| .setCtxF h

theorem State.Evolves.repeatNote {r : State} {i : Nat} (h : s₀.Evolves s) :
    s₀.Evolves (r.repeatNote s i) := by
  unfold State.repeatNote
  extract_lets p lost had edge t t1 t2
  have ht : s₀.Evolves t := .ite (.repeatBundle h) h
  have ht1 : s₀.Evolves t1 := .ite (.sendBypass ht) ht
  have ht2 : s₀.Evolves t2 := by
    unfold t2
    split
    · exact .ite (.sendClear ht1) ht1
    · exact ht1
  exact .ite (.sendReturn ht2) ht2

theorem State.Evolves.shiftCell {i : Nat} (h : s₀.Evolves s) : s₀.Evolves (s.shiftCell i) := .modCell h

theorem State.Evolves.addTally {i off n : Nat} (h : s₀.Evolves s) : s₀.Evolves (s.addTally i off n) :=
  .setCtx <| .setCtx h

theorem State.Evolves.tallyCell {i : Nat} (h : s₀.Evolves s) : s₀.Evolves (s.tallyCell i) :=
  .ite (.setCtx <| .addTally <| .addTally h) h

theorem State.Evolves.contextFaulted {i : Nat} (h : s₀.Evolves s) : s₀.Evolves (s.contextFaulted i) := by
  unfold State.contextFaulted
  extract_lets c late t u
  have ht : s₀.Evolves t := .modCell h
  have hu : s₀.Evolves u := .modCell <| .setCtxF <| .setCst ht
  exact .ite (.ite (.raise hu) hu) ht

theorem State.Evolves.contextBypassed {i : Nat} (h : s₀.Evolves s) : s₀.Evolves (s.contextBypassed i) :=
  .ite h <| .ite (.modCell <| .setCtxF <| .setCst h) <| .ite (.modCell <| .setCst h) h

theorem State.Evolves.offerCell {i : Nat} (h : s₀.Evolves s) : s₀.Evolves (s.offerCell i) :=
  .ite (.ite (.modCell <| .noticeBuddy h) <| .startBypass h) h

theorem State.Evolves.bypassCauses {lost : List Nat} {i : Nat} (h : s₀.Evolves s) :
    s₀.Evolves (s.bypassCauses lost i) := by
  unfold State.bypassCauses
  extract_lets fault t u
  have ht : s₀.Evolves t := .ite (.raise h) h
  have hu : s₀.Evolves u := .ite (.startBypass ht) ht
  exact .offerCell hu

theorem State.Evolves.bypassCommands (h : s₀.Evolves s) : s₀.Evolves s.bypassCommands := by
  unfold State.bypassCommands
  extract_lets t
  have ht : s₀.Evolves t := by
    unfold t
    split
    · exact .forAll h fun _ _ hu =>
        .ite (.ite (.setCtxF hu) <| .startBypass hu) <|
          .noEffect <| .ite (.setCtxF hu) hu
    · exact h
  split
  · exact .forAll ht fun _ _ hu => .ite (.startClear hu) <| .noEffect hu
  · exact ht

theorem State.Evolves.takeDriving {i : Nat} (h : s₀.Evolves s) : s₀.Evolves (s.takeDriving i) := by
  unfold State.takeDriving
  extract_lets c st t u v
  have ht : s₀.Evolves t := .setCtxF <| .setCst <| .nameHeader h
  have hu : s₀.Evolves u := .modCell ht
  have hv : s₀.Evolves v := .ite (.startBypass hu) hu
  exact .ite (.setCtxF hv) hv

theorem State.Evolves.takesDue (h : s₀.Evolves s) : s₀.Evolves s.takesDue := by
  unfold State.takesDue
  extract_lets due go t u
  have ht : s₀.Evolves t := .forAll h fun _ _ hu => .takeDriving hu
  have hu : s₀.Evolves u := .forAll ht fun _ _ hu => .modCell <| .setTake hu
  exact .ite (.ringEvent <| .raise <| .incF hu) hu

theorem State.Evolves.adoptDue (h : s₀.Evolves s) : s₀.Evolves s.adoptDue :=
  .forAll h fun _ _ hu => .adoptEdge hu

theorem State.Evolves.enterEscrowed {i : Nat} (h : s₀.Evolves s) : s₀.Evolves (s.enterEscrowed i) :=
  .modCell <| .setCtxF <| .setCst h

theorem State.Evolves.giveDriving {i : Nat} (h : s₀.Evolves s) : s₀.Evolves (s.giveDriving i) :=
  .ite h <| .ite (.enterEscrowed h) <| .ite (.note <| .enterEscrowed h) h

theorem State.Evolves.returnCommand (h : s₀.Evolves s) : s₀.Evolves s.returnCommand := by
  unfold State.returnCommand
  split
  · exact .forAll h fun _ _ hu => .ite (.setCtxF hu) <| .noEffect hu
  · exact h

theorem State.Evolves.contextReturn {i : Nat} (h : s₀.Evolves s) : s₀.Evolves (s.contextReturn i) :=
  .ite (.sendReturn <| .setCtxF <| .setCst h) h

theorem State.Evolves.contextDiscover {i : Nat} (h : s₀.Evolves s) : s₀.Evolves (s.contextDiscover i) :=
  .setCtxF <| .setCtxF <| .setCst h

theorem State.Evolves.stepFive {caps sent : List Nat} {i : Nat} (h : s₀.Evolves s) :
    s₀.Evolves (s.stepFive caps sent i) := by
  unfold State.stepFive
  extract_lets
  split
  · exact .ite
      (.ite (.ite (.modCell <| .setCst <| .contextDiscover h) h) <| .contextDiscover h)
      h
  · exact .ite (.modCell <| .setCst h) <| .ite (.setCst h) <| .contextAdmit h
  · exact .ite (.modCell <| .setCtxF <| .setCst h) h
  · exact .ite (.setCst h) h
  · exact h

theorem State.Evolves.resumeCommand (h : s₀.Evolves s) : s₀.Evolves s.resumeCommand := by
  unfold State.resumeCommand
  split
  · exact .ite h <| .forAll h fun _ _ hu => .ite (.pushCmd hu) <| .noEffect hu
  · exact h

theorem State.Evolves.armBoundary {a : Nat} (h : s₀.Evolves s) : s₀.Evolves (s.armBoundary a) := by
  unfold State.armBoundary
  extract_lets mem act flt whole t
  have ht : s₀.Evolves t := .setB <| .setF <| .setF h
  exact .ite (.stopRequest <| .note <| .setB ht) ht

theorem State.Evolves.contextSteps {caps sent lost : List Nat} (h : s₀.Evolves s) :
    s₀.Evolves (s.contextSteps caps sent lost) := by
  refine .ite h ?_
  extract_lets s1 s2 s3 s4 s5 s6 s7 _ s8
  have hs1 : s₀.Evolves s1 := .forAll h fun _ _ hu => .contextFaulted hu
  have hs2 : s₀.Evolves s2 := .forAll hs1 fun _ _ hu => .contextBypassed hu
  have hs3 : s₀.Evolves s3 := .bypassCommands <| .forAll hs2 fun _ _ hu => .bypassCauses hu
  have hs4 : s₀.Evolves s4 := .adoptDue <| .forAll (.takesDue hs3) fun _ _ hu => .giveDriving hu
  have hs5 : s₀.Evolves s5 := .forAll (.returnCommand hs4) fun _ _ hu => .contextReturn hu
  have hs6 : s₀.Evolves s6 := .resumeCommand <| .forAll hs5 fun _ _ hu => .stepFive hu
  have hs7 : s₀.Evolves s7 := .ite (.setB hs6) hs6
  have hs8 : s₀.Evolves s8 := .update hs7
  exact .forAll hs8 fun _ _ hu => .armBoundary hu

theorem State.Evolves.linkPart (h : s₀.Evolves s) : s₀.Evolves s.linkPart := by
  unfold State.linkPart
  extract_lets s1 s2 s3 s4 s5
  have hs1 : s₀.Evolves s1 := .ite (.forAll h fun _ _ hu => .reportSnapshot hu) h
  have hs2 : s₀.Evolves s2 := .ite (.forAll hs1 fun _ _ hu => .tallyCell hu) hs1
  have hs3 : s₀.Evolves s3 := .serialBoundary <| .msrBoundary hs2
  have hs4 : s₀.Evolves s4 := .ite (.forAll hs3 fun _ _ hu => .shiftCell hu) hs3
  have hs5 : s₀.Evolves s5 := .ite (.forAll hs4 fun _ _ hu => .repeatNote hu) hs4
  exact .ite (.forAll hs5 fun _ _ hu => .portBoundary hu) hs5

theorem State.Evolves.beginPeriod (h : s₀.Evolves s) : s₀.Evolves s.beginPeriod :=
  .update <| .ite (.setB <| .setB h) h

theorem State.Evolves.restartProcs (h : s₀.Evolves s) : s₀.Evolves s.restartProcs :=
  .forAll h fun _ _ hu => .ite (.ite (.startProc hu) <| .modProc hu) hu

theorem State.Evolves.periodBoundary (h : s₀.Evolves s) : s₀.Evolves s.periodBoundary :=
  .ite
    (.restartProcs <| .sfuBoundary <| .policeBoundary <| .wdtBoundary <| .timeAction <| .timeBoundary <|
       .ceBoundary <| .ringBoundary <| .tokackCheck <| .heldBackTakes <| .hoFinish <| .contextSteps <|
       .hoBoundary <| .linkPart <| .beginPeriod <| .modeApply <| .enterPeriod h)
    h

/-! ## Machine/CmdLink -/

theorem State.Evolves.alignCmd {i : Nat} {rx : LinkEnd} {ok : Bool} (h : s₀.Evolves s) :
    s₀.Evolves (s.alignCmd i rx ok) := by
  unfold State.alignCmd
  split
  · exact .ite (.linkAligned h) <| .linkAlignLost h
  · exact .epAlign h
  · exact .epAlign h

theorem State.Evolves.stopRequestCmd (h : s₀.Evolves s) : s₀.Evolves s.stopRequestCmd :=
  .ite (.stopRequest h) h

/-! ## Machine/CmdNet -/

theorem State.Evolves.confirmCmd (h : s₀.Evolves s) : s₀.Evolves s.confirmCmd := .ite (.confirm h) h

/-! ## Machine/CmdTime -/

theorem State.Evolves.timeloReadCmd {req : Requester} (h : s₀.Evolves s) : s₀.Evolves (s.timeloReadCmd req) :=
  .ite (.update <| .timeloRead h) h

theorem State.Evolves.stmLoadCmd {req : Requester} (h : s₀.Evolves s) : s₀.Evolves (s.stmLoadCmd req) :=
  .ite (.ite (.stmLoad h) h) <| .ite (.stmLoad h) h

/-- Every command of the table. -/
theorem exec_evolves (c : Instr) (s : State) : s.EvolvesOut (exec c s) := by
  cases c with
  | vbedPowerUp => exact .next <| .vbedUp .refl
  | vbedRemoval => exact .next <| .vbedOff .refl
  | supplyCollapse => exact .next <| .supplyCollapse .refl
  | resetNAssert => exact .next <| .resetN .refl
  | syscResetWrite => exact .next <| .syscReset .refl
  | resetRelease => exact .next <| .resetRelease .refl
  | romHandOver => exact .next <| .romHandOver .refl
  | powerCommandBedrock => exact .next <| .powerCommand .refl
  | powerCommandStandby => exact .next <| .powerCommand .refl
  | powerCommandReady => exact .next <| .powerCommand .refl
  | powerCommandRun => exact .next <| .powerCommand .refl
  | domainPowerUpDone => exact .next <| .domainUp .refl
  | domainPowerDownDone => exact .next <| .domainDown .refl
  | powerSequenceDone => exact .next <| .mgmtSettle <| .powerDone .refl
  | noclkTimeout => exact .next <| .mgmtSettle <| .noclk .refl
  | syscAuthWrite => exact .next <| .authWrite .refl
  | syscModeWrite => exact .next <| .modeWrite .refl
  | coreStart => exact .next <| .coreStart .refl
  | canWakeUpPattern => exact .next <| .wakePattern .refl
  | bedrockAlarm => exact .next <| .bedrockAlarm .refl
  | wakeCauseClear => exact .next <| .wakeClear .refl
  | hpStatus => exact .next <| .hpStatus .refl
  | hpRead => exact .next <| .hpRead .refl
  | hpWrite => exact .next <| .hpWrite .refl
  | hpTransactionError => exact .next <| .hpError .refl
  | mbxPush => exact .next <| .mbxPush .refl
  | mbxPop => exact .next <| .mbxPop .refl
  | hpdDoorbellWrite => exact .next <| .doorbell .refl
  | debugAttach => exact .next <| .debugAttach .refl
  | debugDetach => exact .next <| .debugDetach .refl
  | debugHalt => exact .next <| .debugHalt .refl
  | debugResume => exact .next <| .debugResume .refl
  | dllEnable => exact .next <| .dllEnable .refl
  | dllLock => exact .next <| .dllLock .refl
  | dllLockLoss => exact .next <| .dllLockLoss .refl
  | dllRelock => exact .next <| .dllRelock .refl
  | timeloRead => exact .next <| .timeloReadCmd .refl
  | stmLoad => exact .next <| .stmLoadCmd .refl
  | periodBoundary => exact .next <| .mgmtSettle <| .periodBoundary .refl
  | compareArm => exact .next <| .compareArm .refl
  | compareFire => exact .next <| .compareFire .refl
  | slewStep => exact .next <| .slewStep .refl
  | timeStep => exact .next <| .timeStep .refl
  | timeTakeback => exact .next <| .timeTakeback .refl
  | forwardedClockLost => exact .next <| .forwardedClockLost .refl
  | forwardedClockQualify => exact .next <| .forwardedClockQualify .refl
  | fwdResume => exact .next <| .fwdResume .refl
  | settleEnd => exact .next <| .settleEnd .refl
  | mclkStart => exact .next <| .mclkStart .refl
  | mclkStop => exact .next <| .mclkStop .refl
  | syncInEdge => exact .next <| .syncInEdge .refl
  | realignmentWindowEnd => exact .next <| .windowEnd .refl
  | linkSlot => exact .next <| .linkSlot .refl
  | linkAlign => exact .next <| .alignCmd .refl
  | linkAlignLoss => exact .next <| .alignCmd .refl
  | uplinkWordReceive => exact .next <| .uplinkReceive .refl
  | echoReceive => exact .next <| .uplinkReceive .refl
  | nakReceive => exact .next <| .uplinkReceive .refl
  | capsetComplete => exact .next <| .capsetComplete .refl
  | linkLost => exact .next <| .linkLost .refl
  | stopRequest => exact .next <| .stopRequestCmd .refl
  | lnkCmdWrite => exact .next <| .lnkCmdWrite .refl
  | admittedDelayExceeded => exact .next <| .policeDelay .refl
  | endpointBeacon => exact .next <| .endpointBeacon .refl
  | endpointDelayWord => exact .next <| .endpointDelayWord .refl
  | endpointBadWord => exact .next <| .endpointBadWord .refl
  | edgeCommand => exact .next <| .edgeCommand .refl
  | bundleDeadline => exact .next <| .bundleDeadline .refl
  | edgeDue => exact .next <| .edgeDue .refl
  | cadenceCommand => exact .next <| .cadenceCommand .refl
  | cadenceStart => exact .next <| .cadenceStart .refl
  | cadenceEdge => exact .next <| .cadenceEdge .refl
  | cmdStop => exact .next <| .cmdStop .refl
  | cmdBypass => exact .next <| .cmdBypass .refl
  | bypassDue => exact .next <| .bypassDue .refl
  | cmdClear => exact .next <| .cmdClear .refl
  | cmdTake => exact .next <| .cmdTake .refl
  | cmdReturn => exact .next <| .cmdReturn .refl
  | cmdReplay => exact .next <| .cmdReplay .refl
  | cmdCapreq => exact .next <| .cmdCapreq .refl
  | cmdSvc => exact .next <| .cmdSvc .refl
  | cmdUnlistedOp => exact .next <| .cmdUnlistedOp .refl
  | calWord => exact .next <| .calWord .refl
  | cfgWrite => exact .next <| .cfgWrite .refl
  | cfgCommit => exact .next <| .cfgCommit .refl
  | endpointBoundary => exact .next <| .endpointBoundary .refl
  | reportSample => exact .next <| .reportSample .refl
  | faultLatch => exact .next <| .faultLatch .refl
  | cadencePass => exact .next <| .cadencePass .refl
  | armPass => exact .next <| .armPass <| .shareSplit .refl
  | passEnd => exact .next <| .passEnd .refl
  | fomWindowEnd => exact .next <| .fomWindowEnd .refl
  | cellcmdBypass => exact .next <| .cellCmd .refl
  | cellcmdReturn => exact .next <| .cellCmd .refl
  | cellcmdClear => exact .next <| .cellCmd .refl
  | cellcmdResume => exact .next <| .cellCmd .refl
  | cellcmdInvalidOp => exact .next <| .ite .refl <| .cellCmd .refl
  | supervision => exact .next <| .supervise .refl
  | feedbackImplausible => exact .next <| .fbImplausible .refl
  | feedbackFrozen => exact .next <| .fbFrozen .refl
  | feedbackExpiry => exact .next <| .fbExpiry .refl
  | feedbackRecovery => exact .next <| .fbRecovery .refl
  | fbexpWrite => exact .next <| .fbexpWrite .refl
  | bumplessRecompute => exact .next <| .bumpless .refl
  | programStart => exact .next <| .programStart .refl
  | programOverrun => exact .next <| .programOverrun .refl
  | commitWindow => exact .next <| .commitWindow .refl
  | ceLoad => exact .next <| .ceLoad .refl
  | loadDone => exact .next <| .loadDone .refl
  | bankSwapRequest => exact .next <| .swapRequest .refl
  | rampClear => exact .next <| .rampClear .refl
  | paramWrite => exact .next <| .paramWrite .refl
  | angleTableWrite => exact .next <| .angleWrite .refl
  | trackerModeWrite => exact .next <| .trackerMode .refl
  | ceParityError => exact .next <| .ceParity .refl
  | parityRestoration => exact .next <| .parityRestoration .refl
  | restorationDone => exact .next <| .restorationDone .refl
  | add => exact .next <| .aluOp .refl
  | sub => exact .next <| .aluOp .refl
  | and => exact .next <| .aluOp .refl
  | or => exact .next <| .aluOp .refl
  | xor => exact .next <| .aluOp .refl
  | sll => exact .next <| .aluOp .refl
  | srl => exact .next <| .aluOp .refl
  | sra => exact .next <| .aluOp .refl
  | slt => exact .next <| .aluOp .refl
  | sltu => exact .next <| .aluOp .refl
  | adds => exact .next <| .satOp .refl
  | subs => exact .next <| .satOp .refl
  | min => exact .next <| .aluOp .refl
  | max => exact .next <| .aluOp .refl
  | clz => exact .next <| .immOp .refl
  | mul => exact .next <| .aluOp .refl
  | mulh => exact .next <| .aluOp .refl
  | mulhu => exact .next <| .aluOp .refl
  | div => exact .next <| .divOp .refl
  | divu => exact .next <| .divOp .refl
  | rem => exact .next <| .divOp .refl
  | remu => exact .next <| .divOp .refl
  | mac => exact .next <| .macOp .refl
  | msu => exact .next <| .macOp .refl
  | mla => exact .next <| .macOp .refl
  | rda => exact .next <| .rdaOp .refl
  | cla => exact .next <| .instr .refl fun _ hu => .retire <| .modProc hu
  | rdw => exact .execRdw .refl
  | wrw => exact .execWrw .refl
  | addi => exact .next <| .immOp .refl
  | andi => exact .next <| .immOp .refl
  | ori => exact .next <| .immOp .refl
  | xori => exact .next <| .immOp .refl
  | slti => exact .next <| .immOp .refl
  | lui => exact .next <| .immOp .refl
  | slli => exact .next <| .immOp .refl
  | srli => exact .next <| .immOp .refl
  | srai => exact .next <| .immOp .refl
  | lw => exact .next <| .loadOp .refl
  | lh => exact .next <| .loadOp .refl
  | lhu => exact .next <| .loadOp .refl
  | lb => exact .next <| .loadOp .refl
  | lbu => exact .next <| .loadOp .refl
  | sw => exact .next <| .storeOp .refl
  | sh => exact .next <| .storeOp .refl
  | sb => exact .next <| .storeOp .refl
  | beq => exact .next <| .branchOp .refl
  | bne => exact .next <| .branchOp .refl
  | blt => exact .next <| .branchOp .refl
  | bge => exact .next <| .branchOp .refl
  | bltu => exact .next <| .branchOp .refl
  | bgeu => exact .next <| .branchOp .refl
  | j => exact .next <| .instr .refl fun _ hu => .modProc hu
  | call => exact .next <| .instr .refl fun _ hu => .ite (.exception hu) <| .setProc hu
  | ret => exact .execRet .refl
  | twaitp => exact .next <| .instr .refl fun _ hu => .ite (.retire hu) <| .modProc hu
  | twait => exact .next <| .instr .refl fun _ hu => .ite (.retire hu) <| .modProc hu
  | twaitComplete => exact .next <| .twaitComplete .refl
  | jt => exact .next <| .instr .refl fun _ hu => .modProc hu
  | loop => exact .next <| .loopOp .refl
  | loopi => exact .next <| .loopOp .refl
  | mfs => exact .execMfs .refl
  | mts => exact .execMts .refl
  | di => exact .next <| .instr .refl fun _ hu => .retire <| .modProc hu
  | ei => exact .next <| .instr .refl fun _ hu => .retire <| .modProc hu
  | iret => exact .execIret .refl
  | brk => exact .execBrk .refl
  | wfi => exact .execWfi .refl
  | atw => exact .next <| .atwOp .refl
  | timedWritePerform => exact .next <| .timedWrite .refl
  | sys => exact .next <| .instr .refl fun _ hu => .retireWith <| .admRequest hu
  | qpush => exact .next <| .instr .refl fun _ hu => .retire <| .modProc <| .procPush hu
  | qpop => exact .execQpop .refl
  | qcnt => exact .next <| .instr .refl fun _ hu => .retire <| .modProc <| .setGpr hu
  | vadd => exact .next <| .laneOp .refl
  | vsub => exact .next <| .laneOp .refl
  | vand => exact .next <| .laneOp .refl
  | vor => exact .next <| .laneOp .refl
  | vxor => exact .next <| .laneOp .refl
  | vadds => exact .next <| .laneOp .refl
  | vsubs => exact .next <| .laneOp .refl
  | vmin => exact .next <| .laneOp .refl
  | vmax => exact .next <| .laneOp .refl
  | vabs => exact .next <| .laneOp1 .refl
  | vneg => exact .next <| .laneOp1 .refl
  | vclt => exact .next <| .laneOp .refl
  | vmov => exact .next <| .laneOp1 .refl
  | vsra => exact .next <| .laneOp1 .refl
  | vsll => exact .next <| .laneOp1 .refl
  | vcmac => exact .next <| .engInstr .refl fun _ hu => .retire <| .lanesAcc hu
  | vcm => exact .next <| .engInstr .refl fun _ hu => .retire <| .lanesOut hu
  | vrda => exact .next <| .engInstr .refl fun _ hu => .retire <| .lanesOut hu
  | vcla => exact .next <| .engInstr .refl fun _ hu => .retire <| .lanesAcc hu
  | vvmac => exact .next <| .engInstr .refl fun _ hu => .retire <| .lanesAcc hu
  | vld => exact .execVld .refl
  | vst => exact .execVst .refl
  | vint => exact .execVint .refl
  | vang => exact .next <| .engInstr .refl fun _ hu => .retire <| .lanesOut hu
  | post => exact .next <| .engInstr .refl fun _ hu => .postGroup <| .retire hu
  | endProgram => exact .next <| .endOp .refl
  | vbc => exact .next <| .engInstr .refl fun _ hu => .retire <| .lanesOut hu
  | vext => exact .next <| .engInstr .refl fun _ hu => .retire <| .setGpr hu
  | vlane => exact .next <| .engInstr .refl fun _ hu => .retire <| .lanesOut hu
  | vicArbitration => exact .next <| .arbitrate .refl
  | interruptEntry => exact .next <| .interruptEntry .refl
  | nmiEntry => exact .next <| .nmiEntry .refl
  | vicSrcWrite => exact .next <| .vicSrcWrite .refl
  | vicSwset => exact .next <| .vicSwSet .refl
  | vicSwclr => exact .next <| .vicSwClr .refl
  | semaphoreAcquire => exact .next <| .semAcquire .refl
  | semaphoreRelease => exact .next <| .semRelease .refl
  | hardwarePush => exact .next <| .hardwarePush .refl
  | hardwarePop => exact .next <| .hardwarePop .refl
  | queueFlush => exact .next <| .queueFlush .refl
  | admitRequest => exact .next <| .admitRun .refl
  | admissionResult => exact .next <| .mgmtSettle <| .admissionResult .refl
  | admissionLock => exact .next <| .admissionLock .refl
  | unload => exact .next <| .unload .refl
  | unloadDone => exact .next <| .mgmtSettle <| .unloadDone .refl
  | dispatchProgram => exact .next <| .dispatch .refl
  | deadlineMiss => exact .next <| .deadlineMiss .refl
  | diWindowOverrun => exact .next <| .diOverrun .refl
  | ringSlot => exact .next <| .ringSlot <| .queueSafety .refl
  | ringPortUp => exact .next <| .ringPortUp .refl
  | ringPortBroken => exact .next <| .ringPortBroken .refl
  | ringBadWord => exact .next <| .ringBadWord .refl
  | ringNak => exact .next <| .ringNak .refl
  | ringFramesLost => exact .next <| .ringFramesLost .refl
  | ringBeaconReceive => exact .next <| .ringBeaconReceive .refl
  | ringHopReceive => exact .next <| .ringHopReceive .refl
  | refbReceive => exact .next <| .refbReceive .refl
  | escrowFrameReceive => exact .next <| .escrowFrameReceive .refl
  | safetyFrameReceive => exact .next <| .safetyFrameReceive .refl
  | armcntReceive => exact .next <| .armcntReceive .refl
  | mgmtFrameReceive => exact .next <| .mgmtFrameReceive .refl
  | bulkFrameReceive => exact .next <| .bulkFrameReceive .refl
  | breakNotice => exact .next <| .breakNotice .refl
  | join => exact .next <| .ringJoin .refl
  | joinReceive => exact .next <| .joinReceive .refl
  | grantReceive => exact .next <| .grantReceive .refl
  | rolecmdMaster => exact .next <| .rolecmdMaster .refl
  | rolecmdMember => exact .next <| .rolecmdMember .refl
  | roleSwap => exact .next <| .roleSwap .refl
  | leave => exact .next <| .ringLeave .refl
  | buddyLoss => exact .next <| .buddyLoss .refl
  | offerReceive => exact .next <| .offerReceive .refl
  | takenReceive => exact .next <| .takenReceive .refl
  | tokackReceive => exact .next <| .tokackReceive .refl
  | handover => exact .next <| .hoCommand .refl
  | handback => exact .next <| .hoCommand .refl
  | handoverCancel => exact .next <| .mgmtSettle <| .handoverCancel .refl
  | hoReqReceive => exact .next <| .hoReqReceive .refl
  | hoAckReceive => exact .next <| .mgmtSettle <| .hoAckReceive .refl
  | mgmtTransmit => exact .next <| .mgmtTransmit .refl
  | brpEnset => exact .next <| .brpEnset .refl
  | brpEnclr => exact .next <| .brpEnclr .refl
  | softStopDone => exact .next <| .softStopDone .refl
  | pwmBoundary => exact .next <| .pwmBoundary .refl
  | pwmEdge => exact .next <| .pwmEdge .refl
  | shadowWrite => exact .next <| .shadowWrite .refl
  | shadowCommit => exact .next <| .shadowCommit .refl
  | shadowDiscard => exact .next <| .shadowDiscard .refl
  | forceSet => exact .next <| .forceSet .refl
  | forceRelease => exact .next <| .forceRelease .refl
  | bothonSensed => exact .next <| .bothonSensed .refl
  | bootstrapUndervoltage => exact .next <| .bootstrapUndervoltage .refl
  | shortCircuit => exact .next <| .shortCircuit .refl
  | tripInput => exact .next <| .tripInput .refl
  | tripBlankEnd => exact .next <| .tripBlankEnd .refl
  | clearSc => exact .next <| .clearLatch .refl
  | clearBoot => exact .next <| .clearLatch .refl
  | clearTrip => exact .next <| .clearLatch .refl
  | vgdLow => exact .next <| .vgdLow .refl
  | vgdRecover => exact .next <| .vgdRecover .refl
  | sarConversion => exact .next <| .sarConversion .refl
  | offsetConversion => exact .next <| .offsetConversion .refl
  | sigmaDeltaOutput => exact .next <| .sigmaDeltaOutput .refl
  | comparatorOutput => exact .next <| .comparatorOutput .refl
  | comparatorThresholdWrite => exact .next <| .comparatorThreshold .refl
  | supplyOutOfWindow => exact .next <| .supplyRail .refl
  | junctionTemperatureHigh => exact .next <| .junctionHigh .refl
  | serialAccept => exact .next <| .serialAccept .refl
  | trimsetWrite => exact .next <| .trimsetWrite .refl
  | gateChargeMeasure => exact .next <| .gateChargeMeasure .refl
  | gateChargeDone => exact .next <| .gateChargeDone .refl
  | faultSourceSet => exact .next <| .faultSourceSet .refl
  | dualRailEqual => exact .next <| .dualRailEqual .refl
  | fswClear => exact .next <| .fswClear .refl
  | fsrcRearm => exact .next <| .fsrcRearm .refl
  | reactWrite => exact .next <| .reactWrite .refl
  | fcuSwset => exact .next <| .setSwFlt .refl
  | fcuSwclr => exact .next <| .setSwFlt .refl
  | watchdogKick => exact .next <| .watchdogKick .refl
  | watchdogExpiry => exact .next <| .watchdogExpiry .refl
  | ledgerWrite => exact .next <| .ledgerWrite .refl
  | firmwareRecord => exact .next <| .firmwareRecord .refl
  | faultInject => exact .next <| .faultInject .refl
  | safeInputDemand => exact .next <| .safeInputDemand .refl
  | sf1Demand => exact .next <| .sf1Demand .refl
  | fwdemWrite => exact .next <| .fwdemWrite .refl
  | monitorThresholdDemand => exact .next <| .monitorDemand .refl
  | safetyReset => exact .next <| .safetyReset .refl
  | sfuArm => exact .next <| .sfuArm .refl
  | channelLost => exact .next <| .channelLost .refl
  | tdegExpiry => exact .next <| .tdegExpiry .refl
  | requal => exact .next <| .requalWrite .refl
  | pulseTestStart => exact .next <| .pulseTestStart .refl
  | pulseTestResult => exact .next <| .pulseTestResult .refl
  | xdis => exact .next <| .xdis .refl
  | sindisc => exact .next <| .sindisc .refl
  | esubSubmit => exact .next <| .esubSubmit .refl
  | safetyWindowClose => exact .next <| .safetyWindowClose .refl
  | followWatchdog => exact .next <| .followWatchdog .refl
  | ethFrameReceive => exact .next <| .ethReceive .refl
  | ethRxrelWrite => exact .next <| .rxRelease .refl
  | ethLaunch => exact .next <| .ethLaunch .refl
  | ptpEvent => exact .next <| .ptpPass .refl
  | tsinfoRead => exact .next <| .tsinfoReadCmd .refl
  | domainMapCommit => exact .next <| .domainCommit .refl
  | dtimeloRead => exact .next <| .dtimeReadCmd .refl
  | prpsetWrite => exact .next <| .prpsetWrite .refl
  | tpoPulseEnd => exact .next <| .tpoEnd .refl
  | mdioGo => exact .next <| .mdioGo .refl
  | mdioDone => exact .next <| .mdioDone .refl
  | ethLinkChange => exact .next <| .linkChange .refl
  | canEnable => exact .next <| .canEnable .refl
  | canFrameReceive => exact .next <| .canReceive .refl
  | canTransmit => exact .next <| .canTransmit .refl
  | canTransmitOutcome => exact .next <| .canTxOutcome .refl
  | canBusOff => exact .next <| .canBusOff .refl
  | canRecover => exact .next <| .canRecover .refl
  | canReset => exact .next <| .canReset .refl
  | canRecoveryDone => exact .next <| .canRecoveryDone .refl
  | canSleep => exact .next <| .canSleep .refl
  | canWake => exact .next <| .canWake .refl
  | canWakeUpFrame => exact .next <| .canWakeFrame .refl
  | canFrameErrorWake => exact .next <| .canFrameError .refl
  | assayExtend => exact .next <| .assayExtend .refl
  | extensionDone => exact .next <| .extensionDone .refl
  | reportRequest => exact .next <| .reportRequest .refl
  | ringReportRequest => exact .next <| .ringReportRequest .refl
  | reportDone => exact .next <| .mgmtSettle <| .reportDone .refl
  | flashProgram => exact .next <| .flashProgram .refl
  | flashErase => exact .next <| .flashErase .refl
  | flashOperationDone => exact .next <| .mgmtSettle <| .flashDone .refl
  | confirm => exact .next <| .confirmCmd .refl
  | identLock => exact .next <| .identWrite .refl
  | mgmtStatus => exact .next <| .mgmtStatus .refl
  | mgmtAssay => exact .next <| .mgmtAssay .refl
  | mgmtAdmit => exact .next <| .mgmtAdmit .refl
  | mgmtUnload => exact .next <| .mgmtUnload .refl
  | mgmtHandover => exact .next <| .mgmtHandover .refl
  | mgmtFlashWrite => exact .next <| .mgmtFlashWrite .refl
  | mgmtFlashErase => exact .next <| .mgmtFlashErase .refl
  | bootTrial => exact .next <| .bootTrial .refl
  | mgmtConfirm => exact .next <| .mgmtConfirm .refl
  | reboot => exact .next <| .reboot .refl
  | mgmtPower => exact .next <| .mgmtPower .refl
  | mgmtUnknownOp => exact .next <| .mgmtUnknown .refl
  | registerWrite => exact .next <| .registerWrite .refl
  | endpointPowerUp => exact .next <| .endpointPowerUp .refl
  | safeInputRelease => exact .next <| .safeInputRelease .refl
  | supplyInWindow => exact .next <| .supplyRail .refl
  | junctionTemperatureNormal => exact .next <| .junctionNormal .refl
  | bootlowChange => exact .next <| .bootlowChange .refl
  | bmonMeasureUpdate => exact .next <| .bmonUpdate .refl

/-- What a step does to memory and registers: an empty queue passes a REFCLK cycle, another one runs its front command
in the state without that command. -/
theorem step_keeps_canonical {s t : State} (hs : s.Canonical) (h : step s = .next t) : t.Canonical := by
  unfold step at h
  split at h
  next =>
    cases h
    exact (State.Evolves.refclkCycle .refl).canonical hs
  next c rest _ => exact (exec_evolves c { s with pending := rest } t h).canonical hs

/-- Settles O58: nothing is listed at reset. -/
theorem canonicalAtReset : Obligations.CanonicalAtReset := ⟨rfl, rfl⟩

/-- Settles O59: `exec_evolves` holds of every command, and the tick of an empty queue writes no table. -/
theorem everyStepKeepsCanonical : Obligations.EveryStepKeepsCanonical := fun _ _ => step_keeps_canonical

end Sys2Proof.Machine

/-! The cell contexts and the period boundary (01 R25, R26, R40 to R46; 02 R56, R59; 04 R149 to R153). First what a read
of a context gives after a write of a context, then what each transition of a context does, then the parts of a
boundary, and last the pattern tables. -/

namespace Sys2Proof.Machine

/-! ## Words of the contexts -/

/-- A field inside the one replaced reads its part of what was put in. -/
theorem fld_setFld_within (w : Word) {hi lo hi' lo' : Nat} (v : Nat) (h : hi < 32) (hlo : lo ≤ lo') (hhi : hi' ≤ hi) :
    fld (setFld w hi lo v) hi' lo' = v / 2 ^ (lo' - lo) % 2 ^ (hi' + 1 - lo') := by
  apply Nat.eq_of_testBit_eq
  intro i
  rw [testBit_fld, Nat.testBit_mod_two_pow, ← Nat.shiftRight_eq_div_pow, Nat.testBit_shiftRight, getLsbD_setFld]
  by_cases hi2 : i < hi' + 1 - lo'
  · rw [if_pos (by omega), show lo' + i - lo = lo' - lo + i by omega]
  · simp [hi2]

section
variable (s : State)

theorem State.ctx_congr {t u : State} (h : t.mem = u.mem) (i off : Nat) : t.ctx i off = u.ctx i off := by
  simp only [State.ctx, State.ldw, State.ldb, h]

@[simp] theorem State.ctx_modCell (i j off : Nat) (f : CellAux → CellAux) : (s.modCell i f).ctx j off = s.ctx j off :=
  rfl

@[simp] theorem State.cs_setCtxF (i off hi lo v : Nat) : (s.setCtxF i off hi lo v).cs = s.cs := rfl
@[simp] theorem State.tm_setCtxF (i off hi lo v : Nat) : (s.setCtxF i off hi lo v).tm = s.tm := rfl

@[simp] theorem State.ctx_setCtx_same (i off : Nat) (v : Word) : (s.setCtx i off v).ctx i off = v :=
  State.ldw_stw_same s _ v

theorem State.ctx_setCtx_apart (i : Nat) {off off' : Nat} (v : Word) (h : off' + 4 ≤ off ∨ off + 4 ≤ off') :
    (s.setCtx i off v).ctx i off' = s.ctx i off' :=
  State.ldw_stw_apart s _ v _ (by omega)

/-- The blocks of two contexts do not overlap (00 R15). -/
theorem State.ctx_setCtx_other {i j off off' : Nat} (v : Word) (h : j ≠ i) (ho : off < 0x7FD) (ho' : off' < 0x7FD) :
    (s.setCtx i off v).ctx j off' = s.ctx j off' :=
  State.ldw_stw_apart s _ v _ (by unfold ctxBase; omega)

/-- No word of a context but those of context i differs. -/
def KeepsOtherCtx (i : Nat) (s t : State) : Prop :=
  ∀ j, j < 128 → j ≠ i → ∀ off, off < 0x7FD → t.ctx j off = s.ctx j off

variable {s} {t : State} {i off : Nat}

theorem KeepsOtherCtx.ofMem (h : t.mem = s.mem) : KeepsOtherCtx i s t := fun j _ _ off _ => State.ctx_congr h j off

theorem KeepsOtherCtx.setCtx {v : Word} (h : KeepsOtherCtx i s t) (ho : off < 0x7FD) :
    KeepsOtherCtx i s (t.setCtx i off v) :=
  fun j hj hji off' ho' => (State.ctx_setCtx_other t v hji ho ho').trans (h j hj hji off' ho')

theorem KeepsOtherCtx.setCtxF {hi lo v : Nat} (h : KeepsOtherCtx i s t) (ho : off < 0x7FD) :
    KeepsOtherCtx i s (t.setCtxF i off hi lo v) := h.setCtx ho

theorem KeepsOtherCtx.setCst {v : Nat} (h : KeepsOtherCtx i s t) : KeepsOtherCtx i s (t.setCst i v) :=
  h.setCtxF (by decide)

theorem KeepsOtherCtx.modCell {j : Nat} {f : CellAux → CellAux} (h : KeepsOtherCtx i s t) :
    KeepsOtherCtx i s (t.modCell j f) := h

end

/-! ## The header of a context (01 R43) -/

section
variable (s : State) (i : Nat)

@[simp] theorem State.cst_modCell (j : Nat) (f : CellAux → CellAux) : (s.modCell j f).cst i = s.cst i := rfl
@[simp] theorem State.pendRet_modCell (j : Nat) (f : CellAux → CellAux) : (s.modCell j f).pendRet i = s.pendRet i := rfl
@[simp] theorem State.bypBusy_modCell (j : Nat) (f : CellAux → CellAux) : (s.modCell j f).bypBusy i = s.bypBusy i := rfl

theorem State.cst_congr {t u : State} (h : t.ctx i 0 = u.ctx i 0) : t.cst i = u.cst i := by
  simp only [State.cst, State.ctxF, h]

theorem State.cClass_congr {t u : State} (h : t.ctx i 0 = u.ctx i 0) : t.cClass i = u.cClass i := by
  simp only [State.cClass, State.ctxF, h]

theorem State.pendRet_congr {t u : State} (h : t.ctx i 0 = u.ctx i 0) : t.pendRet i = u.pendRet i := by
  simp only [State.pendRet, h]

theorem State.bypBusy_congr {t u : State} (h : t.ctx i 0 = u.ctx i 0) : t.bypBusy i = u.bypBusy i := by
  simp only [State.bypBusy, h]

theorem State.cst_setCst {v : Nat} (h : v < 8) : (s.setCst i v).cst i = v := by
  simp only [State.cst, State.setCst, State.setCtxF, State.ctxF, State.ctx_setCtx_same]
  rw [fld_setFld_same _ _ _ _ (by decide)]
  exact Nat.mod_eq_of_lt h

/-- A field of the header above the state keeps the state. -/
theorem State.cst_setCtxF {hi lo v : Nat} (h : 2 < lo) : (s.setCtxF i 0 hi lo v).cst i = s.cst i := by
  simp only [State.cst, State.setCtxF, State.ctxF, State.ctx_setCtx_same]
  exact fld_setFld_apart _ _ _ _ _ _ (.inl h)

/-- A field of the header below the class keeps the class. -/
theorem State.cClass_setCtxF {hi lo v : Nat} (h : hi < 9) : (s.setCtxF i 0 hi lo v).cClass i = s.cClass i := by
  simp only [State.cClass, State.setCtxF, State.ctxF, State.ctx_setCtx_same]
  exact fld_setFld_apart _ _ _ _ _ _ (.inr h)

/-- A bit of a word of the context after a field of the word was replaced. -/
theorem State.bitAt_setCtxF (off hi lo v : Nat) {n : Nat} (hn : n < 32) :
    bitAt ((s.setCtxF i off hi lo v).ctx i off) n =
      if lo ≤ n ∧ n ≤ hi then v.testBit (n - lo) else bitAt (s.ctx i off) n := by
  rw [State.setCtxF, State.ctx_setCtx_same, bitAt, getLsbD_setFld]
  simp [hn, bitAt]

@[simp] theorem State.pendRet_setCtxF (hi lo v : Nat) :
    (s.setCtxF i 0 hi lo v).pendRet i = if lo ≤ 7 ∧ 7 ≤ hi then v.testBit (7 - lo) else s.pendRet i :=
  s.bitAt_setCtxF i 0 hi lo v (by decide)

@[simp] theorem State.bypBusy_setCtxF (hi lo v : Nat) :
    (s.setCtxF i 0 hi lo v).bypBusy i = if lo ≤ 8 ∧ 8 ≤ hi then v.testBit (8 - lo) else s.bypBusy i :=
  s.bitAt_setCtxF i 0 hi lo v (by decide)

@[simp] theorem State.pendRet_setCst (v : Nat) : (s.setCst i v).pendRet i = s.pendRet i := s.pendRet_setCtxF i 2 0 v
@[simp] theorem State.bypBusy_setCst (v : Nat) : (s.setCst i v).bypBusy i = s.bypBusy i := s.bypBusy_setCtxF i 2 0 v

@[simp] theorem State.cell_modCell (f : CellAux → CellAux) : (s.modCell i f).cell i = f (s.cell i) :=
  tblGet_tblSet_same _ _ _ _

/-- The BYPASS entry depends on the pattern tables and on the Tally of the context only (04 R127). -/
theorem State.bypassEntry_congr {t u : State} (hcs : t.cs.pat = u.cs.pat)
    (h : ∀ off, 4 ≤ off → t.ctx i off = u.ctx i off) (cls cur : Nat) :
    t.bypassEntry i cls cur = u.bypassEntry i cls cur := by
  have hpat : ∀ c n, t.pat c n = u.pat c n := fun c n => by simp only [State.pat, hcs]
  have htally : ∀ g, t.gateTally i g = u.gateTally i g := fun g => by
    simp only [State.gateTally, State.ctxN, State.ctxF, h _ (show 4 ≤ 0x100 + 8 * g by omega),
      h _ (show 4 ≤ 0x104 + 8 * g by omega)]
  simp only [State.bypassEntry, hpat, htally]

end

/-! ## Commands to a cell: a word that waits on a port changes the port only (03 R86) -/

section
variable (s : State) (i : Nat)

theorem State.pushCmd_frame (l : List LinkWord) : s.pushCmd i l = { s with lnk := (s.pushCmd i l).lnk } := by
  unfold State.pushCmd
  split <;> rfl

theorem State.sendBypass_frame : s.sendBypass i = { s with lnk := (s.sendBypass i).lnk } := State.pushCmd_frame s i _

theorem State.sendReturn_frame : s.sendReturn i = { s with lnk := (s.sendReturn i).lnk } := State.pushCmd_frame s i _

@[simp] theorem State.mem_sendBypass : (s.sendBypass i).mem = s.mem := by rw [State.sendBypass_frame]
@[simp] theorem State.cs_sendBypass : (s.sendBypass i).cs = s.cs := by rw [State.sendBypass_frame]
@[simp] theorem State.tm_sendBypass : (s.sendBypass i).tm = s.tm := by rw [State.sendBypass_frame]
@[simp] theorem State.mem_sendReturn : (s.sendReturn i).mem = s.mem := by rw [State.sendReturn_frame]

@[simp] theorem State.ctx_sendBypass (j off : Nat) : (s.sendBypass i).ctx j off = s.ctx j off :=
  State.ctx_congr (s.mem_sendBypass i) j off

@[simp] theorem State.ctx_sendReturn (j off : Nat) : (s.sendReturn i).ctx j off = s.ctx j off :=
  State.ctx_congr (s.mem_sendReturn i) j off

end

/-! ## The transitions (01 R44, R45, R496; 04 R150 to R152) -/

section
variable {s : State} {i : Nat}

/-- The context that enters FAULTED, before the fault is raised. -/
def State.faultedCtx (s : State) (i : Nat) : State :=
  (((s.modCell i fun x => { x with parityBad := false }).setCst i cFaulted).setCtxF i 0 8 7 0).modCell i fun x =>
    { x with bypStart := none, clear := none, offerK := none, inStateK := x.inStateK }

theorem State.cst_faultedCtx : (s.faultedCtx i).cst i = cFaulted := by
  rw [State.faultedCtx, State.cst_modCell, State.cst_setCtxF _ _ (by decide), State.cst_setCst _ _ (by decide)]

theorem State.pendRet_faultedCtx : (s.faultedCtx i).pendRet i = false := by simp [State.faultedCtx]

theorem State.bypBusy_faultedCtx : (s.faultedCtx i).bypBusy i = false := by simp [State.faultedCtx]

theorem State.keepsOtherCtx_faultedCtx : KeepsOtherCtx i s (s.faultedCtx i) :=
  .modCell (.setCtxF (.setCst (.ofMem rfl)) (by decide))

/-- A bypass that is not confirmed in time faults the context with source 17 (R44). -/
theorem State.contextFaulted_late {b : Nat} (hst : s.cst i = cActive ∨ s.cst i = cBypassed)
    (hb : (s.cell i).bypStart = some b) (hbusy : s.bypBusy i = true) (hk : b + 2 ≤ s.tm.k)
    (hconf : s.bypConfirmed i = false) : s.contextFaulted i = (s.faultedCtx i).raise 17 := by
  simp only [State.contextFaulted, hb, hbusy, hk, hconf, hst, State.faultedCtx, decide_true, Bool.not_false,
    Bool.true_or, Bool.and_self, if_true]

/-- Only an ACTIVE or BYPASSED context enters FAULTED. -/
theorem State.cst_contextFaulted_of_other (ha : s.cst i ≠ cActive) (hb : s.cst i ≠ cBypassed) :
    (s.contextFaulted i).cst i = s.cst i := by
  simp [State.contextFaulted, ha, hb]

theorem State.contextBypassed_of_not_seen (h : s.bypSeen i = false) : s.contextBypassed i = s := by
  simp [State.contextBypassed, h]

theorem State.contextBypassed_of_active (hseen : s.bypSeen i = true) (hst : s.cst i = cActive)
    (hbusy : s.bypBusy i = true) : s.contextBypassed i =
      ((s.setCst i cBypassed).setCtxF i 0 8 8 0).modCell i fun x => { x with bypStart := none } := by
  simp [State.contextBypassed, hseen, hst, hbusy]

theorem State.contextBypassed_of_faulted (hseen : s.bypSeen i = true) (hst : s.cst i = cFaulted)
    (hclr : (s.cell i).clear ≠ none) (hfresh : s.fresh i 3 = true) (hzero : s.faultWord i = 0) : s.contextBypassed i =
      (s.setCst i cBypassed).modCell i fun x => { x with clear := none, bypStart := none } := by
  simp [State.contextBypassed, hseen, hst, Option.isSome_iff_ne_none.2 hclr, hfresh, hzero]

/-- The conditions under which a bypassed context returns (04 R151). -/
def State.mayReturn (s : State) (i : Nat) : Prop :=
  s.cst i = cBypassed ∧ s.pendRet i = true ∧ s.bypBusy i = false ∧ s.fresh i 3 = true ∧ s.faultWord i = 0

theorem State.contextReturn_of_mayReturn (h : s.mayReturn i) :
    s.contextReturn i = ((s.setCst i cActive).setCtxF i 0 7 7 0).sendReturn i := by
  obtain ⟨hst, hpend, hbusy, hfresh, hzero⟩ := h
  simp [State.contextReturn, hst, hpend, hbusy, hfresh, hzero]

theorem State.contextReturn_of_not_mayReturn (h : ¬ s.mayReturn i) : s.contextReturn i = s := by
  unfold State.contextReturn
  refine if_neg fun hc => h ?_
  simpa [State.mayReturn, and_assoc] using hc

theorem State.startBypass_of_busy (h : s.bypBusy i = true) : s.startBypass i = s := if_pos h

/-- The state in which a starting bypass chooses its entry: BYPASS waits on the port, and the header shows BYP_BUSY
without PEND_RET (04 R150). -/
def State.bypassSent (s : State) (i : Nat) : State := (s.sendBypass i).setCtxF i 0 8 7 2

theorem State.startBypass_of_idle (h : s.bypBusy i = false) : s.startBypass i = (s.bypassSent i).bypassState i :=
  if_neg (by simp [h])

theorem State.ctx_bypassSent {off : Nat} (h : 4 ≤ off) : (s.bypassSent i).ctx i off = s.ctx i off :=
  (State.ctx_setCtx_apart _ i _ (.inr h)).trans (s.ctx_sendBypass i i off)

theorem State.cClass_bypassSent : (s.bypassSent i).cClass i = s.cClass i :=
  (State.cClass_setCtxF _ i (by decide)).trans (State.cClass_congr i (s.ctx_sendBypass i i 0))

/-- The entry sent is the one chosen before BYPASS went out. -/
theorem State.bypassEntry_bypassSent :
    (s.bypassSent i).bypassEntry i ((s.bypassSent i).cClass i) ((s.bypassSent i).ctxF i 0xC0 31 27) =
      s.bypassEntry i (s.cClass i) (s.ctxF i 0xC0 31 27) := by
  rw [State.cClass_bypassSent, State.ctxF, State.ctx_bypassSent (by decide)]
  exact State.bypassEntry_congr i (by simp [State.bypassSent]) (fun _ h => State.ctx_bypassSent h) _ _

/-- What a BYPASS writes: its entry and instant in two words of the context, and what the chip keeps beside them. -/
theorem State.bypassState_eq {n : Nat} (hn : s.bypassEntry i (s.cClass i) (s.ctxF i 0xC0 31 27) = n) :
    s.bypassState i =
      ((s.setCtxF i 0xC0 31 25 (n * 4)).setCtx i 0xC4 (wN (s.boundary (s.tm.k + 1)))).modCell i fun c =>
        { c with bypStart := some s.tm.k, edges := [{ ctx := i, due := s.boundary (s.tm.k + 1), idx := n }],
                 hasEdge := true } := by
  subst hn
  rfl

theorem State.ctx_bypassState_header : (s.bypassState i).ctx i 0 = s.ctx i 0 := by
  rw [State.bypassState_eq rfl, State.ctx_modCell, State.ctx_setCtx_apart _ i _ (.inl (by decide)), State.setCtxF,
    State.ctx_setCtx_apart _ i _ (.inl (by decide))]

theorem State.idx_bypassState :
    (s.bypassState i).ctxF i 0xC0 31 27 = s.bypassEntry i (s.cClass i) (s.ctxF i 0xC0 31 27) % 32 := by
  generalize hn : s.bypassEntry i (s.cClass i) (s.ctxF i 0xC0 31 27) = n
  rw [State.bypassState_eq hn, State.ctxF, State.ctx_modCell, State.ctx_setCtx_apart _ i _ (.inl (by decide)),
    State.setCtxF, State.ctx_setCtx_same, fld_setFld_within _ _ (by decide) (by decide) (by decide)]
  exact congrArg (fun n : Nat => n % 32) (Nat.mul_div_cancel n (by decide : 0 < 4))

theorem State.bypStart_bypassState : ((s.bypassState i).cell i).bypStart = some s.tm.k := by
  rw [State.bypassState_eq rfl, State.cell_modCell]

theorem KeepsOtherCtx.startBypass (h : s.bypBusy i = false) : KeepsOtherCtx i s (s.startBypass i) := by
  rw [State.startBypass_of_idle h]
  exact .modCell (.setCtx (.setCtxF (.setCtxF (.ofMem (s.mem_sendBypass i)) (by decide)) (by decide)) (by decide))

/-- A bypass that starts shows in the header: BYP_BUSY is set, PEND_RET clear, and the state stays. -/
theorem State.header_startBypass (h : s.bypBusy i = false) :
    (s.startBypass i).bypBusy i = true ∧ (s.startBypass i).pendRet i = false ∧ (s.startBypass i).cst i = s.cst i := by
  have hdr : (s.startBypass i).ctx i 0 = (s.bypassSent i).ctx i 0 := by
    rw [State.startBypass_of_idle h, State.ctx_bypassState_header]
  rw [State.bypBusy_congr i hdr, State.pendRet_congr i hdr, State.cst_congr i hdr]
  refine ⟨State.bypBusy_setCtxF _ i 8 7 2, State.pendRet_setCtxF _ i 8 7 2, ?_⟩
  exact (State.cst_setCtxF _ i (by decide)).trans (State.cst_congr i (s.ctx_sendBypass i i 0))

/-- The start of a bypass is kept with its period, and its entry is the pattern in force (04 R150). -/
theorem State.sequence_startBypass (h : s.bypBusy i = false) :
    ((s.startBypass i).cell i).bypStart = some s.tm.k ∧
      (s.startBypass i).ctxF i 0xC0 31 27 = s.bypassEntry i (s.cClass i) (s.ctxF i 0xC0 31 27) % 32 := by
  rw [State.startBypass_of_idle h, State.idx_bypassState, State.bypassEntry_bypassSent, State.bypStart_bypassState]
  exact ⟨by simp [State.bypassSent], rfl⟩

/-- A confirmed bypass: the context is BYPASSED, and a pending return stays. -/
theorem State.bypassed_of_active (hseen : s.bypSeen i = true) (hst : s.cst i = cActive) (hbusy : s.bypBusy i = true) :
    (s.contextBypassed i).cst i = cBypassed ∧ (s.contextBypassed i).bypBusy i = false ∧
      (s.contextBypassed i).pendRet i = s.pendRet i ∧ KeepsOtherCtx i s (s.contextBypassed i) := by
  rw [State.contextBypassed_of_active hseen hst hbusy]
  refine ⟨?_, by simp, by simp, .modCell (.setCtxF (.setCst (.ofMem rfl)) (by decide))⟩
  rw [State.cst_modCell, State.cst_setCtxF _ _ (by decide), State.cst_setCst _ _ (by decide)]

/-- A FAULTED context whose clear is confirmed: it is BYPASSED, and the clear is done (04 R152). -/
theorem State.bypassed_of_faulted (hseen : s.bypSeen i = true) (hst : s.cst i = cFaulted)
    (hclr : (s.cell i).clear ≠ none) (hfresh : s.fresh i 3 = true) (hzero : s.faultWord i = 0) :
    (s.contextBypassed i).cst i = cBypassed ∧ ((s.contextBypassed i).cell i).clear = none ∧
      KeepsOtherCtx i s (s.contextBypassed i) := by
  rw [State.contextBypassed_of_faulted hseen hst hclr hfresh hzero]
  refine ⟨?_, by simp, .modCell (.setCst (.ofMem rfl))⟩
  rw [State.cst_modCell, State.cst_setCst _ _ (by decide)]

theorem State.active_of_mayReturn (h : s.mayReturn i) :
    (s.contextReturn i).cst i = cActive ∧ (s.contextReturn i).pendRet i = false ∧
      KeepsOtherCtx i s (s.contextReturn i) := by
  have hdr : ∀ t : State, (t.sendReturn i).ctx i 0 = t.ctx i 0 := fun t => t.ctx_sendReturn i i 0
  rw [State.contextReturn_of_mayReturn h]
  refine ⟨?_, ?_, ?_⟩
  · rw [State.cst_congr i (hdr _), State.cst_setCtxF _ _ (by decide), State.cst_setCst _ _ (by decide)]
  · rw [State.pendRet_congr i (hdr _)]
    simp
  · intro j hj hji off ho
    rw [State.ctx_sendReturn]
    exact (KeepsOtherCtx.ofMem rfl).setCst.setCtxF (by decide) j hj hji off ho

end

/-- Settles O25: each transition of the boundary by its own lemma; all of them write the words of one context. -/
theorem contextTransitions : Obligations.ContextTransitions := by
  intro s i _ _
  refine ⟨fun b hst hb hbusy hk hconf => ⟨s.faultedCtx i, State.contextFaulted_late hst hb hbusy hk hconf,
      State.cst_faultedCtx, State.pendRet_faultedCtx, State.bypBusy_faultedCtx, State.keepsOtherCtx_faultedCtx⟩,
    State.cst_contextFaulted_of_other, State.bypassed_of_active, State.contextBypassed_of_not_seen,
    State.bypassed_of_faulted, fun hidle => ?_, State.startBypass_of_busy,
    fun hst hpend hbusy hfresh hzero => State.active_of_mayReturn ⟨hst, hpend, hbusy, hfresh, hzero⟩,
    State.contextReturn_of_not_mayReturn⟩
  obtain ⟨hbusy, hpend, hst⟩ := State.header_startBypass hidle
  obtain ⟨hstart, hidx⟩ := State.sequence_startBypass hidle
  exact ⟨hbusy, hpend, hst, hstart, hidx, KeepsOtherCtx.startBypass hidle⟩

/-! ## The parts of a period boundary (02 R56, R59; 01 R46; 04 R149, R153) -/

section
variable (s : State)

/-- Stack time reaches the instant, unless it is past it (log 4). -/
theorem State.now_advanceTo {t : Nat} (h : t < 2 ^ 64) : (s.advanceTo t).now = max s.now t := by
  unfold State.advanceTo
  split
  next hlt =>
    rw [max_eq_right hlt.le]
    exact Nat.mod_eq_of_lt h
  next hge => exact (max_eq_left (not_lt.1 hge)).symm

@[simp] theorem State.regs_advanceTo (t : Nat) : (s.advanceTo t).regs = s.regs := by
  unfold State.advanceTo
  split <;> rfl

@[simp] theorem State.mem_advanceTo (t : Nat) : (s.advanceTo t).mem = s.mem := by
  unfold State.advanceTo
  split <;> rfl

/-- Period k is the one that runs, from the boundary at `b` on. -/
def State.beginIndex (t : State) (k b : Nat) : State :=
  { (t.setReg R.STM_KLO (wN k)) with tm := { t.tm with k := k, lastT := some b } }

@[simp] theorem State.k_beginIndex (k b : Nat) : (s.beginIndex k b).tm.k = k := rfl
@[simp] theorem State.now_beginIndex (k b : Nat) : (s.beginIndex k b).now = s.now := rfl
@[simp] theorem State.mem_beginIndex (k b : Nat) : (s.beginIndex k b).mem = s.mem := rfl

theorem State.reg_beginIndex (k b a : Nat) : (s.beginIndex k b).reg a = if a = R.STM_KLO then wN k else s.reg a :=
  State.reg_setReg s R.STM_KLO a (wN k)

theorem State.enterPeriod_eq (k : Nat) :
    s.enterPeriod k = (s.advanceTo (s.boundary k)).beginIndex k (s.boundary k) := rfl

theorem State.reg_enterPeriod (k a : Nat) : (s.enterPeriod k).reg a = if a = R.STM_KLO then wN k else s.reg a := by
  rw [State.enterPeriod_eq, State.reg_beginIndex, State.reg_congr (s.regs_advanceTo _)]

theorem State.sameMem_enterPeriod (k : Nat) : SameMem s (s.enterPeriod k) := by
  rw [State.enterPeriod_eq]
  exact State.ldb_congr (by rw [State.mem_beginIndex, State.mem_advanceTo])

theorem exec_periodBoundary : exec .periodBoundary s = .next s.periodBoundary.mgmtSettle := rfl

/-- The parts of a boundary that runs, in their order (log 29). -/
theorem State.periodBoundary_of_started (hlive : s.live = true) (hon : s.on 1 = true) (hstart : s.tm.started = true)
    (hP : s.f F.STM_PERIOD.P ≠ 0) : ∃ t : State, t = (s.enterPeriod s.nextBoundary).modeApply ∧
      let u := t.beginPeriod.linkPart.hoBoundary.contextSteps (ctxIdx.filter fun i => (t.port i).capFull)
        (ctxIdx.filter fun i => (t.port i).edgeSent) (ctxIdx.filter fun i => (t.port i).lostDone)
      let v := u.hoFinish.heldBackTakes.tokackCheck.ringBoundary.ceBoundary.timeBoundary.timeAction
      s.periodBoundary = v.wdtBoundary.policeBoundary.sfuBoundary.restartProcs :=
  ⟨_, rfl, if_pos (by simp [hlive, hon, hstart, hP])⟩

theorem State.periodBoundary_of_not_started (h : s.tm.started = false) : s.periodBoundary = s := by
  simp [State.periodBoundary, h]

/-- The waiting command is done: none waits, and a command that waited is no longer BUSY (04 R149). -/
def State.commandDone (s : State) : State :=
  let t := if s.cs.cmd.isSome then s.setB F.CS_CMDSTAT.BUSY false else s
  { t with cs := { t.cs with cmd := none } }

theorem State.busy_commandDone (h : s.cs.cmd ≠ none) : s.commandDone.fb F.CS_CMDSTAT.BUSY = false := by
  unfold State.commandDone
  rw [if_pos (Option.isSome_iff_ne_none.2 h)]
  exact State.fb_setB_same s F.CS_CMDSTAT.BUSY false rfl (by decide)

theorem State.sameRegsBut_commandDone : SameRegsBut [R.CS_CMDSTAT] s s.commandDone := by
  intro a ha
  unfold State.commandDone
  split
  · exact State.reg_setB_ne s F.CS_CMDSTAT.BUSY false (show a ≠ R.CS_CMDSTAT from List.ne_of_not_mem_cons ha)
  · rfl

theorem State.sameMem_commandDone : SameMem s s.commandDone := by
  intro a
  unfold State.commandDone
  split <;> rfl

/-- A FAULTED context drives its cell, so the FAULTED members are the FAULTED ones among those driven. -/
theorem State.faulted_members (a : Nat) :
    ((s.members a).filter s.drives).filter (fun i => s.cst i = cFaulted) =
      (s.members a).filter fun i => s.cst i = cFaulted := by
  rw [List.filter_filter]
  refine List.filter_congr fun i _ => ?_
  by_cases h : s.cst i = cFaulted
  · simp [State.drives, drivingState, h]
  · simp [h]

/-- The counts of arm block a in CS_ASTAT, with DEFICIT (01 R30). -/
def State.armCounts (s : State) (a act flt : Nat) (deficit : Bool) : State :=
  ((s.setF (F.CS_ASTAT.NACT a) (min 63 act)).setF (F.CS_ASTAT.NFLT a) (min 63 flt)).setB (F.CS_ASTAT.DEFICIT a) deficit

theorem State.nflt_armCounts (a act flt : Nat) (deficit : Bool) :
    (s.armCounts a act flt deficit).f (F.CS_ASTAT.NFLT a) = min 63 flt := by
  unfold State.armCounts
  rw [State.f_setB_apart _ _ _ _ (.inr (.inr (by decide : 19 < 20))), State.f_setF_same _ _ _ (by decide : 25 < 32)]
  exact Nat.mod_eq_of_lt (show min 63 flt < 2 ^ 6 by omega)

/-- More FAULTED members than FLTMAX, where the last boundary counted no more: the arm asks for a stop (04 R153). -/
theorem State.armBoundary_stops {a : Nat} (h0 : s.f (F.CS_ACFG.FLTMAX a) ≠ 0)
    (hlt : s.f (F.CS_ACFG.FLTMAX a) < ((s.members a).filter fun i => s.cst i = cFaulted).length)
    (hle : s.f (F.CS_ASTAT.NFLT a) ≤ s.f (F.CS_ACFG.FLTMAX a)) : ∃ act deficit, s.armBoundary a =
      (((s.armCounts a act ((s.members a).filter fun i => s.cst i = cFaulted).length deficit).setB
        F.CS_STATUS.STOPREQ true).note 8 1 a).stopRequest := by
  simp only [State.armBoundary, State.faulted_members]
  exact ⟨_, _, if_pos ⟨h0, hlt, hle⟩⟩

/-- CS_STATUS lies below the registers of the arms. -/
theorem csStatus_ne_csAstat (a : Nat) : R.CS_ASTAT a ≠ R.CS_STATUS := by
  unfold R.CS_ASTAT R.CS_STATUS
  omega

end

/-- Settles O26: the boundary's parts are those of its definition, and each part named has its own lemma above. -/
theorem periodBoundary : Obligations.PeriodBoundary := by
  refine ⟨fun s hlive hon hstart hP => ?_, fun s h => ?_, fun s k hk => ?_, fun s caps sent lost hon => ?_,
    fun s a _ h0 hlt hle => ?_⟩
  · obtain ⟨t, ht, h⟩ := s.periodBoundary_of_started hlive hon hstart hP
    refine ⟨t, ht, ?_⟩
    rw [exec_periodBoundary, h]
  · rw [exec_periodBoundary, s.periodBoundary_of_not_started h]
  · refine ⟨?_, ?_, ?_, fun a ha => ?_, s.sameMem_enterPeriod k⟩
    · rw [State.enterPeriod_eq, State.k_beginIndex]
    · rw [State.enterPeriod_eq, State.now_beginIndex, State.now_advanceTo s hk]
    · rw [State.reg_enterPeriod, if_pos rfl, wN]
    · rw [State.reg_enterPeriod, if_neg (List.ne_of_not_mem_cons ha)]
  · intro s3 s4 s5 s6
    exact ⟨s6.commandDone, if_neg (by simp [hon]), rfl, s6.busy_commandDone, s6.sameRegsBut_commandDone,
      s6.sameMem_commandDone⟩
  · obtain ⟨act, deficit, h⟩ := s.armBoundary_stops h0 hlt hle
    refine ⟨_, h, State.fb_setB_same _ F.CS_STATUS.STOPREQ true rfl (by decide), ?_, fun _ => rfl⟩
    rw [State.f_setB_apart _ _ _ _ (.inl (csStatus_ne_csAstat a)), State.nflt_armCounts]

/-! ## The pattern tables of a class (01 R23, R25, R26) -/

section
variable (s : State) (req : Requester) (cls : Fin 16)

theorem State.pat_reset (c i : Nat) : State.reset.pat c i = defaultPat c (i % 32) := by
  have hq : (c * 32 + i % 32) / 32 = c := by omega
  have hr : (c * 32 + i % 32) % 32 = i % 32 := by omega
  exact congrArg₂ defaultPat hq hr

theorem exec_registerWrite_pattern (i : Fin 32) (v : Word) : exec (.registerWrite req (.pattern cls i) v) s =
    .next (if s.live then s.targetWrite req (.pattern cls i) v else s) := by cases req <;> rfl

theorem exec_registerWrite_pair (j : Fin 8) (v : Word) : exec (.registerWrite req (.pair cls j) v) s =
    .next (if s.live then s.targetWrite req (.pair cls j) v else s) := by cases req <;> rfl

theorem State.classUsed_iff (c : Nat) : s.classUsed c = true ↔
    s.admitted = true ∧ ∃ p ∈ ctxIdx, fld (s.naming p) 3 0 = c ∧ s.naming p ≠ 0 := by
  simp [State.classUsed]

/-- A class is free while nothing is admitted, or no cell is named with it. -/
theorem State.classUsed_eq_false {c : Nat}
    (h : s.admitted = false ∨ ∀ p ∈ ctxIdx, ¬ (fld (s.naming p) 3 0 = c ∧ s.naming p ≠ 0)) : s.classUsed c = false := by
  rw [Bool.eq_false_iff, ne_eq, State.classUsed_iff]
  rintro ⟨hadm, p, hp, hused⟩
  rcases h with h | h
  · simp [h] at hadm
  · exact h p hp hused

theorem State.targetWrite_pattern_of_used (i : Fin 32) (v : Word) (h : s.classUsed cls = true) :
    s.targetWrite req (.pattern cls i) v = s := if_pos (by simp [h])

theorem State.targetWrite_pair_of_used (j : Fin 8) (v : Word) (h : s.classUsed cls = true) :
    s.targetWrite req (.pair cls j) v = s := if_pos (by simp [h])

theorem State.targetWrite_pattern_of_free (i : Fin 32) (v : Word) (hon : s.on 6 = true)
    (h : s.classUsed cls = false) (hi : i.val ≠ 0) : s.targetWrite req (.pattern cls i) v =
      { s with cs := { s.cs with pat := tblSet patDefault s.cs.pat (cls.val * 32 + i.val) (v &&& 0xFE00FFFF#32) } } :=
  if_neg (by simp [h, hon, hi])

theorem State.targetWrite_pair_of_free (j : Fin 8) (v : Word) (hon : s.on 6 = true) (h : s.classUsed cls = false) :
    s.targetWrite req (.pair cls j) v =
      { s with cs := { s.cs with pairs := tblSet (fun _ => (0 : Word)) s.cs.pairs (cls.val * 8 + j.val) v } } :=
  if_neg (by simp [h, hon])

end

/-- Two entries of the pattern tables share a place only when they are the same entry. -/
theorem patKey_inj {c cls : Fin 16} {k i : Fin 32} (h : c.val * 32 + k.val % 32 = cls.val * 32 + i.val) :
    (c, k) = (cls, i) := by
  have hk := k.isLt
  have hi := i.isLt
  rw [Prod.mk.injEq, Fin.ext_iff, Fin.ext_iff]
  omega

/-- Settles O53: the write looks at `classUsed`, and a write that is taken sets one key of one table. -/
theorem patternTablesLockWithTheirClass : Obligations.PatternTablesLockWithTheirClass := by
  refine ⟨fun s req cls i j v hadm hused => ?_, fun s req cls i j v hlive hon hfree => ?_⟩
  · have h : s.classUsed cls = true := (s.classUsed_iff cls).2 ⟨hadm, hused⟩
    rw [exec_registerWrite_pattern, exec_registerWrite_pair, State.targetWrite_pattern_of_used s req cls i v h,
      State.targetWrite_pair_of_used s req cls j v h]
    simp
  · have h := s.classUsed_eq_false hfree
    refine ⟨fun hi => ⟨_, exec_registerWrite_pattern s req cls i v, ?_⟩, ⟨_, exec_registerWrite_pair s req cls j v, ?_⟩⟩
    · rw [if_pos hlive, State.targetWrite_pattern_of_free s req cls i v hon h hi]
      refine ⟨?_, fun c k hck => tblGet_tblSet_ne _ _ _ fun hkey => hck (patKey_inj hkey), rfl⟩
      rw [State.pat, Nat.mod_eq_of_lt i.isLt]
      exact tblGet_tblSet_same _ _ _ _
    · rw [if_pos hlive, State.targetWrite_pair_of_free s req cls j v hon h]
      exact ⟨tblGet_tblSet_same _ _ _ _, fun k hk => tblGet_tblSet_ne _ _ _ hk, rfl⟩

/-- Settles O60: at reset no entry is written, and the default entries are compared one by one. -/
theorem patternTablesAtReset : Obligations.PatternTablesAtReset := by
  unfold Obligations.PatternTablesAtReset
  simp only [State.pat_reset]
  decide

end Sys2Proof.Machine

/-! Stack time (02 R51 to R53, R56, R58, R66 to R72): the DLL and the sources of the time base, the measurement clocks,
and the cycle in which nothing is commanded. First the frame of a write of registers and when a level source rises, then
one section per unit, each with the lemmas of its commands and the statement that they settle. -/

namespace Sys2Proof.Machine

/-! ## Commands that complete, and what writes of registers leave -/

section
variable {s t : State} {l : List Nat}

/-- A command completes with the state that its operation gives. -/
theorem Completes.intro {c : Instr} {u : State} {P : State → Prop} (hc : exec c s = .next u) (hu : u = t) (hP : P t) :
    Completes c s P := ⟨t, hc.trans (congrArg _ hu), hP⟩

theorem OnlyRegs.refl : OnlyRegs l s s := ⟨rfl, fun _ _ => rfl⟩

theorem OnlyRegs.setReg {a : Nat} {v : Word} (h : OnlyRegs l s t) (ha : a ∈ l) : OnlyRegs l s (t.setReg a v) := by
  obtain ⟨heq, hregs⟩ := h
  refine ⟨congrArg (fun u : State => { u with regs := (t.setReg a v).regs }) heq, fun b hb => ?_⟩
  rw [State.reg_setReg_ne _ _ (ne_of_mem_of_not_mem ha hb).symm, hregs b hb]

theorem OnlyRegs.setF {x : Field} {v : Nat} (h : OnlyRegs l s t) (hx : x.addr ∈ l) : OnlyRegs l s (t.setF x v) :=
  h.setReg hx

theorem OnlyRegs.setB {x : Field} {b : Bool} (h : OnlyRegs l s t) (hx : x.addr ∈ l) : OnlyRegs l s (t.setB x b) :=
  h.setF hx

theorem SameRegsBut.f {x : Field} (h : SameRegsBut l s t) (hx : x.addr ∉ l) : t.f x = s.f x := by
  unfold State.f
  rw [h _ hx]

theorem SameRegsBut.fb {x : Field} (h : SameRegsBut l s t) (hx : x.addr ∉ l) : t.fb x = s.fb x := by
  unfold State.fb
  rw [h _ hx]

/-- Whether the chip follows a master stands in STM_STATUS and RNG_STATUS. -/
theorem SameRegsBut.follows (h : SameRegsBut l s t) (hstm : R.STM_STATUS ∉ l) (hrng : R.RNG_STATUS ∉ l) :
    t.follows = s.follows := by
  have hj : t.joined = s.joined := h.fb (x := F.STM_STATUS.JOINED) hstm
  have hm : t.f F.RNG_STATUS.ROLE = s.f F.RNG_STATUS.ROLE := h.f hrng
  rw [State.follows, State.follows, State.isMaster, State.isMaster, hj, hm]

/-- A counter that wraps counts modulo its width. -/
theorem State.f_incF_same (s : State) (x : Field) (d : Nat) (h : x.hi < 32) :
    (s.incF x d).f x = wrapAdd (x.hi + 1 - x.lo) (s.f x) d :=
  (State.f_setF_same s x _ h).trans (Nat.mod_mod _ _)

end

/-! ## Level sources (12 R353, R358) -/

section
variable (s t : State) (src : Nat)

/-- After an operation from `s` to `t`, a source that has risen is raised. -/
theorem State.rose_one : s.rose t [src] = if !s.level src && t.level src then t.raise src else t := rfl

theorem State.raise_of_off (hoff : s.on 2 = false) : s.raise src = s := if_neg (by simp [hoff])

theorem State.rose_of_off (hoff : t.on 2 = false) : s.rose t [src] = t := by
  rw [State.rose_one, State.raise_of_off t src hoff, ite_self]

theorem State.rose_of_not_risen (h : t.level src = true → s.level src = true) : s.rose t [src] = t := by
  rw [State.rose_one]
  refine if_neg fun hrise => ?_
  simp only [Bool.and_eq_true, Bool.not_eq_true'] at hrise
  obtain ⟨hlow, hhigh⟩ := hrise
  simp [h hhigh] at hlow

theorem State.level_timeBase : s.level 20 =
    (s.fb F.STM_STATUS.COAST || s.fb F.STM_STATUS.SETTLE || s.fb F.STM_STATUS.FARSLEW) := rfl

end

/-! ## The DLL and the sources of the time base (02 R51 to R53) -/

section
variable (s : State)

/-- No source but COAST raises source 20: the other conditions of its level stay. -/
theorem State.setSrc_of_not_coast {v : Nat} (hv : v ≠ 3) :
    s.setSrc v = (s.setF F.CLK_STATUS.SRC v).setB F.STM_STATUS.COAST false := by
  have hsrc : OnlyRegs [R.CLK_STATUS] s (s.setF F.CLK_STATUS.SRC v) := OnlyRegs.refl.setF List.mem_cons_self
  unfold State.setSrc
  rw [decide_eq_false hv]
  refine State.rose_of_not_risen _ _ _ fun hlevel => ?_
  rw [State.level_timeBase, State.fb_setB_same _ _ _ rfl (by decide), State.fb_setB_apart _ _ _ _ (by decide),
    State.fb_setB_apart _ _ _ _ (by decide), hsrc.2.fb (by decide), hsrc.2.fb (by decide)] at hlevel
  simpa [State.level_timeBase, or_assoc] using Or.inr hlevel

theorem State.dllEnable_of_on (hon : s.on 1 = true) : s.dllEnable = s.setB F.CLK_CTRL.DLL_EN true := if_pos hon

theorem State.dllLock_of_not_locked (hon : s.on 1 = true) (hen : s.fb F.CLK_CTRL.DLL_EN = true)
    (hvalid : s.timeValid = false) (hlost : s.tm.lockLost = false) :
    s.dllLock = if s.tm.started then s.lockNow else
      { s.lockNow with tm := { s.lockNow.tm with started := true, count := 0, k := 0, lastT := none } } :=
  if_pos (by simp [hon, hen, hvalid, hlost])

/-- The state in which the lock was lost, before source 1 looks at its level (R52). -/
def State.unlocked (s : State) : State :=
  { (((s.setB F.CLK_STATUS.LOCKED false).setF F.CLK_STATUS.SRC 0).setB F.STM_STATUS.COAST false) with
    tm := { s.tm with lockLost := true } }

theorem State.dllLockLoss_of_valid (hon : s.on 1 = true) (hvalid : s.timeValid = true) :
    s.dllLockLoss = s.rose s.unlocked [1] := by
  unfold State.dllLockLoss
  rw [State.setSrc_of_not_coast _ (by decide), if_pos (by simp [hon, hvalid])]
  rfl

theorem State.timeValid_unlocked : s.unlocked.timeValid = false := by
  have h := State.fb_setB_same s F.CLK_STATUS.LOCKED false rfl (by decide)
  exact (State.fb_setB_apart _ _ _ _ (by decide)).trans ((State.fb_setF_apart _ _ _ _ (by decide)).trans h)

theorem State.src_unlocked : s.unlocked.f F.CLK_STATUS.SRC = 0 :=
  (State.f_setB_apart _ _ _ _ (by decide)).trans (State.f_setF_same _ _ _ (by decide))

theorem State.on_unlocked : s.unlocked.on 2 = s.on 2 :=
  (State.on_setF _ _ _ _ (by decide)).trans <| (State.on_setF _ _ _ _ (by decide)).trans <|
    State.on_setF _ _ _ _ (by decide)

theorem State.dllRelock_of_lost (hon : s.on 1 = true) (hlost : s.tm.lockLost = true) :
    s.dllRelock = State.lockNow { s with tm := { s.tm with lockLost := false } } :=
  if_pos (by simp [hon, hlost])

end

/-! ## The forwarded clock (02 R53, R66, R68) -/

section
variable (s : State)

/-- The forwarded clock is lost or has jumped, before the source of the time base is looked at (R66). -/
def State.forwardedLost (s : State) (jump : Bool) : State :=
  (s.setB F.CLK_STATUS.FWD_PRESENT jump).setB F.CLK_STATUS.FWD_QUAL false

theorem State.onlyRegs_forwardedLost (jump : Bool) : OnlyRegs [R.CLK_STATUS] s (s.forwardedLost jump) :=
  (OnlyRegs.refl.setB List.mem_cons_self).setB List.mem_cons_self

theorem State.fwdQual_forwardedLost (jump : Bool) : (s.forwardedLost jump).fb F.CLK_STATUS.FWD_QUAL = false :=
  State.fb_setB_same _ _ _ rfl (by decide)

theorem State.fwdPresent_forwardedLost (jump : Bool) : (s.forwardedLost jump).fb F.CLK_STATUS.FWD_PRESENT = jump :=
  (State.fb_setB_apart _ _ _ _ (by decide)).trans (State.fb_setB_same _ _ _ rfl (by decide))

theorem State.src_forwardedLost (jump : Bool) : (s.forwardedLost jump).f F.CLK_STATUS.SRC = s.f F.CLK_STATUS.SRC :=
  (State.f_setB_apart _ _ _ _ (by decide)).trans (State.f_setB_apart _ _ _ _ (by decide))

theorem State.timeValid_forwardedLost (jump : Bool) : (s.forwardedLost jump).timeValid = s.timeValid :=
  (State.fb_setB_apart _ _ _ _ (by decide)).trans (State.fb_setB_apart _ _ _ _ (by decide))

theorem State.follows_forwardedLost (jump : Bool) : (s.forwardedLost jump).follows = s.follows :=
  (s.onlyRegs_forwardedLost jump).2.follows (by decide) (by decide)

/-- Only a member whose time base is the forwarded clock starts to coast. -/
theorem State.forwardedClockLost_eq (jump : Bool) (hlive : s.live = true) (hon : s.on 1 = true) :
    s.forwardedClockLost jump = if s.follows && s.timeValid && decide (s.f F.CLK_STATUS.SRC = 2) then
      (s.forwardedLost jump).setSrc 3 else s.forwardedLost jump := by
  rw [← s.follows_forwardedLost jump, ← s.timeValid_forwardedLost jump, ← s.src_forwardedLost jump]
  exact if_pos (by simp [hlive, hon])

/-- The forwarded clock qualifies, and its picked tap is kept beside the registers (R68). -/
def State.forwardedQualified (s : State) (tap : Nat) : State :=
  { ((s.setB F.CLK_STATUS.FWD_PRESENT true).setB F.CLK_STATUS.FWD_QUAL true) with tm := { s.tm with fwdTap := tap } }

theorem State.fwdQual_forwardedQualified (tap : Nat) : (s.forwardedQualified tap).fb F.CLK_STATUS.FWD_QUAL = true :=
  State.fb_setB_same _ _ _ rfl (by decide)

theorem State.fwdPresent_forwardedQualified (tap : Nat) :
    (s.forwardedQualified tap).fb F.CLK_STATUS.FWD_PRESENT = true :=
  (State.fb_setB_apart _ _ _ _ (by decide)).trans (State.fb_setB_same _ _ _ rfl (by decide))

theorem State.sameRegsBut_forwardedQualified (tap : Nat) : SameRegsBut [R.CLK_STATUS] s (s.forwardedQualified tap) := by
  have h : OnlyRegs [R.CLK_STATUS] s ((s.setB F.CLK_STATUS.FWD_PRESENT true).setB F.CLK_STATUS.FWD_QUAL true) :=
    (OnlyRegs.refl.setB List.mem_cons_self).setB List.mem_cons_self
  exact h.2

theorem State.forwardedClockQualify_of_valid (tap : Nat) (hlive : s.live = true) (hon : s.on 1 = true)
    (hvalid : s.timeValid = true) : s.forwardedClockQualify tap = s.forwardedQualified tap :=
  if_pos (by simp [hlive, hon, hvalid])

theorem State.settleEnd_of_settled (hsettle : s.fb F.STM_STATUS.SETTLE = true) (herr : s.errWithin 8 = true) :
    s.settleEnd = s.setB F.STM_STATUS.SETTLE false := if_pos (by simp [hsettle, herr])

theorem State.fwdResume_of_aligned (hlive : s.live = true) (hvalid : s.timeValid = true) (hfollows : s.follows = true)
    (hqual : s.fb F.CLK_STATUS.FWD_QUAL = true) (hen : s.fb F.CLK_CTRL.FWD_EN = true)
    (hsrc : s.f F.CLK_STATUS.SRC = 3) (htap : s.f F.STM_PHASE.TAP = s.tm.fwdTap)
    (hhand : s.fb F.STM_STATUS.THANDOVER = false) :
    s.fwdResume = (s.setB F.STM_STATUS.SETTLE true).setSrc 2 :=
  if_pos (by simp [hlive, hvalid, hfollows, hqual, hen, hsrc, htap, hhand])

end

/-- Settles O6: each command does what the equation of its operation says; a lock loss leaves no COAST, so source 1
alone can rise. -/
theorem dllAndForwardedClock : Obligations.DllAndForwardedClock := by
  refine ⟨fun s hon => ?_, fun s hon hen hvalid hlost => ?_, fun s hon hvalid hoff => ?_, fun s hon hvalid _ => ?_,
    fun s hon hlost => ?_, fun s jump hlive hon => ⟨fun hsrc => ?_, fun hsrc hfollows hvalid => ?_⟩,
    fun s tap hlive hon hvalid => ?_, fun s hlive hvalid hfollows hqual hen hsrc htap hhand => ?_,
    fun s hsettle herr => ?_⟩
  · exact .intro rfl (s.dllEnable_of_on hon) ⟨State.fb_setB_same _ _ _ rfl (by decide),
      State.fb_setB_apart _ _ _ _ (by decide), OnlyRegs.refl.setB List.mem_cons_self⟩
  · exact congrArg Host.Outcome.next (s.dllLock_of_not_locked hon hen hvalid hlost)
  · have hrose := s.rose_of_off _ 1 (s.on_unlocked.trans hoff)
    exact .intro rfl ((s.dllLockLoss_of_valid hon hvalid).trans hrose)
      ⟨s.timeValid_unlocked, s.src_unlocked, rfl, rfl, fun _ => rfl⟩
  · exact ⟨s.unlocked, congrArg Host.Outcome.next (s.dllLockLoss_of_valid hon hvalid), s.timeValid_unlocked,
      s.src_unlocked, rfl, rfl, rfl⟩
  · exact ⟨_, congrArg Host.Outcome.next (s.dllRelock_of_lost hon hlost), rfl, rfl⟩
  · exact .intro rfl ((s.forwardedClockLost_eq jump hlive hon).trans (if_neg (by simp [hsrc])))
      ⟨s.fwdQual_forwardedLost jump, s.fwdPresent_forwardedLost jump, s.onlyRegs_forwardedLost jump⟩
  · have hcoast := (s.forwardedClockLost_eq jump hlive hon).trans (if_pos (by simp [hsrc, hfollows, hvalid]))
    exact ⟨_, congrArg Host.Outcome.next hcoast, s.fwdQual_forwardedLost jump, s.onlyRegs_forwardedLost jump⟩
  · exact .intro rfl (s.forwardedClockQualify_of_valid tap hlive hon hvalid)
      ⟨s.fwdQual_forwardedQualified _, s.fwdPresent_forwardedQualified _, rfl, s.sameRegsBut_forwardedQualified _,
        fun _ => rfl⟩
  · exact congrArg Host.Outcome.next (s.fwdResume_of_aligned hlive hvalid hfollows hqual hen hsrc htap hhand)
  · exact .intro rfl (s.settleEnd_of_settled hsettle herr)
      ⟨State.fb_setB_same _ _ _ rfl (by decide), OnlyRegs.refl.setB List.mem_cons_self⟩

/-! ## Measurement clocks (02 R58, R69 to R72) -/

section
variable (s : State)

theorem State.reg_showMclkBad_ne {a : Nat} (ha : a ≠ R.CLK_STATUS) : s.showMclkBad.reg a = s.reg a :=
  State.forAll_keeps (fun t => t.reg a = s.reg a) _ _ s rfl fun t _ _ ht => (t.reg_setReg_ne _ ha).trans ht

/-- Beside CLK_MCLKn and MCLKBAD, a write of the channel moves its edges only. -/
theorem State.regs_mclkWrite (n : Nat) (v : Word) :
    (s.mclkWrite n v).regs = (s.setReg (R.CLK_MCLK n) (v &&& 0xC000FFFF#32)).showMclkBad.regs := by
  unfold State.mclkWrite
  dsimp only
  split
  · rfl
  · split <;> rfl

theorem State.reg_mclkWrite (n : Nat) (v : Word) {a : Nat} (ha : a ≠ R.CLK_STATUS) :
    (s.mclkWrite n v).reg a = if a = R.CLK_MCLK n then v &&& 0xC000FFFF#32 else s.reg a := by
  rw [State.reg_congr (s.regs_mclkWrite n v), State.reg_showMclkBad_ne _ ha, State.reg_setReg]

theorem clkMclk_ne_clkStatus (n : Nat) : R.CLK_MCLK n ≠ R.CLK_STATUS := by
  unfold R.CLK_MCLK R.CLK_STATUS
  omega

theorem State.mclkStart_of_on (n : Nat) (hon : s.on 1 = true) :
    s.mclkStart n = s.mclkWrite n (s.reg (R.CLK_MCLK n) ||| 0x80000000#32) := if_pos hon

theorem State.mclkStop_of_on (n : Nat) (hon : s.on 1 = true) :
    s.mclkStop n = s.mclkWrite n (s.reg (R.CLK_MCLK n) &&& 0x7FFFFFFF#32) := if_pos hon

/-- An accepted SYNC_IN edge is stamped into STM_SYNCCAP, and its cycle is kept (R58, R71). -/
def State.syncStamped (s : State) (ts : DWord) : State :=
  { ((s.setReg R.STM_SYNCCAPLO (ts.extractLsb' 0 32)).setReg R.STM_SYNCCAPHI (ts.extractLsb' 32 32)) with
    tm := { s.tm with lastSync := some s.tm.refclk } }

theorem State.syncCapLo_syncStamped (ts : DWord) : (s.syncStamped ts).reg R.STM_SYNCCAPLO = ts.extractLsb' 0 32 :=
  (State.reg_setReg_ne _ _ (by decide)).trans (State.reg_setReg_same _ _ _)

theorem State.syncCapHi_syncStamped (ts : DWord) : (s.syncStamped ts).reg R.STM_SYNCCAPHI = ts.extractLsb' 32 32 :=
  State.reg_setReg_same _ _ _

theorem State.syncInEdge_of_first (ph : Nat) (hlive : s.live = true) (hon : s.on 1 = true)
    (hvalid : s.timeValid = true) (hfirst : s.tm.lastSync = none) :
    s.syncInEdge ph = (s.syncStamped (s.tm.count + BitVec.ofNat 64 ph)).forAll (List.range 4) fun u n =>
      u.syncChannel (s.localTick + ph) n := by
  unfold State.syncInEdge
  rw [if_pos (by simp [hlive, hon]), if_pos (by simp [hvalid, hfirst])]
  rfl

theorem State.syncInEdge_of_not_valid (ph : Nat) (hlive : s.live = true) (hon : s.on 1 = true)
    (hvalid : s.timeValid = false) : s.syncInEdge ph = s.incF F.CLK_SYNC.SYNCIGN 1 := by
  unfold State.syncInEdge
  rw [if_pos (by simp [hlive, hon]), if_neg (by simp [hvalid])]

theorem State.windowEnd_of_open {n r : Nat} (h : (s.mclk n).windowEnd = some r) : s.windowEnd n =
    ((s.advanceCycles (r - s.tm.refclk)).setMclk n { s.mclk n with windowEnd := none }).sdRestart n := by
  unfold State.windowEnd
  rw [h]

end

/-- Settles O8: start and stop are writes of CLK_MCLKn, and an edge of SYNC_IN is stamped or counted. -/
theorem measurementClocksAndSync : Obligations.MeasurementClocksAndSync := by
  refine ⟨fun s n hon => ?_, fun s n v _ => ⟨?_, fun a hmclk hstatus => ?_⟩,
    fun s ph hlive hon => ⟨fun hvalid hfirst => ?_, fun hvalid => ?_⟩, fun s n r hopen => ?_⟩
  · exact ⟨congrArg Host.Outcome.next (s.mclkStart_of_on n hon), congrArg Host.Outcome.next (s.mclkStop_of_on n hon)⟩
  · rw [s.reg_mclkWrite n v (clkMclk_ne_clkStatus n), if_pos rfl]
  · rw [s.reg_mclkWrite n v hstatus, if_neg hmclk]
  · exact ⟨_, congrArg Host.Outcome.next (s.syncInEdge_of_first ph hlive hon hvalid hfirst),
      s.syncCapLo_syncStamped _, s.syncCapHi_syncStamped _, rfl⟩
  · exact .intro rfl (s.syncInEdge_of_not_valid ph hlive hon hvalid)
      ⟨State.f_incF_same _ _ _ (by decide), OnlyRegs.refl.setF List.mem_cons_self⟩
  · exact congrArg Host.Outcome.next (s.windowEnd_of_open hopen)

/-! ## The cycle in which nothing is commanded (02 R52, R56; log 59) -/

section
variable (s : State)

theorem step_of_idle (hidle : s.pending = []) : step s = .next s.refclkCycle := by
  unfold step
  rw [hidle]

theorem State.refclkCycle_of_running (hon : s.on 1 = true) (hreset : s.pwr.inReset = false)
    (hen : s.fb F.CLK_CTRL.DLL_EN = true) (hstart : s.tm.started = true) :
    s.refclkCycle = { s with tm := { s.tm with count := s.tm.count + 64, refclk := s.tm.refclk + 1 } } :=
  if_pos (by simp [hon, hreset, hen, hstart])

/-- Stack time stands while its domain is off, in reset, with the DLL off, and before the first lock. -/
theorem State.refclkCycle_of_stopped (h : s.on 1 = false ∨ s.pwr.inReset = true ∨ s.fb F.CLK_CTRL.DLL_EN = false ∨
    s.tm.started = false) : s.refclkCycle = s := by
  refine if_neg fun hrun => ?_
  simp only [Bool.and_eq_true, Bool.not_eq_true'] at hrun
  obtain ⟨⟨⟨hon, hreset⟩, hen⟩, hstart⟩ := hrun
  simp [hon, hreset, hen, hstart] at h

end

/-- Settles O55: an idle step is one REFCLK cycle, and stack time counts in it where it runs. -/
theorem emptyQueueIsOneCycle : Obligations.EmptyQueueIsOneCycle := by
  intro s hidle
  rw [step_of_idle s hidle]
  exact ⟨fun hon hreset hen hstart => congrArg Host.Outcome.next (s.refclkCycle_of_running hon hreset hen hstart),
    fun h => congrArg Host.Outcome.next (s.refclkCycle_of_stopped h)⟩

end Sys2Proof.Machine

/-! The cell endpoints (03 R84 to R87, R101, R108, R112 to R117). First what a write of one endpoint leaves and which
part of an endpoint its gates and its words do not touch, then one lemma per command, and the statement that they
settle. -/

namespace Sys2Proof.Machine

/-! ## One endpoint written -/

section
variable (s : State) (i : Nat)

@[simp] theorem State.ep_setEp_same (e : Endpoint) : (s.setEp i e).ep i = e := tblGet_tblSet_same _ _ _ _

theorem onlyEp_setEp (e : Endpoint) : OnlyEp i s (s.setEp i e) := ⟨rfl, fun _ hj => tblGet_tblSet_ne _ _ _ hj⟩

theorem State.ep_advanceTo (t j : Nat) : (s.advanceTo t).ep j = s.ep j := by
  unfold State.advanceTo
  split <;> rfl

/-- Stack time has reached a due tick of the endpoint at index i (log 4). -/
abbrev State.atDue (s : State) (i : Nat) (due : Word) : State := s.advanceTo (s.epAt (s.ep i) due)

theorem State.modEp_atDue (due : Word) (f : Endpoint → Endpoint) :
    (s.atDue i due).modEp i f = (s.atDue i due).setEp i (f (s.ep i)) := by
  rw [State.modEp, State.ep_advanceTo]

variable {s i} {escrow : Bool} {seq n : Nat}

/-- A word that is heard acts on the endpoint that has counted it. -/
theorem State.epWord_of_hears (body : Endpoint → Endpoint) (h : s.Hears i escrow) :
    s.epWord i escrow seq n body = s.setEp i (body (s.heard i escrow seq n)) := by
  obtain ⟨hpow, hal⟩ := h
  exact if_pos (by simp [hpow, hal])

theorem State.epCmd_of_source (op : Nat) (body : Endpoint → Endpoint) (h : s.Hears i escrow)
    (hsrc : s.epSource (s.heard i escrow seq n) = escrow) :
    s.epCmd i escrow seq n op body = s.setEp i (body (s.heard i escrow seq n)) := by
  rw [State.epCmd, State.epWord_of_hears _ h, hsrc, beq_self_eq_true, if_pos rfl]

/-- A command that its port may not send is answered BADCMD (R86, R112). -/
theorem State.epCmd_of_not_source (op : Nat) (body : Endpoint → Endpoint) (h : s.Hears i escrow)
    (hsrc : s.epSource (s.heard i escrow seq n) ≠ escrow) :
    s.epCmd i escrow seq n op body = s.setEp i ((s.heard i escrow seq n).event escrow 6 (op * 2 ^ 24)) := by
  rw [State.epCmd, State.epWord_of_hears _ h, if_neg (by simpa using hsrc)]

end

/-! ## What the gates and the words sent leave -/

section
variable (e : Endpoint)

/-- An endpoint without its gates, their latches and counts, and without its words out: what commands, edges and
cadences have told it. -/
def Endpoint.control (e : Endpoint) : Endpoint :=
  { e with gates := 0, changes := [], lastOn := [], lastOff := [], fault := 0, counts := [], periodCount := 0,
           illegal := false, floor := false, lastIdx := 0, prim := {}, esc := {}, out := none, kept := [] }

/-- A fold of operations that each keep the control part keeps it. -/
theorem Endpoint.control_foldl {α : Type} {f : Endpoint → α → Endpoint}
    (hf : ∀ x a, (f x a).control = x.control) (l : List α) : (l.foldl f e).control = e.control := by
  induction l generalizing e with
  | nil => rfl
  | cons a l ih => exact (ih (f e a)).trans (hf e a)

theorem Endpoint.control_send (escrow : Bool) (ty : Nat) (data : Word) :
    (e.send escrow ty data).control = e.control := by
  unfold Endpoint.send
  extract_lets p q w rest
  split
  · rfl
  · cases escrow <;> rfl

theorem Endpoint.control_event (escrow : Bool) (ev arg : Nat) : (e.event escrow ev arg).control = e.control :=
  e.control_send escrow 5 _

theorem Endpoint.control_change (g : Nat) (on : Bool) (t : Nat) : (e.change g on t).control = e.control := by
  unfold Endpoint.change
  split
  · rfl
  · split
    · rfl
    · cases on <;> rfl

theorem Endpoint.control_settle (t : Nat) : (e.settle t).control = e.control :=
  Endpoint.control_foldl _ (fun x _ => x.control_change _ _ _) _

theorem Endpoint.control_moveGate (t before next : Nat) (report : Bool) (g : Nat) :
    (e.moveGate t before next report g).control = e.control := by
  unfold Endpoint.moveGate
  extract_lets on r at_ y
  have hy : y.control = e.control := by
    unfold y
    split
    · exact e.control_change g on at_
    · rfl
  split
  · rfl
  · split
    · exact (Endpoint.control_event _ _ _ _).trans hy
    · exact hy

theorem Endpoint.control_drive (t mask gates : Nat) (report : Bool) :
    (e.drive t mask gates report).control = e.control :=
  (Endpoint.control_foldl _ (fun x g => x.control_moveGate _ _ _ _ g) _).trans
    (Endpoint.control_foldl _ (fun x g => x.control_moveGate _ _ _ _ g) _)

theorem Endpoint.control_driveNow (t mask gates : Nat) : (e.driveNow t mask gates).control = e.control :=
  Endpoint.control_drive _ t mask gates false

theorem Endpoint.control_edgeClears (gates : Nat) : (e.edgeClears gates).control = e.control := by
  unfold Endpoint.edgeClears
  split <;> rfl

theorem Endpoint.control_applyEdge (t idx : Nat) (copy : Option Nat) :
    (e.applyEdge t idx copy).1.control = e.control := by
  unfold Endpoint.applyEdge
  split
  extract_lets mask next x
  have hx : x.control = e.control := (Endpoint.control_drive _ _ _ _ _).trans (e.control_edgeClears _)
  rw [apply_ite Prod.fst, apply_ite Endpoint.control]
  refine ite_eq_iff'.2 ⟨fun _ => Endpoint.control_event _ _ _ _, fun _ => ?_⟩
  split <;> exact hx

end

/-! ## Commands at an endpoint (03 R86, R108, R112 to R117) -/

section
variable {s : State} {i : Nat} {escrow : Bool} {seq : Nat}

/-- The endpoint after STOP: everything pending is discarded, and entry 0 is driven (R86, R113). -/
def Endpoint.stopped (e : Endpoint) (t : Nat) : Endpoint :=
  { e.discard.driveNow t (classMask e.cls) 0 with estate := 1, lastIdx := 0 }

theorem Endpoint.control_stopped (e : Endpoint) (t : Nat) :
    (e.stopped t).control = { e.discard.control with estate := 1 } :=
  congrArg (fun x : Endpoint => { x with estate := 1 }) (Endpoint.control_driveNow e.discard t (classMask e.cls) 0)

theorem State.cmdStop_of_hears (h : s.Hears i escrow) :
    s.cmdStop i escrow seq = s.setEp i ((s.heard i escrow seq 1).stopped s.now) := State.epWord_of_hears _ h

theorem State.cmdBypass_of_entry {idx : Nat} {due : Word} (h : s.Hears i escrow)
    (hsrc : s.epSource (s.heard i escrow seq 2) = escrow) (hruns : (s.heard i escrow seq 2).runs = true)
    (hrole : ((s.heard i escrow seq 2).entry idx).2.1 = 2) (hvalid : ((s.heard i escrow seq 2).entry idx).1 = true) :
    s.cmdBypass i escrow seq idx due = s.setEp i { s.heard i escrow seq 2 with bypassAt := some (idx, due) } := by
  rw [State.cmdBypass, State.epCmd_of_source 2 _ h hsrc]
  simp [hruns, hrole, hvalid]

/-- The endpoint at the due tick of a BYPASS: its entry is applied, and BYPASS is entered (R114). -/
def Endpoint.bypassed (e : Endpoint) (t idx : Nat) (due : Word) : Endpoint :=
  let z := { e with bypassAt := none, edges := e.edges.filter fun x => !(x.due == due && e.groupOf x.idx == 0) }
  { ((z.settle t).applyEdge t idx none).1 with estate := 3 }

theorem State.bypassDue_of_pending {idx : Nat} {due : Word} (h : (s.ep i).bypassAt = some (idx, due)) :
    s.bypassDue i = (s.atDue i due).setEp i ((s.ep i).bypassed (s.atDue i due).now idx due) := by
  simp only [State.bypassDue, h]
  exact s.modEp_atDue i due _

/-- The endpoint after CLEAR: the named latches are cleared, those whose cause is present stay set, and CLRSTOP leaves
STOPPED and FALLBACK (R108, R117). -/
def Endpoint.cleared (e : Endpoint) (clrStop clrCell : Bool) (mask : Nat) : Endpoint :=
  let keepG := (List.range 16).foldl (fun m g => if mask.testBit g then putBit m g false else m) (e.fault % 2 ^ 16)
  let cell := if clrCell then 0 else e.fault / 2 ^ 16
  let x := { e with fault := (keepG + cell * 2 ^ 16) ||| e.causes }
  if clrStop && decide (e.estate = 1 ∨ e.estate = 4) then { x with estate := 2, prev := none } else x

theorem Endpoint.estate_cleared (e : Endpoint) (clrStop clrCell : Bool) (mask : Nat) :
    (e.cleared clrStop clrCell mask).estate =
      if clrStop = true ∧ (e.estate = 1 ∨ e.estate = 4) then 2 else e.estate := by
  simp only [Endpoint.cleared, apply_ite Endpoint.estate, Bool.and_eq_true, decide_eq_true_eq]

/-- A latch whose cause is present is set after every CLEAR. -/
theorem Endpoint.fault_cleared_of_cause (e : Endpoint) (clrStop clrCell : Bool) (mask : Nat) {n : Nat}
    (h : e.causes.testBit n = true) : (e.cleared clrStop clrCell mask).fault.testBit n = true := by
  simp only [Endpoint.cleared, apply_ite Endpoint.fault, ite_self, Nat.testBit_or, h, Bool.or_true]

theorem State.cmdClear_of_source {clrStop clrCell : Bool} {mask : Nat} (h : s.Hears i escrow)
    (hsrc : s.epSource (s.heard i escrow seq 1) = escrow) :
    s.cmdClear i escrow seq clrStop clrCell mask =
      s.setEp i ((s.heard i escrow seq 1).cleared clrStop clrCell mask) := State.epCmd_of_source 3 _ h hsrc

/-- A TAKE from the standby port, with none accepted before, is kept with its instant (R112). -/
theorem State.cmdTake_of_ok {tb : Word} (h : s.Hears i escrow) (hok : s.takeOk (s.heard i escrow seq 2) tb = true)
    (hnone : (s.heard i escrow seq 2).take = none) (hstandby : escrow ≠ (s.heard i escrow seq 2).active) :
    s.cmdTake i escrow seq tb =
      s.setEp i ({ s.heard i escrow seq 2 with take := some (escrow, s.epAt (s.heard i escrow seq 2) tb) }.event
        escrow 2 (tb.toNat % 2 ^ 16)) := by
  rw [State.cmdTake, State.epWord_of_hears _ h]
  simp [hok, hnone, hstandby]

theorem State.cmdTake_of_not_ok {tb : Word} (h : s.Hears i escrow)
    (hok : s.takeOk (s.heard i escrow seq 2) tb = false) :
    s.cmdTake i escrow seq tb = s.setEp i ((s.heard i escrow seq 2).event escrow 6 (4 * 2 ^ 24)) := by
  rw [State.cmdTake, State.epWord_of_hears _ h]
  simp [hok]

theorem State.cmdReturn_of_source (h : s.Hears i escrow) (hsrc : s.epSource (s.heard i escrow seq 1) = escrow) :
    s.cmdReturn i escrow seq = s.setEp i (if (s.heard i escrow seq 1).estate = 3 then
      { s.heard i escrow seq 1 with estate := 2, prev := none } else s.heard i escrow seq 1) :=
  State.epCmd_of_source 5 _ h hsrc

theorem State.cmdCapreq_of_conf (h : s.Hears i escrow) (hconf : (s.heard i escrow seq 1).estate ≠ 0) :
    s.cmdCapreq i escrow seq = s.setEp i ((s.heard i escrow seq 1).sendCaps escrow) := by
  rw [State.cmdCapreq, State.epWord_of_hears _ h, if_neg hconf]

theorem State.cmdSvc_of_source {com : Bool} (h : s.Hears i escrow)
    (hsrc : s.epSource (s.heard i escrow seq 1) = escrow) :
    s.cmdSvc i escrow seq com = s.setEp i { s.heard i escrow seq 1 with commission := com } :=
  State.epCmd_of_source 8 _ h hsrc

theorem State.cmdSvc_of_not_source {com : Bool} (h : s.Hears i escrow)
    (hsrc : s.epSource (s.heard i escrow seq 1) ≠ escrow) :
    s.cmdSvc i escrow seq com = s.setEp i ((s.heard i escrow seq 1).event escrow 6 (8 * 2 ^ 24)) :=
  State.epCmd_of_not_source 8 _ h hsrc

theorem State.cmdUnlistedOp_of_unlisted {op : Nat} (h : s.Hears i escrow) (hop : op = 0 ∨ 9 ≤ op) :
    s.cmdUnlistedOp i escrow seq op = s.setEp i ((s.heard i escrow seq 1).event escrow 6 (op * 2 ^ 24)) := by
  have hlist : decide (1 ≤ op ∧ op ≤ 8) = false := decide_eq_false (by omega)
  rw [State.cmdUnlistedOp, State.epWord_of_hears _ h, hlist, if_pos (by simp)]

/-- A word that is kept and still reaches the chip in time goes out again (R101, R102). -/
theorem State.cmdReplay_of_kept {named : Nat} {w : EpWord} {e : Endpoint} (he : s.heard i escrow seq 1 = e)
    (h : s.Hears i escrow) (hkept : (e.kept.find? fun w => w.escrow == escrow && w.seq == named) = some w)
    (hty : w.ty ≠ 4)
    (htime : (((wN s.now + e.off - e.tk).toNat / 3200 + 1 + 1) * 3200) * 16 + e.d ≤ s.epP e * 64 * 16) :
    s.cmdReplay i escrow seq named = s.setEp i { e with out := some w } := by
  rw [State.cmdReplay, State.epWord_of_hears _ h, he]
  dsimp only
  rw [hkept]
  exact congrArg _ (if_pos ⟨hty, htime⟩)

end

/-! ## Cadences (03 R84, R85) -/

section
variable {s : State} {i : Nat} {escrow : Bool} {seq : Nat}

/-- The cadence that four CADENCE words command. -/
def cadenceOf (w c1 c2 c3 : Word) : EpCadence :=
  { group := fld w 31 29, halt := bitAt w 28, a := fld w 9 5, b := fld w 4 0, half := fld c1 23 0,
    phase := fld c2 23 0, start := c3 }

/-- A HALT for a stage group of the class, with a valid entry and in time, is kept for its START. -/
theorem State.cadenceCommand_of_halt {w c1 c2 c3 : Word} {e : Endpoint} (he : s.heard i escrow seq 4 = e)
    (h : s.Hears i escrow) (hsrc : s.epSource e = escrow) (hruns : e.runs = true) (hlo : 1 ≤ fld w 31 29)
    (hhi : fld w 31 29 ≤ 4) (hgroup : groupMask e.cls (fld w 31 29) ≠ 0)
    (hstage : e.stageOk (fld w 9 5) (fld w 31 29) = true) (hhalt : bitAt w 28 = true)
    (htime : ¬ min (sg (c3 - e.tk)) ((s.epP e * 64 : Nat) : Int) - (e.lat : Int) < sg (wN s.now + e.off - e.tk)) :
    s.cadenceCommand i escrow seq w c1 c2 c3 =
      s.setEp i { e with nextCads := e.nextCads ++ [cadenceOf w c1 c2 c3] } := by
  rw [State.cadenceCommand, State.epWord_of_hears _ h, he, if_neg (by simp [hsrc, hruns])]
  refine congrArg _ ((if_neg ?_).trans (if_pos ?_))
  · simpa using htime
  · simp [hlo, hhi, hgroup, hstage, hhalt]

/-- The endpoint at the START of a cadence, with the changes of its gates that have come (R84). -/
def Endpoint.startReached (e : Endpoint) (t g : Nat) (c : EpCadence) : Endpoint :=
  { e with nextCads := e.nextCads.erase c, cadences := e.cadences.filter fun x => x.group ≠ g }.settle t

theorem Endpoint.runs_startReached (e : Endpoint) (t g : Nat) (c : EpCadence) : (e.startReached t g c).runs = e.runs :=
  (congrArg Endpoint.runs (Endpoint.control_settle _ t) :)

/-- The endpoint once the START of a cadence was acted on. -/
def Endpoint.cadenceStarted (e : Endpoint) (t g : Nat) (c : EpCadence) : Endpoint :=
  let z := e.startReached t g c
  if !z.runs then z
  else if c.halt then (z.applyEdge t c.a none).1 else { z with cadences := z.cadences ++ [c] }

theorem Endpoint.mem_cadenceStarted (e : Endpoint) (t g : Nat) {c : EpCadence} (hhalt : c.halt = false)
    (hruns : e.runs = true) : c ∈ (e.cadenceStarted t g c).cadences := by
  have hz : (e.startReached t g c).runs = true := (e.runs_startReached t g c).trans hruns
  simp [Endpoint.cadenceStarted, hz, hhalt]

theorem State.cadenceStart_of_waiting {g : Nat} {c : EpCadence}
    (h : ((s.ep i).nextCads.find? fun c => c.group == g) = some c) :
    s.cadenceStart i g =
      (s.atDue i c.start).setEp i ((s.ep i).cadenceStarted (s.atDue i c.start).now g c) := by
  simp only [State.cadenceStart, h]
  exact s.modEp_atDue i c.start _

/-- The endpoint at a grid instant of a cadence: the next edge has the next index, and pattern A or B is applied while
the endpoint runs (R85). -/
def Endpoint.cadenceStepped (e : Endpoint) (t : Nat) (c : EpCadence) : Endpoint :=
  let z := { e with cadences := e.cadences.map fun x => if x = c then { x with n := x.n + 1 } else x }.settle t
  if z.runs then (z.applyEdge t (if c.n % 2 = 0 then c.a else c.b) none).1 else z

theorem Endpoint.cadences_cadenceStepped (e : Endpoint) (t : Nat) (c : EpCadence) : (e.cadenceStepped t c).cadences =
    e.cadences.map fun x => if x = c then { x with n := x.n + 1 } else x := by
  unfold Endpoint.cadenceStepped
  extract_lets z
  have hz := congrArg Endpoint.cadences (Endpoint.control_settle
    { e with cadences := e.cadences.map fun x => if x = c then { x with n := x.n + 1 } else x } t)
  split
  · exact (congrArg Endpoint.cadences (z.control_applyEdge _ _ _)).trans hz
  · exact hz

theorem Endpoint.mem_cadenceStepped (e : Endpoint) (t : Nat) {c : EpCadence} (h : c ∈ e.cadences) :
    { c with n := c.n + 1 } ∈ (e.cadenceStepped t c).cadences := by
  rw [Endpoint.cadences_cadenceStepped]
  exact List.mem_map.2 ⟨c, h, if_pos rfl⟩

theorem State.cadenceEdge_of_running {g : Nat} {c : EpCadence}
    (h : ((s.ep i).cadences.find? fun c => c.group == g) = some c) :
    s.cadenceEdge i g = (s.atDue i (c.start + wN (c.phase + c.n * c.half))).setEp i
      ((s.ep i).cadenceStepped (s.atDue i (c.start + wN (c.phase + c.n * c.half))).now c) := by
  simp only [State.cadenceEdge, h]
  exact s.modEp_atDue i _ _

end

/-- Settles O11: each command by its equation; what the gates and the words sent do not touch stays as it was told. -/
theorem endpointCommandsAndCadences : Obligations.EndpointCommandsAndCadences := by
  refine ⟨fun s p escrow seq h => ?_, fun s p escrow seq idx due h hsrc hruns hrole hvalid => ?_,
    fun s p idx due h => ?_, fun s p escrow seq clrStop clrCell mask h hsrc => ?_,
    fun s p escrow seq tb h => ⟨fun hok hnone hstandby => ?_, fun hok => ?_⟩,
    fun s p escrow seq h => ⟨fun hsrc => ?_, fun hconf => ?_, fun com hsrc => ?_, fun op hop => ?_,
      fun named w hkept hty htime => ?_⟩,
    fun s p escrow seq h hsrc com => ?_,
    fun s p escrow seq w c1 c2 c3 h hsrc hruns hlo hhi hgroup hstage hhalt htime => ?_,
    fun s p g c h => ?_, fun s p g c h => ?_⟩
  · refine .intro rfl (State.cmdStop_of_hears h) ⟨onlyEp_setEp _ _ _, ?_⟩
    rw [State.ep_setEp_same]
    have hc := (s.heard p.idx escrow seq.toNat 1).control_stopped s.now
    exact ⟨rfl, rfl, (congrArg Endpoint.edges hc :), (congrArg Endpoint.cadences hc :),
      (congrArg Endpoint.bypassAt hc :)⟩
  · refine .intro rfl (State.cmdBypass_of_entry h hsrc hruns hrole hvalid) ⟨onlyEp_setEp _ _ _, ?_⟩
    rw [State.ep_setEp_same]
    exact ⟨rfl, rfl⟩
  · refine .intro rfl (State.bypassDue_of_pending h) ⟨onlyEp_setEp _ _ _, ?_⟩
    rw [State.ep_setEp_same]
    rfl
  · refine .intro rfl (State.cmdClear_of_source h hsrc) ⟨onlyEp_setEp _ _ _, ?_⟩
    rw [State.ep_setEp_same]
    exact ⟨Endpoint.estate_cleared _ _ _ _, fun _ => Endpoint.fault_cleared_of_cause _ _ _ _⟩
  · refine .intro rfl (State.cmdTake_of_ok h hok hnone hstandby) ⟨onlyEp_setEp _ _ _, ?_⟩
    rw [State.ep_setEp_same]
    exact (congrArg Endpoint.take (Endpoint.control_event _ _ _ _) :)
  · exact .intro rfl (State.cmdTake_of_not_ok h hok) (State.ep_setEp_same _ _ _)
  · refine .intro rfl (State.cmdReturn_of_source h hsrc) ⟨onlyEp_setEp _ _ _, ?_⟩
    rw [State.ep_setEp_same]
    exact apply_ite Endpoint.estate _ _ _
  · exact .intro rfl (State.cmdCapreq_of_conf h hconf) ⟨onlyEp_setEp _ _ _, State.ep_setEp_same _ _ _⟩
  · refine .intro rfl (State.cmdSvc_of_source h hsrc) ⟨onlyEp_setEp _ _ _, ?_⟩
    rw [State.ep_setEp_same]
  · exact .intro rfl (State.cmdUnlistedOp_of_unlisted h hop) ⟨onlyEp_setEp _ _ _, State.ep_setEp_same _ _ _⟩
  · refine .intro rfl (State.cmdReplay_of_kept rfl h hkept hty htime) ⟨onlyEp_setEp _ _ _, ?_⟩
    rw [State.ep_setEp_same]
  · exact .intro rfl (State.cmdSvc_of_not_source h hsrc) (State.ep_setEp_same _ _ _)
  · refine .intro rfl (State.cadenceCommand_of_halt rfl h hsrc hruns hlo hhi hgroup hstage hhalt htime)
      ⟨onlyEp_setEp _ _ _, ?_⟩
    rw [State.ep_setEp_same, cadenceOf, hhalt]
  · refine .intro rfl (State.cadenceStart_of_waiting h) ⟨onlyEp_setEp _ _ _, fun hhalt hruns => ?_⟩
    rw [State.ep_setEp_same]
    exact Endpoint.mem_cadenceStarted _ _ _ hhalt hruns
  · refine .intro rfl (State.cadenceEdge_of_running h) ⟨onlyEp_setEp _ _ _, ?_⟩
    rw [State.ep_setEp_same]
    exact Endpoint.mem_cadenceStepped _ _ (List.mem_of_find?_eq_some h)

end Sys2Proof.Machine

/-! The ports of the Link Engine (03 R74 to R103, R109). First what a write of a port and an entry of a hardware queue
leave, then one section per group of commands, and the statement that they settle. -/

namespace Sys2Proof.Machine

/-! ## One port written, and an entry of a hardware queue -/

section
variable (s : State) (i : Nat)

@[simp] theorem State.port_setPort_same (p : LinkPort) : (s.setPort i p).port i = p := tblGet_tblSet_same _ _ _ _

@[simp] theorem State.port_modPort_same (f : LinkPort → LinkPort) : (s.modPort i f).port i = f (s.port i) :=
  s.port_setPort_same i _

theorem State.port_modPort_ne (f : LinkPort → LinkPort) {j : Nat} (h : j ≠ i) : (s.modPort i f).port j = s.port j :=
  tblGet_tblSet_ne _ _ _ h

@[simp] theorem State.regs_modPort (f : LinkPort → LinkPort) : (s.modPort i f).regs = s.regs := rfl
@[simp] theorem State.mem_modPort (f : LinkPort → LinkPort) : (s.modPort i f).mem = s.mem := rfl

theorem State.port_congr {t u : State} (h : t.lnk = u.lnk) : t.port i = u.port i := by rw [State.port, State.port, h]

@[simp] theorem State.lnk_hwPush (q : Nat) (d : DWord) : (s.hwPush q d).lnk = s.lnk := by
  unfold State.hwPush
  split
  · split <;> rfl
  · rfl

@[simp] theorem State.mem_hwPush (q : Nat) (d : DWord) : (s.hwPush q d).mem = s.mem := by
  unfold State.hwPush
  split
  · split <;> rfl
  · rfl

/-- A push to a full queue counts in the registers of the queue unit, which stand below those of the Link Engine. -/
theorem State.reg_hwPush (q : Nat) (d : DWord) {a : Nat} (hq : q < 32) (ha : R.LNK_CTRL ≤ a) :
    (s.hwPush q d).reg a = s.reg a := by
  have hstat : a ≠ R.HQ_STAT q := by unfold R.HQ_STAT R.LNK_CTRL at *; omega
  have hdrop : a ≠ R.HQ_DROP q := by unfold R.HQ_DROP R.LNK_CTRL at *; omega
  unfold State.hwPush
  split
  · split
    · rfl
    · exact (State.reg_setF_ne _ _ _ hstat).trans (State.reg_setF_ne _ _ _ hdrop)
  · rfl

@[simp] theorem State.lnk_linkEvent (q kind word : Nat) : (s.linkEvent q i kind word).lnk = s.lnk := s.lnk_hwPush q _
@[simp] theorem State.mem_linkEvent (q kind word : Nat) : (s.linkEvent q i kind word).mem = s.mem := s.mem_hwPush q _

end

/-! ## The word slots (03 R74, R96) -/

section
variable (s : State)

theorem State.lnk_advanceTo (t : Nat) : (s.advanceTo t).lnk = s.lnk := by
  unfold State.advanceTo
  split <;> rfl

/-- The slot after slot j is the next one. -/
def State.slotTaken (s : State) (j : Nat) : State := { s with lnk := { s.lnk with slot := j + 1 } }

theorem State.slot_slotTaken (j : Nat) : (s.slotTaken j).lnk.slot = j + 1 := rfl
theorem State.ports_slotTaken (j : Nat) : (s.slotTaken j).lnk.ports = s.lnk.ports := rfl

theorem State.linkSlot_of_valid (hon : s.lnkOn = true) (hvalid : s.timeValid = true) (hslot : s.lnk.slot < s.slots) :
    s.linkSlot = ((s.advanceTo (s.boundary s.tm.k + s.lnk.slot * 3200)).slotTaken s.lnk.slot).forAll
      (ctxIdx.filter (s.advanceTo (s.boundary s.tm.k + s.lnk.slot * 3200)).portOn) fun u i => u.sendSlot i s.lnk.slot :=
  if_pos (by simp [hon, hvalid, hslot])

end

/-! ## Alignment (03 R76, R94) -/

section
variable (s : State) (i : Nat)

theorem State.linkAligned_of_acquire (hon : s.portOn i = true) (hst : s.lstate i = 1) :
    s.linkAligned i = (s.setLstate i 2).modPort i fun p => { p with capReq := true } := if_pos (by simp [hon, hst])

theorem State.linkAlignLost_of_aligned (hon : s.portOn i = true) (hst : 2 ≤ s.lstate i) :
    s.linkAlignLost i = s.setLstate i 1 := if_pos (by simp [hon, hst])

/-- The two ports of an endpoint are its receivers of the link. -/
theorem State.alignCmd_of_powered (escrow ok : Bool) (hpow : (s.ep i).powered = true) :
    s.alignCmd i (if escrow then .escrow else .primary) ok =
      s.setEp i ((s.ep i).setPort escrow { (s.ep i).port escrow with aligned := ok }) := by
  cases escrow <;> exact if_pos hpow

theorem Endpoint.port_setPort_same (e : Endpoint) (escrow : Bool) (p : EpPort) :
    (e.setPort escrow p).port escrow = p := by cases escrow <;> rfl

/-- LSTATE and the bit of LNK_UPMAP after a change of LSTATE, before the change enters Q10. -/
def State.lstateShown (s : State) (i v : Nat) : State :=
  let t := s.setF (F.LNK_PSTAT.LSTATE i) v
  t.setReg (R.LNK_UPMAP (i / 32)) (setFld (t.reg (R.LNK_UPMAP (i / 32))) (i % 32) (i % 32) (b2n (decide (v = 3))))

theorem State.setLstate_of_ne {v : Nat} (h : s.lstate i ≠ v) :
    s.setLstate i v = (s.lstateShown i v).linkEvent 10 i 3 0 := if_neg h

theorem State.reg_setLstate {v a : Nat} (h : s.lstate i ≠ v) (ha : R.LNK_CTRL ≤ a) :
    (s.setLstate i v).reg a = (s.lstateShown i v).reg a := by
  rw [s.setLstate_of_ne i h]
  exact State.reg_hwPush _ 10 _ (by decide) ha

theorem lnkCtrl_le_lnkPstat : R.LNK_CTRL ≤ R.LNK_PSTAT i := by unfold R.LNK_CTRL R.LNK_PSTAT; omega

theorem lnkCtrl_le_lnkUpmap : R.LNK_CTRL ≤ R.LNK_UPMAP i := by unfold R.LNK_CTRL R.LNK_UPMAP; omega

theorem lnkPstat_ne_lnkUpmap {n : Nat} (hn : n < 4) : R.LNK_PSTAT i ≠ R.LNK_UPMAP n := by
  unfold R.LNK_PSTAT R.LNK_UPMAP
  omega

/-- The 126 ports are numbered below 128 (07 R164). -/
theorem portIdx_lt (p : PortId) : p.idx < 128 := by
  have := p.isLt
  unfold PortId.idx
  split <;> omega

theorem State.lstate_lstateShown {v : Nat} (hi : i < 128) (hv : v < 8) : (s.lstateShown i v).lstate i = v := by
  have hne : (F.LNK_PSTAT.LSTATE i).addr ≠ R.LNK_UPMAP (i / 32) := lnkPstat_ne_lnkUpmap i (by omega)
  rw [State.lstate, State.lstateShown, State.f_setReg_ne _ _ _ _ hne,
    State.f_setF_same _ _ _ (show 31 < 32 by decide)]
  exact Nat.mod_eq_of_lt hv

theorem State.lstate_setLstate {v : Nat} (hi : i < 128) (hv : v < 8) (h : s.lstate i ≠ v) :
    (s.setLstate i v).lstate i = v := by
  have hreg := s.reg_setLstate i h (lnkCtrl_le_lnkPstat i)
  exact (congrArg (fun w : Word => fld w 31 29) hreg).trans (s.lstate_lstateShown i hi hv)

theorem State.upmap_setLstate {v : Nat} (h : s.lstate i ≠ v) :
    bitAt ((s.setLstate i v).reg (R.LNK_UPMAP (i / 32))) (i % 32) = decide (v = 3) := by
  rw [s.reg_setLstate i h (lnkCtrl_le_lnkUpmap _), State.lstateShown, State.reg_setReg_same,
    bitAt_setFld_same _ _ _ (Nat.mod_lt _ (by decide)), testBit_b2n]

end

/-! ## Uplink words (03 R77, R78, R98 to R102) -/

section
variable (s : State) (i : Nat)

theorem testBit_putBit_true (v n : Nat) : (putBit v n true).testBit n = true := by
  unfold putBit
  split
  next h => exact h.symm
  next h =>
    rw [if_pos rfl, Nat.add_comm, Nat.testBit_two_pow_add_eq]
    simpa using h

/-- Only a TIME word (TYPE 1) or an EVENT word (TYPE 5) that is taken does more than act on its port. -/
theorem State.uplinkReceive_eq_uplinkWord {good : Bool} {ty seq : Nat} {data trx : Word}
    (h : good = false ∨ (s.port i).tooLate seq = true ∨ ty ≠ 1 ∧ ty ≠ 5) :
    s.uplinkReceive i good ty seq data trx = s.uplinkWord i good ty seq data trx := by
  unfold State.uplinkReceive
  rcases h with h | h | ⟨h1, h5⟩
  · simp [h]
  · simp [h]
  · simp [h1, h5]

theorem State.uplinkWord_bad {ty seq : Nat} {data trx : Word} (hon : s.portOn i = true) (hst : 2 ≤ s.lstate i) :
    s.uplinkWord i false ty seq data trx = s.badUplink i := if_pos (by simp [hon, hst])

theorem onlyRegs_incF (x : Field) (d : Nat) : OnlyRegs [x.addr] s (s.incF x d) := OnlyRegs.refl.setF List.mem_cons_self

theorem State.uperr_badUplink :
    (s.badUplink i).f (F.LNK_ERRCNT.UPERR i) = wrapAdd 16 (s.f (F.LNK_ERRCNT.UPERR i)) 1 :=
  State.f_incF_same s _ 1 (show 15 < 32 by decide)

theorem State.sameRegsBut_badUplink : SameRegsBut [R.LNK_ERRCNT i] s (s.badUplink i) :=
  (onlyRegs_incF s (F.LNK_ERRCNT.UPERR i) 1).2

theorem State.replays_badUplink :
    ((s.badUplink i).port i).replays = (s.port i).replays ++ [((s.port i).rx.getD 15 + 1) % 16] := by
  rw [State.badUplink, State.port_setPort_same]

theorem State.uplinkWord_late {ty seq : Nat} {data trx : Word} (hon : s.portOn i = true) (hst : 2 ≤ s.lstate i)
    (hlate : (s.port i).tooLate seq = true) : s.uplinkWord i true ty seq data trx =
      s.modPort i fun p => { p with late := p.late.filter fun x => x ≠ seq } := by
  unfold State.uplinkWord
  rw [if_pos (by simp [hon, hst]), if_pos rfl, if_pos hlate]

theorem State.uplinkWord_good {ty seq : Nat} {data trx : Word} (hon : s.portOn i = true) (hst : 2 ≤ s.lstate i)
    (hlate : (s.port i).tooLate seq = false) :
    s.uplinkWord i true ty seq data trx = s.uplinkGood i ty seq data trx := by
  unfold State.uplinkWord
  rw [if_pos (by simp [hon, hst]), if_pos rfl, if_neg (by simp [hlate])]

/-- A word that is taken acts by its TYPE alone, where its TYPE is neither TIME nor EVENT. -/
theorem State.uplinkReceive_good {ty seq : Nat} {data trx : Word} (hty : ty ≠ 1 ∧ ty ≠ 5)
    (hon : s.portOn i = true) (hst : 2 ≤ s.lstate i) (hlate : (s.port i).tooLate seq = false) :
    s.uplinkReceive i true ty seq data trx = s.uplinkGood i ty seq data trx :=
  (s.uplinkReceive_eq_uplinkWord i (.inr (.inr hty))).trans (s.uplinkWord_good i hon hst hlate)

/-- The port has counted a good uplink word, before the word acts by its TYPE (R78). -/
def State.uplinkCounted (s : State) (i seq : Nat) : State :=
  s.modPort i fun p => { seqGood p seq with good := true, late := p.late.filter fun x => x ≠ seq }

theorem State.uplinkGood_report {seq : Nat} {data trx : Word} (hlo : 1 ≤ fld data 31 29)
    (hhi : fld data 31 29 ≤ 5) :
    s.uplinkGood i 0 seq data trx = (s.uplinkCounted i seq).reportWord i (fld data 31 29) data :=
  (if_neg (by omega)).trans (if_neg (by omega))

theorem State.uplinkGood_echo {seq : Nat} {data trx : Word} :
    s.uplinkGood i 2 seq data trx = ((s.uplinkCounted i seq).reportWord i 7 data).echoIn i data trx := rfl

theorem State.uplinkGood_nak {seq : Nat} {data trx : Word} :
    s.uplinkGood i 4 seq data trx = (s.uplinkCounted i seq).nakIn i (fld data 3 0) := rfl

/-- A report word stands in its context, and the port has marked it as received (R98). -/
def State.reportStored (s : State) (i n : Nat) (data : Word) : State :=
  (s.setCtx i (0x40 + 4 * n) data).modPort i fun p => { p with got := putBit p.got n true }

theorem State.reportWord_of_on {n : Nat} {data : Word} (hon : s.on 6 = true) :
    s.reportWord i n data = s.reportStored i n data := by
  unfold State.reportWord
  rw [if_pos hon]
  rfl

theorem State.ctx_reportStored (n : Nat) (data : Word) : (s.reportStored i n data).ctx i (0x40 + 4 * n) = data :=
  s.ctx_setCtx_same i _ data

theorem State.got_reportStored (n : Nat) (data : Word) : ((s.reportStored i n data).port i).got.testBit n = true := by
  rw [State.reportStored, State.port_modPort_same]
  exact testBit_putBit_true _ n

theorem State.mem_echoIn (echo trx : Word) : (s.echoIn i echo trx).mem = s.mem := by
  unfold State.echoIn
  extract_lets p dUsed rtt l _ d long t
  split
  · exact t.mem_linkEvent i 11 7 0
  · rfl

/-- A NAK counts; what it names goes out again from the port (R102, R103). -/
theorem State.nakIn_frame (named : Nat) :
    s.nakIn i named = { s.incF (F.LNK_ERRCNT.DNNAK i) 1 with lnk := (s.nakIn i named).lnk } := by
  unfold State.nakIn
  extract_lets t
  split
  · split
    · rfl
    · split <;> rfl
  · rfl

end

/-! ## A full set of CAP words, and a lost port (03 R93, R94, R103) -/

section
variable (s : State) (i : Nat)

/-- The port has a full good set of CAP0 to CAP3, which has entered Q10. -/
def State.capsetFull (s : State) (i : Nat) : State :=
  (s.modPort i fun p => { p with capFull := true, capReq := false }).linkEvent 10 i 2 0

theorem State.port_capsetFull (j : Nat) : (s.capsetFull i).port j =
    (s.modPort i fun p => { p with capFull := true, capReq := false }).port j :=
  State.port_congr j (State.lnk_linkEvent _ i 10 2 0)

theorem State.capsetComplete_of_full (hon : s.portOn i = true) (hmask : (s.port i).capMask = 15)
    (hst : 2 ≤ s.lstate i) (hnew : (s.port i).capFull = false) :
    s.capsetComplete i = ((s.capsetFull i).setLstate i
      (if fld ((s.capsetFull i).reg (R.LNK_CAP i 0)) 17 14 = 1 then 3 else 4)).serialRecord i :=
  if_pos (by simp [hon, hmask, hst, hnew])

/-- The bit of the port in LNK_LOSTMAP is set, before source 11 looks at its level. -/
def State.lostShown (s : State) (i : Nat) : State :=
  (s.setReg (R.LNK_LOSTMAP (i / 32)) (setFld (s.reg (R.LNK_LOSTMAP (i / 32))) (i % 32) (i % 32) 1)).modPort i fun p =>
    { p with lostDone := true }

theorem State.linkLost_of_exhausted (hon : s.portOn i = true) (hex : s.f (F.LNK_PSTAT.EXHCONS i) = 3)
    (hnew : (s.port i).lostDone = false) : s.linkLost i = s.rose (s.lostShown i) [11] :=
  if_pos (by simp [hon, hex, hnew])

theorem State.lostmap_lostShown : bitAt ((s.lostShown i).reg (R.LNK_LOSTMAP (i / 32))) (i % 32) = true := by
  have h := s.reg_setReg_same (R.LNK_LOSTMAP (i / 32)) (setFld (s.reg (R.LNK_LOSTMAP (i / 32))) (i % 32) (i % 32) 1)
  exact (congrArg (fun w : Word => bitAt w (i % 32)) h).trans (bitAt_setFld_same _ _ _ (Nat.mod_lt _ (by decide)))

theorem State.sameRegsBut_lostShown : SameRegsBut [R.LNK_LOSTMAP (i / 32)] s (s.lostShown i) :=
  fun _ ha => s.reg_setReg_ne _ (List.ne_of_not_mem_cons ha)

end

/-! ## Stop requests (03 R109) -/

section
variable (s : State)

/-- Two STOP words wait on a port, for the first slot at least 2 cycles on. -/
def State.stopAsked (s : State) (i : Nat) : State :=
  s.modPort i fun p => { p with stops := 2, stopAt := s.now + 128 }

theorem State.stops_forAll_stopAsked (l : List Nat) (j : Nat) :
    ((s.forAll l State.stopAsked).port j).stops = if j ∈ l then 2 else (s.port j).stops := by
  induction l generalizing s with
  | nil => simp [State.forAll]
  | cons i l ih =>
    refine (ih (s.stopAsked i)).trans ?_
    by_cases hj : j = i
    · subst hj
      simp [State.stopAsked]
    · simp [State.stopAsked, State.port_modPort_ne _ _ _ hj, hj]

theorem State.regs_forAll_stopAsked (l : List Nat) : (s.forAll l State.stopAsked).regs = s.regs :=
  State.forAll_keeps (fun t => t.regs = s.regs) l _ s rfl fun _ _ _ h => h

theorem State.mem_forAll_stopAsked (l : List Nat) : (s.forAll l State.stopAsked).mem = s.mem :=
  State.forAll_keeps (fun t => t.mem = s.mem) l _ s rfl fun _ _ _ h => h

theorem State.stopRequestCmd_of_live (hlive : s.live = true) (hon : s.on 7 = true) :
    s.stopRequestCmd = s.forAll (ctxIdx.filter s.portOn) State.stopAsked := if_pos (by simp [hlive, hon])

end

/-! ## LNK_CMD -/

section
variable (s : State) (i op arg : Nat)

/-- The registers after a write of LNK_CMD: OP and ARG as written, and PEND for CAPREQ and SVC. -/
def State.lnkCmdShown (s : State) (i op arg : Nat) : State :=
  ((s.setF (F.LNK_CMD.OP i) op).setF (F.LNK_CMD.ARG i) arg).setB (F.LNK_CMD.PEND i) (decide (op = 7 ∨ op = 8))

theorem State.setB_modPort (f : LinkPort → LinkPort) (x : Field) (b : Bool) :
    (s.modPort i f).setB x b = (s.setB x b).modPort i f := rfl

/-- Beside LNK_CMD, a write changes what waits on its port only. -/
theorem State.lnkCmdWrite_of_on (hon : s.on 7 = true) (hesc : 64 ≤ i → s.on 8 = true) :
    (s.lnkCmdWrite i op arg).regs = (s.lnkCmdShown i op arg).regs ∧ (s.lnkCmdWrite i op arg).mem = s.mem := by
  have hdom : s.on (if i < 64 then 7 else 8) = true := by
    split
    next => exact hon
    next h => exact hesc (Nat.le_of_not_lt h)
  unfold State.lnkCmdWrite
  rw [if_pos (by simp [hon, hdom])]
  by_cases h : op = 7 ∨ op = 8
  · rw [if_pos h, State.setB_modPort, State.regs_modPort, State.regs_modPort, State.mem_modPort, State.mem_modPort,
      State.lnkCmdShown, decide_eq_true h]
    exact ⟨rfl, rfl⟩
  · rw [if_neg h, State.setB_modPort, State.regs_modPort, State.mem_modPort, State.lnkCmdShown, decide_eq_false h]
    exact ⟨rfl, rfl⟩

theorem State.onlyRegs_lnkCmdShown : OnlyRegs [R.LNK_CMD i] s (s.lnkCmdShown i op arg) := by
  refine ((OnlyRegs.refl.setF ?_).setF ?_).setB ?_ <;> exact List.mem_cons_self

theorem State.pend_lnkCmdShown : (s.lnkCmdShown i op arg).fb (F.LNK_CMD.PEND i) = decide (op = 7 ∨ op = 8) :=
  State.fb_setB_same _ _ _ rfl (show 31 < 32 by decide)

theorem State.op_lnkCmdShown (h : op < 16) : (s.lnkCmdShown i op arg).f (F.LNK_CMD.OP i) = op := by
  rw [State.lnkCmdShown, State.f_setB_apart _ _ _ _ (.inr (.inl (show 27 < 31 by decide))),
    State.f_setF_apart _ _ _ _ (.inr (.inr (show 23 < 24 by decide))), State.f_setF_same _ _ _ (show 27 < 32 by decide)]
  exact Nat.mod_eq_of_lt h

theorem State.arg_lnkCmdShown (h : arg < 2 ^ 24) : (s.lnkCmdShown i op arg).f (F.LNK_CMD.ARG i) = arg := by
  rw [State.lnkCmdShown, State.f_setB_apart _ _ _ _ (.inr (.inl (show 23 < 31 by decide))),
    State.f_setF_same _ _ _ (show 23 < 32 by decide)]
  exact Nat.mod_eq_of_lt h

end

/-- Settles O9: each command by its equation; a queue entry leaves the ports and the registers of the Link Engine. -/
theorem linkPortStatesAndWords : Obligations.LinkPortStatesAndWords := by
  refine ⟨fun s hon hvalid hslot => ?_, fun s p hon => ⟨fun hst => ?_, fun hst => ?_⟩, fun s p v hv hne => ?_,
    fun s p escrow hpow => ?_, fun s p ty seq data trx hon hst => ⟨?_, fun hlate hctx hty hlo hhi => ?_,
      fun hlate => ?_, fun hlate hctx => ?_⟩, fun s p seq named hon hst hlate => ?_,
    fun s p hon hmask hst hnew => ?_, fun s p hon hex hnew => ?_, fun s hlive hon => ?_,
    fun s p op arg hon hesc => ?_⟩
  · refine ⟨_, congrArg Host.Outcome.next (s.linkSlot_of_valid hon hvalid hslot), State.slot_slotTaken _ _, ?_⟩
    rw [State.ports_slotTaken, State.lnk_advanceTo]
  · exact congrArg Host.Outcome.next (s.linkAligned_of_acquire p.idx hon hst)
  · exact congrArg Host.Outcome.next (s.linkAlignLost_of_aligned p.idx hon hst)
  · exact ⟨s.lstate_setLstate p.idx (portIdx_lt p) (by omega) hne, s.upmap_setLstate p.idx hne⟩
  · refine ⟨.intro rfl (s.alignCmd_of_powered p.idx escrow true hpow) ⟨onlyEp_setEp _ _ _, ?_⟩,
      .intro rfl (s.alignCmd_of_powered p.idx escrow false hpow) ⟨onlyEp_setEp _ _ _, ?_⟩⟩
    · rw [State.ep_setEp_same, Endpoint.port_setPort_same]
    · rw [State.ep_setEp_same, Endpoint.port_setPort_same]
  · exact ⟨_, congrArg Host.Outcome.next ((s.uplinkReceive_eq_uplinkWord p.idx (.inl rfl)).trans
      (s.uplinkWord_bad p.idx hon hst)), s.uperr_badUplink p.idx, s.replays_badUplink p.idx,
      s.sameRegsBut_badUplink p.idx, fun _ => rfl⟩
  · subst hty
    exact .intro rfl ((s.uplinkReceive_good p.idx (by decide) hon hst hlate).trans
        ((s.uplinkGood_report p.idx hlo hhi).trans (State.reportWord_of_on _ p.idx hctx)))
      ⟨State.ctx_reportStored _ _ _ _, State.got_reportStored _ _ _ _, fun _ => rfl⟩
  · exact .intro rfl ((s.uplinkReceive_eq_uplinkWord p.idx (.inr (.inl hlate))).trans
      (s.uplinkWord_late p.idx hon hst hlate)) ⟨fun _ => rfl, fun _ => rfl⟩
  · refine .intro rfl ((s.uplinkReceive_good p.idx (by decide) hon hst hlate).trans (s.uplinkGood_echo p.idx)) ?_
    rw [State.ctx_congr (State.mem_echoIn _ _ _ _), (s.uplinkCounted p.idx seq.toNat).reportWord_of_on _ hctx]
    exact State.ctx_reportStored _ _ 7 data
  · exact .intro rfl ((s.uplinkReceive_good p.idx (by decide) hon hst hlate).trans
        ((s.uplinkGood_nak p.idx).trans (State.nakIn_frame _ _ _)))
      ⟨State.f_incF_same s (F.LNK_ERRCNT.DNNAK p.idx) 1 (show 31 < 32 by decide),
        (onlyRegs_incF s (F.LNK_ERRCNT.DNNAK p.idx) 1).2, fun _ => rfl⟩
  · refine ⟨s.capsetFull p.idx, congrArg Host.Outcome.next (s.capsetComplete_of_full p.idx hon hmask hst hnew), ?_,
      fun j hj => ?_⟩
    · rw [State.port_capsetFull, State.port_modPort_same]
    · rw [State.port_capsetFull, State.port_modPort_ne _ _ _ hj]
  · refine ⟨s.lostShown p.idx, congrArg Host.Outcome.next (s.linkLost_of_exhausted p.idx hon hex hnew),
      s.lostmap_lostShown p.idx, ?_, s.sameRegsBut_lostShown p.idx⟩
    rw [State.lostShown, State.port_modPort_same]
  · refine .intro rfl (s.stopRequestCmd_of_live hlive hon) ⟨fun i => ?_, State.reg_congr (s.regs_forAll_stopAsked _),
      State.ldb_congr (s.mem_forAll_stopAsked _)⟩
    rw [State.stops_forAll_stopAsked]
    simp only [List.mem_filter]
  · obtain ⟨hregs, hmem⟩ := s.lnkCmdWrite_of_on p.idx op.toNat arg.toNat hon hesc
    exact .intro rfl rfl ⟨(State.fb_congr hregs _).trans (s.pend_lnkCmdShown p.idx _ _),
      (State.f_congr hregs _).trans (s.op_lnkCmdShown p.idx _ _ op.isLt),
      (State.f_congr hregs _).trans (s.arg_lnkCmdShown p.idx _ _ arg.isLt),
      fun a ha => (State.reg_congr hregs a).trans ((s.onlyRegs_lnkCmdShown p.idx _ _).2 a ha), State.ldb_congr hmem⟩

end Sys2Proof.Machine

/-! The Cell Scheduler (04 R119, R123, R134, R149; 07 R252): the passes and their ends, the figure-of-merit window, a
command to a cell, and the police of a port's delay. First what a write that is done on a condition leaves. -/

namespace Sys2Proof.Machine

/-! ## Writes done on a condition, and the frame of a write of registers -/

section
variable {s t : State} {l : List Nat}

theorem OnlyRegs.when {c : Bool} {f : State → State} (h : OnlyRegs l s t) (hf : OnlyRegs l s (f t)) :
    OnlyRegs l s (t.when c f) := by
  unfold State.when
  split
  · exact hf
  · exact h

theorem OnlyRegs.sameMem (h : OnlyRegs l s t) : SameMem s t :=
  State.ldb_congr (congrArg State.mem h.1 :)

theorem OnlyRegs.now (h : OnlyRegs l s t) : t.now = s.now := (congrArg State.now h.1 :)

end

/-! ## The arm pass and the cadence pass (04 R119) -/

section
variable (s : State)

/-- The arm pass has formed its commands: APASS stands, with the length of the pass and its end. -/
def State.armPassShown (s : State) (cycles endT : Nat) : State :=
  let t := (s.setB F.CS_STATUS.APASS true).setF F.CS_STATUS.PASSCYC (min 65535 cycles)
  { t with cs := { t.cs with armDone := true, armEnd := some endT } }

theorem State.apass_armPassShown (cycles endT : Nat) : (s.armPassShown cycles endT).fb F.CS_STATUS.APASS = true :=
  (State.fb_setF_apart _ F.CS_STATUS.PASSCYC _ _ (by decide)).trans (State.fb_setB_same s _ _ rfl (by decide))

theorem State.passcyc_armPassShown (cycles endT : Nat) :
    (s.armPassShown cycles endT).f F.CS_STATUS.PASSCYC = min 65535 cycles :=
  (State.f_setF_same _ F.CS_STATUS.PASSCYC _ (by decide)).trans
    (Nat.mod_eq_of_lt (show min 65535 cycles < 2 ^ 16 by omega))

/-- The arm pass of a period runs once, at T_k + RCUT × 3,200 ticks (log 4). -/
theorem State.armPass_of_due {t : State} (hon : s.csOn = true) (hdone : s.cs.armDone = false)
    (ht : t = s.advanceTo (s.boundary s.tm.k + s.f F.CS_TIMING.RCUT * 3200)) : ∃ formed : State, s.armPass =
      formed.armPassShown t.tArm (t.boundary t.tm.k + t.f F.CS_TIMING.RCUT * 3200 + 64 * t.tArm) := by
  have hregs : t.regs = s.regs := by rw [ht, State.regs_advanceTo]
  rw [State.f_congr hregs, Nat.mul_comm 64, ht]
  exact ⟨_, if_pos (by simp [hon, hdone])⟩

/-- The cadence pass has formed its commands: CPASS stands, with the end of the pass. -/
def State.cadencePassShown (s : State) (endT : Nat) : State :=
  let t := s.setB F.CS_STATUS.CPASS true
  { t with cs := { t.cs with cadDone := true, cadEnd := some endT } }

theorem State.cpass_cadencePassShown (endT : Nat) : (s.cadencePassShown endT).fb F.CS_STATUS.CPASS = true :=
  State.fb_setB_same s F.CS_STATUS.CPASS true rfl (by decide)

/-- The cadence pass of a period runs once, at T_k + TCUT × 3,200 ticks (log 4). -/
theorem State.cadencePass_of_due {t : State} {start : Nat} (hon : s.csOn = true) (hdone : s.cs.cadDone = false)
    (ht : t = s.advanceTo (s.boundary s.tm.k + s.f F.CS_TIMING.TCUT * 3200))
    (hstart : start = t.boundary t.tm.k + t.f F.CS_TIMING.TCUT * 3200) : ∃ formed : State, s.cadencePass =
      formed.cadencePassShown
        (start + 64 * (16 + 2 * t.cadenceCells.foldl (fun n i => n + (t.cadenceCell start i).2) 0)) := by
  have hregs : t.regs = s.regs := by rw [ht, State.regs_advanceTo]
  rw [Nat.mul_comm 64, hstart, State.f_congr hregs, ht]
  exact ⟨_, if_pos (by simp [hon, hdone])⟩

/-! ## The end of a pass (04 R119, R123) -/

/-- A pass no longer stands in its flag, and one that ended after a slot it feeds stands in LATE. -/
def State.passOver (s : State) (flag : Field) (late : Bool) : State :=
  (s.setB flag false).when late fun t => t.setB F.CS_STATUS.LATE true

theorem State.onlyRegs_passOver {flag : Field} (late : Bool) (h : flag.addr = R.CS_STATUS) :
    OnlyRegs [R.CS_STATUS] s (s.passOver flag late) := by
  have hflag : OnlyRegs [R.CS_STATUS] s (s.setB flag false) := OnlyRegs.refl.setB (h ▸ List.mem_cons_self)
  exact hflag.when (hflag.setB List.mem_cons_self)

theorem State.fb_passOver {flag : Field} (late : Bool) (hbit : flag.hi = flag.lo) (hlo : flag.lo < 2) :
    (s.passOver flag late).fb flag = false := by
  have hflag : (s.setB flag false).fb flag = false := State.fb_setB_same s flag false hbit (by omega)
  unfold State.passOver State.when
  split
  · exact (State.fb_setB_apart _ F.CS_STATUS.LATE flag true (.inr (.inl hlo))).trans hflag
  · exact hflag

theorem State.passEnd_of_arm {x : Nat} (hlive : s.live = true) (hon : s.on 6 = true) (harm : s.cs.armEnd = some x)
    (hcad : s.cs.cadEnd = none) : ∃ late, s.passEnd =
      let t := (s.advanceTo x).passOver F.CS_STATUS.APASS late
      { t with cs := { t.cs with armEnd := none } } := by
  unfold State.passEnd
  rw [if_neg (by simp [hlive, hon]), harm, hcad]
  exact ⟨_, rfl⟩

theorem State.passEnd_of_cadence {x : Nat} (hlive : s.live = true) (hon : s.on 6 = true)
    (hcad : s.cs.cadEnd = some x) (harm : s.cs.armEnd = none) : ∃ late, s.passEnd =
      let t := (s.advanceTo x).passOver F.CS_STATUS.CPASS late
      { t with cs := { t.cs with cadEnd := none } } := by
  unfold State.passEnd
  rw [if_neg (by simp [hlive, hon]), harm, hcad]
  exact ⟨_, rfl⟩

/-- Stack time stands at the end of the pass (log 4), and of the registers and the memory only CS_STATUS changes. -/
theorem State.passOver_frame {x : Nat} {flag : Field} (late : Bool) (hx : x < 2 ^ 64) (h : flag.addr = R.CS_STATUS) :
    ((s.advanceTo x).passOver flag late).now = max s.now x ∧
      SameRegsBut [R.CS_STATUS] s ((s.advanceTo x).passOver flag late) ∧
      SameMem s ((s.advanceTo x).passOver flag late) := by
  have hover := (s.advanceTo x).onlyRegs_passOver late h
  exact ⟨hover.now.trans (s.now_advanceTo hx),
    fun a ha => (hover.2 a ha).trans (State.reg_congr (s.regs_advanceTo x) a),
    fun a => (hover.sameMem a).trans (State.ldb_congr (s.mem_advanceTo x) a)⟩

/-! ## The figure-of-merit window (04 R134, R135) -/

theorem State.arm_modArm_same (a : Nat) (f : ArmAux → ArmAux) : (s.modArm a f).arm a = f (s.arm a) :=
  tblGet_tblSet_same _ _ _ _

/-- T and Λ of arm block a are copied (R134). -/
def State.fomCopied (s : State) (a : Nat) : State :=
  (s.setReg (R.CS_AFOMT a) (wN (s.arm a).tCount)).setReg (R.CS_AFOML a) (wN (s.arm a).lam)

/-- The rotations are copied, and FOMX stands when T > 1.08 × Λ (R134, R135). -/
def State.fomJudged (s : State) (a : Nat) (x : ArmAux) : State :=
  ((s.setF (F.CS_AROT.BANDROT a) x.band).setF (F.CS_AROT.WEARROT a) x.wear).when
    (decide (108 * x.lam < 100 * x.tCount)) fun t => t.setB (F.CS_ASTAT.FOMX a) true

/-- The registers at the end of a window, where the credit starts anew. -/
def State.fomShown (s : State) (a : Nat) : State :=
  ((s.fomCopied a).fomJudged a (s.arm a)).setReg (R.CS_ACREDIT a) 0

/-- Beyond the registers, the counts of the block restart and the line start is taken. -/
theorem State.fomWindowEnd_of_due (a : Nat) (hlive : s.live = true) (hon : s.on 6 = true)
    (hdue : if s.fb (F.CS_ACFG.FOMFIX a) then 1000 ≤ (s.arm a).passes else s.ce.lineStart.testBit a = true) :
    s.fomWindowEnd a =
      let t := (s.fomShown a).modArm a fun y => { y with tCount := 0, lam := 0, passes := 0, band := 0, wear := 0 }
      { t with ce := { t.ce with lineStart := putBit t.ce.lineStart a false } } := by
  refine if_pos ?_
  rw [hlive, hon, Bool.true_and, Bool.true_and]
  split
  next hfix => exact decide_eq_true (by simpa [hfix] using hdue)
  next hfix => simpa [hfix] using hdue

theorem State.onlyRegs_fomJudged (a : Nat) (x : ArmAux) :
    OnlyRegs [R.CS_AROT a, R.CS_ASTAT a] s (s.fomJudged a x) := by
  have hrot : OnlyRegs [R.CS_AROT a, R.CS_ASTAT a] s
      ((s.setF (F.CS_AROT.BANDROT a) x.band).setF (F.CS_AROT.WEARROT a) x.wear) :=
    (OnlyRegs.refl.setF List.mem_cons_self).setF List.mem_cons_self
  exact hrot.when (hrot.setB (List.mem_cons_of_mem _ List.mem_cons_self))

/-- What follows the copies at the end of a window leaves them. -/
theorem State.reg_fomShown {a b : Nat} (h : b ∉ [R.CS_ACREDIT a, R.CS_AROT a, R.CS_ASTAT a]) :
    (s.fomShown a).reg b = (s.fomCopied a).reg b :=
  (State.reg_setReg_ne _ _ (List.ne_of_not_mem_cons h)).trans
    (((s.fomCopied a).onlyRegs_fomJudged a _).2 b (List.not_mem_of_not_mem_cons h))

theorem State.afoml_fomShown (a : Nat) :
    (s.fomShown a).reg (R.CS_AFOML a) = BitVec.ofNat 32 (s.arm a).lam := by
  rw [State.reg_fomShown _ (by simp [R.CS_AFOML, R.CS_ACREDIT, R.CS_AROT, R.CS_ASTAT])]
  exact State.reg_setReg_same _ _ _

theorem State.afomt_fomShown (a : Nat) :
    (s.fomShown a).reg (R.CS_AFOMT a) = BitVec.ofNat 32 (s.arm a).tCount := by
  rw [State.reg_fomShown _ (by simp [R.CS_AFOMT, R.CS_ACREDIT, R.CS_AROT, R.CS_ASTAT])]
  exact (State.reg_setReg_ne _ _ (by simp [R.CS_AFOMT, R.CS_AFOML])).trans (State.reg_setReg_same _ _ _)

theorem State.fomx_fomShown {a : Nat} (h : 108 * (s.arm a).lam < 100 * (s.arm a).tCount) :
    (s.fomShown a).fb (F.CS_ASTAT.FOMX a) = true := by
  have hne : (F.CS_ASTAT.FOMX a).addr ≠ R.CS_ACREDIT a := by simp [F.CS_ASTAT.FOMX, R.CS_ASTAT, R.CS_ACREDIT]
  rw [State.fomShown, State.fb_setReg_ne _ _ _ _ hne, State.fomJudged, State.when, if_pos (decide_eq_true h)]
  exact State.fb_setB_same _ _ _ rfl (show 16 < 32 by decide)

theorem State.sameMem_fomShown (a : Nat) : SameMem s (s.fomShown a) :=
  ((s.fomCopied a).onlyRegs_fomJudged a (s.arm a)).sameMem

/-! ## A command to a cell: CS_CELLCMD (04 R149) -/

theorem State.cellCmd_of_listed {v : Word} (hlive : s.live = true) (hon : s.on 6 = true)
    (hop : 1 ≤ fld v 31 28 ∧ fld v 31 28 ≤ 4) : s.cellCmd v =
      { (s.setB F.CS_CMDSTAT.BUSY true) with cs := { s.cs with cmd := some v } } :=
  (if_pos (by simp [hlive, hon])).trans (if_pos hop)

theorem State.cellCmd_of_unlisted {v : Word} (hlive : s.live = true) (hon : s.on 6 = true)
    (hop : ¬ (1 ≤ fld v 31 28 ∧ fld v 31 28 ≤ 4)) : s.cellCmd v = s.incF F.CS_CMDSTAT.NOEFFECT 1 :=
  (if_pos (by simp [hlive, hon])).trans (if_neg hop)

/-- The fields below OP do not reach it. -/
theorem op_cellWord {op cell arg : Nat} (esc : Bool) (hop : op < 16) (hcell : cell < 64) (harg : arg < 2 ^ 21) :
    fld (cellWord op esc cell arg) 31 28 = op := by
  have hesc : b2n esc ≤ 1 := by cases esc <;> decide
  simp only [fld, cellWord, wN, BitVec.toNat_ofNat]
  omega

/-- A word with OP 1 to 4 waits for the boundary, and BUSY stands until then. -/
theorem State.cellCmd_waits {c : Instr} {op w arg : Nat} {esc : Bool} {cell : Fin 64}
    (hc : exec c s = .next (s.cellCmd (cellWord op esc cell arg))) (hlive : s.live = true) (hon : s.on 6 = true)
    (hop : 1 ≤ op ∧ op ≤ 4) (harg : arg < 2 ^ 21)
    (hw : w = op * 0x10000000 + ((if esc then 0x08000000 else 0) + cell.val * 0x200000) + arg) :
    Completes c s fun t => t.cs.cmd = some (BitVec.ofNat 32 w) ∧ t.fb F.CS_CMDSTAT.BUSY = true ∧
      t.f F.CS_CMDSTAT.NOEFFECT = s.f F.CS_CMDSTAT.NOEFFECT ∧ SameRegsBut [R.CS_CMDSTAT] s t ∧ SameMem s t := by
  have hword : cellWord op esc cell arg = BitVec.ofNat 32 w := by
    have hesc : b2n esc * 2 ^ 27 = if esc then 0x08000000 else 0 := by cases esc <;> rfl
    have hsum : op * 2 ^ 28 + b2n esc * 2 ^ 27 + cell.val * 2 ^ 21 + arg = w := by
      rw [hw, hesc]
      ring
    rw [cellWord, wN, hsum]
  have hfld : fld (cellWord op esc cell arg) 31 28 = op := op_cellWord esc (by omega) cell.isLt harg
  refine .intro hc (s.cellCmd_of_listed hlive hon (by rwa [hfld])) ⟨congrArg some hword, ?_, ?_, ?_, fun _ => rfl⟩
  · exact State.fb_setB_same s F.CS_CMDSTAT.BUSY true rfl (by decide)
  · exact State.f_setB_apart s F.CS_CMDSTAT.BUSY F.CS_CMDSTAT.NOEFFECT true (by decide)
  · exact fun _ ha => State.reg_setB_ne s F.CS_CMDSTAT.BUSY true (List.ne_of_not_mem_cons ha)

theorem exec_cellcmdInvalidOp {op : BitVec 4} (h : op.toNat = 0 ∨ 5 ≤ op.toNat) :
    exec (.cellcmdInvalidOp op) s = .next (s.cellCmd 0) := congrArg Host.Outcome.next (if_neg (by omega))

/-! ## The police of a port's delay (07 R252) -/

/-- The last delay of port i is longer than the set-up admits. -/
def State.delayLong (s : State) (i : Nat) : Prop :=
  tblGet (fun _ => (0 : Nat)) s.adm.dAdm i + 8 * s.f F.LNK_MARGIN.M < (s.reg (R.LNK_DELAY i)).toNat % 2 ^ 24

/-- The long delays of port i in a row, up to 8. -/
def State.longRun (s : State) (i : Nat) : Nat := tblGet (fun _ => (0 : Nat)) s.adm.longCnt i

def State.setLongRun (s : State) (i n : Nat) : State :=
  { s with adm := { s.adm with longCnt := tblSet (fun _ => (0 : Nat)) s.adm.longCnt i n } }

theorem State.longRun_setLongRun (i n : Nat) : (s.setLongRun i n).longRun i = n := tblGet_tblSet_same _ _ _ _

/-- The eighth long delay in a row is counted, and the bit of the port stands in ADM_LONGMAP. -/
def State.longShown (s : State) (i : Nat) : State :=
  (s.setLongRun i 8).setReg (R.ADM_LONGMAP (i / 32)) (setFld (s.reg (R.ADM_LONGMAP (i / 32))) (i % 32) (i % 32) 1)

theorem State.longmap_longShown (i : Nat) :
    bitAt ((s.longShown i).reg (R.ADM_LONGMAP (i / 32))) (i % 32) = true := by
  rw [State.longShown, State.reg_setReg_same, bitAt_setFld_same _ _ _ (Nat.mod_lt _ (by decide))]
  rfl

theorem State.sameRegsBut_longShown (i : Nat) : SameRegsBut [R.ADM_LONGMAP (i / 32)] s (s.longShown i) :=
  fun _ ha => State.reg_setReg_ne (s.setLongRun i 8) _ (List.ne_of_not_mem_cons ha)

theorem State.policeDelay_of_eighth {i : Nat} (hlong : s.delayLong i) (hrun : s.longRun i = 7) :
    s.policeDelay i = (s.longShown i).raise 31 := by
  unfold State.delayLong at hlong
  unfold State.longRun at hrun
  simp only [State.policeDelay, hlong, hrun, decide_true, if_true]
  rfl

theorem State.policeDelay_of_long {i : Nat} (hlong : s.delayLong i) (hrun : s.longRun i ≠ 7) :
    s.policeDelay i = s.setLongRun i (min 8 (s.longRun i + 1)) := by
  unfold State.delayLong at hlong
  unfold State.longRun at hrun
  simp only [State.policeDelay, hlong, hrun, decide_true, if_true, and_false, if_false]
  rfl

theorem State.policeDelay_of_not_long {i : Nat} (hlong : ¬ s.delayLong i) : s.policeDelay i = s.setLongRun i 0 := by
  unfold State.delayLong at hlong
  simp only [State.policeDelay, hlong, decide_false, Bool.false_eq_true, if_false]
  rfl

end

/-- Settles O24: each pass, end and command by its equation, and then what the writes of its flags and counts read. -/
theorem schedulerPassesAndCommands : Obligations.SchedulerPassesAndCommands := by
  refine ⟨fun s hon hdone => ?_, fun s hon hdone => ?_,
    fun s x hlive hon hx => ⟨fun harm hcad => ?_, fun hcad harm => ?_⟩, fun s a hlive hon hdue => ?_,
    fun s esc cell x y m hlive hon => ?_, fun s op hlive hon hop => ?_,
    fun s p => ⟨fun hlong hrun => ?_, fun hlong hrun => ?_, fun hlong => ?_⟩⟩
  · obtain ⟨formed, h⟩ := s.shareSplit.armPass_of_due hon hdone rfl
    exact .intro rfl h ⟨rfl, formed.apass_armPassShown _ _, formed.passcyc_armPassShown _ _, rfl⟩
  · obtain ⟨formed, h⟩ := s.cadencePass_of_due hon hdone rfl rfl
    exact .intro rfl h ⟨rfl, formed.cpass_cadencePassShown _, rfl⟩
  · obtain ⟨late, h⟩ := s.passEnd_of_arm hlive hon harm hcad
    obtain ⟨hnow, hregs, hmem⟩ := s.passOver_frame late hx (show F.CS_STATUS.APASS.addr = R.CS_STATUS from rfl)
    exact .intro rfl h ⟨hnow, rfl, State.fb_passOver _ late rfl (by decide), hregs, hmem⟩
  · obtain ⟨late, h⟩ := s.passEnd_of_cadence hlive hon hcad harm
    obtain ⟨hnow, hregs, hmem⟩ := s.passOver_frame late hx (show F.CS_STATUS.CPASS.addr = R.CS_STATUS from rfl)
    exact .intro rfl h ⟨hnow, rfl, State.fb_passOver _ late rfl (by decide), hregs, hmem⟩
  · have hcounts := (s.fomShown a).arm_modArm_same a fun y =>
      { y with tCount := 0, lam := 0, passes := 0, band := 0, wear := 0 }
    exact .intro rfl (s.fomWindowEnd_of_due a hlive hon hdue) ⟨s.afomt_fomShown a, s.afoml_fomShown a,
      State.reg_setReg_same _ _ _, congrArg ArmAux.tCount hcounts, congrArg ArmAux.lam hcounts,
      congrArg ArmAux.passes hcounts, s.fomx_fomShown, s.sameMem_fomShown a⟩
  · have hm := m.isLt
    have harg : b2n x * 2 ^ 17 + b2n y * 2 ^ 16 + m.toNat < 2 ^ 21 ∧
        b2n x * 2 ^ 17 + b2n y * 2 ^ 16 + m.toNat =
          (if x then 0x20000 else 0) + (if y then 0x10000 else 0) + m.toNat := by
      cases x <;> cases y <;> simp [b2n] <;> omega
    obtain ⟨hlt, heq⟩ := harg
    exact ⟨s.cellCmd_waits rfl hlive hon (by decide) (by decide) (by omega),
      s.cellCmd_waits rfl hlive hon (by decide) (by decide) (by omega),
      s.cellCmd_waits rfl hlive hon (by decide) hlt (by omega),
      s.cellCmd_waits rfl hlive hon (by decide) (by decide) (by omega)⟩
  · exact .intro (exec_cellcmdInvalidOp s hop) (s.cellCmd_of_unlisted hlive hon (by decide))
      ⟨State.f_incF_same s F.CS_CMDSTAT.NOEFFECT 1 (by decide), rfl, onlyRegs_incF s F.CS_CMDSTAT.NOEFFECT 1⟩
  · exact ⟨s.longShown p.idx, congrArg Host.Outcome.next (s.policeDelay_of_eighth hlong hrun),
      s.longmap_longShown p.idx, s.sameRegsBut_longShown p.idx⟩
  · exact .intro rfl (s.policeDelay_of_long hlong hrun) ⟨s.longRun_setLongRun p.idx _, fun _ => rfl⟩
  · exact .intro rfl (s.policeDelay_of_not_long hlong) ⟨s.longRun_setLongRun p.idx 0, fun _ => rfl⟩

end Sys2Proof.Machine

/-! The memories of the Control Engine (05 R160, R172 to R174, R180, R196; 06 R198): loads and swaps of the coefficient
banks, parameter and angle writes, and parity. First what a write of a word leaves, and what is read after a row of
writes at places of their own. -/

namespace Sys2Proof.Machine

/-! ## Words stored with fresh parity -/

section
variable (s : State) {a b : Nat} (v : Word)

theorem State.ldw_congr {t u : State} (h : t.mem = u.mem) (a : Nat) : t.ldw a = u.ldw a := by
  simp only [State.ldw, State.ldb, h]

@[simp] theorem State.regs_store : (s.store a v).regs = s.regs := rfl
@[simp] theorem State.reg_store (r : Nat) : (s.store a v).reg r = s.reg r := rfl

theorem State.ldb_store_ne (h : b < a ∨ a + 4 ≤ b) : (s.store a v).ldb b = s.ldb b := s.ldb_stw_ne a v b h

@[simp] theorem State.ldw_store_same : (s.store a v).ldw a = v := s.ldw_stw_same a v

theorem State.ldw_store_apart (h : b + 4 ≤ a ∨ a + 4 ≤ b) : (s.store a v).ldw b = s.ldw b := s.ldw_stw_apart a v b h

theorem State.isBad_store (h : a % 4 = 0) : (s.store a v).isBad a = false := by
  rw [State.isBad, show a / 4 * 4 = a by omega]
  exact tblGet_tblSet_same _ _ _ _

/-- Every byte outside the addresses from `lo` up to `hi` reads the same. -/
def SameMemOut (lo hi : Nat) (s t : State) : Prop := ∀ b, b < lo ∨ hi ≤ b → t.ldb b = s.ldb b

variable {s} {t : State} {lo hi : Nat} {v}

theorem SameMemOut.refl : SameMemOut lo hi s s := fun _ _ => rfl

theorem SameMemOut.store (h : SameMemOut lo hi s t) (hlo : lo ≤ a) (hhi : a + 4 ≤ hi) :
    SameMemOut lo hi s (t.store a v) := fun b hb => (t.ldb_store_ne v (by omega)).trans (h b hb)

theorem SameMemOut.ldw (h : SameMemOut lo hi s t) (hb : b + 4 ≤ lo ∨ hi ≤ b) : t.ldw b = s.ldw b := by
  simp only [State.ldw, h b (by omega), h (b + 1) (by omega), h (b + 2) (by omega), h (b + 3) (by omega)]

end

/-! ## Rows of writes, and the frame of a write of registers -/

section
variable {s t : State} {l : List Nat}

theorem State.forAll_range_succ (op : State → Nat → State) (n : Nat) :
    s.forAll (List.range (n + 1)) op = op (s.forAll (List.range n) op) n := by
  simp [State.forAll, List.range_succ]

/-- After a row of n operations, place i reads what operation i gave it, where no later operation changes it. -/
theorem State.forAll_range_reads {β : Type} {op : State → Nat → State} {read : State → Nat → β} {v : Nat → β} {n : Nat}
    (hsame : ∀ i, i < n → read (op (s.forAll (List.range i) op) i) i = v i)
    (hother : ∀ t i j, i < j → j < n → read (op t j) i = read t i) {i : Nat} (hi : i < n) :
    read (s.forAll (List.range n) op) i = v i := by
  induction n with
  | zero => exact absurd hi (Nat.not_lt_zero i)
  | succ n ih =>
    rw [State.forAll_range_succ]
    rcases Nat.lt_succ_iff_lt_or_eq.1 hi with hlt | rfl
    · rw [hother _ _ _ hlt (Nat.lt_succ_self n)]
      exact ih (fun j hj => hsame j (Nat.lt_succ_of_lt hj))
        (fun t j k hjk hk => hother t j k hjk (Nat.lt_succ_of_lt hk)) hlt
    · exact hsame i (Nat.lt_succ_self i)

theorem SameRegsBut.ofRegs (h : t.regs = s.regs) : SameRegsBut l s t := fun a _ => State.reg_congr h a

theorem SameRegsBut.congr {u : State} (h : SameRegsBut l s t) (hregs : u.regs = t.regs) : SameRegsBut l s u :=
  fun a ha => (State.reg_congr hregs a).trans (h a ha)

theorem SameRegsBut.trans_regs {u : State} (h : SameRegsBut l t u) (hregs : t.regs = s.regs) : SameRegsBut l s u :=
  fun a ha => (h a ha).trans (State.reg_congr hregs a)

theorem SameRegsBut.setReg {a : Nat} {v : Word} (h : SameRegsBut l s t) (ha : a ∈ l) : SameRegsBut l s (t.setReg a v) :=
  fun b hb => (t.reg_setReg_ne v (ne_of_mem_of_not_mem ha hb).symm).trans (h b hb)

theorem SameRegsBut.setF {x : Field} {v : Nat} (h : SameRegsBut l s t) (hx : x.addr ∈ l) :
    SameRegsBut l s (t.setF x v) := h.setReg hx

theorem SameRegsBut.setB {x : Field} {b : Bool} (h : SameRegsBut l s t) (hx : x.addr ∈ l) :
    SameRegsBut l s (t.setB x b) := h.setF hx

end

/-! ## Loads of the coefficient banks, and the swap request (05 R172 to R174) -/

section
variable (s : State)

/-- CE_LOAD holds the FIRST and LAST that were written. -/
def State.loadNamed (s : State) (first last : Nat) : State :=
  (s.setF F.CE_LOAD.FIRST first).setF F.CE_LOAD.LAST last

/-- A load of the entries from `first` to `last` runs from this REFCLK cycle on. -/
def State.loadStarted (s : State) (first last : Nat) : State :=
  let t := (s.loadNamed first last).setB F.CE_BANK.LOADBUSY true
  { t with ce := { t.ce with load := some (first, last), loadAt := t.tm.refclk } }

theorem State.ceLoad_of_busy (first last : Nat) (hlive : s.live = true) (hon : s.on 5 = true)
    (hbusy : s.fb F.CE_BANK.LOADBUSY = true) :
    s.ceLoad first last = (s.loadNamed first last).setB F.CE_BANK.LOADREJ true := by
  unfold State.ceLoad
  rw [if_pos (by simp [hlive, hon]), if_pos hbusy]
  rfl

theorem State.ceLoad_of_idle (first last : Nat) (hlive : s.live = true) (hon : s.on 5 = true)
    (hidle : s.fb F.CE_BANK.LOADBUSY = false) : s.ceLoad first last = s.loadStarted first last := by
  unfold State.ceLoad
  rw [if_pos (by simp [hlive, hon]), if_neg (by simp [hidle])]
  rfl

theorem State.first_loadStarted {first : Nat} (last : Nat) (h : first < 2 ^ 14) :
    (s.loadStarted first last).f F.CE_LOAD.FIRST = first :=
  (State.f_setB_apart _ F.CE_BANK.LOADBUSY F.CE_LOAD.FIRST _ (by decide)).trans <|
    (State.f_setF_apart _ F.CE_LOAD.LAST F.CE_LOAD.FIRST _ (by decide)).trans <|
      (State.f_setF_same s F.CE_LOAD.FIRST _ (by decide)).trans (Nat.mod_eq_of_lt h)

theorem State.last_loadStarted (first : Nat) {last : Nat} (h : last < 2 ^ 14) :
    (s.loadStarted first last).f F.CE_LOAD.LAST = last :=
  (State.f_setB_apart _ F.CE_BANK.LOADBUSY F.CE_LOAD.LAST _ (by decide)).trans <|
    (State.f_setF_same _ F.CE_LOAD.LAST _ (by decide)).trans (Nat.mod_eq_of_lt h)

theorem State.sameRegsBut_loadStarted (first last : Nat) :
    SameRegsBut [R.CE_LOAD, R.CE_BANK] s (s.loadStarted first last) := by
  have hload : R.CE_LOAD ∈ [R.CE_LOAD, R.CE_BANK] := List.mem_cons_self
  have hbank : R.CE_BANK ∈ [R.CE_LOAD, R.CE_BANK] := List.mem_cons_of_mem _ List.mem_cons_self
  have h : OnlyRegs [R.CE_LOAD, R.CE_BANK] s ((s.loadNamed first last).setB F.CE_BANK.LOADBUSY true) :=
    ((OnlyRegs.refl.setF hload).setF hload).setB hbank
  exact h.2.congr rfl

@[simp] theorem State.regs_advanceCycles (n : Nat) : (s.advanceCycles n).regs = s.regs := s.regs_advanceTo _
@[simp] theorem State.mem_advanceCycles (n : Nat) : (s.advanceCycles n).mem = s.mem := s.mem_advanceTo _

theorem State.masterAddr_congr {t u : State} (h : t.regs = u.regs) (bank c : Nat) :
    t.masterAddr bank c = u.masterAddr bank c := by
  rw [State.masterAddr, State.masterAddr, State.f_congr h]

theorem coefAddr_add (bank c n : Nat) : coefAddr bank (c + n) = coefAddr bank c + 8 * n := by
  unfold coefAddr
  omega

/-- VALUE and SHIFT of an entry as two words. -/
def State.coefWords (s : State) (bank c : Nat) : Word × Word :=
  (s.ldw (coefAddr bank c), s.ldw (coefAddr bank c + 4))

/-- An entry of the master copy as two words: the second holds SHIFT alone (R172). -/
def State.masterWords (s : State) (bank c : Nat) : Word × Word :=
  (s.ldw (s.masterAddr bank c), s.ldw (s.masterAddr bank c + 4) &&& 0xFF)

theorem State.coefWords_takeCoef (bank c : Nat) :
    (s.takeCoef bank c).coefWords bank c = s.masterWords bank c := by
  rw [State.coefWords, State.takeCoef, State.ldw_store_apart _ _ (.inl (Nat.le_refl _)), State.ldw_store_same,
    State.ldw_store_same]
  rfl

theorem SameMemOut.takeCoef {t : State} {lo hi bank c : Nat} {s : State} (h : SameMemOut lo hi s t)
    (hlo : lo ≤ coefAddr bank c) (hhi : coefAddr bank c + 8 ≤ hi) : SameMemOut lo hi s (t.takeCoef bank c) :=
  (h.store hlo (by omega)).store (by omega) (by omega)

theorem SameMemOut.coefWords {t : State} {lo hi bank c : Nat} {s : State} (h : SameMemOut lo hi s t)
    (hc : coefAddr bank c + 8 ≤ lo ∨ hi ≤ coefAddr bank c) : t.coefWords bank c = s.coefWords bank c := by
  rw [State.coefWords, State.coefWords, h.ldw (by omega), h.ldw (by omega)]

/-- The n entries of a bank from `first` on are taken from the master copy. -/
def State.coefsTaken (s : State) (bank first n : Nat) : State :=
  s.forAll (List.range n) fun t i => t.takeCoef bank (first + i)

theorem State.regs_coefsTaken (bank first n : Nat) : (s.coefsTaken bank first n).regs = s.regs :=
  State.forAll_keeps (fun t => t.regs = s.regs) _ _ s rfl fun _ _ _ h => h

theorem State.sameMemOut_coefsTaken (bank first n : Nat) :
    SameMemOut (coefAddr bank first) (coefAddr bank (first + n)) s (s.coefsTaken bank first n) := by
  refine State.forAll_keeps (SameMemOut _ _ s) _ _ s SameMemOut.refl fun t i hi ht => ?_
  have hlt : i < n := List.mem_range.1 hi
  exact ht.takeCoef (by rw [coefAddr_add]; omega) (by rw [coefAddr_add, coefAddr_add]; omega)

/-- Every entry that a load names stands as the master copy holds it, where the copy lies below CE memory. -/
theorem State.coefWords_coefsTaken {bank first n i : Nat} (hi : i < n)
    (hbelow : s.masterAddr bank (first + (n - 1)) + 8 ≤ 0x31000000) :
    (s.coefsTaken bank first n).coefWords bank (first + i) = s.masterWords bank (first + i) := by
  refine State.forAll_range_reads (s := s) (op := fun t i => t.takeCoef bank (first + i))
    (read := fun t i => t.coefWords bank (first + i)) (v := fun i => s.masterWords bank (first + i))
    (fun i hi => ?_) (fun t i j hij _ => ?_) hi
  · have hregs := s.regs_coefsTaken bank first i
    have hmem := s.sameMemOut_coefsTaken bank first i
    have hlow : s.masterAddr bank (first + i) + 8 ≤ coefAddr bank first := by
      unfold State.masterAddr coefAddr at *
      omega
    exact ((s.coefsTaken bank first i).coefWords_takeCoef bank (first + i)).trans <| by
      rw [State.masterWords, State.masterWords, State.masterAddr_congr hregs, hmem.ldw (by omega), hmem.ldw (by omega)]
  · have hj : SameMemOut (coefAddr bank (first + j)) (coefAddr bank (first + j) + 8) t (t.takeCoef bank (first + j)) :=
      SameMemOut.refl.takeCoef (Nat.le_refl _) (Nat.le_refl _)
    exact hj.coefWords (.inl (by rw [coefAddr_add, coefAddr_add]; omega))

/-- CE_BANK at the end of a load: PBAD shows what the limit check found, and no load is busy (R173). -/
def State.loadShown (s : State) (bad : Bool) : State :=
  (s.setB F.CE_BANK.PBAD bad).setB F.CE_BANK.LOADBUSY false

/-- No load runs any more. -/
def State.loadClosed (s : State) (bad : Bool) : State :=
  { s.loadShown bad with ce := { s.ce with load := none } }

/-- The copy takes time (log 4), and then the bank that is not active holds it. -/
theorem State.loadDone_of_running {first last : Nat} (h : s.ce.load = some (first, last)) (hlive : s.live = true)
    (hon : s.on 5 = true) : s.loadDone =
      let t := (s.advanceCycles (s.ce.loadAt + 2 * (last + 1 - first) - s.tm.refclk)).coefsTaken (1 - s.activeBank)
        first (last + 1 - first)
      t.loadClosed (t.limitsBad (1 - s.activeBank)) := by
  unfold State.loadDone
  rw [h]
  exact if_pos (by simp [hlive, hon])

/-- The limit check reads the memory and CE_TRKCFGn. -/
theorem State.limitsBad_congr {t u : State} (hmem : t.mem = u.mem)
    (hregs : ∀ n, t.reg (R.CE_TRKCFG n) = u.reg (R.CE_TRKCFG n)) (bank : Nat) :
    t.limitsBad bank = u.limitsBad bank := by
  have hen : ∀ n, t.fb (F.CE_TRKCFG.EN n) = u.fb (F.CE_TRKCFG.EN n) := fun n => congrArg (bitAt · 31) (hregs n)
  have hk : ∀ n, t.f (F.CE_TRKCFG.KADDR n) = u.f (F.CE_TRKCFG.KADDR n) := fun n => congrArg (fld · 29 16) (hregs n)
  simp only [State.limitsBad, State.ldw_congr hmem, hen, hk]

variable (bad : Bool)

theorem State.regs_loadClosed : (s.loadClosed bad).regs = (s.loadShown bad).regs := rfl

theorem State.onlyRegs_loadShown : OnlyRegs [R.CE_BANK] s (s.loadShown bad) :=
  (OnlyRegs.refl.setB List.mem_cons_self).setB List.mem_cons_self

theorem State.sameRegsBut_loadClosed : SameRegsBut [R.CE_BANK] s (s.loadClosed bad) :=
  (s.onlyRegs_loadShown bad).2.congr (s.regs_loadClosed bad)

theorem ceTrkcfg_ne_ceBank (n : Nat) : R.CE_TRKCFG n ≠ R.CE_BANK := by
  unfold R.CE_TRKCFG R.CE_BANK
  omega

theorem State.limitsBad_loadClosed (bank : Nat) : (s.loadClosed bad).limitsBad bank = s.limitsBad bank :=
  State.limitsBad_congr (t := s.loadClosed bad) (u := s) rfl
    (fun n => s.sameRegsBut_loadClosed bad (R.CE_TRKCFG n) (by simp [ceTrkcfg_ne_ceBank])) bank

theorem State.pbad_loadClosed : (s.loadClosed bad).fb F.CE_BANK.PBAD = bad :=
  (State.fb_congr (s.regs_loadClosed bad) _).trans <|
    (State.fb_setB_apart _ F.CE_BANK.LOADBUSY F.CE_BANK.PBAD _ (by decide)).trans
      (State.fb_setB_same s _ _ rfl (by decide))

theorem State.loadbusy_loadClosed : (s.loadClosed bad).fb F.CE_BANK.LOADBUSY = false :=
  (State.fb_congr (s.regs_loadClosed bad) _).trans (State.fb_setB_same _ F.CE_BANK.LOADBUSY false rfl (by decide))

theorem State.swapRequest_of_on (hlive : s.live = true) (hon : s.on 5 = true) :
    s.swapRequest = s.setB F.CE_BANK.SWAPPEND true := if_pos (by simp [hlive, hon])

end

/-! ## Parameter and angle writes (05 R160, R180) -/

section
variable (s : State)

/-- A write in the snapshot phase waits for its end. -/
theorem State.paramWrite_of_snapshot (j : Nat) (v : Word) (hlive : s.live = true) (hon : s.on 5 = true)
    (hce : s.ceOn = true) (hopen : s.ce.snapOpen = true) (hnow : s.now < s.ceTime s.tSnap) :
    s.paramWrite j v = { s with ce := { s.ce with held := s.ce.held ++ [(j, v)] } } := by
  unfold State.paramWrite
  rw [if_pos (by simp [hlive, hon]), if_pos (by simp [hce, hopen, hnow])]

/-- Outside the snapshot phase and with no write held, a write stands at once. -/
theorem State.paramWrite_of_closed (j : Nat) (v : Word) (hlive : s.live = true) (hon : s.on 5 = true)
    (hheld : s.ce.held = []) (hclosed : s.ce.snapOpen = false) : s.paramWrite j v =
      ({ s with ce := { s.ce with held := [], snapOpen := false } } : State).store (paramAddr j) v := by
  unfold State.paramWrite
  rw [if_pos (by simp [hlive, hon]), if_neg (by simp [hclosed])]
  simp only [State.flushHeld, hheld]
  rfl

theorem State.angleWrite_of_open (p t i : Nat) (v : Word) (hrun : s.canRun p = true) (hon : s.on 5 = true)
    (h : s.angleOpen t = true) : s.angleWrite p t i v = (s.store (0x32000000 + t * 0x1000 + i * 4) v).retire p := by
  unfold State.angleWrite
  rw [if_pos (by simp [hrun, hon]), if_pos h]

theorem State.angleWrite_of_closed (p t i : Nat) (v : Word) (hrun : s.canRun p = true) (hon : s.on 5 = true)
    (h : s.angleOpen t = false) : s.angleWrite p t i v = s.retireWith p 3 := by
  unfold State.angleWrite
  rw [if_pos (by simp [hrun, hon]), if_neg (by simp [h])]

@[simp] theorem State.proc_retire (p : Nat) : (s.retire p).proc p = retireProc (s.proc p) := s.proc_setProc_same p _

end

/-! ## Parity (05 R196; 06 R198) -/

section
variable (s : State)

theorem coefOf?_of_below {off : Nat} (h : off < 0x40000) :
    coefOf? (0x31000000 + off / 4 * 4) = some (off / 0x20000, off % 0x20000 / 8) := by
  unfold coefOf?
  rw [if_pos (by omega), Option.some.injEq, Prod.mk.injEq]
  omega

theorem coefOf?_of_above {off : Nat} (h : 0x40000 ≤ off) : coefOf? (0x31000000 + off / 4 * 4) = none :=
  if_neg (by omega)

/-- A coefficient is restored from its master copy. -/
theorem State.ceParity_of_coef {off : Nat} (hlive : s.live = true) (hon : s.on 5 = true) (h : off < 0x40000) :
    s.ceParity off = (s.takeCoef (off / 0x20000) (off % 0x20000 / 8)).restored (0x31000000 + off / 4 * 4) := by
  unfold State.ceParity
  rw [if_pos (by simp [hlive, hon]), coefOf?_of_below h]

/-- No other word of CE memory has a copy. -/
theorem State.ceParity_of_bad {off : Nat} (hlive : s.live = true) (hon : s.on 5 = true) (h : 0x40000 ≤ off) :
    s.ceParity off = (s.badWord (0x31000000 + off / 4 * 4)).raise 10 := by
  unfold State.ceParity
  rw [if_pos (by simp [hlive, hon]), coefOf?_of_above h]

theorem State.isBad_badWord (a : Nat) : (s.badWord a).isBad a = true := tblGet_tblSet_same _ _ _ _

theorem State.parityRestoration_of_reread (p : Nat) (addr : Word) (fetch : Bool) (hrun : s.canRun p = true) :
    s.parityRestoration p addr fetch false = s.incF F.FCU_PARCNT.REREAD 1 := by
  unfold State.parityRestoration
  rw [if_neg (by simp [hrun])]
  rfl

theorem State.parityRestoration_of_restorable {p a : Nat} {addr : Word} (fetch : Bool) (hrun : s.canRun p = true)
    (ha : physAddr p addr.toNat / 4 * 4 = a) (h : s.restorable p a = true) :
    s.parityRestoration p addr fetch true = { s with fcu := { s.fcu with restoring := some (p, a) } } := by
  unfold State.parityRestoration
  rw [if_neg (by simp [hrun]), ha]
  exact if_pos h

/-- A processor whose word is being restored does not run (R198). -/
theorem State.canRun_of_restoring {p a : Nat} (h : s.fcu.restoring = some (p, a)) : s.canRun p = false := by
  simp [State.canRun, h]

theorem State.parityRestoration_of_bad {p a : Nat} {addr : Word} (fetch : Bool) (hrun : s.canRun p = true)
    (ha : physAddr p addr.toNat / 4 * 4 = a) (h : s.restorable p a = false) (hctx : regionOf a ≠ .context) :
    s.parityRestoration p addr fetch true = if fetch then
      ((s.badWord a).raise (badSource a)).exception p 5 addr
      else ((s.badWord a).raise (badSource a)).retireWith p 4 := by
  unfold State.parityRestoration
  rw [if_neg (by simp [hrun]), ha]
  simp only [h, hctx, Bool.not_true, Bool.false_eq_true, if_false]

/-- A context word is written back as the buddy sent it. -/
theorem State.restorationDone_of_context {p a : Nat} (data : Word) (h : s.fcu.restoring = some (p, a))
    (hlive : s.live = true) (hctx : regionOf a = .context) : s.restorationDone data =
      (({ s with fcu := { s.fcu with restoring := none } } : State).store a data).restored a := by
  simp only [State.restorationDone, h, hlive, hctx, if_true]

end

/-- Settles O29: each command by its equation; a load writes the entries it names and no other byte. -/
theorem engineMemoryLoadsAndParity : Obligations.EngineMemoryLoadsAndParity := by
  refine ⟨fun s first last hlive hon => ⟨fun hbusy => ?_, fun hidle => ?_⟩,
    fun s first last h hlive hon hle hlast _ hbelow => ?_, fun s hlive hon => ?_,
    fun s j v hlive hon => ⟨fun hce hopen hnow => ?_, fun hheld hclosed => ?_⟩,
    fun s p tb i v hrun hon => ⟨fun hopen => ?_, fun hclosed => ?_⟩,
    fun s off hlive hon => ⟨fun habove => ?_, fun hbelow => ?_⟩,
    fun s p addr fetch hrun => ⟨?_, fun h => ?_, fun h hctx => ?_⟩,
    fun s p a data h hlive hctx ha => ?_⟩
  · exact .intro rfl (s.ceLoad_of_busy _ _ hlive hon hbusy)
      ⟨State.fb_setB_same _ F.CE_BANK.LOADREJ true rfl (by decide), rfl, fun _ => rfl⟩
  · exact .intro rfl (s.ceLoad_of_idle _ _ hlive hon hidle)
      ⟨State.fb_setB_same _ F.CE_BANK.LOADBUSY true rfl (by decide), rfl, s.first_loadStarted _ first.isLt,
        s.last_loadStarted _ last.isLt, s.sameRegsBut_loadStarted _ _, fun _ => rfl⟩
  · generalize hu : s.advanceCycles (s.ce.loadAt + 2 * (last + 1 - first) - s.tm.refclk) = u
    have hregs : u.regs = s.regs := by rw [← hu, State.regs_advanceCycles]
    have hmem : u.mem = s.mem := by rw [← hu, State.mem_advanceCycles]
    have hlen : first + (last + 1 - first) = last + 1 := by omega
    refine .intro rfl ((s.loadDone_of_running h hlive hon).trans (by rw [hu]))
      ⟨rfl, State.loadbusy_loadClosed _ _, (State.pbad_loadClosed _ _).trans (State.limitsBad_loadClosed _ _ _).symm,
        fun c hfirst hc => ?_, fun a ha => ?_, fun a ha => ?_⟩
    · have hcopy := u.coefWords_coefsTaken (bank := 1 - s.activeBank) (first := first) (n := last + 1 - first)
        (i := c - first) (by omega)
        (by rw [State.masterAddr_congr hregs, show first + (last + 1 - first - 1) = last by omega]; exact hbelow)
      rw [show first + (c - first) = c by omega, State.masterWords, State.masterAddr_congr hregs,
        State.ldw_congr hmem, State.ldw_congr hmem] at hcopy
      exact ⟨congrArg Prod.fst hcopy, congrArg Prod.snd hcopy⟩
    · have hout := u.sameMemOut_coefsTaken (1 - s.activeBank) first (last + 1 - first)
      rw [hlen] at hout
      exact (hout a ha).trans (State.ldb_congr hmem a)
    · exact (State.sameRegsBut_loadClosed _ _ a ha).trans
        (State.reg_congr ((u.regs_coefsTaken _ _ _).trans hregs) a)
  · exact .intro rfl (s.swapRequest_of_on hlive hon) ⟨State.fb_setB_same s F.CE_BANK.SWAPPEND true rfl (by decide),
      State.f_setB_apart s F.CE_BANK.SWAPPEND F.CE_BANK.ACTIVE true (by decide), OnlyRegs.refl.setB List.mem_cons_self⟩
  · exact .intro rfl (s.paramWrite_of_snapshot _ _ hlive hon hce hopen hnow) ⟨rfl, fun _ => rfl, fun _ => rfl⟩
  · exact .intro rfl (s.paramWrite_of_closed _ _ hlive hon hheld hclosed)
      ⟨State.ldw_store_same _ _, fun _ => rfl, fun b hb => State.ldb_store_ne _ _ hb⟩
  · refine .intro rfl (s.angleWrite_of_open _ _ _ _ hrun hon hopen)
      ⟨State.ldw_store_same s _, fun b hb => State.ldb_store_ne s _ hb, fun _ => rfl, State.proc_retire _ _⟩
  · exact congrArg Host.Outcome.next (s.angleWrite_of_closed _ _ _ _ hrun hon hclosed)
  · exact ⟨_, congrArg Host.Outcome.next (s.ceParity_of_bad hlive hon habove), rfl, s.isBad_badWord _⟩
  · exact ⟨_, congrArg Host.Outcome.next (s.ceParity_of_coef hlive hon hbelow), rfl⟩
  · exact .intro rfl (s.parityRestoration_of_reread _ _ _ hrun)
      ⟨s.f_incF_same F.FCU_PARCNT.REREAD 1 (by decide), onlyRegs_incF s F.FCU_PARCNT.REREAD 1⟩
  · exact .intro rfl (s.parityRestoration_of_restorable _ hrun rfl h)
      ⟨rfl, State.canRun_of_restoring _ rfl, fun _ => rfl, fun _ => rfl⟩
  · exact ⟨_, rfl, s.isBad_badWord _, congrArg Host.Outcome.next (s.parityRestoration_of_bad _ hrun rfl h hctx)⟩
  · exact ⟨_, congrArg Host.Outcome.next (s.restorationDone_of_context _ h hlive hctx), rfl, State.ldw_store_same _ _,
      State.isBad_store _ _ ha, fun b hb => State.ldb_store_ne _ _ hb⟩

end Sys2Proof.Machine

/-! The period of the Control Engine (05 R159, R162, R163, R178, R182 to R185, R194, R195): programs, the commit window,
ramps, trackers, and the swap slot. -/

namespace Sys2Proof.Machine

/-! ## Programs (05 R162, R163) -/

section
variable (s : State)

@[simp] theorem State.ce_advanceTo (t : Nat) : (s.advanceTo t).ce = s.ce := by
  unfold State.advanceTo
  split <;> rfl

/-- The engine at the entry of the program in a slot, with RUN. -/
def State.programEntered (s : State) (r : ProgramRec) : State :=
  (s.modProc 5 fun q => { q with pc := wN r.code, run := .running, loops := [], calls := [] }).setB F.CE_STATUS.RUN true

/-- The program in a slot runs, and has run in this period. -/
def State.programRuns (s : State) (slot : Nat) (r : ProgramRec) : State :=
  let t := s.programEntered r
  { t with ce := { t.ce with slot := some slot, ran := slot :: t.ce.ran } }

theorem State.programStart_of_due {slot : Nat} {r : ProgramRec}
    (h : (s.adm.progs.find? fun r => decide (r.proc = 5 ∧ r.slot = slot)) = some r) (hce : s.ceOn = true)
    (hadm : s.admitted = true) (hsup : s.ce.supDone = true) (hswap : s.ce.swapNow = false) (hslot : s.ce.slot = none)
    (hran : slot ∉ s.ce.ran) (hdue : s.tm.k % r.mult = r.phase) :
    s.programStart slot = (s.advanceTo (s.ceTime (s.f (F.CE_PROGS.CYC slot)))).programRuns slot r := by
  unfold State.programStart
  rw [h]
  exact if_pos (by simp [hce, hadm, hsup, hswap, hslot, hran, hdue])

variable (slot : Nat) (r : ProgramRec)

theorem State.regs_programRuns : (s.programRuns slot r).regs = (s.setB F.CE_STATUS.RUN true).regs := rfl

theorem State.mem_programRuns : (s.programRuns slot r).mem = s.mem := rfl
theorem State.now_programRuns : (s.programRuns slot r).now = s.now := rfl
theorem State.slot_programRuns : (s.programRuns slot r).ce.slot = some slot := rfl
theorem State.ran_programRuns : (s.programRuns slot r).ce.ran = slot :: s.ce.ran := rfl

theorem State.run_programRuns : (s.programRuns slot r).fb F.CE_STATUS.RUN = true :=
  (State.fb_congr (s.regs_programRuns slot r) _).trans (State.fb_setB_same s _ _ rfl (by decide))

theorem State.sameRegsBut_programRuns : SameRegsBut [R.CE_STATUS] s (s.programRuns slot r) :=
  ((OnlyRegs.refl (s := s)).setB (x := F.CE_STATUS.RUN) List.mem_cons_self).2.congr (s.regs_programRuns slot r)

theorem State.proc_programRuns : (s.programRuns slot r).proc 5 =
    { s.proc 5 with pc := wN r.code, run := .running, loops := [], calls := [] } := s.proc_setProc_same 5 _

theorem State.programOverrun_of_running {j : Nat} (h : s.ce.slot = some j) (hce : s.ceOn = true) :
    s.programOverrun = (s.advanceTo (s.ceTime (s.f (F.CE_PROGD.CYC j)))).engineStop := by
  unfold State.programOverrun
  rw [h]
  exact if_pos hce

/-- CE_STATUS shows a program that was stopped. -/
def State.overrunShown (s : State) : State := (s.setB F.CE_STATUS.OVERRUN true).setB F.CE_STATUS.RUN false

/-- The engine after its program was stopped, before source 13 is raised (R163). -/
def State.engineHalted (s : State) : State :=
  let t := s.overrunShown.modProc 5 fun q => { q with run := .halted }
  { t with ce := { t.ce with overrun := true, slot := none } }

theorem State.engineStop_eq : s.engineStop = s.engineHalted.raise 13 := rfl

theorem State.regs_engineHalted : s.engineHalted.regs = s.overrunShown.regs := rfl

theorem State.mem_engineHalted : s.engineHalted.mem = s.mem := rfl
theorem State.now_engineHalted : s.engineHalted.now = s.now := rfl
theorem State.slot_engineHalted : s.engineHalted.ce.slot = none := rfl
theorem State.overrunKept_engineHalted : s.engineHalted.ce.overrun = true := rfl

theorem State.onlyRegs_overrunShown : OnlyRegs [R.CE_STATUS] s s.overrunShown :=
  (OnlyRegs.refl.setB List.mem_cons_self).setB List.mem_cons_self

theorem State.sameRegsBut_engineHalted : SameRegsBut [R.CE_STATUS] s s.engineHalted :=
  s.onlyRegs_overrunShown.2.congr s.regs_engineHalted

theorem State.overrun_engineHalted : s.engineHalted.fb F.CE_STATUS.OVERRUN = true :=
  (State.fb_congr s.regs_engineHalted _).trans <|
    (State.fb_setB_apart _ F.CE_STATUS.RUN F.CE_STATUS.OVERRUN _ (by decide)).trans
      (State.fb_setB_same s _ _ rfl (by decide))

theorem State.run_engineHalted : s.engineHalted.fb F.CE_STATUS.RUN = false :=
  (State.fb_congr s.regs_engineHalted _).trans (State.fb_setB_same _ F.CE_STATUS.RUN _ rfl (by decide))

theorem State.proc_engineHalted : s.engineHalted.proc 5 = { s.proc 5 with run := .halted } :=
  s.proc_setProc_same 5 _

end

/-! ## The commit window (05 R159, R167) -/

section
variable (s : State)

/-- The commit buffer is loaded, and the window of this period is over. -/
def State.windowTaken (s : State) : State :=
  { s with ce := { s.ce with commit := s.commitBuffer, windowDone := true } }

theorem State.commit_windowTaken : s.windowTaken.ce.commit = s.commitBuffer := rfl
theorem State.reg_windowTaken (a : Nat) : s.windowTaken.reg a = s.reg a := rfl
theorem State.ldb_windowTaken (a : Nat) : s.windowTaken.ldb a = s.ldb a := rfl

theorem State.commitWindow_of_due (hce : s.ceOn = true) (hsup : s.ce.supDone = true)
    (hwindow : s.ce.windowDone = false) : s.commitWindow =
      (((s.advanceTo (s.ceTime (s.f F.STM_PERIOD.P - 200))).forAll (List.range 4) State.trackerUpdate).forAll
        (List.range 8) State.rampStep).windowTaken.ceFlags := if_pos (by simp [hce, hsup, hwindow])

end

/-! ## Ramps (05 R194, R195) -/

section
variable (s : State) (g : Nat)

/-- Window j of a ramp of n windows: the count and the gain of the group. -/
def State.rampMoved (s : State) (g n j : Nat) : State :=
  ({ s with ce := { s.ce with rampJ := tblSet (fun _ => (0 : Nat)) s.ce.rampJ g j } } : State).setF (F.CE_RAMP.GAIN g)
    (32768 * (n - j) / n)

/-- The end of a ramp. -/
def State.rampEnded (s : State) (g : Nat) : State :=
  (s.setB (F.CE_RAMP.ACTIVE g) false).setB (F.CE_RAMP.ZERO g) true

theorem State.rampStep_of_active {n j : Nat} (hzero : s.fb (F.CE_RAMP.ZERO g) = false)
    (hactive : s.fb (F.CE_RAMP.ACTIVE g) = true) (hn : s.f (F.CE_RAMP.RAMPN g) = n)
    (hj : tblGet (fun _ => (0 : Nat)) s.ce.rampJ g + 1 = j) :
    s.rampStep g = if n ≤ j then (s.rampMoved g n j).rampEnded g else s.rampMoved g n j := by
  unfold State.rampStep
  rw [if_neg (by simp [hzero]), if_pos hactive, hn, hj]
  rfl

theorem State.gain_rampMoved (n j : Nat) :
    (s.rampMoved g n j).f (F.CE_RAMP.GAIN g) = 32768 * (n - j) / n := by
  have hle : 32768 * (n - j) / n ≤ 32768 :=
    Nat.div_le_of_le_mul ((Nat.mul_le_mul_left 32768 (Nat.sub_le n j)).trans_eq (Nat.mul_comm _ _))
  exact (State.f_setF_same _ _ _ (show 15 < 32 by decide)).trans
    (Nat.mod_eq_of_lt (show 32768 * (n - j) / n < 2 ^ 16 by omega))

theorem State.zero_rampMoved (n j : Nat) :
    (s.rampMoved g n j).fb (F.CE_RAMP.ZERO g) = s.fb (F.CE_RAMP.ZERO g) :=
  State.fb_setF_apart _ _ _ _ (.inr (.inr (show 15 < 28 by decide)))

theorem State.active_rampMoved (n j : Nat) :
    (s.rampMoved g n j).fb (F.CE_RAMP.ACTIVE g) = s.fb (F.CE_RAMP.ACTIVE g) :=
  State.fb_setF_apart _ _ _ _ (.inr (.inr (show 15 < 29 by decide)))

theorem State.rampJ_rampMoved (n j : Nat) :
    tblGet (fun _ => (0 : Nat)) (s.rampMoved g n j).ce.rampJ g = j := tblGet_tblSet_same _ _ _ _

@[simp] theorem State.rampJ_rampEnded : (s.rampEnded g).ce.rampJ = s.ce.rampJ := rfl

theorem State.gain_rampEnded : (s.rampEnded g).f (F.CE_RAMP.GAIN g) = s.f (F.CE_RAMP.GAIN g) :=
  (State.f_setB_apart _ _ _ _ (.inr (.inl (show 15 < 28 by decide)))).trans
    (State.f_setB_apart _ _ _ _ (.inr (.inl (show 15 < 29 by decide))))

theorem State.zero_rampEnded : (s.rampEnded g).fb (F.CE_RAMP.ZERO g) = true :=
  State.fb_setB_same _ _ _ rfl (show 28 < 32 by decide)

theorem State.active_rampEnded : (s.rampEnded g).fb (F.CE_RAMP.ACTIVE g) = false :=
  (State.fb_setB_apart _ _ _ _ (.inr (.inr (show 28 < 29 by decide)))).trans
    (State.fb_setB_same _ _ _ rfl (show 29 < 32 by decide))

theorem State.rampClear_of_zero (hlive : s.live = true) (hon : s.on 5 = true)
    (hzero : s.fb (F.CE_RAMP.ZERO g) = true) : s.rampClear g =
      { s with ce := { s.ce with clrReq := tblSet (fun _ => false) s.ce.clrReq g true } } := by
  unfold State.rampClear
  rw [if_pos (by simp [hlive, hon]), if_pos hzero]

theorem State.rampClear_of_active (hlive : s.live = true) (hon : s.on 5 = true)
    (hzero : s.fb (F.CE_RAMP.ZERO g) = false) (hactive : s.fb (F.CE_RAMP.ACTIVE g) = true) :
    s.rampClear g = s.setB (F.CE_RAMP.PENDCLR g) true := by
  unfold State.rampClear
  rw [if_pos (by simp [hlive, hon]), if_neg (by simp [hzero]), if_pos hactive]

end

/-! ## Trackers (05 R182 to R185) -/

section
variable (s : State) (n : Nat)

theorem State.regs_trkAdvance (omega : Int) : (s.trkAdvance n omega).regs =
    ((s.setReg (R.CE_TRKOMEGA n) (w32 omega)).setReg (R.CE_TRKTHETA n)
      (w32 (((s.reg (R.CE_TRKTHETA n)).toNat : Int) + omega))).regs := by
  unfold State.trkAdvance
  dsimp only
  split <;> rfl

theorem State.mem_trkAdvance (omega : Int) : (s.trkAdvance n omega).mem = s.mem := by
  unfold State.trkAdvance
  dsimp only
  split <;> rfl

theorem State.theta_trkAdvance (omega : Int) : (s.trkAdvance n omega).reg (R.CE_TRKTHETA n) =
    w32 (((s.reg (R.CE_TRKTHETA n)).toNat : Int) + omega) :=
  (State.reg_congr (s.regs_trkAdvance n omega) _).trans (State.reg_setReg_same _ _ _)

theorem State.omega_trkAdvance (omega : Int) : (s.trkAdvance n omega).reg (R.CE_TRKOMEGA n) = w32 omega :=
  (State.reg_congr (s.regs_trkAdvance n omega) _).trans <|
    (State.reg_setReg_ne _ _ (by unfold R.CE_TRKOMEGA R.CE_TRKTHETA; omega)).trans (State.reg_setReg_same _ _ _)

/-- Only a turn that is complete starts a line cycle (R185). -/
theorem State.lineStart_trkAdvance {omega : Int} (h : ((s.reg (R.CE_TRKTHETA n)).toNat : Int) + omega < 2 ^ 32) :
    (s.trkAdvance n omega).ce.lineStart = s.ce.lineStart := by
  unfold State.trkAdvance
  dsimp only
  rw [if_neg (by omega)]
  rfl

/-- A grid-forming tracker holds its clamped command c, and shows its mode without RELOCK (R183, R184). -/
def State.commandHeld (s : State) (n : Nat) (c : Int) : State :=
  let t := s.setB (F.CE_TRKSTAT.MODEACT n) true
  State.setB { t with ce := { t.ce with wcmd := tblSet (fun _ => (0 : Word)) t.ce.wcmd n (w32 c) } }
    (F.CE_TRKSTAT.RELOCK n) false

theorem State.theta_commandHeld (c : Int) :
    (s.commandHeld n c).reg (R.CE_TRKTHETA n) = s.reg (R.CE_TRKTHETA n) := by
  have hne : R.CE_TRKTHETA n ≠ R.CE_TRKSTAT n := by unfold R.CE_TRKTHETA R.CE_TRKSTAT; omega
  exact (State.reg_setB_ne _ (F.CE_TRKSTAT.RELOCK n) _ hne).trans
    (State.reg_setB_ne s (F.CE_TRKSTAT.MODEACT n) _ hne)

theorem State.trackerUpdate_of_forming {w c : Int} (hen : s.fb (F.CE_TRKCFG.EN n) = true)
    (hmode : s.fb (F.CE_TRKCFG.MODE n) = true) (hw : (s.ldw (stateAddr (s.f (F.CE_TRKADDR.WADDR n)))).toInt = w)
    (hc : clampI (s.coefV (s.f (F.CE_TRKCFG.KADDR n) + 2)) (s.coefV (s.f (F.CE_TRKCFG.KADDR n) + 3)) w = c) :
    s.trackerUpdate n = (s.commandHeld n c).trkAdvance n (((s.reg (R.CE_TRKW0 n)).toNat : Int) + c) := by
  subst hw hc
  simp only [State.trackerUpdate, hen, hmode, Bool.not_true, Bool.and_false, Bool.false_eq_true, if_false, if_true]
  rfl

theorem State.trackerMode_of_on (forming : Bool) (hlive : s.live = true) (hon : s.on 5 = true) :
    s.trackerMode n forming = s.setB (F.CE_TRKCFG.MODE n) forming := if_pos (by simp [hlive, hon])

theorem w32_toNat_add (w : Word) (v : Int) : w32 ((w.toNat : Int) + v) = w + BitVec.ofInt 32 v := by
  rw [w32, BitVec.ofInt_add, BitVec.ofInt_natCast, BitVec.ofNat_toNat, BitVec.setWidth_eq]

end

/-! ## The swap slot (05 R178) -/

section
variable (s : State)

/-- A sticky flag set where something saturated. -/
def State.flagWhen (s : State) (x : Field) (b : Bool) : State := s.when b fun t => t.setB x true

theorem State.onlyRegs_flagWhen (x : Field) (b : Bool) : OnlyRegs [x.addr] s (s.flagWhen x b) :=
  OnlyRegs.refl.when (OnlyRegs.refl.setB List.mem_cons_self)

/-- A state of an integrator held between its limits, the upper limit first (R177, R178). -/
def heldIn (lo hi x : Int) : Int := if hi < x then hi else if x < lo then lo else x

/-- STATUS of an integrator that takes the state x: at the upper or at the lower limit, or else `free`. -/
def limitWord (lo hi x : Int) (free : Word) : Word :=
  if hi < x then 0xC0000000#32 else if x < lo then 0x80000000#32 else free

theorem bitAt_limitWord (lo hi x : Int) (free : Word) (h : bitAt free 31 = false) :
    bitAt (limitWord lo hi x free) 31 = (decide (hi < x) || decide (x < lo)) := by
  unfold limitWord
  split
  next hhi => simp [hhi, bitAt]
  next hhi =>
    split
    next hlo => simp [hlo, bitAt]
    next hlo => simp [hhi, hlo, h]

theorem State.bumpless_of_swap (hce : s.ceOn = true) (hsup : s.ce.supDone = true) (hswap : s.ce.swapNow = true) :
    s.bumpless =
      let t := (s.advanceTo (s.ceTime (s.tSnap + s.tSup + s.tSwap))).forAll (List.range 256) State.bumplessOne
      { t with ce := { t.ce with swapNow := false } } := if_pos (by simp [hce, hsup, hswap])

/-- A bumpless integrator takes the state that leaves its output where it was, within its limits. -/
theorem State.bumplessOne_of_tagged {d k : Nat} {lo hi x : Int} (htag : fld (s.ldw (intAddr d)) 31 30 = 3)
    (hk : fld (s.ldw (intAddr d)) 29 16 = k) (hlo : s.coefV (k + 2) = lo) (hhi : s.coefV (k + 3) = hi)
    (hx : sg (s.ldw (intAddr d + 12)) - sg (s.coefMul k (sg (s.ldw (intAddr d + 8)))).1 = x) :
    ∃ t : State, OnlyRegs [R.CE_STATUS] s t ∧ s.bumplessOne d =
      (t.store (intAddr d + 4) (w32 (heldIn lo hi x))).store (intAddr d + 16)
        (limitWord lo hi x (setFld (t.ldw (intAddr d + 16)) 31 31 0)) := by
  subst hlo hhi hx
  refine ⟨_, s.onlyRegs_flagWhen F.CE_STATUS.OSAT (s.coefMul k (sg (s.ldw (intAddr d + 8)))).2, ?_⟩
  simp only [State.bumplessOne, htag, hk, ne_eq, not_true_eq_false, if_false, heldIn, limitWord]
  split
  · rfl
  · split <;> rfl

end

/-- Settles O28: each command by its equation, and then what the writes of its words and flags read. -/
theorem enginePeriodAndPrograms : Obligations.EnginePeriodAndPrograms := by
  refine ⟨fun s slot r h hce hadm hsup hswap hslot hran hdue => ?_, fun s j h hce => ?_,
    fun s hce hsup hwindow => ?_,
    fun s g hzero hactive => ?_, fun s n hen hmode => ?_, fun s hce hsup hswap => ?_, fun s d _ htag => ?_,
    fun s g hlive hon => ⟨fun hzero => ?_, fun hzero hactive => ?_⟩, fun s n forming hlive hon => ?_⟩
  · have hstart := s.programStart_of_due h hce hadm hsup hswap hslot hran hdue
    have hproc := (s.advanceTo (s.ceTime (s.f (F.CE_PROGS.CYC slot)))).proc_programRuns slot r
    exact .intro rfl hstart ⟨State.now_programRuns _ _ _, congrArg Proc.pc hproc, congrArg Proc.run hproc,
      State.run_programRuns _ _ _, State.slot_programRuns _ _ _,
      (State.ran_programRuns _ _ _).trans (congrArg (slot.val :: ·) (congrArg CeUnit.ran (s.ce_advanceTo _))),
      (State.sameRegsBut_programRuns _ _ _).trans_regs (s.regs_advanceTo _),
      State.ldb_congr ((State.mem_programRuns _ _ _).trans (s.mem_advanceTo _))⟩
  · have hstop := (s.programOverrun_of_running h hce).trans (State.engineStop_eq _)
    exact ⟨_, congrArg Host.Outcome.next hstop, State.now_engineHalted _, State.overrun_engineHalted _,
      State.run_engineHalted _, State.slot_engineHalted _, State.overrunKept_engineHalted _,
      congrArg Proc.run (State.proc_engineHalted _),
      (State.sameRegsBut_engineHalted _).trans_regs (s.regs_advanceTo _),
      State.ldb_congr ((State.mem_engineHalted _).trans (s.mem_advanceTo _))⟩
  · exact ⟨_, _, rfl, congrArg Host.Outcome.next (s.commitWindow_of_due hce hsup hwindow),
      State.commit_windowTaken _, rfl, State.reg_windowTaken _, State.ldb_windowTaken _⟩
  · intro n j t _
    have hstep : t = if n ≤ j then (s.rampMoved g n j).rampEnded g else s.rampMoved g n j :=
      s.rampStep_of_active g hzero hactive rfl rfl
    by_cases hle : n ≤ j
    · rw [hstep, if_pos hle, State.gain_rampEnded, State.rampJ_rampEnded]
      exact ⟨s.gain_rampMoved g n j, s.rampJ_rampMoved g n j,
        fun _ => ⟨State.zero_rampEnded _ _, State.active_rampEnded _ _⟩, fun hlt => absurd hle (Nat.not_le.2 hlt)⟩
    · rw [hstep, if_neg hle, State.zero_rampMoved, State.active_rampMoved]
      exact ⟨s.gain_rampMoved g n j, s.rampJ_rampMoved g n j, fun h => absurd h hle, fun _ => ⟨hzero, hactive⟩⟩
  · intro k w c omega t
    have hstep : t = (s.commandHeld n c).trkAdvance n omega := s.trackerUpdate_of_forming n hen hmode rfl rfl
    have htheta := s.theta_commandHeld n c
    rw [hstep, ← htheta, ← w32_toNat_add]
    exact ⟨State.omega_trkAdvance _ _ _, State.theta_trkAdvance _ _ _, State.lineStart_trkAdvance _ _,
      State.ldb_congr (State.mem_trkAdvance _ _ _)⟩
  · exact .intro rfl (s.bumpless_of_swap hce hsup hswap) rfl
  · intro a k x t
    obtain ⟨u, hu, hone⟩ := s.bumplessOne_of_tagged htag (k := k) (x := x) rfl rfl rfl rfl
    have ht : t = _ := hone
    rw [ht, State.ldw_store_apart _ _ (.inl (by omega)), State.ldw_store_same, State.ldw_store_same]
    exact ⟨rfl, bitAt_limitWord _ _ _ _ (bitAt_setFld_same _ 31 0 (by decide)),
      hu.2.congr rfl⟩
  · exact .intro rfl (s.rampClear_of_zero g hlive hon hzero) ⟨tblGet_tblSet_same _ _ _ _, fun _ => rfl, fun _ => rfl⟩
  · exact .intro rfl (s.rampClear_of_active g hlive hon hzero hactive)
      ⟨State.fb_setB_same _ _ _ rfl (show 30 < 32 by decide), OnlyRegs.refl.setB List.mem_cons_self⟩
  · exact .intro rfl (s.trackerMode_of_on n forming hlive hon)
      ⟨State.fb_setB_same _ _ _ rfl (show 30 < 32 by decide), OnlyRegs.refl.setB List.mem_cons_self⟩

end Sys2Proof.Machine

/-! The supervision of the Control Engine (05 R186 to R193): the evaluation of a feedback descriptor, the entries to
IMPLAUSIBLE, FROZEN and EXPIRED, the recovery, and the ones of CE_FBEXPn. -/

namespace Sys2Proof.Machine

/-! ## Word 6 of a descriptor, and its bits in CE_FBSUBSTn and CE_FBEXPn -/

section
variable {st coast cnt : Nat} (fcnt : Nat)

theorem toNat_fbWord (hst : st < 8) (coast cnt : Nat) : (fbWord st coast cnt fcnt).toNat =
    st * 2 ^ 29 + coast % 8192 * 2 ^ 16 + cnt % 256 * 256 + fcnt % 256 := by
  rw [fbWord, wN, BitVec.toNat_ofNat]
  omega

theorem fbState_fbWord (hst : st < 8) (coast cnt : Nat) : fbState (fbWord st coast cnt fcnt) = st := by
  rw [fbState, fld, toNat_fbWord fcnt hst]
  omega

theorem fbCoast_fbWord (hst : st < 8) (hcoast : coast < 8192) (cnt : Nat) :
    fbCoast (fbWord st coast cnt fcnt) = coast := by
  rw [fbCoast, fld, toNat_fbWord fcnt hst]
  omega

theorem fbCnt_fbWord (hst : st < 8) (coast : Nat) (hcnt : cnt < 256) : fbCnt (fbWord st coast cnt fcnt) = cnt := by
  rw [fbCnt, fld, toNat_fbWord fcnt hst]
  omega

theorem fbFcnt_fbWord {fcnt : Nat} (hst : st < 8) (coast cnt : Nat) (hfcnt : fcnt < 256) :
    fbFcnt (fbWord st coast cnt fcnt) = fcnt := by
  rw [fbFcnt, fld, toNat_fbWord fcnt hst]
  omega

end

section
variable (s : State) (base : Nat → Nat) (n : Nat)

theorem State.bit_setFbBit (b : Bool) : bitAt ((s.setFbBit base n b).reg (base (n / 32))) (n % 32) = b := by
  rw [State.setFbBit, State.reg_setReg_same, bitAt_setFld_same _ _ _ (Nat.mod_lt n (by decide)), testBit_b2n]

@[simp] theorem State.mem_setFbBit (b : Bool) : (s.setFbBit base n b).mem = s.mem := rfl

theorem State.reg_setFbBit_ne (b : Bool) {a : Nat} (h : a ≠ base (n / 32)) : (s.setFbBit base n b).reg a = s.reg a :=
  State.reg_setReg_ne _ _ h

@[simp] theorem State.mem_ceFlags : s.ceFlags.mem = s.mem := rfl

theorem State.reg_ceFlags_ne {a : Nat} (h : a ≠ R.CE_STATUS) : s.ceFlags.reg a = s.reg a :=
  (State.reg_setB_ne _ F.CE_STATUS.RAMPING _ h).trans (State.reg_setB_ne s F.CE_STATUS.SUBST _ h)

theorem ceFbsubst_ne_ceStatus : R.CE_FBSUBST n ≠ R.CE_STATUS := by unfold R.CE_FBSUBST R.CE_STATUS; omega

theorem ceFbexp_ne_ceStatus : R.CE_FBEXP n ≠ R.CE_STATUS := by unfold R.CE_FBEXP R.CE_STATUS; omega

theorem ceFbsubst_ne_ceFbexp {n : Nat} (h : n < 16) (m : Nat) : R.CE_FBSUBST n ≠ R.CE_FBEXP m := by
  unfold R.CE_FBSUBST R.CE_FBEXP
  omega

variable {s n} {t : State} {l : List Nat} {base}

theorem SameRegsBut.setFbBit {b : Bool} (h : SameRegsBut l s t) (hb : base (n / 32) ∈ l) :
    SameRegsBut l s (t.setFbBit base n b) := h.setReg hb

theorem SameRegsBut.ceFlags (h : SameRegsBut l s t) (hl : R.CE_STATUS ∈ l) : SameRegsBut l s t.ceFlags :=
  fun _ ha => (t.reg_ceFlags_ne (ne_of_mem_of_not_mem hl ha).symm).trans (h _ ha)

end

/-! ## Words of a descriptor beside its input image word -/

section
variable (s : State) (n : Nat)

/-- The input image lies below the descriptors (05 R168). -/
theorem inAddr_below_fbAddr (w : Word) : inAddr (fld w 12 0) + 4 ≤ fbAddr n := by
  have h : fld w 12 0 < 2 ^ 13 := fld_lt w 12 0
  unfold inAddr fbAddr
  omega

/-- The address of the input image word of descriptor n. -/
def State.fbImageAddr (s : State) (n : Nat) : Nat := inAddr (fld (s.ldw (fbAddr n)) 12 0)

theorem State.fbImage_eq (v : Word) : s.fbImage n v = s.store (s.fbImageAddr n) v := rfl

/-- A word of the descriptor above its first leaves the place of its image word. -/
theorem State.fbImageAddr_store {off : Nat} (v : Word) (h : 4 ≤ off) :
    (s.store (fbAddr n + off) v).fbImageAddr n = s.fbImageAddr n := by
  rw [State.fbImageAddr, State.ldw_store_apart _ _ (.inl (by omega))]
  rfl

theorem State.ldw_fbImage (v : Word) (off : Nat) : (s.fbImage n v).ldw (fbAddr n + off) = s.ldw (fbAddr n + off) :=
  State.ldw_store_apart _ _ (.inr ((inAddr_below_fbAddr n _).trans (Nat.le_add_right _ off)))

/-- Word 6 and the image word of descriptor n take values. -/
def State.fbWrites (s : State) (n : Nat) (w6 v : Word) : State := (s.store (fbAddr n + 24) w6).fbImage n v

theorem State.fb6_fbWrites (w6 v : Word) : (s.fbWrites n w6 v).fb6 n = w6 :=
  (State.ldw_fbImage _ n v 24).trans (State.ldw_store_same s w6)

theorem State.image_fbWrites (w6 v : Word) : (s.fbWrites n w6 v).ldw (s.fbImageAddr n) = v := by
  rw [State.fbWrites, State.fbImage_eq, State.fbImageAddr_store s n w6 (by decide), State.ldw_store_same]

theorem State.fb6_congr {t u : State} (h : t.mem = u.mem) : t.fb6 n = u.fb6 n := State.ldw_congr h _

end

/-! ## The evaluation of a descriptor (05 R187) -/

section
variable (s : State) (n : Nat)

theorem State.fbEval_of_disabled (s0 : State) (h : bitAt (s0.ldw (fbAddr n)) 31 = false) : s0.fbEval s n = s := by
  simp only [State.fbEval, h, if_true]

/-- The raw value of descriptor n. -/
def State.fbRaw (s : State) (n : Nat) : Word := s.ldw (s.fbImageAddr n)

/-- MCNT after an evaluation: one more while the raw value is out of its band around ŷ. -/
def State.nextMcnt (s : State) (n : Nat) : Nat :=
  if absI (sg (s.fbRaw n) - sg (s.fbPred n)) > (s.ldn (fbAddr n + 8) : Int) then min 255 (fbCnt (s.fb6 n) + 1) else 0

/-- FCNT after an evaluation: one more where ŷ moved and the raw value did not. -/
def State.nextFcnt (s : State) (n : Nat) : Nat :=
  if s.fbRaw n ≠ s.ldw (fbAddr n + 20) then 0
  else if absI (sg (s.fbPred n) - sg (s.ldw (fbAddr n + 28))) > (s.ldn (fbAddr n + 12) : Int) then
    min 255 (fbFcnt (s.fb6 n) + 1)
  else fbFcnt (s.fb6 n)

/-- STATE after an evaluation in VALID or SUSPECT, where MCNT is `mcnt`. -/
def State.nextFbState (s : State) (n mcnt : Nat) : Nat :=
  if mcnt = 0 then 0 else if mcnt < fld (s.ldw (fbAddr n + 16)) 31 24 then 1 else fbState (s.fb6 n)

theorem State.nextMcnt_lt : s.nextMcnt n < 256 := by
  unfold State.nextMcnt
  split <;> omega

theorem State.nextFcnt_lt : s.nextFcnt n < 256 := by
  have h : fbFcnt (s.fb6 n) < 2 ^ 8 := fld_lt _ 7 0
  unfold State.nextFcnt
  split
  · decide
  · split <;> omega

theorem State.nextFbState_lt (mcnt : Nat) (h : fbState (s.fb6 n) < 2) : s.nextFbState n mcnt < 8 := by
  unfold State.nextFbState
  split
  · decide
  · split <;> omega

/-- A descriptor without a cell context, in VALID or SUSPECT: words 5 and 7 keep what was read, and word 6 counts. -/
theorem State.fbEval_of_valid (hen : bitAt (s.ldw (fbAddr n)) 31 = true) (hctx : fld (s.ldw (fbAddr n + 4)) 22 16 = 0)
    (hst : fbState (s.fb6 n) < 2) : ∃ u : State, u.regs = s.regs ∧
      u.mem = ((s.store (fbAddr n + 20) (s.fbRaw n)).store (fbAddr n + 28) (s.fbPred n)).mem ∧
      s.fbEval s n = u.store (fbAddr n + 24)
        (fbWord (s.nextFbState n (s.nextMcnt n)) 0 (s.nextMcnt n) (s.nextFcnt n)) := by
  have hsubst : fbSubst (fbState (s.fb6 n)) = false := decide_eq_false (by omega)
  simp only [State.fbEval, hen, hctx, hsubst, ne_eq, not_true_eq_false, decide_false, Bool.false_and,
    Bool.and_false, Bool.true_eq_false, Bool.false_eq_true, if_false, decide_eq_true_eq]
  refine ⟨_, ?_, ?_, rfl⟩ <;> rfl

theorem State.reads_fbEval_of_valid (hen : bitAt (s.ldw (fbAddr n)) 31 = true)
    (hctx : fld (s.ldw (fbAddr n + 4)) 22 16 = 0) (hst : fbState (s.fb6 n) < 2) :
    (s.fbEval s n).ldw (fbAddr n + 20) = s.fbRaw n ∧ (s.fbEval s n).ldw (fbAddr n + 28) = s.fbPred n ∧
      (s.fbEval s n).fb6 n = fbWord (s.nextFbState n (s.nextMcnt n)) 0 (s.nextMcnt n) (s.nextFcnt n) ∧
      ∀ b, (s.fbEval s n).reg b = s.reg b := by
  obtain ⟨u, hregs, hmem, heval⟩ := s.fbEval_of_valid n hen hctx hst
  rw [heval]
  refine ⟨?_, ?_, State.ldw_store_same _ _, State.reg_congr hregs⟩
  · rw [State.ldw_store_apart _ _ (.inl (by omega)), State.ldw_congr hmem, State.ldw_store_apart _ _ (.inl (by omega)),
      State.ldw_store_same]
  · rw [State.ldw_store_apart _ _ (.inr (by omega)), State.ldw_congr hmem, State.ldw_store_same]

end

/-! ## The entries to IMPLAUSIBLE, FROZEN and EXPIRED, and the recovery (05 R187 to R191) -/

section
variable (s : State) (n st : Nat)

/-- COASTCNT at an entry: it goes on where the descriptor substitutes, and starts at 1 otherwise. -/
def State.entryCoast (s : State) (n : Nat) : Nat := if 2 ≤ fbState (s.fb6 n) then fbCoast (s.fb6 n) else 1

/-- The state of an entry before its record: ŷ stands in the image, and CE_FBSUBST shows it (R189). -/
def State.fbEntered (s : State) (n st : Nat) : State :=
  ((s.fbWrites n (fbWord st (s.entryCoast n) 0 (fbFcnt (s.fb6 n))) (s.ldw (fbAddr n + 28))).setFbBit
    R.CE_FBSUBST n true).ceFlags

theorem State.fbEnter_eq : s.fbEnter n st = ((s.fbEntered n st).note 7 (st - 1) n).raise (st + 12) := by
  simp only [State.fbEnter, State.fbEntered, State.fbWrites, State.entryCoast, fbSubst, decide_eq_true_eq]

theorem State.entryCoast_lt : s.entryCoast n < 8192 := by
  have h : fbCoast (s.fb6 n) < 2 ^ 13 := fld_lt _ 28 16
  unfold State.entryCoast
  split <;> omega

theorem State.mem_fbEntered : (s.fbEntered n st).mem =
    (s.fbWrites n (fbWord st (s.entryCoast n) 0 (fbFcnt (s.fb6 n))) (s.ldw (fbAddr n + 28))).mem := rfl

theorem State.fb6_fbEntered : (s.fbEntered n st).fb6 n = fbWord st (s.entryCoast n) 0 (fbFcnt (s.fb6 n)) :=
  (State.fb6_congr n (s.mem_fbEntered n st)).trans (s.fb6_fbWrites n _ _)

theorem State.image_fbEntered : (s.fbEntered n st).ldw (s.fbImageAddr n) = s.ldw (fbAddr n + 28) :=
  (State.ldw_congr (s.mem_fbEntered n st) _).trans (s.image_fbWrites n _ _)

theorem State.bit_fbEntered : bitAt ((s.fbEntered n st).reg (R.CE_FBSUBST (n / 32))) (n % 32) = true := by
  rw [State.fbEntered, State.reg_ceFlags_ne _ (ceFbsubst_ne_ceStatus _)]
  exact State.bit_setFbBit _ R.CE_FBSUBST n true

theorem State.regs_fbWrites (w6 v : Word) : (s.fbWrites n w6 v).regs = s.regs := rfl

theorem State.sameRegsBut_fbEntered : SameRegsBut [R.CE_FBSUBST (n / 32), R.CE_STATUS] s (s.fbEntered n st) :=
  ((SameRegsBut.ofRegs (s.regs_fbWrites n _ _)).setFbBit List.mem_cons_self).ceFlags
    (List.mem_cons_of_mem _ List.mem_cons_self)

variable {s n}

theorem State.fbImplausible_of_due (hused : s.fbUsed n = true) (hst : fbState (s.fb6 n) < 2)
    (hpos : 0 < fbCnt (s.fb6 n))
    (hm : fld (s.ldw (fbAddr n + 16)) 31 24 ≤ fbCnt (s.fb6 n)) (hfrozen : s.fbFrozenDue n = false) :
    s.fbImplausible n = s.fbEnter n 2 := if_pos (by simp [hused, hst, hpos, hm, hfrozen])

theorem State.fbFrozen_of_due (hused : s.fbUsed n = true) (hst : fbState (s.fb6 n) < 3)
    (hfrozen : s.fbFrozenDue n = true) : s.fbFrozen n = s.fbEnter n 3 := if_pos (by simp [hused, hst, hfrozen])

/-- EXPIRED with its bit of CE_FBEXP, before the record (R190). -/
def State.fbExpired (s : State) (n : Nat) : State :=
  (s.store (fbAddr n + 24) (setFld (s.fb6 n) 31 29 4)).setFbBit R.CE_FBEXP n true

theorem State.fbExpiry_of_due (hused : s.fbUsed n = true) (hst : fbState (s.fb6 n) = 2 ∨ fbState (s.fb6 n) = 3)
    (htcoast : fld (s.ldw (fbAddr n)) 25 13 ≤ fbCoast (s.fb6 n)) :
    s.fbExpiry n =
      let t := (s.fbExpired n).note 7 3 n
      if bitAt (s.ldw (fbAddr n)) 30 then ((t.noteMade (t.demandFuncs 1) true true).demand 1 4 0 false).ceFlags
      else (t.rampStart (fld (s.ldw (fbAddr n)) 29 27)).ceFlags := by
  unfold State.fbExpiry
  exact (if_pos (by simp [hused, hst, htcoast])).trans (apply_ite State.ceFlags _ _ _)

variable (s n)

theorem State.mem_fbExpired :
    (s.fbExpired n).mem = (s.store (fbAddr n + 24) (setFld (s.fb6 n) 31 29 4)).mem := rfl

theorem State.fbState_fbExpired : fbState ((s.fbExpired n).fb6 n) = 4 := by
  rw [State.fb6_congr n (s.mem_fbExpired n), State.fb6, State.ldw_store_same]
  exact fld_setFld_same _ 31 29 4 (by decide)

theorem State.bit_fbExpired : bitAt ((s.fbExpired n).reg (R.CE_FBEXP (n / 32))) (n % 32) = true :=
  State.bit_setFbBit _ R.CE_FBEXP n true

theorem State.sameRegsBut_fbExpired : SameRegsBut [R.CE_FBEXP (n / 32)] s (s.fbExpired n) :=
  (SameRegsBut.ofRegs (State.regs_store s _)).setFbBit List.mem_cons_self

/-- Word 6 reads 0, and the raw value stands in the image again (R191). -/
def State.fbCleared (s : State) (n : Nat) : State :=
  (s.fbClear n).fbImage n (s.ldw (fbAddr n + 20))

theorem State.fbRecovery_of_due {s : State} {n : Nat} (hused : s.fbUsed n = true)
    (hst : fbState (s.fb6 n) = 2 ∨ fbState (s.fb6 n) = 3) (hpos : 0 < fbCnt (s.fb6 n))
    (hrecov : fld (s.ldw (fbAddr n + 16)) 15 8 ≤ fbCnt (s.fb6 n)) : s.fbRecovery n = (s.fbCleared n).ceFlags :=
  if_pos (by simp [hused, hst, hpos, hrecov])

theorem State.mem_fbClear : (s.fbClear n).mem = (s.store (fbAddr n + 24) 0).mem := rfl

theorem State.fbImageAddr_congr {t u : State} (h : t.mem = u.mem) (n : Nat) : t.fbImageAddr n = u.fbImageAddr n := by
  rw [State.fbImageAddr, State.fbImageAddr, State.ldw_congr h]

theorem State.fb6_fbCleared : (s.fbCleared n).fb6 n = 0 :=
  (State.ldw_fbImage _ n _ 24).trans <|
    (State.ldw_congr (s.mem_fbClear n) _).trans (State.ldw_store_same s 0)

theorem State.image_fbCleared : (s.fbCleared n).ldw (s.fbImageAddr n) = s.ldw (fbAddr n + 20) := by
  rw [← State.fbImageAddr_store s n 0 (show 4 ≤ 24 by decide), ← State.fbImageAddr_congr (s.mem_fbClear n)]
  exact State.ldw_store_same _ _

theorem State.regs_fbCleared : (s.fbCleared n).regs = (s.fbClear n).regs := rfl

theorem State.substBit_fbCleared {n : Nat} (h : n < 512) :
    bitAt ((s.fbCleared n).reg (R.CE_FBSUBST (n / 32))) (n % 32) = false := by
  rw [State.reg_congr (s.regs_fbCleared n), State.fbClear,
    State.reg_setFbBit_ne _ R.CE_FBEXP n _ (ceFbsubst_ne_ceFbexp (by omega) _)]
  exact State.bit_setFbBit _ R.CE_FBSUBST n false

theorem State.expBit_fbCleared : bitAt ((s.fbCleared n).reg (R.CE_FBEXP (n / 32))) (n % 32) = false :=
  (congrArg (bitAt · (n % 32)) (State.reg_congr (s.regs_fbCleared n) _)).trans (State.bit_setFbBit _ R.CE_FBEXP n false)

theorem State.sameRegsBut_fbClear :
    SameRegsBut [R.CE_FBSUBST (n / 32), R.CE_FBEXP (n / 32), R.CE_STATUS] s (s.fbClear n) :=
  ((SameRegsBut.ofRegs (State.regs_store s _)).setFbBit List.mem_cons_self).setFbBit
    (List.mem_cons_of_mem _ List.mem_cons_self)

end

/-! ## Supervision, and the ones of CE_FBEXPn (05 R186, R191) -/

section
variable (s : State)

theorem State.tm_flushHeld : s.flushHeld.tm = s.tm :=
  State.forAll_keeps (fun t => t.tm = s.tm) _ _ s rfl fun _ _ _ h => h

theorem State.now_flushHeld : s.flushHeld.now = s.now := by
  rw [State.now, State.now, State.tm_flushHeld]

theorem State.held_flushHeld : s.flushHeld.ce.held = [] := rfl
theorem State.snapOpen_flushHeld : s.flushHeld.ce.snapOpen = false := rfl

/-- No echo is known to stand still yet. -/
def State.echoRenewed (s : State) : State := { s with ce := { s.ce with echoStuck := [] } }

theorem State.now_echoRenewed : s.echoRenewed.now = s.now := rfl
theorem State.held_echoRenewed : s.echoRenewed.ce.held = s.ce.held := rfl
theorem State.snapOpen_echoRenewed : s.echoRenewed.ce.snapOpen = s.ce.snapOpen := rfl

/-- The state whose raw image a supervision evaluates: the parameter writes held are performed. -/
def State.supervised (s : State) : State :=
  (s.advanceTo (s.ceTime (s.tSnap + s.tSup))).flushHeld.echoRenewed

theorem State.now_supervised : s.supervised.now = (s.advanceTo (s.ceTime (s.tSnap + s.tSup))).now := by
  rw [State.supervised, State.now_echoRenewed, State.now_flushHeld]

theorem State.held_supervised : s.supervised.ce.held = [] := by
  rw [State.supervised, State.held_echoRenewed, State.held_flushHeld]

theorem State.snapOpen_supervised : s.supervised.ce.snapOpen = false := by
  rw [State.supervised, State.snapOpen_echoRenewed, State.snapOpen_flushHeld]

/-- The supervision of this period is over. -/
def State.supervisionOver (s : State) : State := { s with ce := { s.ce with fbExp := [], supDone := true } }

theorem State.supDone_supervisionOver : s.supervisionOver.ce.supDone = true := rfl
theorem State.fbExp_supervisionOver : s.supervisionOver.ce.fbExp = [] := rfl
theorem State.mem_supervisionOver : s.supervisionOver.mem = s.mem := rfl

theorem State.supervise_of_due (hce : s.ceOn = true) (hopen : s.ce.snapOpen = true) (hsup : s.ce.supDone = false) :
    s.supervise =
      (s.supervised.forAll (List.range 512) fun u n => s.supervised.fbEval u n).supervisionOver.ceFlags := by
  simp only [State.supervise, hce, hopen, hsup, Bool.not_false, Bool.and_self, if_true, State.supervised,
    State.echoRenewed, State.supervisionOver]

theorem mem_bitsOf {n v i : Nat} : i ∈ bitsOf n v ↔ i < n ∧ v.testBit i = true := by
  rw [bitsOf, List.mem_filter, List.mem_range]

/-- The descriptors that the ones of a word of CE_FBEXPw name. -/
theorem mem_map_bitsOf {w n : Nat} (v : Word) :
    n ∈ (bitsOf 32 v.toNat).map (32 * w + ·) ↔ n / 32 = w ∧ v.getLsbD (n % 32) = true := by
  simp only [List.mem_map, mem_bitsOf, BitVec.testBit_toNat]
  constructor
  · rintro ⟨i, ⟨hlt, hbit⟩, rfl⟩
    rw [show (32 * w + i) % 32 = i by omega]
    exact ⟨by omega, hbit⟩
  · rintro ⟨rfl, hbit⟩
    exact ⟨n % 32, ⟨Nat.mod_lt n (by decide), hbit⟩, Nat.div_add_mod n 32⟩

theorem State.fbexpWrite_of_on (w : Nat) (bits : Word) (hlive : s.live = true) (hon : s.on 5 = true) :
    s.fbexpWrite w bits = { s with ce := { s.ce with fbExp := s.ce.fbExp ++
      ((bitsOf 32 (bits &&& s.reg (R.CE_FBEXP w)).toNat).map (32 * w + ·)).filter (!s.ce.fbExp.contains ·) } } :=
  if_pos (by simp [hlive, hon])

theorem mem_append_filter_not_mem {l m : List Nat} {n : Nat} :
    n ∈ l ++ m.filter (!l.contains ·) ↔ n ∈ l ∨ n ∈ m := by
  by_cases h : n ∈ l <;> simp [h]

end

/-- Settles O27: each command by its equation, and then what the descriptor, its image word and its bits read. -/
theorem engineSupervision : Obligations.EngineSupervision := by
  refine ⟨fun s hce hopen hsup => ?_, fun s0 s n h => s.fbEval_of_disabled n s0 h, fun s n _ => ?_,
    fun s n hused => ?_, fun s w bits hlive hon => ?_⟩
  · exact ⟨s.supervised, _, congrArg Host.Outcome.next (s.supervise_of_due hce hopen hsup),
      State.supDone_supervisionOver _, State.fbExp_supervisionOver _, s.now_supervised, s.held_supervised,
      s.snapOpen_supervised, State.mem_supervisionOver _⟩
  · intro a w0 y p out moved w6 hen hctx hst t mcnt
    obtain ⟨hraw, hpred, h6, hregs⟩ := s.reads_fbEval_of_valid n hen hctx hst
    have hlt : s.nextFbState n mcnt < 8 := s.nextFbState_lt n mcnt hst
    have hstate : fbState (t.fb6 n) = s.nextFbState n mcnt :=
      (congrArg fbState h6).trans (fbState_fbWord _ hlt _ _)
    exact ⟨hraw, hpred, (congrArg fbCoast h6).trans (fbCoast_fbWord _ hlt (by decide) _),
      (congrArg fbCnt h6).trans (fbCnt_fbWord _ hlt _ (s.nextMcnt_lt n)),
      (congrArg fbFcnt h6).trans (fbFcnt_fbWord hlt _ _ (s.nextFcnt_lt n)), fun h0 => hstate.trans (if_pos h0),
      fun hpos hm => hstate.trans ((if_neg hpos.ne').trans (if_pos hm)), hregs⟩
  · intro w6 image enters
    have henters : ∀ c st, st < 8 → exec c s = .next (s.fbEnter n st) → enters c st := fun c st hst hc => by
      have h6 := s.fb6_fbEntered n st
      exact ⟨_, _, hc.trans (congrArg Host.Outcome.next (s.fbEnter_eq n st)), rfl,
        (congrArg fbState h6).trans (fbState_fbWord _ hst _ _), s.image_fbEntered n st,
        (congrArg fbCoast h6).trans (fbCoast_fbWord _ hst (s.entryCoast_lt n) _),
        (congrArg fbCnt h6).trans (fbCnt_fbWord _ hst _ (by decide)), s.bit_fbEntered n st,
        s.sameRegsBut_fbEntered n st⟩
    refine ⟨fun hst hpos hm hfrozen => ?_, fun hst hfrozen => ?_, fun hst htcoast => ?_, fun hst hpos hrecov => ?_⟩
    · exact henters _ 2 (by decide) (congrArg Host.Outcome.next (State.fbImplausible_of_due hused hst hpos hm hfrozen))
    · exact henters _ 3 (by decide) (congrArg Host.Outcome.next (State.fbFrozen_of_due hused hst hfrozen))
    · exact ⟨_, _, rfl, s.fbState_fbExpired n, s.bit_fbExpired n, s.sameRegsBut_fbExpired n,
        congrArg Host.Outcome.next (State.fbExpiry_of_due hused hst htcoast)⟩
    · refine .intro rfl (State.fbRecovery_of_due hused hst hpos hrecov) ⟨?_, ?_, ?_, ?_, ?_⟩
      · exact (State.fb6_congr n (State.mem_ceFlags _)).trans (s.fb6_fbCleared n)
      · exact (State.ldw_congr (State.mem_ceFlags _) _).trans (s.image_fbCleared n)
      · rw [State.reg_ceFlags_ne _ (ceFbsubst_ne_ceStatus _)]
        exact s.substBit_fbCleared n.isLt
      · rw [State.reg_ceFlags_ne _ (ceFbexp_ne_ceStatus _)]
        exact s.expBit_fbCleared n
      · exact ((s.sameRegsBut_fbClear n).congr (s.regs_fbCleared n)).ceFlags (by simp)
  · refine .intro rfl (s.fbexpWrite_of_on w bits hlive hon) ⟨fun n => ?_, fun _ => rfl, fun _ => rfl⟩
    exact mem_append_filter_not_mem.trans
      (or_congr_right ((mem_map_bitsOf _).trans (by rw [BitVec.getLsbD_and, Bool.and_eq_true])))

end Sys2Proof.Machine

/-! The instructions of the Control Engine (05 R165 to R171, R177, R179; 06 R217 to R220): lanes, accumulators, lane
loads and stores, integrators, posts and END. -/

namespace Sys2Proof.Machine

/-! ## An instruction that is executed, and what its retirement leaves -/

section
variable {s : State} {p : Nat} {core engine : Bool}

/-- A processor that executes an instruction runs its meaning (06 R200, R207). -/
theorem State.instr_of_executes (h : s.Executes p core engine) (body : State → State) :
    s.instr p core engine body = body s := by
  obtain ⟨hrun, hfetch, hprofile⟩ := h
  unfold State.instr
  rw [if_neg (by simp [hrun])]
  exact (if_neg (by simp [hfetch])).trans (if_pos hprofile)

theorem exec_engInstr {i : Instr} {body : State → State} (h : s.Executes 5 false true)
    (hi : exec i s = .next (s.engInstr body)) : exec i s = .next (body s) :=
  hi.trans (congrArg Host.Outcome.next (State.instr_of_executes h body))

variable (s p)

@[simp] theorem State.reg_retire (a : Nat) : (s.retire p).reg a = s.reg a := rfl
@[simp] theorem State.ldb_retire (a : Nat) : (s.retire p).ldb a = s.ldb a := rfl
@[simp] theorem State.ldw_retire (a : Nat) : (s.retire p).ldw a = s.ldw a := rfl

end

/-! ## Lanes and lane accumulators written (05 R168 to R170) -/

/-- Nothing but the engine's own unit differs. -/
def OnlyCe (s t : State) : Prop := t = { s with ce := t.ce }

section
variable {s t : State} {n l : Nat}

theorem OnlyCe.regs (h : OnlyCe s t) : t.regs = s.regs := (congrArg State.regs h :)
theorem OnlyCe.mem (h : OnlyCe s t) : t.mem = s.mem := (congrArg State.mem h :)
theorem OnlyCe.procs (h : OnlyCe s t) : t.procs = s.procs := (congrArg State.procs h :)

theorem OnlyCe.setLane {v : Word} (h : OnlyCe s t) : OnlyCe s (t.setLane n l v) :=
  (congrArg (fun u : State => { u with ce := (t.setLane n l v).ce }) h :)

theorem OnlyCe.setLaneAcc {v : Acc} (h : OnlyCe s t) : OnlyCe s (t.setLaneAcc n l v) :=
  (congrArg (fun u : State => { u with ce := (t.setLaneAcc n l v).ce }) h :)

end

section
variable (s : State) (n : Nat)

@[simp] theorem State.lane_setLane_same (l : Nat) (v : Word) : (s.setLane n l v).lane n l = v :=
  tblGet_tblSet_same _ _ _ _

theorem State.lane_setLane_ne {l k m : Nat} (v : Word) (h : k * 16 + m ≠ n * 16 + l) :
    (s.setLane n l v).lane k m = s.lane k m := tblGet_tblSet_ne _ _ _ h

@[simp] theorem State.laneAcc_setLaneAcc_same (l : Nat) (v : Acc) : (s.setLaneAcc n l v).laneAcc n l = v :=
  tblGet_tblSet_same _ _ _ _

theorem State.laneAcc_setLaneAcc_ne {l k m : Nat} (v : Acc) (h : m * 4 + k ≠ l * 4 + n) :
    (s.setLaneAcc n l v).laneAcc k m = s.laneAcc k m := tblGet_tblSet_ne _ _ _ h

/-- Every lane of a lane register written. -/
def State.lanesSet (s : State) (n : Nat) (v : Nat → Word) : State :=
  s.forAll (List.range 16) fun t l => t.setLane n l (v l)

/-- Accumulator n of every lane written. -/
def State.accsSet (s : State) (n : Nat) (v : Nat → Acc) : State :=
  s.forAll (List.range 16) fun t l => t.setLaneAcc n l (v l)

variable (v : Nat → Word) (w : Nat → Acc)

theorem State.onlyCe_lanesSet : OnlyCe s (s.lanesSet n v) :=
  State.forAll_keeps (OnlyCe s) _ _ s rfl fun _ _ _ h => h.setLane

theorem State.onlyCe_accsSet : OnlyCe s (s.accsSet n w) :=
  State.forAll_keeps (OnlyCe s) _ _ s rfl fun _ _ _ h => h.setLaneAcc

theorem State.lane_lanesSet_same {l : Nat} (hl : l < 16) : (s.lanesSet n v).lane n l = v l :=
  State.forAll_range_reads (op := fun t l => t.setLane n l (v l)) (read := fun t l => t.lane n l)
    (fun _ _ => State.lane_setLane_same _ _ _ _) (fun t _ _ _ _ => t.lane_setLane_ne n _ (by omega)) hl

theorem State.lane_lanesSet_ne {k l : Nat} (hk : k ≠ n) (hl : l < 16) : (s.lanesSet n v).lane k l = s.lane k l :=
  State.forAll_keeps (fun t => t.lane k l = s.lane k l) _ _ s rfl fun t m hm h => by
    have hm := List.mem_range.1 hm
    exact (t.lane_setLane_ne n _ (by omega)).trans h

theorem State.laneAcc_accsSet_same {l : Nat} (hl : l < 16) : (s.accsSet n w).laneAcc n l = w l :=
  State.forAll_range_reads (op := fun t l => t.setLaneAcc n l (w l)) (read := fun t l => t.laneAcc n l)
    (fun _ _ => State.laneAcc_setLaneAcc_same _ _ _ _) (fun t _ _ _ _ => t.laneAcc_setLaneAcc_ne n _ (by omega)) hl

theorem State.laneAcc_accsSet_ne {k l : Nat} (hk : k ≠ n) (hk4 : k < 4) (hn : n < 4) :
    (s.accsSet n w).laneAcc k l = s.laneAcc k l :=
  State.forAll_keeps (fun t => t.laneAcc k l = s.laneAcc k l) _ _ s rfl fun t _ _ h =>
    (t.laneAcc_setLaneAcc_ne n _ (by omega)).trans h

/-! ## The sticky flags of the lanes -/

variable (x : Field) (b : Bool)

theorem State.fb_flagWhen_true {x : Field} (hx : x.hi = x.lo) (hlo : x.lo < 32) : (s.flagWhen x true).fb x = true :=
  State.fb_setB_same s x true hx hlo

theorem State.flagWhen_false : s.flagWhen x false = s := rfl

@[simp] theorem State.ce_flagWhen : (s.flagWhen x b).ce = s.ce := (congrArg State.ce (s.onlyRegs_flagWhen x b).1 :)
@[simp] theorem State.mem_flagWhen : (s.flagWhen x b).mem = s.mem := (congrArg State.mem (s.onlyRegs_flagWhen x b).1 :)
@[simp] theorem State.procs_flagWhen : (s.flagWhen x b).procs = s.procs :=
  (congrArg State.procs (s.onlyRegs_flagWhen x b).1 :)

@[simp] theorem State.lane_flagWhen (l : Nat) : (s.flagWhen x b).lane n l = s.lane n l := by
  rw [State.lane, State.lane, State.ce_flagWhen]

@[simp] theorem State.laneAcc_flagWhen (l : Nat) : (s.flagWhen x b).laneAcc n l = s.laneAcc n l := by
  rw [State.laneAcc, State.laneAcc, State.ce_flagWhen]

theorem any_range_of_lt {n l : Nat} {f : Nat → Bool} (hl : l < n) (h : f l = true) : (List.range n).any f = true :=
  List.any_eq_true.2 ⟨l, List.mem_range.2 hl, h⟩

end

/-! ## The frame of a lane instruction -/

section
variable (s : State) (n : Nat) (h : Nat → Word × Bool) (f : Nat → Int)

theorem State.lanesOut_eq : s.lanesOut n h =
    (s.lanesSet n fun l => (h l).1).flagWhen F.CE_STATUS.OSAT ((List.range 16).any fun l => (h l).2) := rfl

theorem State.lanesAcc_eq : s.lanesAcc n f =
    (s.accsSet n fun l => (satAcc (f l)).1).flagWhen F.CE_STATUS.ACCSAT
      ((List.range 16).any fun l => (satAcc (f l)).2) := rfl

/-- A write of lanes or of lane accumulators, with its sticky flag: CE_STATUS and the engine's unit alone differ. -/
def OnlyCeAndStatus (s t : State) : Prop :=
  SameRegsBut [R.CE_STATUS] s t ∧ t.mem = s.mem ∧ t.procs = s.procs

theorem OnlyCe.flagWhen {t : State} {s : State} {x : Field} {b : Bool} (h : OnlyCe s t) (hx : x.addr = R.CE_STATUS) :
    OnlyCeAndStatus s (t.flagWhen x b) :=
  ⟨hx ▸ (t.onlyRegs_flagWhen x b).2.trans_regs h.regs, (t.mem_flagWhen x b).trans h.mem,
    (t.procs_flagWhen x b).trans h.procs⟩

theorem State.onlyCeAndStatus_lanesOut : OnlyCeAndStatus s (s.lanesOut n h) :=
  (s.onlyCe_lanesSet n _).flagWhen rfl

theorem State.onlyCeAndStatus_lanesAcc : OnlyCeAndStatus s (s.lanesAcc n f) := (s.onlyCe_accsSet n _).flagWhen rfl

theorem State.lane_lanesOut_same {l : Nat} (hl : l < 16) : (s.lanesOut n h).lane n l = (h l).1 := by
  rw [State.lanesOut_eq, State.lane_flagWhen, State.lane_lanesSet_same _ _ _ hl]

theorem State.lane_lanesOut_ne {k l : Nat} (hk : k ≠ n) (hl : l < 16) : (s.lanesOut n h).lane k l = s.lane k l := by
  rw [State.lanesOut_eq, State.lane_flagWhen, State.lane_lanesSet_ne _ _ _ hk hl]

theorem State.laneAcc_lanesAcc_same {l : Nat} (hl : l < 16) : (s.lanesAcc n f).laneAcc n l = (satAcc (f l)).1 := by
  rw [State.lanesAcc_eq, State.laneAcc_flagWhen, State.laneAcc_accsSet_same _ _ _ hl]

theorem State.laneAcc_lanesAcc_ne {k l : Nat} (hk : k ≠ n) (hk4 : k < 4) (hn : n < 4) :
    (s.lanesAcc n f).laneAcc k l = s.laneAcc k l := by
  rw [State.lanesAcc_eq, State.laneAcc_flagWhen, State.laneAcc_accsSet_ne _ _ _ hk hk4 hn]

theorem State.osat_lanesOut {l : Nat} (hl : l < 16) (hsat : (h l).2 = true) :
    (s.lanesOut n h).fb F.CE_STATUS.OSAT = true := by
  rw [State.lanesOut_eq, any_range_of_lt (f := fun l => (h l).2) hl hsat, State.fb_flagWhen_true _ rfl (by decide)]

theorem State.accsat_lanesAcc {l : Nat} (hl : l < 16) (hsat : (satAcc (f l)).2 = true) :
    (s.lanesAcc n f).fb F.CE_STATUS.ACCSAT = true := by
  rw [State.lanesAcc_eq, any_range_of_lt (f := fun l => (satAcc (f l)).2) hl hsat,
    State.fb_flagWhen_true _ rfl (by decide)]

/-- Results that cannot saturate leave every register. -/
theorem State.reg_lanesOut_plain (v : Nat → Word) (a : Nat) : (s.lanesOut n fun l => plain (v l)).reg a = s.reg a := by
  have hnone : ((List.range 16).any fun l => (plain (v l)).2) = false :=
    List.any_eq_false.2 fun _ _ => Bool.false_ne_true
  rw [State.lanesOut_eq, hnone, State.flagWhen_false]
  exact State.reg_congr (s.onlyCe_lanesSet n _).regs a

/-- The lanes of vd hold v, and what else a lane instruction leaves. -/
def LanesWritten (vd : Nat) (v : Nat → Word) (s t : State) : Prop :=
  (∀ l, l < 16 → t.lane vd l = v l) ∧ (∀ k, k ≠ vd → k < 16 → ∀ l, l < 16 → t.lane k l = s.lane k l) ∧
  (∀ a, a ≠ R.CE_STATUS → t.reg a = s.reg a) ∧ SameMem s t ∧ t.proc 5 = retireProc (s.proc 5)

theorem State.lanesWritten_lanesOut : LanesWritten n (fun l => (h l).1) s ((s.lanesOut n h).retire 5) := by
  obtain ⟨hregs, hmem, hprocs⟩ := s.onlyCeAndStatus_lanesOut n h
  refine ⟨fun l hl => s.lane_lanesOut_same n h hl, fun k hk _ l hl => s.lane_lanesOut_ne n h hk hl,
    fun a ha => hregs a (by simpa using ha), State.ldb_congr hmem, ?_⟩
  rw [State.proc_retire, State.proc, State.proc, hprocs]

variable {s n} {i : Instr}

theorem completes_lanesWritten {v : Nat → Word} {h : Nat → Word × Bool}
    (hi : exec i s = .next ((s.lanesOut n h).retire 5)) (hv : ∀ l, (h l).1 = v l) :
    Completes i s (LanesWritten n v s) := by
  obtain rfl : (fun l => (h l).1) = v := funext hv
  exact ⟨_, hi, s.lanesWritten_lanesOut n h⟩

/-- An instruction whose results cannot saturate. -/
theorem completes_plain {v : Nat → Word} (hi : exec i s = .next ((s.lanesOut n fun l => plain (v l)).retire 5)) :
    Completes i s (LanesWritten n v s) ∧ Completes i s fun t => ∀ a, t.reg a = s.reg a :=
  ⟨completes_lanesWritten hi fun _ => rfl, _, hi,
    fun a => (State.reg_retire _ 5 a).trans (s.reg_lanesOut_plain n v a)⟩

/-- An integer clamped to 32 bits (05 R169). -/
def clampWord (v : Int) : Int := if 2147483647 < v then 2147483647 else if v < -2147483648 then -2147483648 else v

/-- An instruction whose results saturate to 32 bits sets OSAT where one does. -/
theorem completes_clamped {f : Nat → Int} (hi : exec i s = .next ((s.lanesOut n fun l => sat32 (f l)).retire 5)) :
    Completes i s (LanesWritten n (fun l => BitVec.ofInt 32 (clampWord (f l))) s) ∧
      ((∃ l, l < 16 ∧ clampWord (f l) ≠ f l) → Completes i s fun t => t.fb F.CE_STATUS.OSAT = true) :=
  ⟨completes_lanesWritten hi fun _ => rfl,
    fun ⟨_, hl, hsat⟩ => ⟨_, hi, s.osat_lanesOut n _ hl (decide_eq_true hsat)⟩⟩

/-- Accumulator n of every lane holds v, saturated, and what else a multiply-accumulate leaves. -/
def AccsWritten (n : Nat) (v : Nat → Int) (s t : State) : Prop :=
  (∀ l, l < 16 → t.laneAcc n l = (satAcc (v l)).1) ∧
  (∀ m, m ≠ n → m < 4 → ∀ l, l < 16 → t.laneAcc m l = s.laneAcc m l) ∧
  ((∃ l, l < 16 ∧ (satAcc (v l)).2 = true) → t.fb F.CE_STATUS.ACCSAT = true) ∧
  (∀ a, a ≠ R.CE_STATUS → t.reg a = s.reg a) ∧ SameMem s t

theorem completes_accsWritten {f : Nat → Int} (hn : n < 4) (hi : exec i s = .next ((s.lanesAcc n f).retire 5)) :
    Completes i s (AccsWritten n f s) := by
  obtain ⟨hregs, hmem, _⟩ := s.onlyCeAndStatus_lanesAcc n f
  exact ⟨_, hi, fun l hl => s.laneAcc_lanesAcc_same n f hl, fun m hm hm4 l _ => s.laneAcc_lanesAcc_ne n f hm hm4 hn,
    fun ⟨l, hl, hsat⟩ => s.accsat_lanesAcc n f hl hsat, fun a ha => hregs a (by simpa using ha), State.ldb_congr hmem⟩

section
variable {vd va vb : Vreg} (hx : s.Executes 5 false true)
include hx

theorem completes_plainOp (f : Word → Word → Word)
    (hi : exec i s = .next (s.laneOp vd va vb fun x y => plain (f x y))) :
    Completes i s (LanesWritten vd (fun l => f (s.lane va l) (s.lane vb l)) s) ∧
      Completes i s fun t => ∀ a, t.reg a = s.reg a := completes_plain (exec_engInstr hx hi)

theorem completes_plainOp1 (f : Word → Word) (hi : exec i s = .next (s.laneOp1 vd va fun x => plain (f x))) :
    Completes i s (LanesWritten vd (fun l => f (s.lane va l)) s) ∧
      Completes i s fun t => ∀ a, t.reg a = s.reg a := completes_plain (exec_engInstr hx hi)

theorem completes_clampedOp (f : Word → Word → Int)
    (hi : exec i s = .next (s.laneOp vd va vb fun x y => sat32 (f x y))) :
    Completes i s (LanesWritten vd (fun l => BitVec.ofInt 32 (clampWord (f (s.lane va l) (s.lane vb l)))) s) ∧
      ((∃ l, l < 16 ∧ clampWord (f (s.lane va l) (s.lane vb l)) ≠ f (s.lane va l) (s.lane vb l)) →
        Completes i s fun t => t.fb F.CE_STATUS.OSAT = true) := completes_clamped (exec_engInstr hx hi)

theorem completes_clampedOp1 (f : Word → Int) (hi : exec i s = .next (s.laneOp1 vd va fun x => sat32 (f x))) :
    Completes i s (LanesWritten vd (fun l => BitVec.ofInt 32 (clampWord (f (s.lane va l)))) s) ∧
      ((∃ l, l < 16 ∧ clampWord (f (s.lane va l)) ≠ f (s.lane va l)) →
        Completes i s fun t => t.fb F.CE_STATUS.OSAT = true) := completes_clamped (exec_engInstr hx hi)

end

section
variable {vd va vb : Vreg} {n : Fin 4} {sh : Fin 32} {tb : Fin 64} {lx : Bool} {c : BitVec 14} {op : MacOp}
variable (hx : s.Executes 5 false true)
include hx

theorem exec_vang : exec (.vang vd va tb) s = .next ((s.lanesOut vd fun l => s.angle tb (s.lane va l)).retire 5) :=
  exec_engInstr (i := .vang vd va tb) (body := fun t => (t.lanesOut vd fun l => t.angle tb (t.lane va l)).retire 5) hx
    rfl

theorem exec_vcm : exec (.vcm vd va lx c) s =
    .next ((s.lanesOut vd fun l => s.coefMul (coefIdx lx c.toNat l) (s.lane va l).toInt).retire 5) :=
  exec_engInstr (i := .vcm vd va lx c)
    (body := fun t => (t.lanesOut vd fun l => t.coefMul (coefIdx lx c.toNat l) (sg (t.lane va l))).retire 5) hx rfl

theorem exec_vbc {r : Gpr} : exec (.vbc vd r) s = .next ((s.lanesOut vd fun _ => plain (s.gpr 5 r)).retire 5) :=
  exec_engInstr (i := .vbc vd r) (body := fun t => (t.lanesOut vd fun _ => plain (t.gpr 5 r)).retire 5) hx rfl

theorem exec_vlane : exec (.vlane vd) s = .next ((s.lanesOut vd fun l => plain (BitVec.ofNat 32 l)).retire 5) :=
  exec_engInstr (i := .vlane vd) (body := fun t => (t.lanesOut vd fun l => plain (wN l)).retire 5) hx rfl

theorem exec_vrda : exec (.vrda vd n sh) s = .next ((s.lanesOut vd fun l => accOut (s.laneAcc n l) sh).retire 5) :=
  exec_engInstr (i := .vrda vd n sh) (body := fun t => (t.lanesOut vd fun l => accOut (t.laneAcc n l) sh).retire 5) hx
    rfl

theorem exec_vcla : exec (.vcla n) s = .next ((s.lanesAcc n fun _ => 0).retire 5) :=
  exec_engInstr (i := .vcla n) (body := fun t => (t.lanesAcc n fun _ => 0).retire 5) hx rfl

theorem exec_vvmac : exec (.vvmac n sh va vb) s = .next ((s.lanesAcc n fun l =>
    (s.laneAcc n l).toInt + rsh ((s.lane va l).toInt * (s.lane vb l).toInt) sh).retire 5) :=
  exec_engInstr (i := .vvmac n sh va vb) (body := fun t => (t.lanesAcc n fun l =>
    (t.laneAcc n l).toInt + rsh (sg (t.lane va l) * sg (t.lane vb l)) sh).retire 5) hx rfl

theorem exec_vcmac : exec (.vcmac op n lx va c) s = .next ((s.lanesAcc n fun l =>
    macSel op (s.laneAcc n l).toInt (rsh ((s.lane va l).toInt * s.coefV (coefIdx lx c.toNat l))
      (s.coefS (coefIdx lx c.toNat l)))).retire 5) :=
  exec_engInstr (i := .vcmac op n lx va c) (body := fun t => (t.lanesAcc n fun l =>
    macSel op (t.laneAcc n l).toInt (rsh (sg (t.lane va l) * t.coefV (coefIdx lx c.toNat l))
      (t.coefS (coefIdx lx c.toNat l)))).retire 5) hx rfl

end

theorem ite_slt {α : Type} (x y : Word) (a b : α) :
    (if x.slt y then a else b) = if x.toInt < y.toInt then a else b := by
  simp only [BitVec.slt, decide_eq_true_eq]

end

/-! ## Lane loads and stores (05 R168; 06 R217, R220) -/

section
variable {s : State} {vd va : Vreg} {base : Fin 16} {w : BitVec 12} {a : Nat}

/-- The place that VLD loads into lane l: word l, or word 0 in every lane. -/
def vldAt (a : Nat) (bc : Bool) (l : Nat) : Nat := if bc then a else a + 4 * l

theorem exec_vld_of_ok {bc : Bool} (hx : s.Executes 5 false true) (ha : s.laneAddr base w.toNat = a)
    (halign : a % 4 = 0) (hread : engReadOk a (if bc then 1 else 16) = true)
    (hgood : ∀ l, l < 16 → s.isBad (vldAt a bc l) = false) : exec (.vld vd base bc w) s =
      .next ((s.lanesOut vd fun l => plain (if s.isBad (vldAt a bc l) then 0 else s.ldw (vldAt a bc l))).retire 5) := by
  have hnone : ((List.range 16).any fun l => s.isBad (vldAt a bc l)) = false :=
    List.any_eq_false.2 fun l hl => by simp [hgood l (List.mem_range.1 hl)]
  refine (exec_engInstr hx rfl).trans (congrArg Host.Outcome.next ?_)
  rw [ha, if_neg (by omega), if_neg (by simp [hread])]
  exact if_neg (by simpa [vldAt] using hnone)

/-- A load of good words: the lanes hold them, and no register or byte of memory differs. -/
theorem completes_vld {bc : Bool} (hx : s.Executes 5 false true) (ha : s.laneAddr base w.toNat = a)
    (halign : a % 4 = 0) (hread : engReadOk a (if bc then 1 else 16) = true)
    (hgood : ∀ l, l < 16 → s.isBad (vldAt a bc l) = false) : Completes (.vld vd base bc w) s fun t =>
      (∀ l, l < 16 → t.lane vd l = s.ldw (vldAt a bc l)) ∧ (∀ b, t.reg b = s.reg b) ∧ SameMem s t := by
  obtain ⟨hlanes, _, _, hmem, _⟩ := s.lanesWritten_lanesOut vd fun l =>
    plain (if s.isBad (vldAt a bc l) then 0 else s.ldw (vldAt a bc l))
  refine ⟨_, exec_vld_of_ok hx ha halign hread hgood, fun l hl => ?_,
    fun b => (State.reg_retire _ 5 b).trans (s.reg_lanesOut_plain vd _ b), hmem⟩
  exact (hlanes l hl).trans (if_neg (by simp [hgood l hl]))

/-- The words of 16 lanes stored from an address upwards. -/
def State.lanesStored (s : State) (a : Nat) (v : Nat → Word) : State :=
  s.forAll (List.range 16) fun t l => t.store (a + 4 * l) (v l)

theorem State.ldw_lanesStored (s : State) (a : Nat) (v : Nat → Word) {l : Nat} (hl : l < 16) :
    (s.lanesStored a v).ldw (a + 4 * l) = v l :=
  State.forAll_range_reads (op := fun t l => t.store (a + 4 * l) (v l)) (read := fun t l => t.ldw (a + 4 * l))
    (fun _ _ => State.ldw_store_same _ _) (fun _ _ _ _ _ => State.ldw_store_apart _ _ (.inl (by omega))) hl

theorem State.sameMemOut_lanesStored (s : State) (a : Nat) (v : Nat → Word) :
    SameMemOut a (a + 64) s (s.lanesStored a v) :=
  State.forAll_keeps (SameMemOut a (a + 64) s) _ _ s .refl fun _ l hl h => by
    have hl := List.mem_range.1 hl
    exact h.store (by omega) (by omega)

theorem State.regs_lanesStored (s : State) (a : Nat) (v : Nat → Word) : (s.lanesStored a v).regs = s.regs :=
  State.forAll_keeps (fun t => t.regs = s.regs) _ _ s rfl fun _ _ _ h => h

theorem exec_vst_of_ok (hx : s.Executes 5 false true) (ha : s.laneAddr base w.toNat = a) (halign : a % 4 = 0)
    (hwrite : engWriteOk a 16 = true) :
    exec (.vst va base w) s = .next ((s.lanesStored a fun l => s.lane va l).retire 5) := by
  refine (exec_engInstr hx rfl).trans (congrArg Host.Outcome.next ?_)
  rw [ha, if_neg (by omega), if_neg (by simp [hwrite])]
  rfl

theorem completes_vst (hx : s.Executes 5 false true) (ha : s.laneAddr base w.toNat = a) (halign : a % 4 = 0)
    (hwrite : engWriteOk a 16 = true) : Completes (.vst va base w) s fun t =>
      (∀ l, l < 16 → t.ldw (a + 4 * l) = s.lane va l) ∧ (∀ b, b < a ∨ a + 64 ≤ b → t.ldb b = s.ldb b) ∧
        ∀ b, t.reg b = s.reg b := by
  refine ⟨_, exec_vst_of_ok hx ha halign hwrite, fun l hl => ?_, fun b hb => ?_, fun b => ?_⟩
  · exact (State.ldw_retire _ 5 _).trans (s.ldw_lanesStored a _ hl)
  · exact (State.ldb_retire _ 5 b).trans (s.sameMemOut_lanesStored a _ b hb)
  · exact (State.reg_retire _ 5 b).trans (State.reg_congr (s.regs_lanesStored a _) b)

theorem exec_vst_of_refused (hx : s.Executes 5 false true) (ha : s.laneAddr base w.toNat = a) (halign : a % 4 = 0)
    (hwrite : engWriteOk a 16 = false) : exec (.vst va base w) s = .next (s.retireWith 5 3) := by
  refine (exec_engInstr hx rfl).trans (congrArg Host.Outcome.next ?_)
  rw [ha, if_neg (by omega), if_pos (by simp [hwrite])]

end

/-! ## Integrators (05 R177; 06 R218) -/

section
variable (s : State) (a : Nat) (w x y z : Word)

/-- The words 1 to 4 of a descriptor stored. -/
def State.wordsStored (s : State) (a : Nat) (w x y z : Word) : State :=
  (((s.store (a + 4) w).store (a + 8) x).store (a + 12) y).store (a + 16) z

theorem State.regs_wordsStored : (s.wordsStored a w x y z).regs = s.regs := by
  simp only [State.wordsStored, State.regs_store]

theorem State.ldw_wordsStored : (s.wordsStored a w x y z).ldw a = s.ldw a ∧ (s.wordsStored a w x y z).ldw (a + 4) = w ∧
    (s.wordsStored a w x y z).ldw (a + 8) = x ∧ (s.wordsStored a w x y z).ldw (a + 12) = y ∧
    (s.wordsStored a w x y z).ldw (a + 16) = z := by
  unfold State.wordsStored
  refine ⟨?_, ?_, ?_, ?_, State.ldw_store_same _ _⟩
  · iterate 4 rw [State.ldw_store_apart _ _ (by omega)]
  · iterate 3 rw [State.ldw_store_apart _ _ (by omega)]
    exact State.ldw_store_same _ _
  · iterate 2 rw [State.ldw_store_apart _ _ (by omega)]
    exact State.ldw_store_same _ _
  · rw [State.ldw_store_apart _ _ (by omega), State.ldw_store_same]

theorem State.sameMemOut_wordsStored : SameMemOut (a + 4) (a + 20) s (s.wordsStored a w x y z) :=
  (((SameMemOut.refl.store (by omega) (by omega)).store (by omega) (by omega)).store (by omega) (by omega)).store
    (by omega) (by omega)

end

section
variable (s : State) (d : Nat) (e : Word)

/-- KADDR of integrator d. -/
def State.intK (s : State) (d : Nat) : Nat := fld (s.ldw (intAddr d)) 29 16

/-- The state of integrator d with its step added, before its limits. -/
def State.intSum (s : State) (d : Nat) (e : Word) : Int :=
  sg (s.ldw (intAddr d + 4)) + sg (s.coefMul (s.intK d + 1) (sg e)).1

/-- The state that integrator d takes. -/
def State.intNext (s : State) (d : Nat) (e : Word) : Int :=
  heldIn (s.coefV (s.intK d + 2)) (s.coefV (s.intK d + 3)) (s.intSum d e)

/-- STATUS that integrator d takes: between the limits it stays only where an error of 0 meets a state held before. -/
def State.intStatus (s : State) (d : Nat) (e : Word) : Word :=
  limitWord (s.coefV (s.intK d + 2)) (s.coefV (s.intK d + 3)) (s.intSum d e)
    (if bitAt (s.ldw (intAddr d + 16)) 31 && decide (e = 0) then s.ldw (intAddr d + 16) else 0)

/-- The output of integrator d, and whether a step to it saturated. -/
def State.intOut (s : State) (d : Nat) (e : Word) : Word × Bool :=
  let py := s.coefMul (s.intK d) (sg e)
  let y := sat32 (sg py.1 + s.intNext d e)
  (y.1, y.2 || py.2 || (s.coefMul (s.intK d + 1) (sg e)).2)

/-- Integrator d after its step. -/
def State.intStored (s : State) (d : Nat) (e : Word) : State :=
  s.wordsStored (intAddr d) (w32 (s.intNext d e)) e (s.intOut d e).1 (s.intStatus d e)

theorem heldIn_limitWord (lo hi x : Int) (free : Word) :
    (if hi < x then (hi, 0xC0000000#32) else if x < lo then (lo, 0x80000000#32) else (x, free)) =
      (heldIn lo hi x, limitWord lo hi x free) := by
  unfold heldIn limitWord
  split
  · rfl
  · split <;> rfl

theorem State.intStep_of_disabled (h : bitAt (s.ldw (intAddr d)) 31 = false) : s.intStep d e = (s, 0, false) :=
  if_pos (.inr h)

theorem State.intStep_of_enabled {d : Nat} (hd : d < 256) (h : bitAt (s.ldw (intAddr d)) 31 = true) :
    s.intStep d e = (s.intStored d e, s.intOut d e) := by
  unfold State.intStep
  rw [if_neg (by simp [hd, h])]
  dsimp only
  rw [heldIn_limitWord]
  rfl

/-- The five words of integrator d after its step. -/
theorem State.ldw_intStored : (s.intStored d e).ldw (intAddr d) = s.ldw (intAddr d) ∧
    (s.intStored d e).ldw (intAddr d + 4) = w32 (s.intNext d e) ∧ (s.intStored d e).ldw (intAddr d + 8) = e ∧
    (s.intStored d e).ldw (intAddr d + 12) = (s.intOut d e).1 ∧
    (s.intStored d e).ldw (intAddr d + 16) = s.intStatus d e := s.ldw_wordsStored _ _ _ _ _

theorem State.regs_intStep {d : Nat} (hd : d < 256) : (s.intStep d e).1.regs = s.regs := by
  cases hen : bitAt (s.ldw (intAddr d)) 31
  · rw [s.intStep_of_disabled d e hen]
  · rw [s.intStep_of_enabled e hd hen]
    exact s.regs_wordsStored _ _ _ _ _

theorem State.sameMemOut_intStep {d : Nat} (hd : d < 256) :
    SameMemOut (intAddr d + 4) (intAddr d + 20) s (s.intStep d e).1 := by
  cases hen : bitAt (s.ldw (intAddr d)) 31
  · rw [s.intStep_of_disabled d e hen]
    exact .refl
  · rw [s.intStep_of_enabled e hd hen]
    exact s.sameMemOut_wordsStored _ _ _ _ _

end

/-! ### A step rests on the words of its own integrator and on the coefficients -/

section
variable {s u : State} {m d c : Nat} {e : Word}

theorem State.activeBank_le (s : State) : s.activeBank ≤ 1 := by
  have h : s.f F.CE_BANK.ACTIVE < 2 ^ (F.CE_BANK.ACTIVE.hi + 1 - F.CE_BANK.ACTIVE.lo) := fld_lt _ _ _
  exact Nat.le_of_lt_succ h

/-- The coefficients lie below the integrators. -/
theorem State.coef_congr (hregs : u.regs = s.regs) (hmem : SameMemOut (intAddr m) (intAddr d) s u) (hc : c ≤ 16386) :
    u.coefV c = s.coefV c ∧ u.coefS c = s.coefS c := by
  have hbank : u.activeBank = s.activeBank := State.f_congr hregs _
  have hle := s.activeBank_le
  have hbelow : coefAddr s.activeBank c + 8 ≤ intAddr m := by unfold coefAddr intAddr; omega
  rw [State.coefV, State.coefV, State.coefS, State.coefS, hbank, hmem.ldw (.inl (by omega)), hmem.ldw (.inl (by omega))]
  exact ⟨rfl, rfl⟩

theorem State.intWords_congr (hregs : u.regs = s.regs) (hmem : SameMemOut (intAddr m) (intAddr d) s u) :
    u.intNext d e = s.intNext d e ∧ u.intOut d e = s.intOut d e ∧ u.intStatus d e = s.intStatus d e := by
  have hword : ∀ j, u.ldw (intAddr d + j) = s.ldw (intAddr d + j) := fun j => hmem.ldw (.inr (Nat.le_add_right _ _))
  have hk : u.intK d = s.intK d := congrArg (fld · 29 16) (hword 0)
  have hlt : s.intK d < 2 ^ (29 + 1 - 16) := fld_lt _ _ _
  have hV : ∀ n, n ≤ 3 → u.coefV (s.intK d + n) = s.coefV (s.intK d + n) := fun n hn =>
    (State.coef_congr hregs hmem (by omega)).1
  have hmul : ∀ n, n ≤ 3 → ∀ v, u.coefMul (s.intK d + n) v = s.coefMul (s.intK d + n) v := fun n hn v => by
    rw [State.coefMul, State.coefMul, hV n hn, (State.coef_congr hregs hmem (by omega)).2]
  have hsum : u.intSum d e = s.intSum d e := by
    rw [State.intSum, State.intSum, hk, hword, hmul 1 (by omega)]
  have hnext : u.intNext d e = s.intNext d e := by
    rw [State.intNext, State.intNext, hk, hsum, hV 2 (by omega), hV 3 (by omega)]
  refine ⟨hnext, ?_, ?_⟩
  · have hmul0 := hmul 0 (by omega)
    rw [Nat.add_zero] at hmul0
    rw [State.intOut, State.intOut, hk, hnext, hmul 1 (by omega), hmul0]
  · rw [State.intStatus, State.intStatus, hk, hsum, hV 2 (by omega), hV 3 (by omega), hword]

/-- Steps of earlier integrators do not change the step of integrator d. -/
theorem State.intStep_congr (hregs : u.regs = s.regs) (hmem : SameMemOut (intAddr m) (intAddr d) s u) (hd : d < 256) :
    (u.intStep d e).2 = (s.intStep d e).2 ∧
      ∀ j, j < 5 → (u.intStep d e).1.ldw (intAddr d + 4 * j) = (s.intStep d e).1.ldw (intAddr d + 4 * j) := by
  have hword : ∀ j, u.ldw (intAddr d + j) = s.ldw (intAddr d + j) := fun j => hmem.ldw (.inr (Nat.le_add_right _ _))
  cases hen : bitAt (s.ldw (intAddr d)) 31
  · rw [s.intStep_of_disabled d e hen, u.intStep_of_disabled d e ((congrArg (bitAt · 31) (hword 0)).trans hen)]
    exact ⟨rfl, fun j _ => hword _⟩
  · rw [s.intStep_of_enabled e hd hen, u.intStep_of_enabled e hd ((congrArg (bitAt · 31) (hword 0)).trans hen)]
    obtain ⟨hnext, hout, hstatus⟩ := State.intWords_congr (e := e) hregs hmem
    obtain ⟨hu0, hu1, hu2, hu3, hu4⟩ := u.ldw_intStored d e
    obtain ⟨hs0, hs1, hs2, hs3, hs4⟩ := s.ldw_intStored d e
    refine ⟨hout, fun j hj => ?_⟩
    match j, hj with
    | 0, _ => exact (hu0.trans (hword 0)).trans hs0.symm
    | 1, _ => exact (hu1.trans (congrArg w32 hnext)).trans hs1.symm
    | 2, _ => exact hu2.trans hs2.symm
    | 3, _ => exact (hu3.trans (congrArg Prod.fst hout)).trans hs3.symm
    | 4, _ => exact (hu4.trans hstatus).trans hs4.symm

end

/-! ### VINT steps 16 integrators (05 R177) -/

section
variable (s : State) (n : Nat) (e : Nat → Word)

/-- Lanes 0 to m − 1 have stepped their integrators. -/
def State.intsStepped (s : State) (n : Nat) (e : Nat → Word) (m : Nat) : State :=
  s.forAll (List.range m) fun t l => (t.intStep (n + l) (e l)).1

theorem State.intsStepped_succ (m : Nat) :
    s.intsStepped n e (m + 1) = ((s.intsStepped n e m).intStep (n + m) (e m)).1 := State.forAll_range_succ _ _

theorem State.foldl_intStep (m : Nat) :
    (List.range m).foldl (fun (acc : State × List (Word × Bool)) l =>
        ((acc.1.intStep (n + l) (e l)).1, acc.2 ++ [(acc.1.intStep (n + l) (e l)).2])) (s, []) =
      (s.intsStepped n e m, (List.range m).map fun l => ((s.intsStepped n e l).intStep (n + l) (e l)).2) := by
  induction m with
  | zero => rfl
  | succ m ih =>
    rw [List.range_succ, List.foldl_append, ih, List.map_append, State.intsStepped_succ]
    rfl

variable {m : Nat}

theorem State.regs_intsStepped (hm : n + m ≤ 256) : (s.intsStepped n e m).regs = s.regs :=
  State.forAll_keeps (fun t => t.regs = s.regs) _ _ s rfl fun t l hl h => by
    have hl := List.mem_range.1 hl
    exact (t.regs_intStep _ (by omega)).trans h

theorem intAddr_add (l : Nat) : intAddr (n + l) = intAddr n + 32 * l := by unfold intAddr; omega

theorem State.sameMemOut_intsStepped (hm : n + m ≤ 256) :
    SameMemOut (intAddr n) (intAddr (n + m)) s (s.intsStepped n e m) :=
  State.forAll_keeps (SameMemOut (intAddr n) (intAddr (n + m)) s) _ _ s .refl fun t l hl h => by
    have hl := List.mem_range.1 hl
    have hstep := t.sameMemOut_intStep (e l) (d := n + l) (by omega)
    rw [intAddr_add] at hstep
    rw [intAddr_add] at h ⊢
    exact fun b hb => (hstep b (by omega)).trans (h b hb)

theorem State.intStep_intsStepped {l : Nat} (hl : n + l < 256) :
    (((s.intsStepped n e l).intStep (n + l) (e l)).2 = (s.intStep (n + l) (e l)).2 ∧
      ∀ j, j < 5 → ((s.intsStepped n e l).intStep (n + l) (e l)).1.ldw (intAddr (n + l) + 4 * j) =
        (s.intStep (n + l) (e l)).1.ldw (intAddr (n + l) + 4 * j)) :=
  State.intStep_congr (s.regs_intsStepped n e (by omega)) (s.sameMemOut_intsStepped n e (by omega)) hl

/-- After the row, each integrator stands as its own step from the state before leaves it. -/
theorem State.ldw_intsStepped (hm : n + m ≤ 256) {l j : Nat} (hl : l < m) (hj : j < 5) :
    (s.intsStepped n e m).ldw (intAddr (n + l) + 4 * j) = (s.intStep (n + l) (e l)).1.ldw (intAddr (n + l) + 4 * j) :=
  State.forAll_range_reads (op := fun t l => (t.intStep (n + l) (e l)).1)
    (read := fun t l => t.ldw (intAddr (n + l) + 4 * j))
    (fun i hi => (s.intStep_intsStepped n e (by omega)).2 j hj)
    (fun t i k hik hk => by
      have hstep := t.sameMemOut_intStep (e k) (d := n + k) (by omega)
      rw [intAddr_add] at hstep
      rw [intAddr_add]
      exact hstep.ldw (.inl (by omega))) hl

/-- The outputs of the integrators, in the order of the lanes. -/
def State.intOuts (s : State) (n : Nat) (e : Nat → Word) (l : Nat) : Word × Bool :=
  (((List.range 16).map fun l => ((s.intsStepped n e l).intStep (n + l) (e l)).2)[l]?).getD (0, false)

theorem State.intOuts_eq (hn : n + 15 < 256) {l : Nat} (hl : l < 16) :
    s.intOuts n e l = (s.intStep (n + l) (e l)).2 := by
  have hrange : (List.range 16)[l]? = some l := List.getElem?_range hl
  rw [State.intOuts, List.getElem?_map, hrange]
  exact (s.intStep_intsStepped n e (by omega)).1

variable {s} {vd va : Vreg} {n : BitVec 8}

theorem exec_vint (hx : s.Executes 5 false true) : exec (.vint vd va n) s =
    .next (((s.intsStepped n.toNat (fun l => s.lane va l) 16).lanesOut vd
      (s.intOuts n.toNat fun l => s.lane va l)).retire 5) := by
  refine (exec_engInstr hx rfl).trans (congrArg Host.Outcome.next ?_)
  have hfold := s.foldl_intStep n.toNat (fun l => s.lane va l) 16
  dsimp only
  rw [hfold]
  rfl


theorem completes_vint (hx : s.Executes 5 false true) (hn : n.toNat + 15 < 256) : Completes (.vint vd va n) s fun t =>
    (∀ l, l < 16 → t.lane vd l = (s.intStep (n.toNat + l) (s.lane va l)).2.1 ∧
      ∀ j, j < 5 → t.ldw (intAddr (n.toNat + l) + 4 * j) =
        (s.intStep (n.toNat + l) (s.lane va l)).1.ldw (intAddr (n.toNat + l) + 4 * j)) ∧
    SameRegsBut [R.CE_STATUS] s t := by
  refine ⟨_, exec_vint hx, ?_⟩
  have hregs := s.regs_intsStepped n.toNat (fun l => s.lane va l) (m := 16) (by omega)
  have hword := fun l j => s.ldw_intsStepped n.toNat (fun l => s.lane va l) (m := 16) (l := l) (j := j) (by omega)
  generalize s.intsStepped n.toNat (fun l => s.lane va l) 16 = u at hregs hword ⊢
  obtain ⟨hlanes, _, hreg, hmem, _⟩ := u.lanesWritten_lanesOut vd (s.intOuts n.toNat fun l => s.lane va l)
  refine ⟨fun l hl => ⟨(hlanes l hl).trans (congrArg Prod.fst (s.intOuts_eq _ _ hn hl)), fun j hj => ?_⟩,
    SameRegsBut.trans_regs (fun a ha => hreg a (by simpa using ha)) hregs⟩
  exact (SameMemOut.ldw (lo := 0) (hi := 0) (fun b _ => hmem b) (.inr (Nat.zero_le _))).trans (hword l j hl hj)

end

section
variable {s : State} {d : Nat} {e : Word}

theorem heldIn_of_within {lo hi x : Int} (hlo : lo ≤ x) (hhi : x ≤ hi) : heldIn lo hi x = x :=
  (if_neg (by omega)).trans (if_neg (by omega))

theorem heldIn_of_above {lo hi x : Int} (h : hi < x) : heldIn lo hi x = hi := if_pos h

theorem heldIn_of_below {lo hi x : Int} (hlo : x < lo) (hhi : x ≤ hi) : heldIn lo hi x = lo :=
  (if_neg (by omega)).trans (if_pos hlo)

theorem limitWord_of_above {lo hi x : Int} {free : Word} (h : hi < x) : limitWord lo hi x free = 0xC0000000#32 :=
  if_pos h

theorem limitWord_of_below {lo hi x : Int} {free : Word} (hlo : x < lo) (hhi : x ≤ hi) :
    limitWord lo hi x free = 0x80000000#32 := (if_neg (by omega)).trans (if_pos hlo)

theorem State.intStored_of_within (hlo : s.coefV (s.intK d + 2) ≤ s.intSum d e)
    (hhi : s.intSum d e ≤ s.coefV (s.intK d + 3)) : (s.intStored d e).ldw (intAddr d + 4) = w32 (s.intSum d e) ∧
      (s.intOut d e).1 = (sat32 (sg (s.coefMul (s.intK d) (sg e)).1 + s.intSum d e)).1 := by
  have hnext : s.intNext d e = s.intSum d e := heldIn_of_within hlo hhi
  obtain ⟨_, hstate, _⟩ := s.ldw_intStored d e
  rw [hstate, State.intOut, hnext]
  exact ⟨rfl, rfl⟩

theorem State.intStored_of_above (h : s.coefV (s.intK d + 3) < s.intSum d e) :
    (s.intStored d e).ldw (intAddr d + 4) = w32 (s.coefV (s.intK d + 3)) ∧
      (s.intStored d e).ldw (intAddr d + 16) = 0xC0000000#32 := by
  obtain ⟨_, hstate, _, _, hstatus⟩ := s.ldw_intStored d e
  exact ⟨hstate.trans (congrArg w32 (heldIn_of_above h)), hstatus.trans (limitWord_of_above h)⟩

theorem State.intStored_of_below (hlo : s.intSum d e < s.coefV (s.intK d + 2))
    (hhi : s.intSum d e ≤ s.coefV (s.intK d + 3)) :
    (s.intStored d e).ldw (intAddr d + 4) = w32 (s.coefV (s.intK d + 2)) ∧
      (s.intStored d e).ldw (intAddr d + 16) = 0x80000000#32 := by
  obtain ⟨_, hstate, _, _, hstatus⟩ := s.ldw_intStored d e
  exact ⟨hstate.trans (congrArg w32 (heldIn_of_below hlo hhi)), hstatus.trans (limitWord_of_below hlo hhi)⟩

end

/-! ## VEXT writes a general register (06 R217) -/

section
variable (q : Proc) (r : Nat) (v : Word)

theorem bankOf_setGprOf : bankOf (setGprOf q r v) = bankOf q := by
  unfold setGprOf
  split
  · rfl
  · split <;> rfl

theorem gprOf_setGprOf_same : gprOf (setGprOf q r v) r = if r = 0 then 0 else v := by
  rw [gprOf, bankOf_setGprOf]
  by_cases hr : r = 0
  · rw [if_pos hr, if_pos hr]
  · rw [if_neg hr, if_neg hr, setGprOf, if_neg hr]
    split
    · exact tblGet_tblSet_same _ _ _ _
    · exact tblGet_tblSet_same _ _ _ _

theorem tblGet_setGprOf_ne {n : Nat} (hn : n ≠ r) :
    tblGet (fun _ => (0 : Word)) (setGprOf q r v).g n = tblGet (fun _ => (0 : Word)) q.g n ∧
      tblGet (fun _ => (0 : Word)) (setGprOf q r v).gi n = tblGet (fun _ => (0 : Word)) q.gi n := by
  unfold setGprOf
  split
  · exact ⟨rfl, rfl⟩
  · split
    · exact ⟨rfl, tblGet_tblSet_ne _ _ _ hn⟩
    · exact ⟨tblGet_tblSet_ne _ _ _ hn, rfl⟩

theorem gprOf_setGprOf_ne {n : Nat} (hn : n ≠ r) : gprOf (setGprOf q r v) n = gprOf q n := by
  obtain ⟨hg, hgi⟩ := tblGet_setGprOf_ne q r v hn
  rw [gprOf, gprOf, bankOf_setGprOf, hg, hgi]

theorem setGprOf_bank : if 24 ≤ r ∧ bankOf q = true then (setGprOf q r v).g = q.g else (setGprOf q r v).gi = q.gi := by
  unfold setGprOf
  split
  next h => rw [if_neg (by omega)]
  next h => split <;> rfl

theorem retireProc_setGprOf : retireProc (setGprOf q r v) =
    { q with g := (setGprOf q r v).g, gi := (setGprOf q r v).gi, status := q.status ||| 0, pc := (retireProc q).pc,
             loops := (retireProc q).loops, run := .running } := by
  rw [show q.status ||| 0 = q.status from BitVec.or_zero]
  unfold setGprOf
  split
  · rfl
  · split <;> rfl

end

theorem State.writesGpr_setGpr (s : State) (p r : Nat) (v : Word) :
    WritesGpr p r v 0 s ((s.setGpr p r v).retire p) := by
  have hproc : ((s.setGpr p r v).retire p).proc p = retireProc (setGprOf (s.proc p) r v) :=
    (State.proc_retire _ p).trans (congrArg retireProc (s.proc_setProc_same p _))
  refine ⟨⟨rfl, fun q hq => (State.proc_setProc_ne _ _ hq).trans (s.proc_setProc_ne _ hq)⟩, ?_, fun n hn => ?_, ?_, ?_⟩
  · exact (congrArg (gprOf · r) hproc).trans (gprOf_setGprOf_same _ r v)
  · exact (congrArg (gprOf · n) hproc).trans (gprOf_setGprOf_ne _ r v hn)
  · rw [hproc]
    exact setGprOf_bank _ r v
  · rw [hproc]
    exact retireProc_setGprOf _ r v

/-! ## Posts (05 R165, R166) -/

section
variable (s : State) {g : Nat} {es : List (Word × Word)} {cut : Nat}

theorem State.postGroup_of_fit (hes : (s.outEntries fun w => decide (fld w 31 28 = 1 ∧ fld w 27 26 = g)) = es)
    (hcut : s.boundary s.tm.k + s.f (F.CE_POST.CUT g) * 3200 = cut) (h : s.now + 64 * es.length < cut) :
    s.postGroup g = (es.foldl (fun t e => t.postWrite e.1 e.2) s).setF (F.CE_POST.LASTAT g)
      ((s.now - s.boundary s.tm.k) / 64 + es.length) := by
  have hfit : (List.range es.length).filter (fun n => decide (s.now + 64 * (n + 1) < cut)) = List.range es.length :=
    List.filter_eq_self.2 fun n hn => decide_eq_true (by have := List.mem_range.1 hn; omega)
  simp only [State.postGroup, hes, hcut, hfit, List.length_range, List.take_length, Nat.lt_irrefl, if_false]

theorem State.postGroup_of_late (hes : (s.outEntries fun w => decide (fld w 31 28 = 1 ∧ fld w 27 26 = g)) = es)
    (hcut : s.boundary s.tm.k + s.f (F.CE_POST.CUT g) * 3200 = cut) (h : cut ≤ s.now + 64) (hne : es ≠ []) :
    s.postGroup g = (s.setB F.CE_STATUS.LATEPOST true).raise 13 := by
  have hfit : (List.range es.length).filter (fun n => decide (s.now + 64 * (n + 1) < cut)) = [] :=
    List.filter_eq_nil_iff.2 fun n _ => by simp only [decide_eq_true_eq]; omega
  have hpos : 0 < es.length := List.length_pos_iff.2 hne
  simp only [State.postGroup, hes, hcut, hfit, List.length_nil, List.take_zero, List.foldl_nil, hpos, if_true]

theorem State.postWrite_of_row {w0 v : Word} {r : RegRow} (hon : s.on 6 = true)
    (hrow : regRow? (0x40080000 + fld w0 15 0) = some r) :
    s.postWrite w0 v = s.setReg (0x40080000 + fld w0 15 0) (s.ramped w0 v &&& r.rw) := by
  unfold State.postWrite
  rw [if_pos hon, hrow]

end

/-! ## END (05 R220) -/

section
variable (s : State)

/-- No program runs. -/
def State.endShown (s : State) : State := (s.modProc 5 fun q => { q with run := .halted }).setB F.CE_STATUS.RUN false

/-- CE_MAXCYC holds the latest end so far. -/
def State.endCounted (s : State) (c : Nat) : State := s.setF F.CE_MAXCYC.CYC (max (s.f F.CE_MAXCYC.CYC) c)

/-- The engine after its program ended at cycle c. -/
def State.programEnded (s : State) (c : Nat) : State :=
  let v := s.endShown.endCounted c
  { v with ce := { v.ce with slot := none, lastEnd := c } }

theorem exec_endProgram (hx : s.Executes 5 false true) :
    exec .endProgram s = .next (s.programEnded ((s.now - s.boundary s.tm.k) / 64)) :=
  exec_engInstr (i := .endProgram) (body := fun t => t.programEnded ((t.now - t.boundary t.tm.k) / 64)) hx rfl

variable (c : Nat)

theorem State.regs_programEnded : (s.programEnded c).regs = (s.endShown.endCounted c).regs := rfl
theorem State.mem_programEnded : (s.programEnded c).mem = s.mem := rfl
theorem State.slot_programEnded : (s.programEnded c).ce.slot = none := rfl

theorem State.proc_programEnded : (s.programEnded c).proc 5 = { s.proc 5 with run := .halted } :=
  s.proc_setProc_same 5 _

theorem State.run_programEnded : (s.programEnded c).fb F.CE_STATUS.RUN = false :=
  (State.fb_congr (s.regs_programEnded c) _).trans <|
    (State.fb_setF_apart _ F.CE_MAXCYC.CYC F.CE_STATUS.RUN _ (by decide)).trans
      (State.fb_setB_same _ F.CE_STATUS.RUN _ rfl (by decide))

theorem State.sameRegsBut_programEnded : SameRegsBut [R.CE_STATUS, R.CE_MAXCYC] s (s.programEnded c) := by
  have h : SameRegsBut [R.CE_STATUS, R.CE_MAXCYC] s (s.modProc 5 fun q => { q with run := .halted }) :=
    .ofRegs (State.modProc_regs _ _ _)
  exact ((h.setB List.mem_cons_self).setF (List.mem_cons_of_mem _ List.mem_cons_self)).congr (s.regs_programEnded c)

end

/-- Settles O18: each instruction by the state it completes in, and then what the writes of that state read. -/
theorem engineLaneInstructions : Obligations.EngineLaneInstructions := by
  refine ⟨fun s vd va vb sh r tb n lx c hx => ?_, fun s op n sh lx va vb c hx => ?_,
    fun s vd va base w hx => ?_, fun s vd va n hx hn => completes_vint hx hn, fun s d e hd => ?_,
    fun s va l r hx => ⟨_, exec_engInstr hx rfl, s.writesGpr_setGpr 5 r _⟩, fun s g hx => ?_, fun s hx => ?_⟩
  · have hmin := completes_plainOp hx (i := .vmin vd va vb) (fun x y => if x.slt y then x else y) rfl
    have hmax := completes_plainOp hx (i := .vmax vd va vb) (fun x y => if x.slt y then y else x) rfl
    have hclt := completes_plainOp hx (i := .vclt vd va vb) (fun x y => if x.slt y then 0xFFFFFFFF#32 else 0) rfl
    simp only [ite_slt] at hmin hmax hclt
    exact ⟨completes_plainOp hx (· + ·) rfl, completes_plainOp hx (· - ·) rfl, completes_plainOp hx (· &&& ·) rfl,
      completes_plainOp hx (· ||| ·) rfl, completes_plainOp hx (· ^^^ ·) rfl,
      completes_clampedOp hx (fun x y => x.toInt + y.toInt) rfl,
      completes_clampedOp hx (fun x y => x.toInt - y.toInt) rfl,
      hmin, hmax, completes_clampedOp1 hx (fun x => absI x.toInt) rfl, completes_clampedOp1 hx (fun x => - x.toInt) rfl,
      hclt, completes_plainOp1 hx id rfl, completes_plainOp1 hx (·.sshiftRight sh.val) rfl,
      completes_plainOp1 hx (· <<< sh.val) rfl, completes_plain (exec_vbc hx), completes_plain (exec_vlane hx),
      completes_lanesWritten (exec_vang hx) fun _ => rfl, completes_lanesWritten (exec_vcm hx) fun _ => rfl,
      completes_lanesWritten (exec_vrda hx) fun _ => rfl⟩
  · refine ⟨completes_accsWritten n.isLt (exec_vcla hx), completes_accsWritten n.isLt (exec_vvmac hx), ?_⟩
    cases op <;> exact completes_accsWritten n.isLt (exec_vcmac hx)
  · intro a halign _
    exact ⟨fun hread hgood => completes_vld (bc := false) hx rfl halign hread hgood,
      fun hread hgood => completes_vld (bc := true) hx rfl halign hread fun _ _ => hgood,
      completes_vst hx rfl halign, exec_vst_of_refused hx rfl halign⟩
  · intro a k x r
    refine ⟨s.intStep_of_disabled d e, fun hen hlo hhi => ?_, fun hen h => ?_, fun hen hlo hhi => ?_⟩
    · obtain ⟨hstate, hout⟩ := State.intStored_of_within hlo hhi
      obtain ⟨_, _, herror, hy, _⟩ := s.ldw_intStored d e
      rw [show r = _ from s.intStep_of_enabled e hd hen]
      exact ⟨hstate, herror, hy, hout⟩
    · rw [show r = _ from s.intStep_of_enabled e hd hen]
      exact State.intStored_of_above h
    · rw [show r = _ from s.intStep_of_enabled e hd hen]
      exact State.intStored_of_below hlo hhi
  · have hpost : exec (.post g) s = .next ((s.retire 5).postGroup g) :=
      exec_engInstr (i := .post g) (body := fun t => (t.retire 5).postGroup g) hx rfl
    refine ⟨fun hfit => hpost.trans (congrArg _ (State.postGroup_of_fit _ rfl rfl hfit)),
      fun hlate hne => hpost.trans (congrArg _ (State.postGroup_of_late _ rfl rfl hlate hne)),
      fun w0 v r hon hrow => ?_⟩
    rw [s.postWrite_of_row hon hrow]
    exact ⟨s.reg_setReg_same _ _, OnlyRegs.refl.setReg List.mem_cons_self⟩
  · exact ⟨_, exec_endProgram s hx, congrArg Proc.run (s.proc_programEnded _), s.run_programEnded _,
      s.slot_programEnded _, s.sameRegsBut_programEnded _, State.ldb_congr (s.mem_programEnded _)⟩

end Sys2Proof.Machine

/-! What an instruction of a processor leaves (06 R200, R201, R208, R211): one processor with the value that its
operations form, and the register arithmetic of both profiles (06 R208, R210). -/

namespace Sys2Proof.Machine

/-! ## One processor changed -/

/-- Nothing but processor p differs, and it stands as q. -/
def ProcBecomes (p : Nat) (q : Proc) (s t : State) : Prop := OnlyProc p s t ∧ t.proc p = q

section
variable {s t : State} {p : Nat} {q : Proc}

theorem ProcBecomes.refl : ProcBecomes p (s.proc p) s s := ⟨⟨rfl, fun _ _ => rfl⟩, rfl⟩

theorem ProcBecomes.setProc (h : ProcBecomes p q s t) (x : Proc) : ProcBecomes p x s (t.setProc p x) := by
  obtain ⟨⟨heq, hother⟩, _⟩ := h
  exact ⟨⟨congrArg (fun u : State => { u with procs := (t.setProc p x).procs }) heq,
    fun n hn => (t.proc_setProc_ne x hn).trans (hother n hn)⟩, t.proc_setProc_same p x⟩

theorem ProcBecomes.modProc (h : ProcBecomes p q s t) (f : Proc → Proc) : ProcBecomes p (f q) s (t.modProc p f) :=
  h.2 ▸ h.setProc (f (t.proc p))

theorem ProcBecomes.setGpr (h : ProcBecomes p q s t) (r : Nat) (v : Word) :
    ProcBecomes p (setGprOf q r v) s (t.setGpr p r v) := h.modProc _

theorem ProcBecomes.retire (h : ProcBecomes p q s t) : ProcBecomes p (retireProc q) s (t.retire p) := h.modProc _

theorem ProcBecomes.gpr (h : ProcBecomes p q s t) (r : Nat) : t.gpr p r = gprOf q r := congrArg (gprOf · r) h.2

theorem ProcBecomes.of_eq {x : Proc} (h : ProcBecomes p q s t) (hq : q = x) : ProcBecomes p x s t := hq ▸ h

end

/-! ## An instruction that is executed -/

section
variable {s : State} {p : Nat} {core engine : Bool} {i : Instr}

theorem exec_of_executes {body : State → State} (h : s.Executes p core engine)
    (hi : exec i s = .next (s.instr p core engine body)) : exec i s = .next (body s) :=
  hi.trans (congrArg Host.Outcome.next (State.instr_of_executes h body))

/-- An executed instruction completes as its meaning says. -/
theorem completes_of_executes {body : State → State} {P : State → Prop} (h : s.Executes p core engine)
    (hi : exec i s = .next (s.instr p core engine body)) (hP : P (body s)) : Completes i s P :=
  ⟨_, exec_of_executes h hi, hP⟩

theorem run_of_executes (h : s.Executes p core engine) : (s.proc p).run = .running := by
  obtain ⟨hrun, _⟩ := h
  simp only [State.canRun, Bool.and_eq_true, decide_eq_true_eq] at hrun
  obtain ⟨⟨⟨_, hrunning⟩, _⟩, _⟩ := hrun
  exact hrunning

end

/-! ## STATUS bits set by an instruction (06, special 0) -/

/-- The processor with the STATUS bits of a mask set. -/
def orStatus (q : Proc) (mask : Word) : Proc := { q with status := q.status ||| mask }

section
variable (q : Proc) (m n : Word)

theorem orStatus_zero : orStatus q 0 = q := congrArg (fun w => { q with status := w }) (BitVec.or_zero (x := q.status))

theorem orStatus_orStatus : orStatus (orStatus q m) n = orStatus q (m ||| n) :=
  congrArg (fun w => { q with status := w }) (BitVec.or_assoc _ _ _)

/-- A one-bit field set to 1. -/
theorem setFld_one (w : Word) {i : Nat} (hi : i < 32) : setFld w i i 1 = w ||| BitVec.twoPow 32 i := by
  apply BitVec.eq_of_getLsbD_eq
  intro j hj
  rw [getLsbD_setFld, BitVec.getLsbD_or, BitVec.getLsbD_twoPow]
  by_cases h : j = i
  · subst h
    simp [hj]
  · rw [if_neg (by omega)]
    simp [Ne.symm h]

theorem setStatus_one {i : Nat} (hi : i < 32) : setStatus q i i 1 = orStatus q (BitVec.twoPow 32 i) :=
  congrArg (fun w => { q with status := w }) (setFld_one q.status hi)

/-- A sticky flag is set where its condition holds, and stays else. -/
theorem sticky_eq {i : Nat} (hi : i < 32) (b : Bool) :
    (if b then setStatus q i i 1 else q) = orStatus q (if b then BitVec.twoPow 32 i else 0) := by
  cases b
  · exact (orStatus_zero q).symm
  · exact setStatus_one q hi

theorem flagSat_eq (b : Bool) : flagSat q b = orStatus q (if b then 0x400#32 else 0) := sticky_eq q (by decide) b
theorem flagOv_eq (b : Bool) : flagOv q b = orStatus q (if b then 0x200#32 else 0) := sticky_eq q (by decide) b
theorem flagDz_eq (b : Bool) : flagDz q b = orStatus q (if b then 0x100#32 else 0) := sticky_eq q (by decide) b
theorem flagLb_eq (b : Bool) : flagLb q b = orStatus q (if b then 0x2000#32 else 0) := sticky_eq q (by decide) b

variable {m}

theorem bankOf_orStatus (hm : bitAt m 5 = false) : bankOf (orStatus q m) = bankOf q := by
  show (q.status ||| m).getLsbD 5 = q.status.getLsbD 5
  rw [BitVec.getLsbD_or, show m.getLsbD 5 = false from hm, Bool.or_false]

theorem retireProc_orStatus : retireProc (orStatus q m) = orStatus (retireProc q) m := rfl

end

section
variable (q : Proc)

/-- General registers are read through the bank of STATUS alone. -/
theorem gprOf_congr {q x : Proc} (hg : x.g = q.g) (hgi : x.gi = q.gi) (hbank : bankOf x = bankOf q) (r : Nat) :
    gprOf x r = gprOf q r := by
  unfold gprOf
  rw [hg, hgi, hbank]

theorem gprOf_orStatus {m : Word} (hm : bitAt m 5 = false) (r : Nat) : gprOf (orStatus q m) r = gprOf q r :=
  gprOf_congr (x := orStatus q m) (q := q) rfl rfl (bankOf_orStatus q hm) r

end

section
variable {s t : State} {p d : Nat} {v m : Word}

/-- A processor that wrote g[d], set STATUS bits outside BANK and retired. -/
theorem ProcBecomes.writesGpr (h : ProcBecomes p (retireProc (orStatus (setGprOf (s.proc p) d v) m)) s t)
    (hm : bitAt m 5 = false) : WritesGpr p d v m s t := by
  have hread (r : Nat) : t.gpr p r = gprOf (setGprOf (s.proc p) d v) r :=
    (h.gpr r).trans (gprOf_orStatus _ hm r)
  obtain ⟨honly, hproc⟩ := h
  refine ⟨honly, (hread d).trans (gprOf_setGprOf_same _ d v), fun r hr => (hread r).trans (gprOf_setGprOf_ne _ d v hr),
    ?_, ?_⟩
  · rw [hproc]
    exact setGprOf_bank _ d v
  · rw [hproc, retireProc_orStatus, retireProc_setGprOf, show (s.proc p).status ||| 0 = _ from BitVec.or_zero]
    rfl

theorem ProcBecomes.writesGpr_plain (h : ProcBecomes p (retireProc (setGprOf (s.proc p) d v)) s t) :
    WritesGpr p d v 0 s t := (h.of_eq (congrArg retireProc (orStatus_zero _).symm)).writesGpr rfl

end

/-! ## The shared forms of the arithmetic instructions -/

section
variable {s : State} {p d a b : Nat} {i : Instr} {v : Word}

theorem completes_aluOp (hx : s.Executes p true true) (f : Word → Word → Word)
    (hi : exec i s = .next (s.aluOp p d a b f)) (hv : f (s.gpr p a) (s.gpr p b) = v) :
    Completes i s (WritesGpr p d v 0 s) :=
  completes_of_executes hx hi (hv ▸ (ProcBecomes.refl.setGpr d _).retire.writesGpr_plain)

theorem completes_immOp (hx : s.Executes p true true) (f : Word → Word)
    (hi : exec i s = .next (s.immOp p d a f)) (hv : f (s.gpr p a) = v) : Completes i s (WritesGpr p d v 0 s) :=
  completes_of_executes hx hi (hv ▸ (ProcBecomes.refl.setGpr d _).retire.writesGpr_plain)

/-- A saturated result sets SAT where it is not the exact one. -/
theorem ProcBecomes.writesGpr_sat32 {t : State} {x : Int}
    (h : ProcBecomes p (retireProc (flagSat (setGprOf (s.proc p) d (sat32 x).1) (sat32 x).2)) s t) :
    WritesGpr p d (BitVec.ofInt 32 (clampWord x)) (if clampWord x = x then 0 else 0x400) s t := by
  rw [flagSat_eq] at h
  have hmask : (if (sat32 x).2 then 0x400#32 else 0) = if clampWord x = x then 0 else 0x400 :=
    (ite_congr (decide_eq_true_eq.trans rfl) (fun _ => rfl) fun _ => rfl).trans (ite_not _ _ _)
  rw [hmask] at h
  exact h.writesGpr (by split <;> rfl)

theorem completes_satOp (hx : s.Executes p true true) (f : Int → Int → Int)
    (hi : exec i s = .next (s.satOp p d a b f)) :
    let x := f (s.gpr p a).toInt (s.gpr p b).toInt
    Completes i s (WritesGpr p d (BitVec.ofInt 32 (clampWord x)) (if clampWord x = x then 0 else 0x400) s) :=
  completes_of_executes hx hi
    ((ProcBecomes.refl.setGpr d _).modProc fun q => flagSat q _).retire.writesGpr_sat32

/-- The STATUS bits of a division: DZ for a division by zero, OV for the overflow case (06 R210). -/
def divMask (dz ov : Bool) : Word := (if dz then 0x100#32 else 0) ||| (if ov then 0x200#32 else 0)

theorem completes_divOp (hx : s.Executes p true true) {f : Word → Word → Word × Bool × Bool}
    (hi : exec i s = .next (s.divOp p d a b f)) {dz ov : Bool} (hv : f (s.gpr p a) (s.gpr p b) = (v, dz, ov)) :
    Completes i s (WritesGpr p d v (divMask dz ov) s) := by
  have hdone := ((ProcBecomes.refl (s := s) (p := p)).setGpr d v).modProc fun q => flagOv (flagDz q dz) ov
  rw [flagDz_eq, flagOv_eq, orStatus_orStatus] at hdone
  refine completes_of_executes hx hi ?_
  dsimp only
  rw [hv]
  exact hdone.retire.writesGpr (by cases dz <;> cases ov <;> rfl)

end

/-! ## Results (06 R208, R210) -/

section
variable (x y : Word)

theorem ite_ult {α : Type} (a b : α) : (if x.ult y then a else b) = if x.toNat < y.toNat then a else b := by
  simp only [BitVec.ult_iff_toNat_lt]

theorem fld_shiftCount : fld y 4 0 = y.toNat % 32 := by simp [fld]

theorem divS_of_ne (hy : y ≠ 0) (h : ¬ (x = 0x80000000#32 ∧ y = 0xFFFFFFFF#32)) :
    divS x y = (BitVec.ofInt 32 (x.toInt.tdiv y.toInt), false, false) := by
  have hquot : (x.sdiv y).toInt = x.toInt.tdiv y.toInt := BitVec.toInt_sdiv_of_ne_or_ne x y (not_and_or.1 h)
  rw [divS, if_neg hy, if_neg h, ← hquot, BitVec.ofInt_toInt]

theorem remS_of_ne (hy : y ≠ 0) (h : ¬ (x = 0x80000000#32 ∧ y = 0xFFFFFFFF#32)) :
    remS x y = (BitVec.ofInt 32 (x.toInt.tmod y.toInt), false, false) := by
  rw [remS, if_neg hy, if_neg h, ← BitVec.toInt_srem, BitVec.ofInt_toInt]

theorem divU_of_ne (hy : y ≠ 0) : divU x y = (BitVec.ofNat 32 (x.toNat / y.toNat), false, false) := by
  rw [divU, if_neg hy, ← BitVec.toNat_udiv, BitVec.ofNat_toNat, BitVec.setWidth_eq]

theorem remU_of_ne (hy : y ≠ 0) : remU x y = (BitVec.ofNat 32 (x.toNat % y.toNat), false, false) := by
  rw [remU, if_neg hy, ← BitVec.toNat_umod, BitVec.ofNat_toNat, BitVec.setWidth_eq]

theorem divS_zero : divS x 0 = (if 0 ≤ x.toInt then 0x7FFFFFFF#32 else 0x80000000#32, true, false) := by
  have hsign : x.msb = true ↔ ¬ 0 ≤ x.toInt := by rw [BitVec.msb_eq_toInt, decide_eq_true_eq, not_le]
  simp only [divS, if_true, hsign, ite_not]

/-- The count of leading zeros among the first m bits from the top. -/
theorem leadingZeros_foldl (m : Nat) :
    let n := (List.range m).foldl (fun n i => if n = i ∧ x.getLsbD (31 - i) = false then n + 1 else n) 0
    n ≤ m ∧ (∀ i, i < n → x.getLsbD (31 - i) = false) ∧ (n < m → x.getLsbD (31 - n) = true) := by
  induction m with
  | zero => exact ⟨Nat.le_refl _, fun i hi => absurd hi (Nat.not_lt_zero i), fun h => absurd h (Nat.lt_irrefl _)⟩
  | succ m ih =>
    simp only [List.range_succ, List.foldl_append, List.foldl_cons, List.foldl_nil]
    generalize (List.range m).foldl (fun n i => if n = i ∧ x.getLsbD (31 - i) = false then n + 1 else n) 0 = n at ih ⊢
    obtain ⟨hle, hzero, hone⟩ := ih
    split
    next h =>
      obtain ⟨rfl, hbit⟩ := h
      refine ⟨Nat.le_refl _, fun i hi => ?_, fun h => absurd h (Nat.lt_irrefl _)⟩
      rcases Nat.lt_succ_iff_lt_or_eq.1 hi with hi | rfl
      · exact hzero i hi
      · exact hbit
    next h =>
      refine ⟨Nat.le_succ_of_le hle, hzero, fun _ => ?_⟩
      rcases Nat.lt_or_eq_of_le hle with hlt | rfl
      · exact hone hlt
      · simpa using h

end

/-- Settles O13: each instruction is one of the shared forms, whose result the table gives. -/
theorem yalirtiArithmetic : Obligations.YalirtiArithmetic := by
  intro s p d a b hx x y n clamp gives
  have hshift : fld y 4 0 = n := fld_shiftCount y
  refine ⟨completes_aluOp hx _ rfl rfl, completes_aluOp hx _ rfl rfl, completes_aluOp hx _ rfl rfl,
    completes_aluOp hx _ rfl rfl, completes_aluOp hx _ rfl rfl,
    completes_aluOp hx _ rfl (congrArg (x <<< ·) hshift), completes_aluOp hx _ rfl (congrArg (x >>> ·) hshift),
    completes_aluOp hx _ rfl (congrArg x.sshiftRight hshift),
    completes_aluOp hx _ rfl (ite_slt x y 1 0), completes_aluOp hx _ rfl (ite_ult x y 1 0),
    completes_satOp hx _ rfl, completes_satOp hx _ rfl,
    completes_aluOp hx _ rfl (ite_slt x y x y), completes_aluOp hx _ rfl (ite_slt x y y x),
    ⟨leadingZeros x, completes_immOp hx _ rfl rfl, leadingZeros_foldl x 32⟩,
    completes_aluOp hx _ rfl rfl, completes_aluOp hx _ rfl rfl, completes_aluOp hx _ rfl rfl,
    fun hy => ⟨completes_divOp hx rfl (divU_of_ne x y hy), completes_divOp hx rfl (remU_of_ne x y hy)⟩,
    fun hy h => ⟨completes_divOp hx rfl (divS_of_ne x y hy h), completes_divOp hx rfl (remS_of_ne x y hy h)⟩,
    fun hy => ?_, fun hmin hneg => ?_⟩
  · have hdiv (f : Word → Word → Word × Bool × Bool) : f x y = f x 0 := congrArg (f x) hy
    exact ⟨completes_divOp hx rfl ((hdiv divS).trans (divS_zero x)), completes_divOp hx rfl (hdiv divU),
      completes_divOp hx rfl (hdiv remS), completes_divOp hx rfl (hdiv remU)⟩
  · have hdiv (f : Word → Word → Word × Bool × Bool) : f x y = f 0x80000000#32 0xFFFFFFFF#32 :=
      congr (congrArg f hmin) hneg
    exact ⟨completes_divOp hx rfl (hdiv divS), completes_divOp hx rfl (hdiv remS)⟩

end Sys2Proof.Machine

/-! Immediates, and the accumulators of the core profile (06 R202, R208, R209). -/

namespace Sys2Proof.Machine

/-! ## Immediates (06 R208) -/

theorem upperImm_eq (imm : BitVec 16) : imm.setWidth 32 <<< 16 = BitVec.ofNat 32 (imm.toNat * 65536) := by
  rw [← BitVec.ofNat_toNat 32 imm, BitVec.shiftLeft_eq_mul_twoPow]
  exact (BitVec.ofNat_mul imm.toNat 65536).symm

/-! ## Accumulators (06 R209) -/

/-- An integer clamped to 72 bits (05 R170). -/
def clampAcc (v : Int) : Int :=
  let top : Int := 2 ^ 71
  if top - 1 < v then top - 1 else if v < -top then -top else v

theorem satS_acc (v : Int) : satS 72 v = clampAcc v := by
  norm_num [satS, clampAcc]

theorem satAcc_eq (v : Int) : satAcc v = (BitVec.ofInt 72 (clampAcc v), decide (clampAcc v ≠ v)) := by
  rw [satAcc, satS_acc]

theorem rsh_eq (x : Int) (n : Nat) :
    rsh x n = if n = 0 then x else (x + (2 ^ (n - 1) : Int)) / (2 ^ n : Int) := by
  simp only [rsh, Nat.cast_pow, Nat.cast_ofNat]

theorem accOf_setAccOf (q : Proc) (n m : Nat) (v : Acc) :
    accOf (setAccOf q n v) m = if m = n then v else accOf q m := tblGet_tblSet _ _ _ _ _

/-- A bit of an accumulator after one of its words was replaced. -/
theorem getLsbD_accPut (A : Acc) (v : Word) {w i : Nat} (hw : w < 3) (hi : i < 72) : (accPut A w v).getLsbD i =
    if 32 * w ≤ i ∧ i < 32 * (w + 1) then v.getLsbD (i - 32 * w) else A.getLsbD i := by
  have key : w = 0 ∨ w = 1 ∨ w = 2 := by omega
  rcases key with rfl | rfl | rfl
  · rw [accPut, if_pos rfl, BitVec.getLsbD_append]
    by_cases h : i < 32
    · rw [if_pos h, if_pos (by omega), Nat.mul_zero, Nat.sub_zero]
    · rw [if_neg h, if_neg (by omega), BitVec.getLsbD_extractLsb', decide_eq_true (by omega), Bool.true_and,
        show 32 + (i - 32) = i by omega]
  · rw [accPut, if_neg (by decide), if_pos rfl, BitVec.getLsbD_append]
    by_cases h : i < 32
    · rw [if_pos h, if_neg (by omega), BitVec.getLsbD_extractLsb', decide_eq_true h, Bool.true_and, Nat.zero_add]
    · rw [if_neg h, BitVec.getLsbD_append]
      by_cases h' : i < 64
      · rw [if_pos (by omega), if_pos (by omega), Nat.mul_one]
      · rw [if_neg (by omega), if_neg (by omega), BitVec.getLsbD_extractLsb', decide_eq_true (by omega), Bool.true_and,
          show 64 + (i - 32 - 32) = i by omega]
  · rw [accPut, if_neg (by decide), if_neg (by decide), BitVec.getLsbD_append]
    by_cases h : i < 64
    · rw [if_pos h, if_neg (by omega), BitVec.getLsbD_extractLsb', decide_eq_true h, Bool.true_and, Nat.zero_add]
    · rw [if_neg h, if_pos (by omega), BitVec.getLsbD_extractLsb', decide_eq_true (by omega), Bool.true_and,
        Nat.zero_add]

/-- The frame of an instruction of processor p that writes accumulator n and sets STATUS bits, then retires. -/
def WritesAcc (p n : Nat) (v : Acc) (mask : Word) (s t : State) : Prop :=
  OnlyProc p s t ∧ accOf (t.proc p) n = v ∧ (∀ m, m ≠ n → accOf (t.proc p) m = accOf (s.proc p) m) ∧
  (∀ r, t.gpr p r = s.gpr p r) ∧ (t.proc p).status = (s.proc p).status ||| mask

section
variable {s t : State} {p d a b n sh : Nat} {v : Acc} {m : Word} {i : Instr}

theorem ProcBecomes.writesAcc (h : ProcBecomes p (retireProc (orStatus (setAccOf (s.proc p) n v) m)) s t)
    (hm : bitAt m 5 = false) : WritesAcc p n v m s t := by
  have hread (k : Nat) : accOf (t.proc p) k = if k = n then v else accOf (s.proc p) k :=
    (congrArg (accOf · k) h.2).trans (accOf_setAccOf _ n k v)
  exact ⟨h.1, (hread n).trans (if_pos rfl), fun k hk => (hread k).trans (if_neg hk),
    fun r => (h.gpr r).trans (gprOf_orStatus (setAccOf (s.proc p) n v) hm r), congrArg Proc.status h.2⟩

theorem ProcBecomes.writesAcc_plain (h : ProcBecomes p (retireProc (setAccOf (s.proc p) n v)) s t) :
    WritesAcc p n v 0 s t := (h.of_eq (congrArg retireProc (orStatus_zero _).symm)).writesAcc rfl

/-- A saturated accumulate sets SAT where it is not the exact one. -/
theorem ProcBecomes.writesAcc_satAcc {x : Int}
    (h : ProcBecomes p (retireProc (flagSat (setAccOf (s.proc p) n (satAcc x).1) (satAcc x).2)) s t) :
    WritesAcc p n (BitVec.ofInt 72 (clampAcc x)) (if clampAcc x = x then 0#32 else 0x400#32) s t := by
  simp only [satAcc_eq, flagSat_eq, decide_eq_true_eq, ite_not] at h
  exact h.writesAcc (by split <;> rfl)

/-- MAC, MSU and MLA write the exact result, saturated, and set SAT where they saturate. -/
theorem completes_macOp (hx : s.Executes p true false) (f : Int → Int → Int)
    (hi : exec i s = .next (s.macOp p n sh a b f)) {q : Int}
    (hq : rsh ((s.gpr p a).toInt * (s.gpr p b).toInt) sh = q) :
    let r := f (accOf (s.proc p) n).toInt q
    Completes i s
      (WritesAcc p n (BitVec.ofInt 72 (clampAcc r)) (if clampAcc r = r then 0#32 else 0x400#32) s) :=
  completes_of_executes hx hi
    (hq ▸ (ProcBecomes.refl.modProc fun x => flagSat (setAccOf x n _) _).retire.writesAcc_satAcc)

theorem completes_rdaOp (hx : s.Executes p true false) (hi : exec i s = .next (s.rdaOp p d n sh)) {q : Int}
    (hq : rsh (accOf (s.proc p) n).toInt sh = q) :
    Completes i s (WritesGpr p d (BitVec.ofInt 32 (clampWord q)) (if clampWord q = q then 0 else 0x400) s) :=
  completes_of_executes hx hi
    (hq ▸ ((ProcBecomes.refl.setGpr d _).modProc fun q => flagSat q _).retire.writesGpr_sat32)

end

section
variable {s : State} {p : ProcId} {d a : Gpr} {n w : Fin 4} (hx : s.Executes p true false)
include hx

theorem completes_rdw (hw : w.val ≠ 3) :
    Completes (.rdw p d n w) s (WritesGpr p d (accWord (accOf (s.proc p) n) w) 0 s) := by
  refine completes_of_executes hx rfl ?_
  rw [if_neg hw]
  exact (ProcBecomes.refl.setGpr d _).retire.writesGpr_plain

theorem completes_wrw (hw : w.val ≠ 3) : Completes (.wrw p n w a) s
    (WritesAcc p n (accPut (accOf (s.proc p) n) w (s.gpr p a)) 0 s) := by
  refine completes_of_executes hx rfl ?_
  rw [if_neg hw]
  exact (ProcBecomes.refl.modProc fun q => setAccOf q n (accPut (accOf q n) w (gprOf q a))).retire.writesAcc_plain

theorem exec_rdw_of_three : exec (.rdw p d n 3) s = .next (s.exception p 1 (s.proc p).pc) := by
  refine (exec_of_executes hx rfl).trans ?_
  exact congrArg Host.Outcome.next (if_pos rfl)

theorem exec_wrw_of_three : exec (.wrw p n 3 a) s = .next (s.exception p 1 (s.proc p).pc) := by
  refine (exec_of_executes hx rfl).trans ?_
  exact congrArg Host.Outcome.next (if_pos rfl)

theorem completes_cla : Completes (.cla p n) s (WritesAcc p n 0 0 s) :=
  completes_of_executes hx rfl (ProcBecomes.refl.modProc fun q => setAccOf q n 0).retire.writesAcc_plain

end

/-- Settles O14: immediates and readouts write a register, accumulates an accumulator, each through its shared form. -/
theorem yalirtiImmediatesAndAccumulators : Obligations.YalirtiImmediatesAndAccumulators := by
  refine ⟨fun s p d a imm sh hx => ?_, fun s p n sh a b hx => ?_, fun s p d a n sh hx => ?_⟩
  · intro x gives
    have hslti : (if x.slt (imm.signExtend 32) then 1 else 0) = if x.toInt < imm.toInt then (1 : Word) else 0 := by
      rw [ite_slt, BitVec.toInt_signExtend_of_le (by decide)]
    have hwide : imm.setWidth 32 = BitVec.ofNat 32 imm.toNat := (BitVec.ofNat_toNat 32 imm).symm
    exact ⟨completes_immOp hx _ rfl rfl, completes_immOp hx _ rfl (congrArg (x &&& ·) hwide),
      completes_immOp hx _ rfl (congrArg (x ||| ·) hwide),
      completes_immOp hx _ rfl (congrArg (x ^^^ ·) hwide), completes_immOp hx _ rfl hslti,
      completes_immOp hx _ rfl (upperImm_eq imm), completes_immOp hx _ rfl rfl, completes_immOp hx _ rfl rfl,
      completes_immOp hx _ rfl rfl⟩
  · intro x q A top clamp gives
    have hq : rsh x sh = q := rsh_eq x sh
    have hzero : clampAcc 0 = 0 := by norm_num [clampAcc]
    refine ⟨completes_macOp hx _ rfl hq, completes_macOp hx _ rfl hq, completes_macOp hx (fun _ q => q) rfl hq, ?_⟩
    have hcla : Completes (.cla p n) s (WritesAcc p n (BitVec.ofInt 72 (clampAcc 0))
        (if clampAcc 0 = 0 then 0#32 else 0x400#32) s) := by
      rw [hzero]
      exact completes_cla hx
    exact hcla
  · intro A q clamp
    refine ⟨completes_rdaOp hx rfl (rsh_eq A.toInt sh), completes_rdw hx (by decide), completes_rdw hx (by decide),
      completes_rdw hx (by decide), fun w hw => ?_, exec_rdw_of_three hx, exec_wrw_of_three hx⟩
    obtain ⟨t, ht, honly, hacc, hother, hgpr, _⟩ := completes_wrw (n := n) (a := a) hx (Nat.ne_of_lt hw)
    exact ⟨t, ht, honly, fun i hi => hacc ▸ getLsbD_accPut A _ hw hi, hother, hgpr⟩

end Sys2Proof.Machine

/-! Banks of the general registers, the entry into a handler and the return from one (06 R201, R220 to R225). -/

namespace Sys2Proof.Machine

/-! ## The two banks (06 R201) -/

section
variable {q x : Proc} {r n : Nat}

/-- Below g24 there is one bank. -/
theorem gprOf_congr_low (hg : x.g = q.g) (hr : r < 24) : gprOf x r = gprOf q r := by
  have hlow (y : Proc) : ¬ (24 ≤ r ∧ bankOf y = true) := fun h => absurd h.1 (by omega)
  rw [gprOf, gprOf, if_neg (hlow x), if_neg (hlow q), hg]

theorem gprOf_high {b : Bool} (hb : bankOf q = b) (hr : 24 ≤ r) :
    gprOf q r = tblGet (fun _ => (0 : Word)) (if b then q.gi else q.g) r := by
  rw [gprOf, if_neg (by omega), hb]
  cases b <;> simp [hr]

/-- A write of g24 to g31 leaves the bank that is not in use. -/
theorem otherBank_setGprOf (v : Word) (hr : 24 ≤ r) : if bankOf q then (setGprOf q r v).g = q.g else
    (setGprOf q r v).gi = q.gi := by
  simpa [hr] using setGprOf_bank q r v

theorem gprOf_otherBank_setGprOf (v : Word) (hr : 24 ≤ r) (hn : 24 ≤ n) :
    gprOf { setGprOf q r v with status := setFld q.status 5 5 (1 - b2n (bankOf q)) } n =
      gprOf { q with status := setFld q.status 5 5 (1 - b2n (bankOf q)) } n := by
  have hbank (x : Proc) (hx : x.status = setFld q.status 5 5 (1 - b2n (bankOf q))) : bankOf x = !bankOf q := by
    rw [bankOf, hx, bitAt_setFld_same _ _ _ (by decide)]
    cases bankOf q <;> rfl
  have hkeep := otherBank_setGprOf (q := q) v hr
  refine (gprOf_high (hbank _ rfl) hn).trans (Eq.trans ?_ (gprOf_high (hbank _ rfl) hn).symm)
  cases hq : bankOf q <;> rw [hq] at hkeep <;> exact congrArg (fun t => tblGet (fun _ => (0 : Word)) t n) hkeep

end

/-! ## The entry that is pushed (06 R222) -/

/-- ESTAT of an entry: INT, CODE and STATUS[19:0]. -/
def entryStat (q : Proc) (isInt : Bool) (code : Nat) : Word :=
  wN (b2n isInt * 2 ^ 31 + code % 256 * 2 ^ 23 + fld (statusWord q) 19 0)

section
variable (q : Proc) (isInt : Bool) (code : Nat)

theorem toNat_entryStat :
    (entryStat q isInt code).toNat = b2n isInt * 2 ^ 31 + code % 256 * 2 ^ 23 + fld (statusWord q) 19 0 := by
  have hlow := fld_lt (statusWord q) 19 0
  have hint : b2n isInt ≤ 1 := by cases isInt <;> decide
  rw [entryStat, wN, BitVec.toNat_ofNat, Nat.mod_eq_of_lt (by omega)]

theorem getLsbD_entryStat {i : Nat} (hi : i < 20) : (entryStat q isInt code).getLsbD i = (statusWord q).getLsbD i := by
  have hsplit : b2n isInt * 2 ^ 31 + code % 256 * 2 ^ 23 + fld (statusWord q) 19 0 =
      2 ^ 20 * (b2n isInt * 2 ^ 11 + code % 256 * 2 ^ 3) + fld (statusWord q) 19 0 := by ring
  rw [← BitVec.testBit_toNat, toNat_entryStat, hsplit, Nat.testBit_two_pow_mul_add _ (fld_lt (statusWord q) 19 0),
    if_pos hi, testBit_fld, decide_eq_true hi, Bool.true_and, Nat.zero_add]

/-- Bits 14 to 0 of ESTAT are those of STATUS. -/
theorem getLsbD_entryStat_status {i : Nat} (hi : i < 15) : (entryStat q isInt code).getLsbD i = q.status.getLsbD i := by
  rw [getLsbD_entryStat _ _ _ (by omega), statusWord, getLsbD_setFld, if_neg (by omega)]

theorem fld_entryStat {hi : Nat} (lo : Nat) (h : hi < 15) :
    fld (entryStat q isInt code) hi lo = fld q.status hi lo := by
  apply Nat.eq_of_testBit_eq
  intro i
  rw [testBit_fld, testBit_fld]
  by_cases hi2 : i < hi + 1 - lo
  · rw [getLsbD_entryStat_status _ _ _ (by omega)]
  · simp [hi2]

theorem code_entryStat : fld (entryStat q isInt code) 30 23 = code % 256 := by
  have hlow := fld_lt (statusWord q) 19 0
  rw [fld, toNat_entryStat]
  omega

theorem int_entryStat : bitAt (entryStat q isInt code) 31 = isInt := by
  have hlow := fld_lt (statusWord q) 19 0
  rw [bitAt, ← BitVec.testBit_toNat, toNat_entryStat, Nat.testBit_eq_decide_div_mod_eq]
  cases isInt
  · exact decide_eq_false (by rw [b2n_false]; omega)
  · exact decide_eq_true (by rw [b2n_true]; omega)

end

/-! ## ENTRY (06 R222 to R224) -/

/-- The processor after an entry that finds room. -/
def enteredProc (q : Proc) (epc : Word) (isInt : Bool) (code level : Nat) (target : Word) : Proc :=
  { q with
    istack := { epc := epc &&& 0xFFFFFFFC#32, estat := entryStat q isInt code } :: q.istack
    serv := (if isInt then some code else none) :: q.serv
    status := setFld (if levelOf q = 0 then setFld q.status 5 5 1 else q.status) 3 0 level
    pc := target
    run := .running
    latched := none }

section
variable (q : Proc) (epc : Word) (isInt : Bool) (code level : Nat) (target : Word)

theorem levelOf_enteredProc : levelOf (enteredProc q epc isInt code level target) = level % 16 :=
  fld_setFld_same _ 3 0 level (by decide)

theorem ieOf_enteredProc : ieOf (enteredProc q epc isInt code level target) = ieOf q := by
  refine (bitAt_setFld_apart _ 3 0 level 4 (by decide)).trans ?_
  split
  · exact bitAt_setFld_apart _ 5 5 1 4 (by decide)
  · rfl

theorem bankOf_enteredProc :
    bankOf (enteredProc q epc isInt code level target) = (decide (levelOf q = 0) || bankOf q) := by
  refine (bitAt_setFld_apart _ 3 0 level 5 (by decide)).trans ?_
  split
  next h => rw [decide_eq_true h]; exact bitAt_setFld_same _ 5 1 (by decide)
  next h => rw [decide_eq_false h]; rfl

variable {s : State} {p : Nat}

theorem State.enter_of_room (h : (s.proc p).istack.length < 16) : s.enter p epc isInt code level target =
    s.setProc p (enteredProc (s.proc p) epc isInt code level target) := if_neg (not_le.2 h)

end

/-! ## The return (06 R225) -/

/-- The processor after a return that is not chained: LEVEL, IE and BANK come back from the entry. -/
def returnedProc (q : Proc) (e : StackEntry) (l : List StackEntry) (sv : List (Option Nat)) : Proc :=
  { q with
    istack := l, serv := sv, pc := e.epc
    status := setFld (setFld (setFld q.status 3 0 (fld e.estat 3 0)) 4 4 (fld e.estat 4 4)) 5 5 (fld e.estat 5 5) }

section
variable (q : Proc) (e : StackEntry) (l : List StackEntry) (sv : List (Option Nat))

theorem testBit_fld_bit (w : Word) (i : Nat) : (fld w i i).testBit 0 = bitAt w i := by
  rw [testBit_fld, decide_eq_true (by omega), Bool.true_and]
  rfl

theorem levelOf_returnedProc : levelOf (returnedProc q e l sv) = fld e.estat 3 0 := by
  rw [levelOf, returnedProc, fld_setFld_apart _ 5 5 _ 3 0 (by decide), fld_setFld_apart _ 4 4 _ 3 0 (by decide),
    fld_setFld_same _ 3 0 _ (by decide)]
  exact Nat.mod_eq_of_lt (fld_lt e.estat 3 0)

theorem ieOf_returnedProc : ieOf (returnedProc q e l sv) = bitAt e.estat 4 := by
  rw [ieOf, returnedProc, bitAt_setFld_apart _ 5 5 _ 4 (by decide), bitAt_setFld_same _ 4 _ (by decide),
    testBit_fld_bit]

theorem bankOf_returnedProc : bankOf (returnedProc q e l sv) = bitAt e.estat 5 := by
  rw [bankOf, returnedProc, bitAt_setFld_same _ 5 _ (by decide), testBit_fld_bit]

variable {s : State} {p : Nat} {e l sv} {x : Option Nat}

theorem State.returnInt_of_unchained (hstack : (s.proc p).istack = e :: l) (hserv : (s.proc p).serv = x :: sv)
    (hbest : (s.setProc p { s.proc p with serv := none :: sv }).bestFor p (fld e.estat 3 0) = none) :
    s.returnInt p = (s.setProc p { s.proc p with serv := none :: sv }).setProc p (returnedProc (s.proc p) e l sv) := by
  unfold State.returnInt
  dsimp only
  split
  next e' l' x' sv' hstack' hserv' =>
    obtain ⟨rfl, rfl⟩ := List.cons.inj (hstack.symm.trans hstack')
    obtain ⟨rfl, rfl⟩ := List.cons.inj (hserv.symm.trans hserv')
    split
    next n hn => exact nomatch hbest.symm.trans hn
    next => rfl
  next hne => exact absurd hserv (hne e l x sv hstack)

theorem State.procBecomes_returnInt (hstack : (s.proc p).istack = e :: l) (hserv : (s.proc p).serv = x :: sv)
    (hbest : (s.setProc p { s.proc p with serv := none :: sv }).bestFor p (fld e.estat 3 0) = none) :
    ProcBecomes p (returnedProc (s.proc p) e l sv) s (s.returnInt p) := by
  rw [State.returnInt_of_unchained hstack hserv hbest]
  exact (ProcBecomes.refl.setProc _).setProc _

end

/-- Settles O19: the registers through the bank in use, and BANK after an entry and a return. -/
theorem generalRegistersAndBanks : Obligations.GeneralRegistersAndBanks := by
  refine ⟨fun q v => ⟨if_pos rfl, if_pos rfl⟩, fun q r n v hr _ _ _ => ?_, fun q r n v hr _ hn _ =>
    gprOf_otherBank_setGprOf v hr hn, fun q n st hn => gprOf_congr_low rfl hn,
    fun s p cause epc target isInt level hroom => ?_, fun s p e l x sv hstack hserv hbest => ?_⟩
  · by_cases hn : n = r
    · subst hn
      rw [if_pos rfl, gprOf_setGprOf_same, if_neg (by omega)]
    · rw [if_neg hn, gprOf_setGprOf_ne _ _ _ hn]
  · intro t
    have ht : t.proc p = enteredProc (s.proc p) epc isInt cause level target :=
      (congrArg (State.proc · p) (State.enter_of_room _ _ _ _ _ hroom)).trans (s.proc_setProc_same p _)
    rw [ht]
    exact ⟨bankOf_enteredProc _ _ _ _ _ _, _, rfl, getLsbD_entryStat_status _ _ _ (by decide)⟩
  · rw [(State.procBecomes_returnInt hstack hserv hbest).2]
    exact bankOf_returnedProc _ _ _ _

/-! ## Exceptions (06 R220 to R223) -/

section
variable (s : State) {p : Nat} (cause : Nat) (epc : Word)

theorem State.exception_of_room (hp : p < 5) (h : (s.proc p).istack.length < 16) : s.exception p cause epc =
    s.setProc p (enteredProc (s.proc p) epc false cause (levelOf (s.proc p)) (wN (0x00100000 + cause * 0x10))) :=
  (if_neg (Nat.ne_of_lt hp)).trans (State.enter_of_room _ _ _ _ _ h)

theorem State.exception_of_full (hp : p < 5) (h : 16 ≤ (s.proc p).istack.length) :
    s.exception p cause epc = s.stopProc p := (if_neg (Nat.ne_of_lt hp)).trans (if_pos h)

/-- The engine whose program raised an exception, with the cause and the address kept (06 R220). -/
def State.programFaulted (s : State) (cause : Nat) (epc : Word) : State :=
  (s.modProc 5 fun q => { q with epc0 := epc, estat0 := wN (cause * 2 ^ 23) }).engineHalted

theorem State.exception_engine : s.exception 5 cause epc = (s.programFaulted cause epc).raise 13 := rfl

theorem State.proc_programFaulted : (s.programFaulted cause epc).proc 5 =
    { s.proc 5 with epc0 := epc, estat0 := wN (cause * 2 ^ 23), run := .halted } := by
  rw [State.programFaulted, State.proc_engineHalted, State.modProc, State.proc_setProc_same]

end

/-- Settles O20: an exception is an entry where it finds room, a stop of the processor where it does not, and a stop of
the program in the engine. -/
theorem exceptionEntry : Obligations.ExceptionEntry := by
  refine ⟨fun s p cause epc hp hcause hroom => ?_, fun s p cause epc hp hfull => s.exception_of_full cause epc hp hfull,
    fun s cause epc => ?_⟩
  · intro t
    have hlevel : levelOf (s.proc p) < 16 := fld_lt _ 3 0
    obtain ⟨honly, ht⟩ : ProcBecomes p
        (enteredProc (s.proc p) epc false cause (levelOf (s.proc p)) (wN (0x00100000 + cause * 0x10))) s t := by
      rw [show t = _ from s.exception_of_room cause epc hp hroom]
      exact ProcBecomes.refl.setProc _
    refine ⟨honly, ?_⟩
    rw [ht]
    refine ⟨rfl, (levelOf_enteredProc _ _ _ _ _ _).trans (Nat.mod_eq_of_lt hlevel), ieOf_enteredProc _ _ _ _ _ _,
      ⟨_, rfl, rfl, int_entryStat _ _ _, ?_, fld_entryStat _ _ _ 0 (by decide),
        getLsbD_entryStat_status _ _ _ (by decide)⟩, rfl, fun r hr => ?_⟩
    · exact (code_entryStat _ _ _).trans (Nat.mod_eq_of_lt (by omega))
    · exact (congrArg (gprOf · r) ht).trans (gprOf_congr_low rfl hr)
  · have hproc := s.proc_programFaulted cause epc
    exact ⟨s.programFaulted cause epc, s.exception_engine cause epc, State.overrun_engineHalted _,
      State.run_engineHalted _, congrArg Proc.epc0 hproc, congrArg Proc.estat0 hproc, congrArg Proc.run hproc,
      State.sameRegsBut_engineHalted _, fun _ => rfl⟩

end Sys2Proof.Machine

/-! Control transfer of a processor: branches, jumps, calls, loops and waits (06 R207, R208, R211 to R214). -/

namespace Sys2Proof.Machine

/-! ## Where an instruction goes (06 R207, R211) -/

/-- Processor p goes on after an instruction that transfers nothing. -/
def GoesOn (p : Nat) (s t : State) : Prop :=
  Transfers p (loopNext (s.proc p).loops (s.proc p).pc).1 (s.proc p).calls
    (loopNext (s.proc p).loops (s.proc p).pc).2 0 s t

/-- Processor p goes to a target, and the loop levels that it leaves end. -/
def JumpsTo (p : Nat) (pc : Word) (s t : State) : Prop :=
  Transfers p pc (s.proc p).calls
    (loopExit (s.proc p).calls.length (s.proc p).istack.length pc (s.proc p).loops) 0 s t

section
variable {s t : State} {p : Nat} {pc mask : Word} {calls : List Word} {loops : List LoopLevel}

theorem ProcBecomes.transfers
    (h : ProcBecomes p (orStatus { s.proc p with pc := pc, calls := calls, loops := loops } mask) s t) :
    Transfers p pc calls loops mask s t := h

theorem ProcBecomes.transfers_plain (h : ProcBecomes p { s.proc p with pc := pc, calls := calls, loops := loops } s t) :
    Transfers p pc calls loops 0 s t := (h.of_eq (orStatus_zero _).symm).transfers

theorem retireProc_of_running {q : Proc} (h : q.run = .running) : retireProc q =
    { q with pc := (loopNext q.loops q.pc).1, calls := q.calls, loops := (loopNext q.loops q.pc).2 } := by
  rw [retireProc, ← h]

theorem jumpProc_of_running {q : Proc} (h : q.run = .running) : jumpProc q pc =
    { q with pc := pc, calls := q.calls, loops := loopExit q.calls.length q.istack.length pc q.loops } := by
  rw [jumpProc, ← h]

theorem State.goesOn_retire (h : (s.proc p).run = .running) : GoesOn p s (s.retire p) :=
  (ProcBecomes.refl.retire.of_eq (retireProc_of_running h)).transfers_plain

theorem State.jumpsTo_modProc (h : (s.proc p).run = .running) :
    JumpsTo p pc s (s.modProc p fun q => jumpProc q pc) :=
  ((ProcBecomes.refl.modProc fun q => jumpProc q pc).of_eq (jumpProc_of_running h)).transfers_plain

theorem branchTo_eq (pc : Word) {n : Nat} (off : BitVec n) :
    branchTo pc off = pc + 4 + BitVec.ofInt 32 (off.toInt * 4) := by
  rw [branchTo, BitVec.ofInt_mul]
  rfl

end

/-! ## Branches, jumps and calls (06 R207, R208, R212, R213) -/

section
variable {s : State} {p : Nat} {i : Instr}

theorem completes_branchOp {a b : Nat} {off : BitVec 16} (hx : s.Executes p true true) (c : Word → Word → Bool)
    (hi : exec i s = .next (s.branchOp p a b off c)) {taken : Prop} (hc : c (s.gpr p a) (s.gpr p b) = true ↔ taken) :
    (taken → Completes i s (JumpsTo p ((s.proc p).pc + 4 + BitVec.ofInt 32 (off.toInt * 4)) s)) ∧
      (¬ taken → Completes i s (GoesOn p s)) := by
  have hrun := run_of_executes hx
  refine ⟨fun h => completes_of_executes hx hi ?_, fun h => completes_of_executes hx hi ?_⟩
  · rw [if_pos (hc.2 h), ← branchTo_eq]
    exact State.jumpsTo_modProc hrun
  · rw [if_neg (mt hc.1 h)]
    exact State.goesOn_retire hrun

theorem not_slt_eq_true_iff (x y : Word) : (!x.slt y) = true ↔ y.toInt ≤ x.toInt := by
  rw [← BitVec.sle_eq_not_slt, BitVec.sle_iff_toInt_le]

theorem not_ult_eq_true_iff (x y : Word) : (!x.ult y) = true ↔ y.toNat ≤ x.toNat := by
  rw [← BitVec.ule_eq_not_ult, BitVec.ule_iff_toNat_le]

end

section
variable {s : State} {p : ProcId} {off : BitVec 26} (hx : s.Executes p true true)
include hx

theorem completes_j : Completes (.j p off) s (JumpsTo p ((s.proc p).pc + 4 + BitVec.ofInt 32 (off.toInt * 4)) s) :=
  completes_of_executes hx rfl (branchTo_eq (s.proc p).pc off ▸ State.jumpsTo_modProc (run_of_executes hx))

theorem completes_jt {a : Gpr} {imm : BitVec 16} : Completes (.jt p a imm) s
    (JumpsTo p ((s.proc p).pc + 4 + BitVec.ofNat 32 (4 * min (s.gpr p a).toNat imm.toNat)) s) :=
  completes_of_executes hx rfl (Nat.mul_comm 4 _ ▸ State.jumpsTo_modProc (run_of_executes hx))

theorem completes_call (h : (s.proc p).calls.length < 16) : Completes (.call p off) s
    (Transfers p ((s.proc p).pc + 4 + BitVec.ofInt 32 (off.toInt * 4)) (((s.proc p).pc + 4) :: (s.proc p).calls)
      (s.proc p).loops 0 s) := by
  refine completes_of_executes hx rfl ?_
  dsimp only
  rw [if_neg (not_le.2 h), ← branchTo_eq]
  exact (ProcBecomes.refl.setProc _).transfers_plain

theorem exec_call_of_full (h : 16 ≤ (s.proc p).calls.length) :
    exec (.call p off) s = .next (s.exception p 6 (s.proc p).pc) := by
  refine (exec_of_executes hx rfl).trans ?_
  exact congrArg Host.Outcome.next (if_pos h)

/-- A return that does not end a dispatched program pops the call stack (06 R212, 07 R250). -/
theorem completes_ret {c : Word} {l : List Word} (hcalls : (s.proc p).calls = c :: l)
    (h : (s.proc p).slot = none ∨ l ≠ [] ∨ (s.proc p).istack ≠ []) :
    Completes (.ret p) s (Transfers p c l (s.proc p).loops 0 s) := by
  refine completes_of_executes hx rfl ?_
  have hstays : ((s.proc p).slot.isSome && l.isEmpty && (s.proc p).istack.isEmpty) = false := by
    rcases h with h | h | h <;> simp [h]
  dsimp only
  rw [hcalls]
  dsimp only
  rw [hstays]
  exact (ProcBecomes.refl.setProc _).transfers_plain

theorem exec_ret_of_empty (h : (s.proc p).calls = []) :
    exec (.ret p) s = .next (s.exception p 6 (s.proc p).pc) := by
  refine (exec_of_executes hx rfl).trans ?_
  dsimp only
  rw [h]

end

/-! ## Loops (06 R211) -/

section
variable {s : State} {p d : Nat} {i : Instr} {count : Proc → Nat × Bool} {n : Nat} {lb : Bool}

/-- LOOP and LOOPI skip a body of count 0, begin a level, or find four levels held. -/
theorem completes_loopOp (hx : s.Executes p true true) (hi : exec i s = .next (s.loopOp p d count)) (hd : 1 ≤ d)
    (hc : count (s.proc p) = (n, lb)) {mask : Word} (hm : (if lb then 0x2000#32 else 0) = mask) :
    (n = 0 → Completes i s
      (Transfers p ((s.proc p).pc + 4 + BitVec.ofNat 32 (d * 4)) (s.proc p).calls (s.proc p).loops mask s)) ∧
    (n ≠ 0 → (s.proc p).loops.length < 4 → Completes i s (Transfers p ((s.proc p).pc + 4) (s.proc p).calls
      (⟨(s.proc p).pc + 4, (s.proc p).pc + BitVec.ofNat 32 (d * 4), n, (s.proc p).calls.length,
        (s.proc p).istack.length⟩ :: (s.proc p).loops) mask s)) ∧
    (n ≠ 0 → 4 ≤ (s.proc p).loops.length → exec i s = .next (s.exception p 7 (s.proc p).pc)) := by
  have hbody : exec i s = .next _ := exec_of_executes hx hi
  dsimp only at hbody
  rw [if_neg (by omega), hc, flagLb_eq, hm] at hbody
  dsimp only at hbody
  refine ⟨fun h => ⟨_, hbody, ?_⟩, fun h hlen => ⟨_, hbody, ?_⟩, fun h hlen => hbody.trans ?_⟩
  · rw [if_pos h]
    exact (ProcBecomes.refl.setProc _).transfers
  · rw [if_neg h, if_neg (not_le.2 hlen)]
    exact (ProcBecomes.refl.setProc _).transfers
  · rw [if_neg h, if_pos hlen]

/-- The count of LOOP is clamped to its bound. -/
theorem clampedCount (n bound : Nat) :
    (if bound < n then (bound, true) else (n, false)) = (min n bound, decide (bound < n)) := by
  by_cases h : bound < n
  · rw [if_pos h, min_eq_right h.le, decide_eq_true h]
  · rw [if_neg h, min_eq_left (not_lt.1 h), decide_eq_false h]

end

/-! ## Waits (06 R214) -/

section
variable {s : State} {p : ProcId} (hx : s.Executes p true false)
include hx

theorem exec_twaitp {off : BitVec 18} : exec (.twaitp p off) s =
    .next (if s.boundary s.tm.k + off.toNat * 64 ≤ s.now then s.retire p else
      s.modProc p fun q => { q with run := .waitPeriod (s.boundary s.tm.k + off.toNat * 64) }) :=
  (exec_of_executes (i := .twaitp p off) hx rfl :)

theorem exec_twait {a : Gpr} : exec (.twait p a) s =
    .next (if timeDiff 32 (s.gpr p a).toNat s.now ≤ 0 then s.retire p else
      s.modProc p fun q => { q with run := .waitTime (s.gpr p a) }) :=
  (exec_of_executes (i := .twait p a) hx rfl :)

/-- A wait goes on when its target has passed, and waits when it is still ahead. -/
theorem completes_wait {i : Instr} {passed : Prop} [Decidable passed] {r : RunState}
    (hi : exec i s = .next (if passed then s.retire p else s.modProc p fun q => { q with run := r })) :
    (passed → Completes i s (GoesOn p s)) ∧
      (¬ passed → Completes i s (ProcBecomes p { s.proc p with run := r } s)) := by
  refine ⟨fun h => ⟨_, hi, ?_⟩, fun h => ⟨_, hi, ?_⟩⟩
  · rw [if_pos h]
    exact State.goesOn_retire (run_of_executes hx)
  · rw [if_neg h]
    exact ProcBecomes.refl.modProc _

end

section
variable {s : State} {p : Nat}

theorem State.procs_advanceTo (n : Nat) : (s.advanceTo n).procs = s.procs := by
  unfold State.advanceTo
  split <;> rfl

theorem State.proc_advanceTo (n : Nat) : (s.advanceTo n).proc p = s.proc p :=
  congrArg (tblGet (fun _ => ({} : Proc)) · p) (State.procs_advanceTo n)

theorem State.twaitComplete_of_period {n : Nat} (hlive : s.live = true) (hon : s.on (procDom p) = true)
    (hdbg : (s.proc p).dbgHalt = false) (hrun : (s.proc p).run = .waitPeriod n) :
    s.twaitComplete p = (s.advanceTo n).retire p := by
  unfold State.twaitComplete
  rw [if_pos (by simp [hlive, hon, hdbg]), hrun]

end

/-- Settles O16: each instruction by where it goes, with the call stack and the loop levels that it leaves. -/
theorem yalirtiControlTransfer : Obligations.YalirtiControlTransfer := by
  refine ⟨fun s p a b off joff imm hx => ?_, fun s p body a imm hx hbody => ?_, fun s p a off hx => ?_,
    fun s p n hlive hon hdbg hrun hn => ?_⟩
  · intro q x y goes branches
    exact ⟨completes_branchOp hx _ rfl decide_eq_true_iff, completes_branchOp hx _ rfl decide_eq_true_iff,
      completes_branchOp hx _ rfl BitVec.slt_iff_toInt_lt, completes_branchOp hx _ rfl (not_slt_eq_true_iff x y),
      completes_branchOp hx _ rfl BitVec.ult_iff_toNat_lt, completes_branchOp hx _ rfl (not_ult_eq_true_iff x y),
      completes_j hx, completes_jt hx, completes_call hx, exec_call_of_full hx,
      fun c l hcalls hslot => completes_ret hx hcalls (.inl hslot),
      fun c l hcalls h =>
        let ⟨t, ht, _, hproc⟩ := completes_ret hx hcalls h
        ⟨t, ht, congrArg Proc.pc hproc, congrArg Proc.calls hproc⟩,
      exec_ret_of_empty hx⟩
  · intro q n begins
    exact ⟨completes_loopOp hx rfl hbody rfl rfl, completes_loopOp hx rfl hbody (clampedCount n imm.toNat)
      (by simp only [decide_eq_true_eq])⟩
  · intro q target w
    obtain ⟨hperiod, hperiodWaits⟩ := completes_wait hx (exec_twaitp (off := off) hx)
    obtain ⟨htime, htimeWaits⟩ := completes_wait hx (exec_twait (a := a) hx)
    exact ⟨hperiod, fun h => hperiodWaits (not_le.2 h), htime, fun h => htimeWaits (not_le.2 h)⟩
  · refine ⟨_, congrArg Host.Outcome.next (State.twaitComplete_of_period hlive hon hdbg hrun), s.now_advanceTo hn, ?_,
      State.reg_congr (s.regs_advanceTo n), State.ldb_congr (s.mem_advanceTo n)⟩
    rw [State.proc_retire, State.proc_advanceTo]

end Sys2Proof.Machine

/-! Special registers, interrupt control, system calls, sleep and the queue instructions (06 R203, R204, R208, R216,
R221, R225 to R227). -/

namespace Sys2Proof.Machine

/-! ## Special registers (06 R203, R204) -/

section
variable (q : Proc) (v : Word)

theorem timeHiOf_latchHi : timeHiOf (latchHi q v) = v := by
  unfold latchHi
  cases h : bankOf q
  · exact if_neg (by simpa [bankOf] using h)
  · exact if_pos h

theorem timeHiOf_setGprOf (r : Nat) (w : Word) : timeHiOf (setGprOf q r w) = timeHiOf q := by
  unfold setGprOf
  split
  · rfl
  · split <;> rfl

/-- MTS to STATUS writes SAT, OV, DZ, LB and TWERR, and no other bit. -/
def statusWritten (q : Proc) (v : Word) : Proc :=
  { q with status := q.status &&& ~~~ 0x6700#32 ||| (v &&& 0x6700#32) }

theorem bankOf_statusWritten : bankOf (statusWritten q v) = bankOf q := by
  show (q.status &&& ~~~ 0x6700#32 ||| (v &&& 0x6700#32)).getLsbD 5 = q.status.getLsbD 5
  rw [BitVec.getLsbD_or, BitVec.getLsbD_and, BitVec.getLsbD_and, show (~~~ 0x6700#32).getLsbD 5 = true from rfl,
    show (0x6700#32).getLsbD 5 = false from rfl, Bool.and_true, Bool.and_false, Bool.or_false]

theorem writeSpecial_epc : ∃ x, writeSpecial q 1 v = some x ∧ epcOf x = v &&& 0xFFFFFFFC#32 := by
  cases h : q.istack with
  | nil => exact ⟨{ q with epc0 := v &&& 0xFFFFFFFC#32 }, by simp only [writeSpecial, h], by simp only [epcOf, h]⟩
  | cons e l =>
    exact ⟨{ q with istack := { e with epc := v &&& 0xFFFFFFFC#32 } :: l }, by simp only [writeSpecial, h], rfl⟩

theorem writeSpecial_estat : ∃ x, writeSpecial q 2 v = some x ∧ estatOf x = v &&& 0xFF8FFFFF#32 := by
  cases h : q.istack with
  | nil => exact ⟨{ q with estat0 := v &&& 0xFF8FFFFF#32 }, by simp only [writeSpecial, h], by simp only [estatOf, h]⟩
  | cons e l =>
    exact ⟨{ q with istack := { e with estat := v &&& 0xFF8FFFFF#32 } :: l }, by simp only [writeSpecial, h], rfl⟩

theorem writeSpecial_of_unlisted {n : Nat} (h : 3 ≤ n) : writeSpecial q n v = none := by
  obtain ⟨m, rfl⟩ := Nat.exists_eq_add_of_le' h
  rfl

theorem State.readSpecial_of_unlisted (s : State) (p : Nat) {n : Nat} (h : 7 ≤ n) : s.readSpecial p n = none := by
  obtain ⟨m, rfl⟩ := Nat.exists_eq_add_of_le' h
  rfl

end

section
variable {s : State} {p : ProcId} {d : Gpr} {n : Fin 32} (hx : s.Executes p true true)
include hx

theorem completes_mfs {v : Word} (hn : n.val ≠ 3) (hv : s.readSpecial p n = some v) :
    Completes (.mfs p d n) s (WritesGpr p d v 0 s) := by
  refine completes_of_executes hx rfl ?_
  dsimp only
  rw [hv, if_neg hn]
  exact (ProcBecomes.refl.setGpr d v).retire.writesGpr_plain

/-- A read of TIMELO latches TIMEHI for the bank in use. -/
theorem completes_mfs_timelo : Completes (.mfs p d 3) s (ProcBecomes p (retireProc
    (setGprOf (latchHi (s.proc p) (s.tm.count.extractLsb' 32 32)) d (s.tm.count.extractLsb' 0 32))) s) :=
  completes_of_executes hx rfl ((ProcBecomes.refl.modProc fun q => latchHi q _).setGpr d _).retire

theorem exec_mfs_of_none (h : s.readSpecial p n = none) :
    exec (.mfs p d n) s = .next (s.exception p 1 (s.proc p).pc) := by
  refine (exec_of_executes hx rfl).trans ?_
  dsimp only
  rw [h]

end

section
variable {s : State} {p : ProcId} {a : Gpr} {n : Fin 32} (hx : s.Executes p true false)
include hx

theorem completes_mts {q : Proc} (h : writeSpecial (s.proc p) n (s.gpr p a) = some q) :
    Completes (.mts p n a) s (ProcBecomes p (retireProc q) s) := by
  refine completes_of_executes hx rfl ?_
  rw [h]
  exact (ProcBecomes.refl.setProc q).retire

theorem exec_mts_of_none (h : writeSpecial (s.proc p) n (s.gpr p a) = none) :
    exec (.mts p n a) s = .next (s.exception p 1 (s.proc p).pc) := by
  refine (exec_of_executes hx rfl).trans ?_
  rw [h]

end

/-! ## Interrupt control (06 R208, R225 to R227) -/

/-- A return that restores IE = 1 ends a disabled window. -/
def windowEnded (q : Proc) : Proc := if ieOf q then { q with diAt := none, diDone := false } else q

theorem windowEnded_frame (q : Proc) :
    windowEnded q = { q with diAt := (windowEnded q).diAt, diDone := (windowEnded q).diDone } := by
  unfold windowEnded
  split <;> rfl

/-- A processor that disables or enables interrupts keeps LEVEL and BANK. -/
theorem setStatus_ie (q : Proc) (v : Nat) : ieOf (setStatus q 4 4 v) = v.testBit 0 ∧
    levelOf (setStatus q 4 4 v) = levelOf q ∧ bankOf (setStatus q 4 4 v) = bankOf q :=
  ⟨bitAt_setFld_same _ _ _ (by decide), fld_setFld_apart _ 4 4 v 3 0 (by decide),
    bitAt_setFld_apart _ 4 4 v 5 (by decide)⟩

section
variable {s : State} {p : ProcId} (hx : s.Executes p true false)
include hx

theorem completes_di : Completes (.di p) s fun t => OnlyProc p s t ∧ ieOf (t.proc p) = false ∧
    levelOf (t.proc p) = levelOf (s.proc p) ∧ bankOf (t.proc p) = bankOf (s.proc p) := by
  refine completes_of_executes hx rfl ?_
  obtain ⟨honly, hproc⟩ := ((ProcBecomes.refl (s := s) (p := p)).modProc fun q => { setStatus q 4 4 0 with
    diAt := if ieOf q || (q.diAt.isNone && !q.diDone) then some s.tm.refclk else q.diAt
    diDone := !ieOf q && q.diDone }).retire
  refine ⟨honly, ?_⟩
  rw [hproc]
  exact setStatus_ie (s.proc p) 0

theorem completes_ei :
    Completes (.ei p) s fun t => OnlyProc p s t ∧ ieOf (t.proc p) = true ∧ (t.proc p).diAt = none := by
  refine completes_of_executes hx rfl ?_
  obtain ⟨honly, hproc⟩ := ((ProcBecomes.refl (s := s) (p := p)).modProc fun q =>
    { setStatus q 4 4 1 with diAt := none, diDone := false }).retire
  obtain ⟨hie, _⟩ := setStatus_ie (s.proc p) 1
  refine ⟨honly, ?_⟩
  rw [hproc]
  exact ⟨hie, rfl⟩

theorem completes_wfi (h : ieOf (s.proc p) = true) :
    Completes (.wfi p) s (ProcBecomes p { retireProc (s.proc p) with run := .sleeping } s) := by
  refine completes_of_executes hx rfl ?_
  rw [if_pos h]
  exact ProcBecomes.refl.retire.modProc fun q => { q with run := .sleeping }

theorem exec_wfi_of_disabled (h : ieOf (s.proc p) = false) :
    exec (.wfi p) s = .next (s.exception p 1 (s.proc p).pc) := by
  refine (exec_of_executes hx rfl).trans ?_
  rw [if_neg (by simp [h])]

theorem completes_iret {e : StackEntry} {l : List StackEntry} {x : Option Nat} {sv : List (Option Nat)}
    (hstack : (s.proc p).istack = e :: l) (hserv : (s.proc p).serv = x :: sv)
    (hbest : (s.setProc p { s.proc p with serv := none :: sv }).bestFor p (fld e.estat 3 0) = none) :
    Completes (.iret p) s (ProcBecomes p (windowEnded (returnedProc (s.proc p) e l sv)) s) := by
  refine completes_of_executes hx rfl ?_
  rw [if_neg (by simp [hstack])]
  exact (State.procBecomes_returnInt hstack hserv hbest).modProc windowEnded

theorem exec_iret_of_empty (h : (s.proc p).istack = []) :
    exec (.iret p) s = .next (s.exception p 1 (s.proc p).pc) := by
  refine (exec_of_executes hx rfl).trans ?_
  rw [if_pos (by simp [h])]

theorem exec_sys {code : BitVec 8} : exec (.sys p code) s = .next ((s.admRequest p code.toNat).retireWith p 8) :=
  (exec_of_executes (i := .sys p code) hx rfl :)

theorem exec_brk_of_debugger (hmode : s.commission = true) (hdbg : s.fb F.SYSC_MODE.DBGATT = true) :
    exec (.brk p) s = .next ((s.retire p).haltForDebug p) := by
  refine (exec_of_executes hx rfl).trans ?_
  rw [if_pos (by simp [hmode, hdbg])]

theorem exec_brk_of_none (h : s.commission = false ∨ s.fb F.SYSC_MODE.DBGATT = false) :
    exec (.brk p) s = .next (s.retireWith p 9) := by
  refine (exec_of_executes hx rfl).trans ?_
  rw [if_neg (by rcases h with h | h <;> simp [h])]

end

section
variable (s : State) (p : Nat)

theorem State.proc_haltForDebug : (s.haltForDebug p).proc p = { s.proc p with dbgHalt := true } :=
  s.proc_setProc_same p _

theorem State.halted_haltForDebug : (s.haltForDebug p).fb F.SYSC_MODE.HALTED = true :=
  (State.fb_setReg_ne _ _ _ F.SYSC_MODE.HALTED (by decide)).trans (State.fb_setB_same _ _ _ rfl (by decide))

end

/-! ## Queue instructions (06 R216; 08 R267 to R269) -/

/-- A queue instruction retires with its result in QR. -/
def State.queueDone (s : State) (p c : Nat) : State := (s.modProc p fun x => flagQr x c).retire p

section
variable (s : State) (p c : Nat)

theorem State.procBecomes_queueDone : ProcBecomes p (retireProc (flagQr (s.proc p) c)) s (s.queueDone p c) :=
  (ProcBecomes.refl.modProc fun x => flagQr x c).retire

theorem State.qr_queueDone (hc : c < 4) : fld ((s.queueDone p c).proc p).status 7 6 = c := by
  rw [(s.procBecomes_queueDone p c).2]
  exact (fld_setFld_same _ 7 6 c (by decide)).trans (Nat.mod_eq_of_lt hc)

theorem bankOf_flagQr (q : Proc) : bankOf (flagQr q c) = bankOf q := bitAt_setFld_apart _ 7 6 c 5 (by decide)

theorem State.gpr_queueDone (r : Nat) : (s.queueDone p c).gpr p r = s.gpr p r :=
  ((s.procBecomes_queueDone p c).gpr r).trans
    (gprOf_congr (q := s.proc p) (x := flagQr (s.proc p) c) rfl rfl (bankOf_flagQr c _) r)

theorem State.gpr_setGpr_same (r : Nat) (v : Word) : (s.setGpr p r v).gpr p r = if r = 0 then 0 else v :=
  ((ProcBecomes.refl.setGpr r v).gpr r).trans (gprOf_setGprOf_same _ r v)

theorem State.gpr_setGpr_ne {r n : Nat} (v : Word) (h : n ≠ r) : (s.setGpr p r v).gpr p n = s.gpr p n :=
  ((ProcBecomes.refl.setGpr r v).gpr n).trans (gprOf_setGprOf_ne _ r v h)

variable {q : Nat} (l : List DWord)

theorem State.queue_setQueue_same : (s.setQueue q l).queue q = l := tblGet_tblSet_same _ _ _ _

theorem State.queue_setQueue_ne {r : Nat} (h : r ≠ q) : (s.setQueue q l).queue r = s.queue r :=
  tblGet_tblSet_ne _ _ _ h

variable {s p} {e : DWord}

theorem State.procPush_of_room (hon : s.qOn q = true) (hmay : s.mayPush p q = true)
    (hroom : (s.queue q).length < s.qCap q) : s.procPush p q e = (s.setQueue q (s.queue q ++ [e]), 0) := by
  rw [State.procPush, if_neg (by simp [hon, hmay]), if_pos hroom]

theorem State.procPush_of_full (hon : s.qOn q = true) (hmay : s.mayPush p q = true)
    (hfull : s.qCap q ≤ (s.queue q).length) : s.procPush p q e = (s.incF (F.HQ_DROP.FULLREJ q) 1, 1) := by
  rw [State.procPush, if_neg (by simp [hon, hmay]), if_neg (not_lt.2 hfull)]

theorem State.procPush_of_denied (h : s.mayPush p q = false) : s.procPush p q e = (s, 2) := by
  rw [State.procPush, if_pos (by simp [h])]

theorem State.procPop_of_entry {l : List DWord} (hon : s.qOn q = true) (hmay : s.mayPop p q = true)
    (hq : s.queue q = e :: l) : s.procPop p q = (s.setQueue q l, some e, 0) := by
  rw [State.procPop, if_neg (by simp [hon, hmay]), hq]

theorem State.procPop_of_empty (hon : s.qOn q = true) (hmay : s.mayPop p q = true) (hq : s.queue q = []) :
    s.procPop p q = (s, none, 1) := by
  rw [State.procPop, if_neg (by simp [hon, hmay]), hq]

end

section
variable {s : State} {p : ProcId} {a b d : Gpr} {q : QueueId} (hx : s.Executes p true false)
include hx

theorem exec_qpush {t : State} {c : Nat} (h : s.procPush p q (s.gpr p a ++ s.gpr p b) = (t, c)) :
    exec (.qpush p a b q) s = .next (t.queueDone p c) := by
  refine (exec_of_executes hx rfl).trans ?_
  dsimp only
  rw [h]
  rfl

theorem exec_qpop_of_entry {t : State} {e : DWord} {c : Nat} (hd : d.val % 2 = 0) (hd2 : 2 ≤ d.val)
    (h : s.procPop p q = (t, some e, c)) : exec (.qpop p d q) s =
      .next (((t.setGpr p d (e.extractLsb' 32 32)).setGpr p (d.val + 1) (e.extractLsb' 0 32)).queueDone p 0) := by
  refine (exec_of_executes hx rfl).trans ?_
  rw [if_pos ⟨hd, hd2⟩, h]
  rfl

theorem exec_qpop_of_none {t : State} {c : Nat} (hd : d.val % 2 = 0) (hd2 : 2 ≤ d.val)
    (h : s.procPop p q = (t, none, c)) : exec (.qpop p d q) s = .next (t.queueDone p c) := by
  refine (exec_of_executes hx rfl).trans ?_
  rw [if_pos ⟨hd, hd2⟩, h]
  rfl

theorem exec_qpop_of_ill (hd : d.val % 2 = 1 ∨ d.val = 0) :
    exec (.qpop p d q) s = .next (s.exception p 1 (s.proc p).pc) := by
  refine (exec_of_executes hx rfl).trans ?_
  rw [if_neg (by omega)]

theorem completes_qcnt : Completes (.qcnt p d q) s fun t => OnlyProc p s t ∧
    t.gpr p d = if d.val = 0 then 0 else BitVec.ofNat 32 (s.queue q).length := by
  refine completes_of_executes hx rfl ⟨?_, ?_⟩
  · obtain ⟨honly, _⟩ := ((ProcBecomes.refl.setGpr d.val (wN (s.queue q).length)).modProc fun x => flagQr x 0).retire
    exact honly
  · exact (State.gpr_queueDone _ p 0 d).trans (s.gpr_setGpr_same p d _)

end

/-- Settles O17: each instruction by the state it completes in; the queue instructions by what the queue answers. -/
theorem yalirtiSystemInstructions : Obligations.YalirtiSystemInstructions := by
  refine ⟨fun s p d hx => ?_, fun s p a hx => ?_, fun s p hx => ?_, fun s p a b d q hx => ?_⟩
  · refine ⟨completes_mfs hx (by decide) rfl, ?_, completes_mfs hx (by decide) rfl, completes_mfs hx (by decide) rfl,
      completes_mfs hx (by decide) rfl, fun hp => ⟨completes_mfs hx (by decide) (if_neg hp),
        completes_mfs hx (by decide) (if_neg hp)⟩, fun n hn => exec_mfs_of_none hx (s.readSpecial_of_unlisted p hn)⟩
    obtain ⟨t, ht, hbecomes⟩ := completes_mfs_timelo (d := d) hx
    refine ⟨t, ht, (hbecomes.gpr d).trans (gprOf_setGprOf_same _ _ _), ?_, hbecomes.1⟩
    rw [hbecomes.2]
    exact (timeHiOf_setGprOf _ _ _).trans (timeHiOf_latchHi _ _)
  · refine ⟨?_, ?_, ?_, fun n hn => exec_mts_of_none hx (writeSpecial_of_unlisted _ _ hn)⟩
    · obtain ⟨t, ht, hbecomes⟩ := completes_mts (n := 0) (a := a) (q := statusWritten (s.proc p) (s.gpr p a)) hx rfl
      exact ⟨t, ht, hbecomes.1, congrArg Proc.status hbecomes.2, fun r => (hbecomes.gpr r).trans
        (gprOf_congr (q := s.proc p) (x := statusWritten (s.proc p) (s.gpr p a)) rfl rfl (bankOf_statusWritten _ _) r)⟩
    · obtain ⟨q, hq, hepc⟩ := writeSpecial_epc (s.proc p) (s.gpr p a)
      obtain ⟨t, ht, honly, hproc⟩ := completes_mts (n := 1) hx hq
      exact ⟨t, ht, honly, (congrArg epcOf hproc).trans hepc⟩
    · obtain ⟨q, hq, hestat⟩ := writeSpecial_estat (s.proc p) (s.gpr p a)
      obtain ⟨t, ht, honly, hproc⟩ := completes_mts (n := 2) hx hq
      exact ⟨t, ht, honly, (congrArg estatOf hproc).trans hestat⟩
  · refine ⟨completes_di hx, completes_ei hx, completes_wfi hx, exec_wfi_of_disabled hx,
      fun e l x sv hstack hserv hbest => ?_, exec_iret_of_empty hx, fun hmode hdbg => ?_, exec_brk_of_none hx,
      fun code => exec_sys hx⟩
    · obtain ⟨t, ht, honly, hproc⟩ := completes_iret hx hstack hserv hbest
      rw [windowEnded_frame] at hproc
      refine ⟨t, ht, honly, congrArg Proc.pc hproc, congrArg Proc.istack hproc, congrArg Proc.serv hproc,
        (congrArg levelOf hproc).trans (levelOf_returnedProc _ e l sv),
        (congrArg ieOf hproc).trans (ieOf_returnedProc _ e l sv),
        (congrArg bankOf hproc).trans (bankOf_returnedProc _ e l sv)⟩
    · have hproc : ((s.retire p).haltForDebug p).proc p = { retireProc (s.proc p) with dbgHalt := true } := by
        rw [State.proc_haltForDebug, State.proc_retire]
      exact ⟨_, exec_brk_of_debugger hx hmode hdbg, congrArg Proc.dbgHalt hproc, (congrArg Proc.pc hproc :),
        State.halted_haltForDebug _ p⟩
  · refine ⟨fun hon hmay hroom => ?_, fun hon hmay hfull => ?_, fun hdenied => ?_, fun hd hd2 hon hmay => ?_,
      exec_qpop_of_ill hx, completes_qcnt hx⟩
    · exact ⟨_, exec_qpush hx (State.procPush_of_room hon hmay hroom), s.queue_setQueue_same _,
        State.qr_queueDone _ p 0 (by decide), fun r hr => s.queue_setQueue_ne _ hr,
        fun r => State.gpr_queueDone _ p 0 r⟩
    · exact ⟨_, exec_qpush hx (State.procPush_of_full hon hmay hfull), fun r => rfl,
        State.qr_queueDone _ p 1 (by decide)⟩
    · exact ⟨_, exec_qpush hx (State.procPush_of_denied hdenied), fun r => rfl, State.qr_queueDone _ p 2 (by decide)⟩
    · refine ⟨fun e l hq => ⟨_, exec_qpop_of_entry hx hd hd2 (State.procPop_of_entry hon hmay hq), ?_, ?_,
        s.queue_setQueue_same l, fun r hr => s.queue_setQueue_ne l hr, State.qr_queueDone _ p 0 (by decide)⟩,
        fun hq => ⟨_, exec_qpop_of_none hx hd hd2 (State.procPop_of_empty hon hmay hq),
          fun r => State.gpr_queueDone _ p 1 r, fun r => rfl, State.qr_queueDone _ p 1 (by decide)⟩⟩
      · rw [State.gpr_queueDone, State.gpr_setGpr_ne _ _ _ (Nat.ne_of_lt d.val.lt_succ_self), State.gpr_setGpr_same,
          if_neg (by omega)]
      · rw [State.gpr_queueDone, State.gpr_setGpr_same, if_neg (Nat.succ_ne_zero _)]

end Sys2Proof.Machine

/-! Loads, stores and timed writes of a processor (06 R197, R208, R215, R220, R221). -/

namespace Sys2Proof.Machine

/-! ## Bytes stored (00 R14) -/

section
variable (l : List Byte) (s : State) (a : Nat)

theorem State.putBytes_frame : s.putBytes a l = { s with mem := (s.putBytes a l).mem } := by
  induction l generalizing s a with
  | nil => rfl
  | cons b l ih => exact ih (s.stb a b) (a + 1)

theorem State.ldb_putBytes_ne {b : Nat} (h : b < a ∨ a + l.length ≤ b) : (s.putBytes a l).ldb b = s.ldb b := by
  induction l generalizing s a with
  | nil => rfl
  | cons x l ih =>
    rw [List.length_cons] at h
    exact (ih (s.stb a x) (a + 1) (by omega)).trans (s.ldb_stb_ne x (by omega))

theorem State.ldb_putBytes {i : Nat} (h : i < l.length) : (s.putBytes a l).ldb (a + i) = l[i] := by
  induction l generalizing s a i with
  | nil => exact absurd h (Nat.not_lt_zero i)
  | cons x l ih =>
    cases i with
    | zero => exact (State.ldb_putBytes_ne l (s.stb a x) (a + 1) (.inl (Nat.lt_succ_self a))).trans (s.ldb_stb_same a x)
    | succ i =>
      rw [← Nat.add_assoc, Nat.add_right_comm]
      exact ih (s.stb a x) (a + 1) (Nat.lt_of_succ_lt_succ h)

/-- A store puts the low bytes of its value at the address, and the processor retires. -/
theorem State.storesBytes_storeN (p n : Nat) (v : Word) :
    StoresBytes p a ((wordBytes v).take n) s ((s.storeN a n v).retire p) := by
  have hprocs : (s.storeN a n v).procs = s.procs :=
    (congrArg State.procs (State.putBytes_frame ((wordBytes v).take n) s a) :)
  have hproc (q : Nat) : (s.storeN a n v).proc q = s.proc q := congrArg (tblGet (fun _ => ({} : Proc)) · q) hprocs
  refine ⟨congrArg (fun u : State => { u with
      badWords := (s.storeN a n v).badWords, procs := ((s.storeN a n v).retire p).procs })
      (State.putBytes_frame ((wordBytes v).take n) s a), fun i h => State.ldb_putBytes _ s a h,
    fun b h => State.ldb_putBytes_ne _ s a h, ?_, fun q hq => ?_⟩
  · rw [State.proc_retire, hproc]
  · exact ((s.storeN a n v).proc_setProc_ne _ hq).trans (hproc q)

end

/-! ## What a processor may reach (00 R11, R14; 05 R168; 06 R197, R220) -/

/-- Processor p reads the bytes at an address. -/
def PlainRead (s : State) (p a : Nat) : Prop :=
  s.isBad a = false ∧ (regionOf a = .flash → s.tru.fl = none) ∧
    (if p = 5 then engRegion a ≠ none else
      s.memOn (regionOf a) = true ∧ (regionOf a = .sram ∨ regionOf a = .rom ∨ regionOf a = .context ∨
        regionOf a = .ceMem ∨ regionOf a = .angle ∨ regionOf a = .buffers ∨ regionOf a = .ledger ∨
        regionOf a = .flash ∨ (∃ n : Fin 4, regionOf a = .tcm n) ∨ regionOf a = .pairTcm ∧ p = 4))

/-- Processor p writes the bytes at an address. -/
def PlainWrite (s : State) (p a : Nat) : Prop :=
  if p = 5 then engRegion a = some 0 ∨ engRegion a = some 2 else
    s.memOn (regionOf a) = true ∧ (regionOf a = .sram ∨ regionOf a = .buffers ∨ (∃ n : Fin 4, regionOf a = .tcm n) ∨
      regionOf a = .pairTcm ∧ p = 4)

section
variable {s : State} {p a n : Nat} {v : Word}

/-- A load of flash waits while a program or erase runs (15 R448). -/
theorem State.flash_not_busy (hflash : regionOf a = .flash → s.tru.fl = none) :
    ¬ (s.tru.fl.isSome && decide (regionOf a = .flash)) = true := fun h => by
  simp only [Bool.and_eq_true, decide_eq_true_eq] at h
  obtain ⟨hbusy, hreg⟩ := h
  simp [hflash hreg] at hbusy

theorem misaligned_of_aligned (h : a % n = 0) : misaligned a n = false := by
  rw [misaligned, decide_eq_false (not_not.2 h), Bool.false_and]

theorem misaligned_of_odd (h : a % n ≠ 0) (hreg : regionOf a ≠ .periph) : misaligned a n = true := by
  rw [misaligned, decide_eq_true h, decide_eq_true hreg, Bool.true_and]

theorem State.readAs_of_misaligned (h : misaligned a n = true) : s.readAs p a n = (s, 0, some 2) := if_pos h

theorem State.writeAs_of_misaligned (h : misaligned a n = true) : s.writeAs p a n v = (s, some 2) := if_pos h

theorem State.readAs_of_hole (hp : p ≠ 5) (hhole : regionOf a = .hole) (h : a % n = 0) :
    s.readAs p a n = (s, 0, some 3) := by
  unfold State.readAs
  rw [if_neg (by simp [misaligned_of_aligned h]), if_neg hp, hhole]

theorem State.writeAs_of_hole (hp : p ≠ 5) (hhole : regionOf a = .hole) (h : a % n = 0) :
    s.writeAs p a n v = (s, some 3) := by
  unfold State.writeAs
  rw [if_neg (by simp [misaligned_of_aligned h]), if_neg hp, hhole]

theorem State.readAs_of_plain (hread : PlainRead s p a) (h : a % n = 0) : s.readAs p a n = (s, s.loadN a n, none) := by
  obtain ⟨hgood, _, hreach⟩ := hread
  unfold State.readAs
  rw [if_neg (by simp [misaligned_of_aligned h])]
  by_cases hp : p = 5
  · rw [if_pos hp] at hreach
    rw [if_pos hp, if_neg (by simpa using hreach), if_neg (by simp [hgood])]
  · rw [if_neg hp] at hreach
    obtain ⟨hon, hregion⟩ := hreach
    have hmemory : regionOf a ≠ .periph ∧ regionOf a ≠ .hole ∧ regionOf a ≠ .pool ∧
        (regionOf a = .pairTcm → p = 4) := by
      rcases hregion with h | h | h | h | h | h | h | h | ⟨_, h⟩ | ⟨h, hpair⟩ <;> simp [*]
    obtain ⟨hperiph, hhole, hpool, hpair⟩ := hmemory
    rw [if_neg hp]
    split
    next h => exact absurd h hperiph
    next h => exact absurd h hhole
    next h => exact absurd h hpool
    next h => rw [if_neg (by simp [hpair h]), if_neg (by simp [hgood])]
    next => rw [if_neg (by simp [hon]), if_neg (by simp [hgood])]

theorem State.writeAs_of_plain (hwrite : PlainWrite s p a) (h : a % n = 0) :
    s.writeAs p a n v = (s.storeN a n v, none) := by
  unfold State.writeAs
  rw [if_neg (by simp [misaligned_of_aligned h])]
  by_cases hp : p = 5
  · rw [PlainWrite, if_pos hp] at hwrite
    rw [if_pos hp, if_pos (by simpa [engWriteOk] using hwrite)]
  · rw [PlainWrite, if_neg hp] at hwrite
    obtain ⟨hon, hregion⟩ := hwrite
    rw [if_neg hp]
    rcases hregion with h | h | ⟨_, h⟩ | ⟨h, hpair⟩ <;> rw [h] at hon ⊢
    · exact if_neg (by simp [hon])
    · exact if_neg (by simp [hon])
    · exact if_neg (by simp [hon])
    · exact if_pos hpair

end

/-! ## Loads and stores (06 R208, R221) -/

section
variable {s : State} {p d a n : Nat} {imm : BitVec 16} {i : Instr} {v : Word} {ext : Word → Word}
variable (hx : s.Executes p true true)
include hx

theorem completes_load (hi : exec i s = .next (s.loadOp p d a imm n ext))
    (hread : PlainRead s p (physAddr p (s.effAddr p a imm))) (halign : physAddr p (s.effAddr p a imm) % n = 0)
    (hv : ext (s.loadN (physAddr p (s.effAddr p a imm)) n) = v) : Completes i s (WritesGpr p d v 0 s) := by
  obtain ⟨_, hflash, _⟩ := id hread
  refine completes_of_executes hx hi ?_
  dsimp only
  rw [if_neg (State.flash_not_busy hflash), State.readAs_of_plain hread halign]
  subst hv
  exact (ProcBecomes.refl.setGpr d _).retire.writesGpr_plain

theorem completes_store (hi : exec i s = .next (s.storeOp p d a imm n))
    (hwrite : PlainWrite s p (physAddr p (s.effAddr p a imm))) (halign : physAddr p (s.effAddr p a imm) % n = 0) :
    Completes i s (StoresBytes p (physAddr p (s.effAddr p a imm)) ((wordBytes (s.gpr p d)).take n) s) := by
  refine completes_of_executes hx hi ?_
  dsimp only
  rw [State.writeAs_of_plain hwrite halign]
  exact State.storesBytes_storeN s _ p n _

theorem exec_load_of_misaligned (hi : exec i s = .next (s.loadOp p d a imm n ext))
    (halign : misaligned (physAddr p (s.effAddr p a imm)) n = true)
    (hflash : regionOf (physAddr p (s.effAddr p a imm)) = .flash → s.tru.fl = none) :
    exec i s = .next (s.exception p 2 (s.proc p).pc) := by
  refine (exec_of_executes hx hi).trans ?_
  dsimp only
  rw [if_neg (State.flash_not_busy hflash), State.readAs_of_misaligned halign]
  rfl

theorem exec_store_of_misaligned (hi : exec i s = .next (s.storeOp p d a imm n))
    (halign : misaligned (physAddr p (s.effAddr p a imm)) n = true) :
    exec i s = .next (s.exception p 2 (s.proc p).pc) := by
  refine (exec_of_executes hx hi).trans ?_
  dsimp only
  rw [State.writeAs_of_misaligned halign]
  rfl

theorem exec_load_of_hole (hi : exec i s = .next (s.loadOp p d a imm n ext)) (hp : p ≠ 5)
    (hhole : regionOf (physAddr p (s.effAddr p a imm)) = .hole) (halign : physAddr p (s.effAddr p a imm) % n = 0) :
    exec i s = .next ((s.setGpr p d 0).retireWith p 3) := by
  refine (exec_of_executes hx hi).trans ?_
  dsimp only
  rw [if_neg (by simp [hhole]), State.readAs_of_hole hp hhole halign]
  rfl

theorem exec_store_of_hole (hi : exec i s = .next (s.storeOp p d a imm n)) (hp : p ≠ 5)
    (hhole : regionOf (physAddr p (s.effAddr p a imm)) = .hole) (halign : physAddr p (s.effAddr p a imm) % n = 0) :
    exec i s = .next (s.retireWith p 3) := by
  refine (exec_of_executes hx hi).trans ?_
  dsimp only
  rw [State.writeAs_of_hole hp hhole halign]
  rfl

end

/-- The low bits of a value that was extended to a word. -/
theorem extractLsb'_setWidth {n : Nat} (x : BitVec n) (h : n ≤ 32) : (x.setWidth 32).extractLsb' 0 n = x := by
  rw [← BitVec.setWidth_eq_extractLsb' h, BitVec.setWidth_setWidth_of_le x h, BitVec.setWidth_eq]

/-! ## Timed writes (06 R215) -/

section
variable (q : Proc) (l : List TimedWrite) (c : Nat)

/-- The processor after ATW, with its slots and the result in TW. -/
def timedProc (q : Proc) (l : List TimedWrite) (c : Nat) : Proc := flagTw { retireProc q with timed := l } c

theorem tw_timedProc (hc : c < 4) : fld (timedProc q l c).status 12 11 = c :=
  (fld_setFld_same _ 12 11 c (by decide)).trans (Nat.mod_eq_of_lt hc)

theorem gprOf_timedProc (r : Nat) : gprOf (timedProc q l c) r = gprOf q r :=
  gprOf_congr (q := q) (x := timedProc q l c) rfl rfl (bitAt_setFld_apart _ 12 11 c 5 (by decide)) r

end

section
variable {s : State} {p : ProcId} {d a b : Gpr} (hx : s.Executes p true false)
include hx

theorem completes_atw_of_room (halign : (s.gpr p a).toNat % 4 = 0) (hreg : regionOf (s.gpr p a).toNat = .periph)
    (hroom : (s.proc p).timed.length < 4) : Completes (.atw p d a b) s (ProcBecomes p (timedProc (s.proc p)
      ((s.proc p).timed ++ [⟨s.gpr p a, s.gpr p b, s.gpr p d⟩])
      (if timeDiff 32 (s.gpr p d).toNat s.now ≤ 0 then 2 else 0)) s) := by
  have hok : ¬ ((s.gpr p a).toNat % 4 ≠ 0 ∨ regionOf (s.gpr p a).toNat ≠ .periph) := by simp [halign, hreg]
  refine completes_of_executes hx rfl ?_
  simp only [decide_eq_true_eq]
  rw [if_neg hok, if_neg (not_le.2 hroom)]
  exact ProcBecomes.refl.retire.modProc fun q =>
    flagTw { q with timed := q.timed ++ [⟨s.gpr p a, s.gpr p b, s.gpr p d⟩] } _

theorem completes_atw_of_full (halign : (s.gpr p a).toNat % 4 = 0) (hreg : regionOf (s.gpr p a).toNat = .periph)
    (hfull : 4 ≤ (s.proc p).timed.length) :
    Completes (.atw p d a b) s (ProcBecomes p (timedProc (s.proc p) (s.proc p).timed 1) s) := by
  refine completes_of_executes hx rfl ?_
  dsimp only
  rw [if_neg (by simp [halign, hreg]), if_pos hfull]
  exact ProcBecomes.refl.retire.modProc fun q => flagTw q 1

theorem exec_atw_of_not_periph (hreg : regionOf (s.gpr p a).toNat ≠ .periph) :
    exec (.atw p d a b) s = .next (s.retireWith p 3) := by
  refine (exec_of_executes hx rfl).trans ?_
  dsimp only
  rw [if_pos (.inr hreg)]

end

/-- Stack time is at the target of a timed write, and its slot is free. -/
def State.timedTaken (s : State) (p : Nat) (w : TimedWrite) : State :=
  (s.advanceTo (s.now + (max 0 (timeDiff 32 w.due.toNat s.now)).toNat)).modProc p fun q =>
    { q with timed := q.timed.erase w }

section
variable {s : State} {p : Nat} {w : TimedWrite}

theorem State.timed_timedTaken (hw : (s.proc p).timed = [w]) : ((s.timedTaken p w).proc p).timed = [] := by
  rw [State.timedTaken, State.modProc, State.proc_setProc_same, State.proc_advanceTo, hw]
  exact List.erase_cons_head w []

theorem State.timedWrite_of_one (hlive : s.live = true) (hon : s.on (procDom p) = true) (hw : (s.proc p).timed = [w]) :
    s.timedWrite p = if (s.timedTaken p w).refusesWrite w.addr.toNat w.value then
      (s.timedTaken p w).modProc p fun q => flagTwErr q true
      else (s.timedTaken p w).regWrite (procReq p) w.addr.toNat w.value := by
  unfold State.timedWrite
  rw [if_pos (by simp [hlive, hon]), hw]
  rfl

end

/-- Settles O15: a load and a store by what the processor may reach, ATW by its slots, and a timed write by its
target. -/
theorem yalirtiLoadsStoresAndTimedWrites : Obligations.YalirtiLoadsStoresAndTimedWrites := by
  refine ⟨fun s p d a imm hx => ?_, fun s p d a b hx => ?_, fun s p w hlive hon hw => ?_⟩
  · intro ad plainRead plainWrite gives v
    refine ⟨fun hread h => completes_load hx rfl hread h rfl, fun hread h => ⟨?_, completes_load hx rfl hread h rfl⟩,
      fun hread => ⟨?_, completes_load hx rfl hread (Nat.mod_one ad) rfl⟩,
      fun hwrite h => completes_store hx rfl hwrite h, fun hwrite h => completes_store hx rfl hwrite h,
      fun hwrite => completes_store hx rfl hwrite (Nat.mod_one ad), fun h hreg hflash => ?_,
      fun hp hhole h => ⟨exec_load_of_hole hx rfl hp hhole h, exec_store_of_hole hx rfl hp hhole h⟩⟩
    · exact completes_load hx rfl hread h (congrArg (BitVec.signExtend 32)
        (extractLsb'_setWidth (s.ldb (ad + 1) ++ s.ldb ad) (by decide)))
    · exact completes_load hx rfl hread (Nat.mod_one ad) (congrArg (BitVec.signExtend 32)
        (extractLsb'_setWidth (s.ldb ad) (by decide)))
    · exact ⟨exec_load_of_misaligned hx rfl (misaligned_of_odd h hreg) hflash,
        exec_store_of_misaligned hx rfl (misaligned_of_odd h hreg)⟩
  · intro ad
    refine ⟨fun halign hreg hroom => ?_, fun halign hreg hfull => ?_, exec_atw_of_not_periph hx⟩
    · obtain ⟨t, ht, hbecomes⟩ := completes_atw_of_room (d := d) (b := b) hx halign hreg hroom
      obtain ⟨honly, hproc⟩ := id hbecomes
      exact ⟨t, ht, honly, (congrArg Proc.timed hproc :), hproc ▸ tw_timedProc _ _ _ (by split <;> decide),
        fun r => (hbecomes.gpr r).trans (gprOf_timedProc _ _ _ r)⟩
    · obtain ⟨t, ht, honly, hproc⟩ := completes_atw_of_full (d := d) (b := b) hx halign hreg hfull
      exact ⟨t, ht, honly, (congrArg Proc.timed hproc :), hproc ▸ tw_timedProc _ _ _ (by decide)⟩
  · exact ⟨s.timedTaken p w, rfl, State.timed_timedTaken hw, State.reg_congr (s.regs_advanceTo _),
      State.ldb_congr (s.mem_advanceTo _), congrArg Host.Outcome.next (State.timedWrite_of_one hlive hon hw)⟩

end Sys2Proof.Machine

/-! Admission and unload (07 R235 to R238; 01 R44, R495). A request is run, locked and answered by three commands
(log 90). First what a row of words and an answer of the management mailbox leave, then the request with its checks, the
lock of an accepted set-up, the admission of a context, the result, and the unload. -/

namespace Sys2Proof.Machine

/-! ## Rows of words stored (00 R14) -/

section
variable (l : List Word) (s : State) (a : Nat)

theorem State.ldb_putWords_ne {b : Nat} (h : b < a ∨ a + 4 * l.length ≤ b) : (s.putWords a l).ldb b = s.ldb b := by
  induction l generalizing s a with
  | nil => rfl
  | cons w l ih =>
    rw [List.length_cons] at h
    exact (ih (s.stw a w) (a + 4) (by omega)).trans (s.ldb_stw_ne a w b (by omega))

theorem State.ldw_putWords_below {b : Nat} (h : b + 4 ≤ a) : (s.putWords a l).ldw b = s.ldw b := by
  simp only [State.ldw, State.ldb_putWords_ne l s a (b := b) (by omega),
    State.ldb_putWords_ne l s a (b := b + 1) (by omega), State.ldb_putWords_ne l s a (b := b + 2) (by omega),
    State.ldb_putWords_ne l s a (b := b + 3) (by omega)]

theorem State.ldw_putWords {j : Nat} (h : j < l.length) : (s.putWords a l).ldw (a + 4 * j) = l[j] := by
  induction l generalizing s a j with
  | nil => exact absurd h (Nat.not_lt_zero j)
  | cons w l ih =>
    cases j with
    | zero => exact (State.ldw_putWords_below l (s.stw a w) (a + 4) (Nat.le_refl _)).trans (s.ldw_stw_same a w)
    | succ j =>
      rw [show a + 4 * (j + 1) = a + 4 + 4 * j by omega]
      exact ih (s.stw a w) (a + 4) (Nat.lt_of_succ_lt_succ h)

end

/-! ## Answers to management requests (15 R446) -/

/-- The frame of an answer to the host or to the master: queues, the ring's waiting messages, the mailbox and the count
of free values are all it changes. -/
def AnswersOnly (s t : State) : Prop :=
  t = { s with queues := t.queues, ring := t.ring, tru := t.tru, freeCtr := t.freeCtr }

section
variable {s t : State}

theorem AnswersOnly.trans {u : State} (h : AnswersOnly s t) (h' : AnswersOnly t u) : AnswersOnly s u :=
  Eq.trans h' (congrArg (fun x : State =>
    { x with queues := u.queues, ring := u.ring, tru := u.tru, freeCtr := u.freeCtr }) h)

theorem AnswersOnly.regs (h : AnswersOnly s t) : t.regs = s.regs := (congrArg State.regs h :)
theorem AnswersOnly.mem (h : AnswersOnly s t) : t.mem = s.mem := (congrArg State.mem h :)
theorem AnswersOnly.adm (h : AnswersOnly s t) : t.adm = s.adm := (congrArg State.adm h :)

theorem State.answersOnly_mbxDrain : AnswersOnly s s.mbxDrain := by
  unfold State.mbxDrain
  split <;> rfl

theorem State.answersOnly_mgmtSend (ring : Bool) (l : List DWord) : AnswersOnly s (s.mgmtSend ring l) := by
  unfold State.mgmtSend
  split
  · exact State.forAll_keeps (AnswersOnly s) _ _ s rfl fun _ _ _ h => h.trans rfl
  · exact AnswersOnly.trans (t := { s with tru := { s.tru with mbxOut := s.tru.mbxOut ++ l } }) rfl
      State.answersOnly_mbxDrain

theorem State.answersOnly_mgmtFinalReply (m : MgmtOpen) (status : Nat) (body : List DWord) :
    AnswersOnly s (s.mgmtFinalReply m status body) := by
  unfold State.mgmtFinalReply
  split
  · exact State.answersOnly_mgmtSend _ _
  · exact (State.answersOnly_mgmtSend _ _).trans rfl

theorem State.answersOnly_mgmtClose (m : MgmtOpen) : AnswersOnly s (s.mgmtClose m) := by
  unfold State.mgmtClose
  split
  · split
    · exact AnswersOnly.trans (t := { s with tru := { s.tru with mgmt := s.tru.mgmt.erase m } }) rfl
        (State.answersOnly_mgmtFinalReply _ _ _)
    · rfl
  · rfl

theorem State.answersOnly_mgmtSettle : AnswersOnly s s.mgmtSettle :=
  State.forAll_keeps (AnswersOnly s) _ _ s rfl fun _ m _ h => h.trans (State.answersOnly_mgmtClose m)

end

/-! ## The request and its checks (07 R235, R236, R240) -/

section
variable (s : State) (own esc : Option (BitVec 192))

/-- The request of core 0 stands, with the descriptor's address of g4, and BUSY shows it. -/
def State.requestTaken (s : State) : State :=
  let t := s.setB F.ADM_STATUS.BUSY true
  { t with adm := { t.adm with request := some (s.gpr 0 4).toNat, waiting := false, result := none } }

theorem State.busy_requestTaken : s.requestTaken.fb F.ADM_STATUS.BUSY = true :=
  State.fb_setB_same s F.ADM_STATUS.BUSY true rfl (by decide)

theorem State.sameRegsBut_requestTaken : SameRegsBut [R.ADM_STATUS] s s.requestTaken :=
  (SameRegsBut.setB (SameRegsBut.ofRegs rfl) List.mem_cons_self : SameRegsBut _ s (s.setB F.ADM_STATUS.BUSY true))

theorem State.on_requestTaken (d : Nat) : s.requestTaken.on d = s.on d :=
  s.sameRegsBut_requestTaken.fb (x := ⟨R.SYSC_PSTAT, d, d⟩) (show R.SYSC_PSTAT ∉ [R.ADM_STATUS] by decide)

theorem State.live_requestTaken : s.requestTaken.live = s.live :=
  congrArg (· && !s.pwr.inReset) (s.on_requestTaken 2)

theorem State.live_of_canRun {p : Nat} (h : s.canRun p = true) : s.live = true := by
  simp only [State.canRun, Bool.and_eq_true] at h
  exact h.1.1.1.1

theorem State.admRequest_of_idle (hgrave : s.grave = false) (hobs : s.fb F.RNG_STATUS.OBSERVER = false)
    (hbusy : s.fb F.ADM_STATUS.BUSY = false) (hadm : s.admitted = false)
    (hunl : s.fb F.ADM_STATUS.UNLOADING = false) : s.admRequest 0 0x40 = s.requestTaken := by
  unfold State.admRequest
  rw [if_pos rfl, if_neg (by simp [hgrave, hobs]), if_neg (by simp [hbusy, hadm, hunl])]
  rfl

/-- With no request standing, ADMIT is the run for the request that core 0 makes. -/
theorem State.admitRun_of_no_request (hreq : s.adm.request = none) (hrun : s.canRun 0 = true)
    (htaken : s.admRequest 0 0x40 = s.requestTaken) : s.admitRun own esc = s.requestTaken.admitRun own esc := by
  have hnew : s.requestTaken.adm.request.isNone = false := rfl
  simp only [State.admitRun, hreq, hrun, htaken, hnew, Option.isNone_none, Bool.and_self, Bool.false_and, if_true,
    Bool.false_eq_true, if_false]

/-- The checks answer in the admission unit and change nothing else. -/
theorem State.admitRun_of_request {desc : Nat} (hreq : s.adm.request = some desc) (hlive : s.live = true)
    (hon : s.on 3 = true) (hres : s.adm.result = none) : ∃ u : AdmUnit, s.admitRun own esc = { s with adm := u } ∧
      u.request = some desc ∧ u.result = some (s.admitChecks desc own esc).1 ∧ u.count = fld (s.ldw desc) 15 0 ∧
      u.tag = s.ldw (desc + 4) ∧ u.lockPend = decide ((s.admitChecks desc own esc).1.code = 0) ∧
      ((s.admitChecks desc own esc).1.code ≠ 0 → u.progs = [] ∧ u.handlers = []) := by
  simp only [State.admitRun, hreq, hlive, hon, hres, Option.isNone_some, Option.isNone_none, Bool.false_and,
    Bool.and_self, Bool.false_eq_true, if_false, if_true]
  exact ⟨_, rfl, rfl, rfl, rfl, rfl, rfl, fun h => ⟨if_neg h, if_neg h⟩⟩

end

/-! ## The lock of an accepted set-up (07 R230, R238, R244; 15 R433) -/

section
variable (s : State) (progs : List ProgramRec)

theorem State.ceStart_setB_admitted (b : Bool) : (s.setB F.ADM_STATUS.ADMITTED b).ceStart = s.ceStart := by
  have hnin : (s.setB F.ADM_STATUS.ADMITTED b).f F.CE_LISTS.NIN = s.f F.CE_LISTS.NIN :=
    State.f_setB_apart _ _ _ _ (.inl (by decide))
  have hnfb : (s.setB F.ADM_STATUS.ADMITTED b).f F.CE_LISTS2.NFB = s.f F.CE_LISTS2.NFB :=
    State.f_setB_apart _ _ _ _ (.inl (by decide))
  rw [State.ceStart, State.ceStart, State.tSnap, State.tSnap, State.tSup, State.tSup, hnin, hnfb]
  rfl

/-- CE_START and CE_END of a set-up, before the offsets of its programs. -/
def State.spanWritten (s : State) (endC : Nat) : State :=
  (s.setF F.CE_START.CYC s.ceStart).setF F.CE_END.CYC endC

/-- The offsets of the engine programs lie above every register that the lock reads or writes beside them. -/
theorem State.reg_writeOffsets : ∃ endC, ∀ a, a < R.CE_PROGS 0 →
    (s.writeOffsets progs).reg a = (s.spanWritten endC).reg a := by
  refine ⟨_, fun a ha => State.forAll_keeps (fun t => t.reg a = (s.spanWritten _).reg a) _ _ _ rfl fun t x _ h => ?_⟩
  have hs : a ≠ R.CE_PROGS x.1.slot := by unfold R.CE_PROGS at *; omega
  have hd : a ≠ R.CE_PROGD x.1.slot := by unfold R.CE_PROGS R.CE_PROGD at *; omega
  exact ((State.reg_setF_ne _ _ _ hd).trans (State.reg_setF_ne _ _ _ hs)).trans h

theorem State.regs_writeDispatchers : s.writeDispatchers.regs = s.regs :=
  State.forAll_keeps (fun t => t.regs = s.regs) _ _ s rfl fun t _ _ h =>
    (congrArg State.regs (State.putBytes_frame _ t _)).trans h

theorem State.reg_extend (n : Nat) (d : List Byte) {a : Nat} (h : a ≠ R.TRU_STATUS) :
    (s.extend n d).reg a = s.reg a := by
  unfold State.extend
  split
  · exact State.reg_setB_ne _ F.TRU_STATUS.EXTBUSY true h
  · rfl

/-- The set-up's registers and dispatchers are written and its measurement is requested. -/
def State.setupWritten (s : State) (desc : Nat) : State :=
  (((s.setB F.ADM_STATUS.ADMITTED true).writeOffsets s.adm.progs).writeDispatchers).measureSetup desc

theorem State.reg_setupWritten (desc : Nat) : ∃ endC, ∀ a, a < R.CE_PROGS 0 →
    (s.setupWritten desc).reg a = ((s.setB F.ADM_STATUS.ADMITTED true).spanWritten endC).reg a := by
  obtain ⟨endC, h⟩ := (s.setB F.ADM_STATUS.ADMITTED true).reg_writeOffsets s.adm.progs
  refine ⟨endC, fun a ha => ?_⟩
  have htru : a ≠ R.TRU_STATUS := Nat.ne_of_lt (Nat.lt_trans ha (by decide))
  exact (State.reg_extend _ _ _ htru).trans ((State.reg_congr (State.regs_writeDispatchers _) a).trans (h a ha))

theorem State.admitted_setupWritten (desc : Nat) : (s.setupWritten desc).fb F.ADM_STATUS.ADMITTED = true := by
  obtain ⟨endC, h⟩ := s.reg_setupWritten desc
  rw [State.fb, h _ (by decide)]
  exact (State.fb_setF_apart _ F.CE_END.CYC F.ADM_STATUS.ADMITTED _ (.inl (by decide))).trans
    ((State.fb_setF_apart _ F.CE_START.CYC F.ADM_STATUS.ADMITTED _ (.inl (by decide))).trans
      (State.fb_setB_same s F.ADM_STATUS.ADMITTED true rfl (by decide)))

theorem State.start_setupWritten (desc : Nat) : (s.setupWritten desc).f F.CE_START.CYC =
    s.ceStart % 2 ^ (F.CE_START.CYC.hi + 1 - F.CE_START.CYC.lo) := by
  obtain ⟨endC, h⟩ := s.reg_setupWritten desc
  rw [State.f, h _ (by decide), ← s.ceStart_setB_admitted true]
  exact (State.f_setF_apart _ F.CE_END.CYC F.CE_START.CYC _ (.inl (by decide))).trans
    (State.f_setF_same _ F.CE_START.CYC _ (by decide))

/-- The set-up is written, and the admission unit holds what the running chip is policed against. -/
def State.setupLocked (s : State) (desc : Nat) (u : AdmUnit) : State := { s.setupWritten desc with adm := u }

/-- At a boundary after the acceptance the set-up is locked, and then every context may be admitted. -/
theorem State.admissionLock_of_due {desc : Nat} (hreq : s.adm.request = some desc) (hlive : s.live = true)
    (hon : s.on 3 = true) (hpend : s.adm.lockPend = true) (hk : s.tm.k ≠ s.adm.lockK) : ∃ u : AdmUnit,
      s.admissionLock = (if (s.setupLocked desc u).on 6 then (s.setupLocked desc u).forAll ctxIdx State.contextAdmit
        else s.setupLocked desc u) ∧ u.lockPend = false ∧ u.due = s.dueNow s.tm.k := by
  simp only [State.admissionLock, hreq, hlive, hon, hpend, hk, ne_eq, not_false_eq_true, decide_true, Bool.and_self,
    if_true]
  exact ⟨_, rfl, rfl, rfl⟩

end

/-! ## The admission of a context (01 R43, R44, R495) -/

section
variable (s : State) (i : Nat)

theorem State.ctx_setCtxF_same (off hi lo v : Nat) :
    (s.setCtxF i off hi lo v).ctx i off = setFld (s.ctx i off) hi lo v := State.ctx_setCtx_same _ _ _ _

/-- The context is ADMITTED from this period on, with the header fields of its naming word. -/
def State.admittedCtx (s : State) (i : Nat) : State :=
  ((s.nameHeader i).setCst i cAdmitted).modCell i fun x => { x with inStateK := s.tm.k }

theorem State.contextAdmit_of_named (hadm : s.admitted = true) (hst : s.cst i = cDiscovered)
    (hmatch : s.ctxMatches i = true) (hother : (s.cell i).otherDrives ≠ some (s.tm.k - 1)) :
    s.contextAdmit i = s.admittedCtx i := if_pos (by simp [hadm, hst, hmatch, hother])

theorem State.contextAdmit_of_not_named (h : s.admitted = false ∨ s.cst i ≠ cDiscovered ∨ s.ctxMatches i = false ∨
    (s.cell i).otherDrives = some (s.tm.k - 1)) : s.contextAdmit i = s := by
  refine if_neg ?_
  simp only [Bool.and_eq_true, decide_eq_true_eq]
  rintro ⟨⟨⟨hadm, hst⟩, hmatch⟩, hother⟩
  rcases h with h | h | h | h
  · exact absurd hadm (by simp [h])
  · exact h hst
  · exact absurd hmatch (by simp [h])
  · exact hother h

/-- The header of an ADMITTED context, from the header before and the naming word of its cell. -/
def namedHeader (w n : Word) : Word :=
  setFld (setFld (setFld (setFld (setFld w 17 17 (fld n 4 4)) 16 14 (fld n 7 5)) 13 13 (fld n 8 8)) 12 9 (fld n 3 0))
    2 0 cAdmitted

theorem State.header_admittedCtx : (s.admittedCtx i).ctx i 0 = namedHeader (s.ctx i 0) (s.naming i) := by
  simp only [State.admittedCtx, State.setCst, State.nameHeader, State.ctx_modCell, State.ctx_setCtxF_same, namedHeader]

theorem State.cst_admittedCtx : (s.admittedCtx i).cst i = cAdmitted := by
  rw [State.cst, State.ctxF, State.header_admittedCtx]
  exact fld_setFld_same _ 2 0 cAdmitted (by decide)

theorem State.cClass_admittedCtx : (s.admittedCtx i).cClass i = fld (s.naming i) 3 0 := by
  rw [State.cClass, State.ctxF, State.header_admittedCtx, namedHeader, fld_setFld_apart _ _ _ _ _ _ (by decide),
    fld_setFld_same _ _ _ _ (by decide)]
  exact Nat.mod_eq_of_lt (fld_lt _ _ _)

theorem State.cArm_admittedCtx : (s.admittedCtx i).cArm i = fld (s.naming i) 7 5 := by
  rw [State.cArm, State.ctxF, State.header_admittedCtx, namedHeader, fld_setFld_apart _ _ _ _ _ _ (by decide),
    fld_setFld_apart _ _ _ _ _ _ (by decide), fld_setFld_apart _ _ _ _ _ _ (by decide),
    fld_setFld_same _ _ _ _ (by decide)]
  exact Nat.mod_eq_of_lt (fld_lt _ _ _)

theorem State.cInArm_admittedCtx : (s.admittedCtx i).cInArm i = bitAt (s.naming i) 4 := by
  rw [State.cInArm, State.header_admittedCtx, namedHeader, bitAt_setFld_apart _ _ _ _ _ (by decide),
    bitAt_setFld_apart _ _ _ _ _ (by decide), bitAt_setFld_apart _ _ _ _ _ (by decide),
    bitAt_setFld_apart _ _ _ _ _ (by decide), bitAt_setFld_same _ _ _ (by decide), testBit_fld_bit]

theorem State.inStateK_admittedCtx : ((s.admittedCtx i).cell i).inStateK = s.tm.k := by
  rw [State.admittedCtx, State.cell_modCell]

end

/-! ## The result (07 R237) -/

section
variable (s : State) (desc : Nat) (r : AdmResult)

/-- The result record stands after the last record of the descriptor, and the warnings after it. -/
def State.recordWritten (s : State) (desc : Nat) (r : AdmResult) : State :=
  let a := desc + 0x10 + 32 * s.adm.count
  (s.putWords a (resultWords r s.adm.tag)).putWords (a + 32)
    ((r.warns.take 64).flatMap fun w => [wN (w.1 * 65536 + w.2.1), wN w.2.2])

theorem State.ldw_recordWritten {j : Nat} (h : j < (resultWords r s.adm.tag).length) :
    (s.recordWritten desc r).ldw (desc + 0x10 + 32 * s.adm.count + 4 * j) = (resultWords r s.adm.tag)[j] := by
  have hlen : j < 8 := h
  exact (State.ldw_putWords_below _ _ _ (by omega)).trans (State.ldw_putWords _ s _ h)

theorem State.ldb_recordWritten {b : Nat} (h : b < desc + 0x10 + 32 * s.adm.count) :
    (s.recordWritten desc r).ldb b = s.ldb b :=
  (State.ldb_putWords_ne _ _ _ (.inl (by omega))).trans (State.ldb_putWords_ne _ s _ (.inl h))

/-- ADM_STATUS shows the code of a result that ended its request. -/
def State.statusShown (s : State) (r : AdmResult) : State :=
  ((s.setF F.ADM_STATUS.CODE r.code).setB F.ADM_STATUS.BUSY false).setB F.ADM_STATUS.WARN
    (decide (r.code = 0) && !r.warns.isEmpty)

theorem State.busy_statusShown : (s.statusShown r).fb F.ADM_STATUS.BUSY = false :=
  (State.fb_setB_apart _ F.ADM_STATUS.WARN F.ADM_STATUS.BUSY _ (by decide)).trans
    (State.fb_setB_same _ F.ADM_STATUS.BUSY false rfl (by decide))

theorem State.code_statusShown : (s.statusShown r).f F.ADM_STATUS.CODE =
    r.code % 2 ^ (F.ADM_STATUS.CODE.hi + 1 - F.ADM_STATUS.CODE.lo) :=
  (State.f_setB_apart _ F.ADM_STATUS.WARN F.ADM_STATUS.CODE _ (by decide)).trans <|
    (State.f_setB_apart _ F.ADM_STATUS.BUSY F.ADM_STATUS.CODE _ (by decide)).trans
      (State.f_setF_same s F.ADM_STATUS.CODE _ (by decide))

theorem State.warn_statusShown :
    (s.statusShown r).fb F.ADM_STATUS.WARN = (decide (r.code = 0) && !r.warns.isEmpty) :=
  State.fb_setB_same _ F.ADM_STATUS.WARN _ rfl (by decide)

/-- The figures and the object of a result stand in the ADM registers. -/
def State.figuresShown (s : State) (r : AdmResult) : State :=
  (((s.setReg R.ADM_FIGD (wN r.figd)).setReg R.ADM_FIGA (wN r.figa)).setF F.ADM_OBJ.KIND r.kind).setF
    F.ADM_OBJ.OBJ r.obj

theorem State.sameRegsBut_figuresShown : SameRegsBut [R.ADM_FIGD, R.ADM_FIGA, R.ADM_OBJ] s (s.figuresShown r) := by
  refine ((((SameRegsBut.ofRegs rfl).setReg ?_).setReg ?_).setF ?_).setF ?_ <;> decide

theorem State.figa_figuresShown : (s.figuresShown r).reg R.ADM_FIGA = wN r.figa :=
  (State.reg_setF_ne _ F.ADM_OBJ.OBJ _ (by decide)).trans <|
    (State.reg_setF_ne _ F.ADM_OBJ.KIND _ (by decide)).trans (State.reg_setReg_same _ _ _)

theorem State.figd_figuresShown : (s.figuresShown r).reg R.ADM_FIGD = wN r.figd :=
  (State.reg_setF_ne _ F.ADM_OBJ.OBJ _ (by decide)).trans <|
    (State.reg_setF_ne _ F.ADM_OBJ.KIND _ (by decide)).trans <|
      (State.reg_setReg_ne _ _ (by decide)).trans (State.reg_setReg_same s _ _)

/-- The request has its result, and core 0 is told (07 R236). -/
def State.requestEnded (s : State) (desc : Nat) (r : AdmResult) : State :=
  let t := ((s.recordWritten desc r).statusShown r).figuresShown r
  { t with adm := { t.adm with request := none, result := none, waiting := true } }

theorem State.mem_requestEnded : (s.requestEnded desc r).mem = (s.recordWritten desc r).mem := rfl

theorem State.regs_requestEnded :
    (s.requestEnded desc r).regs = (((s.recordWritten desc r).statusShown r).figuresShown r).regs := rfl

theorem State.admissionResult_of_done (hreq : s.adm.request = some desc) (hres : s.adm.result = some r)
    (hlive : s.live = true) (hon : s.on 3 = true) (hpend : s.adm.lockPend = false) :
    s.admissionResult = s.requestEnded desc r := by
  simp only [State.admissionResult, hreq, hres, hlive, hon, hpend, Bool.not_false, Bool.and_self, if_true]
  rfl

end

/-! ## The unload (07 R235; 01 R44) -/

section
variable (s : State)

theorem State.stopPort_frame (i : Nat) : s.stopPort i = { s with lnk := (s.stopPort i).lnk } := by
  unfold State.stopPort
  split <;> rfl

theorem State.forAll_stopPort_frame (l : List Nat) :
    s.forAll l State.stopPort = { s with lnk := (s.forAll l State.stopPort).lnk } :=
  State.forAll_keeps (fun t => t = { s with lnk := t.lnk }) l _ s rfl fun t i _ h =>
    (t.stopPort_frame i).trans (congrArg (fun x : State => { x with lnk := (t.stopPort i).lnk }) h)

/-- The unload runs: every cell that is driven has its STOP waiting. -/
def State.unloadStarted (s : State) : State :=
  let t := (s.setB F.ADM_STATUS.UNLOADING true).forAll (ctxIdx.filter s.drives) State.stopPort
  { t with adm := { t.adm with unloadReq := false, unloadK := t.tm.k } }

theorem State.unload_of_request (hlive : s.live = true) (hon : s.on 3 = true) (hreq : s.adm.unloadReq = true)
    (hidle : s.fb F.ADM_STATUS.UNLOADING = false) : s.unload = s.unloadStarted := by
  simp only [State.unload, hreq, hlive, hon, hidle, Bool.not_true, Bool.not_false, Bool.false_and, Bool.and_self,
    Bool.false_eq_true, if_false, if_true]
  rfl

variable {s} {i : Nat}

theorem State.unloadCtx_of_driving (h : s.drives i = true) : s.unloadCtx i =
    ((s.setCst i cDiscovered).setCtxF i 0 8 7 0).modCell i fun x => { x with inStateK := s.tm.k } := if_pos h

theorem State.unloadCtx_of_not_driving (h : s.drives i = false) : s.unloadCtx i = s := if_neg (by simp [h])

theorem State.cst_unloadCtx_same : (s.unloadCtx i).cst i = if s.drives i then cDiscovered else s.cst i := by
  cases h : s.drives i
  case true =>
    rw [State.unloadCtx_of_driving h]
    exact (State.cst_setCtxF _ i (by decide)).trans (State.cst_setCst s i (by decide))
  case false =>
    rw [State.unloadCtx_of_not_driving h]
    rfl

theorem State.cst_unloadCtx_other {j : Nat} (hi : i < 128) (hj : i ≠ j) : (s.unloadCtx j).cst i = s.cst i := by
  cases h : s.drives j
  case true =>
    have hkeeps : KeepsOtherCtx j s (s.unloadCtx j) := by
      rw [State.unloadCtx_of_driving h]
      exact (((KeepsOtherCtx.ofMem rfl).setCst).setCtxF (by decide)).modCell
    exact State.cst_congr i (hkeeps i hi hj 0 (by decide))
  case false => rw [State.unloadCtx_of_not_driving h]

theorem State.drives_congr {t : State} (h : t.cst i = s.cst i) : t.drives i = s.drives i := congrArg drivingState h

/-- DISCOVERED is no driving state, so a context is returned once. -/
theorem State.cst_forAll_unloadCtx (l : List Nat) (hi : i < 128) : (s.forAll l State.unloadCtx).cst i =
    if i ∈ l ∧ s.drives i = true then cDiscovered else s.cst i := by
  induction l generalizing s with
  | nil => simp [State.forAll]
  | cons j l ih =>
    refine (ih (s := s.unloadCtx j)).trans ?_
    by_cases hj : i = j
    · subst hj
      have hst := s.cst_unloadCtx_same (i := i)
      cases h : s.drives i
      case true =>
        rw [h, if_pos rfl] at hst
        simp [hst]
      case false => simp [State.unloadCtx_of_not_driving h, h]
    · have hst := State.cst_unloadCtx_other (s := s) hi hj
      rw [State.drives_congr hst, hst]
      simp [hj]

theorem State.regs_forAll_unloadCtx (l : List Nat) : (s.forAll l State.unloadCtx).regs = s.regs :=
  State.forAll_keeps (fun t => t.regs = s.regs) l _ s rfl fun t j _ h => by
    cases hj : t.drives j
    case true => rw [State.unloadCtx_of_driving hj]; exact h
    case false => rw [State.unloadCtx_of_not_driving hj]; exact h

/-- No set-up is admitted, and ADM_STATUS shows no unload and no code. -/
def State.admissionCleared (s : State) : State :=
  ((s.setB F.ADM_STATUS.UNLOADING false).setB F.ADM_STATUS.ADMITTED false).setF F.ADM_STATUS.CODE 0

theorem State.unloading_admissionCleared : s.admissionCleared.fb F.ADM_STATUS.UNLOADING = false :=
  (State.fb_setF_apart _ F.ADM_STATUS.CODE F.ADM_STATUS.UNLOADING _ (by decide)).trans <|
    (State.fb_setB_apart _ F.ADM_STATUS.ADMITTED F.ADM_STATUS.UNLOADING _ (by decide)).trans
      (State.fb_setB_same s F.ADM_STATUS.UNLOADING false rfl (by decide))

theorem State.admitted_admissionCleared : s.admissionCleared.admitted = false :=
  (State.fb_setF_apart _ F.ADM_STATUS.CODE F.ADM_STATUS.ADMITTED _ (by decide)).trans
    (State.fb_setB_same _ F.ADM_STATUS.ADMITTED false rfl (by decide))

theorem State.onlyRegs_admissionCleared : OnlyRegs [R.ADM_STATUS] s s.admissionCleared := by
  refine ((OnlyRegs.refl.setB ?_).setB ?_).setF ?_ <;> exact List.mem_cons_self

/-- The stops are out and a boundary has passed: the contexts return, and the unit forgets the set-up. -/
theorem State.unloadDone_of_stopped (hlive : s.live = true) (hunl : s.fb F.ADM_STATUS.UNLOADING = true)
    (hk : s.tm.k ≠ s.adm.unloadK) (hon : s.on 6 = true) : ∃ u : AdmUnit, s.unloadDone =
      { (s.forAll ctxIdx State.unloadCtx).admissionCleared with adm := u } ∧
      u.progs = [] ∧ u.handlers = [] ∧ u.due = [] ∧ u.waiting = true := by
  simp only [State.unloadDone, hlive, hunl, hk, hon, ne_eq, not_false_eq_true, decide_true, Bool.and_self, if_true]
  exact ⟨_, rfl, rfl, rfl, rfl, rfl⟩

theorem lt_of_mem_ctxIdx (h : i ∈ ctxIdx) : i < 128 := by
  simp only [ctxIdx, List.mem_append, List.mem_map, List.mem_range] at h
  omega

end

/-- Settles O30: each command by its equation, and then what the writes of its record, flags and contexts read. -/
theorem admissionAndUnload : Obligations.AdmissionAndUnload := by
  refine ⟨fun s own esc hreq hrun hgrave hobs hbusy hadm hunl hon => ?_, fun s own esc desc hreq hlive hon hres => ?_,
    fun s desc hreq hlive hon hpend hk => ?_, fun s i _ => ⟨fun hadm hst hmatch hother => ?_,
      s.contextAdmit_of_not_named i⟩, fun s desc r hreq hres hlive hon hpend => ?_,
    fun s hlive hon hreq hidle => ?_, fun s hlive hunl hk hon => ?_⟩
  · have hlive := (s.live_requestTaken).trans (s.live_of_canRun hrun)
    have hrequest := s.admitRun_of_no_request own esc hreq hrun (s.admRequest_of_idle hgrave hobs hbusy hadm hunl)
    obtain ⟨u, hu, hdesc, hresult, -⟩ :=
      s.requestTaken.admitRun_of_request own esc rfl hlive ((s.on_requestTaken 3).trans hon) rfl
    exact .intro rfl (hrequest.trans hu) ⟨hdesc, s.busy_requestTaken, by simp [hresult], s.sameRegsBut_requestTaken,
      fun _ => rfl⟩
  · obtain ⟨u, hu, -, hresult, hcount, htag, hpend, hnone⟩ := s.admitRun_of_request own esc hreq hlive hon hres
    exact .intro rfl hu ⟨hresult, hcount, htag, hpend, hnone, rfl⟩
  · obtain ⟨u, hlock, hpend', hdue⟩ := s.admissionLock_of_due hreq hlive hon hpend hk
    exact ⟨_, congrArg Host.Outcome.next hlock, s.admitted_setupWritten desc, hpend', hdue, s.start_setupWritten desc⟩
  · rw [s.contextAdmit_of_named i hadm hst hmatch hother]
    exact ⟨s.cst_admittedCtx i, s.cInArm_admittedCtx i, s.cArm_admittedCtx i, s.cClass_admittedCtx i,
      s.inStateK_admittedCtx i⟩
  · have hdone : exec .admissionResult s = .next (s.requestEnded desc r).mgmtSettle :=
      congrArg (fun t : State => Host.Outcome.next t.mgmtSettle)
        (s.admissionResult_of_done desc r hreq hres hlive hon hpend)
    have hanswers := (s.requestEnded desc r).answersOnly_mgmtSettle
    have hregs := hanswers.regs.trans (s.regs_requestEnded desc r)
    have hmem := hanswers.mem.trans (s.mem_requestEnded desc r)
    have hshown := ((s.recordWritten desc r).statusShown r).sameRegsBut_figuresShown r
    refine ⟨_, hdone, ?_, ?_, ?_, ?_, ?_, ?_, ?_, ?_, fun j hj => ?_, fun b hb => ?_⟩
    · rw [hanswers.adm]; rfl
    · rw [hanswers.adm]; rfl
    · rw [hanswers.adm]; rfl
    · exact (State.fb_congr hregs _).trans ((hshown.fb (by decide)).trans (State.busy_statusShown _ r))
    · exact (State.f_congr hregs _).trans ((hshown.f (by decide)).trans (State.code_statusShown _ r))
    · exact (State.fb_congr hregs _).trans ((hshown.fb (by decide)).trans (State.warn_statusShown _ r))
    · exact (State.reg_congr hregs _).trans (State.figd_figuresShown _ r)
    · exact (State.reg_congr hregs _).trans (State.figa_figuresShown _ r)
    · exact (State.ldw_congr hmem _).trans (s.ldw_recordWritten desc r hj)
    · exact (State.ldb_congr hmem b).trans (s.ldb_recordWritten desc r hb)
  · have hframe := (s.setB F.ADM_STATUS.UNLOADING true).forAll_stopPort_frame (ctxIdx.filter s.drives)
    have hregs := (congrArg State.regs hframe :)
    exact .intro rfl (s.unload_of_request hlive hon hreq hidle)
      ⟨(State.fb_congr hregs _).trans (State.fb_setB_same s F.ADM_STATUS.UNLOADING true rfl (by decide)), rfl,
        (congrArg (fun t : State => t.tm.k) hframe :), rfl,
        (SameRegsBut.setB (SameRegsBut.ofRegs rfl) List.mem_cons_self).congr hregs,
        State.ldb_congr (congrArg State.mem hframe :)⟩
  · obtain ⟨u, hu, hprogs, hhandlers, hdue, hwaiting⟩ := State.unloadDone_of_stopped hlive hunl hk hon
    have hdone : exec .unloadDone s = .next s.unloadDone.mgmtSettle := rfl
    have hanswers := s.unloadDone.answersOnly_mgmtSettle
    rw [hu] at hdone hanswers
    have hcleared := (s.forAll ctxIdx State.unloadCtx).onlyRegs_admissionCleared
    refine ⟨_, hdone, ?_, ?_, ?_, ?_, ?_, ?_, ?_, fun i hi => ?_⟩
    · exact (State.fb_congr hanswers.regs _).trans State.unloading_admissionCleared
    · exact (State.fb_congr hanswers.regs _).trans State.admitted_admissionCleared
    · rw [hanswers.adm]; exact hprogs
    · rw [hanswers.adm]; exact hhandlers
    · rw [hanswers.adm]; exact hdue
    · rw [hanswers.adm]; exact hwaiting
    · exact (hcleared.2.trans_regs (State.regs_forAll_unloadCtx ctxIdx)).congr hanswers.regs
    · have hmem : _ = (s.forAll ctxIdx State.unloadCtx).mem := hanswers.mem
      rw [State.cst_congr i (State.ctx_congr hmem i 0), State.cst_forAll_unloadCtx ctxIdx (lt_of_mem_ctxIdx hi)]
      simp [hi]

end Sys2Proof.Machine

/-! Hardware queues and semaphores, and the accesses of the host port (08 R256, R257, R268 to R272; 16 R462, R469). -/

namespace Sys2Proof.Machine

/-! ## The hardware ends of a queue (08 R268, R270) -/

/-- A push that found its queue full: HWDROP counts it, and OVF is set. -/
def State.pushDropped (s : State) (q : Nat) : State :=
  (s.incF (F.HQ_DROP.HWDROP q) 1).setB (F.HQ_STAT.OVF q) true

section
variable {s : State} {q : Nat} {e : DWord} {l : List DWord}

theorem State.hardwarePush_of_room (hp : hwProducer q = true) (hon : s.qOn q = true)
    (hroom : (s.queue q).length < s.qCap q) : s.hardwarePush q e = s.setQueue q (s.queue q ++ [e]) := by
  rw [State.hardwarePush, if_pos hp, State.hwPush, if_pos hon, if_pos hroom]

theorem State.hardwarePush_of_full (hp : hwProducer q = true) (hon : s.qOn q = true)
    (hfull : s.qCap q ≤ (s.queue q).length) : s.hardwarePush q e = s.pushDropped q := by
  rw [State.hardwarePush, if_pos hp, State.hwPush, if_pos hon, if_neg (not_lt.2 hfull), State.pushDropped]

theorem State.hardwarePop_of_empty (hc : hwConsumer q = true) (hon : s.qOn q = true) (hq : s.queue q = []) :
    s.hardwarePop q = s := by
  rw [State.hardwarePop, if_pos hc, State.hwPop, if_pos hon, hq]

theorem State.hardwarePop_of_entry (hc : hwConsumer q = true) (hon : s.qOn q = true) (hq : s.queue q = e :: l) :
    s.hardwarePop q = { s.setQueue q l with busOut := e } := by
  rw [State.hardwarePop, if_pos hc, State.hwPop, if_pos hon, hq]

variable (s q)

theorem State.hwdrop_pushDropped : (s.pushDropped q).f (F.HQ_DROP.HWDROP q) =
    wrapAdd ((F.HQ_DROP.HWDROP q).hi + 1 - (F.HQ_DROP.HWDROP q).lo) (s.f (F.HQ_DROP.HWDROP q)) 1 := by
  have hne : R.HQ_DROP q ≠ R.HQ_STAT q := by
    unfold R.HQ_DROP R.HQ_STAT
    omega
  exact (State.f_setB_apart _ _ _ _ (.inl hne)).trans (s.f_incF_same _ 1 (by decide : 15 < 32))

theorem State.ovf_pushDropped : (s.pushDropped q).fb (F.HQ_STAT.OVF q) = true :=
  State.fb_setB_same _ _ true rfl (by decide : 30 < 32)

theorem State.onlyRegs_pushDropped : OnlyRegs [R.HQ_DROP q, R.HQ_STAT q] s (s.pushDropped q) :=
  (OnlyRegs.refl.setF (x := F.HQ_DROP.HWDROP q) List.mem_cons_self).setB (List.mem_cons_of_mem _ List.mem_cons_self)

end

/-- Settles O22: a push meets room or a full queue, and a pop an entry or none. -/
theorem hardwareQueueEnds : Obligations.HardwareQueueEnds := by
  refine ⟨fun s q e hp hon => ⟨fun hroom => ?_, fun hfull => ?_⟩, fun s q hc hon => ⟨fun hq => ?_, fun e l hq => ?_⟩⟩
  · exact .intro rfl (State.hardwarePush_of_room hp hon hroom)
      ⟨s.queue_setQueue_same _, fun r hr => s.queue_setQueue_ne _ hr, rfl⟩
  · exact .intro rfl (State.hardwarePush_of_full hp hon hfull)
      ⟨fun _ => rfl, s.hwdrop_pushDropped q, s.ovf_pushDropped q, s.onlyRegs_pushDropped q⟩
  · exact congrArg Host.Outcome.next (State.hardwarePop_of_empty hc hon hq)
  · exact .intro rfl (State.hardwarePop_of_entry hc hon hq)
      ⟨rfl, s.queue_setQueue_same l, fun r hr => s.queue_setQueue_ne l hr, fun _ => rfl⟩

/-! ## Semaphores, flushes and thresholds (08 R257, R271, R272) -/

section
variable {s : State} {req : Requester} {n q : Nat}

theorem reqIdx_lt (req : Requester) : reqIdx req < 16 := by cases req <;> decide

/-- A word shown on a bus of two words. -/
theorem setWidth_wN {v : Nat} (h : v < 2 ^ 32) : (wN v).setWidth 64 = BitVec.ofNat 64 v :=
  BitVec.setWidth_ofNat_of_le_of_lt (by decide) h

theorem State.owner_lt (s : State) (n : Nat) : s.f (F.HQ_SEM.OWNER n) < 16 := fld_lt _ 3 0

theorem State.semAcquire_of_free (hon : s.on 3 = true) (hfree : s.f (F.HQ_SEM.OWNER n) = 15)
    (huser : semUser req = true) : s.semAcquire req n =
      { s.setF (F.HQ_SEM.OWNER n) (reqIdx req) with busOut := BitVec.ofNat 64 (0xC0000000 + reqIdx req) } := by
  have hidx := reqIdx_lt req
  rw [← setWidth_wN (by omega)]
  simp only [State.semAcquire, State.semRead, if_pos hon, if_pos hfree, if_pos huser]

theorem State.semAcquire_of_held (hon : s.on 3 = true) (hheld : s.f (F.HQ_SEM.OWNER n) ≠ 15) :
    s.semAcquire req n = { s with busOut := BitVec.ofNat 64 (0x40000000 + s.f (F.HQ_SEM.OWNER n)) } := by
  have howner := s.owner_lt n
  rw [← setWidth_wN (by omega)]
  simp only [State.semAcquire, State.semRead, if_pos hon, if_neg hheld]

theorem State.semRelease_of_owner (hon : s.on 3 = true) (h : s.f (F.HQ_SEM.OWNER n) = reqIdx req) :
    s.semRelease req n = s.setF (F.HQ_SEM.OWNER n) 15 := by
  rw [State.semRelease, if_pos hon, if_pos h]

theorem State.semRelease_of_other (hon : s.on 3 = true) (h : s.f (F.HQ_SEM.OWNER n) ≠ reqIdx req) :
    s.semRelease req n = s.incF F.HQ_SEMREJ.SEMREJ 1 := by
  rw [State.semRelease, if_pos hon, if_neg h]

theorem State.owner_setF {v : Nat} (hv : v < 16) : (s.setF (F.HQ_SEM.OWNER n) v).f (F.HQ_SEM.OWNER n) = v :=
  (s.f_setF_same _ v (by decide : 3 < 32)).trans (Nat.mod_eq_of_lt hv)

/-- The count of rejected writes stands in a register of its own. -/
theorem State.owner_incF_semrej (m : Nat) :
    (s.incF F.HQ_SEMREJ.SEMREJ 1).f (F.HQ_SEM.OWNER m) = s.f (F.HQ_SEM.OWNER m) := by
  have hne : R.HQ_SEM m ≠ R.HQ_SEMREJ := by
    unfold R.HQ_SEM R.HQ_SEMREJ
    omega
  exact State.f_setF_apart s _ _ _ (.inl hne)

theorem State.queueFlush_of_on (hon : s.on 3 = true) : s.queueFlush q = s.setQueue q [] := if_pos hon

/-- Interrupt source 16 + q is the threshold condition of a queue q that runs (08 R259, R271). -/
theorem State.asserted_queue (hq : q < 32) (hon : s.qOn q = true) : s.asserted (16 + q) = s.qCond q := by
  unfold State.asserted
  rw [if_neg (by omega), if_neg (by omega), if_neg (by omega), if_neg (by omega), if_neg (by omega), if_neg (by omega),
    if_neg (by omega), if_neg (by omega), if_pos (by omega), Nat.add_sub_cancel_left, hon, Bool.true_and]

theorem State.qCond_iff : s.qCond q = true ↔
    if s.fb (F.HQ_THR.DIR q) then (s.queue q).length ≤ s.f (F.HQ_THR.WM q)
    else s.f (F.HQ_THR.WM q) ≤ (s.queue q).length := by
  unfold State.qCond
  split <;> exact decide_eq_true_iff

end

/-- Settles O23: an acquire looks at OWNER, a release compares it with the requester, and the source of a queue is its
threshold condition. -/
theorem semaphoresFlushesAndThresholds : Obligations.SemaphoresFlushesAndThresholds := by
  refine ⟨fun s req n hon => ⟨fun hfree huser => ?_, fun hheld => ?_⟩,
    fun s req n hon => ⟨fun howner => ?_, fun hother => ?_⟩, fun s q hon => ?_, fun s q hon => ?_⟩
  · exact .intro rfl (State.semAcquire_of_free hon hfree huser)
      ⟨State.owner_setF (reqIdx_lt req), rfl, fun a ha => s.reg_setF_ne _ _ (List.ne_of_not_mem_cons ha), fun _ => rfl⟩
  · exact .intro rfl (State.semAcquire_of_held hon hheld) ⟨rfl, fun _ => rfl, fun _ => rfl⟩
  · exact .intro rfl (State.semRelease_of_owner hon howner)
      ⟨State.owner_setF (by decide), OnlyRegs.refl.setF List.mem_cons_self⟩
  · exact .intro rfl (State.semRelease_of_other hon hother)
      ⟨fun m => State.owner_incF_semrej m, s.f_incF_same _ 1 (by decide), onlyRegs_incF s _ 1⟩
  · exact .intro rfl (State.queueFlush_of_on hon)
      ⟨s.queue_setQueue_same [], fun r hr => s.queue_setQueue_ne [] hr, rfl⟩
  · rw [State.asserted_queue q.isLt hon]
    exact State.qCond_iff

end Sys2Proof.Machine

/-! The accesses of the host port, and writes and reads of registers (00 R12; 08 R256; 16 R462, R467, R469). -/

namespace Sys2Proof.Machine

/-! ## Where the registers of the host lie -/

theorem regionOf_of_periph {a : Nat} (hlo : 0x40000000 ≤ a) (hhi : a < 0x40110000) : regionOf a = .periph := by
  have hpast : ∀ b, b ≤ 0x40000000 → ¬ a < b := fun b hb => by omega
  simp [regionOf, hpast, hhi]

/-- What the host may write in NORMAL lies in the peripheral windows. -/
theorem regionOf_of_hostNormalReg {a : Nat} (h : hostNormalReg a = true) : regionOf a = .periph := by
  unfold hostNormalReg at h
  rcases Bool.or_eq_true_iff.1 h with h | h
  · have hmem := List.contains_iff_mem.1 h
    have hall : ∀ b ∈ [R.SYSC_PCMD, R.SYSC_AUTH, R.SYSC_MODE, R.SYSC_WAKE, R.SYSC_WAKEEN, R.SYSC_ALARM, R.SYSC_RESET,
        R.CAN_WAKESTAT, R.HPD_DOORBELL, R.HPD_DBGCTL, R.TRU_REQ 1], regionOf b = .periph := by decide
    exact hall a hmem
  · unfold hit at h
    split at h
    next hrange =>
      obtain ⟨hlo, hhi, _⟩ := hrange
      unfold R.TRU_NONCE at hlo hhi
      exact regionOf_of_periph (by omega) (by omega)
    next => simp at h

theorem hostReads_iff {a : Nat} :
    hostReads a = true ↔ a % 4 = 0 ∧ regionOf a ∉ [Region.hole, .pool, .pairTcm, .flash] := by
  unfold hostReads
  cases regionOf a <;> simp

/-! ## An access outside the rules (16 R467, R469) -/

/-- A rejected access shows HERR and its address; a debug write counts in SYSC_MODE as well. -/
def HostRejected (s t : State) (a : Word) : Prop :=
  t.fb F.HPD_STATUS.HERR = true ∧ t.reg R.HPD_HERRADDR = a ∧
    SameRegsBut [R.HPD_STATUS, R.HPD_HERRADDR, R.SYSC_MODE] s t ∧ SameMem s t

section
variable (s : State) (a : Word)

theorem State.hostRejected_hostReject : HostRejected s (s.hostReject a.toNat) a := by
  refine ⟨?_, ?_, .setReg (.setB (.ofRegs rfl) (by decide)) (by decide), fun _ => rfl⟩
  · exact (State.fb_setReg_ne _ _ _ F.HPD_STATUS.HERR (by decide)).trans (s.fb_setB_same _ true rfl (by decide))
  · exact (State.reg_setReg_same _ _ _).trans ((BitVec.ofNat_toNat 32 a).trans (BitVec.setWidth_eq a))

variable {s a}

theorem HostRejected.counted {t : State} (h : HostRejected s t a) : HostRejected s (t.incF F.SYSC_MODE.DBGREJ 1) a := by
  obtain ⟨hherr, haddr, hregs, hmem⟩ := h
  refine ⟨?_, ?_, hregs.setF (by decide), hmem⟩
  · exact (State.fb_setF_apart t _ _ _ (by decide)).trans hherr
  · exact (t.reg_setF_ne _ _ (by decide)).trans haddr

end

/-! ## Reads of a register keep the memory -/

section
variable (s : State) (req : Requester) (a : Nat)

theorem State.mem_semRead (n : Nat) : (s.semRead req n).1.mem = s.mem := by
  unfold State.semRead
  dsimp only
  split_ifs <;> rfl

theorem State.mem_tsinfoRead (m : Nat) : (s.tsinfoRead m).1.mem = s.mem := by
  unfold State.tsinfoRead State.modMac
  dsimp only
  split
  · rfl
  · split_ifs <;> rfl

/-- What a read changes, it changes beside the memory. -/
theorem State.gives_mem_hookRead : Gives (fun x : State × Word => x.1.mem = s.mem) (s.hookRead req a) :=
  .orElse (.one rfl) <| .orElse (.one rfl) <| .orElse (.one rfl) <| .orElse (.one rfl) <| .orElse (.one rfl) <|
  .orElse (.one rfl) <| .orElse (.hit fun _ => rfl) <| .orElse (.hit fun _ => rfl) <| .orElse (.hit fun _ => rfl) <|
  .orElse (.hit fun _ => rfl) <| .orElse (.hit fun _ => rfl) <| .orElse (.hit fun n => s.mem_semRead req n) <|
  .orElse (.one rfl) <| .orElse (.one rfl) <| .orElse (.one rfl) <| .orElse (.one rfl) <| .orElse (.one rfl) <|
  .orElse (.one rfl) <| .orElse (.one rfl) <| .orElse (.hit fun _ => rfl) <|
  .orElse (.hit fun m => s.mem_tsinfoRead m) <| .orElse (.hit fun _ => rfl) <| .orElse (.hit fun _ => rfl) <|
  .hit fun _ => rfl

theorem State.mem_regRead : (s.regRead req a).1.mem = s.mem := by
  unfold State.regRead
  split
  · split
    · cases h : s.hookRead req a with
      | none => rfl
      | some x => exact s.gives_mem_hookRead req a x h
    · rfl
  · rfl

end

/-! ## HP_READ (16 R462, R469) -/

section
variable {s : State} {a : Word}

theorem State.hpRead_of_pd3_off {late : Bool} (h0 : s.on 0 = true) (h3 : s.on 3 = false)
    (hreg : bedrockReg a.toNat = false) : s.hpRead a late = { s with busOut := 0 } := by
  simp [State.hpRead, h0, h3, hreg]

variable (h0 : s.on 0 = true) (h3 : s.on 3 = true)
include h0 h3

theorem State.hpRead_of_late : s.hpRead a true =
    { (s.setB F.HPD_STATUS.HERR true).setB F.HPD_STATUS.LATE true with busOut := 0 } := by
  simp [State.hpRead, h0, h3]

theorem State.hpRead_of_rejected (h : hostReads a.toNat = false) :
    s.hpRead a false = { s.hostReject a.toNat with busOut := 0 } := by
  simp [State.hpRead, h0, h3, h]

theorem State.hpRead_of_periph (h : hostReads a.toNat = true) (hreg : regionOf a.toNat = .periph) :
    s.hpRead a false =
      { (s.regRead .host a.toNat).1 with busOut := (s.regView .host a.toNat).setWidth 64 } := by
  simp [State.hpRead, State.regView, h0, h3, h, hreg]

theorem State.hpRead_of_memory (h : hostReads a.toNat = true) (hreg : regionOf a.toNat ≠ .periph)
    (hon : s.memOn (regionOf a.toNat) = true) (hgood : s.isBad a.toNat = false) :
    s.hpRead a false = { s with busOut := (s.ldw a.toNat).setWidth 64 } := by
  simp [State.hpRead, h0, h3, h, hreg, hon, hgood]

end

/-! ## HP_WRITE (16 R467, R469) -/

section
variable {s : State} {a v : Word} (h0 : s.on 0 = true) (h3 : s.on 3 = true)
include h0 h3

theorem State.hpWrite_of_misaligned (h : a.toNat % 4 ≠ 0) : s.hpWrite a v = s.hostReject a.toNat := by
  simp [State.hpWrite, h0, h3, h]

theorem State.hpWrite_of_normalReg (h : a.toNat % 4 = 0) (hreg : hostNormalReg a.toNat = true) :
    s.hpWrite a v = s.regWrite .host a.toNat v := by
  simp [State.hpWrite, h0, h3, h, hreg]

theorem State.hpWrite_of_normal (h : a.toNat % 4 = 0) (hreg : hostNormalReg a.toNat = false)
    (hmode : s.commission = false) : s.hpWrite a v =
      if s.fb F.SYSC_MODE.DBGATT then (s.hostReject a.toNat).incF F.SYSC_MODE.DBGREJ 1 else s.hostReject a.toNat := by
  simp [State.hpWrite, h0, h3, h, hreg, hmode]

/-- A write that the rules do not admit is rejected, with or without a debugger. -/
theorem State.hostRejected_hpWrite
    (h : a.toNat % 4 ≠ 0 ∨ (hostNormalReg a.toNat = false ∧ s.commission = false)) :
    HostRejected s (s.hpWrite a v) a := by
  by_cases halign : a.toNat % 4 = 0
  · obtain ⟨hreg, hmode⟩ := h.resolve_left (not_not.2 halign)
    rw [State.hpWrite_of_normal h0 h3 halign hreg hmode]
    split
    · exact (s.hostRejected_hostReject a).counted
    · exact s.hostRejected_hostReject a
  · rw [State.hpWrite_of_misaligned h0 h3 halign]
    exact s.hostRejected_hostReject a

/-- The host stores a word of SRAM as core 0 does. -/
theorem State.hpWrite_of_sram (h : a.toNat % 4 = 0) (hmode : s.commission = true) (hsram : regionOf a.toNat = .sram) :
    s.hpWrite a v = s.store a.toNat v := by
  have hreg : hostNormalReg a.toNat = false := by
    rw [Bool.eq_false_iff]
    intro hreg
    simp [regionOf_of_hostNormalReg hreg] at hsram
  have hon : s.memOn (regionOf a.toNat) = true := by
    rw [hsram]
    exact h3
  have hplain : PlainWrite s 0 a.toNat := ⟨hon, .inl hsram⟩
  have hstore : s.storeN a.toNat 4 v = s.store a.toNat v := by
    unfold State.storeN
    rw [show a.toNat / 4 * 4 = a.toNat by omega]
    rfl
  simp [State.hpWrite, h0, h3, h, hreg, hmode, hsram, State.writeAs_of_plain hplain h, hstore]

end

/-! ## REGISTER_WRITE of an address (00 R12; 08 R256) -/

section
variable {s : State} {req : Requester} {a : Nat} {r : RegRow} {v : Word}

theorem exec_registerWrite_addr (hlive : s.live = true) (hreq : req ≠ .host) :
    exec (.registerWrite req (.addr a) v) s = .next (s.regWrite req a v) := by
  have h : s.registerWrite req (.addr a) v = s.regWrite req a v := by
    unfold State.registerWrite
    split
    next => exact absurd rfl hreq
    next => exact if_pos hlive
  exact congrArg Host.Outcome.next h

theorem State.regWrite_of_none (hrow : regRow? a = none) : s.regWrite req a v = s := by
  rw [State.regWrite, hrow]

theorem State.regRead_of_none (hrow : regRow? a = none) : s.regRead req a = (s, 0) := by
  rw [State.regRead, hrow]

theorem State.regWrite_of_off (hrow : regRow? a = some r) (hoff : s.on r.dom = false) : s.regWrite req a v = s := by
  rw [State.regWrite, hrow]
  exact if_neg (by simp [hoff])

theorem State.regWrite_of_plain (hrow : regRow? a = some r) (hon : s.on r.dom = true)
    (hhook : s.hookWrite req a v = none) : s.regWrite req a v = s.plainWrite r a (s.rwlLocked a) v := by
  rw [State.regWrite, hrow, hhook]
  exact if_pos hon

/-- Bit by bit: W1C bits written 1 clear, the writable ones take the value, and the rest stay. -/
theorem State.bit_plainWrite (locked : Bool) {i : Nat} (hi : i < 32) :
    ((s.plainWrite r a locked v).reg a).getLsbD i =
      if (r.w1c.getLsbD i && v.getLsbD i) = true then false
      else if (r.rw.getLsbD i || (r.rwl.getLsbD i && !locked)) = true then v.getLsbD i
      else (s.reg a).getLsbD i := by
  have hmask : (if locked then r.rw else r.rw ||| r.rwl).getLsbD i =
      (r.rw.getLsbD i || (r.rwl.getLsbD i && !locked)) := by cases locked <;> simp
  simp only [State.plainWrite, State.reg_setReg_same, BitVec.getLsbD_and, BitVec.getLsbD_or, BitVec.getLsbD_not, hi,
    hmask, decide_true, Bool.true_and, Bool.and_comm (v.getLsbD i) (r.w1c.getLsbD i)]
  cases r.w1c.getLsbD i && v.getLsbD i
  · cases r.rw.getLsbD i || (r.rwl.getLsbD i && !locked) <;> simp
  · simp

end

/-- Settles O52: each access by the case of the rules that it meets. -/
theorem hostPortAccessRules : Obligations.HostPortAccessRules := by
  refine ⟨fun s a late h0 h3 hreg => .intro rfl (State.hpRead_of_pd3_off h0 h3 hreg) rfl, fun s a h0 h3 => ?_,
    fun s a h0 h3 => ⟨fun hout => ?_, fun halign hreg hon hgood => ?_, fun halign hreg => ?_⟩,
    fun s a v h0 h3 => ⟨fun hout => ⟨_, rfl, State.hostRejected_hpWrite h0 h3 hout⟩,
      fun halign hreg => congrArg Host.Outcome.next (State.hpWrite_of_normalReg h0 h3 halign hreg),
      fun hmode halign hsram => ?_⟩,
    fun s req a r v hlive hreq hrow => ?_, fun s req a v hlive hreq hrow => ?_⟩
  · have hherr : ((s.setB F.HPD_STATUS.HERR true).setB F.HPD_STATUS.LATE true).fb F.HPD_STATUS.HERR = true :=
      (State.fb_setB_apart _ _ _ true (by decide)).trans (s.fb_setB_same _ true rfl (by decide))
    have hregs : SameRegsBut [R.HPD_STATUS] s ((s.setB F.HPD_STATUS.HERR true).setB F.HPD_STATUS.LATE true) :=
      .setB (.setB (.ofRegs rfl) List.mem_cons_self) List.mem_cons_self
    exact .intro rfl (State.hpRead_of_late h0 h3)
      ⟨rfl, hherr, State.fb_setB_same _ F.HPD_STATUS.LATE true rfl (by decide), hregs, fun _ => rfl⟩
  · have hno : hostReads a.toNat = false := by
      rw [Bool.eq_false_iff, ne_eq, hostReads_iff]
      rintro ⟨halign, hreg⟩
      exact hout.elim (· halign) hreg
    exact .intro rfl (State.hpRead_of_rejected h0 h3 hno) ⟨rfl, s.hostRejected_hostReject a⟩
  · simp only [List.mem_cons, not_or] at hreg
    obtain ⟨hhole, hpool, hpair, hflash, hperiph, _⟩ := hreg
    have hreads : hostReads a.toNat = true := hostReads_iff.2 ⟨halign, by simp [hhole, hpool, hpair, hflash]⟩
    exact .intro rfl (State.hpRead_of_memory h0 h3 hreads hperiph hon hgood) rfl
  · have hreads : hostReads a.toNat = true := hostReads_iff.2 ⟨halign, by simp [hreg]⟩
    exact .intro rfl (State.hpRead_of_periph h0 h3 hreads hreg) ⟨rfl, State.ldb_congr (s.mem_regRead .host a.toNat)⟩
  · exact .intro rfl (State.hpWrite_of_sram h0 h3 halign hmode hsram)
      ⟨s.ldw_store_same v, fun b hb => s.ldb_store_ne v hb, fun b => s.reg_store v b⟩
  · rw [exec_registerWrite_addr hlive hreq]
    refine ⟨fun hoff => ?_, fun hon hhook => ⟨_, exec_registerWrite_addr hlive hreq, ?_⟩⟩
    · rw [State.regWrite_of_off hrow hoff]
    · rw [State.regWrite_of_plain hrow hon hhook]
      exact ⟨fun i hi => State.bit_plainWrite _ hi, OnlyRegs.refl.setReg List.mem_cons_self⟩
  · rw [exec_registerWrite_addr hlive hreq, State.regWrite_of_none hrow]
    exact ⟨rfl, State.regRead_of_none hrow⟩

end Sys2Proof.Machine

/-! Safety messages (13 R395 to R399; 09 R286). First what a stop, a record, a raised source and a demand leave of the
windows, of stack time and of the fields of the Safety unit; then the arrival of a copy, the close of a window and the
silence of a followed sender. -/

namespace Sys2Proof.Machine

/-! ## What the handling of safety messages leaves -/

/-- A write of field `x` leaves field `y`: another register, or other bits of it. -/
abbrev Field.Apart (y x : Field) : Prop := y.addr ≠ x.addr ∨ y.hi < x.lo ∨ x.hi < y.lo

/-- The whole of SFU_FRCNT. -/
abbrev frcntWord : Field := ⟨R.SFU_FRCNT, 31, 0⟩

/-- From `s` to `t` the time, the windows, the silent senders and the listed fields stay. -/
structure State.KeepsSafety (l : List Field) (s t : State) : Prop where
  tm : t.tm = s.tm
  windows : t.sfu.windows = s.sfu.windows
  silent : t.sfu.silent = s.sfu.silent
  field : ∀ y ∈ l, t.f y = s.f y

section
variable {l : List Field} {s₀ s t : State}

theorem State.KeepsSafety.refl : KeepsSafety l s s := ⟨rfl, rfl, rfl, fun _ _ => rfl⟩

theorem State.KeepsSafety.trans (h : KeepsSafety l s₀ s) (h' : KeepsSafety l s t) : KeepsSafety l s₀ t :=
  ⟨h'.tm.trans h.tm, h'.windows.trans h.windows, h'.silent.trans h.silent,
    fun y hy => (h'.field y hy).trans (h.field y hy)⟩

theorem State.KeepsSafety.mono {k : List Field} (h : KeepsSafety l s t) (hk : ∀ y ∈ k, y ∈ l) : KeepsSafety k s t :=
  ⟨h.tm, h.windows, h.silent, fun y hy => h.field y (hk y hy)⟩

/-- A one-bit field that is kept reads the same. -/
theorem State.KeepsSafety.fb {x : Field} (h : KeepsSafety l s t) (hx : x ∈ l) (hbit : x.hi = x.lo) :
    t.fb x = s.fb x := by
  have hf := congrArg (·.testBit 0) (h.field x hx)
  simpa only [State.f, State.fb, hbit, testBit_fld_bit] using hf

/-- A register whose 32 bits are kept reads the same. -/
theorem State.KeepsSafety.reg {a : Nat} (h : KeepsSafety l s t) (hx : ⟨a, 31, 0⟩ ∈ l) : t.reg a = s.reg a := by
  have hword : ∀ w : Word, fld w 31 0 = w.toNat := fun w => by
    rw [fld, pow_zero, Nat.div_one]
    exact Nat.mod_eq_of_lt w.isLt
  exact BitVec.eq_of_toNat_eq ((hword _).symm.trans ((h.field _ hx).trans (hword _)))

/-- An update of other parts of the state. -/
theorem State.KeepsSafety.update (h : KeepsSafety l s₀ s) (hregs : t.regs = s.regs) (htm : t.tm = s.tm)
    (hwin : t.sfu.windows = s.sfu.windows) (hsilent : t.sfu.silent = s.sfu.silent) : KeepsSafety l s₀ t :=
  h.trans ⟨htm, hwin, hsilent, fun y _ => State.f_congr hregs y⟩

theorem State.KeepsSafety.ite {c : Prop} [Decidable c] (hs : KeepsSafety l s₀ s) (ht : KeepsSafety l s₀ t) :
    KeepsSafety l s₀ (if c then s else t) := by
  split
  · exact hs
  · exact ht

theorem State.KeepsSafety.forAll {α : Type} {xs : List α} {f : State → α → State} (h : KeepsSafety l s₀ s)
    (hf : ∀ u x, KeepsSafety l s₀ u → KeepsSafety l s₀ (f u x)) : KeepsSafety l s₀ (s.forAll xs f) :=
  State.forAll_keeps _ xs f s h fun u x _ => hf u x

theorem State.KeepsSafety.setReg {a : Nat} {v : Word} (h : KeepsSafety l s₀ s) (ha : ∀ y ∈ l, y.addr ≠ a) :
    KeepsSafety l s₀ (s.setReg a v) :=
  h.trans ⟨rfl, rfl, rfl, fun y hy => State.f_setReg_ne s a v y (ha y hy)⟩

theorem State.KeepsSafety.setF {x : Field} {v : Nat} (h : KeepsSafety l s₀ s) (hx : ∀ y ∈ l, y.Apart x) :
    KeepsSafety l s₀ (s.setF x v) :=
  h.trans ⟨rfl, rfl, rfl, fun y hy => State.f_setF_apart s x y v (hx y hy)⟩

theorem State.KeepsSafety.setB {x : Field} {b : Bool} (h : KeepsSafety l s₀ s) (hx : ∀ y ∈ l, y.Apart x) :
    KeepsSafety l s₀ (s.setB x b) := h.setF hx

theorem State.KeepsSafety.incF {x : Field} {d : Nat} (h : KeepsSafety l s₀ s) (hx : ∀ y ∈ l, y.Apart x) :
    KeepsSafety l s₀ (s.incF x d) := h.setF hx

theorem State.KeepsSafety.satF {x : Field} {d : Nat} (h : KeepsSafety l s₀ s) (hx : ∀ y ∈ l, y.Apart x) :
    KeepsSafety l s₀ (s.satF x d) := h.setF hx

/-- A record enters the input buffer of the Ledger, or counts in FCU_LDGLOST. -/
theorem State.KeepsSafety.record {block src code data : Nat} (h : KeepsSafety l s₀ s)
    (hl : ∀ y ∈ l, y.addr ≠ R.FCU_LDGLOST) : KeepsSafety l s₀ (s.record block src code data) :=
  .ite (.ite (h.update rfl rfl rfl rfl) <| h.incF fun y hy => .inl (hl y hy)) h

theorem State.KeepsSafety.note {block code data : Nat} (h : KeepsSafety l s₀ s)
    (hl : ∀ y ∈ l, y.addr ≠ R.FCU_LDGLOST) : KeepsSafety l s₀ (s.note block code data) := h.record hl

end

/-! ## A stop by SF1, and pulse tests aborted (13 R378, R393) -/

/-- The fields of the Safety unit and of the Fault Collector that a stop leaves. -/
abbrev stopFields : List Field :=
  [frcntWord, fswField 28, F.SFU_STATUS.PATHDEG, F.SFU_STATUS.HELD, F.SFU_STATUS.SAFE]

section
variable {s₀ s : State}

theorem stopFields_below {y : Field} (hy : y ∈ stopFields) : y.addr ≤ R.SFU_FRCNT := by
  revert y
  decide

/-- The registers that a stop writes stand above SFU_FRCNT. -/
theorem State.KeepsSafety.setF_above {x : Field} {v : Nat} (h : KeepsSafety stopFields s₀ s)
    (hx : R.SFU_FRCNT < x.addr) : KeepsSafety stopFields s₀ (s.setF x v) :=
  h.setF fun _ hy => .inl (Nat.ne_of_lt (Nat.lt_of_le_of_lt (stopFields_below hy) hx))

theorem frcnt_lt_brpStat (c : Nat) : R.SFU_FRCNT < R.BRP_STAT c := by unfold R.SFU_FRCNT R.BRP_STAT; omega
theorem frcnt_lt_brpCarry (c : Nat) : R.SFU_FRCNT < R.BRP_CARRY c := by unfold R.SFU_FRCNT R.BRP_CARRY; omega
theorem frcnt_lt_lnkCmd (i : Nat) : R.SFU_FRCNT < R.LNK_CMD i := by unfold R.SFU_FRCNT R.LNK_CMD; omega
theorem frcnt_lt_sfuPtstat (o : Nat) : R.SFU_FRCNT < R.SFU_PTSTAT o := by unfold R.SFU_FRCNT R.SFU_PTSTAT; omega

theorem State.KeepsSafety.gateNow {c : Nat} {hi on : Bool} (h : KeepsSafety stopFields s₀ s) :
    KeepsSafety stopFields s₀ (s.gateNow c hi on) := by
  unfold State.gateNow
  extract_lets x n y z t
  have ht : KeepsSafety stopFields s₀ t := h.update rfl rfl rfl rfl
  refine .ite h <| .ite ?_ ht
  have hblank : KeepsSafety stopFields s₀ (t.forAll ((List.range 8).filter fun i => t.fb (F.BRP_TRIP.TMREN i) &&
      decide (t.f (F.BRP_TRIP.TMR i) = c)) fun u i => u.setBlank i (some (u.now + u.f (F.BRP_TRIP.BLANK i)))) :=
    .forAll ht fun _ _ hu => hu.update rfl rfl rfl rfl
  exact (hblank.setF_above (by decide)).setF_above (by decide)

theorem State.KeepsSafety.gatesOff {c : Nat} {drop : Bool} (h : KeepsSafety stopFields s₀ s) :
    KeepsSafety stopFields s₀ (s.gatesOff c drop) := by
  unfold State.gatesOff
  extract_lets t
  have ht : KeepsSafety stopFields s₀ t := h.gateNow.gateNow
  exact .ite (ht.update rfl rfl rfl rfl) ht

theorem State.KeepsSafety.gqAbort {c : Nat} (h : KeepsSafety stopFields s₀ s) :
    KeepsSafety stopFields s₀ (s.gqAbort c) := by
  unfold State.gqAbort
  split
  · refine .ite (.update (.gatesOff ?_) rfl rfl rfl rfl) h
    exact ((h.setF_above (by decide)).setF_above (by decide)).setF_above (by decide)
  · exact h

theorem State.KeepsSafety.hardStop {sf1 : Bool} (h : KeepsSafety stopFields s₀ s) :
    KeepsSafety stopFields s₀ (s.hardStop sf1) := by
  refine .ite (.forAll h fun u c hu => ?_) h
  extract_lets u' v w
  have hstat {x : State} {f : Field} {n : Nat} (hf : f.addr = R.BRP_STAT c) (hx : KeepsSafety stopFields s₀ x) :
      KeepsSafety stopFields s₀ (x.setF f n) := hx.setF_above (hf ▸ frcnt_lt_brpStat c)
  have hu' : KeepsSafety stopFields s₀ u' := hu.gqAbort.gatesOff.setReg fun _ hy =>
    Nat.ne_of_lt (Nat.lt_of_le_of_lt (stopFields_below hy) (frcnt_lt_brpCarry c))
  have hv : KeepsSafety stopFields s₀ v := hstat rfl <| hstat rfl <| hstat rfl <| hstat rfl hu'
  have hw : KeepsSafety stopFields s₀ w := .ite (hstat rfl hv) hv
  exact hw.update rfl rfl rfl rfl

theorem State.KeepsSafety.sf1Act (h : KeepsSafety stopFields s₀ s) : KeepsSafety stopFields s₀ s.sf1Act := by
  unfold State.sf1Act
  extract_lets t u __src _ v
  have ht : KeepsSafety stopFields s₀ t := .hardStop <| .forAll h fun _ _ hu => hu.update rfl rfl rfl rfl
  have hu : KeepsSafety stopFields s₀ u := .ite (.forAll ht fun _ _ hx => hx.update rfl rfl rfl rfl) ht
  have hv : KeepsSafety stopFields s₀ v := .ite (.update (hu.setF_above (by decide)) rfl rfl rfl rfl) hu
  exact .forAll hv fun _ i hx => .update (hx.setF_above (frcnt_lt_lnkCmd i)) rfl rfl rfl rfl

theorem State.KeepsSafety.ptAbort {o : Nat} (h : KeepsSafety stopFields s₀ s) :
    KeepsSafety stopFields s₀ (s.ptAbort o) := by
  have hstat := frcnt_lt_sfuPtstat o
  exact .ite (.update ((h.setF_above hstat).setF_above hstat) rfl rfl rfl rfl) h

end

/-! ## Demands (13 R376, R381, R382) -/

/-- The fields that a demand leaves. -/
abbrev demandFields : List Field := [frcntWord, fswField 28, F.SFU_STATUS.PATHDEG]

section
variable {s₀ s : State}

/-- The words of SFU_STATUS and SFU_CAUSE as a demand of the functions `f` writes them. -/
def State.demandShown (s : State) (f cause pos : Nat) (safe : Bool) : State :=
  let t := s.setF F.SFU_STATUS.HELD (s.held ||| f)
  let u := if t.f F.SFU_CAUSE.CAUSE = 0 then
      (t.setF F.SFU_CAUSE.CAUSE cause).setF F.SFU_CAUSE.POS (if cause = 5 ∨ cause = 7 then pos else 0)
    else t
  if safe then u.setB F.SFU_STATUS.SAFE true else u

/-- After its words are shown, a demand writes its record, aborts tests and stops: none of these touches SFU_STATUS. -/
theorem State.keepsSafety_demand_shown {m cause pos : Nat} {safe : Bool} (hf : s.demandFuncs m ≠ 0) :
    KeepsSafety stopFields (s.demandShown (s.demandFuncs m) cause pos safe) (s.demand m cause pos safe) := by
  unfold State.demand
  rw [if_neg hf]
  extract_lets t u v w
  have hv : KeepsSafety stopFields (s.demandShown (s.demandFuncs m) cause pos safe) v :=
    KeepsSafety.refl.note (by decide)
  have hw : KeepsSafety stopFields (s.demandShown (s.demandFuncs m) cause pos safe) w :=
    .forAll hv fun _ _ hx => hx.ptAbort
  exact .ite hw.sf1Act hw

theorem State.KeepsSafety.demandShown {f cause pos : Nat} {safe : Bool} (h : KeepsSafety demandFields s₀ s) :
    KeepsSafety demandFields s₀ (s.demandShown f cause pos safe) := by
  unfold State.demandShown
  extract_lets t u
  have ht : KeepsSafety demandFields s₀ t := h.setF (by decide)
  have hu : KeepsSafety demandFields s₀ u := .ite ((ht.setF (by decide)).setF (by decide)) ht
  exact .ite (hu.setB (by decide)) hu

theorem State.KeepsSafety.demand {m cause pos : Nat} {safe : Bool} (h : KeepsSafety demandFields s₀ s) :
    KeepsSafety demandFields s₀ (s.demand m cause pos safe) := by
  by_cases hf : s.demandFuncs m = 0
  · unfold State.demand
    rwa [if_pos hf]
  · exact h.demandShown.trans ((s.keepsSafety_demand_shown hf).mono (by decide))

theorem State.KeepsSafety.showDem (h : KeepsSafety demandFields s₀ s) : KeepsSafety demandFields s₀ s.showDem :=
  h.setF (by decide)

theorem State.KeepsSafety.demandLevel {m cause pos : Nat} {safe : Bool} (h : KeepsSafety demandFields s₀ s) :
    KeepsSafety demandFields s₀ (s.demandLevel m cause pos safe) :=
  .ite h <| .ite h <| .demand <| .showDem <| h.update rfl rfl rfl rfl

theorem State.KeepsSafety.demandEnd {cause pos : Nat} (h : KeepsSafety demandFields s₀ s) :
    KeepsSafety demandFields s₀ (s.demandEnd cause pos) := .showDem <| h.update rfl rfl rfl rfl

/-! ### The functions that a demand holds -/

theorem State.demandFuncs_congr {t : State} (h : t.regs = s.regs) (m : Nat) : t.demandFuncs m = s.demandFuncs m := by
  unfold State.demandFuncs
  rw [State.f_congr h, State.f_congr h]

/-- SF1 and SF2 pass the mask of the functions in use, whatever EN selects. -/
theorem and_enabled (m e : Nat) (hm : m &&& 3 = m) : m &&& (e ||| 3) &&& 15 = m := by
  have h3 : m ≤ 3 := hm ▸ Nat.and_le_right
  have hself : m &&& (e ||| 3) = m := by
    apply Nat.eq_of_testBit_eq
    intro i
    have hbit := congrArg (·.testBit i) hm
    simp only [Nat.testBit_and, Nat.testBit_or] at hbit ⊢
    revert hbit
    cases m.testBit i <;> cases (3 : Nat).testBit i <;> simp
  rw [hself]
  exact Nat.and_two_pow_sub_one_of_lt_two_pow (n := 4) (by omega)

/-- SF1 is always in use: a demand of it brings SF1, and SF2 where TRIP selects it. -/
theorem State.demandFuncs_one : s.demandFuncs 1 = 1 ∨ s.demandFuncs 1 = 3 := by
  unfold State.demandFuncs
  extract_lets en trip u v
  have hv : v = 1 := by simp [v, u, en, and_enabled 1 _ rfl]
  rw [hv]
  by_cases h : 1 &&& trip ≠ 0
  · exact .inr (if_pos h)
  · exact .inl (if_neg h)

/-- SF1 and SF2 are always in use, and they demand no other function. -/
theorem State.demandFuncs_three : s.demandFuncs 3 = 3 := by
  unfold State.demandFuncs
  extract_lets en trip u v
  have hv : v = 3 := by simp [v, u, en, and_enabled 3 _ rfl]
  rw [hv]
  exact ite_self 3

theorem State.held_demandShown {f cause pos : Nat} {safe : Bool} (hf : f < 16) :
    (s.demandShown f cause pos safe).f F.SFU_STATUS.HELD = s.held ||| f := by
  have hheld : (s.setF F.SFU_STATUS.HELD (s.held ||| f)).f F.SFU_STATUS.HELD = s.held ||| f :=
    (State.f_setF_same s _ _ (by decide)).trans <| Nat.mod_eq_of_lt (Nat.or_lt_two_pow (fld_lt _ 23 20) hf)
  unfold State.demandShown
  extract_lets t u
  have hu : u.f F.SFU_STATUS.HELD = s.held ||| f := by
    by_cases hc : t.f F.SFU_CAUSE.CAUSE = 0
    · rw [show u = _ from if_pos hc, State.f_setF_apart _ _ _ _ (by decide), State.f_setF_apart _ _ _ _ (by decide)]
      exact hheld
    · rw [show u = _ from if_neg hc]
      exact hheld
  cases safe
  · exact hu
  · exact (State.f_setB_apart u _ _ _ (by decide)).trans hu

theorem State.held_demand {m cause pos : Nat} {safe : Bool} (hf : s.demandFuncs m ≠ 0) (hlt : s.demandFuncs m < 16) :
    (s.demand m cause pos safe).held = s.held ||| s.demandFuncs m :=
  ((s.keepsSafety_demand_shown hf).field F.SFU_STATUS.HELD (by decide)).trans (State.held_demandShown hlt)

theorem State.safe_demand {m cause pos : Nat} (hf : s.demandFuncs m ≠ 0) :
    (s.demand m cause pos true).fb F.SFU_STATUS.SAFE = true :=
  ((s.keepsSafety_demand_shown hf).fb (by decide) rfl).trans (State.fb_setB_same _ _ true rfl (by decide))

/-- A level source that is not live yet demands its functions. -/
theorem State.held_demandLevel {m cause pos : Nat} {safe : Bool} (hf : s.demandFuncs m ≠ 0) (hlt : s.demandFuncs m < 16)
    (hnew : (s.sfu.live.any fun x => x.cause == cause && x.pos == pos) = false) :
    (s.demandLevel m cause pos safe).held = s.held ||| s.demandFuncs m := by
  unfold State.demandLevel
  rw [if_neg (by simp [hnew]), if_neg hf]
  extract_lets _ t
  have hshow : t.showDem.demandFuncs m = s.demandFuncs m := by
    unfold State.demandFuncs State.showDem
    rw [State.f_setF_apart _ _ _ _ (by decide), State.f_setF_apart _ _ _ _ (by decide)]
    rfl
  have hheld : t.showDem.held = s.held := State.f_setF_apart _ _ _ _ (by decide)
  rw [State.held_demand (hshow ▸ hf) (hshow ▸ hlt), hshow, hheld]

end

/-! ## A source raised without a chip reset (12 R353, R357 to R361) -/

/-- The fields that a raised source leaves. -/
abbrev raiseFields : List Field := [frcntWord, F.SFU_STATUS.PATHDEG, F.SFU_STATUS.HELD]

/-- These, the reaction of the source and its FSW bit. -/
abbrev latchFields (src : Nat) : List Field := fswField src :: F.FCU_REACT.REACT src :: raiseFields

/-- The registers in which the Fault Collector latches and counts beside the source's own. -/
abbrev latchRegs : List Nat := [R.FCU_FSRC, R.FCU_FTIMELO, R.FCU_FTIMEHI, R.FCU_GRAVE, R.FCU_LDGLOST]

section
variable {s₀ s : State} {src : Nat}

theorem latchFields_ne {y : Field} {a : Nat} (hsrc : src < 64) (hy : y ∈ latchFields src) (ha : a ∈ latchRegs) :
    y.addr ≠ a :=
  have h : ∀ n < 64, ∀ x ∈ latchFields n, ∀ b ∈ latchRegs, x.addr ≠ b := by decide
  h src hsrc y hy a ha

theorem raiseFields_apart (hsrc : src < 64) :
    (∀ y ∈ F.FCU_REACT.REACT src :: raiseFields, y.Apart (F.FCU_REACT.COUNT src)) ∧
      ∀ y ∈ F.FCU_REACT.REACT src :: raiseFields, y.Apart (fswField src) := by
  revert hsrc
  revert src
  decide

theorem fswField_bit (src : Nat) : (fswField src).hi = (fswField src).lo := by
  unfold fswField
  split <;> rfl

theorem State.KeepsSafety.latchFirst (h : KeepsSafety (latchFields src) s₀ s) (hsrc : src < 64) :
    KeepsSafety (latchFields src) s₀ (s.latchFirst src) := by
  have hfsrc : ∀ y ∈ latchFields src, y.addr ≠ R.FCU_FSRC := fun y hy => latchFields_ne hsrc hy (by decide)
  have htime : ∀ y ∈ latchFields src, y.addr ≠ R.FCU_FTIMELO ∧ y.addr ≠ R.FCU_FTIMEHI := fun y hy =>
    ⟨latchFields_ne hsrc hy (by decide), latchFields_ne hsrc hy (by decide)⟩
  refine .ite (.satF (.setB h fun y hy => .inl (hfsrc y hy)) fun y hy => .inl (hfsrc y hy)) ?_
  exact ((h.setReg hfsrc).setReg fun y hy => (htime y hy).1).setReg fun y hy => (htime y hy).2

theorem State.KeepsSafety.latchGrave (h : KeepsSafety (latchFields src) s₀ s) (hsrc : src < 64) :
    KeepsSafety (latchFields src) s₀ (s.latchGrave src) := by
  have hgrave : ∀ y ∈ latchFields src, y.addr ≠ R.FCU_GRAVE := fun y hy => latchFields_ne hsrc hy (by decide)
  exact .setReg (.ite h <| .setF h fun y hy => .inl (hgrave y hy)) hgrave

/-- A reaction other than CHIP_RESET, of a source that concerns no unit, writes records only. -/
theorem State.KeepsSafety.react {unit : Nat} {first : Bool} (h : KeepsSafety (latchFields src) s₀ s) (hsrc : src < 64)
    (hunit : src ≠ 26 ∧ src ≠ 29) (hreact : s.f (F.FCU_REACT.REACT src) ≠ 4) :
    KeepsSafety (latchFields src) s₀ (s.react src unit first) := by
  have hlost : ∀ y ∈ latchFields src, y.addr ≠ R.FCU_LDGLOST := fun y hy => latchFields_ne hsrc hy (by decide)
  unfold State.react
  split
  · rw [if_neg hunit.1, if_neg hunit.2]
    exact h.record hlost
  · contradiction
  · exact .ite ((h.record hlost).record hlost) (h.record hlost)

/-- The count of a source's assertions, and its FSW bit set. -/
def State.fswShown (s : State) (src : Nat) : State := (s.satF (F.FCU_REACT.COUNT src) 1).setB (fswField src) true

theorem State.keepsSafety_fswShown (hsrc : src < 64) :
    KeepsSafety (F.FCU_REACT.REACT src :: raiseFields) s (s.fswShown src) :=
  (KeepsSafety.refl.satF (raiseFields_apart hsrc).1).setB (raiseFields_apart hsrc).2

/-- A source sets its FSW bit; with the bit set before, only the count advances. -/
theorem State.raise_cases (hon : s.on 2 = true) (hsrc : src < 64) (hunit : src ≠ 26 ∧ src ≠ 29)
    (hreact : s.f (F.FCU_REACT.REACT src) ≠ 4) :
    (s.raise src = s.satF (F.FCU_REACT.COUNT src) 1 ∧ (s.raise src).fsw src = true) ∨
      KeepsSafety (latchFields src) (s.fswShown src) (s.raise src) := by
  unfold State.raise State.raiseUnit
  rw [if_pos hon]
  extract_lets t first u v
  by_cases hset : t.fsw src = true
  · rw [if_pos hset]
    exact .inl ⟨rfl, hset⟩
  · rw [if_neg hset]
    have hu : KeepsSafety (latchFields src) (s.fswShown src) u := KeepsSafety.refl.latchFirst hsrc
    have hv : KeepsSafety (latchFields src) (s.fswShown src) v := .ite (hu.latchGrave hsrc) hu
    have hr : v.f (F.FCU_REACT.REACT src) = s.f (F.FCU_REACT.REACT src) :=
      (hv.field _ (by simp)).trans ((State.keepsSafety_fswShown hsrc).field _ (by simp))
    exact .inr (hv.react hsrc hunit (hr ▸ hreact))

theorem State.KeepsSafety.raise (h : KeepsSafety raiseFields s₀ s) (hsrc : src < 64) (hunit : src ≠ 26 ∧ src ≠ 29)
    (hreact : s.f (F.FCU_REACT.REACT src) ≠ 4) : KeepsSafety raiseFields s₀ (s.raise src) := by
  by_cases hon : s.on 2 = true
  · obtain ⟨heq, -⟩ | hlatch := State.raise_cases hon hsrc hunit hreact
    · rw [heq]
      exact h.satF fun y hy => (raiseFields_apart hsrc).1 y (List.mem_cons_of_mem _ hy)
    · exact h.trans <| ((State.keepsSafety_fswShown hsrc).mono fun y hy => List.mem_cons_of_mem _ hy).trans
        (hlatch.mono fun y hy => List.mem_cons_of_mem _ (List.mem_cons_of_mem _ hy))
  · rwa [State.raise_of_off s src (by simpa using hon)]

theorem State.fsw_raise (hon : s.on 2 = true) (hsrc : src < 64) (hunit : src ≠ 26 ∧ src ≠ 29)
    (hreact : s.f (F.FCU_REACT.REACT src) ≠ 4) : (s.raise src).fsw src = true := by
  obtain ⟨-, hset⟩ | hlatch := State.raise_cases hon hsrc hunit hreact
  · exact hset
  · have hlo : (fswField src).lo < 32 := by
      have h : ∀ n < 64, (fswField n).lo < 32 := by decide
      exact h src hsrc
    exact (hlatch.fb List.mem_cons_self (fswField_bit src)).trans (State.fb_setB_same _ _ true (fswField_bit src) hlo)

end

/-! ## The hearing of a frame (09 R279, R301) -/

section
variable {s₀ s : State}

theorem State.KeepsSafety.ringEvent {q pos kind data : Nat} (h : KeepsSafety [] s₀ s) :
    KeepsSafety [] s₀ (s.ringEvent q pos kind data) :=
  .ite (.ite (h.update rfl rfl rfl rfl) ((h.incF (by simp)).setB (by simp))) h

/-- A chip that becomes master leaves COAST, so source 20 does not rise (02 R53). -/
theorem State.KeepsSafety.setRole_master (h : KeepsSafety [] s₀ s) : KeepsSafety [] s₀ (s.setRole 1) := by
  unfold State.setRole
  extract_lets t u
  have hsrc : t.srcNow = 1 := by
    have hrole : t.f F.RNG_STATUS.ROLE = 1 := State.f_setF_same s _ 1 (by decide)
    simp [State.srcNow, State.follows, State.isMaster, hrole]
  have ht : KeepsSafety [] s₀ t := h.setF (by simp)
  have hu : KeepsSafety [] s₀ u := by
    refine .ite ?_ ht
    rw [hsrc, State.setSrc_of_not_coast _ (by decide)]
    exact (ht.setF (by simp)).setB (by simp)
  exact .ite hu hu.ringEvent

theorem State.keepsSafety_hear (f : List Word) : KeepsSafety [] s (s.hear f).1 := by
  unfold State.hear
  extract_lets own t0 foreign claim s1 _ s2 up _ s3 swap s4
  have hs1 : KeepsSafety [] s s1 := .ite (.note (KeepsSafety.refl.setB (by simp)) (by simp)) .refl
  have hs2 : KeepsSafety [] s s2 := hs1.update rfl rfl rfl rfl
  have hs3 : KeepsSafety [] s s3 :=
    .ite (.ite (hs2.update rfl rfl rfl rfl) ((hs2.setF (by simp)).setF (by simp))) hs2
  have hs4 : KeepsSafety [] s s4 := .ite ((hs3.setRole_master.setF (by simp)).setF (by simp)) hs3
  simp only [apply_ite Prod.fst]
  exact .ite .refl <| .ite .refl <| .ite hs1 <| .ite hs4 <| hs4.update rfl rfl rfl rfl

end

/-! ## A copy arrives (13 R397, R399; 09 R286) -/

section
variable {s₀ s : State} {eth : Bool} {key : Nat × Nat} {m : List Word}

theorem State.KeepsSafety.takeHeld (h : KeepsSafety demandFields s₀ s) :
    KeepsSafety demandFields s₀ (s.takeHeld eth m) := by
  unfold State.takeHeld
  extract_lets p _ old t
  have ht : KeepsSafety demandFields s₀ t := h.demandEnd
  exact .ite (.ite h <| .demandLevel <| .ite ht <| ht.update rfl rfl rfl rfl) h

/-- A copy whose key has no window opens one. -/
theorem State.windows_copyIn_of_new {dir take : Bool} (hnew : ∀ w ∈ s.sfu.windows, ¬ (w.eth = eth ∧ w.key = key)) :
    (s.copyIn eth key dir m take).sfu.windows =
      s.sfu.windows ++ [⟨eth, key, s.tm.refclk, [(dir, if msgOk m then some m else none)]⟩] := by
  unfold State.copyIn
  extract_lets good c same old join ws _ t
  have hold : old = false := List.any_eq_false.2 fun w hw => by simpa [same] using hnew w hw
  have hws : ws = s.sfu.windows ++ [⟨eth, key, s.tm.refclk, [c]⟩] := if_neg (by simp [hold])
  have ht : KeepsSafety demandFields t (if good && take then t.takeHeld eth m else t) :=
    .ite (KeepsSafety.refl.takeHeld) .refl
  exact ht.windows.trans hws

theorem State.esubSubmit_of_on {mac : Bool} (hon : s.on 2 = true) : s.esubSubmit .pair mac =
    if s.fb F.SFU_FRCFG.ETHEN then
      s.copyIn true (fld (s.reg (R.SFU_EBUF 1)) 31 12, fld (s.reg (R.SFU_EBUF 0)) 31 16) mac
        ((List.range 13).map fun w => s.reg (R.SFU_EBUF w)) true
    else s := if_pos hon

/-- A ring frame whose key has no window is heard and opens one; there is no other copy to compare. -/
theorem State.safetyFrameReceive_of_new {f : List Word} (hrng : s.rngOn = true) (hclass : fClass f = 4)
    (hown : s.rngJoined = true → fSrc f ≠ s.pos)
    (hnew : ∀ w ∈ s.sfu.windows, ¬ (w.eth = false ∧ w.key = (fSrc f, fSeq f))) :
    s.safetyFrameReceive f = (s.hear f).1.copyIn false (fSrc f, fSeq f) (bitAt (fWord f 0) 14) ((f.drop 3).take 13)
      ((s.hear f).1.fb F.SFU_FRCFG.RINGEN) := by
  have hforeign : (s.rngJoined && decide (fSrc f = s.pos)) = false := by simpa using hown
  have hnone : (s.hear f).1.sfu.windows.find? (fun w => !w.eth && w.key == (fSrc f, fSeq f)) = none := by
    rw [(s.keepsSafety_hear f).windows, List.find?_eq_none]
    exact fun w hw => by simpa using hnew w hw
  unfold State.safetyFrameReceive
  rw [if_pos (by simp [hrng, hclass, hforeign])]
  simp only [hnone, Option.bind_none]

end

/-! ## T_deg and degraded paths (13 R385, R398) -/

section
variable {l : List Field} {s₀ s : State}

theorem State.KeepsSafety.tdegStart (h : KeepsSafety l s₀ s) (hl : ∀ y ∈ l, y.addr ≠ R.SFU_TDEGREM) :
    KeepsSafety l s₀ s.tdegStart :=
  .ite h <| .update (h.setF fun y hy => .inl (hl y hy)) rfl rfl rfl rfl

theorem State.KeepsSafety.tdegStop (h : KeepsSafety l s₀ s) (hl : ∀ y ∈ l, y.addr ≠ R.SFU_TDEGREM) :
    KeepsSafety l s₀ s.tdegStop :=
  .update (h.setF fun y hy => .inl (hl y hy)) rfl rfl rfl rfl

/-- PATHDEG is set, and the rise of source 27 leaves the counts and the functions held. -/
theorem State.pathDeg_spec (hreact : s.f (F.FCU_REACT.REACT 27) ≠ 4) :
    KeepsSafety [frcntWord, F.SFU_STATUS.HELD] s s.pathDeg ∧ s.pathDeg.fb F.SFU_STATUS.PATHDEG = true := by
  unfold State.pathDeg
  extract_lets _ t
  have ht {k : List Field} : KeepsSafety k s t := KeepsSafety.refl.update rfl rfl rfl rfl
  by_cases hdeg : t.fb F.SFU_STATUS.PATHDEG = true
  · rw [if_pos hdeg]
    exact ⟨ht, hdeg⟩
  · rw [if_neg hdeg, State.rose_one]
    have hu : KeepsSafety [frcntWord, F.SFU_STATUS.HELD, F.FCU_REACT.REACT 27] s
        (t.setB F.SFU_STATUS.PATHDEG true).tdegStart := (ht.setB (by decide)).tdegStart (by decide)
    have hset : (t.setB F.SFU_STATUS.PATHDEG true).tdegStart.fb F.SFU_STATUS.PATHDEG = true :=
      ((KeepsSafety.refl (l := raiseFields).tdegStart (by decide)).fb (by decide) rfl).trans
        (State.fb_setB_same t _ true rfl (by decide))
    generalize (t.setB F.SFU_STATUS.PATHDEG true).tdegStart = u at *
    rw [← hu.field _ (by decide)] at hreact
    have hrise : KeepsSafety raiseFields u (if !t.level 27 && u.level 27 then u.raise 27 else u) :=
      .ite (KeepsSafety.refl.raise (by decide) (by decide) hreact) .refl
    exact ⟨(hu.mono (by decide)).trans (hrise.mono (by decide)), (hrise.fb (by decide) rfl).trans hset⟩

theorem State.KeepsSafety.pathGood (h : KeepsSafety [frcntWord] s₀ s) : KeepsSafety [frcntWord] s₀ s.pathGood := by
  unfold State.pathGood
  extract_lets n _ t u
  have ht : KeepsSafety [frcntWord] s₀ t := h.update rfl rfl rfl rfl
  have hu : KeepsSafety [frcntWord] s₀ u := ht.setB (by decide)
  exact .ite (.ite hu <| hu.tdegStop (by decide)) ht

end

/-! ## The close of a window (13 R396, R398) -/

section
variable {s : State} {w : SfuWindow} {d : Bool} {a b : List Word} {pos : Nat}

@[simp] theorem State.sfu_advanceTo (n : Nat) : (s.advanceTo n).sfu = s.sfu := by
  unfold State.advanceTo
  split <;> rfl

@[simp] theorem State.regs_untilCycle (n : Nat) : (s.untilCycle n).regs = s.regs := s.regs_advanceCycles _
@[simp] theorem State.sfu_untilCycle (n : Nat) : (s.untilCycle n).sfu = s.sfu := s.sfu_advanceTo _

theorem State.on_of_live (hlive : s.live = true) : s.on 2 = true := by
  rw [State.live, Bool.and_eq_true] at hlive
  exact hlive.1

theorem State.safetyWindowClose_of_open {ws : List SfuWindow} (hlive : s.live = true) (hw : s.sfu.windows = w :: ws) :
    s.safetyWindowClose = (s.untilCycle (w.openAt + s.f F.SFU_FRCFG.WIN * 20000)).closeWindow w := by
  unfold State.safetyWindowClose
  rw [hw]
  exact if_pos hlive

/-- The Safety unit's hidden state replaced. The states below are written with it, so that reads go by its rules. -/
def State.withSfu (s : State) (z : SfuUnit) : State := { s with sfu := z }

@[simp] theorem State.regs_withSfu (z : SfuUnit) : (s.withSfu z).regs = s.regs := rfl
@[simp] theorem State.tm_withSfu (z : SfuUnit) : (s.withSfu z).tm = s.tm := rfl
@[simp] theorem State.sfu_withSfu (z : SfuUnit) : (s.withSfu z).sfu = z := rfl

/-- The window of a key is gone. -/
def State.withoutWindow (s : State) (w : SfuWindow) : State :=
  s.withSfu { s.sfu with windows := s.sfu.windows.filter fun x => !(x.eth == w.eth && x.key == w.key) }

theorem State.not_key_of_mem_withoutWindow {x : SfuWindow} (h : x ∈ (s.withoutWindow w).sfu.windows) :
    ¬ (x.eth = w.eth ∧ x.key = w.key) := by
  simpa [imp_iff_not_or] using (List.mem_filter.1 h).2

/-- A copy of the Ethernet path came: its run of missing copies ends. -/
def State.pathHeard (s : State) (d : Bool) (pos : Nat) : State :=
  s.withSfu { s.sfu with missRun := tblSet (fun _ => (0 : Nat)) s.sfu.missRun (pathKey true d pos) 0 }

/-- The window is gone and both of its paths were heard. -/
def State.bothHeard (s : State) (w : SfuWindow) (pos : Nat) : State :=
  ((s.withoutWindow w).pathHeard false pos).pathHeard true pos

theorem State.closeWindow_of_equal (heth : w.eth = true) (hcopies : w.copies = [(d, some a), (!d, some a)]) :
    s.closeWindow w = ((s.bothHeard w (msgPos a)).acceptMsg true a).pathGood := by
  obtain ⟨eth, key, openAt, copies⟩ := w
  cases heth
  cases hcopies
  cases d <;> exact if_pos rfl

/-- Two copies that differ: the run of equal messages ends, MISMATCH counts and source 28 is raised. -/
def State.mismatchShown (s : State) : State :=
  (s.withSfu { s.sfu with eqRun := 0 }).incF F.SFU_FRCNT.MISMATCH 1

theorem State.safeState_of_event (cause : Nat) : s.safeState cause false = s.demand 3 cause 0 true := rfl

theorem State.closeWindow_of_different (heth : w.eth = true) (hcopies : w.copies = [(d, some a), (!d, some b)])
    (hab : a ≠ b) : s.closeWindow w = ((s.bothHeard w (msgPos a)).mismatchShown.raise 28).safeState 6 false := by
  obtain ⟨eth, key, openAt, copies⟩ := w
  cases heth
  cases hcopies
  cases d <;> exact if_neg hab

theorem State.regs_bothHeard : (s.bothHeard w pos).regs = s.regs := by
  simp [State.bothHeard, State.pathHeard, State.withoutWindow]

theorem State.tm_bothHeard : (s.bothHeard w pos).tm = s.tm := by
  simp [State.bothHeard, State.pathHeard, State.withoutWindow]

theorem State.windows_bothHeard : (s.bothHeard w pos).sfu.windows = (s.withoutWindow w).sfu.windows := by
  simp [State.bothHeard, State.pathHeard]

theorem State.mismatch_mismatchShown :
    s.mismatchShown.f F.SFU_FRCNT.MISMATCH = (s.f F.SFU_FRCNT.MISMATCH + 1) % 65536 := by
  unfold State.mismatchShown
  rw [State.f_incF_same _ _ _ (by decide), State.f_congr (State.regs_withSfu _)]
  rfl

theorem State.sameRegsBut_mismatchShown : SameRegsBut [R.SFU_FRCNT] s s.mismatchShown :=
  SameRegsBut.setF (.ofRegs (State.regs_withSfu _)) List.mem_cons_self

theorem State.closeWindow_of_single (heth : w.eth = true) (hcopies : w.copies = [(d, some a)]) : s.closeWindow w =
    (((s.withoutWindow w).copyMissing true (!d) (msgPos a)).pathHeard d (msgPos a)).acceptMsg true a := by
  obtain ⟨eth, key, openAt, copies⟩ := w
  cases heth
  cases hcopies
  cases d <;> rfl

/-- The sender of an accepted message is heard now and no longer silent (R399). -/
def State.senderHeard (s : State) (p : Nat) : State :=
  s.withSfu { s.sfu with
    lastOk := tblSet (fun _ => (0 : Nat)) s.sfu.lastOk p (s.tm.refclk + 1)
    silent := s.sfu.silent.filter fun x => x ≠ p }

theorem State.keepsSafety_acceptMsg (s : State) (eth : Bool) (m : List Word) :
    KeepsSafety demandFields (s.senderHeard (msgPos m)) (s.acceptMsg eth m) :=
  .ite (.demandEnd (KeepsSafety.refl.demandEnd)) (.takeHeld (KeepsSafety.refl.demandEnd))

end

/-! ### Missing copies (13 R398) -/

section
variable {s : State} {pos : Nat} {d : Bool}

/-- A missing Ethernet copy counts, in its path's run and in MISSING. -/
def State.missingShown (s : State) (d : Bool) (pos : Nat) : State :=
  let k := pathKey true d pos
  (s.withSfu { s.sfu with
    missRun := tblSet (fun _ => (0 : Nat)) s.sfu.missRun k (tblGet (fun _ => (0 : Nat)) s.sfu.missRun k + 1),
    eqRun := 0 }).incF F.SFU_FRCNT.MISSING 1

theorem State.missing_missingShown :
    (s.missingShown d pos).f F.SFU_FRCNT.MISSING = (s.f F.SFU_FRCNT.MISSING + 1) % 65536 := by
  unfold State.missingShown
  rw [State.f_incF_same _ _ _ (by decide), State.f_congr (State.regs_withSfu _)]
  rfl

theorem State.sameRegsBut_missingShown : SameRegsBut [R.SFU_FRCNT] s (s.missingShown d pos) :=
  SameRegsBut.setF (.ofRegs (State.regs_withSfu _)) List.mem_cons_self

theorem State.copyMissing_eq : s.copyMissing true d pos =
    if s.f F.SFU_FRCFG.MISSMAX ≤ tblGet (fun _ => (0 : Nat)) s.sfu.missRun (pathKey true d pos) + 1 then
      (s.missingShown d pos).pathDeg else s.missingShown d pos := by
  unfold State.copyMissing
  simp only [true_or, and_true]
  rfl

theorem State.copyMissing_spec (hreact : s.f (F.FCU_REACT.REACT 27) ≠ 4) :
    KeepsSafety [frcntWord] (s.missingShown d pos) (s.copyMissing true d pos) ∧
      (s.f F.SFU_FRCFG.MISSMAX ≤ tblGet (fun _ => (0 : Nat)) s.sfu.missRun (pathKey true d pos) + 1 →
        (s.copyMissing true d pos).fb F.SFU_STATUS.PATHDEG = true) := by
  have hkeeps : (s.missingShown d pos).f (F.FCU_REACT.REACT 27) = s.f (F.FCU_REACT.REACT 27) :=
    s.sameRegsBut_missingShown.f (by decide)
  obtain ⟨hdeg, hset⟩ := State.pathDeg_spec (hkeeps ▸ hreact)
  rw [State.copyMissing_eq]
  refine ⟨.ite (hdeg.mono (by decide)) .refl, fun hmax => ?_⟩
  rwa [if_pos hmax]

end

/-! ## A followed sender stays silent (13 R399) -/

section
variable {s : State} {rc p : Nat}

/-- The cycle in which the watchdog of sender p is due: WDOG ms after its last message, or after the unit was armed. -/
def State.silenceDue (s : State) (p : Nat) : Nat :=
  let l := tblGet (fun _ => (0 : Nat)) s.sfu.lastOk p
  (if l = 0 then s.sfu.armedAt else l - 1) + msCycles (s.f F.SFU_FRCFG.WDOG)

/-- At the cycle rc the sender p is listed as silent. -/
def State.fallsSilent (s : State) (rc p : Nat) : State :=
  (s.untilCycle rc).withSfu { s.sfu with silent := s.sfu.silent ++ [p] }

theorem State.regs_fallsSilent : (s.fallsSilent rc p).regs = s.regs := by simp [State.fallsSilent]

theorem State.mem_silent_fallsSilent : p ∈ (s.fallsSilent rc p).sfu.silent := by simp [State.fallsSilent]

theorem State.live_fallsSilent : (s.fallsSilent rc p).sfu.live = s.sfu.live := by simp [State.fallsSilent]

theorem State.followWatchdog_of_due (hlive : s.live = true) (harmed : s.fb F.SFU_STATUS.ARMED = true)
    (hen : s.fb F.SFU_FRCFG.RINGEN = true ∨ s.fb F.SFU_FRCFG.ETHEN = true) (hfollows : s.followsPos p = true)
    (hp : p ∉ s.sfu.silent) : s.followWatchdog p =
      let u := s.fallsSilent (s.silenceDue p) p
      if s.fb F.SFU_FRCFG.WDACT then (u.noteMade (u.demandFuncs 1) true true).demandLevel 1 7 p false
      else (u.incF (if u.fb F.SFU_FRCFG.RINGEN then F.RNG_SAFEMIS.MISSING else F.SFU_FRCNT.MISSING) 1).pathDeg := by
  have hsilent : s.fallsSilent (s.silenceDue p) p = (s.untilCycle (s.silenceDue p)).withSfu
      { (s.untilCycle (s.silenceDue p)).sfu with silent := (s.untilCycle (s.silenceDue p)).sfu.silent ++ [p] } := by
    rw [State.fallsSilent, State.sfu_untilCycle]
  extract_lets u
  rw [← State.fb_congr (show u.regs = s.regs from State.regs_fallsSilent), show u = _ from hsilent]
  unfold State.followWatchdog
  exact if_pos (by simp [State.sfuOn, hlive, harmed, hen, hfollows, hp])

@[simp] theorem State.regs_noteMade (funcs : Nat) (chA chB : Bool) : (s.noteMade funcs chA chB).regs = s.regs := rfl
@[simp] theorem State.live_noteMade (funcs : Nat) (chA chB : Bool) :
    (s.noteMade funcs chA chB).sfu.live = s.sfu.live := rfl
@[simp] theorem State.silent_noteMade (funcs : Nat) (chA chB : Bool) :
    (s.noteMade funcs chA chB).sfu.silent = s.sfu.silent := rfl

/-- The silence demands SF1 by a source of its own. -/
theorem State.demand_fallsSilent (funcs : Nat)
    (hnew : (s.sfu.live.any fun x => x.cause == 7 && x.pos == p) = false) :
    let t := ((s.fallsSilent rc p).noteMade funcs true true).demandLevel 1 7 p false
    t.held = s.held ||| s.demandFuncs 1 ∧ p ∈ t.sfu.silent := by
  have hregs := (State.regs_noteMade funcs true true).trans (State.regs_fallsSilent (s := s) (rc := rc) (p := p))
  have hlive := (State.live_noteMade funcs true true).trans (State.live_fallsSilent (s := s) (rc := rc) (p := p))
  have hsilent : p ∈ ((s.fallsSilent rc p).noteMade funcs true true).sfu.silent :=
    (State.silent_noteMade funcs true true).symm ▸ State.mem_silent_fallsSilent
  generalize (s.fallsSilent rc p).noteMade funcs true true = u at *
  have hfuncs := State.demandFuncs_congr hregs 1
  have hheld : u.held = s.held := State.f_congr hregs _
  have hf : s.demandFuncs 1 ≠ 0 ∧ s.demandFuncs 1 < 16 := by
    obtain h | h := s.demandFuncs_one <;> simp [h]
  refine ⟨?_, (KeepsSafety.refl (s := u)).demandLevel.silent.symm ▸ hsilent⟩
  rw [State.held_demandLevel (hfuncs ▸ hf.1) (hfuncs ▸ hf.2) (hlive ▸ hnew), hfuncs, hheld]

/-- The silence counts as a missing copy and marks the path. -/
theorem State.pathDeg_fallsSilent {x : Field} (hx : x.addr = R.RNG_SAFEMIS ∨ x.addr = R.SFU_FRCNT)
    (hreact : s.f (F.FCU_REACT.REACT 27) ≠ 4) :
    let t := ((s.fallsSilent rc p).incF x 1).pathDeg
    t.fb F.SFU_STATUS.PATHDEG = true ∧ p ∈ t.sfu.silent ∧ t.held = s.held := by
  extract_lets t
  have hapart : ∀ y ∈ [F.SFU_STATUS.HELD, F.FCU_REACT.REACT 27], y.addr ≠ x.addr := by
    obtain h | h := hx <;> rw [h] <;> decide
  have hcount : KeepsSafety [F.SFU_STATUS.HELD, F.FCU_REACT.REACT 27] (s.fallsSilent rc p)
      ((s.fallsSilent rc p).incF x 1) := KeepsSafety.refl.incF fun y hy => .inl (hapart y hy)
  have hreact' : ((s.fallsSilent rc p).incF x 1).f (F.FCU_REACT.REACT 27) ≠ 4 := by
    rwa [hcount.field _ (by decide), State.f_congr State.regs_fallsSilent]
  obtain ⟨hdeg, hset⟩ := State.pathDeg_spec hreact'
  refine ⟨hset, ?_, ?_⟩
  · rw [hdeg.silent, hcount.silent]
    exact State.mem_silent_fallsSilent
  · exact (hdeg.field _ (by decide)).trans <| (hcount.field _ (by decide)).trans <|
      State.f_congr State.regs_fallsSilent _

end

/-! ## The outcomes of a window -/

section
variable {s : State} {w : SfuWindow} {d : Bool} {a b : List Word}

/-- Two equal copies accept the message and count nothing. -/
theorem State.closeWindow_equal_spec (heth : w.eth = true) (hcopies : w.copies = [(d, some a), (!d, some a)]) :
    (s.closeWindow w).reg R.SFU_FRCNT = s.reg R.SFU_FRCNT ∧
      (∀ x ∈ (s.closeWindow w).sfu.windows, ¬ (x.eth = true ∧ x.key = w.key)) ∧ (s.closeWindow w).tm = s.tm := by
  rw [State.closeWindow_of_equal heth hcopies]
  have hgone : ∀ x ∈ (s.bothHeard w (msgPos a)).sfu.windows, ¬ (x.eth = w.eth ∧ x.key = w.key) :=
    fun x hx => State.not_key_of_mem_withoutWindow (State.windows_bothHeard ▸ hx)
  have htm : (s.bothHeard w (msgPos a)).tm = s.tm := State.tm_bothHeard
  have hregs : (s.bothHeard w (msgPos a)).regs = s.regs := State.regs_bothHeard
  generalize s.bothHeard w (msgPos a) = u at *
  have hu := ((u.keepsSafety_acceptMsg true a).mono (k := [frcntWord]) (by decide)).pathGood
  refine ⟨(hu.reg (by decide)).trans (State.reg_congr hregs _), fun x hx => ?_, hu.tm.trans htm⟩
  rw [hu.windows] at hx
  exact heth ▸ hgone x hx

/-- Two copies that differ count in MISMATCH, raise source 28 and bring the safe state. -/
theorem State.closeWindow_different_spec (hon : s.on 2 = true) (heth : w.eth = true)
    (hcopies : w.copies = [(d, some a), (!d, some b)]) (hab : a ≠ b) (hreact : s.f (F.FCU_REACT.REACT 28) ≠ 4) :
    (s.closeWindow w).f F.SFU_FRCNT.MISMATCH = (s.f F.SFU_FRCNT.MISMATCH + 1) % 65536 ∧
      (s.closeWindow w).fb F.SFU_STATUS.SAFE = true ∧ (s.closeWindow w).held = s.held ||| 3 ∧
      (s.closeWindow w).fsw 28 = true := by
  rw [State.closeWindow_of_different heth hcopies hab, State.safeState_of_event]
  have hcount := (s.bothHeard w (msgPos a)).mismatch_mismatchShown
  have hkeeps := (s.bothHeard w (msgPos a)).sameRegsBut_mismatchShown.trans_regs s.regs_bothHeard
  rw [State.f_congr s.regs_bothHeard] at hcount
  generalize (s.bothHeard w (msgPos a)).mismatchShown = x at *
  have hxreact : x.f (F.FCU_REACT.REACT 28) ≠ 4 := by rwa [hkeeps.f (by decide)]
  have hxon : x.on 2 = true := (hkeeps.fb (x := ⟨R.SYSC_PSTAT, 2, 2⟩) (by decide)).trans hon
  have hraise : KeepsSafety raiseFields x (x.raise 28) := KeepsSafety.refl.raise (by decide) (by decide) hxreact
  have hdemand : KeepsSafety demandFields (x.raise 28) ((x.raise 28).demand 3 6 0 true) := KeepsSafety.refl.demand
  have hfuncs : (x.raise 28).demandFuncs 3 = 3 := State.demandFuncs_three
  refine ⟨?_, State.safe_demand (by simp [hfuncs]), ?_, ?_⟩
  · have hreg := (hdemand.reg (a := R.SFU_FRCNT) (by decide)).trans (hraise.reg (by decide))
    exact (congrArg (fun v => fld v 15 0) hreg).trans hcount
  · rw [State.held_demand (by simp [hfuncs]) (by simp [hfuncs]), hfuncs, State.held, hraise.field _ (by decide),
      hkeeps.f (by decide), State.held]
  · exact (hdemand.fb (by decide) rfl).trans (State.fsw_raise hxon (by decide) (by decide) hxreact)

/-- A copy that stayed alone counts the other as missing; MISSMAX of them in a row mark the path. -/
theorem State.closeWindow_single_spec (heth : w.eth = true) (hcopies : w.copies = [(d, some a)])
    (hreact : s.f (F.FCU_REACT.REACT 27) ≠ 4) :
    (s.closeWindow w).f F.SFU_FRCNT.MISSING = (s.f F.SFU_FRCNT.MISSING + 1) % 65536 ∧
      (s.f F.SFU_FRCFG.MISSMAX ≤ tblGet (fun _ => (0 : Nat)) s.sfu.missRun (pathKey true (!d) (msgPos a)) + 1 →
        (s.closeWindow w).fb F.SFU_STATUS.PATHDEG = true) := by
  rw [State.closeWindow_of_single heth hcopies]
  obtain ⟨hcount, hmax⟩ := State.copyMissing_spec (s := s.withoutWindow w) (pos := msgPos a) (d := !d) hreact
  generalize (s.withoutWindow w).copyMissing true (!d) (msgPos a) = x at *
  have ht := (x.pathHeard d (msgPos a)).keepsSafety_acceptMsg true a
  have hregs : ((x.pathHeard d (msgPos a)).senderHeard (msgPos a)).regs = x.regs := by
    simp [State.pathHeard, State.senderHeard]
  refine ⟨?_, fun h => (ht.fb (by decide) rfl).trans ((State.fb_congr hregs _).trans (hmax h))⟩
  have hreg := ((ht.reg (a := R.SFU_FRCNT) (by decide)).trans (State.reg_congr hregs _)).trans (hcount.reg (by decide))
  exact (congrArg (fun v => fld v 31 16) hreg).trans <| State.missing_missingShown.trans <|
    congrArg (fun n => (n + 1) % 65536) (State.f_congr (State.regs_withSfu _) _)

end

/-- Settles O43: a copy of a new key opens a window, a close has the outcome of its copies, and a silence demands SF1 or
marks the path. -/
theorem safetyMessages : Obligations.SafetyMessages := by
  refine ⟨fun s mac hon hen => ?_, fun s mac hon hen => ?_, fun s f hrng hclass hown hnew => ?_,
    fun s w ws d a b hlive hws heth hcopies => ⟨fun hab => ?_, fun hab hreact => ?_⟩,
    fun s w ws d a hlive hws heth hcopies hreact => ?_,
    fun s p hlive harmed hen hfollows hp => ⟨fun hwd hnew => ?_, fun hwd hreact => ?_⟩⟩
  · exact fun hnew => .intro rfl ((State.esubSubmit_of_on hon).trans (if_pos hen)) (State.windows_copyIn_of_new hnew)
  · exact congrArg Host.Outcome.next ((State.esubSubmit_of_on hon).trans (if_neg (by simp [hen])))
  · refine .intro rfl (State.safetyFrameReceive_of_new hrng hclass hown hnew) ?_
    have hhear := s.keepsSafety_hear f
    rw [State.windows_copyIn_of_new (hhear.windows.symm ▸ hnew), hhear.windows, hhear.tm]
  · subst hab
    refine .intro rfl (State.safetyWindowClose_of_open hlive hws) ?_
    obtain ⟨hcount, hgone, htm⟩ := State.closeWindow_equal_spec heth hcopies
    exact ⟨hcount.trans (State.reg_congr (s.regs_untilCycle _) _), hgone, congrArg (fun x => x.count.toNat) htm⟩
  · refine .intro rfl (State.safetyWindowClose_of_open hlive hws) ?_
    have hregs := s.regs_untilCycle (w.openAt + s.f F.SFU_FRCFG.WIN * 20000)
    generalize s.untilCycle (w.openAt + s.f F.SFU_FRCFG.WIN * 20000) = u at *
    have hheld : u.held = s.held := State.f_congr hregs _
    rw [← State.f_congr hregs, ← hheld]
    rw [← State.f_congr hregs] at hreact
    exact State.closeWindow_different_spec ((State.on_congr hregs 2).trans (State.on_of_live hlive)) heth hcopies hab
      hreact
  · refine .intro rfl (State.safetyWindowClose_of_open hlive hws) ?_
    have hregs := s.regs_untilCycle (w.openAt + s.f F.SFU_FRCFG.WIN * 20000)
    have hsfu := s.sfu_untilCycle (w.openAt + s.f F.SFU_FRCFG.WIN * 20000)
    generalize s.untilCycle (w.openAt + s.f F.SFU_FRCFG.WIN * 20000) = u at *
    rw [← State.f_congr hregs, ← State.f_congr hregs, ← hsfu]
    rw [← State.f_congr hregs] at hreact
    exact State.closeWindow_single_spec heth hcopies hreact
  · refine .intro rfl ((State.followWatchdog_of_due hlive harmed hen hfollows hp).trans (if_pos hwd)) ?_
    exact State.demand_fallsSilent _ hnew
  · refine .intro rfl ((State.followWatchdog_of_due hlive harmed hen hfollows hp).trans (if_neg (by simp [hwd]))) ?_
    refine State.pathDeg_fallsSilent ?_ hreact
    split
    · exact .inl rfl
    · exact .inr rfl

end Sys2Proof.Machine

/-! The fault latches of the bridge port (10 R313, R323, R325, R327 to R329). First what the gates of a channel that
turn off leave; then the latch of a channel, the bootstrap monitor, the trip inputs, BRP_CLR and the gate supply. -/

namespace Sys2Proof.Machine

/-! ## Folds over the channels -/

/-- What one element's operation brings about, and every operation keeps, holds after the fold. -/
theorem State.forAll_establishes {α : Type} {P : State → Prop} {l : List α} {f : State → α → State} {x : α}
    (hx : x ∈ l) (hf : ∀ t, P (f t x)) (hk : ∀ t y, P t → P (f t y)) (s : State) : P (s.forAll l f) := by
  obtain ⟨before, after, rfl⟩ := List.append_of_mem hx
  have hsplit : s.forAll (before ++ x :: after) f = (f (s.forAll before f) x).forAll after f :=
    List.foldl_append.trans rfl
  rw [hsplit]
  exact State.forAll_keeps P after f _ (hf _) fun t y _ => hk t y

/-! ## The gates of a channel (10 R313, R329) -/

/-- From `s` to `t` memory and every other channel stay, and of the registers only BRP_TRIPSTAT may change. -/
structure State.OnChannel (c : Nat) (s t : State) : Prop where
  regs : SameRegsBut [R.BRP_TRIPSTAT] s t
  mem : t.mem = s.mem
  others : ∀ d, d ≠ c → t.brpCh d = s.brpCh d

/-- Both gates of channel c are off. -/
def State.BothOff (c : Nat) (t : State) : Prop := (t.brpCh c).ho = false ∧ (t.brpCh c).lo = false

section
variable {s₀ s t : State} {c : Nat}

theorem State.OnChannel.refl : OnChannel c s s := ⟨fun _ _ => rfl, rfl, fun _ _ => rfl⟩

theorem State.OnChannel.trans (h : OnChannel c s₀ s) (h' : OnChannel c s t) : OnChannel c s₀ t :=
  ⟨fun a ha => (h'.regs a ha).trans (h.regs a ha), h'.mem.trans h.mem,
    fun d hd => (h'.others d hd).trans (h.others d hd)⟩

theorem State.brpCh_setBrpCh_same (x : BrpChan) : (s.setBrpCh c x).brpCh c = x := tblGet_tblSet_same _ _ _ _

theorem State.OnChannel.setBrpCh {x : BrpChan} (h : OnChannel c s₀ s) : OnChannel c s₀ (s.setBrpCh c x) :=
  h.trans ⟨fun _ _ => rfl, rfl, fun _ hd => tblGet_tblSet_ne _ _ _ hd⟩

/-- An operation that leaves memory and the table of the channels. -/
theorem State.OnChannel.update (h : OnChannel c s₀ s) (hregs : SameRegsBut [R.BRP_TRIPSTAT] s t) (hmem : t.mem = s.mem)
    (hch : t.brp.ch = s.brp.ch) : OnChannel c s₀ t :=
  h.trans ⟨hregs, hmem, fun d _ => congrArg (tblGet _ · d) hch⟩

theorem State.sameRegsBut_showTrips (s : State) : SameRegsBut [R.BRP_TRIPSTAT] s s.showTrips :=
  ((SameRegsBut.ofRegs rfl).setF (x := F.BRP_TRIPSTAT.ASSERTED) List.mem_cons_self).setF List.mem_cons_self

/-- The windows that an edge opens change the windows and BRP_TRIPSTAT. -/
theorem State.openWindows_frame (s : State) (c : Nat) : SameRegsBut [R.BRP_TRIPSTAT] s (s.openWindows c) ∧
    (s.openWindows c).mem = s.mem ∧ (s.openWindows c).brp.ch = s.brp.ch := by
  have hblank := State.forAll_keeps (fun u => u.regs = s.regs ∧ u.mem = s.mem ∧ u.brp.ch = s.brp.ch)
    ((List.range 8).filter fun t => s.fb (F.BRP_TRIP.TMREN t) && decide (s.f (F.BRP_TRIP.TMR t) = c))
    (fun u t => u.setBlank t (some (u.now + u.f (F.BRP_TRIP.BLANK t)))) s ⟨rfl, rfl, rfl⟩ fun _ _ _ hu => hu
  obtain ⟨hregs, hmem, hch⟩ := hblank
  exact ⟨(State.sameRegsBut_showTrips _).trans_regs hregs, hmem, hch⟩

/-- A gate takes its level, and the other gate of the channel keeps its own. -/
theorem State.gateNow_spec (s : State) (c : Nat) (hi on : Bool) : OnChannel c s (s.gateNow c hi on) ∧
    ((s.gateNow c hi on).brpCh c).ho = (if hi then on else (s.brpCh c).ho) ∧
    ((s.gateNow c hi on).brpCh c).lo = (if hi then (s.brpCh c).lo else on) := by
  unfold State.gateNow
  extract_lets x n y z t
  have hz : z.ho = (if hi then on else x.ho) ∧ z.lo = (if hi then x.lo else on) := by
    cases hi <;> cases on <;> exact ⟨rfl, rfl⟩
  have ht : OnChannel c s t := State.OnChannel.refl.setBrpCh
  have hch : t.brpCh c = z := State.brpCh_setBrpCh_same z
  by_cases hsame : (if hi then x.ho else x.lo) = on
  · rw [if_pos hsame]
    refine ⟨.refl, ?_⟩
    cases hi
    · exact ⟨rfl, hsame⟩
    · exact ⟨hsame, rfl⟩
  · rw [if_neg hsame]
    split
    · obtain ⟨hregs, hmem, hwin⟩ := t.openWindows_frame c
      have hkept : (t.openWindows c).brpCh c = z := (congrArg (tblGet _ · c) hwin).trans hch
      rw [hkept]
      exact ⟨ht.update hregs hmem hwin, hz⟩
    · rw [hch]
      exact ⟨ht, hz⟩

theorem State.gatesOff_spec (s : State) (c : Nat) (drop : Bool) :
    OnChannel c s (s.gatesOff c drop) ∧ BothOff c (s.gatesOff c drop) := by
  unfold State.gatesOff
  extract_lets t
  obtain ⟨hhigh, hho, -⟩ := s.gateNow_spec c true false
  obtain ⟨hlow, hkept, hlo⟩ := (s.gateNow c true false).gateNow_spec c false false
  have ht : OnChannel c s t := hhigh.trans hlow
  have hoff : BothOff c t := ⟨hkept.trans hho, hlo⟩
  split
  · refine ⟨ht.setBrpCh, ?_⟩
    rw [State.BothOff, State.modBrpCh, State.brpCh_setBrpCh_same]
    exact hoff
  · exact ⟨ht, hoff⟩

theorem brpStat_ne_tripstat (c : Nat) : R.BRP_STAT c ≠ R.BRP_TRIPSTAT := by unfold R.BRP_STAT R.BRP_TRIPSTAT; omega
theorem brpStat_ne_ctrl (c : Nat) : R.BRP_STAT c ≠ R.BRP_CTRL := by unfold R.BRP_STAT R.BRP_CTRL; omega
theorem brpStat_ne_carry (c : Nat) : R.BRP_STAT c ≠ R.BRP_CARRY c := by unfold R.BRP_STAT R.BRP_CARRY; omega
theorem brpTrip_ne_tripstat (n : Nat) : R.BRP_TRIP n ≠ R.BRP_TRIPSTAT := by unfold R.BRP_TRIP R.BRP_TRIPSTAT; omega

/-- The latches of a channel stand in a register that the gates leave. -/
theorem State.OnChannel.reg_brpStat (h : OnChannel c s t) (d : Nat) : t.reg (R.BRP_STAT d) = s.reg (R.BRP_STAT d) :=
  h.regs _ (List.not_mem_cons_of_ne_of_not_mem (brpStat_ne_tripstat d) List.not_mem_nil)

end

/-! ## The latch of a channel (10 R329) -/

section
variable {s : State} {c : Nat} {x : Field}

/-- A latch of channel c is one bit of BRP_STATc below STOPPING. -/
structure IsBrpLatch (c : Nat) (x : Field) : Prop where
  addr : x.addr = R.BRP_STAT c
  bit : x.hi = x.lo
  lo : x.lo < 30

theorem isBrpLatch_sc (c : Nat) : IsBrpLatch c (F.BRP_STAT.SC c) := ⟨rfl, rfl, (by decide : 24 < 30)⟩
theorem isBrpLatch_bootuv (c : Nat) : IsBrpLatch c (F.BRP_STAT.BOOTUV c) := ⟨rfl, rfl, (by decide : 23 < 30)⟩
theorem isBrpLatch_trip (c : Nat) : IsBrpLatch c (F.BRP_STAT.TRIP c) := ⟨rfl, rfl, (by decide : 22 < 30)⟩
theorem isBrpLatch_bothon (c : Nat) : IsBrpLatch c (F.BRP_STAT.BOTHON c) := ⟨rfl, rfl, (by decide : 19 < 30)⟩

theorem isBrpLatch_of_eq (h : x = F.BRP_STAT.SC c ∨ x = F.BRP_STAT.BOOTUV c ∨ x = F.BRP_STAT.TRIP c ∨
    x = F.BRP_STAT.BOTHON c) : IsBrpLatch c x := by
  obtain rfl | rfl | rfl | rfl := h
  · exact isBrpLatch_sc c
  · exact isBrpLatch_bootuv c
  · exact isBrpLatch_trip c
  · exact isBrpLatch_bothon c

/-- The latch stands, both gates are off and the carry is 0, before a soft stop of the channel is looked at. -/
def State.latched (s : State) (c : Nat) (x : Field) : State := ((s.setB x true).gatesOff c false).carryZero c

theorem State.fb_latched {y : Field} (hy : y.addr = R.BRP_STAT c) :
    (s.latched c x).fb y = (s.setB x true).fb y := by
  have hgates := ((s.setB x true).gatesOff_spec c false).1.reg_brpStat c
  have hcarry := State.reg_setReg_ne ((s.setB x true).gatesOff c false) 0 (brpStat_ne_carry c)
  unfold State.fb
  rw [hy]
  exact congrArg (bitAt · y.lo) (hcarry.trans hgates)

theorem State.latchBrp_of_not_stopping (hx : IsBrpLatch c x) (hstop : s.fb (F.BRP_STAT.STOPPING c) = false) :
    s.latchBrp c x = s.latched c x := by
  have hkept : (s.latched c x).fb (F.BRP_STAT.STOPPING c) = s.fb (F.BRP_STAT.STOPPING c) :=
    (State.fb_latched rfl).trans <| State.fb_setB_apart _ _ _ _ <| .inr <| .inr <| hx.bit ▸ hx.lo
  exact if_neg (Bool.not_eq_true _ ▸ hkept.trans hstop)

/-- The latch of a channel that is not stopping: its bit stands, its gates are off, and the other channels stay. -/
theorem State.latchBrp_spec (hx : IsBrpLatch c x) (hstop : s.fb (F.BRP_STAT.STOPPING c) = false) :
    (s.latchBrp c x).fb x = true ∧ BothOff c (s.latchBrp c x) ∧ (s.latchBrp c x).reg (R.BRP_CARRY c) = 0 ∧
      (∀ d, d ≠ c → (s.latchBrp c x).brpCh d = s.brpCh d) ∧ SameMem s (s.latchBrp c x) := by
  obtain ⟨hgates, hoff⟩ := (s.setB x true).gatesOff_spec c false
  rw [State.latchBrp_of_not_stopping hx hstop]
  refine ⟨?_, hoff, State.reg_setReg_same _ _ _, hgates.others, State.ldb_congr hgates.mem⟩
  exact (State.fb_latched hx.addr).trans (State.fb_setB_same _ _ _ hx.bit (by have := hx.lo; omega))

end

/-! ## The stages of a channel (10 R323, R325, R327) -/

section
variable {s : State} {c : Nat}

/-- The bootstrap monitor of channel c shows its level. -/
def State.bootShown (s : State) (c : Nat) (low : Bool) : State := s.setB (F.BRP_STAT.BOOTLOW c) low

theorem State.bootlow_bootShown (low : Bool) : (s.bootShown c low).fb (F.BRP_STAT.BOOTLOW c) = low :=
  State.fb_setB_same _ _ _ rfl (by decide : 26 < 32)

theorem State.onlyRegs_bootShown (low : Bool) : OnlyRegs [R.BRP_STAT c] s (s.bootShown c low) :=
  OnlyRegs.refl.setB List.mem_cons_self

theorem State.bothonSensed_of_on (hon : s.brpOn = true) :
    s.bothonSensed c = (s.latchBrp c (F.BRP_STAT.BOTHON c)).raise 3 := if_pos hon

theorem State.bootstrapUndervoltage_of_on (hon : s.brpOn = true) : s.bootstrapUndervoltage c = s.bootLow c := if_pos hon

theorem State.bootlowChange_high_of_on (hon : s.brpOn = true) : s.bootlowChange c false = s.bootShown c false :=
  if_pos hon

theorem exec_bootstrapUndervoltage (c : Fin 8) :
    exec (.bootstrapUndervoltage c) s = .next (s.bootstrapUndervoltage c) := rfl

theorem exec_bootlowChange (c : Fin 8) (low : Bool) :
    exec (.bootlowChange c low) s = .next (s.bootlowChange c low) := rfl

/-- The fall of the monitor's level and the undervoltage that it reports are one event. -/
theorem State.bootlowChange_low : s.bootlowChange c true = s.bootstrapUndervoltage c := by
  unfold State.bootlowChange State.bootstrapUndervoltage
  rw [if_pos (rfl : true = true)]

/-- With its high gate on, a channel whose bootstrap supply falls latches BOOTUV. -/
theorem State.bootLow_of_high_on (hho : (s.brpCh c).ho = true) :
    s.bootLow c = s.rose ((s.bootShown c true).latchBrp c (F.BRP_STAT.BOOTUV c)) [22] :=
  if_pos (Bool.or_eq_true_iff.2 (.inl hho))

/-- On a channel that does not run, with its high gate off, only BOOTLOW shows it. -/
theorem State.bootLow_of_idle (hho : (s.brpCh c).ho = false) (hrun : s.brpRun c = false) :
    s.bootLow c = s.bootShown c true := by
  have hho' : ((s.bootShown c true).brpCh c).ho = false := hho
  have hrun' : (s.bootShown c true).brpRun c = false :=
    (State.fb_setB_apart _ _ (F.BRP_STAT.RUN c) _ (.inr (.inr (by decide : 26 < 31)))).trans hrun
  refine if_neg ?_
  rw [State.bootShown] at hho' hrun'
  simp [hho', hrun']

/-- Nothing blanks an excursion on a channel none of whose gates has turned on yet. -/
theorem State.shortCircuit_of_not_blanked (hon : s.brpOn = true) (hen : s.fb (F.BRP_SC.EN c) = true)
    (hrose : (s.brpCh c).roseAt = none) : s.shortCircuit c = s.rose (s.latchBrp c (F.BRP_STAT.SC c)) [21] :=
  if_pos (by simp [hon, hen, hrose])

theorem State.shortCircuit_of_disabled (hen : s.fb (F.BRP_SC.EN c) = false) : s.shortCircuit c = s :=
  if_neg (by simp [hen])

end

/-! ## The trip inputs (10 R328) -/

section
variable {s : State} {n e : Nat}

theorem State.tripInput_of_active (hon : s.brpOn = true) (h : s.tripActive n = true) :
    s.tripInput n = s.showTrips.tripStop n := if_pos (by simp [hon, h])

theorem State.tripInput_of_inactive (h : s.tripActive n = false) : s.tripInput n = s := if_neg (by simp [h])

/-- A trip input whose CHMASK names one channel stops that channel. -/
theorem State.tripStop_of_one {c : Nat}
    (h : (List.range 8).filter (fun c => bitAt (s.reg (R.BRP_TRIP n)) (16 + c)) = [c]) :
    s.tripStop n = s.rose (s.latchBrp c (F.BRP_STAT.TRIP c)) [23] := by
  unfold State.tripStop
  rw [h]
  rfl

/-- Stack time stands at the end of input n's window (log 4), the window is closed and BRP_TRIPSTAT shows it. -/
def State.windowEnded (s : State) (n e : Nat) : State := ((s.advanceTo e).setBlank n none).showTrips

theorem State.blankEnd_windowEnded : (s.windowEnded n e).blankEnd n = none := tblGet_tblSet_same _ _ _ _

theorem State.sameRegsBut_windowEnded : SameRegsBut [R.BRP_TRIPSTAT] s (s.windowEnded n e) :=
  (State.sameRegsBut_showTrips _).trans_regs (s.regs_advanceTo e)

theorem State.now_windowEnded (he : e < 2 ^ 64) : (s.windowEnded n e).now = max s.now e := s.now_advanceTo he

theorem State.sameMem_windowEnded : SameMem s (s.windowEnded n e) := State.ldb_congr (s.mem_advanceTo e)

/-- Outside its window an input is active when it is enabled and its comparator asserts it. -/
theorem State.tripActive_windowEnded : (s.windowEnded n e).tripActive n = (s.fb (F.BRP_TRIP.EN n) && s.tripOut n) := by
  have hregs := State.sameRegsBut_windowEnded (s := s) (n := n) (e := e)
  have hen : (s.windowEnded n e).fb (F.BRP_TRIP.EN n) = s.fb (F.BRP_TRIP.EN n) :=
    hregs.fb (List.not_mem_cons_of_ne_of_not_mem (brpTrip_ne_tripstat n) List.not_mem_nil)
  have hout : (s.windowEnded n e).tripOut n = s.tripOut n := congrArg (bitAt · n) (hregs _ (by decide))
  rw [State.tripActive, State.blankEnd_windowEnded, hen, hout, Option.isNone_none, Bool.and_true]

theorem State.tripBlankEnd_of_window (hon : s.brpOn = true) (hw : s.blankEnd n = some e) : s.tripBlankEnd n =
    if (s.windowEnded n e).tripActive n then (s.windowEnded n e).tripStop n else s.windowEnded n e := by
  unfold State.tripBlankEnd
  rw [hw]
  exact if_pos hon

end

/-! ## BRP_CLR (10 R329) -/

section
variable {s : State} {c : Nat} {x : Nat → Field}

/-- The mask of one channel names that channel. -/
theorem bitsOf_channel : ∀ c : Fin 8, bitsOf 8 (BitVec.ofNat 8 (2 ^ c.val)).toNat = [c.val] := by decide

theorem State.clearLatch_of_one {ch : Nat} (hon : s.brpOn = true) (hch : bitsOf 8 ch = [c]) :
    s.clearLatch ch x false = s.setB (x c) false := by
  unfold State.clearLatch
  rw [if_pos hon, hch]
  rfl

/-- No trip input is active, and none latches again. -/
theorem State.tripAgain_of_inactive (h : ∀ n, n < 8 → s.tripActive n = false) : s.tripAgain c = s := by
  refine if_neg ?_
  simp only [List.any_eq_true, List.mem_range, Bool.and_eq_true, not_exists, not_and]
  exact fun n hn hactive => absurd hactive (by simp [h n hn])

theorem State.clearTrip_of_one {ch : Nat} (hon : s.brpOn = true) (hch : bitsOf 8 ch = [c])
    (h : ∀ n, n < 8 → (s.setB (x c) false).tripActive n = false) :
    s.clearLatch ch x true = s.rose (s.setB (x c) false) [23] := by
  unfold State.clearLatch
  rw [if_pos hon, hch]
  exact congrArg (s.rose · [23]) (State.tripAgain_of_inactive h)

/-- Whether an input is active does not depend on the latches of a channel. -/
theorem State.tripActive_setB_brpStat {y : Field} (hy : y.addr = R.BRP_STAT c) (b : Bool) {n : Nat} (hn : n < 8) :
    (s.setB y b).tripActive n = s.tripActive n := by
  have hen : (s.setB y b).fb (F.BRP_TRIP.EN n) = s.fb (F.BRP_TRIP.EN n) := by
    refine State.fb_setB_apart _ _ _ _ (.inl ?_)
    rw [hy]
    unfold F.BRP_TRIP.EN R.BRP_TRIP R.BRP_STAT
    dsimp only
    omega
  have hout : (s.setB y b).tripOut n = s.tripOut n := by
    refine congrArg (bitAt · n) (State.reg_setB_ne _ _ _ ?_)
    rw [hy]
    unfold R.MSR_CMPSTAT R.BRP_STAT
    omega
  unfold State.tripActive
  rw [hen, hout]
  rfl

/-- A latch that is cleared reads 0, and nothing but BRP_STATc changes. -/
theorem State.setB_brpStat_spec {y : Field} (hy : IsBrpLatch c y) :
    (s.setB y false).fb y = false ∧ OnlyRegs [R.BRP_STAT c] s (s.setB y false) :=
  ⟨State.fb_setB_same _ _ _ hy.bit (by have := hy.lo; omega), OnlyRegs.refl.setB (hy.addr ▸ List.mem_cons_self)⟩

end

/-! ## The gate supply (10 R313) -/

section
variable {s : State}

/-- Channel c on the fall of the gate supply: both gates off, and a running channel waits for its next boundary. -/
def State.supplyFallen (t : State) (c : Nat) : State :=
  (t.gatesOff c false).modBrpCh c fun x => { x with vgdWait := t.brpRun c }

theorem State.supplyFallen_spec (t : State) (c : Nat) :
    OnChannel c t (t.supplyFallen c) ∧ BothOff c (t.supplyFallen c) := by
  obtain ⟨hgates, hoff⟩ := t.gatesOff_spec c false
  refine ⟨hgates.setBrpCh, ?_⟩
  rw [State.BothOff, State.supplyFallen, State.modBrpCh, State.brpCh_setBrpCh_same]
  exact hoff

theorem State.bothOff_supplyFallen {t : State} {c : Nat} (d : Nat) (h : BothOff c t) :
    BothOff c (t.supplyFallen d) := by
  by_cases hd : c = d
  · exact hd ▸ (t.supplyFallen_spec c).2
  · rw [State.BothOff, (t.supplyFallen_spec d).1.others c hd]
    exact h

theorem State.vgdLow_of_on (hon : s.brpOn = true) :
    s.vgdLow = (s.forAll (List.range 8) State.supplyFallen).setB F.BRP_CTRL.VGDLOW true := if_pos hon

theorem State.vgdRecover_of_on (hon : s.brpOn = true) : s.vgdRecover = s.setB F.BRP_CTRL.VGDLOW false := if_pos hon

/-- The fall of the gate supply turns every gate off, and leaves memory and the latches of every channel. -/
theorem State.forAll_supplyFallen_spec (s : State) : let t := s.forAll (List.range 8) State.supplyFallen
    (∀ c, c < 8 → BothOff c t) ∧ t.mem = s.mem ∧ ∀ d, t.reg (R.BRP_STAT d) = s.reg (R.BRP_STAT d) := by
  refine ⟨fun c hc => State.forAll_establishes (List.mem_range.2 hc) (fun t => (t.supplyFallen_spec c).2)
    (fun _ d => State.bothOff_supplyFallen d) s, ?_⟩
  refine State.forAll_keeps (fun u => u.mem = s.mem ∧ ∀ d, u.reg (R.BRP_STAT d) = s.reg (R.BRP_STAT d)) _ _ s
    ⟨rfl, fun _ => rfl⟩ fun u c _ hu => ?_
  obtain ⟨hmem, hstat⟩ := hu
  have hc := (u.supplyFallen_spec c).1
  exact ⟨hc.mem.trans hmem, fun d => (hc.reg_brpStat d).trans (hstat d)⟩

end

/-- Settles O36: a latch turns its channel's gates off, and each event and command rests on it by its own lemma. -/
theorem bridgeFaultLatches : Obligations.BridgeFaultLatches := by
  refine ⟨fun s c x _ hx hstop => ?_,
    fun s c hon => ⟨?_, fun hen hrose => ?_, fun hen => ?_, fun hho => ?_, fun hho hrun => ?_, ?_⟩,
    fun s n hon => ⟨fun hact => ?_, fun hact => ?_, fun e hw he hout => ?_, fun e hw hout hen => ?_,
      fun c _ hmask => ?_⟩,
    fun s c hon => ⟨?_, ?_, fun hnone => ?_⟩, fun s hon => ⟨?_, ?_⟩⟩
  · obtain ⟨hset, ⟨hho, hlo⟩, hrest⟩ := State.latchBrp_spec (isBrpLatch_of_eq hx) hstop
    exact ⟨hset, hho, hlo, hrest⟩
  · exact congrArg Host.Outcome.next (State.bothonSensed_of_on hon)
  · exact congrArg Host.Outcome.next (State.shortCircuit_of_not_blanked hon hen hrose)
  · exact congrArg Host.Outcome.next (State.shortCircuit_of_disabled hen)
  · have hboot := (State.bootstrapUndervoltage_of_on hon).trans (State.bootLow_of_high_on hho)
    exact ⟨s.bootShown c true, State.bootlow_bootShown true, State.onlyRegs_bootShown true,
      (exec_bootstrapUndervoltage c).trans (congrArg Host.Outcome.next hboot),
      (exec_bootlowChange c true).trans <| (congrArg Host.Outcome.next State.bootlowChange_low).trans
        (exec_bootstrapUndervoltage c).symm⟩
  · exact .intro rfl ((State.bootstrapUndervoltage_of_on hon).trans (State.bootLow_of_idle hho hrun))
      ⟨State.bootlow_bootShown true, State.onlyRegs_bootShown true⟩
  · exact .intro rfl (State.bootlowChange_high_of_on hon)
      ⟨State.bootlow_bootShown false, State.onlyRegs_bootShown false⟩
  · exact congrArg Host.Outcome.next (State.tripInput_of_active hon hact)
  · exact congrArg Host.Outcome.next (State.tripInput_of_inactive hact)
  · have hact := State.tripActive_windowEnded (s := s) (n := n) (e := e)
    exact .intro rfl ((State.tripBlankEnd_of_window hon hw).trans (if_neg (by simp [hact, hout])))
      ⟨State.now_windowEnded he, State.blankEnd_windowEnded, State.sameRegsBut_windowEnded, State.sameMem_windowEnded⟩
  · have hact : (s.windowEnded n e).tripActive n = true := State.tripActive_windowEnded.trans (by simp [hout, hen])
    exact ⟨s.windowEnded n e,
      congrArg Host.Outcome.next ((State.tripBlankEnd_of_window hon hw).trans (if_pos hact)),
      State.blankEnd_windowEnded, hact, State.sameRegsBut_windowEnded⟩
  · exact State.tripStop_of_one hmask
  · exact .intro rfl (State.clearLatch_of_one hon (bitsOf_channel c)) (State.setB_brpStat_spec (isBrpLatch_sc c))
  · exact .intro rfl (State.clearLatch_of_one hon (bitsOf_channel c)) (State.setB_brpStat_spec (isBrpLatch_bootuv c))
  · have hnone' : ∀ n, n < 8 → (s.setB (F.BRP_STAT.TRIP c) false).tripActive n = false := fun n hn =>
      (State.tripActive_setB_brpStat rfl false hn).trans (hnone n hn)
    exact ⟨s.setB (F.BRP_STAT.TRIP c) false,
      congrArg Host.Outcome.next (State.clearTrip_of_one hon (bitsOf_channel c) hnone'),
      State.setB_brpStat_spec (isBrpLatch_trip c)⟩
  · refine .intro rfl (State.vgdLow_of_on hon) ?_
    obtain ⟨hoff, hmem, hstat⟩ := s.forAll_supplyFallen_spec
    generalize s.forAll (List.range 8) State.supplyFallen = t at *
    exact ⟨State.fb_setB_same _ _ _ rfl (by decide), hoff,
      fun c _ => (State.reg_setB_ne _ _ _ (brpStat_ne_ctrl c)).trans (hstat c), State.ldb_congr hmem⟩
  · exact .intro rfl (State.vgdRecover_of_on hon)
      ⟨State.fb_setB_same _ _ _ rfl (by decide), OnlyRegs.refl.setB List.mem_cons_self⟩

end Sys2Proof.Machine

/-! The step (95): every command of the table completes, and leaves the queue of waiting commands to the step. -/

namespace Sys2Proof.Machine

/-- Settles O54: a step looks at the queue only to find its front command. -/
theorem stepTakesTheFrontCommand : Obligations.StepTakesTheFrontCommand := by
  intro c l s hfront
  unfold step
  rw [hfront]

/-- Settles O56: each row of the table answers the next state that its operation gives. -/
theorem everyCommandCompletes : Obligations.EveryCommandCompletes := by
  intro c s
  cases c <;> exact ⟨_, rfl⟩

/-- Settles O57: `exec_evolves` holds of every command, and no operation of the machine touches the queue. -/
theorem commandsLeaveTheQueue : Obligations.CommandsLeaveTheQueue := fun c s t hnext =>
  (exec_evolves c s t hnext).pending

end Sys2Proof.Machine

/-! Power, resets and the host port (16 R454 to R471; 17 R482; 14 R431). First the frame of an operation that writes
registers and hidden state but no memory, then what a power-down and a reset leave of the registers of PD0, and the
commands of the chapter. -/

namespace Sys2Proof.Machine

/-! ## The frame of an operation that writes registers and hidden state -/

/-- From `s` to `t` only the registers at the listed addresses may change, and memory stays. -/
structure State.Touches (l : List Nat) (s t : State) : Prop where
  regs : SameRegsBut l s t
  mem : t.mem = s.mem

section
variable {l : List Nat} {s₀ s t : State}

theorem State.Touches.refl : Touches l s s := ⟨fun _ _ => rfl, rfl⟩

theorem State.Touches.trans (h : Touches l s₀ s) (h' : Touches l s t) : Touches l s₀ t :=
  ⟨fun a ha => (h'.regs a ha).trans (h.regs a ha), h'.mem.trans h.mem⟩

theorem State.Touches.mono {k : List Nat} (h : Touches l s t) (hk : l ⊆ k) : Touches k s t :=
  ⟨fun a ha => h.regs a fun hl => ha (hk hl), h.mem⟩

theorem State.Touches.sameMem (h : Touches l s t) : SameMem s t := State.ldb_congr h.mem

/-- An update of parts other than registers and memory. -/
theorem State.Touches.update (h : Touches l s₀ s) (hregs : t.regs = s.regs) (hmem : t.mem = s.mem) :
    Touches l s₀ t := ⟨h.regs.congr hregs, hmem.trans h.mem⟩

theorem State.Touches.setReg {a : Nat} {v : Word} (h : Touches l s₀ s) (ha : a ∈ l) : Touches l s₀ (s.setReg a v) :=
  ⟨h.regs.setReg ha, h.mem⟩

theorem State.Touches.setF {x : Field} {v : Nat} (h : Touches l s₀ s) (hx : x.addr ∈ l) : Touches l s₀ (s.setF x v) :=
  h.setReg hx

theorem State.Touches.setB {x : Field} {b : Bool} (h : Touches l s₀ s) (hx : x.addr ∈ l) :
    Touches l s₀ (s.setB x b) := h.setReg hx

theorem State.Touches.incF {x : Field} {d : Nat} (h : Touches l s₀ s) (hx : x.addr ∈ l) : Touches l s₀ (s.incF x d) :=
  h.setReg hx

theorem State.Touches.satF {x : Field} {d : Nat} (h : Touches l s₀ s) (hx : x.addr ∈ l) : Touches l s₀ (s.satF x d) :=
  h.setReg hx

theorem State.Touches.ite {c : Prop} [Decidable c] (hs : Touches l s₀ s) (ht : Touches l s₀ t) :
    Touches l s₀ (if c then s else t) := by
  split
  · exact hs
  · exact ht

theorem State.Touches.forAll {α : Type} {xs : List α} {f : State → α → State} (h : Touches l s₀ s)
    (hf : ∀ u x, x ∈ xs → Touches l s₀ u → Touches l s₀ (f u x)) : Touches l s₀ (s.forAll xs f) :=
  State.forAll_keeps _ xs f s h hf

/-- A record enters the input buffer of the Ledger, or counts in FCU_LDGLOST. -/
theorem State.Touches.record {block src code data : Nat} (h : Touches l s₀ s) (hl : R.FCU_LDGLOST ∈ l) :
    Touches l s₀ (s.record block src code data) :=
  .ite (.ite (h.update rfl rfl) (h.incF hl)) h

theorem State.Touches.note {block code data : Nat} (h : Touches l s₀ s) (hl : R.FCU_LDGLOST ∈ l) :
    Touches l s₀ (s.note block code data) := h.record hl

theorem State.Touches.f {x : Field} (h : Touches l s t) (hx : x.addr ∉ l) : t.f x = s.f x := h.regs.f hx

theorem State.Touches.fb {x : Field} (h : Touches l s t) (hx : x.addr ∉ l) : t.fb x = s.fb x := h.regs.fb hx

theorem State.Touches.on (h : Touches l s t) (hl : R.SYSC_PSTAT ∉ l) (d : Nat) : t.on d = s.on d :=
  congrArg (bitAt · d) (h.regs _ hl)

theorem OnlyRegs.touches (h : OnlyRegs l s t) : State.Touches l s t := ⟨h.2, (congrArg State.mem h.1 :)⟩

theorem OnlyRegs.trans (h : OnlyRegs l s₀ s) (h' : OnlyRegs l s t) : OnlyRegs l s₀ t :=
  ⟨h'.1.trans (congrArg (fun u : State => { u with regs := t.regs }) h.1), fun a ha => (h'.2 a ha).trans (h.2 a ha)⟩

theorem OnlyRegs.incF {x : Field} {d : Nat} (h : OnlyRegs l s t) (hx : x.addr ∈ l) : OnlyRegs l s (t.incF x d) :=
  h.setReg hx

theorem OnlyRegs.satF {x : Field} {d : Nat} (h : OnlyRegs l s t) (hx : x.addr ∈ l) : OnlyRegs l s (t.satF x d) :=
  h.setReg hx

theorem OnlyRegs.w1c {a : Nat} {m : Word} (h : OnlyRegs l s t) (ha : a ∈ l) : OnlyRegs l s (t.w1c a m) := h.setReg ha

end

/-! ## Domains switched off, and what a reset keeps of PD0 (16 R454, R455, R464) -/

section
variable {s : State}

/-- Each domain of the list goes off, and the others stay as they are. -/
theorem State.on_forAll_powerOff {l : List Nat} (hl : ∀ d ∈ l, 1 ≤ d ∧ d < 32) (e : Nat) :
    (s.forAll l State.powerOff).on e = (s.on e && !decide (e ∈ l)) := by
  induction l generalizing s with
  | nil => simp [State.forAll]
  | cons d l ih =>
    obtain ⟨hd, hlt⟩ := hl d List.mem_cons_self
    have hrest := ih (s := s.powerOff d) fun x hx => hl x (List.mem_cons_of_mem d hx)
    rw [State.on_powerOff s hd hlt] at hrest
    refine hrest.trans ?_
    by_cases he : e = d <;> simp [he]

theorem ne_clkStatus_of_pd0 {a : Nat} (hdom : regDom a = 0) : a ≠ R.CLK_STATUS := by
  rintro rfl
  have hclk : regDom R.CLK_STATUS = 1 := by decide
  simp [hclk] at hdom

/-- A register of PD0 other than SYSC_PSTAT stays when other domains go off. -/
theorem State.reg_forAll_powerOff {l : List Nat} (hl : ∀ d ∈ l, 1 ≤ d) {a : Nat} (hdom : regDom a = 0)
    (ha : a ≠ R.SYSC_PSTAT) : (s.forAll l State.powerOff).reg a = s.reg a := by
  refine State.forAll_keeps (fun t => t.reg a = s.reg a) l _ s rfl fun t d hd ht => ?_
  have hclk : a ≠ R.CLK_STATUS := ne_clkStatus_of_pd0 hdom
  rw [State.reg_powerOff t (.inr hclk) ha, if_neg (by have := hl d hd; omega), ht]

/-- A register of PD0 that a reset does not name keeps its word. -/
theorem State.reg_chipReset {a : Nat} (hdom : regDom a = 0) (ha : a ∉ [R.SYSC_PSTAT, R.SYSC_AUTH, R.SYSC_MODE]) :
    s.chipReset.reg a = s.reg a := by
  obtain ⟨hpstat, ha⟩ := List.ne_and_not_mem_of_not_mem_cons ha
  obtain ⟨hauth, ha⟩ := List.ne_and_not_mem_of_not_mem_cons ha
  have hmode := List.ne_of_not_mem_cons ha
  have hclk : a ≠ R.CLK_STATUS := ne_clkStatus_of_pd0 hdom
  unfold State.chipReset
  extract_lets bed offs keep s1 s2 s3 s4 s5
  rw [State.reg_upd]
  have hs1 : s1.reg a = s.reg a := by
    refine State.reg_forAll_powerOff (fun d hd => ?_) hdom hpstat
    obtain ⟨hd, -⟩ := Bool.and_eq_true_iff.1 (List.mem_filter.1 hd).2
    cases hbed : bed <;> simp only [hbed, if_true, Bool.false_eq_true, if_false, decide_eq_true_eq] at hd <;> omega
  have hs2 : s2.reg a = s1.reg a := by
    refine State.forAll_keeps (fun t => t.reg a = s1.reg a) keep _ s1 rfl fun t d hd ht => ?_
    have hd1 : 1 ≤ d := by
      cases hbed : bed with
      | true => simp [keep, hbed] at hd
      | false => simp [keep, hbed] at hd; exact hd.2.1
    rw [State.reg_initUnits, State.reg_dropRegs _ (.inr hclk), if_neg (by omega), ht]
  have hs3 : s3.reg a = s2.reg a := (State.reg_setReg_ne _ _ hmode).trans (State.reg_setReg_ne _ _ hauth)
  have hs5 : s5.reg a = s3.reg a := (State.reg_setF_ne _ _ _ hpstat).trans <| (State.reg_setF_ne _ _ _ hpstat).trans <|
    (State.reg_setF_ne _ _ _ hpstat).trans (State.reg_setF_ne _ _ _ hpstat)
  exact hs5.trans (hs3.trans (hs2.trans hs1))

end

/-! ## Supply edges and resets (16 R454, R464; 17 R482) -/

section
variable {s : State}

/-- What a byte reads after VBED has gone or come: the flash keeps its contents. -/
theorem State.ldb_coldStart (vbed : Bool) (a : Nat) :
    (s.coldStart vbed).ldb a = if regionOf a = .flash then s.ldb a else memDefault a := by
  have hmem : (s.coldStart vbed).mem = tblDrop (fun a => decide (regionOf a ≠ .flash)) s.mem := by
    cases vbed <;> rfl
  rw [State.ldb, hmem, tblGet_tblDrop]
  by_cases h : regionOf a = .flash <;> simp [h, State.ldb]

theorem State.vbedUp_of_absent (h : s.pwr.vbed = false) : s.vbedUp = s.coldStart true := if_neg (by simp [h])

theorem State.vbedOff_of_present (h : s.pwr.vbed = true) : s.vbedOff = s.coldStart false := if_pos h

/-- Without VBED SYSC_PSTAT shows every domain off. -/
theorem State.on_coldStart_absent (d : Nat) : (s.coldStart false).on d = false := by
  have hpstat : (s.coldStart false).reg R.SYSC_PSTAT = 0 := State.reg_setReg_same _ _ _
  rw [State.on, hpstat]
  exact BitVec.getLsbD_zero

/-- The state after a supply collapse has switched the domains above PD0 off, before SYSC_PSTAT shows it. -/
def State.domainsOff (s : State) : State :=
  s.forAll ((List.range 12).filter fun d => decide (1 ≤ d) && s.on d) State.powerOff

theorem State.on_domainsOff {d : Nat} (hd : 1 ≤ d) (h12 : d < 12) : s.domainsOff.on d = false := by
  have hl : ∀ e ∈ (List.range 12).filter (fun d => decide (1 ≤ d) && s.on d), 1 ≤ e ∧ e < 32 := fun e he => by
    simp at he
    omega
  rw [State.domainsOff, State.on_forAll_powerOff hl]
  cases hon : s.on d <;> simp [hd, h12, hon]

/-- A supply collapse shows BEDROCK and RESULT 9 in SYSC_PSTAT. -/
def State.collapsed (s : State) : State :=
  let t := (((s.domainsOff.setF F.SYSC_PSTAT.BUSY 0).setF F.SYSC_PSTAT.PENDING 0).setF F.SYSC_PSTAT.RESULT 9).setF
    F.SYSC_PSTAT.STATE 1
  { t with pwr := { t.pwr with inReset := true, downs := [], ups := [], pend := none, rom := .idle } }

theorem State.supplyCollapse_of_on (hon : s.on 0 = true) : s.supplyCollapse = s.collapsed := if_pos hon

theorem State.collapsed_pstat : s.collapsed.f F.SYSC_PSTAT.STATE = 1 ∧ s.collapsed.f F.SYSC_PSTAT.RESULT = 9 ∧
    s.collapsed.fb F.SYSC_PSTAT.BUSY = false := by
  unfold State.collapsed
  extract_lets t
  refine ⟨State.f_setF_same _ _ _ (by decide), ?_, ?_⟩
  · exact (State.f_setF_apart _ _ F.SYSC_PSTAT.RESULT _ (by decide)).trans (State.f_setF_same _ _ _ (by decide))
  · exact (State.fb_setF_apart _ _ F.SYSC_PSTAT.BUSY _ (by decide)).trans <|
      (State.fb_setF_apart _ _ _ _ (by decide)).trans <| (State.fb_setF_apart _ _ _ _ (by decide)).trans <|
        State.fb_setF_same _ _ _ rfl (by decide)

theorem State.on_collapsed {d : Nat} (hd : 1 ≤ d) (h12 : d < 12) : s.collapsed.on d = false := by
  have hfield (t : State) {x : Field} (v : Nat) (hx : d < x.lo) : (t.setF x v).on d = t.on d :=
    State.on_setF t x v d (.inr (.inl hx))
  exact (hfield _ _ (Nat.lt_trans h12 (by decide))).trans <| (hfield _ _ (Nat.lt_trans h12 (by decide))).trans <|
    (hfield _ _ (Nat.lt_trans h12 (by decide))).trans <| (hfield _ _ (Nat.lt_trans h12 (by decide))).trans <|
      State.on_domainsOff hd h12

theorem State.rstcause_collapsed : s.collapsed.reg R.FCU_RSTCAUSE = s.reg R.FCU_RSTCAUSE := by
  have hfield (t : State) {x : Field} (v : Nat) (hx : R.FCU_RSTCAUSE ≠ x.addr) :
      (t.setF x v).reg R.FCU_RSTCAUSE = t.reg R.FCU_RSTCAUSE := State.reg_setF_ne t x v hx
  refine (hfield _ _ (by decide)).trans <| (hfield _ _ (by decide)).trans <| (hfield _ _ (by decide)).trans <|
    (hfield _ _ (by decide)).trans <| State.reg_forAll_powerOff (fun d hd => ?_) (by decide) (by decide)
  exact of_decide_eq_true (Bool.and_eq_true_iff.1 (List.mem_filter.1 hd).2).1

theorem State.resetN_of_on (hon : s.on 0 = true) : s.resetN = (s.setReg R.FCU_RSTCAUSE 0x100).chipReset := if_pos hon

theorem State.syscReset_of_key {req : Requester} (hon : s.on 0 = true) (hlive : s.live = true)
    (hreq : s.authority req = true ∨ req = .core0) : s.syscReset req 0x0A5C = s.resetN :=
  if_pos (by simp [hon, hlive, hreq])

theorem State.syscReset_of_no_key {req : Requester} {key : Nat} (hkey : key ≠ 0x0A5C) : s.syscReset req key = s :=
  if_neg (by simp [hkey])

end

/-- Settles O1: the supply edges start from `coldStart` or switch the domains off one by one; both resets are one. -/
theorem supplyEdgesAndResets : Obligations.SupplyEdgesAndResets := by
  refine ⟨fun s hv => ?_, fun s hv => ?_, fun s hon => ?_, fun s hon => ?_, fun s req hon hlive hreq => ?_,
    fun s req key hkey => ?_⟩
  · exact .intro rfl (State.vbedUp_of_absent hv) ⟨fun _ => rfl, rfl, rfl, rfl, rfl, State.ldb_coldStart true⟩
  · exact .intro rfl (State.vbedOff_of_present hv)
      ⟨rfl, State.on_coldStart_absent, State.reg_setReg_ne _ _ (by decide), rfl, State.ldb_coldStart false⟩
  · obtain ⟨hstate, hresult, hbusy⟩ := s.collapsed_pstat
    exact .intro rfl (State.supplyCollapse_of_on hon)
      ⟨hstate, hresult, hbusy, rfl, fun _ => State.on_collapsed, State.rstcause_collapsed⟩
  · exact congrArg Host.Outcome.next (State.resetN_of_on hon)
  · exact congrArg Host.Outcome.next (State.syscReset_of_key hon hlive hreq)
  · exact congrArg Host.Outcome.next (State.syscReset_of_no_key fun h => hkey (BitVec.eq_of_toNat_eq h))

end Sys2Proof.Machine

namespace Sys2Proof.Machine

/-! ## Power commands and their sequence (16 R456 to R461) -/

section
variable {s : State}

theorem State.powerCommand_of_taken {req : Requester} (hon : s.on 0 = true) (hreq : req = .host ∨ s.live = true)
    (st opt : Nat) : s.powerCommand req st opt = match s.powerRefusal req st opt with
      | some r => s.powerResult r.1 r.2
      | none => if s.fb F.SYSC_PSTAT.BUSY then
          { s.setB F.SYSC_PSTAT.PENDING true with pwr := { s.pwr with pend := some (st, opt) } }
        else s.powerStart st opt := if_pos (by simpa [hon] using hreq)

theorem State.powerCommand_of_accepted {req : Requester} {st opt : Nat} (hon : s.on 0 = true)
    (hreq : req = .host ∨ s.live = true) (hok : s.powerRefusal req st opt = none)
    (hidle : s.fb F.SYSC_PSTAT.BUSY = false) : s.powerCommand req st opt = s.powerStart st opt := by
  rw [State.powerCommand_of_taken hon hreq, hok]
  exact if_neg (by simp [hidle])

theorem State.powerCommand_of_refused {req : Requester} {st opt : Nat} {r : Nat × Nat} (hon : s.on 0 = true)
    (hreq : req = .host ∨ s.live = true) (hno : s.powerRefusal req st opt = some r) :
    s.powerCommand req st opt = s.powerResult r.1 r.2 := by
  rw [State.powerCommand_of_taken hon hreq, hno]

/-- A result writes RESULT, DOMAIN and DONE of SYSC_PSTAT and nothing else. -/
theorem State.onlyRegs_powerResult (r d : Nat) : OnlyRegs [R.SYSC_PSTAT] s (s.powerResult r d) :=
  .setB (.setF (.setF .refl List.mem_cons_self) List.mem_cons_self) List.mem_cons_self

theorem State.result_powerResult (r d : Nat) : (s.powerResult r d).f F.SYSC_PSTAT.RESULT = r % 16 :=
  (State.f_setB_apart _ _ _ _ (by decide)).trans <| (State.f_setF_apart _ _ _ _ (by decide)).trans <|
    State.f_setF_same _ _ _ (by decide)

theorem State.domain_powerResult (r d : Nat) : (s.powerResult r d).f F.SYSC_PSTAT.DOMAIN = d % 16 :=
  (State.f_setB_apart _ _ _ _ (by decide)).trans (State.f_setF_same _ _ _ (by decide))

theorem State.done_powerResult (r d : Nat) : (s.powerResult r d).fb F.SYSC_PSTAT.DONE = true :=
  State.fb_setB_same _ _ _ rfl (by decide)

/-- The bits ON, BUSY and STATE of SYSC_PSTAT stand below or above the fields of a result. -/
theorem State.on_powerResult (r : Nat) {d e : Nat} (he : e < 12) : (s.powerResult r d).on e = s.on e :=
  (State.on_setF _ _ _ _ (.inr (.inl (Nat.lt_trans he (by decide))))).trans <|
    (State.on_setF _ _ _ _ (.inr (.inl (Nat.lt_trans he (by decide))))).trans <|
      State.on_setF _ _ _ _ (.inr (.inl (Nat.lt_trans he (by decide))))

theorem State.busy_powerResult (r d : Nat) : (s.powerResult r d).fb F.SYSC_PSTAT.BUSY = s.fb F.SYSC_PSTAT.BUSY :=
  (State.fb_setB_apart _ _ _ _ (by decide)).trans <| (State.fb_setF_apart _ _ _ _ (by decide)).trans <|
    State.fb_setF_apart _ _ _ _ (by decide)

theorem State.state_powerResult (r d : Nat) : (s.powerResult r d).f F.SYSC_PSTAT.STATE = s.f F.SYSC_PSTAT.STATE :=
  (State.f_setB_apart _ _ _ _ (by decide)).trans <| (State.f_setF_apart _ _ _ _ (by decide)).trans <|
    State.f_setF_apart _ _ _ _ (by decide)

/-- Only the sequencer's hidden state and BUSY change when a sequence starts. -/
theorem State.powerStart_frame (st opt : Nat) : (s.powerStart st opt).fb F.SYSC_PSTAT.BUSY = true ∧
    SameRegsBut [R.SYSC_PSTAT] s (s.powerStart st opt) :=
  ⟨State.fb_setB_same s _ true rfl (by decide), 
    fun _ ha => State.reg_setB_ne s F.SYSC_PSTAT.BUSY true (List.ne_of_not_mem_cons ha)⟩

theorem State.domainDown_of_next {d : Nat} {l : List Nat} (hbusy : s.fb F.SYSC_PSTAT.BUSY = true)
    (hdowns : s.pwr.downs = d :: l) : s.domainDown d =
      { s.powerOff d with pwr := { (s.powerOff d).pwr with
        downs := l, inReset := (s.powerOff d).pwr.inReset || decide (d = 3),
        rom := if d = 3 then .idle else (s.powerOff d).pwr.rom } } := by
  unfold State.domainDown
  rw [hdowns]
  exact if_pos (by simp [hbusy])

/-- Domain d is on, and the domains that follow it wait. -/
def State.poweredUp (s : State) (d : Nat) (l : List Nat) : State :=
  { s.powerOn d with pwr := { (s.powerOn d).pwr with ups := l } }

theorem State.domainUp_of_next {d : Nat} {l : List Nat} (hbusy : s.fb F.SYSC_PSTAT.BUSY = true)
    (hdowns : s.pwr.downs = []) (hups : s.pwr.ups = d :: l) : s.domainUp d =
      if d = 1 then (s.poweredUp d l).dllEnable.dllLock
      else if d = 9 then (s.poweredUp d l).strapRole else s.poweredUp d l := by
  unfold State.domainUp
  rw [hdowns, hups]
  exact if_pos (by simp [hbusy])

theorem State.on_poweredUp {d : Nat} (l : List Nat) (hd : 1 ≤ d) (h32 : d < 32) : (s.poweredUp d l).on d = true := by
  rw [State.poweredUp, State.on_upd, State.on_powerOn s hd h32, if_pos rfl]

/-- The strap gives PD9 its role in RNG_STATUS. -/
theorem State.onlyRegs_strapRole : OnlyRegs [R.RNG_STATUS] s s.strapRole := by
  unfold State.strapRole
  split
  · exact .setF .refl List.mem_cons_self
  · exact .setF .refl List.mem_cons_self
  · exact .setB .refl List.mem_cons_self
  · exact .refl

/-- A domain that comes on next stands on, also where it takes its role from the strap. -/
theorem State.domainUp_spec {d : Nat} {l : List Nat} (hbusy : s.fb F.SYSC_PSTAT.BUSY = true)
    (hdowns : s.pwr.downs = []) (hups : s.pwr.ups = d :: l) (hd : 2 ≤ d) (h32 : d < 32) :
    (s.domainUp d).on d = true ∧ (s.domainUp d).pwr.ups = l := by
  have hon := s.on_poweredUp l (Nat.le_of_succ_le hd) h32
  have hrole : OnlyRegs [R.RNG_STATUS] (s.poweredUp d l) (s.poweredUp d l).strapRole := State.onlyRegs_strapRole
  have hpwr : (s.poweredUp d l).strapRole.pwr = (s.poweredUp d l).pwr := (congrArg State.pwr hrole.1 :)
  rw [State.domainUp_of_next hbusy hdowns hups, if_neg (by omega)]
  split
  · exact ⟨(hrole.touches.on (by decide) d).trans hon, congrArg PowerUnit.ups hpwr⟩
  · exact ⟨hon, rfl⟩

/-- The end of a sequence without a command that waits: the state reached and its result. -/
def State.sequenceOver (s : State) (st r d : Nat) : State :=
  ((s.setB F.SYSC_PSTAT.BUSY false).setF F.SYSC_PSTAT.STATE st).powerResult r d

theorem State.powerEnd_of_none {st r d : Nat} (hpend : s.pwr.pend = none) :
    s.powerEnd st r d = s.sequenceOver st r d := by
  have hkept : (s.sequenceOver st r d).pwr.pend = none := hpend
  unfold State.powerEnd
  rw [State.sequenceOver] at hkept
  simp only [hkept]
  rfl

theorem State.sequenceOver_spec (st r d : Nat) : (s.sequenceOver st r d).fb F.SYSC_PSTAT.BUSY = false ∧
    (s.sequenceOver st r d).f F.SYSC_PSTAT.STATE = st % 8 ∧ (s.sequenceOver st r d).f F.SYSC_PSTAT.RESULT = r % 16 ∧
    (s.sequenceOver st r d).fb F.SYSC_PSTAT.DONE = true ∧ OnlyRegs [R.SYSC_PSTAT] s (s.sequenceOver st r d) :=
  ⟨(State.busy_powerResult r d).trans <| (State.fb_setF_apart _ _ _ _ (by decide)).trans <|
      State.fb_setB_same _ _ _ rfl (by decide),
    (State.state_powerResult r d).trans (State.f_setF_same _ _ _ (by decide)), State.result_powerResult r d,
    State.done_powerResult r d,
    .trans (.setF (.setB .refl List.mem_cons_self) List.mem_cons_self) (State.onlyRegs_powerResult r d)⟩

theorem State.powerDone_of_over (hbusy : s.fb F.SYSC_PSTAT.BUSY = true) (hdowns : s.pwr.downs = [])
    (hups : s.pwr.ups = []) : s.powerDone = s.powerEnd s.pwr.target 0 0 := if_pos (by simp [hbusy, hdowns, hups])

theorem State.noclk_of_waiting {l : List Nat} (hbusy : s.fb F.SYSC_PSTAT.BUSY = true) (hdowns : s.pwr.downs = [])
    (hups : s.pwr.ups = 1 :: l) :
    s.noclk = State.powerEnd { s with pwr := { s.pwr with ups := [] } } 1 8 1 := if_pos (by simp [hbusy, hdowns, hups])

/-- The command of a target state, by its code. -/
theorem exec_powerCommand (req : Requester) (opt : BitVec 12) (st : Fin 4) :
    exec (match st with
      | 0 => Instr.powerCommandBedrock req opt
      | 1 => .powerCommandStandby req opt
      | 2 => .powerCommandReady req opt
      | 3 => .powerCommandRun req opt) s = .next (s.powerCommand req (st.val + 1) opt.toNat) := by
  match st with
  | 0 => rfl
  | 1 => rfl
  | 2 => rfl
  | 3 => rfl

end

/-- Settles O3: a command starts a sequence or is answered, and each event of the sequence by its own lemma. -/
theorem powerCommandsAndSequence : Obligations.PowerCommandsAndSequence := by
  refine ⟨fun s req opt st hon hreq => ?_, fun s d l hbusy hdowns hd => ?_, fun s d l hbusy hdowns hups hd => ?_,
    fun s l hbusy hdowns hups => ?_, fun s hbusy hdowns hups hpend => ?_, fun s l hbusy hdowns hups hpend => ?_⟩
  · refine ⟨fun hok hidle => ?_, fun r hno => ?_⟩
    · obtain ⟨hbusy, hregs⟩ := s.powerStart_frame (st.val + 1) opt.toNat
      exact .intro (exec_powerCommand req opt st) (State.powerCommand_of_accepted hon hreq hok hidle)
        ⟨hbusy, rfl, rfl, rfl, hregs⟩
    · exact .intro (exec_powerCommand req opt st) (State.powerCommand_of_refused hon hreq hno)
        ⟨State.result_powerResult _ _, State.domain_powerResult _ _, State.done_powerResult _ _,
          fun d hd => State.on_powerResult _ hd, State.onlyRegs_powerResult _ _⟩
  · refine .intro rfl (State.domainDown_of_next hbusy hdowns) ⟨?_, rfl⟩
    rw [State.on_upd, State.on_powerOff s hd (by omega), if_pos rfl]
  · exact .intro rfl rfl (State.domainUp_spec hbusy hdowns hups hd (by omega))
  · have hup := (State.domainUp_of_next hbusy hdowns hups).trans (if_pos rfl)
    exact ⟨s.poweredUp 1 l, congrArg Host.Outcome.next hup, State.on_poweredUp l (by decide) (by decide), rfl⟩
  · have hend := (State.powerDone_of_over hbusy hdowns hups).trans (State.powerEnd_of_none hpend)
    obtain ⟨hidle, hstate, hresult, hdone, hregs⟩ := s.sequenceOver_spec s.pwr.target 0 0
    exact ⟨_, congrArg (fun t : State => Host.Outcome.next t.mgmtSettle) hend, hidle, hstate, hresult, hdone, hregs⟩
  · have hend := (State.noclk_of_waiting hbusy hdowns hups).trans (State.powerEnd_of_none hpend)
    obtain ⟨hidle, hstate, hresult, -, -⟩ := State.sequenceOver_spec (s := { s with pwr := { s.pwr with ups := [] } }) 1 8 1
    exact ⟨_, congrArg (fun t : State => Host.Outcome.next t.mgmtSettle) hend, hidle, hstate, hresult, rfl⟩

end Sys2Proof.Machine

namespace Sys2Proof.Machine

/-! ## Authority, service mode, core starts and wake causes (16 R461, R463, R465, R466; 14 R431) -/

/-- The frame of an operation on the processors only. -/
def OnlyProcs (s t : State) : Prop := t = { s with procs := t.procs }

section
variable {s t : State}

theorem OnlyProcs.regs (h : OnlyProcs s t) : t.regs = s.regs := (congrArg State.regs h :)

theorem OnlyProcs.trans {u : State} (h : OnlyProcs s t) (h' : OnlyProcs t u) : OnlyProcs s u :=
  Eq.trans h' (congrArg (fun x : State => { x with procs := u.procs }) h)

theorem onlyProcs_modProc (p : Nat) (f : Proc → Proc) : OnlyProcs s (s.modProc p f) := rfl

/-- Operations on one processor each, over a list without repetition: every processor of the list gets its own value,
and the others stay. -/
theorem State.proc_forAll {op : State → Nat → State} {g : Nat → Proc → Proc} {l : List Nat} (hl : l.Nodup)
    (hop : ∀ t n, OnlyProcs s t → OnlyProcs t (op t n) ∧
      ∀ q, (op t n).proc q = if q = n then g n (t.proc n) else t.proc q) :
    OnlyProcs s (s.forAll l op) ∧ ∀ q, (s.forAll l op).proc q = if q ∈ l then g q (s.proc q) else s.proc q := by
  induction l generalizing s with
  | nil => exact ⟨rfl, fun q => by simp [State.forAll]⟩
  | cons n l ih =>
    obtain ⟨hn, hl⟩ := List.nodup_cons.1 hl
    obtain ⟨hfirst, hproc⟩ := hop s n rfl
    obtain ⟨hrest, hprocs⟩ := ih (s := op s n) hl fun t m ht => hop t m (hfirst.trans ht)
    refine ⟨hfirst.trans hrest, fun q => (hprocs q).trans ?_⟩
    rw [hproc q]
    by_cases hq : q = n
    · simp [hq, hn]
    · simp [hq]

theorem State.proc_modProc (p : Nat) (f : Proc → Proc) (q : Nat) :
    (s.modProc p f).proc q = if q = p then f (s.proc p) else s.proc q := tblGet_tblSet _ _ _ _ _

/-- The processors of a list changed alike. -/
theorem State.proc_forAll_modProc {l : List Nat} (hl : l.Nodup) (f : Proc → Proc) (q : Nat) :
    (s.forAll l fun t p => t.modProc p f).proc q = if q ∈ l then f (s.proc q) else s.proc q :=
  (State.proc_forAll (g := fun _ => f) hl fun _ p _ => ⟨onlyProcs_modProc p f, State.proc_modProc p f⟩).2 q

end

section
variable {s : State} {req : Requester}

theorem State.authWrite_of_host (hon : s.on 0 = true) (ring : Bool) :
    s.authWrite .host ring = s.setB F.SYSC_AUTH.RING ring := if_pos (by simp [hon])

theorem State.authWrite_of_other (hreq : req ≠ .host) (ring : Bool) : s.authWrite req ring = s :=
  if_neg (by simp [hreq])

theorem State.modeWrite_of_other (hon : s.on 0 = true) (hreq : req = .host ∨ s.live = true)
    (hauth : s.authority req = false) (m : Bool) : s.modeWrite req m = s.powerResult 1 0 :=
  (if_pos (by simpa [hon] using hreq)).trans (if_pos (by simp [hauth]))

/-- While stack time is valid, the mode asked for waits for the boundary. -/
theorem State.modeWrite_of_authority (hon : s.on 0 = true) (hreq : req = .host ∨ s.live = true)
    (hauth : s.authority req = true) (hvalid : s.timeValid = true) (m : Bool) :
    s.modeWrite req m = s.setB F.SYSC_MODE.COMMISSION m := by
  have hkept : (s.setB F.SYSC_MODE.COMMISSION m).timeValid = true := (State.fb_setB_apart _ _ _ _ (by decide)).trans hvalid
  refine (if_pos (by simpa [hon] using hreq)).trans <| (if_neg (by simp [hauth])).trans (if_pos hkept)

/-- Core n as a start leaves it: a halted core of a domain that is on runs from its entry. -/
def State.coreStarted (s : State) (m n : Nat) (q : Proc) : Proc :=
  if m.testBit n = true ∧ s.on 4 = true ∧ q.run = .halted then
    { q with run := .running, pc := s.reg (R.SYSC_CENTRY n) &&& 0xFFFFFFFC#32 }
  else q

theorem State.coreStart_spec (hlive : s.live = true) (m : Nat) : OnlyProcs s (s.coreStart .core0 m) ∧
    ∀ n, (s.coreStart .core0 m).proc n =
      if n ∈ [1, 2, 3] then s.coreStarted m n (s.proc n) else s.proc n := by
  rw [show s.coreStart .core0 m = _ from if_pos (by simp [hlive])]
  refine State.proc_forAll (by decide) fun t n ht => ?_
  rw [State.on_congr ht.regs, State.reg_congr ht.regs]
  unfold State.coreStarted
  by_cases hstart : m.testBit n = true ∧ s.on 4 = true ∧ (t.proc n).run = .halted
  · rw [if_pos (by simpa [and_assoc] using hstart), if_pos hstart]
    exact ⟨onlyProcs_modProc n _, State.proc_modProc n _⟩
  · rw [if_neg (by simpa [and_assoc] using hstart), if_neg hstart]
    refine ⟨rfl, fun q => ?_⟩
    split
    · next h => rw [h]
    · rfl

theorem State.coreStart_of_other (hreq : req ≠ .core0) (m : Nat) : s.coreStart req m = s := if_neg (by simp [hreq])

theorem State.wakePattern_of_enabled {n : Nat} (hon : s.on 0 = true) (hoff : s.on 10 = false)
    (hen : s.fb (if n = 0 then F.CAN_WAKECFG.WUPEN0 else F.CAN_WAKECFG.WUPEN1) = true) :
    s.wakePattern n = s.wakeCause n := if_pos (by simp [hon, hoff, hen])

theorem State.bedrockAlarm_of_due (hon : s.on 0 = true) (hset : s.f F.SYSC_ALARM.SECS ≠ 0)
    (hdue : s.f F.SYSC_BSEC.SECS ≤ s.f F.SYSC_ALARM.SECS) :
    s.bedrockAlarm = (s.untilSecond (s.f F.SYSC_ALARM.SECS)).setB F.SYSC_WAKE.ALARM true :=
  if_pos (by simp [hon, hset, hdue])

/-- The causes named are cleared in CAN_WAKESTAT, and ALARM where it is named. -/
theorem State.wakeClear_of_taken (hon : s.on 0 = true) (hreq : req = .host ∨ s.live = true) (alarm : Bool) (can : Nat) :
    s.wakeClear req alarm can = if alarm then (s.w1c R.CAN_WAKESTAT (wN can)).setB F.SYSC_WAKE.ALARM false
      else s.w1c R.CAN_WAKESTAT (wN can) := if_pos (by simpa [hon] using hreq)

theorem State.wakeClear_spec (hon : s.on 0 = true) (hreq : req = .host ∨ s.live = true) (alarm : Bool) (can : Nat) :
    (s.wakeClear req alarm can).reg R.CAN_WAKESTAT = s.reg R.CAN_WAKESTAT &&& ~~~ wN can ∧
      (s.wakeClear req alarm can).fb F.SYSC_WAKE.ALARM = (!alarm && s.fb F.SYSC_WAKE.ALARM) ∧
      OnlyRegs [R.CAN_WAKESTAT, R.SYSC_WAKE] s (s.wakeClear req alarm can) := by
  have hclear : OnlyRegs [R.CAN_WAKESTAT, R.SYSC_WAKE] s (s.w1c R.CAN_WAKESTAT (wN can)) := OnlyRegs.refl.w1c (by decide)
  have hstat : (s.w1c R.CAN_WAKESTAT (wN can)).reg R.CAN_WAKESTAT = s.reg R.CAN_WAKESTAT &&& ~~~ wN can :=
    State.reg_setReg_same _ _ _
  rw [State.wakeClear_of_taken hon hreq]
  cases alarm with
  | true => exact ⟨(State.reg_setB_ne _ _ _ (by decide)).trans hstat, State.fb_setB_same _ _ _ rfl (by decide),
      hclear.setB (by decide)⟩
  | false => exact ⟨hstat, State.fb_setReg_ne _ _ _ _ (by decide), hclear⟩

end

/-- Settles O4: who may write decides a write of SYSC_AUTH or SYSC_MODE; a core start changes the named halted cores. -/
theorem authorityModeAndCores : Obligations.AuthorityModeAndCores := by
  refine ⟨fun s ring hon => ?_, fun s req ring hreq => ?_, fun s req m hon hreq => ⟨fun hauth hvalid => ?_, fun hauth => ?_⟩,
    fun s start hlive => ?_, fun s req start hreq => ?_, fun s n hon hoff hen => ?_, fun s hon hset hdue => ?_,
    fun s req alarm can hon hreq => ?_⟩
  · exact .intro rfl (State.authWrite_of_host hon ring)
      ⟨State.fb_setB_same _ _ _ rfl (by decide), OnlyRegs.refl.setB List.mem_cons_self⟩
  · exact congrArg Host.Outcome.next (State.authWrite_of_other hreq ring)
  · exact .intro rfl (State.modeWrite_of_authority hon hreq hauth hvalid m)
      ⟨State.fb_setB_same _ _ _ rfl (by decide), State.fb_setB_apart _ _ _ _ (by decide),
        OnlyRegs.refl.setB List.mem_cons_self⟩
  · exact congrArg Host.Outcome.next (State.modeWrite_of_other hon hreq hauth m)
  · obtain ⟨hframe, hproc⟩ := State.coreStart_spec hlive start.toNat
    refine .intro rfl rfl ⟨hframe, fun n => (hproc n).trans ?_⟩
    unfold State.coreStarted
    rw [← ite_and]
    simp
  · exact congrArg Host.Outcome.next (State.coreStart_of_other hreq _)
  · exact congrArg Host.Outcome.next (State.wakePattern_of_enabled hon hoff (by simpa using hen))
  · exact .intro rfl (State.bedrockAlarm_of_due hon hset hdue) (State.fb_setB_same _ _ _ rfl (by decide))
  · exact .intro rfl rfl (State.wakeClear_spec hon hreq alarm can.toNat)

end Sys2Proof.Machine

namespace Sys2Proof.Machine

/-! ## The status byte, the mailbox and the doorbell (16 R468, R470) -/

/-- The status byte as HP_STATUS reads it (R468). -/
def State.statusByte (s : State) : Nat :=
  128 + b2n (s.fb F.HPD_STATUS.DBGATT) * 64 + b2n (s.fb F.HPD_STATUS.HERR) * 32 +
    b2n (decide (s.qCap 25 ≤ (s.queue 25).length)) * 16 + b2n (!(s.queue 26).isEmpty) * 8 +
    b2n (s.fb F.HPD_STATUS.LATE) * 4

/-- A byte written as a sum of flags at its places. -/
theorem getLsbD_statusByte (att herr full some_ late : Bool) :
    let v := BitVec.ofNat 64 (128 + b2n att * 64 + b2n herr * 32 + b2n full * 16 + b2n some_ * 8 + b2n late * 4)
    v.getLsbD 7 = true ∧ v.getLsbD 6 = att ∧ v.getLsbD 5 = herr ∧ v.getLsbD 3 = some_ ∧ v.getLsbD 2 = late := by
  revert att herr full some_ late
  decide

section
variable {s : State} {e : DWord} {l : List DWord}

theorem State.hpStatus_of_on (hon : s.on 0 = true) :
    s.hpStatus = { s with busOut := BitVec.ofNat 64 (if s.on 3 then s.statusByte else 0) } := if_pos hon

theorem State.hpError_of_on (hon : s.on 3 = true) : s.hpError = s.setB F.HPD_STATUS.HERR true := if_pos hon

theorem State.hwPush_of_room {q : Nat} (hq : s.qOn q = true) (hroom : (s.queue q).length < s.qCap q) :
    s.hwPush q e = s.setQueue q (s.queue q ++ [e]) := by
  rw [State.hwPush, if_pos hq, if_pos hroom]

theorem State.hwPush_of_full {q : Nat} (hq : s.qOn q = true) (hfull : s.qCap q ≤ (s.queue q).length) :
    s.hwPush q e = s.pushDropped q := by
  rw [State.hwPush, if_pos hq, if_neg (not_lt.2 hfull), State.pushDropped]

theorem State.mbxPush_of_room (hon : s.on 3 = true) (hq : s.qOn 25 = true) (hroom : (s.queue 25).length < s.qCap 25) :
    s.mbxPush e = s.setQueue 25 (s.queue 25 ++ [e]) :=
  (if_pos hon).trans <| (if_neg (by simpa [hq] using hroom)).trans (State.hwPush_of_room hq hroom)

theorem State.mbxPush_of_full (hon : s.on 3 = true) (hq : s.qOn 25 = true) (hfull : s.qCap 25 ≤ (s.queue 25).length) :
    s.mbxPush e = (s.pushDropped 25).setB F.HPD_STATUS.MBXDROP true :=
  (if_pos hon).trans <| (if_pos (by simp [hq, hfull])).trans <|
    congrArg (State.setB · F.HPD_STATUS.MBXDROP true) (State.hwPush_of_full hq hfull)

theorem State.mbxPop_of_entry (hon : s.on 3 = true) (hq : s.qOn 26 = true) (hl : s.queue 26 = e :: l) :
    s.mbxPop = State.mbxDrain { s.setQueue 26 l with busOut := e } := by
  rw [State.mbxPop, if_pos hon, State.hwPop, if_pos hq, hl]

/-- Where nothing waits to enter Q26, no entry follows a pop. -/
theorem State.queue_mbxDrain_of_none (hout : s.tru.mbxOut = []) (q : Nat) : s.mbxDrain.queue q = s.queue q := by
  unfold State.mbxDrain
  split
  · change (s.setQueue 26 (s.queue 26 ++ List.take _ s.tru.mbxOut)).queue q = _
    rw [hout, List.take_nil, List.append_nil]
    by_cases hq : q = 26
    · rw [hq]
      exact s.queue_setQueue_same _
    · exact s.queue_setQueue_ne _ hq
  · rfl

theorem State.mbxPop_of_empty (hon : s.on 3 = true) (hl : s.queue 26 = []) :
    s.mbxPop = State.setB { s with busOut := 0 } F.HPD_STATUS.MBXEMPTY true := by
  have hpop : s.hwPop 26 = (s, none) := by
    unfold State.hwPop
    rw [hl]
    exact ite_self _
  rw [State.mbxPop, if_pos hon, hpop]

theorem State.doorbell_of_on (hon : s.on 3 = true) (v : Word) :
    s.doorbell v = (s.setReg R.HPD_DOORBELL v).setB F.HPD_STATUS.DOOR true := if_pos hon

end

/-! ## Debug (16 R467, R471) -/

section
variable {s : State} {m : Nat}

theorem State.debugAttach_of_on (hon : s.on 3 = true) : s.debugAttach =
    (((s.setB F.SYSC_MODE.DBGATT true).setB F.HPD_STATUS.DBGATT true).setB F.HPD_DBGSTAT.ATTACHED true).extendEvent
      true := if_pos hon

theorem State.debugDetach_of_on (hon : s.on 3 = true) : s.debugDetach =
    ((s.setB F.SYSC_MODE.DBGATT false).setB F.HPD_STATUS.DBGATT false).setB F.HPD_DBGSTAT.ATTACHED false := if_pos hon

theorem State.debugHalt_of_normal (hon : s.on 3 = true) (hmode : s.commission = false) :
    s.debugHalt m = s.incF F.SYSC_MODE.DBGREJ 1 := (if_pos hon).trans (if_neg (by simp [hmode]))

theorem State.debugResume_of_normal (hon : s.on 3 = true) (hmode : s.commission = false) :
    s.debugResume m = s.incF F.SYSC_MODE.DBGREJ 1 := (if_pos hon).trans (if_neg (by simp [hmode]))

/-- The debugger's halt of the processors listed is set or released. -/
def State.dbgHaltSet (s : State) (l : List Nat) (b : Bool) : State :=
  s.forAll l fun t p => t.modProc p fun q => { q with dbgHalt := b }

theorem State.debugHalt_of_commission (hon : s.on 3 = true) (hmode : s.commission = true) : s.debugHalt m =
    ((s.dbgHaltSet ((List.range 5).filter fun p => m.testBit p && s.on (procDom p)) true).showHalted.hardStop
      false).stopRequest := (if_pos hon).trans (if_pos hmode)

theorem State.debugResume_of_commission (hon : s.on 3 = true) (hmode : s.commission = true) : s.debugResume m =
    (s.dbgHaltSet ((List.range 5).filter fun p => m.testBit p) false).showHalted := (if_pos hon).trans (if_pos hmode)

theorem State.proc_dbgHaltSet (c : Nat → Bool) (b : Bool) (p : Nat) :
    (s.dbgHaltSet ((List.range 5).filter c) b).proc p =
      if p < 5 ∧ c p = true then { s.proc p with dbgHalt := b } else s.proc p := by
  rw [State.dbgHaltSet, State.proc_forAll_modProc (List.nodup_range.filter c)]
  simp only [List.mem_filter, List.mem_range]

end

/-- Settles O5: the status byte by its flags, the mailbox by the room and the entries of its queues, and debug by the
service mode. -/
theorem hostPortMailboxAndDebug : Obligations.HostPortMailboxAndDebug := by
  refine ⟨fun s hon => ?_, fun s hon => ?_, fun s e hon hq => ⟨fun hroom => ?_, fun hfull => ?_⟩,
    fun s hon => ⟨fun e l hq hl hout => ?_, fun hl => ?_⟩, fun s v hon => ?_, fun s hon => ?_, fun s hon => ?_,
    fun s m hon hmode => ⟨?_, ?_⟩, fun s m hon hmode => ⟨?_, ?_⟩⟩
  · refine .intro rfl (State.hpStatus_of_on hon) ⟨rfl, fun hoff => ?_, fun hpd3 => ?_⟩
    · simp [hoff]
    · rw [if_pos hpd3]
      exact getLsbD_statusByte _ _ _ _ _
  · exact .intro rfl (State.hpError_of_on hon)
      ⟨State.fb_setB_same _ _ _ rfl (by decide), OnlyRegs.refl.setB List.mem_cons_self⟩
  · exact .intro rfl (State.mbxPush_of_room hon hq hroom)
      ⟨s.queue_setQueue_same _, fun r hr => s.queue_setQueue_ne _ hr, rfl⟩
  · exact .intro rfl (State.mbxPush_of_full hon hq hfull) ⟨State.fb_setB_same _ _ _ rfl (by decide), fun _ => rfl⟩
  · have hkept := State.queue_mbxDrain_of_none (s := { s.setQueue 26 l with busOut := e }) hout
    have hframe := State.answersOnly_mbxDrain (s := { s.setQueue 26 l with busOut := e })
    refine .intro rfl (State.mbxPop_of_entry hon hq hl) ⟨?_, ?_, fun r hr => ?_, fun a => ?_⟩
    · exact (congrArg State.busOut hframe :)
    · exact (hkept 26).trans (s.queue_setQueue_same _)
    · exact (hkept r).trans (s.queue_setQueue_ne _ hr)
    · exact State.reg_congr hframe.regs a
  · exact .intro rfl (State.mbxPop_of_empty hon hl) ⟨rfl, State.fb_setB_same _ _ _ rfl (by decide)⟩
  · exact .intro rfl (State.doorbell_of_on hon v)
      ⟨(State.reg_setB_ne _ _ _ (by decide)).trans (State.reg_setReg_same _ _ _),
        State.fb_setB_same _ _ _ rfl (by decide), (OnlyRegs.refl.setReg (by decide)).setB (by decide)⟩
  · exact congrArg Host.Outcome.next (State.debugAttach_of_on hon)
  · exact .intro rfl (State.debugDetach_of_on hon)
      ⟨(State.fb_setB_apart _ _ _ _ (by decide)).trans <| (State.fb_setB_apart _ _ _ _ (by decide)).trans <|
          State.fb_setB_same _ _ _ rfl (by decide),
        (State.fb_setB_apart _ _ _ _ (by decide)).trans (State.fb_setB_same _ _ _ rfl (by decide)),
        State.fb_setB_same _ _ _ rfl (by decide),
        ((OnlyRegs.refl.setB (by decide)).setB (by decide)).setB (by decide)⟩
  · exact .intro rfl (State.debugHalt_of_normal hon hmode)
      ⟨State.f_incF_same _ _ _ (by decide), OnlyRegs.refl.incF List.mem_cons_self⟩
  · exact congrArg Host.Outcome.next
      ((State.debugResume_of_normal hon hmode).trans (State.debugHalt_of_normal hon hmode).symm)
  · refine ⟨_, congrArg Host.Outcome.next (State.debugHalt_of_commission hon hmode), fun p => ?_⟩
    rw [State.proc_dbgHaltSet]
    simp only [Bool.and_eq_true]
  · exact ⟨_, congrArg Host.Outcome.next (State.debugResume_of_commission hon hmode), State.proc_dbgHaltSet _ false⟩

end Sys2Proof.Machine

/-! Fault bits and reactions (12 R353 to R364, R375). First the parts of a source's assertion: its count and bit, the
first-source latch, the grave latch; then what each reaction adds, and the commands. -/

namespace Sys2Proof.Machine

/-! ## Counters that saturate, and the fields of a word written as a sum -/

theorem State.f_satF_same (s : State) (x : Field) (d : Nat) (h : x.hi < 32) :
    (s.satF x d).f x = min (s.f x + d) (2 ^ (x.hi + 1 - x.lo) - 1) := by
  have hpos : 0 < 2 ^ (x.hi + 1 - x.lo) := Nat.two_pow_pos _
  refine (State.f_setF_same s x _ h).trans (Nat.mod_eq_of_lt ?_)
  unfold satAdd
  omega

/-! ## The registers of the Fault Collector -/

section

theorem fcuReact_above (src : Nat) : R.FCU_GRAVE < R.FCU_REACT src := by
  unfold R.FCU_GRAVE R.FCU_REACT
  omega

/-- The registers in which a source is latched stand below those of the reactions. -/
theorem fcuReact_not_mem (src : Nat) {l : List Nat} (hl : ∀ a ∈ l, a ≤ R.FCU_GRAVE) : R.FCU_REACT src ∉ l := fun h =>
  absurd (hl _ h) (Nat.not_le.2 (fcuReact_above src))

theorem fswField_addr (src : Nat) : (fswField src).addr = R.FCU_FSW0 ∨ (fswField src).addr = R.FCU_FSW1 := by
  unfold fswField
  split
  · exact .inl rfl
  · exact .inr rfl

theorem fswField_addr_le (src : Nat) : (fswField src).addr ≤ R.FCU_FSW1 := by
  obtain h | h := fswField_addr src
  · rw [h]
    decide
  · rw [h]

theorem fswField_lo (src : Fin 64) : (fswField src).lo < 32 := by
  revert src
  decide

end

/-! ## The count and the bit of a source (12 R353, R358) -/

section
variable {s : State} {src : Nat}

theorem State.fsw_satF_count : (s.satF (F.FCU_REACT.COUNT src) 1).fsw src = s.fsw src := by
  refine State.fb_setF_apart _ _ _ _ (.inl ?_)
  have hlt := Nat.lt_of_le_of_lt (fswField_addr_le src) (Nat.lt_trans (by decide : R.FCU_FSW1 < R.FCU_GRAVE)
    (fcuReact_above src))
  exact Nat.ne_of_lt hlt

theorem State.count_satF : (s.satF (F.FCU_REACT.COUNT src) 1).f (F.FCU_REACT.COUNT src) =
    min 255 (s.f (F.FCU_REACT.COUNT src) + 1) :=
  (State.f_satF_same _ _ _ (by decide : 23 < 32)).trans (Nat.min_comm _ _)

/-- A bit that is set takes no reaction again: the assertion is only counted. -/
theorem State.raiseUnit_of_set {unit : Nat} (hon : s.on 2 = true) (hset : s.fsw src = true) :
    s.raiseUnit src unit = s.satF (F.FCU_REACT.COUNT src) 1 :=
  (if_pos hon).trans (if_pos (State.fsw_satF_count.trans hset))

/-- A source's bit is newly set: it is counted, and FCU_FSRC latches it or counts it as later. -/
def State.sourceLatched (s : State) (src : Nat) : State := (s.fswShown src).latchFirst src

/-- With its grave latch, where the source is of class 4. -/
def State.sourceShown (s : State) (src : Nat) : State :=
  if (s.sourceLatched src).f (F.FCU_REACT.CLASS src) = 4 then (s.sourceLatched src).latchGrave src
  else s.sourceLatched src

theorem State.raiseUnit_of_new {unit : Nat} (hon : s.on 2 = true) (hnew : s.fsw src = false) :
    s.raiseUnit src unit = (s.sourceShown src).react src unit (!s.fb F.FCU_FSRC.VALID) := by
  have hvalid : (s.satF (F.FCU_REACT.COUNT src) 1).fb F.FCU_FSRC.VALID = s.fb F.FCU_FSRC.VALID :=
    State.fb_setF_apart _ _ _ _ (.inl (Nat.ne_of_lt (Nat.lt_trans (by decide) (fcuReact_above src))))
  refine (if_pos hon).trans <| (if_neg (by simp [State.fsw_satF_count, hnew])).trans ?_
  rw [hvalid]
  rfl

/-- The registers that hold a source's count, its bit and the first-source latch. -/
abbrev sourceRegs (src : Nat) : List Nat :=
  [R.FCU_REACT src, (fswField src).addr, R.FCU_FSRC, R.FCU_FTIMELO, R.FCU_FTIMEHI]

theorem OnlyRegs.latchFirst {t : State} {l : List Nat} (h : OnlyRegs l s t)
    (hl : [R.FCU_FSRC, R.FCU_FTIMELO, R.FCU_FTIMEHI] ⊆ l) : OnlyRegs l s (t.latchFirst src) := by
  unfold State.latchFirst
  split
  · exact .satF (.setB h (hl (by decide))) (hl (by decide))
  · exact .setReg (.setReg (.setReg h (hl (by decide))) (hl (by decide))) (hl (by decide))

theorem State.onlyRegs_fswShown : OnlyRegs [R.FCU_REACT src, (fswField src).addr] s (s.fswShown src) :=
  .setB (.satF .refl List.mem_cons_self) (List.mem_cons_of_mem _ List.mem_cons_self)

theorem OnlyRegs.mono {l k : List Nat} {t : State} (h : OnlyRegs l s t) (hk : l ⊆ k) : OnlyRegs k s t :=
  ⟨h.1, fun a ha => h.2 a fun hl => ha (hk hl)⟩

theorem State.onlyRegs_sourceLatched : OnlyRegs (sourceRegs src) s (s.sourceLatched src) :=
  .latchFirst (State.onlyRegs_fswShown.mono (by simp [sourceRegs])) (by simp [sourceRegs])

theorem State.onlyRegs_latchFirst : OnlyRegs [R.FCU_FSRC, R.FCU_FTIMELO, R.FCU_FTIMEHI] s (s.latchFirst src) :=
  OnlyRegs.refl.latchFirst fun _ h => h

/-- The bits of FCU_REACTs beside the count stay when the source is latched. -/
theorem State.reactField_sourceLatched {x : Field} (haddr : x.addr = R.FCU_REACT src) (hlow : x.hi < 16) :
    (s.sourceLatched src).f x = s.f x := by
  have hlatch : (s.sourceLatched src).f x = (s.fswShown src).f x :=
    State.onlyRegs_latchFirst.2.f (haddr ▸ fcuReact_not_mem src (by decide))
  have hne : x.addr ≠ (fswField src).addr := fun h => fcuReact_not_mem src (l := [(fswField src).addr])
    (fun a ha => by rw [List.mem_singleton.1 ha]; exact Nat.le_trans (fswField_addr_le src) (by decide))
    (by rw [← haddr, h]; exact List.mem_cons_self)
  exact hlatch.trans <| (State.f_setB_apart _ _ _ _ (.inl hne)).trans <|
    State.f_setF_apart _ _ _ _ (.inr (.inl hlow))

theorem State.react_sourceLatched : (s.sourceLatched src).f (F.FCU_REACT.REACT src) = s.f (F.FCU_REACT.REACT src) :=
  State.reactField_sourceLatched rfl (by decide : 2 < 16)

theorem State.class_sourceLatched : (s.sourceLatched src).f (F.FCU_REACT.CLASS src) = s.f (F.FCU_REACT.CLASS src) :=
  State.reactField_sourceLatched rfl (by decide : 10 < 16)

theorem State.count_sourceLatched :
    (s.sourceLatched src).f (F.FCU_REACT.COUNT src) = min 255 (s.f (F.FCU_REACT.COUNT src) + 1) := by
  have hne : R.FCU_REACT src ≠ (fswField src).addr := Nat.ne_of_gt <|
    Nat.lt_of_le_of_lt (fswField_addr_le src) (Nat.lt_trans (by decide) (fcuReact_above src))
  have hlatch : (s.sourceLatched src).f (F.FCU_REACT.COUNT src) = (s.fswShown src).f (F.FCU_REACT.COUNT src) :=
    State.onlyRegs_latchFirst.2.f (fcuReact_not_mem src (by decide))
  exact hlatch.trans ((State.f_setB_apart _ _ _ _ (.inl hne)).trans State.count_satF)

theorem State.fsw_sourceLatched (src : Fin 64) : (s.sourceLatched src).fsw src = true := by
  have haddr := fswField_addr src
  refine (State.onlyRegs_latchFirst.2.fb ?_).trans (State.fb_setB_same _ _ _ (fswField_bit src) (fswField_lo src))
  obtain h | h := haddr <;> rw [h] <;> decide

end

/-! ## The first-source latch (12 R361) -/

section
variable {s : State} {src : Nat}

theorem fld_wN (n hi lo : Nat) (hn : n < 2 ^ 32) : fld (wN n) hi lo = n / 2 ^ lo % 2 ^ (hi + 1 - lo) := by
  rw [fld, wN, BitVec.toNat_ofNat, Nat.mod_eq_of_lt hn]

theorem State.latchFirst_of_first (hvalid : s.fb F.FCU_FSRC.VALID = false) :
    s.latchFirst src = ((s.setReg R.FCU_FSRC (wN (0x80000000 + b2n (!s.timeValid) * 2 ^ 29 +
      s.f (F.FCU_REACT.CLASS src) * 2 ^ 24 + src))).setReg R.FCU_FTIMELO (s.tm.count.extractLsb' 0 32)).setReg
        R.FCU_FTIMEHI (s.tm.count.extractLsb' 32 32) := if_neg (by simp [hvalid])

theorem State.latchFirst_of_later (hvalid : s.fb F.FCU_FSRC.VALID = true) :
    s.latchFirst src = (s.setB F.FCU_FSRC.OVF true).satF F.FCU_FSRC.NLATER 1 := if_pos hvalid

theorem fld_bit {w : Nat} (d : BitVec w) (i : Nat) : fld d i i = b2n (bitAt d i) := by
  have hbit : bitAt d i = decide (d.toNat / 2 ^ i % 2 = 1) := Nat.testBit_eq_decide_div_mod_eq
  have hfld : fld d i i = d.toNat / 2 ^ i % 2 := by rw [fld, Nat.add_sub_cancel_left, Nat.pow_one]
  rw [hbit, hfld]
  obtain h | h := Nat.mod_two_eq_zero_or_one (d.toNat / 2 ^ i) <;> rw [h] <;> rfl

/-- A one-bit field as a number. -/
theorem State.f_of_bit {x : Field} (h : x.hi = x.lo) : s.f x = b2n (s.fb x) := by
  rw [State.f, h]
  exact fld_bit _ _

theorem State.fb_iff_f {x : Field} (h : x.hi = x.lo) (b : Bool) : s.fb x = b ↔ s.f x = b2n b := by
  rw [State.f_of_bit h]
  cases s.fb x <;> cases b <;> decide

/-- The first source is latched with its class, its number and the time. -/
theorem State.latchFirst_first_spec (hvalid : s.fb F.FCU_FSRC.VALID = false) (hsrc : src < 64) :
    let t := s.latchFirst src
    t.fb F.FCU_FSRC.VALID = true ∧ t.f F.FCU_FSRC.SRC = src ∧ t.f F.FCU_FSRC.CLASS = s.f (F.FCU_REACT.CLASS src) ∧
      t.f F.FCU_FSRC.NLATER = 0 ∧ t.fb F.FCU_FSRC.OVF = false ∧ t.fb F.FCU_FSRC.TINV = !s.timeValid ∧
      t.reg R.FCU_FTIMEHI ++ t.reg R.FCU_FTIMELO = s.tm.count := by
  rw [State.latchFirst_of_first hvalid]
  have hclass : s.f (F.FCU_REACT.CLASS src) < 8 := fld_lt _ 10 8
  have htinv : b2n (!s.timeValid) ≤ 1 := by cases s.timeValid <;> decide
  generalize hn : 0x80000000 + b2n (!s.timeValid) * 2 ^ 29 + s.f (F.FCU_REACT.CLASS src) * 2 ^ 24 + src = n
  intro t
  have hlt : n < 2 ^ 32 := by omega
  have hword (x : Field) (hx : x.addr = R.FCU_FSRC) : t.f x = n / 2 ^ x.lo % 2 ^ (x.hi + 1 - x.lo) := by
    rw [State.f, hx, State.reg_setReg_ne _ _ (by decide), State.reg_setReg_ne _ _ (by decide), State.reg_setReg_same,
      fld_wN n _ _ hlt]
  refine ⟨(State.fb_iff_f rfl true).2 ?_, ?_, ?_, ?_, (State.fb_iff_f rfl false).2 ?_, (State.fb_iff_f rfl _).2 ?_, ?_⟩
  · rw [hword _ rfl]
    change n / 2 ^ 31 % 2 ^ 1 = 1
    omega
  · rw [hword _ rfl]
    change n / 2 ^ 0 % 2 ^ 6 = src
    omega
  · rw [hword _ rfl]
    change n / 2 ^ 24 % 2 ^ 3 = _
    omega
  · rw [hword _ rfl]
    change n / 2 ^ 16 % 2 ^ 8 = 0
    omega
  · rw [hword _ rfl]
    change n / 2 ^ 30 % 2 ^ 1 = 0
    omega
  · rw [hword _ rfl]
    change n / 2 ^ 29 % 2 ^ 1 = _
    omega
  · rw [State.reg_setReg_same, State.reg_setReg_ne _ _ (by decide), State.reg_setReg_same]
    refine BitVec.eq_of_getLsbD_eq fun i hi => ?_
    simp only [BitVec.getLsbD_append, BitVec.getLsbD_extractLsb']
    by_cases h : i < 32
    · simp [h]
    · simp [h, show i - 32 < 32 by omega, show 32 + (i - 32) = i by omega]

/-- A later source sets OVF and is counted; the first stays latched. -/
theorem State.latchFirst_later_spec (hvalid : s.fb F.FCU_FSRC.VALID = true) :
    let t := s.latchFirst src
    t.fb F.FCU_FSRC.VALID = true ∧ t.fb F.FCU_FSRC.OVF = true ∧
      t.f F.FCU_FSRC.NLATER = min 255 (s.f F.FCU_FSRC.NLATER + 1) ∧ t.f F.FCU_FSRC.SRC = s.f F.FCU_FSRC.SRC ∧
      t.reg R.FCU_FTIMELO = s.reg R.FCU_FTIMELO ∧ t.reg R.FCU_FTIMEHI = s.reg R.FCU_FTIMEHI := by
  rw [State.latchFirst_of_later hvalid]
  have hovf := State.f_setB_apart s F.FCU_FSRC.OVF F.FCU_FSRC.NLATER true (by decide)
  refine ⟨?_, ?_, ?_, ?_, ?_, ?_⟩
  · exact (State.fb_setF_apart _ _ _ _ (by decide)).trans ((State.fb_setB_apart _ _ _ _ (by decide)).trans hvalid)
  · exact (State.fb_setF_apart _ _ _ _ (by decide)).trans (State.fb_setB_same _ _ _ rfl (by decide))
  · rw [State.f_satF_same _ _ _ (by decide), hovf]
    exact Nat.min_comm _ _
  · exact (State.f_setF_apart _ _ _ _ (by decide)).trans (State.f_setB_apart _ _ _ _ (by decide))
  · exact (State.reg_setF_ne _ _ _ (by decide)).trans (State.reg_setB_ne _ _ _ (by decide))
  · exact (State.reg_setF_ne _ _ _ (by decide)).trans (State.reg_setB_ne _ _ _ (by decide))

end

end Sys2Proof.Machine

namespace Sys2Proof.Machine

/-! ## Records and reactions (12 R357 to R360, R364, R369) -/

/-- A record joins the end of the Ledger's input buffer. -/
def State.recorded (s : State) (r : LedgerRec) : State := { s with fcu := { s.fcu with ledger := s.fcu.ledger ++ [r] } }

section
variable {s : State} {src unit : Nat}

/-- A record beside a write of registers. -/
theorem OnlyRegs.recorded {l : List Nat} {u : State} (h : OnlyRegs l s u) (r : LedgerRec) :
    u.recorded r = { s with regs := u.regs, fcu := (u.recorded r).fcu } := by
  have hfcu : (u.recorded r).fcu = (State.recorded { s with regs := u.regs } r).fcu :=
    congrArg (fun x : State => (x.recorded r).fcu) h.1
  rw [hfcu]
  exact congrArg (State.recorded · r) h.1

theorem State.record_of_room {code data : Nat} (hon : s.on 2 = true) (hroom : s.fcu.ledger.length < 32) :
    s.record 5 src code data = s.recorded (s.fcuRec src code data) := by
  unfold State.record
  rw [if_pos hon, if_pos hroom]
  rfl

/-- Under NONE, INT and NMI a reaction is its records; a source of class 4 adds its grave latch. -/
theorem State.react_of_record {first : Bool} (hreact : s.f (F.FCU_REACT.REACT src) ≤ 2) :
    s.react src unit first = if s.f (F.FCU_REACT.CLASS src) = 4 then
      (s.record 5 src 1 (s.fswData src first)).record 5 src 3 src else s.record 5 src 1 (s.fswData src first) := by
  unfold State.react
  split
  · next h => omega
  · next h => omega
  · rfl

theorem State.react_of_reset {first : Bool} (hreact : s.f (F.FCU_REACT.REACT src) = 4) :
    ∃ recs, s.react src unit first = ((s.setReg R.FCU_RSTCAUSE (wN (2 * 256 + src))).recordsAhead recs).chipReset := by
  unfold State.react
  rw [hreact]
  exact ⟨_, rfl⟩

/-- A BLOCK_RESET of source 26 resets the processor concerned. -/
theorem State.react_of_block_reset {first : Bool} (hreact : s.f (F.FCU_REACT.REACT 26) = 3) :
    s.react 26 unit first = (s.record 5 26 1 (s.fswData 26 first)).resetProc unit := by
  unfold State.react
  rw [hreact]
  exact if_pos rfl

/-- The registers of a source stand among those of the Fault Collector, above the registers of every block before it. -/
theorem not_mem_sourceRegs {a : Nat} (ha : a < R.FCU_FSW0) : a ∉ sourceRegs src := by
  have hfsw : R.FCU_FSW0 ≤ (fswField src).addr := by
    obtain h | h := fswField_addr src
    · exact Nat.le_of_eq h.symm
    · exact h ▸ (by decide)
  have hreact := fcuReact_above src
  unfold R.FCU_FSW0 R.FCU_GRAVE at *
  simp only [sourceRegs, List.mem_cons, List.not_mem_nil, R.FCU_FSRC, R.FCU_FTIMELO, R.FCU_FTIMEHI, or_false]
  omega

/-- What the latch of a source leaves: power, time and the Ledger's buffer. -/
theorem State.sourceLatched_frame : (s.sourceLatched src).fcu = s.fcu ∧ (s.sourceLatched src).tm = s.tm ∧
    (s.sourceLatched src).timeValid = s.timeValid ∧ ∀ d, (s.sourceLatched src).on d = s.on d := by
  have h : OnlyRegs (sourceRegs src) s (s.sourceLatched src) := State.onlyRegs_sourceLatched
  exact ⟨(congrArg State.fcu h.1 :), (congrArg State.tm h.1 :), h.2.fb (not_mem_sourceRegs (by decide)),
    h.touches.on (not_mem_sourceRegs (by decide))⟩

theorem State.fcuRec_congr {t : State} (htm : t.tm = s.tm) (hvalid : t.timeValid = s.timeValid) (code data : Nat) :
    t.fcuRec src code data = s.fcuRec src code data := by
  rw [State.fcuRec, State.fcuRec, htm, hvalid]

/-- The registers of the first-source latch stand between the bits of the sources and their reactions. -/
theorem State.reg_fswShown {a : Nat} (hlow : R.FCU_FSW1 < a) (hhigh : a ≤ R.FCU_GRAVE) :
    (s.fswShown src).reg a = s.reg a := by
  refine State.onlyRegs_fswShown.2 a ?_
  have hle := fswField_addr_le src
  have hreact := fcuReact_above src
  simp only [List.mem_cons, List.not_mem_nil, or_false]
  omega

theorem State.valid_fswShown : (s.fswShown src).fb F.FCU_FSRC.VALID = s.fb F.FCU_FSRC.VALID :=
  congrArg (bitAt · 31) (State.reg_fswShown (by decide) (by decide))

/-- The first source set since the latch was armed stands in it with its class, its number and the time. -/
theorem State.sourceLatched_first (hfirst : s.fb F.FCU_FSRC.VALID = false) (hsrc : src < 64) :
    let t := s.sourceLatched src
    t.fb F.FCU_FSRC.VALID = true ∧ t.f F.FCU_FSRC.SRC = src ∧ t.f F.FCU_FSRC.CLASS = s.f (F.FCU_REACT.CLASS src) ∧
      t.f F.FCU_FSRC.NLATER = 0 ∧ t.fb F.FCU_FSRC.OVF = false ∧ t.fb F.FCU_FSRC.TINV = (!s.timeValid) ∧
      t.reg R.FCU_FTIMEHI ++ t.reg R.FCU_FTIMELO = s.tm.count := by
  have hclass : (s.fswShown src).f (F.FCU_REACT.CLASS src) = s.f (F.FCU_REACT.CLASS src) :=
    (State.onlyRegs_latchFirst.2.f (fcuReact_not_mem src (by decide))).symm.trans State.class_sourceLatched
  have hvalid : (s.fswShown src).timeValid = s.timeValid :=
    (State.onlyRegs_latchFirst.2.fb (by decide)).symm.trans s.sourceLatched_frame.2.2.1
  have hspec := State.latchFirst_first_spec (s := s.fswShown src) (State.valid_fswShown.trans hfirst) hsrc
  rwa [hclass, hvalid] at hspec

/-- A source set later counts, and the first one stays latched. -/
theorem State.sourceLatched_later (hlater : s.fb F.FCU_FSRC.VALID = true) :
    let t := s.sourceLatched src
    t.fb F.FCU_FSRC.VALID = true ∧ t.fb F.FCU_FSRC.OVF = true ∧
      t.f F.FCU_FSRC.NLATER = min 255 (s.f F.FCU_FSRC.NLATER + 1) ∧ t.f F.FCU_FSRC.SRC = s.f F.FCU_FSRC.SRC ∧
      t.reg R.FCU_FTIMELO = s.reg R.FCU_FTIMELO ∧ t.reg R.FCU_FTIMEHI = s.reg R.FCU_FTIMEHI := by
  have hfsrc : (s.fswShown src).reg R.FCU_FSRC = s.reg R.FCU_FSRC := State.reg_fswShown (by decide) (by decide)
  have hlo : (s.fswShown src).reg R.FCU_FTIMELO = s.reg R.FCU_FTIMELO := State.reg_fswShown (by decide) (by decide)
  have hhi : (s.fswShown src).reg R.FCU_FTIMEHI = s.reg R.FCU_FTIMEHI := State.reg_fswShown (by decide) (by decide)
  have hfield (x : Field) (hx : x.addr = R.FCU_FSRC) : (s.fswShown src).f x = s.f x := by
    rw [State.f, State.f, hx, hfsrc]
  have hspec := State.latchFirst_later_spec (s := s.fswShown src) (src := src) (State.valid_fswShown.trans hlater)
  rwa [hfield F.FCU_FSRC.NLATER rfl, hfield F.FCU_FSRC.SRC rfl, hlo, hhi] at hspec

theorem State.ovf_sourceLatched (hsrc : src < 64) :
    (s.sourceLatched src).fb F.FCU_FSRC.OVF = s.fb F.FCU_FSRC.VALID := by
  cases hvalid : s.fb F.FCU_FSRC.VALID with
  | false => exact (State.sourceLatched_first hvalid hsrc).2.2.2.2.1
  | true => exact (State.sourceLatched_later hvalid).2.1

/-- DATA of the record that a newly set bit writes. -/
theorem State.fswData_sourceLatched (hsrc : src < 64) (first : Bool) : (s.sourceLatched src).fswData src first =
    b2n first * 0x200 + b2n (s.fb F.FCU_FSRC.VALID) * 0x100 + s.f (F.FCU_REACT.CLASS src) * 0x10 +
      s.f (F.FCU_REACT.REACT src) := by
  rw [State.fswData, State.ovf_sourceLatched hsrc, State.class_sourceLatched, State.react_sourceLatched]

/-- A source that is not of class 4, under NONE, INT or NMI: its latch and one record. -/
theorem State.raiseUnit_of_record (hon : s.on 2 = true) (hnew : s.fsw src = false)
    (hreact : s.f (F.FCU_REACT.REACT src) ≤ 2) (hclass : s.f (F.FCU_REACT.CLASS src) ≠ 4)
    (hroom : s.fcu.ledger.length < 32) (hsrc : src < 64) : s.raiseUnit src unit =
      (s.sourceLatched src).recorded (s.fcuRec src 1 (b2n (!s.fb F.FCU_FSRC.VALID) * 0x200 +
        b2n (s.fb F.FCU_FSRC.VALID) * 0x100 + s.f (F.FCU_REACT.CLASS src) * 0x10 + s.f (F.FCU_REACT.REACT src))) := by
  obtain ⟨hfcu, htm, hvalid, hpower⟩ := s.sourceLatched_frame (src := src)
  have hshown : s.sourceShown src = s.sourceLatched src := if_neg (State.class_sourceLatched.symm ▸ hclass)
  rw [State.raiseUnit_of_new hon hnew, hshown, State.react_of_record (State.react_sourceLatched.symm ▸ hreact),
    if_neg (State.class_sourceLatched.symm ▸ hclass), State.record_of_room ((hpower 2).trans hon) (hfcu ▸ hroom),
    State.fswData_sourceLatched hsrc, State.fcuRec_congr htm hvalid]

/-! ### Class 4 (12 R364, R370) -/

theorem OnlyRegs.latchGrave {t : State} {l : List Nat} (h : OnlyRegs l s t) (hl : R.FCU_GRAVE ∈ l) :
    OnlyRegs l s (t.latchGrave src) := by
  unfold State.latchGrave
  split
  · exact .setReg h hl
  · exact .setReg (.setF h hl) hl

theorem State.onlyRegs_latchGrave : OnlyRegs [R.FCU_GRAVE] s (s.latchGrave src) :=
  OnlyRegs.refl.latchGrave List.mem_cons_self

/-- The grave latch takes the source's bit, and the Bedrock seconds of the first. -/
theorem State.latchGrave_spec : bitAt ((s.latchGrave src).reg R.FCU_GRAVE) (src % 8) = true ∧
    (s.latchGrave src).f F.FCU_GRAVE.SECS =
      if s.grave then s.f F.FCU_GRAVE.SECS else min (s.f F.SYSC_BSEC.SECS) (2 ^ 24 - 1) := by
  unfold State.latchGrave
  extract_lets t
  refine ⟨?_, ?_⟩
  · rw [State.reg_setReg_same]
    exact bitAt_setFld_same _ _ 1 (by omega)
  · have hsecs : t.f F.FCU_GRAVE.SECS =
        if s.grave then s.f F.FCU_GRAVE.SECS else min (s.f F.SYSC_BSEC.SECS) (2 ^ 24 - 1) := by
      by_cases hg : s.grave = true
      · rw [show t = s from if_pos hg, if_pos hg]
      · rw [show t = _ from if_neg hg, if_neg hg]
        refine (State.f_setF_same _ _ _ (by decide)).trans (Nat.mod_eq_of_lt ?_)
        exact Nat.lt_of_le_of_lt (Nat.min_le_right _ _) (by decide)
    rw [← hsecs, State.f, State.f]
    change fld (State.reg (State.setReg t R.FCU_GRAVE _) R.FCU_GRAVE) 31 8 = fld (t.reg R.FCU_GRAVE) 31 8
    rw [State.reg_setReg_same]
    exact fld_setFld_apart _ _ _ _ _ _ (.inr (Nat.mod_lt _ (by decide)))

theorem State.grave_congr {t : State} (h : t.reg R.FCU_GRAVE = s.reg R.FCU_GRAVE) : t.grave = s.grave := by
  rw [State.grave, State.grave, State.f, State.f, F.FCU_GRAVE.GRAVE, h]

/-- A source of class 4 under NONE, INT or NMI: its latches and two records. -/
theorem State.raiseUnit_of_grave (hon : s.on 2 = true) (hnew : s.fsw src = false)
    (hreact : s.f (F.FCU_REACT.REACT src) ≤ 2) (hclass : s.f (F.FCU_REACT.CLASS src) = 4)
    (hroom : s.fcu.ledger.length < 31) : ∃ r, s.raiseUnit src unit =
      (((s.sourceLatched src).latchGrave src).recorded r).recorded (s.fcuRec src 3 src) := by
  obtain ⟨hfcu, htm, hvalid, hpower⟩ := s.sourceLatched_frame (src := src)
  have hgrave : OnlyRegs [R.FCU_GRAVE] (s.sourceLatched src) ((s.sourceLatched src).latchGrave src) :=
    State.onlyRegs_latchGrave
  have hshown : s.sourceShown src = (s.sourceLatched src).latchGrave src := if_pos (State.class_sourceLatched.trans hclass)
  have hkept (x : Field) (hx : x.addr = R.FCU_REACT src) :
      ((s.sourceLatched src).latchGrave src).f x = (s.sourceLatched src).f x :=
    hgrave.2.f (hx ▸ fcuReact_not_mem src (by decide))
  have hfcu' : ((s.sourceLatched src).latchGrave src).fcu = s.fcu := (congrArg State.fcu hgrave.1 :).trans hfcu
  have htm' : ((s.sourceLatched src).latchGrave src).tm = s.tm := (congrArg State.tm hgrave.1 :).trans htm
  have hvalid' : ((s.sourceLatched src).latchGrave src).timeValid = s.timeValid :=
    (hgrave.2.fb (by decide)).trans hvalid
  have hon' : ((s.sourceLatched src).latchGrave src).on 2 = true :=
    ((hgrave.touches.on (by decide) 2).trans (hpower 2)).trans hon
  have hclass' := (hkept (F.FCU_REACT.CLASS src) rfl).trans (State.class_sourceLatched.trans hclass)
  have hreact' := (hkept (F.FCU_REACT.REACT src) rfl).trans State.react_sourceLatched
  rw [State.raiseUnit_of_new hon hnew, hshown]
  generalize (s.sourceLatched src).latchGrave src = u at *
  rw [State.react_of_record (hreact' ▸ hreact), if_pos hclass', State.record_of_room hon' (by rw [hfcu']; omega)]
  generalize hr : u.fcuRec src 1 (u.fswData src !s.fb F.FCU_FSRC.VALID) = r
  have hlen : (u.recorded r).fcu.ledger.length < 32 := by
    rw [State.recorded, hfcu', List.length_append]
    exact Nat.succ_lt_succ hroom
  refine ⟨r, (State.record_of_room (s := u.recorded r) hon' hlen).trans ?_⟩
  exact congrArg (State.recorded _) (State.fcuRec_congr htm' hvalid' 3 src)

/-- What the latches of a source of class 4 show. -/
theorem State.sourceGrave_spec (src : Fin 64) : let u := (s.sourceLatched src).latchGrave src
    u.fsw src = true ∧ bitAt (u.reg R.FCU_GRAVE) (src.val % 8) = true ∧
      u.f F.FCU_GRAVE.SECS = (if s.grave then s.f F.FCU_GRAVE.SECS else min (s.f F.SYSC_BSEC.SECS) (2 ^ 24 - 1)) ∧
      u.fcu = s.fcu ∧ SameRegsBut (sourceRegs src ++ [R.FCU_GRAVE]) s u := by
  have hlatch : OnlyRegs (sourceRegs src) s (s.sourceLatched src) := State.onlyRegs_sourceLatched
  have hgrave : OnlyRegs [R.FCU_GRAVE] (s.sourceLatched src) ((s.sourceLatched src).latchGrave src) :=
    State.onlyRegs_latchGrave
  have hword : (s.sourceLatched src).reg R.FCU_GRAVE = s.reg R.FCU_GRAVE :=
    (State.onlyRegs_latchFirst.2 _ (by decide)).trans (State.reg_fswShown (by decide) (by decide))
  have hsecs : (s.sourceLatched src).f F.FCU_GRAVE.SECS = s.f F.FCU_GRAVE.SECS :=
    congrArg (fun w => fld w 31 8) hword
  have hbsec : (s.sourceLatched src).f F.SYSC_BSEC.SECS = s.f F.SYSC_BSEC.SECS :=
    hlatch.2.f (not_mem_sourceRegs (by decide))
  obtain ⟨hbit, hshown⟩ := (s.sourceLatched src).latchGrave_spec (src := src)
  rw [State.grave_congr hword, hsecs, hbsec] at hshown
  refine ⟨(hgrave.2.fb ?_).trans (State.fsw_sourceLatched src), hbit, hshown, ?_, fun a ha => ?_⟩
  · obtain h | h := fswField_addr src
    · exact h ▸ (by decide)
    · exact h ▸ (by decide)
  · exact (congrArg State.fcu hgrave.1 :).trans s.sourceLatched_frame.1
  · exact (hgrave.2 a fun h => ha (List.mem_append_right _ h)).trans
      (hlatch.2 a fun h => ha (List.mem_append_left _ h))

/-! ### A block reset, and a reset of the chip (12 R359, R360) -/

theorem State.record_frame {block code data : Nat} : (s.record block src code data).procs = s.procs ∧
    State.Touches [R.FCU_LDGLOST] s (s.record block src code data) := by
  refine ⟨?_, State.Touches.refl.record (by decide)⟩
  unfold State.record
  split
  · split <;> rfl
  · rfl

/-- The semaphores freed leave the processors, memory and the registers of the blocks above the queue unit. -/
theorem State.freeSems_frame (idx : Nat) : (s.freeSems idx).procs = s.procs ∧ (s.freeSems idx).mem = s.mem ∧
    ∀ a, R.FCU_CTRL ≤ a → (s.freeSems idx).reg a = s.reg a := by
  refine State.forAll_keeps (fun t => t.procs = s.procs ∧ t.mem = s.mem ∧ ∀ a, R.FCU_CTRL ≤ a → t.reg a = s.reg a) _ _ s
    ⟨rfl, rfl, fun _ _ => rfl⟩ fun t n hn ht => ?_
  split
  · obtain ⟨hprocs, hmem, hregs⟩ := ht
    refine ⟨hprocs, hmem, fun a ha => (State.reg_setF_ne _ _ _ ?_).trans (hregs a ha)⟩
    have hn := List.mem_range.1 hn
    unfold F.HQ_SEM.OWNER R.HQ_SEM R.FCU_CTRL at *
    dsimp only
    omega
  · exact ht

/-- A block reset clears its processor and keeps memory, the other processors and the bits of the sources. -/
theorem State.resetProc_spec (p : Nat) : (s.resetProc p).proc p = { run := if s.admitted then .restart else .dead } ∧
    (∀ q, q ≠ p → (s.resetProc p).proc q = s.proc q) ∧ (s.resetProc p).mem = s.mem ∧
    (s.resetProc p).reg R.FCU_FSW0 = s.reg R.FCU_FSW0 := by
  have hproc (q : Nat) : (s.resetProc p).proc q =
      (s.setProc p { run := if s.admitted then .restart else .dead }).proc q :=
    congrArg (tblGet _ · q) ((s.setProc p { run := if s.admitted then .restart else .dead }).freeSems_frame _).1
  have hmem := ((s.setProc p { run := if s.admitted then .restart else .dead }).freeSems_frame (reqIdx (procReq p))).2.1
  have hregs := ((s.setProc p { run := if s.admitted then .restart else .dead }).freeSems_frame (reqIdx (procReq p))).2.2
  refine ⟨(hproc p).trans (State.proc_setProc_same _ _ _), fun q hq => (hproc q).trans (State.proc_setProc_ne _ _ hq),
    hmem, ?_⟩
  have hexp : R.FCU_FSW0 ≠ (F.FCU_WDT.EXP p).addr := Nat.ne_of_lt <|
    Nat.lt_of_lt_of_le (by decide : R.FCU_FSW0 < 0x400500A0) (Nat.le_add_right _ _)
  exact (State.reg_setB_ne _ _ _ hexp).trans (hregs _ (by decide))

theorem State.live_chipReset : s.chipReset.pwr.inReset = true := rfl

theorem State.faultSourceSet_of_live (hlive : s.live = true) : s.faultSourceSet src unit = s.raiseUnit src unit :=
  if_pos hlive

/-- A source under BLOCK_RESET of source 26 sets its bit and resets its processor. -/
theorem State.raiseUnit_of_block_reset (hon : s.on 2 = true) (hnew : s.fsw 26 = false)
    (hreact : s.f (F.FCU_REACT.REACT 26) = 3) (hclass : s.f (F.FCU_REACT.CLASS 26) ≠ 4) :
    let t := s.raiseUnit 26 unit
    t.fsw 26 = true ∧ t.proc unit = { run := if s.admitted then .restart else .dead } ∧
      (∀ q, q ≠ unit → t.proc q = s.proc q) ∧ SameMem s t := by
  have hlatch : OnlyRegs (sourceRegs 26) s (s.sourceLatched 26) := State.onlyRegs_sourceLatched
  have hshown : s.sourceShown 26 = s.sourceLatched 26 := if_neg (State.class_sourceLatched.symm ▸ hclass)
  have hset : (s.sourceLatched 26).fsw 26 = true := State.fsw_sourceLatched (26 : Fin 64)
  have hprocs : (s.sourceLatched 26).procs = s.procs := (congrArg State.procs hlatch.1 :)
  have hmem : (s.sourceLatched 26).mem = s.mem := (congrArg State.mem hlatch.1 :)
  have hadm : (s.sourceLatched 26).admitted = s.admitted := hlatch.2.fb (by decide)
  intro t
  rw [show t = _ from State.raiseUnit_of_new hon hnew, hshown,
    State.react_of_block_reset (State.react_sourceLatched.trans hreact)]
  clear t
  generalize s.sourceLatched 26 = u at *
  obtain ⟨hprocs', htouch⟩ := u.record_frame (src := 26) (block := 5) (code := 1)
    (data := u.fswData 26 !s.fb F.FCU_FSRC.VALID)
  generalize u.record 5 26 1 (u.fswData 26 !s.fb F.FCU_FSRC.VALID) = v at *
  obtain ⟨hown, hother, hmem', hfsw⟩ := v.resetProc_spec unit
  have hproc (q : Nat) : v.proc q = s.proc q := congrArg (tblGet _ · q) (hprocs'.trans hprocs)
  have hadm' : v.admitted = s.admitted := (htouch.fb (by decide)).trans hadm
  refine ⟨?_, hadm' ▸ hown, fun q hq => (hother q hq).trans (hproc q),
    State.ldb_congr (hmem'.trans (htouch.mem.trans hmem))⟩
  exact (congrArg (bitAt · 26) (hfsw.trans (htouch.regs _ (by decide)))).trans hset

/-- A source under CHIP_RESET resets the chip and shows itself in FCU_RSTCAUSE. -/
theorem State.raiseUnit_of_chip_reset (hon : s.on 2 = true) (hnew : s.fsw src = false)
    (hreact : s.f (F.FCU_REACT.REACT src) = 4) (hsrc : src < 64) :
    let t := s.raiseUnit src unit
    t.pwr.inReset = true ∧ t.f F.FCU_RSTCAUSE.CAUSE = 2 ∧ t.f F.FCU_RSTCAUSE.SRC = src ∧ t.live = false := by
  have hreact' : (s.sourceShown src).f (F.FCU_REACT.REACT src) = 4 := by
    refine Eq.trans ?_ (State.react_sourceLatched.trans hreact)
    unfold State.sourceShown
    split
    · exact (State.onlyRegs_latchGrave).2.f (fcuReact_not_mem src (by decide))
    · rfl
  obtain ⟨recs, hreset⟩ := State.react_of_reset (unit := unit) (first := !s.fb F.FCU_FSRC.VALID) hreact'
  intro t
  have ht : t = _ := (State.raiseUnit_of_new hon hnew).trans hreset
  have hin : t.pwr.inReset = true := (congrArg (·.pwr.inReset) ht).trans State.live_chipReset
  have hcause : t.reg R.FCU_RSTCAUSE = wN (2 * 256 + src) := by
    rw [ht, State.reg_chipReset (by decide) (by decide)]
    exact State.reg_setReg_same _ _ _
  refine ⟨hin, ?_, ?_, by rw [State.live, hin, Bool.not_true, Bool.and_false]⟩
  · rw [State.f, F.FCU_RSTCAUSE.CAUSE, hcause, fld_wN _ _ _ (by omega)]
    change (2 * 256 + src) / 2 ^ 8 % 2 ^ 2 = 2
    omega
  · rw [State.f, F.FCU_RSTCAUSE.SRC, hcause, fld_wN _ _ _ (by omega)]
    change (2 * 256 + src) / 2 ^ 0 % 2 ^ 6 = src
    omega

/-! ### Dual-rail lines (12 R355) -/

/-- FCU_RAIL shows the pair of a source. -/
def State.railShown (s : State) (src : Nat) : State := s.setReg R.FCU_RAIL (setFld (s.reg R.FCU_RAIL) src src 1)

theorem State.onlyRegs_railShown : OnlyRegs [R.FCU_RAIL] s (s.railShown src) := OnlyRegs.refl.setReg List.mem_cons_self

theorem State.rail_railShown (hsrc : src < 32) : bitAt ((s.railShown src).reg R.FCU_RAIL) src = true := by
  rw [State.railShown, State.reg_setReg_same]
  exact bitAt_setFld_same _ _ 1 hsrc

theorem State.dualRailEqual_of_shown (hlive : s.live = true) (hrail : bitAt (s.reg R.FCU_RAIL) src = true) :
    s.dualRailEqual src = s.raise src := by
  rw [State.dualRailEqual, if_pos hlive, if_pos hrail]

theorem State.dualRailEqual_of_new (hlive : s.live = true) (hrail : ¬ bitAt (s.reg R.FCU_RAIL) src = true)
    (hroom : s.fcu.ledger.length < 32) :
    s.dualRailEqual src = ((s.railShown src).recorded (s.fcuRec src 0x11 src)).raise src := by
  have hshow : OnlyRegs [R.FCU_RAIL] s (s.railShown src) := State.onlyRegs_railShown
  have hon : (s.railShown src).on 2 = true := (hshow.touches.on (by decide) 2).trans (State.on_of_live hlive)
  have hvalid : (s.railShown src).timeValid = s.timeValid := hshow.2.fb (by decide)
  have hrec : (s.railShown src).fcuRec src 0x11 src = s.fcuRec src 0x11 src :=
    State.fcuRec_congr (s := s) (t := s.railShown src) rfl hvalid 0x11 src
  rw [State.dualRailEqual, if_pos hlive, if_neg hrail, ← hrec]
  exact congrArg (State.raise · src) (State.record_of_room hon hroom)

/-- Where the bit of a source of a pair is set already, its assertion changes the count only. -/
theorem State.raise_of_set (hon : s.on 2 = true) (hset : s.fsw src = true) :
    (s.raise src).fsw src = true ∧ (s.raise src).fcu = s.fcu ∧ SameRegsBut [R.FCU_REACT src] s (s.raise src) := by
  rw [State.raise, State.raiseUnit_of_set hon hset]
  exact ⟨State.fsw_satF_count.trans hset, rfl, SameRegsBut.setF (.ofRegs rfl) List.mem_cons_self⟩

/-- The pair of a source whose bit is set shows itself in FCU_RAIL, with a record the first time. -/
theorem State.dualRailEqual_spec (hlive : s.live = true) (hset : s.fsw src = true)
    (hroom : s.fcu.ledger.length < 32) (hsrc : src < 8) :
    let t := s.dualRailEqual src
    bitAt (t.reg R.FCU_RAIL) src = true ∧ t.fsw src = true ∧
      t.fcu.ledger = s.fcu.ledger ++ (if bitAt (s.reg R.FCU_RAIL) src then [] else [s.fcuRec src 0x11 src]) ∧
      SameRegsBut [R.FCU_RAIL, R.FCU_REACT src] s t := by
  have hon := State.on_of_live hlive
  have hrail : R.FCU_RAIL ∉ [R.FCU_REACT src] := List.not_mem_cons_of_ne_of_not_mem
    (Nat.ne_of_lt (Nat.lt_trans (by decide) (fcuReact_above src))) List.not_mem_nil
  have hsub : [R.FCU_REACT src] ⊆ [R.FCU_RAIL, R.FCU_REACT src] := List.subset_cons_self _ _
  intro t
  by_cases hr : bitAt (s.reg R.FCU_RAIL) src = true
  · obtain ⟨hfsw, hfcu, hregs⟩ := State.raise_of_set hon hset
    rw [show t = _ from State.dualRailEqual_of_shown hlive hr, if_pos hr, hfcu, hregs _ hrail, List.append_nil]
    exact ⟨hr, hfsw, rfl, fun a ha => hregs a fun h => ha (hsub h)⟩
  · have hshow : OnlyRegs [R.FCU_RAIL] s (s.railShown src) := State.onlyRegs_railShown
    have hfield : fswField src = ⟨R.FCU_FSW0, src, src⟩ := if_pos (by omega)
    have haddr : (fswField src).addr ∉ [R.FCU_RAIL] := by
      rw [hfield]
      exact (by decide : R.FCU_FSW0 ∉ [R.FCU_RAIL])
    have hset' : (s.railShown src).fsw src = true := (hshow.2.fb haddr).trans hset
    have hbit := s.rail_railShown (src := src) (by omega)
    rw [show t = _ from State.dualRailEqual_of_new hlive hr hroom, if_neg hr]
    obtain ⟨hfsw, hfcu, hregs⟩ := State.raise_of_set (s := (s.railShown src).recorded (s.fcuRec src 0x11 src))
      ((hshow.touches.on (by decide) 2).trans hon) hset'
    rw [hfcu, hregs _ hrail]
    refine ⟨hbit, hfsw, rfl, fun a ha => (hregs a fun h => ha (hsub h)).trans (hshow.2 a fun h => ha ?_)⟩
    exact List.mem_singleton.1 h ▸ List.mem_cons_self

end

/-- Settles O39: an assertion only counts, or is latched with its records, or resets, by the bit and the reaction. -/
theorem faultBitsAndReactions : Obligations.FaultBitsAndReactions := by
  refine ⟨fun s src unit hlive hset => ?_, fun s src unit hlive hnew hreact hclass hroom => ?_,
    fun s src unit hlive hnew hreact hclass hroom => ?_, fun s unit hlive hnew hreact hclass => ?_,
    fun s src unit hlive hnew hreact => ?_, fun s src hlive hset hroom => ?_, fun s rail src hinj => ?_⟩
  · exact .intro rfl ((State.faultSourceSet_of_live hlive).trans (State.raiseUnit_of_set (State.on_of_live hlive) hset))
      ⟨State.count_satF, OnlyRegs.refl.satF List.mem_cons_self⟩
  · have hlatch : OnlyRegs (sourceRegs src) s (s.sourceLatched src) := State.onlyRegs_sourceLatched
    refine .intro rfl ((State.faultSourceSet_of_live hlive).trans (State.raiseUnit_of_record (State.on_of_live hlive)
      hnew hreact hclass hroom src.isLt)) ⟨State.count_sourceLatched, State.fsw_sourceLatched src,
        fun hfirst => State.sourceLatched_first hfirst src.isLt, fun hlater => State.sourceLatched_later hlater,
        ?_, hlatch.2, ?_⟩
    · rw [State.recorded, s.sourceLatched_frame.1, State.fcuRec, Nat.mod_eq_of_lt (by omega : src.val < 256)]
    · exact hlatch.recorded _
  · obtain ⟨r, hraise⟩ := State.raiseUnit_of_grave (unit := unit) (State.on_of_live hlive) hnew hreact hclass hroom
    obtain ⟨hfsw, hbit, hsecs, hfcu, hregs⟩ := s.sourceGrave_spec src
    generalize (s.sourceLatched src).latchGrave src = u at *
    refine .intro rfl ((State.faultSourceSet_of_live hlive).trans hraise) ⟨hfsw, hbit, hsecs, ⟨r, ?_⟩, hregs⟩
    have hsrc : src.val % 256 = src.val := Nat.mod_eq_of_lt (by omega)
    rw [State.recorded, State.recorded, hfcu, List.append_assoc, State.fcuRec, hsrc]
    rfl
  · exact .intro rfl (State.faultSourceSet_of_live hlive)
      (State.raiseUnit_of_block_reset (State.on_of_live hlive) hnew hreact hclass)
  · exact .intro rfl (State.faultSourceSet_of_live hlive)
      (State.raiseUnit_of_chip_reset (State.on_of_live hlive) hnew hreact src.isLt)
  · have hsrc : src.val % 256 = src.val := Nat.mod_eq_of_lt (by omega)
    have hspec := State.dualRailEqual_spec hlive hset hroom src.isLt
    rw [State.fcuRec, hsrc] at hspec
    exact .intro rfl rfl hspec
  · exact congrArg Host.Outcome.next (if_neg (by simp [hinj]))

end Sys2Proof.Machine

/-! CAN FD (14 R422 to R431). First the frame of an operation that writes registers and records only, with a source's
assertion and a push in it; then the parts of a controller, and its commands. -/

namespace Sys2Proof.Machine

/-! ## The frame of an operation that writes registers and records -/

/-- From `s` to `t` only the registers at the listed addresses, the Fault Collector's hidden state and the count of free
values may change. -/
def OnlyNoted (l : List Nat) (s t : State) : Prop :=
  t = { s with regs := t.regs, fcu := t.fcu, freeCtr := t.freeCtr } ∧ SameRegsBut l s t

section
variable {l : List Nat} {s₀ s t : State}

theorem OnlyRegs.noted (h : OnlyRegs l s t) : OnlyNoted l s t := by
  have hfcu : t.fcu = s.fcu := (congrArg State.fcu h.1 :)
  have hfree : t.freeCtr = s.freeCtr := (congrArg State.freeCtr h.1 :)
  exact ⟨h.1.trans (by rw [hfcu, hfree]), h.2⟩

theorem OnlyNoted.refl : OnlyNoted l s s := OnlyRegs.refl.noted

theorem OnlyNoted.trans (h : OnlyNoted l s₀ s) (h' : OnlyNoted l s t) : OnlyNoted l s₀ t :=
  ⟨h'.1.trans (congrArg (fun u : State => { u with regs := t.regs, fcu := t.fcu, freeCtr := t.freeCtr }) h.1),
    fun a ha => (h'.2 a ha).trans (h.2 a ha)⟩

theorem OnlyNoted.mono {k : List Nat} (h : OnlyNoted l s t) (hk : l ⊆ k) : OnlyNoted k s t :=
  ⟨h.1, fun a ha => h.2 a fun hl => ha (hk hl)⟩

theorem OnlyNoted.mem (h : OnlyNoted l s t) : t.mem = s.mem := (congrArg State.mem h.1 :)

theorem OnlyNoted.can (h : OnlyNoted l s t) : t.can = s.can := (congrArg State.can h.1 :)

theorem OnlyNoted.queues (h : OnlyNoted l s t) : t.queues = s.queues := (congrArg State.queues h.1 :)

theorem OnlyNoted.touches (h : OnlyNoted l s t) : State.Touches l s t := ⟨h.2, h.mem⟩

theorem OnlyNoted.regs_then (h : OnlyNoted l s₀ s) (h' : OnlyRegs l s t) : OnlyNoted l s₀ t := h.trans h'.noted

theorem OnlyNoted.setReg {a : Nat} {v : Word} (h : OnlyNoted l s₀ s) (ha : a ∈ l) : OnlyNoted l s₀ (s.setReg a v) :=
  h.regs_then (OnlyRegs.refl.setReg ha)

theorem OnlyNoted.setF {x : Field} {v : Nat} (h : OnlyNoted l s₀ s) (hx : x.addr ∈ l) : OnlyNoted l s₀ (s.setF x v) :=
  h.setReg hx

theorem OnlyNoted.setB {x : Field} {b : Bool} (h : OnlyNoted l s₀ s) (hx : x.addr ∈ l) :
    OnlyNoted l s₀ (s.setB x b) := h.setReg hx

theorem OnlyNoted.incF {x : Field} {d : Nat} (h : OnlyNoted l s₀ s) (hx : x.addr ∈ l) : OnlyNoted l s₀ (s.incF x d) :=
  h.setReg hx

theorem OnlyNoted.freeNext (h : OnlyNoted l s₀ s) : OnlyNoted l s₀ s.freeNext := h.trans ⟨rfl, fun _ _ => rfl⟩

theorem OnlyNoted.ite {c : Prop} [Decidable c] (hs : OnlyNoted l s₀ s) (ht : OnlyNoted l s₀ t) :
    OnlyNoted l s₀ (if c then s else t) := by
  split
  · exact hs
  · exact ht

theorem OnlyNoted.record {block src code data : Nat} (h : OnlyNoted l s₀ s) (hl : R.FCU_LDGLOST ∈ l) :
    OnlyNoted l s₀ (s.record block src code data) :=
  .ite (.ite (h.trans ⟨rfl, fun _ _ => rfl⟩) (h.incF hl)) h

theorem OnlyNoted.note {block code data : Nat} (h : OnlyNoted l s₀ s) (hl : R.FCU_LDGLOST ∈ l) :
    OnlyNoted l s₀ (s.note block code data) := h.record hl

theorem State.canCtl_congr (h : t.can = s.can) (n : Nat) : t.canCtl n = s.canCtl n := by rw [State.canCtl, State.canCtl, h]

theorem State.queue_congr (h : t.queues = s.queues) (q : Nat) : t.queue q = s.queue q := by
  rw [State.queue, State.queue, h]

@[simp] theorem State.regs_modCan (n : Nat) (f : CanCtl → CanCtl) : (s.modCan n f).regs = s.regs := rfl

@[simp] theorem State.mem_modCan (n : Nat) (f : CanCtl → CanCtl) : (s.modCan n f).mem = s.mem := rfl

@[simp] theorem State.queues_modCan (n : Nat) (f : CanCtl → CanCtl) : (s.modCan n f).queues = s.queues := rfl

theorem State.f_modCan (n : Nat) (f : CanCtl → CanCtl) (x : Field) : (s.modCan n f).f x = s.f x :=
  State.f_congr (State.regs_modCan n f) x

theorem State.fb_modCan (n : Nat) (f : CanCtl → CanCtl) (x : Field) : (s.modCan n f).fb x = s.fb x :=
  State.fb_congr (State.regs_modCan n f) x

theorem State.canCtl_modCan_same (n : Nat) (f : CanCtl → CanCtl) : (s.modCan n f).canCtl n = f (s.canCtl n) :=
  tblGet_tblSet_same _ _ _ _

end

/-! ## A source whose reaction resets nothing (12 R357) -/

section
variable {s : State} {src unit : Nat}

theorem State.onlyRegs_sourceShown : OnlyRegs (R.FCU_GRAVE :: sourceRegs src) s (s.sourceShown src) := by
  have hlatch : OnlyRegs (R.FCU_GRAVE :: sourceRegs src) s (s.sourceLatched src) :=
    State.onlyRegs_sourceLatched.mono (List.subset_cons_self _ _)
  unfold State.sourceShown
  split
  · exact hlatch.latchGrave List.mem_cons_self
  · exact hlatch

/-- With the grave latch or without it, the source's bit and its reaction read alike. -/
theorem State.sourceShown_reads {l : List Nat} {a : Nat} (hl : a ∉ l) (hgrave : [R.FCU_GRAVE] ⊆ l) :
    (s.sourceShown src).reg a = (s.sourceLatched src).reg a := by
  unfold State.sourceShown
  split
  · exact State.onlyRegs_latchGrave.2 a fun h => hl (hgrave h)
  · rfl

theorem State.react_sourceShown : (s.sourceShown src).f (F.FCU_REACT.REACT src) = s.f (F.FCU_REACT.REACT src) :=
  (congrArg (fld · 2 0) (State.sourceShown_reads (fcuReact_not_mem src (by decide)) fun _ h => h)).trans
    State.react_sourceLatched

theorem fswField_not_mem (src : Nat) {l : List Nat} (h0 : R.FCU_FSW0 ∉ l) (h1 : R.FCU_FSW1 ∉ l) :
    (fswField src).addr ∉ l := by
  obtain h | h := fswField_addr src
  · rwa [h]
  · rwa [h]

theorem State.fsw_sourceShown (src : Fin 64) : (s.sourceShown src).fsw src = true :=
  (congrArg (bitAt · (fswField src).lo)
    (State.sourceShown_reads (fswField_not_mem src (by decide) (by decide)) fun _ h => h)).trans
      (State.fsw_sourceLatched src)

/-- The reaction of a source is its records: NONE, INT, NMI, or a BLOCK_RESET that no unit takes. -/
def State.Records (s : State) (src : Nat) : Prop :=
  s.f (F.FCU_REACT.REACT src) ≤ 2 ∨ s.f (F.FCU_REACT.REACT src) ≠ 4 ∧ src ≠ 26 ∧ src ≠ 29

theorem State.onlyNoted_react {first : Bool} (h : s.Records src) :
    OnlyNoted [R.FCU_LDGLOST] s (s.react src unit first) := by
  have hrecord (data : Nat) : OnlyNoted [R.FCU_LDGLOST] s (s.record 5 src 1 data) := OnlyNoted.refl.record List.mem_cons_self
  unfold State.react
  split
  · next h3 =>
    obtain h | ⟨-, h26, h29⟩ := h
    · omega
    · rw [if_neg h26, if_neg h29]
      exact hrecord _
  · next h4 =>
    obtain h | ⟨h, -, -⟩ := h
    · omega
    · exact absurd h4 h
  · exact .ite ((hrecord _).record List.mem_cons_self) (hrecord _)

/-- A source newly set without a reset shows itself and writes records, and nothing else. -/
theorem State.onlyNoted_records_of_new (hon : s.on 2 = true) (hnew : s.fsw src = false) (hreact : s.Records src) :
    OnlyNoted [R.FCU_LDGLOST] (s.sourceShown src) (s.raiseUnit src unit) := by
  have hshown : (s.sourceShown src).Records src := by
    rw [State.Records, State.react_sourceShown]
    exact hreact
  rw [State.raiseUnit_of_new hon hnew]
  exact State.onlyNoted_react hshown

/-- The registers that the assertion of a source may change. -/
abbrev assertRegs (src : Nat) : List Nat := R.FCU_LDGLOST :: R.FCU_GRAVE :: sourceRegs src

theorem State.onlyNoted_raiseUnit (hreact : s.Records src) :
    OnlyNoted (assertRegs src) s (s.raiseUnit src unit) := by
  by_cases hon : s.on 2 = true
  · by_cases hset : s.fsw src = true
    · have hcount : R.FCU_REACT src ∈ assertRegs src := by simp
      rw [State.raiseUnit_of_set hon hset]
      exact (OnlyRegs.refl.satF hcount).noted
    · exact (State.onlyRegs_sourceShown.mono (List.subset_cons_self _ _)).noted.trans <|
        (State.onlyNoted_records_of_new hon (Bool.eq_false_iff.2 hset) hreact).mono (by simp)
  · rw [State.raiseUnit, if_neg hon]
    exact .refl

theorem State.fsw_raiseUnit (src : Fin 64) (hon : s.on 2 = true) (hreact : s.Records src) :
    (s.raiseUnit src unit).fsw src = true := by
  by_cases hset : s.fsw src = true
  · rw [State.raiseUnit_of_set hon hset]
    exact State.fsw_satF_count.trans hset
  · exact ((State.onlyNoted_records_of_new hon (Bool.eq_false_iff.2 hset) hreact).touches.fb
      (fswField_not_mem src (by decide) (by decide))).trans (State.fsw_sourceShown src)

end

/-! ## A push by a hardware producer (08 R270) -/

section
variable {s t : State} {q : Nat} {e : DWord}

theorem State.hwPush_frame : s.hwPush q e = { s with regs := (s.hwPush q e).regs, queues := (s.hwPush q e).queues } ∧
    SameRegsBut [R.HQ_DROP q, R.HQ_STAT q] s (s.hwPush q e) := by
  have hdropped : OnlyRegs [R.HQ_DROP q, R.HQ_STAT q] s (s.pushDropped q) :=
    (OnlyRegs.refl.incF List.mem_cons_self).setB (List.mem_cons_of_mem _ List.mem_cons_self)
  by_cases hq : s.qOn q = true
  · by_cases hroom : (s.queue q).length < s.qCap q
    · rw [State.hwPush_of_room hq hroom]
      exact ⟨rfl, fun _ _ => rfl⟩
    · rw [State.hwPush_of_full hq (Nat.le_of_not_lt hroom)]
      exact ⟨hdropped.1, hdropped.2⟩
  · rw [State.hwPush, if_neg hq]
    exact ⟨rfl, fun _ _ => rfl⟩

theorem State.touches_hwPush : Touches [R.HQ_DROP q, R.HQ_STAT q] s (s.hwPush q e) :=
  ⟨State.hwPush_frame.2, State.mem_hwPush s q e⟩

theorem State.can_hwPush : (s.hwPush q e).can = s.can := (congrArg State.can State.hwPush_frame.1 :)

theorem State.fcu_hwPush : (s.hwPush q e).fcu = s.fcu := (congrArg State.fcu State.hwPush_frame.1 :)

theorem State.queue_hwPush_ne {r : Nat} (hr : r ≠ q) : (s.hwPush q e).queue r = s.queue r := by
  by_cases hq : s.qOn q = true
  · by_cases hroom : (s.queue q).length < s.qCap q
    · rw [State.hwPush_of_room hq hroom, State.queue_setQueue_ne _ _ hr]
    · rw [State.hwPush_of_full hq (Nat.le_of_not_lt hroom)]
      rfl
  · rw [State.hwPush, if_neg hq]

/-- The registers that say whether queue q runs and what it holds. -/
abbrev queueRegs (q : Nat) : List Nat := [R.SYSC_PSTAT, R.HQ_CTRL, R.HQ_CFG q]

/-- Where queue q runs and has room, the entry stands last in it. -/
def Pushed (q : Nat) (s t : State) (e : DWord) : Prop :=
  s.qOn q = true → (s.queue q).length < s.qCap q → t.queue q = s.queue q ++ [e]

theorem State.qOn_congr {l : List Nat} (h : SameRegsBut l s t) (hl : ∀ a ∈ queueRegs q, a ∉ l) :
    t.qOn q = s.qOn q := by
  rw [State.qOn, State.qOn, State.on, State.on, h _ (hl _ List.mem_cons_self), h.fb (x := F.HQ_CTRL.EN) (hl R.HQ_CTRL (by simp)),
    h.fb (x := F.HQ_CFG.EN q) (hl (R.HQ_CFG q) (by simp))]

/-- A push is the push of the state before, where the queue and its registers are as before. -/
theorem State.pushed_hwPush {l : List Nat} (hqueue : t.queue q = s.queue q) (h : SameRegsBut l s t)
    (hl : ∀ a ∈ queueRegs q, a ∉ l) : Pushed q s (t.hwPush q e) e := fun hq hroom => by
  have hcap : t.qCap q = s.qCap q := congrArg (16 * 2 ^ ·) (h.f (x := F.HQ_CFG.SIZE q) (hl (R.HQ_CFG q) (by simp)))
  rw [State.hwPush_of_room ((State.qOn_congr h hl).trans hq) (by rwa [hcap, hqueue]), hqueue]
  exact State.queue_setQueue_same _ _

end

end Sys2Proof.Machine

namespace Sys2Proof.Machine

/-! ## The registers of a CAN controller -/

theorem canReg_not_mem {a : Nat} {l : List Nat} (hl : ∀ x ∈ l, x < 0x400E0000) (ha : 0x400E0000 ≤ a) : a ∉ l := fun h =>
  absurd (hl a h) (Nat.not_lt.2 ha)

theorem canStat_above (n : Nat) : 0x400E0000 ≤ R.CAN_STAT n := Nat.le_trans (by decide) (Nat.le_add_right 0x400E0010 _)

theorem queueRegs_below {q : Nat} (hq : q < 32) : ∀ a ∈ queueRegs q, a < 0x400E0000 := by
  revert q
  decide

section
variable {s : State} {n v : Nat}

/-! ## The states of a controller (14 R429) -/

theorem OnlyRegs.setCanState {l : List Nat} {t : State} (h : OnlyRegs l s t) (hl : R.CAN_STAT n ∈ l) :
    OnlyRegs l s (t.setCanState n v) := by
  unfold State.setCanState
  split
  · exact h
  · exact .setB (.setF h hl) hl

theorem State.setCanState_of_ne (h : s.f (F.CAN_STAT.STATE n) ≠ v) :
    s.setCanState n v = (s.setF (F.CAN_STAT.STATE n) v).setB (F.CAN_STAT.STATECHG n) true := if_neg h

theorem State.state_setCanState (hv : v < 4) : (s.setCanState n v).f (F.CAN_STAT.STATE n) = v := by
  by_cases h : s.f (F.CAN_STAT.STATE n) = v
  · rwa [State.setCanState, if_pos h]
  · rw [State.setCanState_of_ne h]
    exact (State.f_setB_apart _ _ _ _ (.inr (.inr (by decide : 24 < 30)))).trans <|
      (State.f_setF_same _ _ _ (by decide : 31 < 32)).trans (Nat.mod_eq_of_lt hv)

/-- The flags that stand between STATECHG and STATE stay. -/
theorem State.fb_setCanState {x : Field} (hx : 24 < x.lo ∧ x.lo < 30) : (s.setCanState n v).fb x = s.fb x := by
  unfold State.setCanState
  split
  · rfl
  · exact (State.fb_setB_apart _ _ _ _ (.inr (.inr hx.1))).trans (State.fb_setF_apart _ _ _ _ (.inr (.inl hx.2)))

theorem State.canRec_of_zero (h : s.reg (R.CAN_ERRCNT n) = 0) : s.f (F.CAN_ERRCNT.TEC n) = 0 ∧ s.canRec n = 0 := by
  have hf (x : Field) (hx : x.addr = R.CAN_ERRCNT n) : s.f x = 0 := by
    rw [State.f, hx, h, fld]
    simp
  refine ⟨hf _ rfl, ?_⟩
  rw [State.canRec, hf _ rfl, (State.fb_iff_f (x := F.CAN_ERRCNT.RP n) rfl false).2 (hf _ rfl)]
  rfl

theorem canErrcnt_ne_stat (n : Nat) : R.CAN_ERRCNT n ≠ R.CAN_STAT n := by
  unfold R.CAN_ERRCNT R.CAN_STAT
  omega

theorem canCfg_ne_stat (n : Nat) : R.CAN_CFG n ≠ R.CAN_STAT n := by
  unfold R.CAN_CFG R.CAN_STAT
  omega

/-! ## Bus-off (14 R429) -/

/-- STATE shows bus-off, with its flag, and no frame is in progress. -/
def State.offBusStat (s : State) (n : Nat) : State :=
  ((s.setF (F.CAN_STAT.STATE n) 2).setB (F.CAN_STAT.STATECHG n) true).setB (F.CAN_STAT.TXBUSY n) false

/-- And the entry in transmission is dropped. -/
def State.offBusIdle (s : State) (n : Nat) : State := (s.offBusStat n).modCan n fun c => { c with tx := none }

/-- The controller as bus-off leaves it: recovering in STANDARD. -/
def State.offBus (s : State) (n : Nat) : State :=
  if (s.offBusIdle n).fb (F.CAN_CFG.CONF n) then s.offBusIdle n else (s.offBusIdle n).setB (F.CAN_STAT.RECOVERING n) true

theorem State.onlyRegs_offBusStat : OnlyRegs [R.CAN_STAT n] s (s.offBusStat n) :=
  .setB (.setB (.setF .refl List.mem_cons_self) List.mem_cons_self) List.mem_cons_self

theorem State.offBusStat_spec : (s.offBusStat n).f (F.CAN_STAT.STATE n) = 2 ∧
    (s.offBusStat n).fb (F.CAN_STAT.STATECHG n) = true ∧ (s.offBusStat n).fb (F.CAN_STAT.TXBUSY n) = false ∧
    (s.offBusStat n).fb (F.CAN_STAT.RECOVERING n) = s.fb (F.CAN_STAT.RECOVERING n) := by
  refine ⟨?_, ?_, State.fb_setB_same _ _ _ rfl (by decide : 27 < 32), ?_⟩
  · exact (State.f_setB_apart _ _ _ _ (.inr (.inr (by decide : 27 < 30)))).trans <|
      (State.f_setB_apart _ _ _ _ (.inr (.inr (by decide : 24 < 30)))).trans <|
        State.f_setF_same _ _ _ (by decide : 31 < 32)
  · exact (State.fb_setB_apart _ _ _ _ (.inr (.inl (by decide : 24 < 27)))).trans <|
      State.fb_setB_same _ _ _ rfl (by decide : 24 < 32)
  · exact (State.fb_setB_apart _ _ _ _ (.inr (.inr (by decide : 27 < 29)))).trans <|
      (State.fb_setB_apart _ _ _ _ (.inr (.inr (by decide : 24 < 29)))).trans <|
        State.fb_setF_apart _ _ _ _ (.inr (.inl (by decide : 29 < 30)))

theorem State.offBusIdle_frame : Touches [R.CAN_STAT n] s (s.offBusIdle n) ∧ (s.offBusIdle n).queues = s.queues ∧
    ((s.offBusIdle n).canCtl n).tx = none :=
  have hstat : OnlyRegs [R.CAN_STAT n] s (s.offBusStat n) := State.onlyRegs_offBusStat
  ⟨hstat.touches.update (State.regs_modCan n _) (State.mem_modCan n _),
    (State.queues_modCan n _).trans hstat.noted.queues, congrArg CanCtl.tx (State.canCtl_modCan_same n _)⟩

theorem State.offBus_frame : Touches [R.CAN_STAT n] s (s.offBus n) ∧ (s.offBus n).queues = s.queues ∧
    ((s.offBus n).canCtl n).tx = none := by
  have hidle := s.offBusIdle_frame (n := n)
  unfold State.offBus
  generalize s.offBusIdle n = t at *
  obtain ⟨htouch, hqueues, htx⟩ := hidle
  split
  · exact ⟨htouch, hqueues, htx⟩
  · have hset : OnlyNoted [R.CAN_STAT n] t (t.setB (F.CAN_STAT.RECOVERING n) true) := OnlyNoted.refl.setB List.mem_cons_self
    exact ⟨htouch.trans hset.touches, hset.queues.trans hqueues,
      (congrArg CanCtl.tx (State.canCtl_congr hset.can n)).trans htx⟩

theorem State.offBus_spec : (s.offBus n).f (F.CAN_STAT.STATE n) = 2 ∧ (s.offBus n).fb (F.CAN_STAT.STATECHG n) = true ∧
    (s.offBus n).fb (F.CAN_STAT.TXBUSY n) = false ∧
    (s.offBus n).fb (F.CAN_STAT.RECOVERING n) = (s.fb (F.CAN_STAT.RECOVERING n) || !s.fb (F.CAN_CFG.CONF n)) := by
  obtain ⟨hstate, hchg, hidle, hrec⟩ := s.offBusStat_spec (n := n)
  have hconf : (s.offBusIdle n).fb (F.CAN_CFG.CONF n) = s.fb (F.CAN_CFG.CONF n) :=
    s.offBusIdle_frame.1.fb fun h => canCfg_ne_stat n (List.mem_singleton.1 h)
  rw [← State.f_modCan n (fun c => { c with tx := none }), ← State.offBusIdle] at hstate
  rw [← State.fb_modCan n (fun c => { c with tx := none }), ← State.offBusIdle] at hchg hidle hrec
  rw [State.offBus, hconf]
  generalize s.offBusIdle n = t at *
  cases hstrict : s.fb (F.CAN_CFG.CONF n) with
  | true => exact ⟨hstate, hchg, hidle, hrec.trans (Bool.or_false _).symm⟩
  | false => exact ⟨(State.f_setB_apart _ _ _ _ (.inr (.inr (by decide : 29 < 30)))).trans hstate,
      (State.fb_setB_apart _ _ _ _ (.inr (.inl (by decide : 24 < 29)))).trans hchg,
      (State.fb_setB_apart _ _ _ _ (.inr (.inl (by decide : 27 < 29)))).trans hidle,
      (State.fb_setB_same _ _ _ rfl (by decide : 29 < 32)).trans (Bool.or_true _).symm⟩

/-- Bus-off reported: its entry in Q23 and its record. -/
def State.offBusShown (s : State) (n : Nat) : State :=
  ((s.offBus n).hwPush 23 (BitVec.ofNat 64 (n * 2 ^ 63 + 5 * 2 ^ 60 + 9 * 2 ^ 47))).note 14 1 n

theorem State.canBusOff_of_count (hlive : s.live = true) (hon : s.on 10 = true) (hen : s.fb (F.CAN_CFG.EN n) = true)
    (htec : 256 ≤ s.f (F.CAN_ERRCNT.TEC n)) (hstate : s.f (F.CAN_STAT.STATE n) ≠ 2) :
    s.canBusOff n = s.roseUnit (s.offBusShown n) [29] n := by
  refine (if_pos (by simp [hlive, hon, hen, htec, hstate])).trans ?_
  rw [State.setCanState_of_ne hstate]
  rfl

/-- The registers that the report of bus-off may change. -/
abbrev reportRegs : List Nat := [R.HQ_DROP 23, R.HQ_STAT 23, R.FCU_LDGLOST]

/-- What bus-off changes beside the assertion of source 29. -/
theorem State.offBusShown_frame (n : Nat) : Touches reportRegs (s.offBus n) (s.offBusShown n) ∧
    (s.offBusShown n).can = (s.offBus n).can ∧
      Pushed 23 s (s.offBusShown n) (BitVec.ofNat 64 (n * 2 ^ 63 + 5 * 2 ^ 60 + 9 * 2 ^ 47)) := by
  obtain ⟨htouch, hqueues, -⟩ := s.offBus_frame (n := n)
  unfold State.offBusShown
  generalize BitVec.ofNat 64 (n * 2 ^ 63 + 5 * 2 ^ 60 + 9 * 2 ^ 47) = e
  have hpushed : Pushed 23 s ((s.offBus n).hwPush 23 e) e := State.pushed_hwPush (State.queue_congr hqueues 23) htouch.regs
    fun a ha h => absurd (List.mem_singleton.1 h) (Nat.ne_of_lt (Nat.lt_of_lt_of_le (queueRegs_below (by decide) a ha)
      (canStat_above n)))
  have hnote : OnlyNoted [R.FCU_LDGLOST] ((s.offBus n).hwPush 23 e) (((s.offBus n).hwPush 23 e).note 14 1 n) :=
    OnlyNoted.refl.note List.mem_cons_self
  exact ⟨(State.touches_hwPush.mono (by simp)).trans (hnote.touches.mono (by simp)), hnote.can.trans State.can_hwPush,
    fun hq hroom => (State.queue_congr hnote.queues 23).trans (hpushed hq hroom)⟩

/-- The line of source 29 shows a controller in bus-off. -/
theorem State.level_can : s.level 29 =
    (decide (s.f (F.CAN_STAT.STATE 0) = 2) || decide (s.f (F.CAN_STAT.STATE 1) = 2)) := by
  change (decide _ || (decide _ || false)) = _
  rw [Bool.or_false]

theorem State.level_can_of_state (n : Fin 2) (h : s.f (F.CAN_STAT.STATE n) = 2) : s.level 29 = true := by
  rw [State.level_can, Bool.or_eq_true, decide_eq_true_eq, decide_eq_true_eq]
  obtain hn | hn : n.val = 0 ∨ n.val = 1 := by omega
  · exact .inl (hn ▸ h)
  · exact .inr (hn ▸ h)

theorem State.level_can_of_none (n : Fin 2) (h : s.f (F.CAN_STAT.STATE n) ≠ 2)
    (hother : s.f (F.CAN_STAT.STATE (1 - n.val)) ≠ 2) : s.level 29 = false := by
  rw [State.level_can, Bool.or_eq_false_iff, decide_eq_false_iff_not, decide_eq_false_iff_not]
  obtain hn | hn : n.val = 0 ∨ n.val = 1 := by omega
  · rw [hn] at h hother
    exact ⟨h, hother⟩
  · rw [hn] at h hother
    exact ⟨hother, h⟩

theorem State.roseUnit_one {t : State} {src unit : Nat} :
    s.roseUnit t [src] unit = if !s.level src && t.level src then t.raiseUnit src unit else t := rfl

/-- Bus-off: the controller's state, its entry in Q23, and source 29. -/
theorem State.canBusOff_spec (n : Fin 2) (hlive : s.live = true) (hon : s.on 10 = true)
    (hen : s.fb (F.CAN_CFG.EN n) = true) (htec : 256 ≤ s.f (F.CAN_ERRCNT.TEC n))
    (hstate : s.f (F.CAN_STAT.STATE n) ≠ 2) (hreact : s.f (F.FCU_REACT.REACT 29) ≤ 2) : let t := s.canBusOff n
    t.reg (R.CAN_STAT n) = (s.offBus n).reg (R.CAN_STAT n) ∧ t.canCtl n = (s.offBus n).canCtl n ∧
      (s.f (F.CAN_STAT.STATE (1 - n.val)) ≠ 2 → t.fsw 29 = true) ∧
      Pushed 23 s t (BitVec.ofNat 64 (n * 2 ^ 63 + 5 * 2 ^ 60 + 9 * 2 ^ 47)) ∧ t.mem = s.mem := by
  obtain ⟨htouch, -, -⟩ := s.offBus_frame (n := n)
  obtain ⟨hreport, hcan, hpushed⟩ := s.offBusShown_frame n
  have hstat : R.CAN_STAT n ∉ reportRegs := canReg_not_mem (by decide) (canStat_above n)
  have hmem : (s.offBusShown n).mem = s.mem := hreport.mem.trans htouch.mem
  have hword : (s.offBusShown n).reg (R.CAN_STAT n) = (s.offBus n).reg (R.CAN_STAT n) := hreport.regs _ hstat
  have hkept (a : Nat) (hlow : a < 0x400E0000) (ha : a ∉ reportRegs) : (s.offBusShown n).reg a = s.reg a :=
    (hreport.regs a ha).trans <| htouch.regs a fun h =>
      absurd (List.mem_singleton.1 h) (Nat.ne_of_lt (Nat.lt_of_lt_of_le hlow (canStat_above n)))
  have hreact' : (s.offBusShown n).f (F.FCU_REACT.REACT 29) ≤ 2 :=
    Nat.le_trans (Nat.le_of_eq (congrArg (fld · 2 0) (hkept _ (by decide) (by decide)))) hreact
  have hpd2 : (s.offBusShown n).on 2 = true :=
    (congrArg (bitAt · 2) (hkept R.SYSC_PSTAT (by decide) (by decide))).trans (State.on_of_live hlive)
  have hshown : (s.offBusShown n).level 29 = true :=
    State.level_can_of_state n ((congrArg (fld · 31 30) hword).trans s.offBus_spec.1)
  intro t
  have ht : t = if !s.level 29 then (s.offBusShown n).raiseUnit 29 n else s.offBusShown n := by
    have hbus : t = _ := State.canBusOff_of_count hlive hon hen htec hstate
    rw [hbus, State.roseUnit_one, hshown, Bool.and_true]
  have hraise : OnlyNoted (assertRegs 29) (s.offBusShown n) t := by
    rw [ht]
    exact .ite (State.onlyNoted_raiseUnit (.inl hreact')) .refl
  refine ⟨(hraise.2 _ (canReg_not_mem (by decide) (canStat_above n))).trans hword,
    State.canCtl_congr (hraise.can.trans hcan) n, fun hother => ?_, fun hq hroom => ?_, hraise.mem.trans hmem⟩
  · rw [ht, State.level_can_of_none n hstate hother]
    exact State.fsw_raiseUnit (29 : Fin 64) hpd2 (.inl hreact')
  · exact (State.queue_congr hraise.queues 23).trans (hpushed hq hroom)

theorem canCfg_not_mem (n : Fin 2) : R.CAN_CFG n ∉ [R.CAN_STAT n, R.CAN_ERRCNT n] := by
  revert n
  decide

/-! ## Recovery and reset (14 R429) -/

theorem State.canRecover_of_strict (hon : s.on 10 = true) (hconf : s.fb (F.CAN_CFG.CONF n) = true)
    (hstate : s.f (F.CAN_STAT.STATE n) = 2) : s.canRecover n = s.setB (F.CAN_STAT.RECOVERING n) true :=
  if_pos (by simp [hon, hconf, hstate])

theorem State.canRecover_of_standard (hconf : s.fb (F.CAN_CFG.CONF n) = false) : s.canRecover n = s :=
  if_neg (by simp [hconf])

theorem State.canReset_of_on (hon : s.on 10 = true) : s.canReset n = s.resetCan n := if_pos hon

theorem State.canRecoveryDone_of_recovering (hlive : s.live = true) (hon : s.on 10 = true)
    (hrec : s.fb (F.CAN_STAT.RECOVERING n) = true) : s.canRecoveryDone n =
      ((s.setReg (R.CAN_ERRCNT n) 0).setB (F.CAN_STAT.RECOVERING n) false).setCanState n 0 :=
  if_pos (by simp [hlive, hon, hrec])

theorem State.canRecoveryDone_spec (hlive : s.live = true) (hon : s.on 10 = true)
    (hrec : s.fb (F.CAN_STAT.RECOVERING n) = true) : let t := s.canRecoveryDone n
    t.reg (R.CAN_ERRCNT n) = 0 ∧ t.f (F.CAN_STAT.STATE n) = 0 ∧ t.fb (F.CAN_STAT.RECOVERING n) = false ∧
      OnlyRegs [R.CAN_STAT n, R.CAN_ERRCNT n] s t := by
  have hcount : OnlyRegs [R.CAN_STAT n, R.CAN_ERRCNT n] s (s.setReg (R.CAN_ERRCNT n) 0) :=
    OnlyRegs.refl.setReg (by simp)
  have hone : R.CAN_ERRCNT n ∉ [R.CAN_STAT n] := fun h => canErrcnt_ne_stat n (List.mem_singleton.1 h)
  rw [State.canRecoveryDone_of_recovering hlive hon hrec]
  refine ⟨?_, State.state_setCanState (by decide), ?_,
    (hcount.setB List.mem_cons_self).setCanState List.mem_cons_self⟩
  · exact (((OnlyRegs.refl.setB List.mem_cons_self).setCanState List.mem_cons_self).2 _ hone).trans
      (State.reg_setReg_same _ _ _)
  · exact (State.fb_setCanState (by decide : 24 < 29 ∧ 29 < 30)).trans (State.fb_setB_same _ _ _ rfl (by decide : 29 < 32))

/-- The registers of a controller as a reset leaves them. -/
def State.resetCanRegs (s : State) (n : Nat) : State :=
  (((s.setReg (R.CAN_ERRCNT n) 0).setB (F.CAN_STAT.TXBUSY n) false).setCanState n 0).setB (F.CAN_STAT.RECOVERING n) true

theorem State.resetCanRegs_spec : (s.resetCanRegs n).reg (R.CAN_ERRCNT n) = 0 ∧
    (s.resetCanRegs n).f (F.CAN_STAT.STATE n) = 0 ∧ (s.resetCanRegs n).fb (F.CAN_STAT.TXBUSY n) = false ∧
    (s.resetCanRegs n).fb (F.CAN_STAT.RECOVERING n) = true ∧
    OnlyRegs [R.CAN_STAT n, R.CAN_ERRCNT n] s (s.resetCanRegs n) := by
  have hcount : OnlyRegs [R.CAN_STAT n, R.CAN_ERRCNT n] s (s.setReg (R.CAN_ERRCNT n) 0) :=
    OnlyRegs.refl.setReg (by simp)
  have hone : R.CAN_ERRCNT n ∉ [R.CAN_STAT n] := fun h => canErrcnt_ne_stat n (List.mem_singleton.1 h)
  refine ⟨?_, ?_, ?_, State.fb_setB_same _ _ _ rfl (by decide : 29 < 32),
    ((hcount.setB List.mem_cons_self).setCanState List.mem_cons_self).setB List.mem_cons_self⟩
  · have hstat (t : State) : OnlyRegs [R.CAN_STAT n] t
        (((t.setB (F.CAN_STAT.TXBUSY n) false).setCanState n 0).setB (F.CAN_STAT.RECOVERING n) true) :=
      .setB (.setCanState (.setB .refl List.mem_cons_self) List.mem_cons_self) List.mem_cons_self
    exact ((hstat _).2 _ hone).trans (State.reg_setReg_same _ _ _)
  · exact (State.f_setB_apart _ _ _ _ (.inr (.inr (by decide : 29 < 30)))).trans (State.state_setCanState (by decide))
  · exact (State.fb_setB_apart _ _ _ _ (.inr (.inl (by decide : 27 < 29)))).trans <|
      (State.fb_setCanState (by decide : 24 < 27 ∧ 27 < 30)).trans (State.fb_setB_same _ _ _ rfl (by decide : 27 < 32))

theorem State.resetCan_eq : s.resetCan n = (s.resetCanRegs n).modCan n fun c => { c with tx := none } := rfl

/-! ## Sleep and wake (14 R430, R431) -/

theorem State.canSleep_of_busy (hon : s.on 10 = true) (hbusy : s.fb (F.CAN_STAT.TXBUSY n) = true) :
    s.canSleep n = s.modCan n fun c => { c with sleepPend := true } := (if_pos hon).trans (if_pos hbusy)

theorem State.canSleep_of_idle (hon : s.on 10 = true) (hbusy : s.fb (F.CAN_STAT.TXBUSY n) = false) :
    s.canSleep n = s.setB (F.CAN_STAT.SLEEP n) true := (if_pos hon).trans (if_neg (by simp [hbusy]))

theorem State.canWake_of_on (hon : s.on 10 = true) :
    s.canWake n = (s.setB (F.CAN_STAT.SLEEP n) false).modCan n fun c => { c with sleepPend := false } := if_pos hon

/-- A wake cause shows its bit, with a record. -/
theorem State.wakeCause_spec {bit : Nat} (hbit : bit < 32) : bitAt ((s.wakeCause bit).reg R.CAN_WAKESTAT) bit = true ∧
    OnlyNoted [R.CAN_WAKESTAT, R.FCU_LDGLOST] s (s.wakeCause bit) := by
  have hset : OnlyNoted [R.CAN_WAKESTAT, R.FCU_LDGLOST] s
      (s.setReg R.CAN_WAKESTAT (setFld (s.reg R.CAN_WAKESTAT) bit bit 1)) := OnlyNoted.refl.setReg List.mem_cons_self
  unfold State.wakeCause
  extract_lets t
  refine ⟨?_, OnlyNoted.note hset (by simp)⟩
  have hnote : OnlyNoted [R.FCU_LDGLOST] t (t.note 14 3 (t.reg R.CAN_WAKESTAT).toNat) := OnlyNoted.refl.note (by simp)
  rw [hnote.2 _ (by decide), State.reg_setReg_same]
  exact bitAt_setFld_same _ _ 1 hbit

/-- The frame error counter changes, and a wake cause is set where the condition holds. -/
def State.wakeCounted (s : State) (n k : Nat) (c : Bool) (bit : Nat) : State :=
  let t := s.modCan n fun z => { z with fec := k }
  if c then t.wakeCause bit else t

theorem State.wakeCounted_spec {k bit : Nat} {c : Bool} (hbit : bit < 32) : let t := s.wakeCounted n k c bit
    (t.canCtl n).fec = k ∧ (c = true → bitAt (t.reg R.CAN_WAKESTAT) bit = true) ∧
      (c = false → t.reg R.CAN_WAKESTAT = s.reg R.CAN_WAKESTAT) ∧
      Touches [R.CAN_WAKESTAT, R.FCU_LDGLOST] s t := by
  have hcount : Touches [R.CAN_WAKESTAT, R.FCU_LDGLOST] s (s.modCan n fun z => { z with fec := k }) :=
    Touches.refl.update (State.regs_modCan n _) (State.mem_modCan n _)
  have hfec : ((s.modCan n fun z => { z with fec := k }).canCtl n).fec = k :=
    congrArg CanCtl.fec (State.canCtl_modCan_same n _)
  unfold State.wakeCounted
  cases c with
  | true =>
    obtain ⟨hcause, hframe⟩ := (s.modCan n fun z => { z with fec := k }).wakeCause_spec hbit
    exact ⟨(congrArg CanCtl.fec (State.canCtl_congr hframe.can n)).trans hfec, fun _ => hcause, nofun,
      hcount.trans hframe.touches⟩
  | false => exact ⟨hfec, nofun, fun _ => rfl, hcount⟩

theorem State.wufOn_of_sleep (hlive : s.live = true) (hon : s.on 10 = true) (hen : s.fb (F.CAN_CFG.EN n) = true)
    (hsleep : s.fb (F.CAN_STAT.SLEEP n) = true) (hwuf : s.fb (F.CAN_WUFID.EN n) = true) : s.wufOn n = true := by
  simp [State.wufOn, hlive, hon, hen, hsleep, hwuf]

theorem State.canWakeFrame_of_on (h : s.wufOn n = true) (hdr : CanHeader) (data : List Byte) :
    s.canWakeFrame n hdr data = s.wakeCounted n ((s.canCtl n).fec - 1) (s.wufMatch n hdr data) (2 + n) := if_pos h

theorem State.canFrameError_of_on (h : s.wufOn n = true) : s.canFrameError n =
    s.wakeCounted n (min 32 ((s.canCtl n).fec + 1)) (decide (min 32 ((s.canCtl n).fec + 1) = 32)) (4 + n) := by
  refine (if_pos h).trans ?_
  rw [State.wakeCounted]
  simp only [decide_eq_true_eq]

end

/-- Settles O47: bus-off as `offBus` with its report, and each other command by its one branch. -/
theorem canStatesSleepAndWake : Obligations.CanStatesSleepAndWake := by
  refine ⟨fun s n hlive hon hen htec hstate hreact => ?_, fun s n hon => ⟨fun hconf hstate => ?_, fun hconf => ?_⟩,
    fun s n hon => ?_, fun s n hlive hon hrec => ?_, fun s n hon => ⟨fun hbusy => ?_, fun hbusy => ?_⟩,
    fun s n hon => ?_, fun s n h data hlive hon hen hsleep hwuf => ⟨?_, ?_⟩⟩
  · obtain ⟨hword, hctl, hfsw, hpushed, hmem⟩ := State.canBusOff_spec n hlive hon hen htec hstate hreact
    obtain ⟨hshown, hchg, hidle, hrec⟩ := s.offBus_spec (n := n)
    exact .intro rfl rfl ⟨(congrArg (fld · 31 30) hword).trans hshown, (congrArg (bitAt · 24) hword).trans hchg,
      (congrArg (bitAt · 27) hword).trans hidle, (congrArg CanCtl.tx hctl).trans s.offBus_frame.2.2,
      (congrArg (bitAt · 29) hword).trans hrec, hfsw, hpushed, State.ldb_congr hmem⟩
  · exact .intro rfl (State.canRecover_of_strict hon hconf hstate) ⟨State.fb_setB_same _ _ _ rfl (by decide : 29 < 32),
      (State.f_setB_apart _ _ _ _ (.inr (.inr (by decide : 29 < 30)))).trans hstate, .setB .refl List.mem_cons_self⟩
  · exact congrArg Host.Outcome.next (State.canRecover_of_standard hconf)
  · obtain ⟨hcount, hstate, hidle, hrec, hregs⟩ := s.resetCanRegs_spec (n := n)
    obtain ⟨htec, hcrec⟩ := State.canRec_of_zero hcount
    exact .intro rfl ((State.canReset_of_on hon).trans State.resetCan_eq) ⟨htec, hcrec, hstate, hidle, hrec,
      congrArg CanCtl.tx (State.canCtl_modCan_same n _), hregs.2 _ (canCfg_not_mem n), hregs.2, hregs.touches.sameMem⟩
  · obtain ⟨hcount, hstate, hrec, hregs⟩ := State.canRecoveryDone_spec hlive hon hrec
    obtain ⟨htec, hcrec⟩ := State.canRec_of_zero hcount
    exact .intro rfl rfl ⟨htec, hcrec, hstate, hrec, hregs⟩
  · exact .intro rfl (State.canSleep_of_busy hon hbusy) ⟨congrArg CanCtl.sleepPend (State.canCtl_modCan_same n _),
      (congrArg CanCtl.tx (State.canCtl_modCan_same n _) :), fun _ => rfl, fun _ => rfl⟩
  · exact .intro rfl (State.canSleep_of_idle hon hbusy)
      ⟨State.fb_setB_same _ _ _ rfl (by decide : 28 < 32), .setB .refl List.mem_cons_self⟩
  · have hset : OnlyRegs [R.CAN_STAT n] s (s.setB (F.CAN_STAT.SLEEP n) false) := .setB .refl List.mem_cons_self
    exact .intro rfl (State.canWake_of_on hon) ⟨State.fb_setB_same _ _ _ rfl (by decide : 28 < 32),
      congrArg CanCtl.sleepPend (State.canCtl_modCan_same n _), hset.2, hset.touches.sameMem⟩
  · obtain ⟨hfec, hcause, hnone, hframe⟩ := s.wakeCounted_spec (n := n) (k := (s.canCtl n).fec - 1)
      (c := s.wufMatch n h data) (bit := 2 + n) (by omega)
    exact .intro rfl (State.canWakeFrame_of_on (State.wufOn_of_sleep hlive hon hen hsleep hwuf) h data)
      ⟨hfec, hcause, hnone, hframe.regs, hframe.sameMem⟩
  · obtain ⟨hfec, hcause, hnone, hframe⟩ := s.wakeCounted_spec (n := n) (k := min 32 ((s.canCtl n).fec + 1))
      (c := decide (min 32 ((s.canCtl n).fec + 1) = 32)) (bit := 4 + n) (by omega)
    exact .intro rfl (State.canFrameError_of_on (State.wufOn_of_sleep hlive hon hen hsleep hwuf))
      ⟨hfec, fun h31 => hcause (decide_eq_true (by omega)), fun h31 => hnone (decide_eq_false (by omega)), hframe.regs,
        hframe.sameMem⟩

end Sys2Proof.Machine

namespace Sys2Proof.Machine

/-! ## Configuration (14 R423) -/

theorem bitAt_setFld_within (w : Word) (v : Nat) {hi lo i : Nat} (h : hi < 32) (hlo : lo ≤ i) (hhi : i ≤ hi) :
    bitAt (setFld w hi lo v) i = v.testBit (i - lo) := (getLsbD_setFld w hi lo v i).trans (if_pos (by omega))

section
variable {s : State} {n : Fin 2} {fden strict tdcen listen : Bool}

/-- The word that CAN_ENABLE writes. -/
def canEnableWord (fden strict tdcen listen : Bool) : Word :=
  wN (2 ^ 31 + b2n fden * 2 ^ 30 + b2n strict * 2 ^ 29 + b2n tdcen * 2 ^ 28 + b2n listen * 2 ^ 27)

theorem canEnableWord_bits (fden strict tdcen listen : Bool) : let v := canEnableWord fden strict tdcen listen
    bitAt v 31 = true ∧ bitAt v 30 = fden ∧ bitAt v 28 = tdcen ∧ bitAt v 26 = false ∧
      (fld v 30 27).testBit 3 = fden ∧ (fld v 30 27).testBit 2 = strict ∧ (fld v 30 27).testBit 1 = tdcen ∧
        (fld v 30 27).testBit 0 = listen := by
  revert fden strict tdcen listen
  decide

/-- CAN_CFG with the fields of a configuration, EN as it was. -/
def State.canConfigured (s : State) (n : Nat) (fden strict tdcen listen : Bool) : State :=
  s.setReg (R.CAN_CFG n) (setFld (s.reg (R.CAN_CFG n)) 30 27 (fld (canEnableWord fden strict tdcen listen) 30 27))

theorem State.onlyRegs_canConfigured : OnlyRegs [R.CAN_CFG n] s (s.canConfigured n fden strict tdcen listen) :=
  .setReg .refl List.mem_cons_self

theorem State.canConfigured_spec : let t := s.canConfigured n fden strict tdcen listen
    t.fb (F.CAN_CFG.FDEN n) = fden ∧ t.fb (F.CAN_CFG.CONF n) = strict ∧ t.fb (F.CAN_CFG.TDCEN n) = tdcen ∧
      t.fb (F.CAN_CFG.LISTEN n) = listen ∧ t.fb (F.CAN_CFG.EN n) = s.fb (F.CAN_CFG.EN n) := by
  obtain ⟨-, -, -, -, hfden, hstrict, htdcen, hlisten⟩ := canEnableWord_bits fden strict tdcen listen
  intro t
  have hbit (x : Field) (hx : x.addr = R.CAN_CFG n) (hlo : 27 ≤ x.lo) (hhi : x.lo ≤ 30) :
      t.fb x = (fld (canEnableWord fden strict tdcen listen) 30 27).testBit (x.lo - 27) := by
    rw [State.fb, hx, show t.reg (R.CAN_CFG n) = _ from State.reg_setReg_same _ _ _]
    exact bitAt_setFld_within _ _ (by decide) hlo hhi
  exact ⟨(hbit _ rfl (by decide : 27 ≤ 30) (by decide : 30 ≤ 30)).trans hfden,
    (hbit _ rfl (by decide : 27 ≤ 29) (by decide : 29 ≤ 30)).trans hstrict,
    (hbit _ rfl (by decide : 27 ≤ 28) (by decide : 28 ≤ 30)).trans htdcen,
    (hbit _ rfl (by decide : 27 ≤ 27) (by decide : 27 ≤ 30)).trans hlisten,
    (congrArg (bitAt · 31) (State.reg_setReg_same _ _ _)).trans (bitAt_setFld_apart _ 30 27 _ 31 (by decide))⟩

/-- The bit times are within the bounds under which EN is granted. -/
def State.CanTimesOk (s : State) (n : Nat) (fden tdcen : Bool) : Prop :=
  200 ≤ s.nomBit n ∧ 40 ≤ s.dataBit n ∧ s.f (F.CAN_NBT.NSJW n) ≤ s.f (F.CAN_NBT.NTSEG2 n) ∧
    s.f (F.CAN_DBT.DSJW n) ≤ s.f (F.CAN_DBT.DTSEG2 n) ∧ (fden = true → s.dataBit n < 200 → tdcen = true)

theorem State.canCfgBad_iff : s.canCfgBad n fden tdcen = true ↔ ¬ s.CanTimesOk n fden tdcen := by
  cases fden <;> cases tdcen <;> simp [State.canCfgBad, State.CanTimesOk] <;> omega

theorem canTimes_not_mem (n : Fin 2) : R.CAN_NBT n ∉ [R.CAN_CFG n] ∧ R.CAN_DBT n ∉ [R.CAN_CFG n] := by
  revert n
  decide

/-- The bit times stand in registers of their own. -/
theorem State.canTimesOk_congr {t : State} (h : OnlyRegs [R.CAN_CFG n] s t) :
    t.CanTimesOk n fden tdcen ↔ s.CanTimesOk n fden tdcen := by
  obtain ⟨hnom, hdat⟩ := canTimes_not_mem n
  have hn (hi lo : Nat) : t.f ⟨R.CAN_NBT n, hi, lo⟩ = s.f ⟨R.CAN_NBT n, hi, lo⟩ := h.2.f hnom
  have hd (hi lo : Nat) : t.f ⟨R.CAN_DBT n, hi, lo⟩ = s.f ⟨R.CAN_DBT n, hi, lo⟩ := h.2.f hdat
  simp only [State.CanTimesOk, State.nomBit, State.dataBit, F.CAN_NBT.NBRP, F.CAN_NBT.NTSEG1, F.CAN_NBT.NTSEG2,
    F.CAN_NBT.NSJW, F.CAN_DBT.DBRP, F.CAN_DBT.DTSEG1, F.CAN_DBT.DTSEG2, F.CAN_DBT.DSJW, hn, hd]

theorem State.canEnable_of_enabled (hen : s.fb (F.CAN_CFG.EN n) = true) :
    s.canEnable n fden strict tdcen listen = s := by
  obtain ⟨h31, -, -, h26, -⟩ := canEnableWord_bits fden strict tdcen listen
  rw [State.canEnable, ← canEnableWord, State.canCfgWrite, h26, h31]
  simp [hen]

theorem State.canEnable_of_off (hon : s.on 10 = true) (hen : s.fb (F.CAN_CFG.EN n) = false) :
    s.canEnable n fden strict tdcen listen =
      if (s.canConfigured n fden strict tdcen listen).canCfgBad n fden tdcen then
        (s.canConfigured n fden strict tdcen listen).setB (F.CAN_CFG.CFGERR n) true
      else (s.canConfigured n fden strict tdcen listen).setB (F.CAN_CFG.EN n) true := by
  obtain ⟨h31, h30, h28, h26, -⟩ := canEnableWord_bits fden strict tdcen listen
  rw [State.canEnable, ← canEnableWord, State.canCfgWrite, if_pos hon, h26, h31, h30, h28]
  exact if_neg (Bool.eq_false_iff.1 hen)

/-- A configuration enters CAN_CFG; EN is granted where the bit times allow, else CFGERR shows. -/
theorem State.canEnable_spec (hon : s.on 10 = true) (hen : s.fb (F.CAN_CFG.EN n) = false) :
    let t := s.canEnable n fden strict tdcen listen
    t.fb (F.CAN_CFG.FDEN n) = fden ∧ t.fb (F.CAN_CFG.CONF n) = strict ∧ t.fb (F.CAN_CFG.TDCEN n) = tdcen ∧
      t.fb (F.CAN_CFG.LISTEN n) = listen ∧ (t.fb (F.CAN_CFG.EN n) = true ↔ s.CanTimesOk n fden tdcen) ∧
      (¬ s.CanTimesOk n fden tdcen → t.fb (F.CAN_CFG.CFGERR n) = true) ∧ OnlyRegs [R.CAN_CFG n] s t := by
  have hregs : OnlyRegs [R.CAN_CFG n] s (s.canConfigured n fden strict tdcen listen) := State.onlyRegs_canConfigured
  obtain ⟨hfden, hstrict, htdcen, hlisten, hoff⟩ := s.canConfigured_spec (n := n) (fden := fden) (strict := strict)
    (tdcen := tdcen) (listen := listen)
  rw [hen] at hoff
  intro t
  rw [show t = _ from State.canEnable_of_off hon hen]
  clear t
  generalize s.canConfigured n fden strict tdcen listen = u at *
  have hbad : u.canCfgBad n fden tdcen = true ↔ ¬ s.CanTimesOk n fden tdcen := by
    rw [State.canCfgBad_iff, State.canTimesOk_congr hregs]
  by_cases hok : s.CanTimesOk n fden tdcen
  · rw [if_neg fun h => hbad.1 h hok]
    refine ⟨(State.fb_setB_apart _ _ _ _ (.inr (.inl (by decide : 30 < 31)))).trans hfden,
      (State.fb_setB_apart _ _ _ _ (.inr (.inl (by decide : 29 < 31)))).trans hstrict,
      (State.fb_setB_apart _ _ _ _ (.inr (.inl (by decide : 28 < 31)))).trans htdcen,
      (State.fb_setB_apart _ _ _ _ (.inr (.inl (by decide : 27 < 31)))).trans hlisten,
      iff_of_true (State.fb_setB_same _ _ _ rfl (by decide : 31 < 32)) hok, fun h => absurd hok h,
      hregs.setB List.mem_cons_self⟩
  · rw [if_pos (hbad.2 hok)]
    refine ⟨(State.fb_setB_apart _ _ _ _ (.inr (.inr (by decide : 26 < 30)))).trans hfden,
      (State.fb_setB_apart _ _ _ _ (.inr (.inr (by decide : 26 < 29)))).trans hstrict,
      (State.fb_setB_apart _ _ _ _ (.inr (.inr (by decide : 26 < 28)))).trans htdcen,
      (State.fb_setB_apart _ _ _ _ (.inr (.inr (by decide : 26 < 27)))).trans hlisten,
      iff_of_false (fun h => ?_) hok, fun _ => State.fb_setB_same _ _ _ rfl (by decide : 26 < 32),
      hregs.setB List.mem_cons_self⟩
    rw [State.fb_setB_apart _ _ _ _ (.inr (.inr (by decide : 26 < 31))), hoff] at h
    exact Bool.false_ne_true h

end

/-! ## Error counters and the error state (14 R429) -/

section
variable {s : State}

/-- The registers that a change of the error state may change. -/
abbrev confineRegs (n : Nat) : List Nat := [R.CAN_STAT n, R.FCU_LDGLOST]

theorem OnlyNoted.setCanState {l : List Nat} {s₀ : State} {n v : Nat} (h : OnlyNoted l s₀ s) (hl : R.CAN_STAT n ∈ l) :
    OnlyNoted l s₀ (s.setCanState n v) := h.regs_then (OnlyRegs.refl.setCanState hl)

theorem State.onlyNoted_canConfine {n : Nat} : OnlyNoted (confineRegs n) s (s.canConfine n) :=
  have h : OnlyNoted (confineRegs n) s s := .refl
  .ite h <| .ite ((h.setCanState List.mem_cons_self).note (by simp)) (h.setCanState List.mem_cons_self)

theorem canStat_ne_lost (n : Nat) : R.CAN_STAT n ∉ [R.FCU_LDGLOST] :=
  canReg_not_mem (by decide) (canStat_above n)

/-- The flags between STATECHG and STATE stay. -/
theorem State.fb_canConfine {n : Nat} {x : Field} (haddr : x.addr = R.CAN_STAT n) (hx : 24 < x.lo ∧ x.lo < 30) :
    (s.canConfine n).fb x = s.fb x := by
  unfold State.canConfine
  extract_lets st
  split
  · rfl
  · split
    · have hnote : OnlyNoted [R.FCU_LDGLOST] (s.setCanState n 3) ((s.setCanState n 3).note 14 2 n) :=
        OnlyNoted.refl.note List.mem_cons_self
      exact (hnote.2.fb (haddr ▸ canStat_ne_lost n)).trans (State.fb_setCanState hx)
    · exact State.fb_setCanState hx

theorem State.canRec_setCanRec {n v : Nat} (hv : v < 256) : (s.setCanRec n v).canRec n = v := by
  have hlow : (s.setCanRec n v).f (F.CAN_ERRCNT.REC n) = v % 128 :=
    (State.f_setB_apart _ _ _ _ (.inr (.inl (by decide : 22 < 23)))).trans <|
      (State.f_setF_same _ _ _ (by decide : 22 < 32)).trans (Nat.mod_mod _ _)
  have hhigh : (s.setCanRec n v).fb (F.CAN_ERRCNT.RP n) = decide (128 ≤ v) :=
    State.fb_setB_same _ _ _ rfl (by decide : 23 < 32)
  rw [State.canRec, hlow, hhigh]
  by_cases h : 128 ≤ v
  · rw [decide_eq_true h]
    change v % 128 + 1 * 128 = v
    omega
  · rw [decide_eq_false h]
    change v % 128 + 0 * 128 = v
    omega

theorem State.onlyRegs_setCanRec {n v : Nat} : OnlyRegs [R.CAN_ERRCNT n] s (s.setCanRec n v) :=
  .setB (.setF .refl List.mem_cons_self) List.mem_cons_self

theorem State.canRec_congr {t : State} {n : Nat} (h : t.reg (R.CAN_ERRCNT n) = s.reg (R.CAN_ERRCNT n)) :
    t.canRec n = s.canRec n := by
  rw [State.canRec, State.canRec, State.f, State.f, State.fb, State.fb, F.CAN_ERRCNT.REC, F.CAN_ERRCNT.RP, h]

end

end Sys2Proof.Machine

namespace Sys2Proof.Machine

/-! ## Reception (14 R425, R428, R429) -/

section
variable {s : State} {n : Fin 2} {h : CanHeader} {data : List Byte}

/-- The controller after the counter of a frame heard, with its error state. -/
def State.canHeard (s : State) (n : Nat) : State :=
  (if 128 ≤ s.canRec n then (s.setCanRec n (119 + s.free.toNat % 9)).freeNext
    else s.setCanRec n (s.canRec n - 1)).canConfine n

/-- The registers that a change of the counters may change. -/
abbrev countRegs (n : Nat) : List Nat := [R.CAN_ERRCNT n, R.CAN_STAT n, R.FCU_LDGLOST]

theorem countRegs_apart (n : Fin 2) : R.CAN_RXCFG n ∉ countRegs n ∧ R.CAN_RXBASE n ∉ countRegs n ∧
    R.CAN_ERRCNT n ∉ confineRegs n ∧ R.CAN_CNT n ∉ countRegs n ∧ R.CAN_ERRCNT n ≠ R.CAN_STAT n ∧
      R.CAN_CNT n ≠ R.CAN_ERRCNT n := by
  revert n
  decide

/-- No register of the controllers, nor the Ledger's, is one of the queue unit's. -/
theorem queueRegs_apart (n : Fin 2) : ∀ a ∈ queueRegs 23, a ∉ R.CAN_CNT n :: countRegs n := by
  revert n
  decide

theorem State.onlyNoted_setCanRec {v : Nat} : OnlyNoted (countRegs n) s (s.setCanRec n v) :=
  (State.onlyRegs_setCanRec.mono (by simp)).noted

theorem OnlyNoted.canConfine {s₀ : State} {l : List Nat} (hs : OnlyNoted l s₀ s) (hl : confineRegs n ⊆ l) :
    OnlyNoted l s₀ (s.canConfine n) := hs.trans (State.onlyNoted_canConfine.mono hl)

theorem State.canRec_canConfine : (s.canConfine n).canRec n = s.canRec n :=
  State.canRec_congr (State.onlyNoted_canConfine.2 _ (countRegs_apart n).2.2.1)

theorem State.onlyNoted_canHeard : OnlyNoted (countRegs n) s (s.canHeard n) :=
  .canConfine (.ite State.onlyNoted_setCanRec.freeNext State.onlyNoted_setCanRec) (by simp)

theorem canRec_lt (s : State) (n : Nat) : s.canRec n < 256 := by
  have hlow : s.f (F.CAN_ERRCNT.REC n) < 2 ^ 7 := fld_lt _ _ _
  unfold State.canRec b2n
  split <;> omega

theorem State.canRec_freeNext : s.freeNext.canRec n = s.canRec n :=
  State.canRec_congr (State.reg_congr (t := s.freeNext) (u := s) rfl _)

theorem State.canRec_canHeard : (s.canRec n < 128 → (s.canHeard n).canRec n = s.canRec n - 1) ∧
    (128 ≤ s.canRec n → 119 ≤ (s.canHeard n).canRec n ∧ (s.canHeard n).canRec n ≤ 127) := by
  rw [State.canHeard, State.canRec_canConfine]
  refine ⟨fun hlow => ?_, fun hhigh => ?_⟩
  · rw [if_neg (by omega), State.canRec_setCanRec (by omega)]
  · rw [if_pos hhigh, State.canRec_freeNext, State.canRec_setCanRec (by omega)]
    omega

theorem State.canFree_congr {t : State} (hreg : t.reg (R.CAN_RXCFG n) = s.reg (R.CAN_RXCFG n)) (hcan : t.can = s.can) :
    t.canFree n = s.f (F.CAN_RXCFG.COUNT n) - (s.canCtl n).rxUsed := by
  rw [State.canFree, State.canCtl_congr hcan, State.f, State.f, F.CAN_RXCFG.COUNT, hreg]

/-- The bytes of a frame, as many as its length code says. -/
def canBytes (h : CanHeader) (data : List Byte) : List Byte :=
  let len := if h.rtr then 0 else dlcBytes h.fdf h.dlc.toNat
  (data ++ List.replicate len 0).take len

theorem length_canBytes : (canBytes h data).length = if h.rtr then 0 else dlcBytes h.fdf h.dlc.toNat := by
  rw [canBytes, List.length_take, List.length_append, List.length_replicate]
  omega

theorem getElem_canBytes {i : Nat} (hi : i < (canBytes h data).length) : (canBytes h data)[i] = (data[i]?).getD 0 := by
  have hlen := length_canBytes (h := h) (data := data)
  unfold canBytes at *
  rw [List.getElem_take, List.getElem_append]
  split
  · next hd => rw [List.getElem?_eq_getElem hd, Option.getD_some]
  · next hd => rw [List.getElem_replicate, List.getElem?_eq_none (Nat.le_of_not_lt hd), Option.getD_none]

/-- A frame's bytes in shared SRAM. -/
theorem State.netStore_spec (s : State) (a : Nat) (l : List Byte) : s.netStore a l = { s with mem := (s.netStore a l).mem } ∧
    (∀ b, b < a ∨ a + l.length ≤ b → (s.netStore a l).ldb b = s.ldb b) ∧
    (s.on 3 = true → regionOf a = .sram → regionOf (a + l.length - 1) = .sram → ∀ (i : Nat) (hi : i < l.length),
      (s.netStore a l).ldb (a + i) = l[i]) := by
  by_cases hin : s.on 3 = true ∧ regionOf a = .sram ∧ regionOf (a + l.length - 1) = .sram
  · have hstore : s.netStore a l = s.putBytes a l := if_pos (by simpa [and_assoc] using hin)
    rw [hstore]
    exact ⟨State.putBytes_frame l s a, fun b hb => State.ldb_putBytes_ne l s a hb, fun _ _ _ i hi => State.ldb_putBytes l s a hi⟩
  · have hstore : s.netStore a l = s := if_neg (by simpa [and_assoc] using hin)
    rw [hstore]
    exact ⟨rfl, fun _ _ => rfl, fun h3 ha hb => absurd ⟨h3, ha, hb⟩ hin⟩

/-- A frame's bytes change nothing beside them, and stand in shared SRAM where it runs. -/
theorem State.netStore_canBytes (s : State) (a : Nat) (h : CanHeader) (data : List Byte) :
    let len := if h.rtr then 0 else dlcBytes h.fdf h.dlc.toNat
    (∀ b, b < a ∨ a + len ≤ b → (s.netStore a (canBytes h data)).ldb b = s.ldb b) ∧
      (s.on 3 = true → regionOf a = .sram → regionOf (a + len - 1) = .sram → ∀ i, i < len →
        (s.netStore a (canBytes h data)).ldb (a + i) = (data[i]?).getD 0) := by
  intro len
  have hlen : (canBytes h data).length = len := length_canBytes
  obtain ⟨-, hout, hin⟩ := s.netStore_spec a (canBytes h data)
  rw [hlen] at hout
  exact ⟨hout, fun h3 ha hb i hi => (hin h3 ha (hlen.symm ▸ hb) i (hlen.symm ▸ hi)).trans (getElem_canBytes _)⟩

theorem State.canReceive_of_full (hon : s.canOn n = true) (hwake : s.fb (F.CAN_STAT.SLEEP n) = false)
    (hfull : s.f (F.CAN_RXCFG.COUNT n) ≤ (s.canCtl n).rxUsed) :
    s.canReceive n h data 0 = (s.canHeard n).incF (F.CAN_RXCFG.RXDROP n) 1 := by
  have hfree : (s.canHeard n).canFree n = 0 :=
    (State.canFree_congr (State.onlyNoted_canHeard.2 _ (countRegs_apart n).1) State.onlyNoted_canHeard.can).trans
      (Nat.sub_eq_zero_of_le hfull)
  exact (if_pos (by simp [hon, hwake])).trans <| (if_pos rfl).trans (if_pos hfree)

/-- The bytes of a frame in its slot. -/
def State.canStored (s : State) (n : Nat) (h : CanHeader) (data : List Byte) : State :=
  s.netStore ((s.reg (R.CAN_RXBASE n)).toNat + (s.canCtl n).rxSlot * 64) (canBytes h data)

/-- The slot taken, with RXLOW. -/
def State.canSlotTaken (s : State) (n k : Nat) : State :=
  (s.modCan n fun c => { c with rxSlot := (k + 1) % s.f (F.CAN_RXCFG.COUNT n), rxUsed := c.rxUsed + 1 }).showCanLow n

theorem State.canReceive_of_room (hon : s.canOn n = true) (hwake : s.fb (F.CAN_STAT.SLEEP n) = false)
    (hroom : (s.canCtl n).rxUsed < s.f (F.CAN_RXCFG.COUNT n)) : s.canReceive n h data 0 =
      (((s.canHeard n).canStored n h data).canSlotTaken n ((s.canHeard n).canCtl n).rxSlot).hwPush 23
        (BitVec.ofNat 64 (n * 2 ^ 63 + canHdr h + ((s.canHeard n).canCtl n).rxSlot * 2 ^ 32)) := by
  have hfree : (s.canHeard n).canFree n ≠ 0 := by
    rw [State.canFree_congr (State.onlyNoted_canHeard.2 _ (countRegs_apart n).1) State.onlyNoted_canHeard.can]
    omega
  exact (if_pos (by simp [hon, hwake])).trans <| (if_pos rfl).trans (if_neg hfree)

theorem State.canSlotTaken_spec {k : Nat} : (s.canSlotTaken n k).canCtl n =
      { s.canCtl n with rxSlot := (k + 1) % s.f (F.CAN_RXCFG.COUNT n), rxUsed := (s.canCtl n).rxUsed + 1 } ∧
    Touches [R.CAN_STAT n] s (s.canSlotTaken n k) ∧ (s.canSlotTaken n k).queues = s.queues := by
  have hlow (u : State) : OnlyRegs [R.CAN_STAT n] u (u.showCanLow n) := .setB .refl List.mem_cons_self
  have hctl := s.canCtl_modCan_same n fun c =>
    { c with rxSlot := (k + 1) % s.f (F.CAN_RXCFG.COUNT n), rxUsed := c.rxUsed + 1 }
  exact ⟨(State.canCtl_congr (hlow _).noted.can n).trans hctl,
    (Touches.refl.update (State.regs_modCan n _) (State.mem_modCan n _)).trans (hlow _).touches,
    (hlow _).noted.queues⟩

/-- A frame that finds a slot: its bytes stand in the slot, and its entry in Q23. -/
theorem State.canReceive_stored (hon : s.canOn n = true) (hwake : s.fb (F.CAN_STAT.SLEEP n) = false)
    (hroom : (s.canCtl n).rxUsed < s.f (F.CAN_RXCFG.COUNT n)) :
    let t := s.canReceive n h data 0
    let k := (s.canCtl n).rxSlot
    let a := (s.reg (R.CAN_RXBASE n)).toNat + k * 64
    t.reg (R.CAN_ERRCNT n) = (s.canHeard n).reg (R.CAN_ERRCNT n) ∧ (t.canCtl n).rxUsed = (s.canCtl n).rxUsed + 1 ∧
      (t.canCtl n).rxSlot = (k + 1) % s.f (F.CAN_RXCFG.COUNT n) ∧
      Pushed 23 s t (BitVec.ofNat 64 (n * 2 ^ 63 + canHdr h + k * 2 ^ 32)) ∧
      t.mem = ((s.canHeard n).netStore a (canBytes h data)).mem := by
  have hheard : OnlyNoted (countRegs n) s (s.canHeard n) := State.onlyNoted_canHeard
  obtain ⟨hcfg, hbase, hcount, -⟩ := countRegs_apart n
  intro t k a
  have hk : ((s.canHeard n).canCtl n).rxSlot = k := congrArg CanCtl.rxSlot (State.canCtl_congr hheard.can n)
  have ht : t = _ := State.canReceive_of_room hon hwake hroom
  have hplace : (s.canHeard n).canStored n h data = (s.canHeard n).netStore a (canBytes h data) := by
    rw [State.canStored, hheard.2 _ hbase, hk]
  rw [hplace, hk] at ht
  obtain ⟨hstore, -⟩ := (s.canHeard n).netStore_spec a (canBytes h data)
  generalize (s.canHeard n).netStore a (canBytes h data) = u at *
  have hregs : u.regs = (s.canHeard n).regs := (congrArg State.regs hstore :)
  have hcan : u.canCtl n = s.canCtl n := State.canCtl_congr ((congrArg State.can hstore :).trans hheard.can) n
  have hqueues : u.queues = s.queues := (congrArg State.queues hstore :).trans hheard.queues
  have hu : SameRegsBut (countRegs n) s u := hheard.2.congr hregs
  obtain ⟨hctl, htouch, hsame⟩ := u.canSlotTaken_spec (n := n) (k := k)
  rw [hcan, hu.f hcfg] at hctl
  generalize u.canSlotTaken n k = v at *
  have hv : SameRegsBut (countRegs n) s v := fun a ha =>
    (htouch.regs a fun h => ha (List.mem_singleton.1 h ▸ by simp)).trans (hu a ha)
  have hctl' (e : DWord) := (State.canCtl_congr (State.can_hwPush (s := v) (q := 23) (e := e)) n).trans hctl
  rw [ht]
  refine ⟨?_, congrArg CanCtl.rxUsed (hctl' _), congrArg CanCtl.rxSlot (hctl' _),
    State.pushed_hwPush (State.queue_congr (hsame.trans hqueues) 23) hv fun b hb h => queueRegs_apart n b hb (List.mem_cons_of_mem _ h),
    (State.mem_hwPush _ _ _).trans htouch.mem⟩
  refine (State.touches_hwPush.regs _ (canReg_not_mem (by decide) ?_)).trans <| (htouch.regs _ ?_).trans
    (State.reg_congr hregs _)
  · exact Nat.le_trans (by decide) (Nat.le_add_right 0x400E0014 _)
  · exact fun h => (countRegs_apart n).2.2.2.2.1 (List.mem_singleton.1 h)

/-- A frame that finds no slot is counted. -/
theorem State.canReceive_dropped (hon : s.canOn n = true) (hwake : s.fb (F.CAN_STAT.SLEEP n) = false)
    (hfull : s.f (F.CAN_RXCFG.COUNT n) ≤ (s.canCtl n).rxUsed) : let t := s.canReceive n h data 0
    t.reg (R.CAN_ERRCNT n) = (s.canHeard n).reg (R.CAN_ERRCNT n) ∧
      t.f (F.CAN_RXCFG.RXDROP n) = (s.f (F.CAN_RXCFG.RXDROP n) + 1) % 65536 ∧ SameMem s t := by
  have hheard : OnlyNoted (countRegs n) s (s.canHeard n) := State.onlyNoted_canHeard
  have hdrop : OnlyRegs [R.CAN_RXCFG n] (s.canHeard n) ((s.canHeard n).incF (F.CAN_RXCFG.RXDROP n) 1) :=
    .incF .refl List.mem_cons_self
  have hne : R.CAN_ERRCNT n ≠ R.CAN_RXCFG n := by
    unfold R.CAN_ERRCNT R.CAN_RXCFG
    omega
  intro t
  rw [show t = _ from State.canReceive_of_full hon hwake hfull]
  refine ⟨hdrop.2 _ fun h => hne (List.mem_singleton.1 h), (State.f_incF_same _ _ _ (by decide : 31 < 32)).trans ?_,
    hheard.touches.sameMem⟩
  rw [hheard.2.f (countRegs_apart n).1]
  rfl

/-- The controller after an error seen while receiving, counted. -/
def State.canErrSeen (s : State) (n : Nat) : State :=
  ((s.incF (F.CAN_CNT.ERRS n) 1).setCanRec n (min 255 (s.canRec n + 1))).canConfine n

theorem State.canReceive_of_error {err : Nat} (hon : s.canOn n = true) (hwake : s.fb (F.CAN_STAT.SLEEP n) = false)
    (herr : err ≠ 0) : s.canReceive n h data err = (s.canErrSeen n).hwPush 23
      (BitVec.ofNat 64 (n * 2 ^ 63 + 4 * 2 ^ 60 + canHdr h + err % 16 * 2 ^ 47)) :=
  (if_pos (by simp [hon, hwake])).trans (if_neg herr)

theorem State.canErrSeen_spec : (s.canErrSeen n).f (F.CAN_CNT.ERRS n) = (s.f (F.CAN_CNT.ERRS n) + 1) % 65536 ∧
    (s.canErrSeen n).canRec n = min 255 (s.canRec n + 1) ∧
    OnlyNoted (R.CAN_CNT n :: countRegs n) s (s.canErrSeen n) := by
  have hcnt : OnlyNoted (R.CAN_CNT n :: countRegs n) s (s.incF (F.CAN_CNT.ERRS n) 1) := .incF .refl List.mem_cons_self
  have hrest : OnlyNoted (countRegs n) (s.incF (F.CAN_CNT.ERRS n) 1) (s.canErrSeen n) :=
    State.onlyNoted_setCanRec.canConfine (by simp)
  refine ⟨?_, State.canRec_canConfine.trans (State.canRec_setCanRec (by omega)),
    hcnt.trans (hrest.mono (List.subset_cons_self _ _))⟩
  exact (hrest.2.f (countRegs_apart n).2.2.2.1).trans (State.f_incF_same _ _ _ (by decide : 31 < 32))

/-- The registers of the queue unit stand below those of the controllers. -/
theorem State.reg_canPush {q a : Nat} {e : DWord} (hq : q < 32) (ha : 0x400E0000 ≤ a) : (s.hwPush q e).reg a = s.reg a :=
  s.reg_hwPush q e hq (Nat.le_trans (by decide) ha)

/-- An error seen while receiving is counted, and queued with its code. -/
theorem State.canReceive_error_spec {err : Nat} (hon : s.canOn n = true) (hwake : s.fb (F.CAN_STAT.SLEEP n) = false)
    (herr : err ≠ 0) : let t := s.canReceive n h data err
    t.f (F.CAN_CNT.ERRS n) = (s.f (F.CAN_CNT.ERRS n) + 1) % 65536 ∧ t.canRec n = min 255 (s.canRec n + 1) ∧
      Pushed 23 s t (BitVec.ofNat 64 (n * 2 ^ 63 + 4 * 2 ^ 60 + canHdr h + err % 16 * 2 ^ 47)) ∧ SameMem s t := by
  obtain ⟨herrs, hrec, hframe⟩ := s.canErrSeen_spec (n := n)
  intro t
  rw [show t = _ from State.canReceive_of_error hon hwake herr]
  generalize BitVec.ofNat 64 (n * 2 ^ 63 + 4 * 2 ^ 60 + canHdr h + err % 16 * 2 ^ 47) = d
  have hkept (a : Nat) (ha : 0x400E0000 ≤ a) : ((s.canErrSeen n).hwPush 23 d).reg a = (s.canErrSeen n).reg a :=
    State.reg_canPush (by decide) ha
  refine ⟨(congrArg (fld · 31 16) (hkept _ ?_)).trans herrs, (State.canRec_congr (hkept _ ?_)).trans hrec,
    State.pushed_hwPush (State.queue_congr hframe.queues 23) hframe.2 (queueRegs_apart n),
    State.ldb_congr ((State.mem_hwPush _ _ _).trans hframe.mem)⟩
  · exact Nat.le_trans (by decide) (Nat.le_add_right 0x400E0020 _)
  · exact Nat.le_trans (by decide) (Nat.le_add_right 0x400E0014 _)

end

/-! ## Transmission (14 R424, R426, R427) -/

section
variable {s : State} {n : Fin 2} {e : DWord}

theorem State.hwPop_of_entry {q : Nat} {l : List DWord} (hq : s.qOn q = true) (hl : s.queue q = e :: l) :
    (s.hwPop q).1 = s.setQueue q l := by
  rw [State.hwPop, if_pos hq, hl]

/-- An entry discarded leaves Q22 and is reported. -/
theorem State.canTransmit_of_disc {code : Nat} {l : List DWord} (hlive : s.live = true) (hon : s.on 10 = true)
    (hq : s.qOn 22 = true) (hl : s.queue 22 = e :: l) (hdisc : s.txDisc (fld e 63 63) e = some code) :
    s.canTransmit = (s.setQueue 22 l).canOutcome e 6 code := by
  rw [State.canTransmit, if_pos (by simp [hlive, hon, hq]), hl]
  simp only [hdisc, State.hwPop_of_entry hq hl]

theorem State.canTransmit_discards {code : Nat} {l : List DWord} (hlive : s.live = true) (hon : s.on 10 = true)
    (hq : s.qOn 22 = true) (hl : s.queue 22 = e :: l) (hdisc : s.txDisc (fld e 63 63) e = some code) :
    let t := s.canTransmit
    t.queue 22 = l ∧ Pushed 23 s t (BitVec.ofNat 64 (fld e 63 63 * 2 ^ 63 + 6 * 2 ^ 60 + txHeader e + code * 2 ^ 47)) ∧
      SameMem s t := by
  intro t
  rw [show t = _ from State.canTransmit_of_disc hlive hon hq hl hdisc, State.canOutcome]
  exact ⟨(State.queue_hwPush_ne (by decide)).trans (s.queue_setQueue_same _),
    State.pushed_hwPush (l := []) (s.queue_setQueue_ne l (by decide)) (fun _ _ => rfl) fun _ _ => List.not_mem_nil,
    State.ldb_congr (State.mem_hwPush _ _ _)⟩

/-- The entry at the head of Q22 starts an attempt. -/
theorem State.canTransmit_of_free {l : List DWord} (hq : s.qOn 22 = true) (hl : s.queue 22 = e :: l)
    (hdisc : s.txDisc (fld e 63 63) e = none) (hcan : s.canOn (fld e 63 63) = true)
    (hlisten : s.fb (F.CAN_CFG.LISTEN (fld e 63 63)) = false) (hidle : s.fb (F.CAN_STAT.TXBUSY (fld e 63 63)) = false)
    (hsleep : (s.canCtl (fld e 63 63)).sleepPend = false) (htec : s.f (F.CAN_ERRCNT.TEC (fld e 63 63)) < 256) :
    s.canTransmit = ((s.setQueue 22 l).setB (F.CAN_STAT.TXBUSY (fld e 63 63)) true).modCan (fld e 63 63)
      fun c => { c with tx := some e } := by
  have hon : s.live = true ∧ s.on 10 = true := by
    simp only [State.canOn, Bool.and_eq_true] at hcan
    obtain ⟨⟨⟨⟨hlive, hon⟩, -⟩, -⟩, -⟩ := hcan
    exact ⟨hlive, hon⟩
  rw [State.canTransmit, if_pos (by simp [hon, hq]), hl]
  simp only [hdisc, State.hwPop_of_entry hq hl]
  exact if_pos (by simp [hcan, hlisten, hidle, hsleep, htec])

end

end Sys2Proof.Machine

namespace Sys2Proof.Machine

/-! ## Outcomes of an attempt (14 R426 to R429) -/

section
variable {s : State} {n : Fin 2} {e : DWord}

/-- The registers that the end of an attempt may change. -/
abbrev endRegs (n : Nat) : List Nat := [R.CAN_STAT n, R.HQ_DROP 23, R.HQ_STAT 23]

/-- An attempt of `s` has ended in `t`: its entry in Q23, no frame in progress, memory as before. -/
def AttemptEnded (s t : State) (n : Nat) (e : DWord) (kind code : Nat) : Prop :=
  t.fb (F.CAN_STAT.TXBUSY n) = false ∧ (t.canCtl n).tx = none ∧
    Pushed 23 s t (BitVec.ofNat 64 (fld e 63 63 * 2 ^ 63 + kind * 2 ^ 60 + txHeader e + code * 2 ^ 47)) ∧ SameMem s t

/-- A frame no longer in progress, and its outcome queued. -/
def State.outcomeQueued (s : State) (n : Nat) (e : DWord) (kind code : Nat) : State :=
  (s.setB (F.CAN_STAT.TXBUSY n) false).canOutcome e kind code

/-- A SLEEP that waited for the frame takes effect. -/
def State.sleptAfter (s : State) (n : Nat) (pend : Bool) : State :=
  if pend then s.setB (F.CAN_STAT.SLEEP n) true else s

theorem State.canTxEnd_eq {kind code : Nat} : s.canTxEnd n e kind code =
    ((s.outcomeQueued n e kind code).sleptAfter n (s.canCtl n).sleepPend).modCan n
      fun c => { c with tx := none, sleepPend := false } := rfl

theorem State.sleptAfter_spec {pend : Bool} : OnlyRegs [R.CAN_STAT n] s (s.sleptAfter n pend) ∧
    ∀ x : Field, x.addr = R.CAN_STAT n → x.lo < 28 → (s.sleptAfter n pend).fb x = s.fb x := by
  unfold State.sleptAfter
  split
  · exact ⟨.setB .refl List.mem_cons_self, fun x _ hx => State.fb_setB_apart _ _ _ _ (.inr (.inl hx))⟩
  · exact ⟨.refl, fun _ _ _ => rfl⟩

/-- The end of an attempt of `s₀`, from a state in which the queues and memory are as they were. -/
theorem State.canTxEnd_spec {s₀ : State} {l : List Nat} {kind code : Nat} (h : OnlyNoted l s₀ s)
    (hl : ∀ a ∈ queueRegs 23, a ∉ R.CAN_STAT n :: l) : let t := s.canTxEnd n e kind code
    AttemptEnded s₀ t n e kind code ∧ SameRegsBut (endRegs n) s t ∧
      t.fb (F.CAN_STAT.COLLSEEN n) = s.fb (F.CAN_STAT.COLLSEEN n) := by
  have hbusy : OnlyNoted (R.CAN_STAT n :: l) s₀ (s.setB (F.CAN_STAT.TXBUSY n) false) :=
    (h.mono (List.subset_cons_self _ _)).setB List.mem_cons_self
  have hbusy' : SameRegsBut [R.CAN_STAT n] s (s.setB (F.CAN_STAT.TXBUSY n) false) := .setB (.ofRegs rfl) List.mem_cons_self
  have hword (d : DWord) : ((s.setB (F.CAN_STAT.TXBUSY n) false).hwPush 23 d).reg (R.CAN_STAT n) =
    (s.setB (F.CAN_STAT.TXBUSY n) false).reg (R.CAN_STAT n) := State.reg_canPush (by decide) (canStat_above n)
  have hidle : (s.setB (F.CAN_STAT.TXBUSY n) false).fb (F.CAN_STAT.TXBUSY n) = false :=
    State.fb_setB_same _ _ _ rfl (by decide : 27 < 32)
  have hcoll : (s.setB (F.CAN_STAT.TXBUSY n) false).fb (F.CAN_STAT.COLLSEEN n) = s.fb (F.CAN_STAT.COLLSEEN n) :=
    State.fb_setB_apart _ _ _ _ (.inr (.inl (by decide : 26 < 27)))
  intro t
  have ht : t = _ := State.canTxEnd_eq
  rw [State.outcomeQueued, State.canOutcome] at ht
  unfold AttemptEnded
  generalize BitVec.ofNat 64 (fld e 63 63 * 2 ^ 63 + kind * 2 ^ 60 + txHeader e + code * 2 ^ 47) = d at *
  have hpushed : Pushed 23 s₀ ((s.setB (F.CAN_STAT.TXBUSY n) false).hwPush 23 d) d :=
    State.pushed_hwPush (State.queue_congr hbusy.queues 23) hbusy.2 hl
  have hpush : Touches [R.HQ_DROP 23, R.HQ_STAT 23] (s.setB (F.CAN_STAT.TXBUSY n) false)
    ((s.setB (F.CAN_STAT.TXBUSY n) false).hwPush 23 d) := State.touches_hwPush
  have hword := hword d
  generalize (s.setB (F.CAN_STAT.TXBUSY n) false).hwPush 23 d = u at *
  obtain ⟨hslept, hflags⟩ := u.sleptAfter_spec (n := n) (pend := (s.canCtl n).sleepPend)
  have hu (x : Field) (hx : x.addr = R.CAN_STAT n) (hlo : x.lo < 28) : t.fb x =
      (s.setB (F.CAN_STAT.TXBUSY n) false).fb x := by
    rw [ht, State.fb_modCan, hflags x hx hlo, State.fb, State.fb, hx, hword]
  have htregs : t.regs = (u.sleptAfter n (s.canCtl n).sleepPend).regs := by rw [ht, State.regs_modCan]
  have htmem : t.mem = (u.sleptAfter n (s.canCtl n).sleepPend).mem := by rw [ht, State.mem_modCan]
  have htqueues : t.queues = (u.sleptAfter n (s.canCtl n).sleepPend).queues := by rw [ht, State.queues_modCan]
  refine ⟨⟨(hu _ rfl (by decide : 27 < 28)).trans hidle, ?_, fun hq hroom => ?_, ?_⟩, fun a ha => ?_,
    (hu _ rfl (by decide : 26 < 28)).trans hcoll⟩
  · rw [ht]
    exact congrArg CanCtl.tx (State.canCtl_modCan_same n _)
  · exact (State.queue_congr (htqueues.trans hslept.noted.queues) 23).trans (hpushed hq hroom)
  · exact State.ldb_congr (htmem.trans (hslept.noted.mem.trans (hpush.mem.trans hbusy.mem)))
  · have hstat : a ∉ [R.CAN_STAT n] := fun h => ha (List.mem_singleton.1 h ▸ List.mem_cons_self)
    exact (State.reg_congr htregs a).trans <| (hslept.2 a hstat).trans <|
      (hpush.regs a fun h => ha (List.mem_cons_of_mem _ h)).trans (hbusy' a hstat)

/-! ### The outcomes -/

variable {tdcv : Nat}

theorem State.onlyRegs_canTdc : OnlyRegs [R.CAN_TDC n] s (s.canTdc n e tdcv) := by
  have h : OnlyRegs [R.CAN_TDC n] s (s.setF (F.CAN_TDC.TDCV n) tdcv) := .setF .refl List.mem_cons_self
  unfold State.canTdc
  split
  · extract_lets t
    split
    · exact h.setB List.mem_cons_self
    · exact h
  · exact .refl

/-- The delay measured is above 127 where it is measured at all. -/
def State.TdcOverflows (s : State) (n : Nat) (e : DWord) (tdcv : Nat) : Prop :=
  127 < tdcv ∧ s.fb (F.CAN_CFG.TDCEN n) = true ∧ bitAt e 62 = true ∧ bitAt e 61 = true

theorem State.tdcovf_canTdc (h : s.TdcOverflows n e tdcv) : (s.canTdc n e tdcv).fb (F.CAN_TDC.TDCOVF n) = true := by
  obtain ⟨hlarge, hen, hfdf, hbrs⟩ := h
  rw [State.canTdc, if_pos (by simp [hen, hfdf, hbrs])]
  exact (congrArg (State.fb · _) (if_pos hlarge)).trans (State.fb_setB_same _ _ _ rfl (by decide : 31 < 32))

theorem State.canTxOutcome_of_done (hon : s.canOn n = true) (htx : (s.canCtl n).tx = some e)
    (hovf : ¬ s.TdcOverflows n e tdcv) : s.canTxOutcome n .done tdcv =
      (((s.canTdc n e tdcv).setF (F.CAN_ERRCNT.TEC n) ((s.canTdc n e tdcv).f (F.CAN_ERRCNT.TEC n) - 1)).canConfine
        n).canTxEnd n e 1 0 := by
  have hflag : (decide (127 < tdcv) && s.fb (F.CAN_CFG.TDCEN n) && bitAt e 62 && bitAt e 61) = false := by
    rw [Bool.eq_false_iff]
    simpa [State.TdcOverflows, and_assoc] using hovf
  rw [State.canTxOutcome, htx]
  simp only [if_pos hon, hflag]

theorem State.canTxOutcome_of_arbLost (hon : s.canOn n = true) (htx : (s.canCtl n).tx = some e) :
    s.canTxOutcome n .arbLost tdcv = ((s.canTdc n e tdcv).incF (F.CAN_CNT.ARBLOST n) 1).canTxEnd n e 2 0 := by
  rw [State.canTxOutcome, htx]
  exact if_pos hon

/-- The error counted, and the transmit counter. -/
def State.txErrCounted (s : State) (n c : Nat) : State :=
  let u := s.incF (F.CAN_CNT.ERRS n) 1
  if c = 3 ∧ u.f (F.CAN_STAT.STATE n) = 1 then u
  else u.setF (F.CAN_ERRCNT.TEC n) (min 511 (u.f (F.CAN_ERRCNT.TEC n) + 8))

/-- A second transmitter seen, with the identifier. -/
def State.collisionShown (s : State) (n : Nat) (e : DWord) : State :=
  (s.setB (F.CAN_STAT.COLLSEEN n) true).setReg (R.CAN_LASTCOLL n) (wN (2 ^ 31 + fld e 60 60 * 2 ^ 30 + fld e 28 0))

/-- The controller after an error of its attempt. -/
def State.txErrShown (s : State) (n : Nat) (e : DWord) (c : Nat) : State :=
  if c = 7 then (s.txErrCounted n c).collisionShown n e else s.txErrCounted n c

theorem State.canTxOutcome_of_error {c : BitVec 4} (hon : s.canOn n = true) (htx : (s.canCtl n).tx = some e) :
    s.canTxOutcome n (.error c) tdcv =
      (((s.canTdc n e tdcv).txErrShown n e c.toNat).canConfine n).canTxEnd n e 3 c.toNat := by
  rw [State.canTxOutcome, htx]
  exact if_pos hon

theorem State.canTxOutcome_of_overflow (hon : s.canOn n = true) (htx : (s.canCtl n).tx = some e)
    (hovf : s.TdcOverflows n e tdcv) : ∃ c : BitVec 4, (c.toNat = 4 ∨ c.toNat = 5) ∧ s.canTxOutcome n .done tdcv =
      (((s.canTdc n e tdcv).freeNext.txErrShown n e c.toNat).canConfine n).canTxEnd n e 3 c.toNat := by
  obtain ⟨hlarge, hen, hfdf, hbrs⟩ := hovf
  have hflag : (decide (127 < tdcv) && s.fb (F.CAN_CFG.TDCEN n) && bitAt e 62 && bitAt e 61) = true := by
    simp [hlarge, hen, hfdf, hbrs]
  refine ⟨BitVec.ofNat 4 (4 + (s.canTdc n e tdcv).free.toNat % 2), ?_, ?_⟩
  · rw [BitVec.toNat_ofNat]
    omega
  · rw [State.canTxOutcome, htx]
    simp only [if_pos hon, hflag]
    rfl

/-- The registers that an error may change before its attempt ends, and those of any outcome. -/
abbrev errorRegs (n : Nat) : List Nat := R.CAN_LASTCOLL n :: R.CAN_CNT n :: countRegs n

abbrev outcomeRegs (n : Nat) : List Nat := R.CAN_TDC n :: errorRegs n

theorem outcomeRegs_apart (n : Fin 2) : (∀ a ∈ queueRegs 23, a ∉ R.CAN_STAT n :: outcomeRegs n) ∧
    (∀ a ∈ [R.CAN_TDC n, R.CAN_CNT n, R.CAN_ERRCNT n, R.CAN_LASTCOLL n], a ∉ confineRegs n ++ endRegs n) ∧
    (∀ a ∈ [R.CAN_CNT n, R.CAN_ERRCNT n, R.CAN_STAT n], a ∉ [R.CAN_TDC n]) ∧ R.CAN_TDC n ∉ errorRegs n := by
  revert n
  decide

theorem State.onlyRegs_canTdc_outcome : OnlyRegs (outcomeRegs n) s (s.canTdc n e tdcv) :=
  State.onlyRegs_canTdc.mono (by simp)

theorem canCnt_apart (n : Fin 2) : R.CAN_STAT n ∉ [R.CAN_CNT n] ∧ R.CAN_ERRCNT n ∉ [R.CAN_CNT n] ∧
    R.CAN_CNT n ∉ [R.CAN_ERRCNT n] ∧ R.CAN_CNT n ∉ [R.CAN_STAT n, R.CAN_LASTCOLL n] ∧
      R.CAN_ERRCNT n ∉ [R.CAN_STAT n, R.CAN_LASTCOLL n] ∧ R.CAN_STAT n ≠ R.CAN_LASTCOLL n := by
  revert n
  decide

theorem State.onlyRegs_errsCounted : OnlyRegs [R.CAN_CNT n] s (s.incF (F.CAN_CNT.ERRS n) 1) := .incF .refl List.mem_cons_self

theorem State.txErrCounted_eq {c : Nat} : s.txErrCounted n c = if c = 3 ∧ s.f (F.CAN_STAT.STATE n) = 1 then
      s.incF (F.CAN_CNT.ERRS n) 1
    else (s.incF (F.CAN_CNT.ERRS n) 1).setF (F.CAN_ERRCNT.TEC n) (min 511 (s.f (F.CAN_ERRCNT.TEC n) + 8)) := by
  rw [← State.onlyRegs_errsCounted.2.f (x := F.CAN_STAT.STATE n) (canCnt_apart n).1,
    ← State.onlyRegs_errsCounted.2.f (x := F.CAN_ERRCNT.TEC n) (canCnt_apart n).2.1]
  rfl

theorem State.txErrCounted_spec {c : Nat} : let t := s.txErrCounted n c
    t.f (F.CAN_CNT.ERRS n) = (s.f (F.CAN_CNT.ERRS n) + 1) % 65536 ∧
      t.f (F.CAN_ERRCNT.TEC n) = (if c = 3 ∧ s.f (F.CAN_STAT.STATE n) = 1 then s.f (F.CAN_ERRCNT.TEC n)
        else min 511 (s.f (F.CAN_ERRCNT.TEC n) + 8)) ∧ OnlyRegs [R.CAN_CNT n, R.CAN_ERRCNT n] s t := by
  have hsub : OnlyRegs [R.CAN_CNT n, R.CAN_ERRCNT n] s (s.incF (F.CAN_CNT.ERRS n) 1) :=
    State.onlyRegs_errsCounted.mono (by simp)
  have herrs : (s.incF (F.CAN_CNT.ERRS n) 1).f (F.CAN_CNT.ERRS n) = (s.f (F.CAN_CNT.ERRS n) + 1) % 65536 :=
    State.f_incF_same _ _ _ (by decide : 31 < 32)
  have htec : (s.incF (F.CAN_CNT.ERRS n) 1).f (F.CAN_ERRCNT.TEC n) = s.f (F.CAN_ERRCNT.TEC n) :=
    State.onlyRegs_errsCounted.2.f (canCnt_apart n).2.1
  rw [State.txErrCounted_eq]
  generalize s.incF (F.CAN_CNT.ERRS n) 1 = u at *
  by_cases hack : c = 3 ∧ s.f (F.CAN_STAT.STATE n) = 1
  · rw [if_pos hack, if_pos hack]
    exact ⟨herrs, htec, hsub⟩
  · have hset (v : Nat) : OnlyRegs [R.CAN_ERRCNT n] u (u.setF (F.CAN_ERRCNT.TEC n) v) := .setF .refl List.mem_cons_self
    rw [if_neg hack, if_neg hack]
    refine ⟨((hset _).2.f (canCnt_apart n).2.2.1).trans herrs, (State.f_setF_same _ _ _ (by decide : 8 < 32)).trans ?_,
      hsub.trans ((hset _).mono (by simp))⟩
    exact Nat.mod_eq_of_lt (Nat.lt_of_le_of_lt (Nat.min_le_left _ _) (by decide : 511 < 512))

/-- CAN_LASTCOLL names the frame that met another one. -/
def ShowsCollision (t : State) (n : Nat) (e : DWord) : Prop :=
  t.fb (F.CAN_LASTCOLL.VALID n) = true ∧ t.f (F.CAN_LASTCOLL.ID n) = fld e 28 0 ∧
    t.fb (F.CAN_LASTCOLL.IDE n) = bitAt e 60

theorem showsCollision_of_word {t : State}
    (h : t.reg (R.CAN_LASTCOLL n) = wN (2 ^ 31 + fld e 60 60 * 2 ^ 30 + fld e 28 0)) : ShowsCollision t n e := by
  have hide : fld e 60 60 < 2 := Nat.mod_lt _ (by decide)
  have hid : fld e 28 0 < 2 ^ 29 := Nat.mod_lt _ (by decide)
  have hf (x : Field) (hx : x.addr = R.CAN_LASTCOLL n) : t.f x = _ :=
    (congrArg (fun a => fld (t.reg a) x.hi x.lo) hx).trans <| (congrArg (fld · x.hi x.lo) h).trans
      (fld_wN _ _ _ (by omega))
  refine ⟨(State.fb_iff_f (x := F.CAN_LASTCOLL.VALID n) rfl true).2 ((hf _ rfl).trans ?_), (hf _ rfl).trans ?_,
    (State.fb_iff_f (x := F.CAN_LASTCOLL.IDE n) rfl _).2 ((hf _ rfl).trans ?_)⟩
  · change (2 ^ 31 + fld e 60 60 * 2 ^ 30 + fld e 28 0) / 2 ^ 31 % 2 ^ 1 = 1
    omega
  · change (2 ^ 31 + fld e 60 60 * 2 ^ 30 + fld e 28 0) / 2 ^ 0 % 2 ^ 29 = fld e 28 0
    omega
  · rw [← fld_bit]
    change (2 ^ 31 + fld e 60 60 * 2 ^ 30 + fld e 28 0) / 2 ^ 30 % 2 ^ 1 = fld e 60 60
    omega

theorem State.collisionShown_spec : (s.collisionShown n e).fb (F.CAN_STAT.COLLSEEN n) = true ∧
    ShowsCollision (s.collisionShown n e) n e ∧ OnlyRegs [R.CAN_STAT n, R.CAN_LASTCOLL n] s (s.collisionShown n e) :=
  ⟨(State.fb_setReg_ne _ _ _ _ (canCnt_apart n).2.2.2.2.2).trans (State.fb_setB_same _ _ _ rfl (by decide : 26 < 32)),
    showsCollision_of_word (State.reg_setReg_same _ _ _),
    .setReg (.setB .refl List.mem_cons_self) (List.mem_cons_of_mem _ List.mem_cons_self)⟩

theorem State.txErrShown_spec {c : Nat} : let t := s.txErrShown n e c
    t.f (F.CAN_CNT.ERRS n) = (s.f (F.CAN_CNT.ERRS n) + 1) % 65536 ∧
      t.f (F.CAN_ERRCNT.TEC n) = (if c = 3 ∧ s.f (F.CAN_STAT.STATE n) = 1 then s.f (F.CAN_ERRCNT.TEC n)
        else min 511 (s.f (F.CAN_ERRCNT.TEC n) + 8)) ∧
      (c = 7 → t.fb (F.CAN_STAT.COLLSEEN n) = true ∧ ShowsCollision t n e) ∧ OnlyRegs (errorRegs n) s t := by
  obtain ⟨herrs, htec, hregs⟩ := s.txErrCounted_spec (n := n) (c := c)
  have hsub : OnlyRegs (errorRegs n) s (s.txErrCounted n c) := hregs.mono (by simp)
  unfold State.txErrShown
  generalize s.txErrCounted n c = u at *
  by_cases hc : c = 7
  · obtain ⟨hseen, hshown, hcoll⟩ := u.collisionShown_spec (n := n) (e := e)
    rw [if_pos hc]
    exact ⟨(hcoll.2.f (canCnt_apart n).2.2.2.1).trans herrs, (hcoll.2.f (canCnt_apart n).2.2.2.2.1).trans htec,
      fun _ => ⟨hseen, hshown⟩, hsub.trans (hcoll.mono (by simp))⟩
  · rw [if_neg hc]
    exact ⟨herrs, htec, fun h => absurd h hc, hsub⟩

/-- An attempt that ends after a change of the counters. -/
theorem State.confinedEnd_spec {u : State} {kind code : Nat} (h : OnlyNoted (outcomeRegs n) s u) :
    let t := (u.canConfine n).canTxEnd n e kind code
    AttemptEnded s t n e kind code ∧ SameRegsBut (confineRegs n ++ endRegs n) u t ∧
      t.fb (F.CAN_STAT.COLLSEEN n) = u.fb (F.CAN_STAT.COLLSEEN n) := by
  have hconf : OnlyNoted (confineRegs n) u (u.canConfine n) := State.onlyNoted_canConfine
  obtain ⟨hended, hregs, hcoll⟩ := State.canTxEnd_spec (e := e) (kind := kind) (code := code)
    (h.canConfine (n := n) (by simp)) (outcomeRegs_apart n).1
  exact ⟨hended, fun a ha => (hregs a fun h => ha (List.mem_append_right _ h)).trans
    (hconf.2 a fun h => ha (List.mem_append_left _ h)), hcoll.trans (State.fb_canConfine rfl (by decide : 24 < 26 ∧ 26 < 30))⟩

/-- An attempt that ends with an error. -/
theorem State.errorEnd_spec {u : State} {c : Nat} (h : OnlyNoted (outcomeRegs n) s u)
    (hkept : SameRegsBut [R.CAN_TDC n] s u) : let t := ((u.txErrShown n e c).canConfine n).canTxEnd n e 3 c
    t.f (F.CAN_CNT.ERRS n) = (s.f (F.CAN_CNT.ERRS n) + 1) % 65536 ∧
      t.f (F.CAN_ERRCNT.TEC n) = (if c = 3 ∧ s.f (F.CAN_STAT.STATE n) = 1 then s.f (F.CAN_ERRCNT.TEC n)
        else min 511 (s.f (F.CAN_ERRCNT.TEC n) + 8)) ∧
      (c = 7 → t.fb (F.CAN_STAT.COLLSEEN n) = true ∧ ShowsCollision t n e) ∧ AttemptEnded s t n e 3 c := by
  obtain ⟨-, hshow, hsame, -⟩ := outcomeRegs_apart n
  obtain ⟨herrs, htec, hcoll, hregs⟩ := u.txErrShown_spec (n := n) (e := e) (c := c)
  obtain ⟨hended, hend, hseen⟩ := State.confinedEnd_spec (e := e) (kind := 3) (code := c)
    (h.regs_then (hregs.mono (List.subset_cons_self _ _)))
  rw [hkept.f (x := F.CAN_CNT.ERRS n) (hsame (R.CAN_CNT n) (by simp))] at herrs
  rw [hkept.f (x := F.CAN_STAT.STATE n) (hsame (R.CAN_STAT n) (by simp)),
    hkept.f (x := F.CAN_ERRCNT.TEC n) (hsame (R.CAN_ERRCNT n) (by simp))] at htec
  refine ⟨(hend.f (hshow (R.CAN_CNT n) (by simp))).trans herrs, (hend.f (hshow (R.CAN_ERRCNT n) (by simp))).trans htec,
    fun hc => ?_, hended⟩
  obtain ⟨hbit, hvalid, hid, hide⟩ := hcoll hc
  have hlast := hshow (R.CAN_LASTCOLL n) (by simp)
  exact ⟨hseen.trans hbit, (hend.fb hlast).trans hvalid, (hend.f hlast).trans hid, (hend.fb hlast).trans hide⟩

/-- TDCOVF stays while the attempt ends with its bit error. -/
theorem State.tdcovf_errorEnd {c : Nat} (h : s.TdcOverflows n e tdcv) :
    ((((s.canTdc n e tdcv).freeNext.txErrShown n e c).canConfine n).canTxEnd n e 3 c).fb (F.CAN_TDC.TDCOVF n) = true := by
  obtain ⟨-, hshow, -, hother⟩ := outcomeRegs_apart n
  have htdc : OnlyNoted (outcomeRegs n) s (s.canTdc n e tdcv).freeNext := State.onlyRegs_canTdc_outcome.noted.freeNext
  have hset : (s.canTdc n e tdcv).freeNext.fb (F.CAN_TDC.TDCOVF n) = true := State.tdcovf_canTdc h
  generalize (s.canTdc n e tdcv).freeNext = u at *
  obtain ⟨-, -, -, hregs⟩ := u.txErrShown_spec (n := n) (e := e) (c := c)
  obtain ⟨-, hend, -⟩ := State.confinedEnd_spec (e := e) (kind := 3) (code := c)
    (htdc.regs_then (hregs.mono (List.subset_cons_self _ _)))
  exact (hend.fb (hshow (R.CAN_TDC n) (by simp))).trans ((hregs.2.fb hother).trans hset)

/-- An attempt that ends with its frame sent. -/
theorem State.doneEnd_spec (tdcv : Nat) : let u := s.canTdc n e tdcv
    let t := ((u.setF (F.CAN_ERRCNT.TEC n) (u.f (F.CAN_ERRCNT.TEC n) - 1)).canConfine n).canTxEnd n e 1 0
    t.f (F.CAN_ERRCNT.TEC n) = s.f (F.CAN_ERRCNT.TEC n) - 1 ∧ AttemptEnded s t n e 1 0 := by
  obtain ⟨-, hshow, hsame, -⟩ := outcomeRegs_apart n
  have htdc : OnlyRegs (outcomeRegs n) s (s.canTdc n e tdcv) := State.onlyRegs_canTdc_outcome
  have htec : (s.canTdc n e tdcv).f (F.CAN_ERRCNT.TEC n) = s.f (F.CAN_ERRCNT.TEC n) :=
    State.onlyRegs_canTdc.2.f (hsame (R.CAN_ERRCNT n) (by simp))
  have hin : R.CAN_ERRCNT n ∈ outcomeRegs n := by simp
  have hlt : s.f (F.CAN_ERRCNT.TEC n) < 512 := fld_lt _ _ _
  intro u t
  have hset : (u.setF (F.CAN_ERRCNT.TEC n) (u.f (F.CAN_ERRCNT.TEC n) - 1)).f (F.CAN_ERRCNT.TEC n) =
      s.f (F.CAN_ERRCNT.TEC n) - 1 :=
    (State.f_setF_same _ _ _ (by decide : 8 < 32)).trans <| (Nat.mod_eq_of_lt (b := 512) (htec.symm ▸ by omega)).trans
      (congrArg (· - 1) htec)
  obtain ⟨hended, hend, -⟩ := State.confinedEnd_spec (e := e) (kind := 1) (code := 0)
    (htdc.noted.setF (x := F.CAN_ERRCNT.TEC n) (v := u.f (F.CAN_ERRCNT.TEC n) - 1) hin)
  exact ⟨(hend.f (hshow (R.CAN_ERRCNT n) (by simp))).trans hset, hended⟩

/-- An attempt that ends with arbitration lost. -/
theorem State.arbLostEnd_spec : let t := ((s.canTdc n e tdcv).incF (F.CAN_CNT.ARBLOST n) 1).canTxEnd n e 2 0
    t.f (F.CAN_CNT.ARBLOST n) = (s.f (F.CAN_CNT.ARBLOST n) + 1) % 65536 ∧
      t.f (F.CAN_ERRCNT.TEC n) = s.f (F.CAN_ERRCNT.TEC n) ∧ AttemptEnded s t n e 2 0 := by
  obtain ⟨hqueue, hshow, hsame, -⟩ := outcomeRegs_apart n
  have htdc : OnlyRegs (outcomeRegs n) s (s.canTdc n e tdcv) := State.onlyRegs_canTdc_outcome
  have hkept : SameRegsBut [R.CAN_TDC n] s (s.canTdc n e tdcv) := State.onlyRegs_canTdc.2
  have hinc : OnlyRegs [R.CAN_CNT n] (s.canTdc n e tdcv) ((s.canTdc n e tdcv).incF (F.CAN_CNT.ARBLOST n) 1) :=
    .incF .refl List.mem_cons_self
  have hlost : ((s.canTdc n e tdcv).incF (F.CAN_CNT.ARBLOST n) 1).f (F.CAN_CNT.ARBLOST n) = _ :=
    State.f_incF_same _ _ _ (by decide : 15 < 32)
  rw [hkept.f (x := F.CAN_CNT.ARBLOST n) (hsame (R.CAN_CNT n) (by simp))] at hlost
  obtain ⟨hended, hend, -⟩ := State.canTxEnd_spec (e := e) (kind := 2) (code := 0)
    (htdc.noted.regs_then (hinc.mono (by simp))) hqueue
  have happ (a : Nat) (ha : a ∉ confineRegs n ++ endRegs n) : a ∉ endRegs n := fun h => ha (List.mem_append_right _ h)
  exact ⟨(hend.f (happ _ (hshow (R.CAN_CNT n) (by simp)))).trans hlost,
    (hend.f (happ _ (hshow (R.CAN_ERRCNT n) (by simp)))).trans <| (hinc.2.f (canCnt_apart n).2.1).trans <|
      hkept.f (hsame (R.CAN_ERRCNT n) (by simp)), hended⟩

end

/-- Settles O46: a configuration by its bit times, a frame by its slot or its error, and an attempt by its outcome. -/
theorem canFramesAndAttempts : Obligations.CanFramesAndAttempts := by
  refine ⟨fun s n fden strict tdcen listen hon => ⟨fun hen => ?_, fun hen => ?_⟩, fun s n h data hon hwake => ?_,
    fun s n h data err hon hwake herr => ?_, fun s e l hlive hon hq hl => ⟨fun hst => ?_, fun hst => ?_,
      fun hst hsleep => ?_, fun hdisc hcan hlisten hidle hsleep htec => ?_⟩,
    fun s n e tdcv hon htx => ⟨fun hovf => ?_, fun hovf => ?_, ?_, fun c => ?_⟩⟩
  · exact congrArg Host.Outcome.next (State.canEnable_of_enabled hen)
  · exact .intro rfl rfl (State.canEnable_spec hon hen)
  · have hcounts := s.canRec_canHeard (n := n)
    by_cases hfull : s.f (F.CAN_RXCFG.COUNT n) ≤ (s.canCtl n).rxUsed
    · obtain ⟨hrec, hdrop, hmem⟩ := State.canReceive_dropped (h := h) (data := data) hon hwake hfull
      rw [← State.canRec_congr hrec] at hcounts
      exact .intro rfl rfl ⟨hcounts.1, hcounts.2, fun _ => ⟨hdrop, hmem⟩, fun h => absurd hfull (Nat.not_le.2 h)⟩
    · obtain ⟨hrec, hused, hslot, hpushed, hmem⟩ := State.canReceive_stored (h := h) (data := data) hon hwake
        (Nat.lt_of_not_le hfull)
      have hheard : OnlyNoted (countRegs n) s (s.canHeard n) := State.onlyNoted_canHeard
      have hold (b : Nat) : (s.canHeard n).ldb b = s.ldb b := State.ldb_congr hheard.mem b
      obtain ⟨hout, hin⟩ := (s.canHeard n).netStore_canBytes
        ((s.reg (R.CAN_RXBASE n)).toNat + (s.canCtl n).rxSlot * 64) h data
      rw [← State.canRec_congr hrec] at hcounts
      have hpd3 : (s.canHeard n).on 3 = s.on 3 := hheard.touches.on
        (fun h => queueRegs_apart n _ List.mem_cons_self (List.mem_cons_of_mem _ h)) 3
      rw [hpd3] at hin
      exact .intro rfl rfl ⟨hcounts.1, hcounts.2, fun h => absurd h hfull, fun _ => ⟨hused, hslot, hpushed,
        fun b hb => (State.ldb_congr hmem b).trans ((hout b hb).trans (hold b)),
        fun h3 ha hb i hi => (State.ldb_congr hmem _).trans (hin h3 ha hb i hi)⟩⟩
  · have herr' : err.toNat ≠ 0 := fun h => herr (BitVec.eq_of_toNat_eq h)
    obtain ⟨herrs, hrec, hpushed, hmem⟩ := State.canReceive_error_spec (n := n) (h := h) hon hwake herr'
    rw [Nat.mod_eq_of_lt err.isLt] at hpushed
    exact .intro rfl rfl ⟨herrs, hrec, hpushed, hmem⟩
  · exact .intro rfl rfl (State.canTransmit_discards hlive hon hq hl (if_pos hst))
  · exact .intro rfl rfl (State.canTransmit_discards hlive hon hq hl
      ((if_neg (by omega)).trans (if_pos hst)))
  · exact .intro rfl rfl (State.canTransmit_discards hlive hon hq hl
      ((if_neg (by omega)).trans <| (if_neg (by omega)).trans (if_pos hsleep)))
  · exact .intro rfl (State.canTransmit_of_free hq hl hdisc hcan hlisten hidle hsleep htec)
      ⟨s.queue_setQueue_same _, State.fb_setB_same _ _ _ rfl (by decide : 27 < 32),
        congrArg CanCtl.tx (State.canCtl_modCan_same _ _), SameRegsBut.setB (.ofRegs rfl) List.mem_cons_self, fun _ => rfl⟩
  · exact .intro rfl (State.canTxOutcome_of_done hon htx hovf) (State.doneEnd_spec _)
  · obtain ⟨c, hc, heq⟩ := State.canTxOutcome_of_overflow hon htx hovf
    have hfree : OnlyNoted (outcomeRegs n) s (s.canTdc n e tdcv.toNat).freeNext :=
      State.onlyRegs_canTdc_outcome.noted.freeNext
    have hkept : SameRegsBut [R.CAN_TDC n] s (s.canTdc n e tdcv.toNat).freeNext := State.onlyRegs_canTdc.2
    obtain ⟨-, -, -, hended⟩ := State.errorEnd_spec (e := e) (c := c.toNat) hfree hkept
    have hshown := State.tdcovf_errorEnd (c := c.toNat) hovf
    refine .intro rfl heq ⟨hshown, ?_⟩
    obtain h4 | h5 := hc
    · exact .inl (Eq.subst (motive := AttemptEnded s _ n e 3) h4 hended)
    · exact .inr (Eq.subst (motive := AttemptEnded s _ n e 3) h5 hended)
  · exact .intro rfl (State.canTxOutcome_of_arbLost hon htx) State.arbLostEnd_spec
  · obtain ⟨herrs, htec, hcoll, hended⟩ := State.errorEnd_spec (e := e) (c := c.toNat)
      (State.onlyRegs_canTdc_outcome (s := s) (tdcv := tdcv.toNat)).noted State.onlyRegs_canTdc.2
    refine .intro rfl (State.canTxOutcome_of_error hon htx) ⟨herrs, htec.trans ?_, fun hc => ?_, hended⟩
    · simp only [BitVec.toNat_eq (y := 3#4)]
      rfl
    · exact hcoll (congrArg BitVec.toNat hc)

end Sys2Proof.Machine

/-! Flash access and confirmation (15 R448, R449). An operation is refused or started by one condition; its end is one
store of bytes. -/

namespace Sys2Proof.Machine

/-! ## Flash operations (15 R448) -/

section
variable {s : State} {erase : Bool} {page : List Byte}

/-- The bytes that an operation concerns, and the address at which they begin. -/
def flashSize (erase : Bool) : Nat := if erase then 65536 else 256

def State.flashAddr (s : State) (erase : Bool) : Nat := (s.reg R.TRU_FLADDR).toNat / flashSize erase * flashSize erase

/-- An operation that does not start: one runs, no flash, or the active slot while a set-up is admitted. -/
def State.FlashRefused (s : State) (erase : Bool) : Prop :=
  let a := s.flashAddr erase
  let slot := 0x61000000 + s.f F.TRU_BOOTSEL.ACTIVE * 0x2000000
  s.fb F.TRU_FLCMD.BUSY = true ∨ regionOf a ≠ .flash ∨
    (s.admitted = true ∧ a < slot + 0x2000000 ∧ slot < a + flashSize erase)

theorem State.touchesActive_iff (a : Nat) : s.touchesActive a (flashSize erase) = true ↔
    a < 0x61000000 + s.f F.TRU_BOOTSEL.ACTIVE * 0x2000000 + 0x2000000 ∧
      0x61000000 + s.f F.TRU_BOOTSEL.ACTIVE * 0x2000000 < a + flashSize erase := by
  have hsize : 0 < flashSize erase := by
    unfold flashSize
    split <;> decide
  rw [State.touchesActive, overlap, slotBase, decide_eq_true_eq]
  omega

theorem State.flashRefused_iff : (s.fb F.TRU_FLCMD.BUSY || decide (regionOf (s.flashAddr erase) ≠ .flash) ||
    (s.admitted && s.touchesActive (s.flashAddr erase) (flashSize erase))) = true ↔ s.FlashRefused erase := by
  rw [Bool.or_eq_true, Bool.or_eq_true, Bool.and_eq_true, decide_eq_true_eq, State.touchesActive_iff, or_assoc]
  rfl

theorem State.flashStart_of_refused (h : s.FlashRefused erase) :
    s.flashStart erase page = (s.setB F.TRU_FLCMD.REFUSED true).note 15 6 (s.flashAddr erase) :=
  if_pos (State.flashRefused_iff.2 h)

/-- TRU_FLCMD shows an operation that runs. -/
def State.flashBusy (s : State) : State := (s.setB F.TRU_FLCMD.BUSY true).setB F.TRU_FLCMD.REFUSED false

theorem State.flashStart_of_taken (h : ¬ s.FlashRefused erase) : s.flashStart erase page =
    { s.flashBusy with tru := { s.tru with fl := some (erase, s.flashAddr erase, page) } } :=
  if_neg fun hr => h (State.flashRefused_iff.1 hr)

theorem State.flashBusy_spec : s.flashBusy.fb F.TRU_FLCMD.BUSY = true ∧ s.flashBusy.fb F.TRU_FLCMD.REFUSED = false ∧
    OnlyRegs [R.TRU_FLCMD] s s.flashBusy :=
  ⟨(State.fb_setB_apart _ _ _ _ (by decide)).trans (State.fb_setB_same _ _ _ rfl (by decide)),
    State.fb_setB_same _ _ _ rfl (by decide), .setB (.setB .refl List.mem_cons_self) List.mem_cons_self⟩

/-- A refusal shows REFUSED, with a record. -/
theorem State.flashRefused_spec (h : s.FlashRefused erase) : let t := s.flashStart erase page
    t.fb F.TRU_FLCMD.REFUSED = true ∧ OnlyNoted [R.TRU_FLCMD, R.FCU_LDGLOST] s t := by
  have hnote : OnlyNoted [R.FCU_LDGLOST] (s.setB F.TRU_FLCMD.REFUSED true)
    ((s.setB F.TRU_FLCMD.REFUSED true).note 15 6 (s.flashAddr erase)) := OnlyNoted.refl.note List.mem_cons_self
  intro t
  rw [show t = _ from State.flashStart_of_refused h]
  exact ⟨(hnote.touches.fb (by decide)).trans (State.fb_setB_same _ _ _ rfl (by decide)),
    OnlyNoted.note (.setB .refl List.mem_cons_self) (by decide)⟩

/-- An operation taken runs at its page or sector, with its bytes. -/
theorem State.flashTaken_spec (h : ¬ s.FlashRefused erase) : let t := s.flashStart erase page
    t.fb F.TRU_FLCMD.BUSY = true ∧ t.fb F.TRU_FLCMD.REFUSED = false ∧
      t.tru = { s.tru with fl := some (erase, s.flashAddr erase, page) } ∧ SameRegsBut [R.TRU_FLCMD] s t ∧
        SameMem s t := by
  obtain ⟨hbusy, hrefused, hregs⟩ := s.flashBusy_spec
  intro t
  rw [show t = _ from State.flashStart_of_taken h]
  refine ⟨?_, ?_, rfl, fun a ha => ?_, State.ldb_congr (u := s) ?_⟩
  · exact (State.fb_congr (u := s.flashBusy) rfl _).trans hbusy
  · exact (State.fb_congr (u := s.flashBusy) rfl _).trans hrefused
  · exact (State.reg_congr (u := s.flashBusy) rfl a).trans (hregs.2 a ha)
  · exact hregs.touches.mem

theorem OnlyNoted.tru {l : List Nat} {t : State} (h : OnlyNoted l s t) : t.tru = s.tru := (congrArg State.tru h.1 :)

/-! ### The end of an operation -/

/-- The bytes that the end of an operation leaves: those asked for, or open ones after a failure. -/
def State.flashBytes (s : State) (erase fail : Bool) (page : List Byte) : List Byte :=
  if fail then (List.range (flashSize erase / 8)).flatMap fun i =>
    (List.range 8).map fun j => (Config.freeValue (s.freeCtr + i)).extractLsb' (8 * j) 8
  else if erase then List.replicate (flashSize erase) 0xFF else page

theorem length_flatMap_range {α : Type} {g : Nat → List α} {m : Nat} (hg : ∀ i, (g i).length = m) (k : Nat) :
    ((List.range k).flatMap g).length = k * m := by
  simp [List.length_flatMap, hg]

theorem State.length_flashBytes_fail : (s.flashBytes erase true page).length = flashSize erase := by
  rw [State.flashBytes, if_pos rfl, length_flatMap_range fun i => List.length_map ..]
  cases erase <;> rfl

/-- The state in which the bytes stand, before TRU_FLCMD shows a failure. -/
def State.flashStored (s : State) (a : Nat) (l : List Byte) (free : Nat) : State :=
  let t := (s.setB F.TRU_FLCMD.BUSY false).putBytes a l
  { t with tru := { t.tru with fl := none }, freeCtr := t.freeCtr + free }

theorem State.flashDone_of_success {a : Nat} (hon : s.on 2 = true) (hfl : s.tru.fl = some (erase, a, page)) :
    s.flashDone false = s.flashStored a (s.flashBytes erase false page) 0 := by
  rw [State.flashDone, hfl]
  exact if_pos hon

theorem State.flashDone_of_failure {a : Nat} (hon : s.on 2 = true) (hfl : s.tru.fl = some (erase, a, page)) :
    s.flashDone true = (s.flashStored a (s.flashBytes erase true page) (flashSize erase / 8)).setB F.TRU_FLCMD.FAIL
      true := by
  rw [State.flashDone, hfl]
  exact if_pos hon

/-- Where no request of the mailbox is open, nothing is answered. -/
theorem State.mgmtSettle_of_none (h : s.tru.mgmt = []) : s.mgmtSettle = s := by
  rw [State.mgmtSettle, h]
  rfl

/-- The bytes stand at their addresses, no other byte changes, and the operation has ended. -/
theorem State.flashStored_spec (a : Nat) (l : List Byte) (free : Nat) : let t := s.flashStored a l free
    t.fb F.TRU_FLCMD.BUSY = false ∧ t.tru = { s.tru with fl := none } ∧
      (∀ i (h : i < l.length), t.ldb (a + i) = l[i]) ∧ (∀ b, b < a ∨ a + l.length ≤ b → t.ldb b = s.ldb b) ∧
        SameRegsBut [R.TRU_FLCMD] s t := by
  have hset : OnlyRegs [R.TRU_FLCMD] s (s.setB F.TRU_FLCMD.BUSY false) := .setB .refl List.mem_cons_self
  have hidle : (s.setB F.TRU_FLCMD.BUSY false).fb F.TRU_FLCMD.BUSY = false := State.fb_setB_same _ _ _ rfl (by decide)
  have hold (b : Nat) : (s.setB F.TRU_FLCMD.BUSY false).ldb b = s.ldb b := hset.touches.sameMem b
  have htru : (s.setB F.TRU_FLCMD.BUSY false).tru = s.tru := hset.noted.tru
  unfold State.flashStored
  generalize s.setB F.TRU_FLCMD.BUSY false = u at *
  have hput := State.putBytes_frame l u a
  have hin {i : Nat} (h : i < l.length) := State.ldb_putBytes l u a h
  have hout {b : Nat} (h : b < a ∨ a + l.length ≤ b) := State.ldb_putBytes_ne l u a h
  generalize u.putBytes a l = v at *
  have hregs : v.regs = u.regs := (congrArg State.regs hput :)
  have hvtru : v.tru = s.tru := (congrArg State.tru hput :).trans htru
  intro t
  refine ⟨(State.fb_congr (t := t) (u := u) hregs _).trans hidle, ?_, fun i h => ?_, fun b h => ?_, fun x hx => ?_⟩
  · exact congrArg (fun x : TruUnit => { x with fl := none }) hvtru
  · exact (State.ldb_congr (t := t) (u := v) rfl _).trans (hin h)
  · exact (State.ldb_congr (t := t) (u := v) rfl _).trans ((hout h).trans (hold b))
  · exact (State.reg_congr (t := t) (u := u) hregs x).trans (hset.2 x hx)

end

/-! ## Confirmation (15 R449) -/

section
variable {s : State}

theorem State.confirmOk_iff : s.confirmOk = true ↔
    s.fb F.TRU_BOOTSEL.TRIAL = true ∧ s.f F.TRU_BOOTSEL.NEXT = s.f F.TRU_BOOTSEL.ACTIVE := by
  rw [State.confirmOk, Bool.and_eq_true, decide_eq_true_eq]

theorem State.confirmCmd_of_ok (hlive : s.live = true) (hok : s.fb F.TRU_BOOTSEL.TRIAL = true ∧
    s.f F.TRU_BOOTSEL.NEXT = s.f F.TRU_BOOTSEL.ACTIVE) :
    s.confirmCmd = (s.setB F.TRU_BOOTSEL.TRIAL false).setB F.TRU_BOOTSEL.TRIED false :=
  (if_pos hlive).trans (if_pos (State.confirmOk_iff.2 hok))

theorem State.confirmCmd_of_other (hlive : s.live = true) (hok : ¬ (s.fb F.TRU_BOOTSEL.TRIAL = true ∧
    s.f F.TRU_BOOTSEL.NEXT = s.f F.TRU_BOOTSEL.ACTIVE)) : s.confirmCmd = s :=
  (if_pos hlive).trans (if_neg fun h => hok (State.confirmOk_iff.1 h))

end

/-- Settles O49: an operation is refused or taken, its end is one store, and CONFIRM acts on the trial that runs. -/
theorem flashAndConfirmation : Obligations.FlashAndConfirmation := by
  refine ⟨fun s erase hlive => ?_, fun s erase a page hon hfl hmgmt => ⟨?_, ?_⟩,
    fun s hlive => ⟨fun hok => ?_, fun hok => ?_⟩⟩
  · have hcmd : exec (if erase then Instr.flashErase else .flashProgram) s =
        .next (s.flashStart erase (if erase then [] else s.pageBuf)) := by
      cases erase with
      | true => exact congrArg Host.Outcome.next (if_pos hlive)
      | false => exact congrArg Host.Outcome.next (if_pos hlive)
    refine ⟨fun hrefused => ?_, fun htaken => ?_⟩
    · obtain ⟨hshown, hframe⟩ := State.flashRefused_spec (page := if erase then [] else s.pageBuf) hrefused
      exact .intro hcmd rfl ⟨hshown, hframe.tru, hframe.2, hframe.touches.sameMem⟩
    · exact .intro hcmd rfl (State.flashTaken_spec htaken)
  · obtain ⟨hidle, htru, hin, hout, hregs⟩ := s.flashStored_spec a (s.flashBytes erase false page) 0
    have hnone : (s.flashStored a (s.flashBytes erase false page) 0).tru.mgmt = [] :=
      (congrArg TruUnit.mgmt htru).trans hmgmt
    refine .intro rfl ((congrArg State.mgmtSettle (State.flashDone_of_success hon hfl)).trans
      (State.mgmtSettle_of_none hnone)) ⟨hidle, congrArg TruUnit.fl htru, fun he => ?_, fun he => ?_, hregs⟩
    · subst he
      have hlen : (s.flashBytes true false page).length = 65536 := List.length_replicate
      exact ⟨fun i hi => (hin i (hlen.symm ▸ hi)).trans (List.getElem_replicate _), hlen ▸ hout⟩
    · subst he
      exact ⟨hin, hout⟩
  · obtain ⟨hidle, htru, -, hout, hregs⟩ :=
      s.flashStored_spec a (s.flashBytes erase true page) (flashSize erase / 8)
    rw [State.length_flashBytes_fail] at hout
    have hdone := State.flashDone_of_failure hon hfl
    generalize s.flashStored a (s.flashBytes erase true page) (flashSize erase / 8) = u at *
    have hset : OnlyRegs [R.TRU_FLCMD] u (u.setB F.TRU_FLCMD.FAIL true) := .setB .refl List.mem_cons_self
    have htru' := hset.noted.tru.trans htru
    refine .intro rfl ((congrArg State.mgmtSettle hdone).trans
      (State.mgmtSettle_of_none ((congrArg TruUnit.mgmt htru').trans hmgmt)))
      ⟨(State.fb_setB_apart _ _ _ _ (by decide)).trans hidle, State.fb_setB_same _ _ _ rfl (by decide),
        congrArg TruUnit.fl htru', fun b hb => (hset.touches.sameMem b).trans (hout b hb),
        fun x hx => (hset.2 x hx).trans (hregs x hx)⟩
  · exact .intro rfl (State.confirmCmd_of_ok hlive hok)
      ⟨(State.fb_setB_apart _ _ _ _ (by decide)).trans (State.fb_setB_same _ _ _ rfl (by decide)),
        State.fb_setB_same _ _ _ rfl (by decide),
        (State.f_setB_apart _ _ _ _ (by decide)).trans (State.f_setB_apart _ _ _ _ (by decide)),
        .setB (.setB .refl List.mem_cons_self) List.mem_cons_self⟩
  · exact congrArg Host.Outcome.next (State.confirmCmd_of_other hlive hok)

end Sys2Proof.Machine

/-! Assay registers and reports (15 R433 to R444, R450). First the length of a SHA-384 value, and the bytes of an Assay
register after extensions; then the requests, the reports and the commands. -/

namespace Sys2Proof.Machine

/-! ## The length of SHA-384 -/

theorem length_shaRounds (l : List (DWord × DWord)) {h : List DWord} (hh : h.length = 8) :
    (l.foldl shaRound h).length = 8 := by
  induction l generalizing h with
  | nil => exact hh
  | cons x l ih => exact ih (h := shaRound h x) rfl

theorem length_shaBlock {h m : List DWord} (hh : h.length = 8) : (shaBlock h m).length = 8 := by
  rw [shaBlock, List.length_zipWith, hh, length_shaRounds _ hh]
  rfl

theorem length_shaBlocks (n : Nat) {h : List DWord} (hh : h.length = 8) (l : List Byte) :
    (shaBlocks n h l).length = 8 := by
  induction n generalizing h l with
  | zero => exact hh
  | succ n ih => exact ih (length_shaBlock hh) _

theorem length_sha384 (l : List Byte) : (sha384 l).length = 48 := by
  rw [sha384, List.length_flatMap]
  simp only [List.length_map, List.length_range, List.map_const', List.sum_replicate, List.length_take]
  rw [length_shaBlocks _ rfl]
  rfl

/-! ## The bytes of an Assay register (15 R433) -/

theorem wordBytes_append (b0 b1 b2 b3 : Byte) : wordBytes (b3 ++ b2 ++ b1 ++ b0) = [b0, b1, b2, b3] := by
  have h0 : (b3 ++ b2 ++ b1 ++ b0).extractLsb' 0 8 = b0 := BitVec.extractLsb'_append_eq_right
  have h1 : (b3 ++ b2 ++ b1 ++ b0).extractLsb' 8 8 = b1 :=
    (BitVec.extractLsb'_append_eq_of_le (by decide)).trans BitVec.extractLsb'_append_eq_right
  have h2 : (b3 ++ b2 ++ b1 ++ b0).extractLsb' 16 8 = b2 :=
    (BitVec.extractLsb'_append_eq_of_le (by decide)).trans <|
      (BitVec.extractLsb'_append_eq_of_le (by decide)).trans BitVec.extractLsb'_append_eq_right
  have h3 : (b3 ++ b2 ++ b1 ++ b0).extractLsb' 24 8 = b3 :=
    (BitVec.extractLsb'_append_eq_of_le (by decide)).trans <|
      (BitVec.extractLsb'_append_eq_of_le (by decide)).trans BitVec.extractLsb'_append_eq_left
  generalize b3 ++ b2 ++ b1 ++ b0 = w at *
  change [w.extractLsb' 0 8, w.extractLsb' 8 8, w.extractLsb' 16 8, w.extractLsb' 24 8] = _
  rw [h0, h1, h2, h3]

/-- 48 bytes are the bytes of their 12 words. -/
theorem flatMap_wordAt {l : List Byte} (hl : l.length = 48) :
    ((List.range 12).flatMap fun w => wordBytes (wordAt l (4 * w))) = l := by
  have hbytes : (List.range 48).map (fun i => (l[i]?).getD 0) = l := by
    refine List.ext_getElem (by simp [hl]) fun i h1 h2 => ?_
    rw [List.getElem_map, List.getElem_range, List.getElem?_eq_getElem h2, Option.getD_some]
  simp only [wordAt, wordBytes_append]
  exact hbytes

section
variable {s t : State} {n j : Nat} {l : List Byte}

theorem truAs_ne {w v : Nat} (hw : w < 12) (hv : v < 12) (h : n ≠ j ∨ w ≠ v) : R.TRU_AS n w ≠ R.TRU_AS j v := by
  unfold R.TRU_AS
  omega

theorem truStatus_ne_as (n w : Nat) : R.TRU_AS n w ≠ R.TRU_STATUS := by
  unfold R.TRU_AS R.TRU_STATUS
  omega

/-- The words of every Assay register are the words before. -/
theorem State.asBytes_congr (h : ∀ w, w < 12 → t.reg (R.TRU_AS n w) = s.reg (R.TRU_AS n w)) :
    t.asBytes n = s.asBytes n := by
  unfold State.asBytes
  rw [List.flatMap_def, List.flatMap_def]
  refine congrArg List.flatten (List.map_congr_left fun w hw => ?_)
  rw [h w (List.mem_range.1 hw)]

theorem State.reg_setAs_same {w : Nat} (hw : w < 12) : (s.setAs n l).reg (R.TRU_AS n w) = wordAt l (4 * w) :=
  State.forAll_range_reads (op := fun t w => t.setReg (R.TRU_AS n w) (wordAt l (4 * w)))
    (read := fun t w => t.reg (R.TRU_AS n w)) (v := fun w => wordAt l (4 * w)) (fun _ _ => State.reg_setReg_same _ _ _)
    (fun _ _ _ hlt hj => State.reg_setReg_ne _ _ (truAs_ne (by omega) hj (.inr (Nat.ne_of_lt hlt)))) hw

theorem State.onlyRegs_setAs : OnlyRegs ((List.range 12).map (R.TRU_AS n)) s (s.setAs n l) :=
  State.forAll_keeps _ _ _ s .refl fun _ _ hw h => h.setReg (List.mem_map_of_mem hw)

/-- An Assay register holds the value it took. -/
theorem State.asBytes_setAs_same (hl : l.length = 48) : (s.setAs n l).asBytes n = l := by
  refine Eq.trans ?_ (flatMap_wordAt hl)
  unfold State.asBytes
  rw [List.flatMap_def, List.flatMap_def]
  exact congrArg List.flatten (List.map_congr_left fun w hw => congrArg wordBytes (State.reg_setAs_same (List.mem_range.1 hw)))

theorem State.asBytes_setAs_ne (h : j ≠ n) : (s.setAs n l).asBytes j = s.asBytes j :=
  State.asBytes_congr fun w hw => State.onlyRegs_setAs.2 _ fun hmem => by
    obtain ⟨v, hv, heq⟩ := List.mem_map.1 hmem
    exact truAs_ne (List.mem_range.1 hv) hw (.inl h.symm) heq

/-- An extension changes its register only, to the SHA-384 of its value and the digest. -/
theorem State.asBytes_extendNow (x : Nat × List Byte) (j : Nat) : (s.extendNow x).asBytes j =
    if j = x.1 then sha384 (s.asBytes j ++ x.2) else s.asBytes j := by
  by_cases h : j = x.1
  · rw [if_pos h, h]
    exact State.asBytes_setAs_same (length_sha384 _)
  · rw [if_neg h]
    exact State.asBytes_setAs_ne h

/-- The value of an Assay register after every extension that runs or waits depends on nothing else. -/
theorem State.asBytes_extendAll_congr (hext : t.tru.ext = s.tru.ext) (h : t.asBytes j = s.asBytes j) :
    t.extendAll.asBytes j = s.extendAll.asBytes j := by
  have hlast (u : State) : u.extendAll.asBytes j = (u.forAll u.tru.ext State.extendNow).asBytes j :=
    State.asBytes_congr fun w _ => State.reg_setB_ne _ _ _ (truStatus_ne_as j w)
  have hall (xs : List (Nat × List Byte)) (u v : State) (huv : u.asBytes j = v.asBytes j) :
      (u.forAll xs State.extendNow).asBytes j = (v.forAll xs State.extendNow).asBytes j := by
    induction xs generalizing u v with
    | nil => exact huv
    | cons x xs ih =>
      refine ih _ _ ?_
      rw [State.asBytes_extendNow, State.asBytes_extendNow, huv]
  rw [hlast, hlast, hext]
  exact hall _ t s h

end

end Sys2Proof.Machine

namespace Sys2Proof.Machine

/-! ## Extensions (15 R433, R434) -/

section
variable {s : State} {req : Requester} {n : Nat}

theorem State.assayExtend_of_allowed (hon : s.on 2 = true) (hok : (req = .core0 ∨ req = .pair) ∧ (n = 6 ∨ n = 7)) :
    s.assayExtend req n = s.extend n ((List.range 12).flatMap fun w => wordBytes (s.reg (R.TRU_EXTD w))) :=
  (if_pos hon).trans (if_pos hok)

theorem State.assayExtend_of_other (hon : s.on 2 = true)
    (hok : ¬ ((req = .core0 ∨ req = .pair) ∧ (n = 6 ∨ n = 7))) :
    s.assayExtend req n = s.setB F.TRU_STATUS.EXTREJ true := (if_pos hon).trans (if_neg hok)

/-- An extension requested stands last among those that run or wait. -/
theorem State.extend_spec (hon : s.on 2 = true) (n : Nat) (d : List Byte) : let t := s.extend n d
    t.tru.ext = s.tru.ext ++ [(n, d)] ∧ t.fb F.TRU_STATUS.EXTBUSY = true ∧ Touches [R.TRU_STATUS] s t := by
  intro t
  rw [show t = _ from if_pos hon]
  exact ⟨rfl, State.fb_setB_same _ _ _ rfl (by decide), .setB (Touches.refl.update rfl rfl) List.mem_cons_self⟩

/-- The extensions that wait, the first of them started now. -/
def State.nextExtension (s : State) (l : List (Nat × List Byte)) : State :=
  { s with tru := { s.tru with ext := l, extStart := s.tm.refclk } }

/-- The extension that runs has ended, and the next one starts. -/
def State.extensionEnded (s : State) (x : Nat × List Byte) (l : List (Nat × List Byte)) : State :=
  (((s.untilCycle (s.tru.extStart + 24)).extendNow x).nextExtension l).setB F.TRU_STATUS.EXTBUSY (!l.isEmpty)

theorem State.extensionDone_of_run {x : Nat × List Byte} {l : List (Nat × List Byte)} (hon : s.on 2 = true)
    (hext : s.tru.ext = x :: l) : s.extensionDone = s.extensionEnded x l := by
  rw [State.extensionDone, hext]
  exact if_pos hon

theorem State.mem_untilCycle (c : Nat) : (s.untilCycle c).mem = s.mem := s.mem_advanceTo _

theorem State.extensionEnded_spec (x : Nat × List Byte) (l : List (Nat × List Byte)) : let t := s.extensionEnded x l
    (∀ j, t.asBytes j = if j = x.1 then sha384 (s.asBytes j ++ x.2) else s.asBytes j) ∧ t.tru.ext = l ∧
      t.fb F.TRU_STATUS.EXTBUSY = (!l.isEmpty) ∧ SameMem s t ∧ t.now = (s.untilCycle (s.tru.extStart + 24)).now := by
  have hstart (j : Nat) : (s.untilCycle (s.tru.extStart + 24)).asBytes j = s.asBytes j :=
    State.asBytes_congr fun w _ => State.reg_congr (s.regs_untilCycle _) _
  have hmem := s.mem_untilCycle (s.tru.extStart + 24)
  unfold State.extensionEnded
  generalize s.untilCycle (s.tru.extStart + 24) = u at *
  have hnow := u.asBytes_extendNow x
  have hregs : OnlyRegs ((List.range 12).map (R.TRU_AS x.1)) u (u.extendNow x) := State.onlyRegs_setAs
  generalize u.extendNow x = v at *
  have hwregs : (v.nextExtension l).regs = v.regs := rfl
  have hwmem : (v.nextExtension l).mem = v.mem := rfl
  have hwtm : (v.nextExtension l).tm = v.tm := rfl
  have hwext : (v.nextExtension l).tru.ext = l := rfl
  generalize v.nextExtension l = w at *
  have hset : OnlyRegs [R.TRU_STATUS] w (w.setB F.TRU_STATUS.EXTBUSY (!l.isEmpty)) := .setB .refl List.mem_cons_self
  refine ⟨fun j => ?_, (congrArg TruUnit.ext hset.noted.tru).trans hwext, State.fb_setB_same _ _ _ rfl (by decide),
    State.ldb_congr (hset.touches.mem.trans (hwmem.trans (hregs.touches.mem.trans hmem))), hset.now.trans ?_⟩
  · rw [← hstart j, ← hnow j]
    exact State.asBytes_congr fun k _ => (State.reg_setB_ne _ _ _ (truStatus_ne_as j k)).trans (State.reg_congr hwregs _)
  · exact (congrArg (fun tm : TimeUnit => tm.count.toNat) hwtm).trans hregs.now

end

/-! ## The report (15 R440, R442, R444) -/

section
variable {s t : State} {b : Nat} {nonce : List Byte} {r : TruReq}

theorem length_leBytes (n v : Nat) : (leBytes n v).length = n := by rw [leBytes, List.length_map, List.length_range]

/-- Bytes 0x00 to 0x2F of a report. -/
def State.reportHead (s : State) : List Byte :=
  let pos := if s.rngJoined then s.pos else 0x3F
  let dt := if s.fb F.ETH_DMAPCTL.VALID then (domainTime s.eth.dmap s.tm.count).toNat else 0
  leBytes 2 1 ++ leBytes 2 608 ++ leBytes 4 s.reportFlags ++ leBytes 8 (Config.serial.toNat % 2 ^ 48) ++
    leBytes 4 (s.f F.TRU_IDENT.STACKID * 65536 + pos * 256 + s.f F.RNG_STATUS.ROLE) ++
    leBytes 4 (s.f F.TRU_BOOTSEL.ACTIVE * 2 ^ 24 + s.f F.RNG_GEN.STACK * 65536 + s.f F.RNG_GEN.OWN * 256 + s.tru.hdrGen) ++
    leBytes 8 (if s.timeValid then s.now else 2 ^ 64 - 1) ++ leBytes 8 dt ++
    leBytes 4 (s.reg R.TRU_BOOTCNT).toNat ++ leBytes 4 (s.reg R.FCU_GRAVE).toNat

theorem State.length_reportHead : s.reportHead.length = 48 := by
  simp only [State.reportHead, List.length_append, length_leBytes]

theorem State.reportBody_eq (s : State) (nonce : List Byte) : s.reportBody nonce =
    s.reportHead ++ nonce ++ (List.range 8).flatMap s.extendAll.asBytes ++ sha384 certBytes := rfl

theorem State.length_asBytes (n : Nat) : (s.asBytes n).length = 48 :=
  length_flatMap_range (m := 4) (fun _ => rfl) 12

theorem State.length_nonceOf : (s.nonceOf b).length = 32 := length_flatMap_range (m := 4) (fun _ => rfl) 8

/-- The parts of a report: 512 bytes, with the nonce from byte 48 and the Assay registers from byte 80. -/
theorem State.reportBody_parts (hnonce : nonce.length = 32) : (s.reportBody nonce).length = 512 ∧
    ((s.reportBody nonce).drop 48).take 32 = nonce ∧
      ((s.reportBody nonce).drop 80).take 384 = (List.range 8).flatMap s.extendAll.asBytes := by
  have hhead := s.length_reportHead
  have has : ((List.range 8).flatMap s.extendAll.asBytes).length = 384 :=
    length_flatMap_range (fun n => State.length_asBytes n) 8
  have hcert := length_sha384 certBytes
  rw [State.reportBody_eq]
  generalize s.reportHead = p at *
  generalize (List.range 8).flatMap s.extendAll.asBytes = a at *
  generalize sha384 certBytes = c at *
  refine ⟨?_, ?_, ?_⟩
  · simp only [List.length_append, hhead, hnonce, has, hcert]
  · rw [List.append_assoc, List.append_assoc, List.drop_left' hhead, List.take_left' hnonce]
  · rw [List.append_assoc, List.drop_left' (by rw [List.length_append, hhead, hnonce]), List.take_left' has]

end

end Sys2Proof.Machine

namespace Sys2Proof.Machine

/-! ## The check before a signature (15 R444) -/

section
variable {s t : State} {key : KeyCheck}

theorem OnlyNoted.pwr {l : List Nat} (h : OnlyNoted l s t) : t.pwr = s.pwr := (congrArg State.pwr h.1 :)

/-- The check fails: KEYBAD, its record, and source 5. -/
theorem State.keyCheck_of_bad (hkey : key ≠ .good) :
    ∃ k, s.keyCheck key = ((s.setB F.TRU_STATUS.KEYBAD true).note 15 5 k).raise 5 := by
  cases key with
  | good => exact absurd rfl hkey
  | keyBad => exact ⟨1, rfl⟩
  | fuseBad => exact ⟨0, rfl⟩

theorem State.keyCheck_bad_spec (hkey : key ≠ .good) (hon : s.on 2 = true) (hreact : s.f (F.FCU_REACT.REACT 5) ≠ 4) :
    (s.keyCheck key).fb F.TRU_STATUS.KEYBAD = true ∧ (s.keyCheck key).fsw 5 = true ∧ (s.keyCheck key).pwr = s.pwr := by
  obtain ⟨k, hcheck⟩ := State.keyCheck_of_bad (s := s) hkey
  have hnoted : OnlyNoted [R.TRU_STATUS, R.FCU_LDGLOST] s ((s.setB F.TRU_STATUS.KEYBAD true).note 15 5 k) :=
    OnlyNoted.note (.setB .refl List.mem_cons_self) (by decide)
  have hbad : ((s.setB F.TRU_STATUS.KEYBAD true).note 15 5 k).fb F.TRU_STATUS.KEYBAD = true := by
    have hnote : OnlyNoted [R.FCU_LDGLOST] (s.setB F.TRU_STATUS.KEYBAD true)
      ((s.setB F.TRU_STATUS.KEYBAD true).note 15 5 k) := OnlyNoted.refl.note List.mem_cons_self
    exact (hnote.2.fb (by decide)).trans (State.fb_setB_same _ _ _ rfl (by decide))
  rw [hcheck]
  generalize (s.setB F.TRU_STATUS.KEYBAD true).note 15 5 k = u at *
  have hu : u.Records 5 := .inr ⟨(hnoted.2.f (x := F.FCU_REACT.REACT 5) (by decide)).symm ▸ hreact, by decide, by decide⟩
  have hraise : OnlyNoted (assertRegs 5) u (u.raise 5) := State.onlyNoted_raiseUnit hu
  exact ⟨(hraise.2.fb (by decide)).trans hbad,
    State.fsw_raiseUnit (5 : Fin 64) ((hnoted.touches.on (by decide) 2).trans hon) hu, hraise.pwr.trans hnoted.pwr⟩

/-! ## Requests (15 R440, R442) -/

variable {r : TruReq} {l : List TruReq}

/-- A request stands last. -/
def State.requested (s : State) (r : TruReq) : State := { s with tru := { s.tru with reqs := s.tru.reqs ++ [r] } }

/-- The snapshot of a report is taken, and its signature runs. -/
def State.snapshot (s : State) (nonce : List Byte) : State :=
  { s with tru := { s.tru with body := some (s.reportBody nonce) } }

theorem State.signStart_of_request (hbody : s.tru.body = none) (hreqs : s.tru.reqs = r :: l)
    (hin : (s.keyCheck r.key).pwr.inReset = false) :
    s.signStart = ((s.keyCheck r.key).snapshot r.nonce).setB F.TRU_STATUS.SIGBUSY true := by
  unfold State.signStart
  rw [hbody, hreqs]
  exact if_neg (Bool.eq_false_iff.1 hin)

theorem State.signStart_of_none (hreqs : s.tru.reqs = []) : s.signStart = s := by
  unfold State.signStart
  rw [hreqs]
  split
  · next h => exact absurd h (List.cons_ne_nil _ _).symm
  · rfl

theorem State.signStart_of_running {m : List Byte} (hbody : s.tru.body = some m) : s.signStart = s := by
  unfold State.signStart
  rw [hbody]

theorem reqMay_of_owner {req : Requester} {b : Fin 2}
    (h : if b.val = 1 then req = .host else req ∈ [Requester.pair, .ce, .core0, .core1, .core2, .core3]) :
    reqMay b req = true := by
  obtain hb | hb : b.val = 0 ∨ b.val = 1 := by omega
  · rw [hb, if_neg (by decide)] at h
    rw [hb]
    revert req
    simp [reqMay]
  · rw [hb, if_pos rfl] at h
    rw [hb, h]
    rfl

variable {req : Requester} {b : Fin 2}

theorem State.bufBusy_iff {n : Nat} : s.bufBusy n = true ↔ ∃ r ∈ s.tru.reqs, r.buf = n := by
  rw [State.bufBusy, List.any_eq_true]
  simp only [decide_eq_true_eq]

theorem State.reportRequest_of_busy (hlive : s.live = true) (hreq : reqMay b req = true)
    (hbusy : ∃ r ∈ s.tru.reqs, r.buf = b.val) : s.reportRequest req b key = s.setB (F.TRU_REQ.BUSY b) true :=
  (if_pos (by simp [hlive, hreq])).trans (if_pos (State.bufBusy_iff.2 hbusy))

/-- A request of a free unit, before its check. -/
def State.firstRequest (s : State) (b : Nat) (key : KeyCheck) : State :=
  (s.setB (F.TRU_REQ.PEND b) true).requested ⟨b, s.nonceOf b, 0, key⟩

theorem State.reportRequest_of_free (hlive : s.live = true) (hreq : reqMay b req = true) (hreqs : s.tru.reqs = []) :
    s.reportRequest req b key = (s.firstRequest b key).signStart :=
  (if_pos (by simp [hlive, hreq])).trans <| if_neg (by
    rw [State.bufBusy_iff, hreqs]
    exact fun ⟨_, h, _⟩ => List.not_mem_nil h)

/-- What a first request changes before its check. -/
theorem State.firstRequest_spec (hreqs : s.tru.reqs = []) (hbody : s.tru.body = none) : let t := s.firstRequest b key
    t.fb (F.TRU_REQ.PEND b) = true ∧ t.tru.reqs = [⟨b, s.nonceOf b, 0, key⟩] ∧ t.tru.body = none ∧
      t.tru.ext = s.tru.ext ∧ t.pwr = s.pwr ∧ Touches [R.TRU_REQ b] s t := by
  have hset : OnlyRegs [R.TRU_REQ b] s (s.setB (F.TRU_REQ.PEND b) true) := .setB .refl List.mem_cons_self
  have hpend : (s.setB (F.TRU_REQ.PEND b) true).fb (F.TRU_REQ.PEND b) = true :=
    State.fb_setB_same _ _ _ rfl (by decide : 29 < 32)
  unfold State.firstRequest
  generalize s.setB (F.TRU_REQ.PEND b) true = u at *
  have htru : u.tru = s.tru := hset.noted.tru
  refine ⟨hpend, ?_, ?_, ?_, hset.noted.pwr, hset.touches.update rfl rfl⟩
  · change u.tru.reqs ++ _ = _
    rw [htru, hreqs]
    rfl
  · exact (congrArg TruUnit.body htru).trans hbody
  · change u.tru.ext = s.tru.ext
    rw [htru]

theorem truReq_apart (b : Fin 2) : R.TRU_REQ b ≠ R.TRU_STATUS ∧ ∀ n w, R.TRU_AS n w ∉ [R.TRU_REQ b, R.TRU_STATUS] := by
  refine ⟨?_, fun n w => ?_⟩
  · unfold R.TRU_REQ R.TRU_STATUS
    omega
  · simp only [List.mem_cons, List.not_mem_nil, or_false]
    unfold R.TRU_AS R.TRU_REQ R.TRU_STATUS
    omega

/-- A snapshot keeps the registers and memory, and SIGBUSY then shows. -/
theorem State.snapshot_spec {nonce : List Byte} : let t := (s.snapshot nonce).setB F.TRU_STATUS.SIGBUSY true
    t.fb F.TRU_STATUS.SIGBUSY = true ∧ t.fb F.TRU_STATUS.KEYBAD = s.fb F.TRU_STATUS.KEYBAD ∧
      t.tru.body = some (s.reportBody nonce) ∧ Touches [R.TRU_STATUS] s t := by
  have hbody : (s.snapshot nonce).tru.body = some (s.reportBody nonce) := rfl
  have hsame : Touches [R.TRU_STATUS] s (s.snapshot nonce) := Touches.refl.update rfl rfl
  have hkey : (s.snapshot nonce).fb F.TRU_STATUS.KEYBAD = s.fb F.TRU_STATUS.KEYBAD := State.fb_congr rfl _
  generalize s.snapshot nonce = u at *
  have hset : OnlyRegs [R.TRU_STATUS] u (u.setB F.TRU_STATUS.SIGBUSY true) := .setB .refl List.mem_cons_self
  exact ⟨State.fb_setB_same _ _ _ rfl (by decide), (State.fb_setB_apart _ _ _ _ (by decide)).trans hkey,
    (congrArg TruUnit.body hset.noted.tru).trans hbody, hsame.trans hset.touches⟩

/-- A request with a good key: its snapshot with the nonce and the Assay registers, and the signature running. -/
theorem State.reportRequest_good (hlive : s.live = true) (hreq : reqMay b req = true) (hreqs : s.tru.reqs = [])
    (hbody : s.tru.body = none) : let t := s.reportRequest req b .good
    t.fb (F.TRU_REQ.PEND b) = true ∧ t.fb F.TRU_STATUS.SIGBUSY = true ∧ t.fb F.TRU_STATUS.KEYBAD = false ∧
      (∃ m, t.tru.body = some m ∧ m.length = 512 ∧ (m.drop 48).take 32 = s.nonceOf b ∧
        (m.drop 80).take 384 = (List.range 8).flatMap s.extendAll.asBytes) ∧
      Touches [R.TRU_REQ b, R.TRU_STATUS] s t := by
  obtain ⟨hpend, hone, hnone, hext, hpwr, htouch⟩ := State.firstRequest_spec (b := b) (key := .good) hreqs hbody
  intro t
  have ht : t = _ := State.reportRequest_of_free hlive hreq hreqs
  generalize s.firstRequest b .good = u at *
  have hset : OnlyRegs [R.TRU_STATUS] u (u.setB F.TRU_STATUS.KEYBAD false) := .setB .refl List.mem_cons_self
  have hgood : (u.setB F.TRU_STATUS.KEYBAD false).fb F.TRU_STATUS.KEYBAD = false :=
    State.fb_setB_same _ _ _ rfl (by decide)
  have hin : (u.setB F.TRU_STATUS.KEYBAD false).pwr.inReset = false := by
    rw [hset.noted.pwr, hpwr]
    simpa using (Bool.and_eq_true_iff.1 hlive).2
  rw [State.signStart_of_request hnone hone hin] at ht
  change t = ((u.setB F.TRU_STATUS.KEYBAD false).snapshot (s.nonceOf b)).setB _ _ at ht
  generalize u.setB F.TRU_STATUS.KEYBAD false = v at *
  obtain ⟨hbusy, hkey, hbody', hsnap⟩ := v.snapshot_spec (nonce := s.nonceOf b)
  obtain ⟨hlen, hn, has⟩ := v.reportBody_parts (nonce := s.nonceOf b) State.length_nonceOf
  obtain ⟨hne, happ⟩ := truReq_apart b
  have hv : Touches [R.TRU_REQ b, R.TRU_STATUS] s v := (htouch.mono (by simp)).trans (hset.touches.mono (by simp))
  have hstat (a : Field) (ha : a.addr = R.TRU_REQ b) : a.addr ∉ [R.TRU_STATUS] := fun h =>
    hne (ha.symm.trans (List.mem_singleton.1 h))
  rw [ht]
  refine ⟨(hsnap.fb (hstat _ rfl)).trans ((hset.2.fb (hstat _ rfl)).trans hpend), hbusy, hkey.trans hgood,
    ⟨_, hbody', hlen, hn, has.trans ?_⟩, hv.trans (hsnap.mono (by simp))⟩
  have hextv : v.tru.ext = s.tru.ext := (congrArg TruUnit.ext hset.noted.tru).trans hext
  have hall (j : Nat) : v.extendAll.asBytes j = s.extendAll.asBytes j :=
    State.asBytes_extendAll_congr hextv (State.asBytes_congr fun w _ => hv.regs _ (happ j w))
  exact congrArg (List.flatMap · (List.range 8)) (funext hall)

/-- A request whose check fails: KEYBAD and source 5, and the signature still runs. -/
theorem State.reportRequest_bad (hlive : s.live = true) (hreq : reqMay b req = true) (hreqs : s.tru.reqs = [])
    (hbody : s.tru.body = none) (hkey : key ≠ .good) (hreact : s.f (F.FCU_REACT.REACT 5) ≠ 4) :
    let t := s.reportRequest req b key
    t.fb F.TRU_STATUS.KEYBAD = true ∧ t.fsw 5 = true ∧ t.fb F.TRU_STATUS.SIGBUSY = true := by
  obtain ⟨-, hone, hnone, -, hpwr, htouch⟩ := State.firstRequest_spec (b := b) (key := key) hreqs hbody
  have hfar (a : Nat) (ha : a < 0x400F0000) : a ∉ [R.TRU_REQ b] := fun h => by
    rw [List.mem_singleton.1 h] at ha
    unfold R.TRU_REQ at ha
    omega
  intro t
  have ht : t = _ := State.reportRequest_of_free hlive hreq hreqs
  generalize s.firstRequest b key = u at *
  have hon : u.on 2 = true := (htouch.on (hfar _ (by decide)) 2).trans (State.on_of_live hlive)
  have hreact' : u.f (F.FCU_REACT.REACT 5) ≠ 4 := by
    rw [htouch.f (x := F.FCU_REACT.REACT 5) (hfar _ (by decide))]
    exact hreact
  obtain ⟨hbad, hfsw, hpwr'⟩ := State.keyCheck_bad_spec hkey hon hreact'
  have hin : (u.keyCheck key).pwr.inReset = false := by
    rw [hpwr', hpwr]
    simpa using (Bool.and_eq_true_iff.1 hlive).2
  rw [State.signStart_of_request hnone hone hin] at ht
  change t = ((u.keyCheck key).snapshot (s.nonceOf b)).setB _ _ at ht
  generalize u.keyCheck key = v at *
  obtain ⟨hbusy, hkept, -, hsnap⟩ := v.snapshot_spec (nonce := s.nonceOf b)
  rw [ht]
  exact ⟨hkept.trans hbad, (hsnap.fb (by decide)).trans hfsw, hbusy⟩

end

end Sys2Proof.Machine

namespace Sys2Proof.Machine

/-! ## A request over the ring (15 R442) -/

section
variable {s h : State} {f : List Word} {r : TruReq} {l : List TruReq}

theorem State.onlyRegs_keyGood : OnlyRegs [R.TRU_STATUS] s (s.keyCheck .good) := .setB .refl List.mem_cons_self

/-- A good request that stands first leaves the list of requests as it is. -/
theorem State.reqs_signStart (hreqs : s.tru.reqs = r :: l) (hkey : s.tru.body = none → r.key = .good) :
    s.signStart.tru.reqs = s.tru.reqs := by
  cases hbody : s.tru.body with
  | some m => rw [State.signStart_of_running hbody]
  | none =>
    have hgood : s.keyCheck r.key = s.keyCheck .good := by rw [hkey hbody]
    have hsame : (s.keyCheck .good).tru = s.tru := State.onlyRegs_keyGood.noted.tru
    unfold State.signStart
    rw [hbody, hreqs]
    simp only [hgood]
    generalize s.keyCheck .good = u at *
    split
    · rw [hsame, hreqs]
    · have hset : OnlyRegs [R.TRU_STATUS] (u.snapshot r.nonce) ((u.snapshot r.nonce).setB F.TRU_STATUS.SIGBUSY true) :=
        .setB .refl List.mem_cons_self
      exact (congrArg TruUnit.reqs hset.noted.tru).trans ((congrArg TruUnit.reqs hsame).trans hreqs)

/-- The nonce that a ring request carries. -/
def ringNonce (f : List Word) : List Byte := (List.range 8).flatMap fun w => wordBytes (fWord f (4 + w))

theorem State.ringReportRequest_of_heard (hon : s.rngOn = true) (hclass : fClass f = 5)
    (hsub : fld (fWord f 3) 31 24 = 0x40) (hnew : (s.hear f).2 = true) (hme : (s.hear f).1.forMe f = true)
    (hfree : ∀ r ∈ (s.hear f).1.tru.reqs, r.buf ≠ 2) :
    s.ringReportRequest f .good = ((s.hear f).1.requested ⟨2, ringNonce f, fSrc f, .good⟩).signStart := by
  have hbuf : (s.hear f).1.bufBusy 2 ≠ true := fun hb => by
    obtain ⟨r, hr, h2⟩ := State.bufBusy_iff.1 hb
    exact hfree r hr h2
  refine (if_pos (by simp [hon, hclass, hsub])).trans ?_
  exact (if_pos (by simp [hnew, hme])).trans (if_neg hbuf)

/-- A ring request for buffer 2 stands last among the requests. -/
theorem State.reqs_requested (hfirst : h.tru.body = none → h.tru.reqs = []) (hkey : r.key = .good) :
    (h.requested r).signStart.tru.reqs = h.tru.reqs ++ [r] := by
  have hall : (h.requested r).tru.reqs = h.tru.reqs ++ [r] := rfl
  have hbody : (h.requested r).tru.body = h.tru.body := rfl
  cases hreqs : h.tru.reqs with
  | nil =>
    rw [hreqs] at hall
    exact (State.reqs_signStart hall fun _ => hkey).trans hall
  | cons x xs =>
    rw [hreqs] at hall
    refine (State.reqs_signStart hall fun hnone => ?_).trans hall
    exact absurd ((hfirst (hbody.symm.trans hnone)).symm.trans hreqs) (List.cons_ne_nil x xs).symm

end

/-! ## The report done (15 R441, R442) -/

section
variable {s : State} {r : TruReq} {m : List Byte} {b : Nat}

/-- The signature of a report, or 96 zero bytes. -/
def signature (bad : Bool) (m : List Byte) : List Byte :=
  if bad then List.replicate 96 (0 : Byte) else (Config.sign (sha384 m)).take 96

/-- The report with its signature, padded to 608 bytes. -/
def signedReport (bad : Bool) (m : List Byte) : List Byte :=
  m ++ signature bad m ++ List.replicate (96 - (signature bad m).length) 0

theorem signedReport_spec (bad : Bool) (hm : m.length = 512) : (signedReport bad m).take 512 = m ∧
    (signedReport bad m).length = 608 ∧ (bad = true → (signedReport bad m).drop 512 = List.replicate 96 0) ∧
    (bad = false → ∃ z, (signedReport bad m).drop 512 = (Config.sign (sha384 m)).take 96 ++ List.replicate z 0) := by
  have hlen : (signature bad m).length ≤ 96 := by
    unfold signature
    split
    · exact Nat.le_of_eq List.length_replicate
    · exact List.length_take_le ..
  have hdrop : (signedReport bad m).drop 512 = signature bad m ++ List.replicate (96 - (signature bad m).length) 0 := by
    rw [signedReport, List.append_assoc, List.drop_left' hm]
  refine ⟨?_, ?_, fun hbad => ?_, fun hgood => ?_⟩
  · rw [signedReport, List.append_assoc, List.take_left' hm]
  · simp only [signedReport, List.length_append, List.length_replicate, hm]
    omega
  · have hzero : signature true m = List.replicate 96 0 := rfl
    rw [hdrop, hbad, hzero, List.length_replicate]
    exact List.append_nil _
  · rw [hdrop, hgood]
    exact ⟨_, rfl⟩

/-- A failed signature is recorded. -/
def State.signNoted (s : State) (b : Nat) : State := if s.fb F.TRU_STATUS.KEYBAD then s.note 15 7 b else s

/-- The unit has ended a report. -/
def State.reportTaken (s : State) : State := { s with tru := { s.tru with body := none, reqs := [] } }

/-- TRU_REQ and TRU_STATUS show the report of a buffer. -/
def State.reportShown (s : State) (b : Nat) : State :=
  (s.setB (F.TRU_REQ.PEND b) false).setReg R.TRU_STATUS (setFld (s.reg R.TRU_STATUS) b b 1)

/-- The report stands in its window. -/
def State.windowSet (s : State) (b : Nat) (rep : List Byte) : State :=
  if b = 0 then { s with tru := { s.tru with win0 := rep } } else { s with tru := { s.tru with win1 := rep } }

theorem State.reportDone_of_window (hlive : s.live = true) (hbody : s.tru.body = some m) (hreqs : s.tru.reqs = [r])
    (hbuf : r.buf < 2) : s.reportDone =
      (((((s.signNoted r.buf).reportTaken).setB F.TRU_STATUS.SIGBUSY false).reportShown r.buf).windowSet r.buf
        (signedReport (s.fb F.TRU_STATUS.KEYBAD) m)).signStart := by
  unfold State.reportDone
  rw [hbody, hreqs]
  exact (if_pos hlive).trans (congrArg State.signStart (if_neg (Nat.ne_of_lt hbuf)))

theorem State.onlyNoted_signNoted : OnlyNoted [R.FCU_LDGLOST] s (s.signNoted b) :=
  .ite (OnlyNoted.refl.note List.mem_cons_self) .refl

theorem State.reportShown_spec (hb : b < 2) (hbusy : s.fb F.TRU_STATUS.SIGBUSY = false) :
    (s.reportShown b).fb F.TRU_STATUS.SIGBUSY = false ∧ (s.reportShown b).fb (F.TRU_REQ.PEND b) = false ∧
      bitAt ((s.reportShown b).reg R.TRU_STATUS) b = true ∧
        OnlyRegs [R.TRU_REQ b, R.TRU_STATUS] s (s.reportShown b) := by
  have hword : (s.reportShown b).reg R.TRU_STATUS = setFld (s.reg R.TRU_STATUS) b b 1 := State.reg_setReg_same _ _ _
  refine ⟨?_, ?_, ?_, .setReg (.setB .refl List.mem_cons_self) (by simp)⟩
  · rw [State.fb]
    change bitAt ((s.reportShown b).reg R.TRU_STATUS) 27 = false
    rw [hword]
    exact (bitAt_setFld_apart _ _ _ _ _ (.inr (by omega))).trans hbusy
  · exact (State.fb_setReg_ne _ _ _ _ (truReq_apart ⟨b, hb⟩).1).trans (State.fb_setB_same _ _ _ rfl (by decide : 29 < 32))
  · rw [hword]
    exact bitAt_setFld_same _ _ 1 (by omega)

/-- The window of a buffer. -/
def State.window (s : State) (b : Nat) : List Byte := if b = 0 then s.tru.win0 else s.tru.win1

theorem State.windowSet_spec (rep : List Byte) : let t := s.windowSet b rep
    t.window b = rep ∧ t.tru.reqs = s.tru.reqs ∧ t.tru.body = s.tru.body ∧ t.tru.mgmt = s.tru.mgmt ∧
      t.regs = s.regs ∧ t.mem = s.mem := by
  unfold State.windowSet State.window
  by_cases h : b = 0
  · simp only [if_pos h, and_self]
  · simp only [if_neg h, and_self]

/-- The report of buffer 0 or 1 done: it stands in its window, and the unit is free. -/
theorem State.reportDone_spec (hlive : s.live = true) (hbody : s.tru.body = some m) (hreqs : s.tru.reqs = [r])
    (hbuf : r.buf < 2) (hmgmt : s.tru.mgmt = []) : let t := s.reportDone
    t.window r.buf = signedReport (s.fb F.TRU_STATUS.KEYBAD) m ∧ t.fb F.TRU_STATUS.SIGBUSY = false ∧
      t.fb (F.TRU_REQ.PEND r.buf) = false ∧ bitAt (t.reg R.TRU_STATUS) r.buf = true ∧ t.tru.reqs = [] ∧
      t.tru.body = none ∧ t.tru.mgmt = [] ∧ SameMem s t := by
  have hnoted : OnlyNoted [R.FCU_LDGLOST] s (s.signNoted r.buf) := State.onlyNoted_signNoted
  have htru : (s.signNoted r.buf).reportTaken.tru.reqs = [] ∧ (s.signNoted r.buf).reportTaken.tru.body = none ∧
      (s.signNoted r.buf).reportTaken.tru.mgmt = [] :=
    ⟨rfl, rfl, (congrArg TruUnit.mgmt hnoted.tru).trans hmgmt⟩
  have hmem : (s.signNoted r.buf).reportTaken.mem = s.mem := hnoted.mem
  intro t
  have ht : t = _ := State.reportDone_of_window hlive hbody hreqs hbuf
  generalize (s.signNoted r.buf).reportTaken = u at *
  have hset : OnlyRegs [R.TRU_STATUS] u (u.setB F.TRU_STATUS.SIGBUSY false) := .setB .refl List.mem_cons_self
  have hfree : (u.setB F.TRU_STATUS.SIGBUSY false).fb F.TRU_STATUS.SIGBUSY = false :=
    State.fb_setB_same _ _ _ rfl (by decide)
  generalize u.setB F.TRU_STATUS.SIGBUSY false = v at *
  obtain ⟨hbusy, hpend, hdone, hshown⟩ := State.reportShown_spec hbuf hfree
  have hwtru : (v.reportShown r.buf).tru = u.tru := hshown.noted.tru.trans hset.noted.tru
  have hwmem : (v.reportShown r.buf).mem = s.mem := hshown.touches.mem.trans (hset.touches.mem.trans hmem)
  generalize v.reportShown r.buf = w at *
  obtain ⟨hwin, hreqs', hbody', hmgmt', hregs, hmem'⟩ :=
    w.windowSet_spec (b := r.buf) (signedReport (s.fb F.TRU_STATUS.KEYBAD) m)
  generalize w.windowSet r.buf (signedReport (s.fb F.TRU_STATUS.KEYBAD) m) = x at *
  obtain ⟨hnoreq, hnobody, hnomgmt⟩ := htru
  rw [hwtru] at hreqs' hbody' hmgmt'
  rw [ht, State.signStart_of_none (hreqs'.trans hnoreq)]
  exact ⟨hwin, (State.fb_congr hregs _).trans hbusy, (State.fb_congr hregs _).trans hpend,
    (congrArg (bitAt · r.buf) (State.reg_congr hregs _)).trans hdone, hreqs'.trans hnoreq, hbody'.trans hnobody,
    hmgmt'.trans hnomgmt, State.ldb_congr (hmem'.trans hwmem)⟩

end

/-! ## STACKID (15 R450) -/

section
variable {s : State} {id : Nat}

theorem State.identWrite_of_free (hon : s.on 2 = true) (hlock : s.fb F.TRU_IDENT.LOCK = false) (hid : id < 2 ^ 14) :
    s.identWrite (wN (2 ^ 31 + id * 2 ^ 16)) = (s.setF F.TRU_IDENT.STACKID id).setB F.TRU_IDENT.LOCK true := by
  have hstack : fld (wN (2 ^ 31 + id * 2 ^ 16)) 29 16 = id := by
    rw [fld_wN _ _ _ (by omega)]
    omega
  have hset : bitAt (wN (2 ^ 31 + id * 2 ^ 16)) 31 = true := by
    have hone : b2n (bitAt (wN (2 ^ 31 + id * 2 ^ 16)) 31) = 1 := by
      rw [← fld_bit, fld_wN _ _ _ (by omega)]
      omega
    revert hone
    cases bitAt (wN (2 ^ 31 + id * 2 ^ 16)) 31 <;> decide
  rw [State.identWrite, if_pos hon, if_neg (Bool.eq_false_iff.1 hlock), hstack, hset]

theorem State.identWrite_of_locked (hlock : s.fb F.TRU_IDENT.LOCK = true) (v : Word) : s.identWrite v = s := by
  rw [State.identWrite, if_pos hlock, ite_self]

end

/-- Settles O48: an extension is one SHA-384, a request one snapshot, a report done one window. -/
theorem assayRegistersAndReports : Obligations.AssayRegistersAndReports := by
  refine ⟨fun s req n hon => ⟨fun hok => ?_, fun hok => ?_⟩, fun s n d l hon hext => ?_,
    fun s req b key hlive hreq => ⟨fun hbusy => ?_, fun hreqs hbody hkey => ?_, fun hreqs hbody hkey hreact => ?_⟩,
    fun s f hon hclass hsub hnew hme hfree hfirst => ?_, fun s m r hlive hbody hreqs hbuf hm hmgmt => ?_,
    fun s id hon => ⟨fun hlock => ?_, fun hlock => ?_⟩⟩
  · obtain ⟨hext, hbusy, hframe⟩ := State.extend_spec hon n
      ((List.range 12).flatMap fun w => wordBytes (s.reg (R.TRU_EXTD w)))
    exact .intro rfl (State.assayExtend_of_allowed hon hok) ⟨hext, hbusy, hframe.regs, hframe.sameMem⟩
  · exact .intro rfl (State.assayExtend_of_other hon hok)
      ⟨State.fb_setB_same _ _ _ rfl (by decide), .setB .refl List.mem_cons_self⟩
  · obtain ⟨hbytes, hext', hbusy, hmem, hnow⟩ := s.extensionEnded_spec (n.val, d) l
    exact .intro rfl (State.extensionDone_of_run hon hext) ⟨(hbytes n).trans (if_pos rfl),
      fun j _ hj => (hbytes j).trans (if_neg hj), hext', hbusy, hmem, hnow⟩
  · exact .intro rfl (State.reportRequest_of_busy hlive (reqMay_of_owner hreq) hbusy)
      ⟨State.fb_setB_same _ _ _ rfl (by decide : 30 < 32), .setB .refl List.mem_cons_self⟩
  · subst hkey
    obtain ⟨hpend, hbusy, hgood, hm, hframe⟩ := State.reportRequest_good hlive (reqMay_of_owner hreq) hreqs hbody
    exact .intro rfl rfl ⟨hpend, hbusy, hgood, hm, hframe.regs, hframe.sameMem⟩
  · exact .intro rfl rfl (State.reportRequest_bad hlive (reqMay_of_owner hreq) hreqs hbody hkey hreact)
  · exact .intro rfl (State.ringReportRequest_of_heard hon hclass hsub hnew hme hfree) (State.reqs_requested hfirst rfl)
  · obtain ⟨hwin, hbusy, hpend, hdone, hnoreq, hnobody, hnomgmt, hmem⟩ :=
      State.reportDone_spec hlive hbody hreqs hbuf hmgmt
    obtain ⟨htake, hlen, hbad, hgood⟩ := signedReport_spec (s.fb F.TRU_STATUS.KEYBAD) hm
    rw [← hwin] at htake hlen hbad hgood
    exact .intro rfl (State.mgmtSettle_of_none hnomgmt)
      ⟨htake, hlen, hbad, hgood, hbusy, hpend, hdone, hnoreq, hnobody, hmem⟩
  · exact .intro rfl (State.identWrite_of_free hon hlock id.isLt)
      ⟨(State.f_setB_apart _ _ _ _ (by decide)).trans <| (State.f_setF_same _ _ _ (by decide)).trans
        (Nat.mod_eq_of_lt id.isLt), State.fb_setB_same _ _ _ rfl (by decide),
        .setB (.setF .refl List.mem_cons_self) List.mem_cons_self⟩
  · exact congrArg Host.Outcome.next (State.identWrite_of_locked hlock _)

end Sys2Proof.Machine

/-! Serials, the gate charge and written trims (11 R343, R344, R350, R351). -/

namespace Sys2Proof.Machine

/-! ## Signed fields -/

/-- A number in the range of n bits reads back signed. -/
theorem sx_ux {n : Nat} {v : Int} (hlo : -((2 ^ n : Nat) : Int) ≤ 2 * v) (hhi : 2 * v < ((2 ^ n : Nat) : Int)) :
    sx n (ux n v) = v := by
  have hpos : 0 < 2 ^ n := Nat.two_pow_pos n
  unfold sx ux
  generalize 2 ^ n = p at *
  have hmod : ((v % (p : Int)).toNat : Int) = v % (p : Int) := Int.toNat_of_nonneg (Int.emod_nonneg _ (by omega))
  have hlt : (v % (p : Int)).toNat < p := by
    have := Int.emod_lt_of_pos v (b := (p : Int)) (by omega)
    omega
  rw [Nat.mod_eq_of_lt hlt]
  by_cases hv : 0 ≤ v
  · have hval : v % (p : Int) = v := Int.emod_eq_of_lt hv (by omega)
    rw [hval] at hmod ⊢
    simp only
    rw [if_pos (by omega), hmod]
  · have hval : v % (p : Int) = v + p := by
      rw [← Int.add_emod_right]
      exact Int.emod_eq_of_lt (by omega) (by omega)
    rw [hval] at hmod ⊢
    simp only
    rw [if_neg (by omega), hmod]
    omega

theorem ux_lt (n : Nat) (v : Int) : ux n v < 2 ^ n := by
  have hpos : 0 < 2 ^ n := Nat.two_pow_pos n
  have := Int.emod_lt_of_pos v (b := ((2 ^ n : Nat) : Int)) (by omega)
  have := Int.emod_nonneg v (b := ((2 ^ n : Nat) : Int)) (by omega)
  unfold ux
  omega

/-! ## Serials (11 R343) -/

section
variable {s t : State} {i : Nat}

/-- The acceptance asked for: a context and a serial. -/
def State.serialAsked (s : State) (lo : Word) : State :=
  { s with msr := { s.msr with serReq := some (s.f F.MSR_SERHI.CTX, s.f F.MSR_SERHI.SER * 2 ^ 32 + lo.toNat) } }

theorem State.serialAccept_of_on (hon : s.on 11 = true) (lo : Word) : s.serialAccept lo = s.serialAsked lo := if_pos hon

theorem State.reg_setCtx (off : Nat) (v : Word) (a : Nat) : (s.setCtx i off v).reg a = s.reg a := rfl

/-- A fold of stores to other words of the context leaves a word of it. -/
theorem State.ctx_trimsCleared {off : Nat} (h : off + 4 ≤ 0x1C0) :
    (s.forAll (List.range 16) fun u g => u.setCtx i (0x1C0 + 4 * g) 0).ctx i off = s.ctx i off ∧
      (s.forAll (List.range 16) fun u g => u.setCtx i (0x1C0 + 4 * g) 0).regs = s.regs :=
  State.forAll_keeps (fun t => t.ctx i off = s.ctx i off ∧ t.regs = s.regs) _ _ s ⟨rfl, rfl⟩ fun t _ _ ht =>
    ⟨(State.ctx_setCtx_apart _ _ _ (.inl (by omega))).trans ht.1, ht.2⟩

/-- A first recording starts the gain and the covariance, and keeps the serial. -/
theorem State.calReset_spec : (s.calReset i).ctx i 0x180 = 0x40000000#32 ∧ (s.calReset i).ctx i 0x184 = s.reg R.MSR_PINIT ∧
    (∀ off, off + 4 ≤ 0x180 → (s.calReset i).ctx i off = s.ctx i off) ∧ (s.calReset i).regs = s.regs := by
  unfold State.calReset
  extract_lets t
  refine ⟨?_, ?_, fun off hoff => ?_, ?_⟩
  · rw [(t.ctx_trimsCleared (by decide)).1]
    exact (State.ctx_setCtx_apart _ _ _ (.inl (by decide))).trans (State.ctx_setCtx_same _ _ _ _)
  · rw [(t.ctx_trimsCleared (by decide)).1]
    exact State.ctx_setCtx_same _ _ _ _
  · rw [(t.ctx_trimsCleared (by omega)).1]
    exact (State.ctx_setCtx_apart _ _ _ (.inl (by omega))).trans (State.ctx_setCtx_apart _ _ _ (.inl (by omega)))
  · exact (t.ctx_trimsCleared (i := i) (off := 0) (by decide)).2

/-- A serial recorded reads back, with the calibration of a first recording. -/
theorem State.putSerial_spec {n : Nat} (hn : n < 2 ^ 48) : (s.putSerial i n).ctxSerial i = n ∧
    (s.putSerial i n).ctx i 0x180 = 0x40000000#32 ∧ (s.putSerial i n).ctx i 0x184 = s.reg R.MSR_PINIT ∧
    (s.putSerial i n).regs = s.regs := by
  have hhigh : ((s.setCtx i 0xE0 (wN (n / 2 ^ 32 % 65536))).setCtx i 0xE4 (wN n)).ctx i 0xE0 = wN (n / 2 ^ 32 % 65536) :=
    (State.ctx_setCtx_apart _ _ _ (.inl (by decide))).trans (State.ctx_setCtx_same _ _ _ _)
  have hlow : ((s.setCtx i 0xE0 (wN (n / 2 ^ 32 % 65536))).setCtx i 0xE4 (wN n)).ctx i 0xE4 = wN n :=
    State.ctx_setCtx_same _ _ _ _
  have hregs : ((s.setCtx i 0xE0 (wN (n / 2 ^ 32 % 65536))).setCtx i 0xE4 (wN n)).regs = s.regs := rfl
  unfold State.putSerial
  generalize (s.setCtx i 0xE0 (wN (n / 2 ^ 32 % 65536))).setCtx i 0xE4 (wN n) = u at *
  obtain ⟨hgain, hcov, hkept, hsame⟩ := u.calReset_spec (i := i)
  refine ⟨?_, hgain, hcov.trans (State.reg_congr hregs _), hsame.trans hregs⟩
  rw [State.ctxSerial, State.ctxF, State.ctxN, hkept _ (by decide), hkept _ (by decide), hhigh, hlow,
    fld_wN _ _ _ (by omega), wN, BitVec.toNat_ofNat]
  omega

theorem State.serialRecord_of_empty (hon : s.on 6 = true) (h : s.ctxSerial i = 0) :
    s.serialRecord i = s.putSerial i (s.portSerial i) := (if_neg (by simp [hon])).trans (if_pos h)

theorem State.serialRecord_of_same (h : s.ctxSerial i ≠ 0) (hsame : s.ctxSerial i = s.portSerial i) :
    s.serialRecord i = s := by
  rw [State.serialRecord, if_neg h]
  split
  · rfl
  · exact if_neg (not_and_of_not_left _ (not_not.2 hsame))

theorem State.serialRecord_of_other (hon : s.on 6 = true) (h : s.ctxSerial i ≠ 0)
    (hother : s.ctxSerial i ≠ s.portSerial i) (hon' : s.on 11 = true) (hnew : s.serNew i = false) :
    s.serialRecord i = (s.setSerNew i true).note 12 2 i :=
  (if_neg (by simp [hon])).trans <| (if_neg h).trans (if_pos ⟨hother, hon', hnew⟩)

/-- A replacement shows its bit and the flag. -/
theorem State.setSerNew_spec (hi : i < 128) : (s.setSerNew i true).serNew i = true ∧
    (s.setSerNew i true).fb F.MSR_STATUS.SERNEW = true ∧ (s.setSerNew i true).mem = s.mem := by
  have hbit : bitAt (setFld (s.reg (R.MSR_SERNEW (i / 32))) (i % 32) (i % 32) (b2n true)) (i % 32) = true :=
    bitAt_setFld_same _ _ _ (by omega)
  have hne : R.MSR_SERNEW (i / 32) ≠ R.MSR_STATUS := by
    unfold R.MSR_SERNEW R.MSR_STATUS
    omega
  unfold State.setSerNew
  extract_lets a t
  have ht : t.reg (R.MSR_SERNEW (i / 32)) = _ := State.reg_setReg_same _ _ _
  rw [← ht] at hbit
  have hany : ((List.range 4).any fun n => decide (t.reg (R.MSR_SERNEW n) ≠ 0)) = true := by
    refine List.any_eq_true.2 ⟨i / 32, List.mem_range.2 (by omega), decide_eq_true fun h => ?_⟩
    rw [h] at hbit
    exact absurd hbit (by simp [bitAt])
  refine ⟨?_, ?_, rfl⟩
  · exact (congrArg (bitAt · (i % 32)) (State.reg_setB_ne _ _ _ hne)).trans hbit
  · rw [hany]
    exact State.fb_setB_same _ _ _ rfl (by decide)

end

/-! ## Gate charge (11 R344) -/

section
variable {s : State} {c : Nat} {hs hsok : Bool}

/-- The conditions of a gate-charge measurement. -/
def State.GateChargeOk (s : State) (c : Nat) (hs hsok : Bool) : Prop :=
  s.commission = true ∧ s.fb (F.BRP_CFG.USE c) = true ∧ s.brpRun c = false ∧ s.brpLatched c = false ∧
    s.fb F.BRP_CTRL.VGDLOW = false ∧ s.msr.gq = none ∧ (hs = true → hsok = true)

theorem State.gateChargeOk_iff : (s.commission && s.fb (F.BRP_CFG.USE c) && !s.brpRun c && !s.brpLatched c &&
    !s.fb F.BRP_CTRL.VGDLOW && s.msr.gq.isNone && (!hs || hsok)) = true ↔ s.GateChargeOk c hs hsok := by
  simp only [State.GateChargeOk, Bool.and_eq_true, Bool.not_eq_true', Option.isNone_iff_eq_none, and_assoc]
  cases hs <;> simp

/-- The measurement that runs. -/
def State.gateChargeRuns (s : State) (c : Nat) (hs : Bool) : State := { s with msr := { s.msr with gq := some (c, hs) } }

/-- A measurement that runs: its channel's LO is on. -/
def State.gateChargeOn (s : State) (c : Nat) (hs : Bool) : State :=
  ((s.setB F.MSR_GQRES.BUSY true).modBrpCh c fun x => { x with lo := true, loAt := some s.now }).gateChargeRuns c hs

theorem State.gateChargeOn_spec : let t := s.gateChargeOn c hs
    t.msr.gq = some (c, hs) ∧ t.fb F.MSR_GQRES.BUSY = true ∧ (t.brpCh c).lo = true ∧
      Touches [R.MSR_GQRES] s t := by
  have hset : OnlyRegs [R.MSR_GQRES] s (s.setB F.MSR_GQRES.BUSY true) := .setB .refl List.mem_cons_self
  have hbusy : (s.setB F.MSR_GQRES.BUSY true).fb F.MSR_GQRES.BUSY = true := State.fb_setB_same _ _ _ rfl (by decide)
  unfold State.gateChargeOn
  generalize s.setB F.MSR_GQRES.BUSY true = u at *
  exact ⟨rfl, hbusy, congrArg BrpChan.lo (State.brpCh_setBrpCh_same _), hset.touches.update rfl rfl⟩

theorem State.gateChargeMeasure_of_ok (hlive : s.live = true) (hon : s.on 11 = true) (hok : s.GateChargeOk c hs hsok) :
    s.gateChargeMeasure c hs hsok = s.gateChargeOn c hs :=
  (if_pos (by simp [hlive, hon])).trans (if_pos (State.gateChargeOk_iff.2 hok))

theorem State.gateChargeMeasure_of_refused (hlive : s.live = true) (hon : s.on 11 = true)
    (hok : ¬ s.GateChargeOk c hs hsok) : s.gateChargeMeasure c hs hsok = s.setF F.MSR_GQRES.RES 4 :=
  (if_pos (by simp [hlive, hon])).trans (if_neg fun h => hok (State.gateChargeOk_iff.1 h))

/-- The result code of a gate charge. -/
def State.gateChargeCode (s : State) (qg : Nat) : Nat :=
  if qg < 20 then 1 else if qg < s.f F.MSR_GQWIN.QMIN then 2 else if s.f F.MSR_GQWIN.QMAX < qg then 3 else 0

/-- MSR_GQRES and MSR_STATUS show a measurement that has ended. -/
def State.gateChargeShown (s : State) (res : Nat) (hs : Bool) (qg : Nat) : State :=
  ((((s.setB F.MSR_GQRES.BUSY false).setF F.MSR_GQRES.RES res).setB F.MSR_GQRES.SIDE hs).setF F.MSR_GQRES.QG qg).setB
    F.MSR_STATUS.GQDONE true

/-- No measurement runs. -/
def State.gateChargeFree (s : State) : State := { s with msr := { s.msr with gq := none } }

theorem State.gateChargeFree_spec : s.gateChargeFree.msr.gq = none ∧ s.gateChargeFree.regs = s.regs ∧
    s.gateChargeFree.brp = s.brp ∧ s.gateChargeFree.mem = s.mem := ⟨rfl, rfl, rfl, rfl⟩

theorem State.brpCh_congr {t : State} (h : t.brp = s.brp) (c : Nat) : t.brpCh c = s.brpCh c := by
  rw [State.brpCh, State.brpCh, h]

theorem State.gateChargeDone_of_run {qg : Nat} (hgq : s.msr.gq = some (c, hs)) (hlive : s.live = true)
    (hon : s.on 11 = true) : s.gateChargeDone qg =
      (((s.advanceTo (s.now + (if hs then 179200 else 25600))).gatesOff c true).gateChargeShown (s.gateChargeCode qg) hs
        qg).gateChargeFree := by
  rw [State.gateChargeDone, hgq]
  exact if_pos (by simp [hlive, hon])

theorem State.gateChargeShown_spec {res qg : Nat} (hres : res < 8) (hqg : qg < 2 ^ 16) :
    let t := s.gateChargeShown res hs qg
    t.fb F.MSR_GQRES.BUSY = false ∧ t.f F.MSR_GQRES.QG = qg ∧ t.fb F.MSR_GQRES.SIDE = hs ∧
      t.fb F.MSR_STATUS.GQDONE = true ∧ t.f F.MSR_GQRES.RES = res ∧ OnlyRegs [R.MSR_GQRES, R.MSR_STATUS] s t := by
  have hframe : OnlyRegs [R.MSR_GQRES, R.MSR_STATUS] s (s.gateChargeShown res hs qg) :=
    .setB (.setF (.setB (.setF (.setB .refl (by decide)) (by decide)) (by decide)) (by decide)) (by decide)
  refine ⟨?_, ?_, ?_, State.fb_setB_same _ _ _ rfl (by decide), ?_, hframe⟩
  · simp (disch := decide) only [State.gateChargeShown, State.fb_setB_apart, State.fb_setF_apart]
    exact State.fb_setB_same _ _ _ rfl (by decide)
  · simp (disch := decide) only [State.gateChargeShown, State.f_setB_apart]
    exact (State.f_setF_same _ _ _ (by decide)).trans (Nat.mod_eq_of_lt hqg)
  · simp (disch := decide) only [State.gateChargeShown, State.fb_setB_apart, State.fb_setF_apart]
    exact State.fb_setB_same _ _ _ rfl (by decide)
  · simp (disch := decide) only [State.gateChargeShown, State.f_setB_apart, State.f_setF_apart]
    exact (State.f_setF_same _ _ _ (by decide)).trans (Nat.mod_eq_of_lt hres)

end

/-! ## Written trims (11 R350, R351) -/

section
variable {s : State} {i g : Nat} {v : Int}

/-- A trim written reads back, and the trim of the other edge stays. -/
theorem State.setTrim_spec {rising : Bool} (hlo : -2048 ≤ v) (hhi : v < 2048) :
    (s.setTrim i g rising v).trim i g rising = v ∧
      (s.setTrim i g rising v).trim i g (!rising) = s.trim i g (!rising) ∧ (s.setTrim i g rising v).regs = s.regs := by
  have hv : sx 12 (ux 12 v) = v := sx_ux (by omega) (by omega)
  have hfit : ux 12 v % 2 ^ 12 = ux 12 v := Nat.mod_eq_of_lt (ux_lt 12 v)
  cases rising with
  | true =>
    have hword : (s.setTrim i g true v).ctx i (0x1C0 + 4 * g) = _ := s.ctx_setCtxF_same i _ 11 0 (ux 12 v)
    refine ⟨?_, ?_, rfl⟩
    · rw [State.trim, if_pos rfl, State.ctxF, hword, fld_setFld_same _ _ _ _ (by decide), hfit, hv]
    · rw [State.trim, State.trim, State.ctxF, State.ctxF, hword]
      exact congrArg (sx 12) (fld_setFld_apart _ 11 0 _ 27 16 (by decide))
  | false =>
    have hword : (s.setTrim i g false v).ctx i (0x1C0 + 4 * g) = _ := s.ctx_setCtxF_same i _ 27 16 (ux 12 v)
    refine ⟨?_, ?_, rfl⟩
    · rw [State.trim, if_neg Bool.false_ne_true, State.ctxF, hword, fld_setFld_same _ _ _ _ (by decide), hfit, hv]
    · rw [State.trim, State.trim, State.ctxF, State.ctxF, hword]
      exact congrArg (sx 12) (fld_setFld_apart _ 27 16 _ 11 0 (by decide))

theorem State.trimsetWrite_of_stage (hon : s.on 11 = true) (hcell : s.on 6 = true) (hi : i ∈ ctxIdx) (fall : Bool)
    (hstage : (groupMask (s.cClass i) 0).testBit g = false) :
    s.trimsetWrite i g fall v = (s.setTrim i g (!fall) v).trimChanged (pairKey i g (!fall)) :=
  if_pos (by simp [hon, hcell, hi, hstage])

theorem State.trimsetWrite_of_arm (fall : Bool) (harm : (groupMask (s.cClass i) 0).testBit g = true) :
    s.trimsetWrite i g fall v = s := if_neg (by simp [harm])

theorem State.trim_congr {t : State} (h : t.mem = s.mem) (rising : Bool) : t.trim i g rising = s.trim i g rising := by
  simp only [State.trim, State.ctxF, State.ctx_congr h]

/-- The pair waits for a CAL word. -/
theorem State.trimChanged_spec (key : Nat) : key ∈ (s.trimChanged key).msr.changed ∧
    (s.trimChanged key).mem = s.mem ∧ (s.trimChanged key).regs = s.regs :=
  ⟨List.mem_append_right _ List.mem_cons_self, rfl, rfl⟩

end

/-- Settles O38: a serial by the context's record, the gate charge by its conditions, and a trim by its gate's group. -/
theorem serialsGateChargeAndTrims : Obligations.SerialsGateChargeAndTrims := by
  refine ⟨fun s lo hon => ?_, fun s i hi hcell => ⟨fun hempty hn => ?_, fun hfull hsame => ?_,
      fun hfull hother hon hnew => ?_⟩, fun s c hs hsok hlive hon => ⟨fun hok => ?_, fun hok => ?_⟩,
    fun s c hs qg hgq hc hlive hon => ?_, fun s fall i gate trim hon hcell hi => ⟨fun hstage => ?_, fun harm => ?_⟩⟩
  · exact .intro rfl (State.serialAccept_of_on hon lo) ⟨rfl, fun _ => rfl, fun _ => rfl⟩
  · rw [State.serialRecord_of_empty hcell hempty]
    obtain ⟨hserial, hgain, hcov, hregs⟩ := s.putSerial_spec (i := i) hn
    exact ⟨hserial, hgain, hcov, State.reg_congr hregs⟩
  · exact State.serialRecord_of_same hfull hsame
  · obtain ⟨hbit, hflag, hmem⟩ := s.setSerNew_spec hi
    exact ⟨_, State.serialRecord_of_other hcell hfull hother hon hnew, hbit, hflag, hmem⟩
  · obtain ⟨hrun, hbusy, hlo, hframe⟩ := s.gateChargeOn_spec (c := c) (hs := hs)
    exact .intro rfl (State.gateChargeMeasure_of_ok hlive hon hok) ⟨hrun, hbusy, hlo, hframe.regs, hframe.sameMem⟩
  · have hset : OnlyRegs [R.MSR_GQRES] s (s.setF F.MSR_GQRES.RES 4) := .setF .refl List.mem_cons_self
    exact .intro rfl (State.gateChargeMeasure_of_refused hlive hon hok)
      ⟨State.f_setF_same _ _ _ (by decide), (congrArg State.msr hset.1 :), hset⟩
  · have hres : s.gateChargeCode qg.toNat < 8 := by
      unfold State.gateChargeCode
      split
      · decide
      · split
        · decide
        · split <;> decide
    obtain ⟨hch, hho, hlo⟩ := (s.advanceTo (s.now + (if hs then 179200 else 25600))).gatesOff_spec c true
    have hmem := s.mem_advanceTo (s.now + (if hs then 179200 else 25600))
    have hdone := State.gateChargeDone_of_run (qg := qg.toNat) hgq hlive hon
    generalize s.advanceTo (s.now + (if hs then 179200 else 25600)) = t at *
    generalize t.gatesOff c true = u at *
    obtain ⟨hbusy, hqg, hside, hflag, hcode, hregs⟩ := u.gateChargeShown_spec (hs := hs) hres qg.isLt
    generalize u.gateChargeShown (s.gateChargeCode qg.toNat) hs qg.toNat = v at *
    have hbrp : v.brpCh c = u.brpCh c := State.brpCh_congr (congrArg State.brp hregs.1 :) c
    obtain ⟨hgq', hsame, hbrp', hmem'⟩ := v.gateChargeFree_spec
    have hch' := (State.brpCh_congr hbrp' c).trans hbrp
    exact .intro rfl hdone ⟨hgq', (State.fb_congr hsame _).trans hbusy, (State.f_congr hsame _).trans hqg,
      (State.fb_congr hsame _).trans hside, (State.fb_congr hsame _).trans hflag, (congrArg BrpChan.lo hch').trans hlo,
      (congrArg BrpChan.ho hch').trans hho, (State.f_congr hsame _).trans hcode,
      State.ldb_congr (hmem'.trans (hregs.touches.mem.trans (hch.mem.trans hmem)))⟩
  · have hlo := trim.le_toInt
    have hhi := trim.toInt_lt
    obtain ⟨hread, hother, hregs⟩ := s.setTrim_spec (i := i.toNat) (g := gate) (rising := !fall) (v := trim.toInt)
      (by omega) (by omega)
    rw [Bool.not_not] at hother
    refine .intro rfl (State.trimsetWrite_of_stage hon hcell hi fall hstage) ?_
    generalize s.setTrim i.toNat gate (!fall) trim.toInt = u at *
    obtain ⟨hchanged, hmem, hsame⟩ := u.trimChanged_spec (pairKey i.toNat gate (!fall))
    exact ⟨(State.trim_congr hmem _).trans hread, (State.trim_congr hmem _).trans hother, hchanged,
      State.reg_congr (hsame.trans hregs)⟩
  · exact congrArg Host.Outcome.next (State.trimsetWrite_of_arm fall harm)

end Sys2Proof.Machine

/-! Conversions, filters, comparators and monitors (11 R333 to R341). A result is one update of its channel. -/

namespace Sys2Proof.Machine

/-! ## A result on its channel (11 R333) -/

section
variable {s t : State} {c : Nat} {v : Int} {inv : Bool}

/-- The last result of channel c. -/
def State.chan (s : State) (c : Nat) : Word := tblGet (fun _ => (0 : Word)) s.msr.cur c

theorem State.chan_congr (h : t.msr = s.msr) (c : Nat) : t.chan c = s.chan c := by rw [State.chan, State.chan, h]

theorem State.chan_result (d : Nat) : (s.result c v inv).chan d =
    if d = c then wN (b2n inv * 2 ^ 31 + ux 30 v) else s.chan d := tblGet_tblSet _ _ _ _ _

theorem State.chan_result_same : (s.result c v inv).chan c = wN (b2n inv * 2 ^ 31 + ux 30 v) :=
  (State.chan_result c).trans (if_pos rfl)

theorem State.chan_result_ne {d : Nat} (h : d ≠ c) : (s.result c v inv).chan d = s.chan d :=
  (State.chan_result d).trans (if_neg h)

theorem State.mem_fresh_result : c ∈ (s.result c v inv).msr.fresh := by
  change c ∈ if s.msr.fresh.contains c then s.msr.fresh else s.msr.fresh ++ [c]
  split
  · next h => exact List.contains_iff_mem.1 h
  · exact List.mem_append_right _ List.mem_cons_self

@[simp] theorem State.regs_result : (s.result c v inv).regs = s.regs := rfl
@[simp] theorem State.mem_result : (s.result c v inv).mem = s.mem := rfl
@[simp] theorem State.tm_result : (s.result c v inv).tm = s.tm := rfl

theorem State.msr_advanceTo (n : Nat) : (s.advanceTo n).msr = s.msr := by
  unfold State.advanceTo
  split <;> rfl

/-- The word of a valid result of 30 bits. -/
theorem resultWord_valid : wN (b2n false * 2 ^ 31 + ux 30 v) = BitVec.ofNat 32 (ux 30 v) := by
  rw [show b2n false = 0 from rfl, Nat.zero_mul, Nat.zero_add]
  rfl

end

/-! ## Converters (11 R335, R336) -/

section
variable {s : State} {e code slot : Nat} {b : Bool}

/-- The instant at which the conversion of a slot samples. -/
def State.sarSample (s : State) (slot : Nat) : Nat := s.boundary s.tm.k + slot * 6400

/-- A result of converter b is invalid: its offset, or its reference. -/
def State.sarInvalid (s : State) (b : Bool) : Bool := !s.fb (F.MSR_OFF.VALID (b2n b)) || s.msr.rails.testBit 3

/-- The code less the offset. -/
def State.sarValue (s : State) (b : Bool) (code : Nat) : Int := (code : Int) - nearest (s.sarOff b) 256

/-- An entry has converted in this period. -/
def State.sarDone (s : State) (e : Nat) : State := { s with msr := { s.msr with sarDone := s.msr.sarDone ++ [e] } }

/-- The conversion of entry e complete. -/
def State.sarResult (s : State) (e slot code : Nat) : State :=
  ((s.advanceTo (s.sarSample slot + 5760)).result e (s.sarValue (decide (16 ≤ e)) code)
    (s.sarInvalid (decide (16 ≤ e)))).sarDone e

@[simp] theorem State.regs_sarDone : (s.sarDone e).regs = s.regs := rfl
@[simp] theorem State.mem_sarDone : (s.sarDone e).mem = s.mem := rfl
@[simp] theorem State.tm_sarDone : (s.sarDone e).tm = s.tm := rfl

theorem State.regs_sarResult : (s.sarResult e slot code).regs = s.regs := by
  rw [State.sarResult, State.regs_sarDone, State.regs_result, State.regs_advanceTo]

/-- What Q27 takes of a conversion. -/
def State.sarEntry (s : State) (e slot code : Nat) : DWord :=
  BitVec.ofNat 64 (e * 2 ^ 58 + b2n (s.sarInvalid (decide (16 ≤ e))) * 2 ^ 57 + s.sarSample slot / 64 % 2 ^ 24 * 2 ^ 32 +
    ux 32 (s.sarValue (decide (16 ≤ e)) code))

theorem State.sarConversion_of_plan (hon : s.sarOn (decide (16 ≤ e)) = true)
    (hplan : ((s.sarPlan (decide (16 ≤ e))).find? fun x => x.1 == e) = some (e, slot))
    (hfirst : s.msr.sarDone.contains e = false) : s.sarConversion e code =
      if s.fb (F.MSR_SEQ.QEN e) then (s.sarResult e slot code).hwPush 27 (s.sarEntry e slot code)
      else s.sarResult e slot code := by
  have hregs : (s.advanceTo (s.sarSample slot + 5760)).regs = s.regs := s.regs_advanceTo _
  have hoff : (s.advanceTo (s.sarSample slot + 5760)).sarOff (decide (16 ≤ e)) = s.sarOff (decide (16 ≤ e)) :=
    congrArg (sx 24) (State.f_congr hregs _)
  have hinv : (s.advanceTo (s.sarSample slot + 5760)).sarInvalid (decide (16 ≤ e)) = s.sarInvalid (decide (16 ≤ e)) := by
    rw [State.sarInvalid, State.sarInvalid, State.fb_congr hregs, State.msr_advanceTo]
  have hval : (s.advanceTo (s.sarSample slot + 5760)).sarValue (decide (16 ≤ e)) code = s.sarValue (decide (16 ≤ e)) code := by
    rw [State.sarValue, State.sarValue, hoff]
  have hqen : (s.sarResult e slot code).fb (F.MSR_SEQ.QEN e) = s.fb (F.MSR_SEQ.QEN e) :=
    State.fb_congr State.regs_sarResult _
  unfold State.sarConversion
  extract_lets b
  rw [show ((s.sarPlan b).find? fun x => x.1 == e) = some (e, slot) from hplan]
  refine (if_pos (by simp only [b, hon, hfirst, Bool.not_false, Bool.and_self])).trans ?_
  rw [← hqen, State.sarEntry, State.sarResult, ← hinv, ← hval]
  rfl

theorem State.now_of_tm {t : State} (h : t.tm = s.tm) : t.now = s.now := congrArg (fun m : TimeUnit => m.count.toNat) h

theorem State.msr_sarDone : (s.sarDone e).msr.cur = s.msr.cur ∧ (s.sarDone e).msr.fresh = s.msr.fresh ∧
    e ∈ (s.sarDone e).msr.sarDone := ⟨rfl, rfl, List.mem_append_right _ List.mem_cons_self⟩

theorem State.chan_sarDone (c : Nat) : (s.sarDone e).chan c = s.chan c :=
  congrArg (tblGet _ · c) s.msr_sarDone.1

/-- A result of an entry that has converted stands on its channel, and on no other. -/
theorem State.sarTaken_spec (u : State) (e : Nat) (v : Int) (inv : Bool) : let t := (u.result e v inv).sarDone e
    t.chan e = wN (b2n inv * 2 ^ 31 + ux 30 v) ∧ e ∈ t.msr.fresh ∧ e ∈ t.msr.sarDone ∧
      (∀ c, c ≠ e → t.chan c = u.chan c) ∧ t.tm = u.tm ∧ t.mem = u.mem := by
  have htm := State.tm_result (s := u) (c := e) (v := v) (inv := inv)
  have hmem := State.mem_result (s := u) (c := e) (v := v) (inv := inv)
  have hchan := State.chan_result_same (s := u) (c := e) (v := v) (inv := inv)
  have hother {c : Nat} (hc : c ≠ e) := State.chan_result_ne (s := u) (v := v) (inv := inv) hc
  have hfresh := State.mem_fresh_result (s := u) (c := e) (v := v) (inv := inv)
  generalize u.result e v inv = w at *
  obtain ⟨-, hkept, hdone⟩ := w.msr_sarDone (e := e)
  exact ⟨(w.chan_sarDone e).trans hchan, hkept ▸ hfresh, hdone, fun c hc => (w.chan_sarDone c).trans (hother hc),
    State.tm_sarDone.trans htm, State.mem_sarDone.trans hmem⟩

/-- A conversion gives its code less the offset on its channel, and nothing on another. -/
theorem State.sarResult_spec {t : State} (ht : t = s.sarResult e slot code) :
    t.chan e = wN (b2n (s.sarInvalid (decide (16 ≤ e))) * 2 ^ 31 + ux 30 (s.sarValue (decide (16 ≤ e)) code)) ∧
      e ∈ t.msr.fresh ∧ e ∈ t.msr.sarDone ∧ (∀ c, c ≠ e → t.chan c = s.chan c) ∧
      t.now = (s.advanceTo (s.sarSample slot + 5760)).now ∧ t.mem = s.mem := by
  rw [State.sarResult] at ht
  have hmsr := s.msr_advanceTo (s.sarSample slot + 5760)
  have hmem := s.mem_advanceTo (s.sarSample slot + 5760)
  generalize s.advanceTo (s.sarSample slot + 5760) = u at *
  obtain ⟨hchan, hfresh, hdone, hother, htm, hsame⟩ :=
    u.sarTaken_spec e (s.sarValue (decide (16 ≤ e)) code) (s.sarInvalid (decide (16 ≤ e)))
  rw [← ht] at hchan hfresh hdone hother htm hsame
  exact ⟨hchan, hfresh, hdone, fun c hc => (hother c hc).trans (State.chan_congr hmsr c), State.now_of_tm htm,
    hsame.trans hmem⟩

/-! ### The offset (11 R336) -/

theorem quot_of_dvd {n d : Int} (hd : d ≠ 0) (h : n % d = 0) (use : Nat) : quot n d use = n / d := by
  rw [quot, if_neg hd, if_pos h]

/-- The flag of a converter whose offset is out of range. -/
def offBad (b : Bool) : Field := if b then F.MSR_STATUS.OFFBAD_B else F.MSR_STATUS.OFFBAD_A

theorem offBad_addr (b : Bool) : (offBad b).addr = R.MSR_STATUS := by cases b <;> rfl

/-- The offset of a converter takes a value; VALID and the flag follow. -/
def State.offsetShown (s : State) (b : Bool) (v : Int) (n : Nat) : State :=
  ((s.setF (F.MSR_OFF.OFF (b2n b)) (ux 24 v)).setB (F.MSR_OFF.VALID (b2n b)) (decide (16 ≤ n))).setB (offBad b)
    (decide (65536 < absI v))

/-- The count of the offset conversions. -/
def State.offsetCounted (s : State) (b : Bool) (n : Nat) : State :=
  { s with msr := { s.msr with offN := tblSet (fun _ => (0 : Nat)) s.msr.offN (b2n b) (min 16 n) } }

theorem msrOff_ne_status (n : Nat) : R.MSR_OFF n ≠ R.MSR_STATUS := by
  unfold R.MSR_OFF R.MSR_STATUS
  omega

theorem State.offsetShown_spec {v : Int} (n : Nat) (hlo : -8388608 ≤ v) (hhi : v < 8388608) :
    (s.offsetShown b v n).sarOff b = v ∧ (s.offsetShown b v n).fb (F.MSR_OFF.VALID (b2n b)) = decide (16 ≤ n) ∧
      OnlyRegs [R.MSR_OFF (b2n b), R.MSR_STATUS] s (s.offsetShown b v n) := by
  have hne (x : Field) (hx : x.addr = R.MSR_OFF (b2n b)) : x.addr ≠ (offBad b).addr := by
    rw [hx, offBad_addr]
    exact msrOff_ne_status _
  have hv : sx 24 (ux 24 v) = v := sx_ux (by omega) (by omega)
  refine ⟨?_, ?_, ?_⟩
  · have hf : (s.offsetShown b v n).f (F.MSR_OFF.OFF (b2n b)) = ux 24 v :=
      (State.f_setB_apart _ _ _ _ (.inl (hne _ rfl))).trans <|
        (State.f_setB_apart _ _ _ _ (.inr (.inl (by decide : 23 < 31)))).trans <|
          (State.f_setF_same _ _ _ (by decide : 23 < 32)).trans (Nat.mod_eq_of_lt (ux_lt 24 v))
    rw [State.sarOff, hf, hv]
  · exact (State.fb_setB_apart _ _ _ _ (.inl (hne _ rfl))).trans (State.fb_setB_same _ _ _ rfl (by decide : 31 < 32))
  · refine .setB (.setB (.setF .refl List.mem_cons_self) List.mem_cons_self) ?_
    rw [offBad_addr]
    exact List.mem_cons_of_mem _ List.mem_cons_self

/-- The number of the offset conversion that ends. -/
def State.offsetCount (s : State) (b : Bool) : Nat := tblGet (fun _ => (0 : Nat)) s.msr.offN (b2n b) + 1

theorem State.offsetConversion_of_on {code : Int} (hon : s.sarOn b = true) : s.offsetConversion b code =
    ((s.advanceTo (s.boundary s.tm.k + s.sarSlots * 6400 + 5760)).offsetShown b
      (s.sarOff b + quot (256 * code - s.sarOff b) 16 1) (s.offsetCount b)).offsetCounted b (s.offsetCount b) := by
  have hoff (n : Nat) : (s.advanceTo n).sarOff b = s.sarOff b := congrArg (sx 24) (State.f_congr (s.regs_advanceTo n) _)
  have hcount (n : Nat) : (s.advanceTo n).offsetCount b = s.offsetCount b := by
    rw [State.offsetCount, State.offsetCount, State.msr_advanceTo]
  refine (if_pos hon).trans ?_
  rw [← hoff (s.boundary s.tm.k + s.sarSlots * 6400 + 5760), ← hcount (s.boundary s.tm.k + s.sarSlots * 6400 + 5760)]
  rfl

theorem State.offsetCounted_frame (n : Nat) : (s.offsetCounted b n).regs = s.regs ∧ (s.offsetCounted b n).mem = s.mem :=
  ⟨rfl, rfl⟩

/-- An offset conversion moves the offset by a sixteenth of its error. -/
theorem State.offsetConversion_spec {code : Int} (hon : s.sarOn b = true) (hdvd : (256 * code - s.sarOff b) % 16 = 0)
    (hlo : -8388608 ≤ s.sarOff b + (256 * code - s.sarOff b) / 16)
    (hhi : s.sarOff b + (256 * code - s.sarOff b) / 16 < 8388608) : let t := s.offsetConversion b code
    t.sarOff b = s.sarOff b + (256 * code - s.sarOff b) / 16 ∧
      t.fb (F.MSR_OFF.VALID (b2n b)) = decide (16 ≤ s.offsetCount b) ∧
      Touches [R.MSR_OFF (b2n b), R.MSR_STATUS] s t := by
  have hconv := State.offsetConversion_of_on (code := code) hon
  rw [quot_of_dvd (by decide) hdvd] at hconv
  rw [hconv]
  have hstart : Touches [R.MSR_OFF (b2n b), R.MSR_STATUS] s
      (s.advanceTo (s.boundary s.tm.k + s.sarSlots * 6400 + 5760)) :=
    Touches.refl.update (s.regs_advanceTo _) (s.mem_advanceTo _)
  generalize s.offsetCount b = n at *
  generalize s.sarOff b + (256 * code - s.sarOff b) / 16 = v at *
  generalize s.advanceTo (s.boundary s.tm.k + s.sarSlots * 6400 + 5760) = u at *
  obtain ⟨hoff, hvalid, hregs⟩ := u.offsetShown_spec (b := b) n hlo hhi
  generalize u.offsetShown b v n = w at *
  obtain ⟨hsame, hmem⟩ := w.offsetCounted_frame (b := b) n
  exact ⟨(congrArg (sx 24) (State.f_congr hsame _)).trans hoff, (State.fb_congr hsame _).trans hvalid,
    (hstart.trans hregs.touches).update hsame hmem⟩

end

/-! ## Sigma-delta inputs and comparators (11 R337 to R339) -/

section
variable {s : State} {i : Nat}

theorem ux_toInt {n : Nat} (v : BitVec n) : ux n v.toInt = v.toNat := by
  have hlt := v.isLt
  have hpos : 0 < 2 ^ n := Nat.two_pow_pos n
  have hv := BitVec.toInt_eq_toNat_cond v
  unfold ux
  split at hv
  · rw [hv, Int.emod_eq_of_lt (by omega) (by omega), Int.toNat_natCast]
  · rw [hv, ← Int.add_emod_right, Int.sub_add_cancel, Int.emod_eq_of_lt (by omega) (by omega), Int.toNat_natCast]

/-- The value and the flag of a result of 30 bits. -/
theorem resultWord_parts (inv : Bool) (v : BitVec 30) :
    (wN (b2n inv * 2 ^ 31 + ux 30 v.toInt)).extractLsb' 0 30 = v ∧
      bitAt (wN (b2n inv * 2 ^ 31 + ux 30 v.toInt)) 31 = inv := by
  have hlt := v.isLt
  have hb : b2n inv < 2 := by cases inv <;> decide
  rw [ux_toInt]
  refine ⟨BitVec.eq_of_toNat_eq ?_, ?_⟩
  · rw [BitVec.extractLsb'_toNat, wN, BitVec.toNat_ofNat, Nat.shiftRight_zero]
    omega
  · have hbit : b2n (bitAt (wN (b2n inv * 2 ^ 31 + v.toNat)) 31) = b2n inv := by
      rw [← fld_bit, fld_wN _ _ _ (by omega)]
      omega
    revert hbit
    cases bitAt (wN (b2n inv * 2 ^ 31 + v.toNat)) 31 <;> cases inv <;> decide

/-- An output of a filter is invalid: among its first 3, over a window of its clock, or stuck. -/
def State.sdInvalid (s : State) (i : Nat) (stuck : Bool) : Bool :=
  decide (tblGet (fun _ => (0 : Nat)) s.msr.sdN i < 3) || (s.mclk (s.f (F.MSR_SDCFG.CLK i))).windowEnd.isSome || stuck

/-- STUCK of an input follows. -/
def State.stuckShown (s : State) (i : Nat) (stuck : Bool) : State :=
  s.setReg R.MSR_STATUS (setFld (s.reg R.MSR_STATUS) (24 + i) (24 + i) (b2n stuck))

theorem State.stuckShown_spec {stuck : Bool} (hi : i < 8) : bitAt ((s.stuckShown i stuck).reg R.MSR_STATUS) (24 + i) = stuck ∧
    OnlyRegs [R.MSR_STATUS] s (s.stuckShown i stuck) := by
  refine ⟨?_, .setReg .refl List.mem_cons_self⟩
  rw [State.stuckShown, State.reg_setReg_same, bitAt_setFld_same _ _ _ (by omega), testBit_b2n]

/-- An output of a filter is counted and kept for the estimator. -/
def State.sdCounted (s : State) (i n : Nat) (o : SdOutput) : State :=
  { s with msr := { s.msr with sdN := tblSet (fun _ => (0 : Nat)) s.msr.sdN i (min 3 (n + 1)), sdOut := s.msr.sdOut ++ [o] } }

theorem State.sdCounted_spec (n : Nat) (o : SdOutput) : tblGet (fun _ => (0 : Nat)) (s.sdCounted i n o).msr.sdN i = min 3 (n + 1) ∧
    (s.sdCounted i n o).msr.cur = s.msr.cur ∧ (s.sdCounted i n o).regs = s.regs ∧ (s.sdCounted i n o).mem = s.mem :=
  ⟨tblGet_tblSet_same _ _ _ _, rfl, rfl, rfl⟩

theorem State.sigmaDeltaOutput_of_on {v : Int} {stuck : Bool} (hon : s.msrOn = true) (hsd : s.fb F.MSR_CTRL.SDEN = true)
    (hen : s.fb (F.MSR_SDCFG.EN i) = true) : ∃ o, s.sigmaDeltaOutput i v stuck =
      ((s.result (32 + i) v (s.sdInvalid i stuck)).stuckShown i stuck).sdCounted i
        (tblGet (fun _ => (0 : Nat)) s.msr.sdN i) o := ⟨_, if_pos (by simp [hon, hsd, hen])⟩

/-- CMPSTAT shows the output of a comparator. -/
def State.comparatorShown (s : State) (n : Nat) (out : Bool) : State :=
  s.setReg R.MSR_CMPSTAT (setFld (s.reg R.MSR_CMPSTAT) n n (b2n out))

theorem State.comparatorOutput_of_on {n : Nat} {out : Bool} (hon : s.msrOn = true) (hcmp : s.fb F.MSR_CTRL.CMPEN = true)
    (hen : s.fb (F.MSR_CMP.EN n) = true) (hat : tblGet (fun _ => (0 : Nat)) s.msr.cmpAt n = 0) :
    s.comparatorOutput n out =
      ((s.comparatorShown n out).result 60 ((s.comparatorShown n out).f F.MSR_CMPSTAT.OUT) false).showTrips :=
  if_pos (by simp [hon, hcmp, hen, hat])

theorem State.mem_showTrips : s.showTrips.mem = s.mem := rfl

theorem State.comparatorOutput_spec {n : Nat} {out : Bool} (hn : n < 8) (hon : s.msrOn = true)
    (hcmp : s.fb F.MSR_CTRL.CMPEN = true) (hen : s.fb (F.MSR_CMP.EN n) = true)
    (hat : tblGet (fun _ => (0 : Nat)) s.msr.cmpAt n = 0) : let t := s.comparatorOutput n out
    bitAt (t.reg R.MSR_CMPSTAT) n = out ∧ Touches [R.MSR_CMPSTAT, R.BRP_TRIPSTAT] s t := by
  have hset : OnlyRegs [R.MSR_CMPSTAT] s (s.comparatorShown n out) := .setReg .refl List.mem_cons_self
  have hbit : bitAt ((s.comparatorShown n out).reg R.MSR_CMPSTAT) n = out := by
    rw [State.comparatorShown, State.reg_setReg_same, bitAt_setFld_same _ _ _ (by omega), testBit_b2n]
  rw [State.comparatorOutput_of_on hon hcmp hen hat]
  generalize s.comparatorShown n out = u at *
  have hresult := State.regs_result (s := u) (c := 60) (v := (u.f F.MSR_CMPSTAT.OUT : Int)) (inv := false)
  have hmem := State.mem_result (s := u) (c := 60) (v := (u.f F.MSR_CMPSTAT.OUT : Int)) (inv := false)
  generalize u.result 60 (u.f F.MSR_CMPSTAT.OUT) false = w at *
  have hshow := w.sameRegsBut_showTrips
  refine ⟨?_, ⟨fun a ha => ?_, ?_⟩⟩
  · rw [hshow _ (by decide), State.reg_congr hresult]
    exact hbit
  · exact (hshow a fun h => ha (List.mem_cons_of_mem _ h)).trans <| (State.reg_congr hresult a).trans <|
      hset.2 a fun h => ha (List.mem_singleton.1 h ▸ List.mem_cons_self)
  · exact State.mem_showTrips.trans (hmem.trans hset.touches.mem)

/-- A new threshold counts from the next cycle. -/
def State.thresholdCounts (s : State) (n : Nat) : State :=
  { s with msr := { s.msr with cmpAt := tblSet (fun _ => (0 : Nat)) s.msr.cmpAt n (s.tm.refclk + 1) } }

theorem State.comparatorThreshold_of_on {n thr : Nat} (hon : s.on 11 = true) :
    s.comparatorThreshold n thr = (s.setF (F.MSR_CMP.THR n) thr).thresholdCounts n := if_pos hon

theorem State.thresholdCounts_spec (n : Nat) : tblGet (fun _ => (0 : Nat)) (s.thresholdCounts n).msr.cmpAt n = s.tm.refclk + 1 ∧
    (s.thresholdCounts n).regs = s.regs ∧ (s.thresholdCounts n).mem = s.mem := ⟨tblGet_tblSet_same _ _ _ _, rfl, rfl⟩

end

/-! ## Monitors (11 R340, R341) -/

section
variable {s : State}

/-- The rails take their states. -/
def State.railsSet (s : State) (m : Nat) : State := { s with msr := { s.msr with rails := m } }

theorem State.railsSet_spec (m : Nat) : (s.railsSet m).msr.rails = m ∧ (s.railsSet m).msr.cur = s.msr.cur ∧
    (s.railsSet m).regs = s.regs ∧ (s.railsSet m).mem = s.mem := ⟨rfl, rfl, rfl, rfl⟩

theorem State.supplyRail_of_live {rail mv : Nat} {out : Bool} (hlive : s.live = true) (hon : s.on 11 = true) :
    s.supplyRail rail mv out = (s.result (48 + rail) mv false).rose
      (((s.result (48 + rail) mv false).railsSet (putBit s.msr.rails rail out)).setB F.MSR_STATUS.SUPPLY
        (decide (putBit s.msr.rails rail out ≠ 0))) [24] := if_pos (by simp [hlive, hon])

theorem State.rails_result {c : Nat} {v : Int} {inv : Bool} : (s.result c v inv).msr.rails = s.msr.rails := rfl

theorem toNat_resultWord_mv {mv : Nat} (h : mv < 65536) : (wN (b2n false * 2 ^ 31 + ux 30 (mv : Int))).toNat = mv := by
  have hux : ux 30 (mv : Int) = mv := by
    unfold ux
    omega
  rw [resultWord_valid, hux, BitVec.toNat_ofNat]
  omega

/-- A rail's value stands on its channel, and its state in SUPPLY. -/
theorem State.supplyRail_spec {rail mv m : Nat} (hmv : mv < 65536) : let u := s.result (48 + rail) (mv : Int) false
    let v := (u.railsSet m).setB F.MSR_STATUS.SUPPLY (decide (m ≠ 0))
    v.msr.rails = m ∧ v.fb F.MSR_STATUS.SUPPLY = decide (v.msr.rails ≠ 0) ∧ (v.chan (48 + rail)).toNat = mv ∧
      Touches [R.MSR_STATUS] s v := by
  have hchan := State.chan_result_same (s := s) (c := 48 + rail) (v := (mv : Int)) (inv := false)
  have hregs := State.regs_result (s := s) (c := 48 + rail) (v := (mv : Int)) (inv := false)
  have hmem := State.mem_result (s := s) (c := 48 + rail) (v := (mv : Int)) (inv := false)
  generalize s.result (48 + rail) (mv : Int) false = u at *
  intro u' v
  obtain ⟨hrails, hcur, hsame, hsamem⟩ := u.railsSet_spec m
  generalize hw : u.railsSet m = w at *
  have hset : OnlyRegs [R.MSR_STATUS] w (w.setB F.MSR_STATUS.SUPPLY (decide (m ≠ 0))) := .setB .refl List.mem_cons_self
  have hv : v = w.setB F.MSR_STATUS.SUPPLY (decide (m ≠ 0)) := by rw [← hw]
  have hmsr : v.msr = w.msr := hv ▸ (congrArg State.msr hset.1 :)
  have hm : v.msr.rails = m := hmsr ▸ hrails
  have hword : v.chan (48 + rail) = u.chan (48 + rail) := by rw [State.chan, State.chan, hmsr, hcur]
  refine ⟨hm, ?_, ?_, ?_⟩
  · rw [hm, hv]
    exact State.fb_setB_same _ _ _ rfl (by decide)
  · rw [hword, hchan]
    exact toNat_resultWord_mv hmv
  · rw [hv]
    exact (Touches.refl.update (hsame.trans hregs) (hsamem.trans hmem)).trans hset.touches

/-! ### Junction temperatures (11 R341) -/

theorem State.junctionHigh_of_high {n : Nat} {q : Int} (hlive : s.live = true) (hon : s.on 11 = true)
    (h : sx 12 (s.f F.MSR_TJLIM.TJHI) ≤ q) :
    s.junctionHigh n q = s.rose ((s.result (56 + n) q false).setB F.MSR_STATUS.TJHI true) [25] :=
  (if_pos (by simp [hlive, hon])).trans (if_pos h)

theorem State.junctionHigh_of_lower {n : Nat} {q : Int} (hlive : s.live = true) (hon : s.on 11 = true)
    (h : q < sx 12 (s.f F.MSR_TJLIM.TJHI)) : s.junctionHigh n q = s.result (56 + n) q false :=
  (if_pos (by simp [hlive, hon])).trans (if_neg (Int.not_le.2 h))

/-- A write of TJHI alone. -/
theorem State.tjhi_spec {b : Bool} : (s.setB F.MSR_STATUS.TJHI b).fb F.MSR_STATUS.TJHI = b ∧
    (∀ c, (s.setB F.MSR_STATUS.TJHI b).chan c = s.chan c) ∧ OnlyRegs [R.MSR_STATUS] s (s.setB F.MSR_STATUS.TJHI b) := by
  have hset : OnlyRegs [R.MSR_STATUS] s (s.setB F.MSR_STATUS.TJHI b) := .setB .refl List.mem_cons_self
  exact ⟨State.fb_setB_same _ _ _ rfl (by decide), State.chan_congr (congrArg State.msr hset.1 :), hset⟩

/-- The results of the four sensors. -/
def State.junctionResults (s : State) (qs : Nat → Int) : State :=
  s.forAll (List.range 4) fun t n => t.result (56 + n) (qs n) false

theorem State.junctionResults_spec {qs : Nat → Int} :
    (∀ n, n < 4 → (s.junctionResults qs).chan (56 + n) = BitVec.ofNat 32 (ux 30 (qs n))) ∧
      (s.junctionResults qs).regs = s.regs ∧ (s.junctionResults qs).mem = s.mem := by
  refine ⟨fun n hn => ?_, ?_⟩
  · exact State.forAll_range_reads (op := fun t n => t.result (56 + n) (qs n) false) (read := fun t n => t.chan (56 + n))
      (v := fun n => BitVec.ofNat 32 (ux 30 (qs n)))
      (fun _ _ => State.chan_result_same.trans resultWord_valid) (fun _ _ _ hij _ => State.chan_result_ne (by omega)) hn
  · exact State.forAll_keeps (fun t => t.regs = s.regs ∧ t.mem = s.mem) _ _ s ⟨rfl, rfl⟩ fun t _ _ ht => ht

/-- Every sensor is 5 °C below TJHI. -/
def State.junctionLow (s : State) (qs : Nat → Int) : Prop := ∀ n, n < 4 → qs n + 20 ≤ sx 12 (s.f F.MSR_TJLIM.TJHI)

theorem State.junctionLow_iff {qs : Nat → Int} :
    ((List.range 4).all fun n => decide (qs n + 20 ≤ sx 12 (s.f F.MSR_TJLIM.TJHI))) = true ↔ s.junctionLow qs := by
  simp only [List.all_eq_true, List.mem_range, decide_eq_true_eq, State.junctionLow]

theorem State.junctionNormal_of_low {qs : Nat → Int} (hlive : s.live = true) (hon : s.on 11 = true) (h : s.junctionLow qs) :
    s.junctionNormal qs = (s.junctionResults qs).setB F.MSR_STATUS.TJHI false :=
  (if_pos (by simp [hlive, hon])).trans (if_pos (State.junctionLow_iff.2 h))

theorem State.junctionNormal_of_not_low {qs : Nat → Int} (hlive : s.live = true) (hon : s.on 11 = true)
    (h : ¬ s.junctionLow qs) : s.junctionNormal qs = s.junctionResults qs :=
  (if_pos (by simp [hlive, hon])).trans (if_neg fun hall => h (State.junctionLow_iff.1 hall))

end

/-! ## The latch of the results (11 R334) -/

section
variable {s : State}

/-- What MSR_RESc takes at the boundary. -/
def State.latchWord (s : State) (c : Nat) : Word := setFld (s.chan c) 30 30 (b2n (!s.msr.fresh.contains c))

theorem State.latchWord_bit {c i : Nat} (hi : i < 32) : (s.latchWord c).getLsbD i =
    if i = 30 then !s.msr.fresh.contains c else (s.chan c).getLsbD i := by
  rw [State.latchWord, getLsbD_setFld]
  by_cases h : i = 30
  · rw [if_pos (by omega), if_pos h, h, Nat.sub_self, testBit_b2n]
  · rw [if_neg (by omega), if_neg h]

/-- The result registers take their words. -/
def State.resultsLatched (s : State) : State :=
  s.forAll (List.range 64) fun t c => t.setReg (R.MSR_RES c) (s.latchWord c)

theorem State.resultsLatched_spec : (∀ c, c < 64 → s.resultsLatched.reg (R.MSR_RES c) = s.latchWord c) ∧
    s.resultsLatched.mem = s.mem := by
  refine ⟨fun c hc => ?_, ?_⟩
  · refine State.forAll_range_reads (op := fun t c => t.setReg (R.MSR_RES c) (s.latchWord c))
      (read := fun t c => t.reg (R.MSR_RES c)) (v := s.latchWord)
      (fun i _ => State.reg_setReg_same _ _ _) (fun t i j hij _ => State.reg_setReg_ne _ _ ?_) hc
    unfold R.MSR_RES
    omega
  · exact State.forAll_keeps (fun t => t.mem = s.mem) _ _ s rfl fun t _ _ ht => ht

/-- No result is new, and no entry has converted. -/
def State.resultsTaken (s : State) : State := { s with msr := { s.msr with fresh := [], sarDone := [] } }

theorem State.resultsTaken_spec : s.resultsTaken.msr.fresh = [] ∧ s.resultsTaken.msr.sarDone = [] ∧
    s.resultsTaken.regs = s.regs ∧ s.resultsTaken.mem = s.mem := ⟨rfl, rfl, rfl, rfl⟩

theorem State.resultLatch_of_on (hlive : s.live = true) (hon : s.on 11 = true) :
    s.resultLatch = s.resultsLatched.resultsTaken := if_pos (by simp [hlive, hon])

end

/-- Settles O37: every result is one update of its channel; the offset moves by a sixteenth of its error. -/
theorem measurementResultsAndMonitors : Obligations.MeasurementResultsAndMonitors := by
  refine ⟨fun s e code slot hon hplan hfirst => ?_, fun s b code hon hdvd hlo hhi => ?_,
    fun s i v stuck hon hsd hen => ?_, fun s n out hon hcmp hen hat => ?_, fun s n thr hon _ => ?_,
    fun s rail mv hlive hon => ?_, fun s n q hlive hon => ⟨fun h => ?_, fun h => ?_⟩, fun s qs hlive hon => ?_,
    fun s hlive hon => ?_⟩
  · have hconv := State.sarConversion_of_plan (code := code.toNat) hon hplan hfirst
    obtain ⟨hchan, hfresh, hdone, hother, hnow, hmem⟩ := State.sarResult_spec (s := s) (e := e) (code := code.toNat) (slot := slot) rfl
    have hregs := State.regs_sarResult (s := s) (e := e) (code := code.toNat) (slot := slot)
    generalize s.sarResult e slot code.toNat = t at *
    exact ⟨t, congrArg Host.Outcome.next hconv, hchan, hfresh, hdone, hother, hnow, State.reg_congr hregs,
      State.ldb_congr hmem⟩
  · obtain ⟨hoff, hvalid, hframe⟩ := State.offsetConversion_spec hon hdvd hlo hhi
    exact .intro rfl rfl ⟨hoff, hvalid, hframe.regs, hframe.sameMem⟩
  · obtain ⟨o, hout⟩ := State.sigmaDeltaOutput_of_on (v := v.toInt) (stuck := stuck) hon hsd hen
    have hchan := State.chan_result_same (s := s) (c := 32 + i.val) (v := v.toInt) (inv := s.sdInvalid i stuck)
    have hsame := State.regs_result (s := s) (c := 32 + i.val) (v := v.toInt) (inv := s.sdInvalid i stuck)
    have hmem := State.mem_result (s := s) (c := 32 + i.val) (v := v.toInt) (inv := s.sdInvalid i stuck)
    obtain ⟨hvalue, hinv⟩ := resultWord_parts (s.sdInvalid i stuck) v
    refine .intro rfl hout ?_
    generalize s.result (32 + i.val) v.toInt (s.sdInvalid i stuck) = u at *
    obtain ⟨hstuck, hregs⟩ := u.stuckShown_spec (stuck := stuck) i.isLt
    generalize u.stuckShown i stuck = w at *
    obtain ⟨hcount, hcur, hregs', hmem'⟩ := w.sdCounted_spec (i := i) (tblGet (fun _ => (0 : Nat)) s.msr.sdN i) o
    have hword : (w.sdCounted i (tblGet (fun _ => (0 : Nat)) s.msr.sdN i) o).chan (32 + i.val) = _ :=
      (congrArg (tblGet _ · (32 + i.val)) hcur).trans ((State.chan_congr (congrArg State.msr hregs.1 :) _).trans hchan)
    have hframe := ((State.Touches.refl.update hsame hmem).trans hregs.touches).update hregs' hmem'
    exact ⟨(congrArg _ hword).trans hvalue, (congrArg (bitAt · 31) hword).trans hinv, hcount,
      (congrArg (bitAt · _) (State.reg_congr hregs' _)).trans hstuck, hframe.regs, hframe.sameMem⟩
  · obtain ⟨hbit, hframe⟩ := State.comparatorOutput_spec (out := out) n.isLt hon hcmp hen hat
    exact .intro rfl rfl ⟨hbit, hframe.regs, hframe.sameMem⟩
  · have hread : (s.setF (F.MSR_CMP.THR n) thr.toNat).f (F.MSR_CMP.THR n) = thr.toNat :=
      (State.f_setF_same _ _ _ (by decide : 7 < 32)).trans (Nat.mod_eq_of_lt thr.isLt)
    have hset : OnlyRegs [R.MSR_CMP n] s (s.setF (F.MSR_CMP.THR n) thr.toNat) := .setF .refl List.mem_cons_self
    have htm : (s.setF (F.MSR_CMP.THR n) thr.toNat).tm = s.tm := (congrArg State.tm hset.1 :)
    refine .intro rfl (State.comparatorThreshold_of_on hon) ?_
    generalize s.setF (F.MSR_CMP.THR n) thr.toNat = u at *
    obtain ⟨hcount, hregs, hmem⟩ := u.thresholdCounts_spec n
    have hframe := hset.touches.update hregs hmem
    exact ⟨(State.f_congr hregs _).trans hread, hcount.trans (congrArg (TimeUnit.refclk · + 1) htm), hframe.regs,
      hframe.sameMem⟩
  · have hshows (out : Bool) := State.supplyRail_spec (s := s) (rail := rail) (m := putBit s.msr.rails rail out) mv.isLt
    have hrail (out : Bool) := State.supplyRail_of_live (rail := rail) (mv := mv.toNat) (out := out) hlive hon
    have hsame := State.regs_result (s := s) (c := 48 + rail.val) (v := (mv.toNat : Int)) (inv := false)
    have hrails := State.rails_result (s := s) (c := 48 + rail.val) (v := (mv.toNat : Int)) (inv := false)
    generalize s.result (48 + rail.val) (mv.toNat : Int) false = u at *
    obtain ⟨hst, hfst, hvt, hframet⟩ := hshows true
    obtain ⟨hsf, hfsf, hvf, hframef⟩ := hshows false
    exact ⟨⟨u, _, congrArg Host.Outcome.next (hrail true), hst, hfst, hvt, State.reg_congr hsame, hrails, hframet.regs,
      hframet.sameMem⟩, ⟨u, _, congrArg Host.Outcome.next (hrail false), hsf, hfsf, hvf, State.reg_congr hsame, hrails,
      hframef.regs, hframef.sameMem⟩⟩
  · have hchan := State.chan_result_same (s := s) (c := 56 + n.val) (v := q.toInt) (inv := false)
    have hsame := State.regs_result (s := s) (c := 56 + n.val) (v := q.toInt) (inv := false)
    have hmem := State.mem_result (s := s) (c := 56 + n.val) (v := q.toInt) (inv := false)
    have hhigh := State.junctionHigh_of_high (n := n) hlive hon h
    generalize s.result (56 + n.val) q.toInt false = u at *
    obtain ⟨hflag, hkept, hset⟩ := u.tjhi_spec (b := true)
    have hframe := (State.Touches.refl.update hsame hmem).trans hset.touches
    exact ⟨_, congrArg Host.Outcome.next hhigh, hflag, (hkept _).trans (hchan.trans resultWord_valid), hframe.regs,
      hframe.sameMem⟩
  · exact .intro rfl (State.junctionHigh_of_lower hlive hon h) ⟨State.chan_result_same.trans resultWord_valid,
      State.reg_congr State.regs_result, State.ldb_congr State.mem_result⟩
  · obtain ⟨hchan, hsame, hmem⟩ := s.junctionResults_spec (qs := fun n => (qs.extractLsb' (12 * n) 12).toInt)
    have hlow := State.junctionNormal_of_low (s := s) (qs := fun n => (qs.extractLsb' (12 * n) 12).toInt) hlive hon
    have hnot := State.junctionNormal_of_not_low (s := s) (qs := fun n => (qs.extractLsb' (12 * n) 12).toInt) hlive hon
    generalize s.junctionResults (fun n => (qs.extractLsb' (12 * n) 12).toInt) = u at *
    have hframe : State.Touches [R.MSR_STATUS] s u := State.Touches.refl.update hsame hmem
    by_cases h : s.junctionLow fun n => (qs.extractLsb' (12 * n) 12).toInt
    · obtain ⟨hflag, hkept, hset⟩ := u.tjhi_spec (b := false)
      have hframe := hframe.trans hset.touches
      exact .intro rfl (hlow h) ⟨fun _ => hflag, fun hn => absurd h hn, fun n hn => (hkept _).trans (hchan n hn),
        hframe.regs, hframe.sameMem⟩
    · exact .intro rfl (hnot h) ⟨fun hl => absurd hl h, fun _ => State.fb_congr hsame _, hchan, hframe.regs,
        hframe.sameMem⟩
  · intro t
    have ht : t = s.resultsLatched.resultsTaken := State.resultLatch_of_on hlive hon
    obtain ⟨hread, hmem⟩ := s.resultsLatched_spec
    obtain ⟨hfresh, hdone, hregs, hmem'⟩ := s.resultsLatched.resultsTaken_spec
    rw [← ht] at hfresh hdone hregs hmem'
    refine ⟨fun c hc i hi => ?_, hfresh, hdone, State.ldb_congr (hmem'.trans hmem)⟩
    rw [State.reg_congr hregs, hread c hc]
    exact State.latchWord_bit hi

end Sys2Proof.Machine

/-! Safety demands and the SF1 stop (13 R376, R378, R380 to R382, R388, R389). First what a stop and a demand leave, then
each part of the stop by what it establishes. -/

namespace Sys2Proof.Machine

/-! ## What a demand and a stop leave -/

/-- The registers that SF1 may write: those of the Cell Scheduler, the links, the bridge and the measurement. -/
def actWrites (a : Nat) : Prop := R.CS_CMDSTAT ≤ a

/-- The registers that a demand may write after its words: the lost records, and those above SFU_FRCNT. -/
def stopWrites (a : Nat) : Prop := a = R.FCU_LDGLOST ∨ R.SFU_FRCNT < a

/-- The registers that a demand writes before it stops: its words, the lost records and the pulse tests. -/
def demandWrites (a : Nat) : Prop :=
  a = R.SFU_STATUS ∨ a = R.SFU_CAUSE ∨ a = R.FCU_LDGLOST ∨ (R.SFU_FRCNT < a ∧ a < R.LNK_CTRL)

/-- From `s` to `t` stack time, the processors, the reset, the live sources, T_deg and a requalification stay, and every
register outside `w`. -/
structure State.Halts (w : Nat → Prop) (s t : State) : Prop where
  regs : ∀ a, ¬ w a → t.reg a = s.reg a
  tm : t.tm = s.tm
  procs : t.procs = s.procs
  pwr : t.pwr = s.pwr
  live : t.sfu.live = s.sfu.live
  tdeg : (t.sfu.tdegEnd, t.sfu.tdegExp, t.sfu.requal) = (s.sfu.tdegEnd, s.sfu.tdegExp, s.sfu.requal)

section
variable {w : Nat → Prop} {s₀ s t : State}

theorem State.Halts.refl : Halts w s s := ⟨fun _ _ => rfl, rfl, rfl, rfl, rfl, rfl⟩

theorem State.Halts.trans (h : Halts w s₀ s) (h' : Halts w s t) : Halts w s₀ t :=
  ⟨fun a ha => (h'.regs a ha).trans (h.regs a ha), h'.tm.trans h.tm, h'.procs.trans h.procs, h'.pwr.trans h.pwr,
    h'.live.trans h.live, h'.tdeg.trans h.tdeg⟩

theorem State.Halts.mono {v : Nat → Prop} (h : Halts v s t) (hv : ∀ a, v a → w a) : Halts w s t :=
  ⟨fun a ha => h.regs a fun hva => ha (hv a hva), h.tm, h.procs, h.pwr, h.live, h.tdeg⟩

theorem State.Halts.update (h : Halts w s₀ s) (hregs : t.regs = s.regs) (htm : t.tm = s.tm) (hprocs : t.procs = s.procs)
    (hpwr : t.pwr = s.pwr) (hlive : t.sfu.live = s.sfu.live)
    (htdeg : (t.sfu.tdegEnd, t.sfu.tdegExp, t.sfu.requal) = (s.sfu.tdegEnd, s.sfu.tdegExp, s.sfu.requal)) : Halts w s₀ t :=
  h.trans ⟨fun a _ => State.reg_congr hregs a, htm, hprocs, hpwr, hlive, htdeg⟩

theorem State.Halts.setReg {a : Nat} {v : Word} (h : Halts w s₀ s) (ha : w a) : Halts w s₀ (s.setReg a v) :=
  h.trans ⟨fun _ hb => State.reg_setReg_ne _ _ fun hab => hb (hab ▸ ha), rfl, rfl, rfl, rfl, rfl⟩

theorem State.Halts.setF {x : Field} {n : Nat} (h : Halts w s₀ s) (hx : w x.addr) : Halts w s₀ (s.setF x n) := h.setReg hx

theorem State.Halts.setB {x : Field} {b : Bool} (h : Halts w s₀ s) (hx : w x.addr) : Halts w s₀ (s.setB x b) := h.setReg hx

theorem State.Halts.incF {x : Field} {d : Nat} (h : Halts w s₀ s) (hx : w x.addr) : Halts w s₀ (s.incF x d) := h.setReg hx

theorem State.Halts.ite {c : Prop} [Decidable c] (hs : Halts w s₀ s) (ht : Halts w s₀ t) :
    Halts w s₀ (if c then s else t) := by
  split
  · exact hs
  · exact ht

theorem State.Halts.forAll {α : Type} {xs : List α} {f : State → α → State} (h : Halts w s₀ s)
    (hf : ∀ u x, x ∈ xs → Halts w s₀ u → Halts w s₀ (f u x)) : Halts w s₀ (s.forAll xs f) :=
  State.forAll_keeps _ xs f s h hf

theorem State.Halts.note {block code data : Nat} (h : Halts w s₀ s) (hl : w R.FCU_LDGLOST) :
    Halts w s₀ (s.note block code data) := .ite (.ite (h.update rfl rfl rfl rfl rfl rfl) (h.incF hl)) h

theorem State.Halts.on (h : Halts w s t) (hw : ¬ w R.SYSC_PSTAT) (d : Nat) : t.on d = s.on d := by
  rw [State.on, State.on, h.regs _ hw]

theorem State.Halts.f {x : Field} (h : Halts w s t) (hw : ¬ w x.addr) : t.f x = s.f x := by
  rw [State.f, State.f, h.regs _ hw]

theorem State.Halts.fb {x : Field} (h : Halts w s t) (hw : ¬ w x.addr) : t.fb x = s.fb x := by
  rw [State.fb, State.fb, h.regs _ hw]

/-! ### The parts of a stop -/

theorem actWrites_le {a : Nat} (h : R.CS_CMDSTAT ≤ a) : actWrites a := h

theorem actWrites_brpStat (c : Nat) : actWrites (R.BRP_STAT c) := by unfold actWrites R.CS_CMDSTAT R.BRP_STAT; omega
theorem actWrites_brpCarry (c : Nat) : actWrites (R.BRP_CARRY c) := by unfold actWrites R.CS_CMDSTAT R.BRP_CARRY; omega
theorem actWrites_lnkCmd (i : Nat) : actWrites (R.LNK_CMD i) := by unfold actWrites R.CS_CMDSTAT R.LNK_CMD; omega

theorem State.Halts.gateNow {c : Nat} {hi on : Bool} (h : Halts actWrites s₀ s) :
    Halts actWrites s₀ (s.gateNow c hi on) := by
  unfold State.gateNow
  extract_lets x n y z t
  have ht : Halts actWrites s₀ t := h.update rfl rfl rfl rfl rfl rfl
  refine .ite h <| .ite ?_ ht
  have hblank : Halts actWrites s₀ (t.forAll ((List.range 8).filter fun i => t.fb (F.BRP_TRIP.TMREN i) &&
      decide (t.f (F.BRP_TRIP.TMR i) = c)) fun u i => u.setBlank i (some (u.now + u.f (F.BRP_TRIP.BLANK i)))) :=
    .forAll ht fun _ _ _ hu => hu.update rfl rfl rfl rfl rfl rfl
  exact (hblank.setF (actWrites_le (by decide))).setF (actWrites_le (by decide))

theorem State.Halts.gatesOff {c : Nat} {drop : Bool} (h : Halts actWrites s₀ s) :
    Halts actWrites s₀ (s.gatesOff c drop) := by
  unfold State.gatesOff
  extract_lets t
  have ht : Halts actWrites s₀ t := h.gateNow.gateNow
  exact .ite (ht.update rfl rfl rfl rfl rfl rfl) ht

theorem State.Halts.gqAbort {c : Nat} (h : Halts actWrites s₀ s) : Halts actWrites s₀ (s.gqAbort c) := by
  unfold State.gqAbort
  split
  · refine .ite (.update (.gatesOff ?_) rfl rfl rfl rfl rfl rfl) h
    exact ((h.setB (actWrites_le (by decide))).setF (actWrites_le (by decide))).setB (actWrites_le (by decide))
  · exact h

end

/-! ## The hard stop of the bridge port (13 R378) -/

section
variable {s t : State} {c : Nat}

/-- What a stopped channel shows: SAFEHOLD, and neither RUN, STOPPING nor PENDEN. -/
def State.Held (t : State) (c : Nat) : Prop :=
  t.fb (F.BRP_STAT.SAFEHOLD c) = true ∧ t.fb (F.BRP_STAT.RUN c) = false ∧ t.fb (F.BRP_STAT.STOPPING c) = false ∧
    t.fb (F.BRP_STAT.PENDEN c) = false

theorem State.Held.congr (h : t.reg (R.BRP_STAT c) = s.reg (R.BRP_STAT c)) (hs : s.Held c) : t.Held c := by
  simp only [State.Held, State.fb] at hs ⊢
  rwa [show t.reg (F.BRP_STAT.SAFEHOLD c).addr = _ from h, show t.reg (F.BRP_STAT.RUN c).addr = _ from h,
    show t.reg (F.BRP_STAT.STOPPING c).addr = _ from h, show t.reg (F.BRP_STAT.PENDEN c).addr = _ from h]

/-- The words of a stop on channel c. -/
def State.stopShown (s : State) (c : Nat) : State :=
  ((((s.setB (F.BRP_STAT.RUN c) false).setB (F.BRP_STAT.STOPPING c) false).setB (F.BRP_STAT.PENDEN c) false).setB
    (F.BRP_STAT.FORCED c) false).setB (F.BRP_STAT.SAFEHOLD c) true

theorem State.stopShown_spec : (s.stopShown c).Held c ∧ OnlyRegs [R.BRP_STAT c] s (s.stopShown c) := by
  refine ⟨⟨State.fb_setB_same _ _ _ rfl (by decide : 27 < 32), ?_, ?_, ?_⟩, .setB (.setB (.setB (.setB (.setB .refl
    List.mem_cons_self) List.mem_cons_self) List.mem_cons_self) List.mem_cons_self) List.mem_cons_self⟩
  · exact (State.fb_setB_apart _ _ _ _ (.inr (.inr (by decide : 27 < 31)))).trans <|
      (State.fb_setB_apart _ _ _ _ (.inr (.inr (by decide : 28 < 31)))).trans <|
        (State.fb_setB_apart _ _ _ _ (.inr (.inr (by decide : 29 < 31)))).trans <|
          (State.fb_setB_apart _ _ _ _ (.inr (.inr (by decide : 30 < 31)))).trans <|
            State.fb_setB_same _ _ _ rfl (by decide : 31 < 32)
  · exact (State.fb_setB_apart _ _ _ _ (.inr (.inr (by decide : 27 < 30)))).trans <|
      (State.fb_setB_apart _ _ _ _ (.inr (.inr (by decide : 28 < 30)))).trans <|
        (State.fb_setB_apart _ _ _ _ (.inr (.inr (by decide : 29 < 30)))).trans <|
          State.fb_setB_same _ _ _ rfl (by decide : 30 < 32)
  · exact (State.fb_setB_apart _ _ _ _ (.inr (.inr (by decide : 27 < 29)))).trans <|
      (State.fb_setB_apart _ _ _ _ (.inr (.inr (by decide : 28 < 29)))).trans <|
        State.fb_setB_same _ _ _ rfl (by decide : 29 < 32)

/-- Both gates of a channel are off and its carry is 0. -/
def State.gatesDropped (s : State) (c : Nat) : State := ((s.gqAbort c).gatesOff c true).carryZero c

/-- A channel stops hard, with SAFEHOLD. -/
def State.channelStopped (s : State) (c : Nat) : State :=
  ((s.gatesDropped c).stopShown c).modBrpCh c fun x => { x with bnd := none, softEnd := none, rel := false }

theorem State.regs_modBrpCh (f : BrpChan → BrpChan) : (s.modBrpCh c f).regs = s.regs := rfl

theorem State.reg_channelStopped (a : Nat) : (s.channelStopped c).reg a = ((s.gatesDropped c).stopShown c).reg a :=
  State.reg_congr (State.regs_modBrpCh _) a

theorem State.held_channelStopped : (s.channelStopped c).Held c := .congr (State.reg_channelStopped _) State.stopShown_spec.1

theorem State.reg_gqAbort (d : Nat) : (s.gqAbort c).reg (R.BRP_STAT d) = s.reg (R.BRP_STAT d) := by
  have hne : R.BRP_STAT d ∉ [R.MSR_GQRES, R.MSR_STATUS] := by
    simp only [List.mem_cons, List.not_mem_nil, or_false, not_or]
    unfold R.BRP_STAT R.MSR_GQRES R.MSR_STATUS
    omega
  unfold State.gqAbort
  split
  · next n b _ =>
    split
    · have hset : SameRegsBut [R.MSR_GQRES, R.MSR_STATUS] s
          (((s.setB F.MSR_GQRES.BUSY false).setF F.MSR_GQRES.RES 4).setB F.MSR_STATUS.GQDONE true) :=
        .setB (.setF (.setB (.ofRegs rfl) (by decide)) (by decide)) (by decide)
      exact (State.OnChannel.reg_brpStat (State.gatesOff_spec _ c true).1 d).trans (hset _ hne)
    · rfl
  · rfl

/-- A stop of channel c leaves what another channel shows. -/
theorem State.reg_channelStopped_ne {d : Nat} (h : d ≠ c) :
    (s.channelStopped c).reg (R.BRP_STAT d) = s.reg (R.BRP_STAT d) := by
  have hstat : R.BRP_STAT d ≠ R.BRP_STAT c := by
    unfold R.BRP_STAT
    omega
  have hcarry : R.BRP_STAT d ≠ R.BRP_CARRY c := by
    unfold R.BRP_STAT R.BRP_CARRY
    omega
  exact (State.reg_channelStopped _).trans <| (State.stopShown_spec.2.2 _ fun hd => hstat (List.mem_singleton.1 hd)).trans <|
    (State.reg_setReg_ne _ _ hcarry).trans <| (State.OnChannel.reg_brpStat (State.gatesOff_spec _ c true).1 d).trans <|
      State.reg_gqAbort d

theorem State.hardStop_of_on (hon : s.on 11 = true) : s.hardStop true = s.forAll (List.range 8) State.channelStopped :=
  if_pos hon

theorem State.hardStop_of_off {b : Bool} (hoff : s.on 11 = false) : s.hardStop b = s := if_neg (by simp [hoff])

/-- After a hard stop every channel shows it. -/
theorem State.held_hardStop (hon : s.on 11 = true) {c : Nat} (hc : c < 8) : (s.hardStop true).Held c := by
  rw [State.hardStop_of_on hon]
  have h := State.forAll_range_reads (s := s) (op := State.channelStopped) (read := fun t c => (t.Held c : Prop))
    (v := fun _ => True) (n := 8) (fun i _ => eq_true State.held_channelStopped)
    (fun t i j hij _ => propext ⟨.congr (State.reg_channelStopped_ne (Nat.ne_of_lt hij)).symm,
      .congr (State.reg_channelStopped_ne (Nat.ne_of_lt hij))⟩) hc
  exact of_eq_true h

/-! ### The ports during a stop -/

theorem State.lnk_openWindows : (s.openWindows c).lnk = s.lnk :=
  State.forAll_keeps (fun u => u.lnk = s.lnk) ((List.range 8).filter fun i => s.fb (F.BRP_TRIP.TMREN i) &&
    decide (s.f (F.BRP_TRIP.TMR i) = c)) (fun u i => u.setBlank i (some (u.now + u.f (F.BRP_TRIP.BLANK i)))) s rfl
    fun _ _ _ hu => hu

theorem State.lnk_gateNow {hi on : Bool} : (s.gateNow c hi on).lnk = s.lnk := by
  unfold State.gateNow
  extract_lets x n y z t
  have hopen : (if t.brpRun c then t.openWindows c else t).lnk = s.lnk := by
    split
    · exact State.lnk_openWindows
    · rfl
  by_cases hsame : (if hi then x.ho else x.lo) = on
  · rw [if_pos hsame]
  · rwa [if_neg hsame]

theorem State.lnk_gatesOff {drop : Bool} : (s.gatesOff c drop).lnk = s.lnk := by
  have h : ((s.gateNow c true false).gateNow c false false).lnk = s.lnk := State.lnk_gateNow.trans State.lnk_gateNow
  unfold State.gatesOff
  split
  · exact h
  · exact h

theorem State.lnk_gqAbort : (s.gqAbort c).lnk = s.lnk := by
  unfold State.gqAbort
  split
  · split
    · exact State.lnk_gatesOff
    · rfl
  · rfl

theorem State.lnk_modBrpCh (f : BrpChan → BrpChan) : (s.modBrpCh c f).lnk = s.lnk := rfl

theorem State.lnk_channelStopped : (s.channelStopped c).lnk = s.lnk :=
  (State.lnk_modBrpCh _).trans <| (congrArg State.lnk State.stopShown_spec.2.1 :).trans <|
    State.lnk_gatesOff.trans State.lnk_gqAbort

theorem State.lnk_hardStop : (s.hardStop true).lnk = s.lnk := by
  cases hon : s.on 11
  · rw [State.hardStop_of_off hon]
  · rw [State.hardStop_of_on hon]
    exact State.forAll_keeps (fun u => u.lnk = s.lnk) _ _ s rfl fun _ _ _ hu => State.lnk_channelStopped.trans hu

theorem State.Halts.stopShown {s₀ : State} (h : Halts actWrites s₀ s) : Halts actWrites s₀ (s.stopShown c) := by
  have hw : actWrites (R.BRP_STAT c) := actWrites_brpStat c
  exact ((((h.setB hw).setB hw).setB hw).setB hw).setB hw

theorem State.Halts.modBrpCh {s₀ : State} {f : BrpChan → BrpChan} (h : Halts actWrites s₀ s) :
    Halts actWrites s₀ (s.modBrpCh c f) := h.update rfl rfl rfl rfl rfl rfl

theorem State.Halts.hardStop {s₀ : State} (h : Halts actWrites s₀ s) : Halts actWrites s₀ (s.hardStop true) := by
  cases hon : s.on 11
  · rwa [State.hardStop_of_off hon]
  · rw [State.hardStop_of_on hon]
    exact .forAll h fun u c _ hu =>
      .modBrpCh (.stopShown (hu.gqAbort.gatesOff.setReg (actWrites_brpCarry c)))

end

/-! ## What waits is discarded (13 R378) -/

section
variable {s t : State} {i : Nat}

/-- No pending return of a context stands. -/
def State.returnsDropped (s : State) : State :=
  if s.on 6 then s.forAll (ctxIdx.filter s.pendRet) fun x i => x.setCtxF i 0 7 7 0 else s

/-- No command of the Cell Scheduler waits. -/
def State.commandDropped (s : State) : State :=
  if s.on 6 then { (s.setB F.CS_CMDSTAT.BUSY false) with cs := { s.cs with cmd := none } } else s

/-- No link command of a port waits. -/
def State.portDropped (s : State) (i : Nat) : State :=
  (s.setB (F.LNK_CMD.PEND i) false).modPort i fun p => { p with cmds := p.cmds.filter fun l => !(l.any (·.lnkCmd)) }

/-- No link command waits. -/
def State.linksDropped (s : State) : State :=
  s.forAll (ctxIdx.filter fun i => s.fb (F.LNK_CMD.PEND i)) State.portDropped

theorem State.sf1Act_parts : s.sf1Act = (s.stopRequest.hardStop true).returnsDropped.commandDropped.linksDropped := rfl

/-! ### The pending returns -/

theorem State.pendRet_setCtxF_ne {j : Nat} (h : i ≠ j) : (s.setCtxF j 0 7 7 0).pendRet i = s.pendRet i :=
  State.pendRet_congr i (State.ctx_setCtx_other s _ h (by decide) (by decide))

theorem State.pendRet_forAll_clear (l : List Nat) (i : Nat) :
    (s.forAll l fun x i => x.setCtxF i 0 7 7 0).pendRet i = (!decide (i ∈ l) && s.pendRet i) := by
  induction l generalizing s with
  | nil => simp [State.forAll]
  | cons j l ih =>
    refine (ih (s := s.setCtxF j 0 7 7 0)).trans ?_
    by_cases hj : i = j
    · subst hj
      simp
    · simp [State.pendRet_setCtxF_ne hj, hj]

theorem State.returnsDropped_spec (hon : s.on 6 = true) (hi : i ∈ ctxIdx) : s.returnsDropped.pendRet i = false := by
  rw [State.returnsDropped, if_pos hon, State.pendRet_forAll_clear]
  by_cases h : s.pendRet i = true
  · simp [hi, h]
  · simp [h]

theorem State.returnsDropped_frame : s.returnsDropped.regs = s.regs ∧ s.returnsDropped.lnk = s.lnk := by
  unfold State.returnsDropped
  split
  · exact State.forAll_keeps (fun t => t.regs = s.regs ∧ t.lnk = s.lnk) _ _ s ⟨rfl, rfl⟩ fun t _ _ ht => ht
  · exact ⟨rfl, rfl⟩

/-! ### The command -/

theorem State.commandDropped_spec (hon : s.on 6 = true) : s.commandDropped.cs.cmd = none ∧
    s.commandDropped.fb F.CS_CMDSTAT.BUSY = false := by
  rw [State.commandDropped, if_pos hon]
  exact ⟨rfl, State.fb_setB_same s _ false rfl (by decide)⟩

theorem State.commandDropped_frame : SameRegsBut [R.CS_CMDSTAT] s s.commandDropped ∧ s.commandDropped.mem = s.mem ∧
    s.commandDropped.lnk = s.lnk := by
  unfold State.commandDropped
  split
  · exact ⟨(SameRegsBut.ofRegs (s := s) rfl).setB (x := F.CS_CMDSTAT.BUSY) (b := false) List.mem_cons_self, rfl, rfl⟩
  · exact ⟨fun _ _ => rfl, rfl, rfl⟩

/-! ### The link commands -/

theorem State.pend_portDropped : (s.portDropped i).fb (F.LNK_CMD.PEND i) = false :=
  (State.fb_congr (t := s.portDropped i) (u := s.setB (F.LNK_CMD.PEND i) false) rfl _).trans
    (State.fb_setB_same _ _ _ rfl (by decide : 31 < 32))

theorem State.reg_portDropped {a : Nat} (h : a ≠ R.LNK_CMD i) : (s.portDropped i).reg a = s.reg a :=
  State.reg_setReg_ne _ _ h

theorem State.pend_portDropped_ne {j : Nat} (h : i ≠ j) :
    (s.portDropped j).fb (F.LNK_CMD.PEND i) = s.fb (F.LNK_CMD.PEND i) := by
  have hne : R.LNK_CMD i ≠ R.LNK_CMD j := by
    unfold R.LNK_CMD
    omega
  exact congrArg (bitAt · 31) (State.reg_portDropped hne)

theorem State.pend_forAll_portDropped (l : List Nat) (i : Nat) :
    (s.forAll l State.portDropped).fb (F.LNK_CMD.PEND i) = (!decide (i ∈ l) && s.fb (F.LNK_CMD.PEND i)) := by
  induction l generalizing s with
  | nil => simp [State.forAll]
  | cons j l ih =>
    refine (ih (s := s.portDropped j)).trans ?_
    by_cases hj : i = j
    · subst hj
      simp [State.pend_portDropped]
    · simp [State.pend_portDropped_ne hj, hj]

theorem State.stops_portDropped (j : Nat) : ((s.portDropped i).port j).stops = (s.port j).stops := by
  unfold State.portDropped
  by_cases hj : j = i
  · subst hj
    rw [State.port_modPort_same]
    rfl
  · rw [State.port_modPort_ne _ _ _ hj]
    rfl

theorem State.linksDropped_spec : (∀ i ∈ ctxIdx, s.linksDropped.fb (F.LNK_CMD.PEND i) = false) ∧
    (∀ j, (s.linksDropped.port j).stops = (s.port j).stops) ∧
    (∀ a, (∀ i, a ≠ R.LNK_CMD i) → s.linksDropped.reg a = s.reg a) ∧ s.linksDropped.mem = s.mem ∧
    s.linksDropped.cs = s.cs := by
  refine ⟨fun i hi => ?_, fun j => ?_, fun a ha => ?_, ?_⟩
  · rw [State.linksDropped, State.pend_forAll_portDropped]
    by_cases h : s.fb (F.LNK_CMD.PEND i) = true
    · simp [hi, h]
    · simp [h]
  · exact State.forAll_keeps (fun t => (t.port j).stops = (s.port j).stops) _ _ s rfl fun _ _ _ ht =>
      (State.stops_portDropped j).trans ht
  · exact State.forAll_keeps (fun t => t.reg a = s.reg a) _ _ s rfl fun _ i _ ht => (State.reg_portDropped (ha i)).trans ht
  · exact State.forAll_keeps (fun t => t.mem = s.mem ∧ t.cs = s.cs) _ _ s ⟨rfl, rfl⟩ fun _ _ _ ht => ht

end

/-! ## SF1 as a whole (13 R378) -/

section
variable {s₀ s : State}

theorem State.Halts.stopRequest {w : Nat → Prop} (h : Halts w s₀ s) : Halts w s₀ s.stopRequest :=
  .forAll h fun _ _ _ hu => hu.update rfl rfl rfl rfl rfl rfl

theorem State.Halts.returnsDropped {w : Nat → Prop} (h : Halts w s₀ s) : Halts w s₀ s.returnsDropped :=
  .ite (.forAll h fun _ _ _ hu => hu.update rfl rfl rfl rfl rfl rfl) h

theorem State.Halts.commandDropped (h : Halts actWrites s₀ s) : Halts actWrites s₀ s.commandDropped :=
  .ite (.update (h.setB (actWrites_le (by decide))) rfl rfl rfl rfl rfl rfl) h

theorem State.Halts.linksDropped (h : Halts actWrites s₀ s) : Halts actWrites s₀ s.linksDropped :=
  .forAll h fun _ i _ hu => .update (hu.setB (actWrites_lnkCmd i)) rfl rfl rfl rfl rfl rfl

theorem State.Halts.sf1Act (h : Halts actWrites s₀ s) : Halts actWrites s₀ s.sf1Act :=
  h.stopRequest.hardStop.returnsDropped.commandDropped.linksDropped

theorem brpStat_ne_lnkCmd (c i : Nat) : R.BRP_STAT c ≠ R.LNK_CMD i := by
  unfold R.BRP_STAT R.LNK_CMD
  omega

theorem pstat_not_actWrites : ¬ actWrites R.SYSC_PSTAT := by
  unfold actWrites
  decide

theorem stopWrites_of_act {a : Nat} (h : actWrites a) : stopWrites a := .inr (Nat.lt_of_lt_of_le (by decide) h)

theorem cmdstat_ne_lnkCmd (i : Nat) : R.CS_CMDSTAT ≠ R.LNK_CMD i := by
  unfold R.CS_CMDSTAT R.LNK_CMD
  omega

/-- What SF1 discards: the waiting command, the pending returns. -/
structure State.Discarded (t : State) : Prop where
  command : t.cs.cmd = none
  busy : t.fb F.CS_CMDSTAT.BUSY = false
  returns : ∀ i ∈ ctxIdx, t.pendRet i = false

/-- After the ports are asked and the bridge is stopped, what waits is discarded and the rest of the stop is kept. -/
theorem State.discards_spec : let t := s.returnsDropped.commandDropped.linksDropped
    (s.on 6 = true → t.Discarded) ∧ (∀ i ∈ ctxIdx, t.fb (F.LNK_CMD.PEND i) = false) ∧
      (∀ i, (t.port i).stops = (s.port i).stops) ∧ ∀ c, t.reg (R.BRP_STAT c) = s.reg (R.BRP_STAT c) := by
  obtain ⟨hregs₁, hlnk₁⟩ := s.returnsDropped_frame
  have hret {i : Nat} (hon : s.on 6 = true) (hi : i ∈ ctxIdx) : s.returnsDropped.pendRet i = false :=
    State.returnsDropped_spec hon hi
  generalize s.returnsDropped = u at *
  obtain ⟨hregs₂, hmem₂, hlnk₂⟩ := u.commandDropped_frame
  have hcmd (hon : u.on 6 = true) := State.commandDropped_spec hon
  generalize u.commandDropped = v at *
  obtain ⟨hpend, hstops, hregs₃, hmem₃, hcs₃⟩ := v.linksDropped_spec
  refine ⟨fun hon => ⟨?_, ?_, fun i hi => ?_⟩, hpend, fun i => ?_, fun c => ?_⟩
  · rw [hcs₃]
    exact (hcmd ((State.on_congr hregs₁ 6).trans hon)).1
  · have hbusy := (hcmd ((State.on_congr hregs₁ 6).trans hon)).2
    exact (congrArg (bitAt · 31) (hregs₃ R.CS_CMDSTAT cmdstat_ne_lnkCmd)).trans hbusy
  · exact (State.pendRet_congr i (State.ctx_congr (hmem₃.trans hmem₂) i 0)).trans (hret hon hi)
  · rw [hstops, State.port_congr i (hlnk₂.trans hlnk₁)]
  · have hne : R.BRP_STAT c ∉ [R.CS_CMDSTAT] := by
      rw [List.mem_singleton]
      unfold R.BRP_STAT R.CS_CMDSTAT
      omega
    rw [hregs₃ _ (brpStat_ne_lnkCmd c), hregs₂ _ hne, State.reg_congr hregs₁]

/-- SF1 stops what drives, and discards what waits. -/
theorem State.sf1Act_spec : (s.on 11 = true → ∀ c, c < 8 → s.sf1Act.Held c) ∧ (s.on 6 = true → s.sf1Act.Discarded) ∧
    ∀ i ∈ ctxIdx, s.sf1Act.fb (F.LNK_CMD.PEND i) = false ∧ (s.portOn i = true → (s.sf1Act.port i).stops = 2) := by
  have hstops (i : Nat) : (s.stopRequest.port i).stops = if i ∈ ctxIdx.filter s.portOn then 2 else (s.port i).stops :=
    s.stops_forAll_stopAsked _ i
  have hask : Halts actWrites s s.stopRequest := Halts.refl.stopRequest
  have hon := hask.on pstat_not_actWrites
  rw [State.sf1Act_parts]
  generalize s.stopRequest = u at *
  have hhard : Halts actWrites u (u.hardStop true) := Halts.refl.hardStop
  have hlnk := u.lnk_hardStop
  have hheld {c : Nat} (h11 : u.on 11 = true) (hc : c < 8) : (u.hardStop true).Held c := State.held_hardStop h11 hc
  generalize u.hardStop true = v at *
  obtain ⟨hdisc, hpend, hkept, hstat⟩ := v.discards_spec
  refine ⟨fun h11 c hc => .congr (hstat c) (hheld ((hon 11).trans h11) hc), fun h6 => hdisc ?_,
    fun i hi => ⟨hpend i hi, fun hport => ?_⟩⟩
  · rw [hhard.on pstat_not_actWrites, hon, h6]
  · rw [hkept, State.port_congr i hlnk, hstops, if_pos (List.mem_filter.2 ⟨hi, hport⟩)]

end

/-! ## What a demand shows (13 R376, R380 to R382) -/

section
variable {s₀ s t : State} {f m cause pos : Nat} {safe : Bool}

/-- A demand of functions depends on SFU_SFCFG alone. -/
theorem State.demandFuncs_of_sfcfg (h : t.reg R.SFU_SFCFG = s.reg R.SFU_SFCFG) (m : Nat) :
    t.demandFuncs m = s.demandFuncs m := by
  unfold State.demandFuncs State.f
  rw [show t.reg F.SFU_SFCFG.EN.addr = _ from h, show t.reg F.SFU_SFCFG.TRIP.addr = _ from h]
  rfl

theorem State.demandFuncs_lt (m : Nat) : s.demandFuncs m < 16 := by
  unfold State.demandFuncs
  extract_lets en trip u v
  have hu : u < 2 ^ 4 := Nat.and_lt_two_pow _ (by decide)
  have hv : v < 2 ^ 4 := by
    rcases Decidable.em (u &&& 12 ≠ 0) with h | h
    · rw [show v = _ from if_pos h]
      exact Nat.or_lt_two_pow hu (by decide)
    · rwa [show v = _ from if_neg h]
  rcases Decidable.em (v &&& trip ≠ 0) with h | h
  · rw [if_pos h]
    exact Nat.or_lt_two_pow hv (by decide)
  · rwa [if_neg h]

/-- SF1 adds SF2 where TRIP selects it. -/
theorem State.demandFuncs_sf1 : s.demandFuncs 1 = if (s.f F.SFU_SFCFG.TRIP).testBit 0 then 3 else 1 := by
  have hbit : ((1 &&& (s.f F.SFU_SFCFG.TRIP ||| 2)) ≠ 0) ↔ (s.f F.SFU_SFCFG.TRIP).testBit 0 = true := by
    rw [Nat.one_and_eq_mod_two, Nat.mod_two_ne_zero, ← decide_eq_true_iff (p := _ % 2 = 1), ← Nat.testBit_zero,
      Nat.testBit_or, show (2 : Nat).testBit 0 = false from rfl, Bool.or_false]
  unfold State.demandFuncs
  extract_lets en trip u v
  have hv : v = 1 := by simp [v, u, en, and_enabled 1 _ rfl]
  rw [hv]
  exact ite_congr (propext hbit) (fun _ => rfl) fun _ => rfl

/-! ### The words of a demand -/

/-- The first cause of a latched demand. -/
def State.causeShown (s : State) (cause pos : Nat) : State :=
  if s.f F.SFU_CAUSE.CAUSE = 0 then
    (s.setF F.SFU_CAUSE.CAUSE cause).setF F.SFU_CAUSE.POS (if cause = 5 ∨ cause = 7 then pos else 0)
  else s

/-- The functions latched. -/
def State.heldShown (s : State) (f : Nat) : State := s.setF F.SFU_STATUS.HELD (s.held ||| f)

theorem State.demandShown_parts : s.demandShown f cause pos safe =
    if safe then ((s.heldShown f).causeShown cause pos).setB F.SFU_STATUS.SAFE true
    else (s.heldShown f).causeShown cause pos := rfl

theorem State.causeShown_spec (hc : cause < 256) (hp : pos < 64) :
    (s.causeShown cause pos).f F.SFU_CAUSE.CAUSE = (if s.f F.SFU_CAUSE.CAUSE = 0 then cause else s.f F.SFU_CAUSE.CAUSE) ∧
      (s.causeShown cause pos).f F.SFU_CAUSE.POS = (if s.f F.SFU_CAUSE.CAUSE = 0 then
        (if cause = 5 ∨ cause = 7 then pos else 0) else s.f F.SFU_CAUSE.POS) := by
  have hpos : (if cause = 5 ∨ cause = 7 then pos else 0) < 64 := by
    split
    · exact hp
    · decide
  unfold State.causeShown
  by_cases h : s.f F.SFU_CAUSE.CAUSE = 0
  · rw [if_pos h, if_pos h, if_pos h]
    exact ⟨(State.f_setF_apart _ _ _ _ (by decide)).trans <|
      (State.f_setF_same _ _ _ (by decide)).trans (Nat.mod_eq_of_lt hc),
      (State.f_setF_same _ _ _ (by decide)).trans (Nat.mod_eq_of_lt hpos)⟩
  · rw [if_neg h, if_neg h, if_neg h]
    exact ⟨rfl, rfl⟩

theorem State.reg_causeShown {a : Nat} (h : a ≠ R.SFU_CAUSE) : (s.causeShown cause pos).reg a = s.reg a := by
  unfold State.causeShown
  split
  · exact (State.reg_setReg_ne _ _ h).trans (State.reg_setReg_ne _ _ h)
  · rfl

/-- A demand records its cause where none stands. -/
theorem State.cause_demandShown (hc : cause < 256) (hp : pos < 64) : let t := s.demandShown f cause pos safe
    t.f F.SFU_CAUSE.CAUSE = (if s.f F.SFU_CAUSE.CAUSE = 0 then cause else s.f F.SFU_CAUSE.CAUSE) ∧
      t.f F.SFU_CAUSE.POS = (if s.f F.SFU_CAUSE.CAUSE = 0 then (if cause = 5 ∨ cause = 7 then pos else 0)
        else s.f F.SFU_CAUSE.POS) := by
  intro t
  have hheld (x : Field) (hx : x.addr ≠ R.SFU_STATUS) : (s.heldShown f).f x = s.f x := State.f_setF_apart _ _ _ _ (.inl hx)
  have hspec := (s.heldShown f).causeShown_spec hc hp
  rw [hheld F.SFU_CAUSE.CAUSE (by decide), hheld F.SFU_CAUSE.POS (by decide)] at hspec
  have ht : t = _ := State.demandShown_parts
  generalize (s.heldShown f).causeShown cause pos = u at *
  cases safe
  · rw [ht]
    exact hspec
  · rw [ht]
    exact ⟨(State.f_setB_apart _ _ _ _ (.inl (by decide))).trans hspec.1,
      (State.f_setB_apart _ _ _ _ (.inl (by decide))).trans hspec.2⟩

/-- A demand leaves DEM. -/
theorem State.dem_demandShown : (s.demandShown f cause pos safe).f F.SFU_STATUS.DEM = s.f F.SFU_STATUS.DEM := by
  have hheld : (s.heldShown f).f F.SFU_STATUS.DEM = s.f F.SFU_STATUS.DEM := State.f_setF_apart _ _ _ _ (by decide)
  have hcause : ((s.heldShown f).causeShown cause pos).f F.SFU_STATUS.DEM = (s.heldShown f).f F.SFU_STATUS.DEM :=
    congrArg (fld · 19 16) (State.reg_causeShown (by decide))
  rw [State.demandShown_parts]
  generalize (s.heldShown f).causeShown cause pos = u at *
  cases safe
  · exact hcause.trans hheld
  · exact (State.f_setB_apart _ _ _ _ (by decide)).trans (hcause.trans hheld)

theorem State.Halts.demandShown {w : Nat → Prop} (h : Halts w s₀ s) (hs : w R.SFU_STATUS) (hc : w R.SFU_CAUSE) :
    Halts w s₀ (s.demandShown f cause pos safe) := by
  have hu : Halts w s₀ (s.heldShown f) := h.setF hs
  have hv : Halts w s₀ ((s.heldShown f).causeShown cause pos) := .ite ((hu.setF hc).setF hc) hu
  rw [State.demandShown_parts]
  exact .ite (hv.setB hs) hv

/-! ### A demand up to its stop -/

theorem State.Halts.ptAbort {w : Nat → Prop} {o : Nat} (h : Halts w s₀ s) (ho : w (R.SFU_PTSTAT o)) :
    Halts w s₀ (s.ptAbort o) := .ite (.update ((h.incF ho).setB ho) rfl rfl rfl rfl rfl rfl) h

/-- A demand of the functions f before SF1 acts: its words, its record, and the tests that it aborts. -/
def State.demandTaken (s : State) (f cause pos : Nat) (safe : Bool) : State :=
  State.forAll ((s.demandShown f cause pos safe).note 6 1 (f * 256 + cause))
    ((List.range 6).filter (((s.demandShown f cause pos safe).note 6 1 (f * 256 + cause)).drivesTrip f safe)) State.ptAbort

theorem State.demand_of_funcs (hf : s.demandFuncs m ≠ 0) : s.demand m cause pos safe =
    if s.demandFuncs m &&& 1 ≠ 0 then (s.demandTaken (s.demandFuncs m) cause pos safe).sf1Act
    else s.demandTaken (s.demandFuncs m) cause pos safe := by
  unfold State.demand
  rw [if_neg hf]
  rfl

theorem State.demand_of_none (hf : s.demandFuncs m = 0) : s.demand m cause pos safe = s := if_pos hf

theorem State.demandTaken_shown {w : Nat → Prop} (hl : w R.FCU_LDGLOST) (ho : ∀ o, o < 6 → w (R.SFU_PTSTAT o)) :
    Halts w (s.demandShown f cause pos safe) (s.demandTaken f cause pos safe) :=
  .forAll (Halts.refl.note hl) fun _ o hmem hu => hu.ptAbort (ho o (List.mem_range.1 (List.mem_filter.1 hmem).1))

theorem sfuPtstat_demandWrites {o : Nat} (h : o < 6) : demandWrites (R.SFU_PTSTAT o) := by
  refine .inr (.inr (.inr ?_))
  unfold R.SFU_PTSTAT R.SFU_FRCNT R.LNK_CTRL
  omega

theorem State.demandTaken_frame : Halts demandWrites s (s.demandTaken f cause pos safe) :=
  (Halts.refl.demandShown (.inl rfl) (.inr (.inl rfl))).trans
    (State.demandTaken_shown (.inr (.inr (.inl rfl))) fun _ => sfuPtstat_demandWrites)

/-- What follows the words of a demand leaves them. -/
theorem State.demand_shown (hf : s.demandFuncs m ≠ 0) :
    Halts stopWrites (s.demandShown (s.demandFuncs m) cause pos safe) (s.demand m cause pos safe) := by
  have ht : Halts stopWrites (s.demandShown (s.demandFuncs m) cause pos safe) (s.demandTaken (s.demandFuncs m) cause pos safe) :=
    State.demandTaken_shown (.inl rfl) fun o _ => .inr (frcnt_lt_sfuPtstat o)
  rw [State.demand_of_funcs hf]
  exact .ite (ht.trans (Halts.refl.sf1Act.mono fun _ => stopWrites_of_act)) ht

/-- The registers that a demand may write. -/
def haltWrites (a : Nat) : Prop := a = R.SFU_STATUS ∨ a = R.SFU_CAUSE ∨ stopWrites a

theorem State.Halts.demand (h : Halts haltWrites s₀ s) : Halts haltWrites s₀ (s.demand m cause pos safe) := by
  by_cases hf : s.demandFuncs m = 0
  · rwa [State.demand_of_none hf]
  · exact (h.demandShown (.inl rfl) (.inr (.inl rfl))).trans ((State.demand_shown hf).mono fun _ ha => .inr (.inr ha))

/-- A port that is on is on after what a demand writes. -/
theorem State.Halts.portOn (h : Halts demandWrites s t) (i : Nat) : t.portOn i = s.portOn i := by
  have hkept {a : Nat} (ha : a = R.SYSC_PSTAT ∨ R.LNK_CTRL ≤ a) : ¬ demandWrites a := by
    unfold demandWrites R.SFU_STATUS R.SFU_CAUSE R.FCU_LDGLOST R.SFU_FRCNT R.LNK_CTRL
    unfold R.SYSC_PSTAT R.LNK_CTRL at ha
    omega
  have hcfg : R.LNK_CTRL ≤ R.LNK_PCFG i := by
    unfold R.LNK_CTRL R.LNK_PCFG
    omega
  have hon := h.on (hkept (.inl rfl))
  have hen : t.fb F.LNK_CTRL.EN = s.fb F.LNK_CTRL.EN := h.fb (hkept (.inr (Nat.le_refl _)))
  have hesc : t.fb F.LNK_CTRL.ESCEN = s.fb F.LNK_CTRL.ESCEN := h.fb (hkept (.inr (Nat.le_refl _)))
  have hport : t.fb (F.LNK_PCFG.EN i) = s.fb (F.LNK_PCFG.EN i) := h.fb (hkept (.inr hcfg))
  simp only [State.portOn, State.lnkOn, State.live, hon, h.pwr, hen, hesc, hport]

end

/-! ## SF1_DEMAND (13 R378, R381) -/

section
variable {s : State} {cause pos : Nat}

/-- The channels' demands of a cause that R387 compares. -/
def State.causeMade (s : State) (cause : Nat) : State :=
  if cause = 1 ∨ cause = 2 ∨ cause = 4 ∨ cause = 5 ∨ cause = 6 ∨ cause = 7 then s.noteMade (s.demandFuncs 1) true true
  else s

theorem State.causeMade_frame : (s.causeMade cause).regs = s.regs ∧ ∀ w, Halts w s (s.causeMade cause) := by
  unfold State.causeMade
  split
  · exact ⟨rfl, fun _ => Halts.refl.update rfl rfl rfl rfl rfl rfl⟩
  · exact ⟨rfl, fun _ => .refl⟩

theorem State.sf1Demand_of_cause (hlive : s.live = true) (hc : (1 ≤ cause ∧ cause ≤ 9) ∨ (0x10 ≤ cause ∧ cause ≤ 0x27)) :
    s.sf1Demand cause pos = (s.causeMade cause).demand 1 cause pos false :=
  if_pos (by simp [State.sfuOn, causeOk, hlive, hc])

/-- What an SF1 demand latches, records, stops and discards. -/
theorem State.sf1Demand_spec (hlive : s.live = true) (hcause : (1 ≤ cause ∧ cause ≤ 9) ∨ (0x10 ≤ cause ∧ cause ≤ 0x27))
    (hc : cause < 256) (hp : pos < 64) : let t := s.sf1Demand cause pos
    t.held = s.held ||| s.demandFuncs 1 ∧
      t.f F.SFU_CAUSE.CAUSE = (if s.f F.SFU_CAUSE.CAUSE = 0 then cause else s.f F.SFU_CAUSE.CAUSE) ∧
      t.f F.SFU_CAUSE.POS = (if s.f F.SFU_CAUSE.CAUSE = 0 then (if cause = 5 ∨ cause = 7 then pos else 0)
        else s.f F.SFU_CAUSE.POS) ∧
      (s.on 11 = true → ∀ c, c < 8 → t.Held c) ∧ (s.on 6 = true → t.Discarded) ∧
      (∀ i ∈ ctxIdx, t.fb (F.LNK_CMD.PEND i) = false ∧ (s.portOn i = true → (t.port i).stops = 2)) ∧
      t.procs = s.procs ∧ t.tm = s.tm := by
  intro t
  have ht : t = (s.causeMade cause).demand 1 cause pos false := State.sf1Demand_of_cause hlive hcause
  obtain ⟨hregs, hmade⟩ := s.causeMade_frame (cause := cause)
  generalize s.causeMade cause = u at *
  have hfuncs : u.demandFuncs 1 = s.demandFuncs 1 := State.demandFuncs_congr hregs 1
  have hf : u.demandFuncs 1 ≠ 0 ∧ u.demandFuncs 1 &&& 1 ≠ 0 := by
    obtain h | h := u.demandFuncs_one <;> simp [h]
  have hheld : t.held = u.held ||| u.demandFuncs 1 := ht ▸ State.held_demand hf.1 (u.demandFuncs_lt 1)
  have hshown : Halts stopWrites (u.demandShown (u.demandFuncs 1) cause pos false) t := ht ▸ State.demand_shown hf.1
  obtain ⟨hcause, hpos⟩ := u.cause_demandShown (f := u.demandFuncs 1) (safe := false) hc hp
  have htaken := (hmade demandWrites).trans (u.demandTaken_frame (f := u.demandFuncs 1) (cause := cause) (pos := pos) (safe := false))
  have hall : Halts haltWrites s t := ht ▸ (hmade haltWrites).demand
  rw [State.demand_of_funcs hf.1, if_pos hf.2] at ht
  generalize u.demandTaken (u.demandFuncs 1) cause pos false = x at *
  obtain ⟨hstop, hdisc, hports⟩ := x.sf1Act_spec
  rw [← ht] at hstop hdisc hports
  have hpstat : ¬ demandWrites R.SYSC_PSTAT := by
    unfold demandWrites
    decide
  have hword : ¬ stopWrites R.SFU_CAUSE := by
    unfold stopWrites
    decide
  refine ⟨?_, ?_, ?_, fun h11 => hstop ((htaken.on hpstat 11).trans h11), fun h6 => hdisc ((htaken.on hpstat 6).trans h6),
    fun i hi => ⟨(hports i hi).1, fun hon => (hports i hi).2 ((htaken.portOn i).trans hon)⟩, hall.procs, hall.tm⟩
  · rw [hheld, hfuncs, State.held, State.held, State.f_congr hregs]
  · rw [hshown.f hword, hcause, State.f_congr hregs]
  · rw [hshown.f hword, hpos, State.f_congr hregs, State.f_congr hregs]

end

end Sys2Proof.Machine

/-! Demands of level sources: the SAFE_IN inputs, the firmware and the monitors of channel B (13 R381, R382, R388, R389). -/

namespace Sys2Proof.Machine

/-! ## Level sources (13 R382) -/

/-- From `s` to `t` stack time and the processors stay, and every register outside `w`. -/
structure State.Spares (w : Nat → Prop) (s t : State) : Prop where
  regs : ∀ a, ¬ w a → t.reg a = s.reg a
  tm : t.tm = s.tm
  procs : t.procs = s.procs

/-- A source of a cause and a position is live. -/
def State.isLive (s : State) (cause pos : Nat) : Bool := s.sfu.live.any fun x => x.cause == cause && x.pos == pos

section
variable {w : Nat → Prop} {s₀ s t : State} {m cause pos f : Nat} {safe : Bool}

theorem State.Halts.spares (h : Halts w s t) : Spares w s t := ⟨h.regs, h.tm, h.procs⟩

theorem State.Spares.refl : Spares w s s := ⟨fun _ _ => rfl, rfl, rfl⟩

theorem State.Spares.trans (h : Spares w s₀ s) (h' : Spares w s t) : Spares w s₀ t :=
  ⟨fun a ha => (h'.regs a ha).trans (h.regs a ha), h'.tm.trans h.tm, h'.procs.trans h.procs⟩

theorem State.isLive_congr (h : t.sfu.live = s.sfu.live) : t.isLive cause pos = s.isLive cause pos := by
  rw [State.isLive, State.isLive, h]

/-- A source becomes live with its functions. -/
def State.sourceAdded (s : State) (cause pos f : Nat) : State :=
  { s with sfu := { s.sfu with live := s.sfu.live ++ [⟨cause, pos, f⟩] } }

/-- A source is live no more. -/
def State.sourceEnded (s : State) (cause pos : Nat) : State :=
  { s with sfu := { s.sfu with live := s.sfu.live.filter fun x => !(x.cause == cause && x.pos == pos) } }

theorem State.demandEnd_parts : s.demandEnd cause pos = (s.sourceEnded cause pos).showDem := rfl

theorem State.sourceEnded_spec : (s.sourceEnded cause pos).isLive cause pos = false ∧
    (∀ c p, s.isLive c p = false → (s.sourceEnded cause pos).isLive c p = false) ∧
    (s.sourceEnded cause pos).regs = s.regs ∧ Spares w s (s.sourceEnded cause pos) := by
  have hmem (x) (hx : x ∈ (s.sourceEnded cause pos).sfu.live) : x ∈ s.sfu.live ∧ ¬ (x.cause = cause ∧ x.pos = pos) := by
    obtain ⟨hlive, hother⟩ := List.mem_filter.1 hx
    exact ⟨hlive, fun h => by simp [h] at hother⟩
  refine ⟨?_, fun c p h => ?_, rfl, ⟨fun _ _ => rfl, rfl, rfl⟩⟩
  · refine List.any_eq_false.2 fun x hx => ?_
    simpa using (hmem x hx).2
  · exact List.any_eq_false.2 fun x hx => List.any_eq_false.1 h x (hmem x hx).1

theorem State.sourceAdded_spec : (s.sourceAdded cause pos f).sfu.live = s.sfu.live ++ [⟨cause, pos, f⟩] ∧
    (s.sourceAdded cause pos f).regs = s.regs ∧ Spares w s (s.sourceAdded cause pos f) :=
  ⟨rfl, rfl, fun _ _ => rfl, rfl, rfl⟩

theorem State.isLive_sourceAdded {p : Nat} (hp : p ≠ pos) :
    (s.sourceAdded cause pos f).isLive cause p = s.isLive cause p := by
  rw [State.isLive, State.isLive, State.sourceAdded_spec (w := fun _ => True).1, List.any_append]
  simp [Ne.symm hp]

/-- DEM follows the live sources. -/
theorem State.showDem_spec : OnlyRegs [R.SFU_STATUS] s s.showDem ∧ s.showDem.held = s.held ∧
    s.showDem.f F.SFU_STATUS.DEM = s.sfu.live.foldl (fun m x => m ||| x.funcs) 0 % 16 :=
  ⟨.setF .refl List.mem_cons_self, State.f_setF_apart _ _ _ _ (by decide), State.f_setF_same _ _ _ (by decide)⟩

theorem State.demandLevel_of_live (h : s.isLive cause pos = true) : s.demandLevel m cause pos safe = s := if_pos h

theorem State.demandLevel_of_none (hf : s.demandFuncs m = 0) : s.demandLevel m cause pos safe = s := by
  unfold State.demandLevel
  rw [if_pos hf, ite_self]

theorem State.demandLevel_of_new (hnew : s.isLive cause pos = false) (hf : s.demandFuncs m ≠ 0) :
    s.demandLevel m cause pos safe =
      (s.sourceAdded cause pos (s.demandFuncs m)).showDem.demand m cause pos safe :=
  (if_neg (by rw [← State.isLive, hnew]; decide)).trans (if_neg hf)

/-- The functions of a source show among those of all sources. -/
theorem or_mod_and_self {a f : Nat} (hf : f < 16) : (a ||| f) % 16 &&& f = f := by
  refine Nat.eq_of_testBit_eq fun i => ?_
  rw [Nat.testBit_and, show (16 : Nat) = 2 ^ 4 from rfl, Nat.testBit_mod_two_pow, Nat.testBit_or]
  by_cases hi : i < 4
  · cases f.testBit i <;> simp [hi]
  · have h : f < 2 ^ i := Nat.lt_of_lt_of_le hf (Nat.pow_le_pow_right (by decide : 0 < 2) (by omega : 4 ≤ i))
    rw [Nat.testBit_lt_two_pow h, Bool.and_false]

/-- A new source is live, shows in DEM, and latches its functions. -/
theorem State.demandLevel_spec (hnew : s.isLive cause pos = false) (hf : s.demandFuncs m ≠ 0) :
    let t := s.demandLevel m cause pos safe
    t.held = s.held ||| s.demandFuncs m ∧ t.sfu.live = s.sfu.live ++ [⟨cause, pos, s.demandFuncs m⟩] ∧
      t.f F.SFU_STATUS.DEM &&& s.demandFuncs m = s.demandFuncs m ∧ Spares haltWrites s t := by
  intro t
  have ht : t = _ := State.demandLevel_of_new hnew hf
  have hlt := s.demandFuncs_lt m
  obtain ⟨hlive, hregs, hadd⟩ := s.sourceAdded_spec (w := haltWrites) (cause := cause) (pos := pos) (f := s.demandFuncs m)
  generalize s.sourceAdded cause pos (s.demandFuncs m) = u at *
  obtain ⟨hset, hheld, hdem⟩ := u.showDem_spec
  generalize u.showDem = v at *
  have hsfu : v.sfu = u.sfu := (congrArg State.sfu hset.1 :)
  have hfuncs : v.demandFuncs m = s.demandFuncs m :=
    State.demandFuncs_of_sfcfg ((hset.2 _ (by decide)).trans (State.reg_congr hregs _)) m
  have hshow : Spares haltWrites u v :=
    ⟨fun a ha => hset.2 a fun h => ha (.inl (List.mem_singleton.1 h)), (congrArg State.tm hset.1 :),
      (congrArg State.procs hset.1 :)⟩
  have hdemand : Halts haltWrites v t := ht ▸ Halts.refl.demand
  have hshown : Halts stopWrites (v.demandShown (v.demandFuncs m) cause pos safe) t := ht ▸ State.demand_shown (hfuncs ▸ hf)
  have hstatus : ¬ stopWrites R.SFU_STATUS := by
    unfold stopWrites
    decide
  refine ⟨?_, ?_, ?_, (hadd.trans hshow).trans hdemand.spares⟩
  · rw [ht, State.held_demand (hfuncs ▸ hf) (hfuncs ▸ hlt), hfuncs, hheld, State.held, State.held, State.f_congr hregs]
  · rw [hdemand.live, hsfu, hlive]
  · rw [hshown.f hstatus, State.dem_demandShown, hdem, hlive, List.foldl_append]
    exact or_mod_and_self hlt

/-- A source that is not live yet latches its functions, where it has any in use. -/
theorem State.demandLevel_held (hnew : s.isLive cause pos = false) :
    (s.demandLevel m cause pos safe).held = s.held ||| s.demandFuncs m ∧ Spares haltWrites s (s.demandLevel m cause pos safe) := by
  by_cases hf : s.demandFuncs m = 0
  · rw [State.demandLevel_of_none hf, hf, Nat.or_zero]
    exact ⟨rfl, .refl⟩
  · obtain ⟨hheld, -, -, hspares⟩ := State.demandLevel_spec (safe := safe) hnew hf
    exact ⟨hheld, hspares⟩

/-- A demand of one position leaves the liveness of another. -/
theorem State.isLive_demandLevel {p : Nat} (hp : p ≠ pos) :
    (s.demandLevel m cause pos safe).isLive cause p = s.isLive cause p := by
  cases hnew : s.isLive cause pos
  · by_cases hf : s.demandFuncs m = 0
    · rw [State.demandLevel_of_none hf]
    · obtain ⟨-, hlive, -⟩ := State.demandLevel_spec (safe := safe) hnew hf
      rw [State.isLive_congr (s := s.sourceAdded cause pos (s.demandFuncs m)) hlive, State.isLive_sourceAdded hp]
  · rw [State.demandLevel_of_live hnew]

/-- A source that ends shows in DEM, and leaves HELD. -/
theorem State.demandEnd_spec : (s.demandEnd cause pos).held = s.held ∧ (s.demandEnd cause pos).isLive cause pos = false ∧
    (∀ c p, s.isLive c p = false → (s.demandEnd cause pos).isLive c p = false) ∧
    SameRegsBut [R.SFU_STATUS] s (s.demandEnd cause pos) ∧ Spares haltWrites s (s.demandEnd cause pos) := by
  obtain ⟨hself, hothers, hregs, hend⟩ := s.sourceEnded_spec (w := haltWrites) (cause := cause) (pos := pos)
  rw [State.demandEnd_parts]
  generalize s.sourceEnded cause pos = u at *
  obtain ⟨hset, hheld, -⟩ := u.showDem_spec
  have hsfu : u.showDem.sfu.live = u.sfu.live := (congrArg (·.sfu.live) hset.1 :)
  refine ⟨?_, (State.isLive_congr hsfu).trans hself, fun c p h => (State.isLive_congr hsfu).trans (hothers c p h),
    fun a ha => (hset.2 a ha).trans (State.reg_congr hregs a), hend.trans ⟨fun a ha => hset.2 a fun h => ha (.inl (List.mem_singleton.1 h)),
      (congrArg State.tm hset.1 :), (congrArg State.procs hset.1 :)⟩⟩
  rw [hheld, State.held, State.held, State.f_congr hregs]

theorem State.sindisc_demandEnd : (s.demandEnd cause pos).fb F.SFU_STATUS.SINDISC = s.fb F.SFU_STATUS.SINDISC :=
  (State.fb_setF_apart (s.sourceEnded cause pos) F.SFU_STATUS.DEM F.SFU_STATUS.SINDISC _ (by decide)).trans
    (State.fb_congr rfl _)

end

/-! ## SAFE_IN inputs (13 R381, R382) -/

/-- From `s` to `t` only the listed registers and the Safety unit's own state change. -/
def State.OffUnit (l : List Nat) (s t : State) : Prop := OnlyRegs l s { t with sfu := s.sfu }

section
variable {l : List Nat} {s₀ s t : State} {b lvl : Bool}

theorem State.OffUnit.refl : OffUnit l s s := OnlyRegs.refl

theorem State.OffUnit.setB {x : Field} {v : Bool} (h : OffUnit l s₀ s) (hx : x.addr ∈ l) : OffUnit l s₀ (s.setB x v) :=
  OnlyRegs.setB (s := s₀) (t := { s with sfu := s₀.sfu }) h hx

theorem State.OffUnit.setF {x : Field} {n : Nat} (h : OffUnit l s₀ s) (hx : x.addr ∈ l) : OffUnit l s₀ (s.setF x n) :=
  OnlyRegs.setF (s := s₀) (t := { s with sfu := s₀.sfu }) h hx

/-- The Safety unit's own state is free. -/
theorem State.OffUnit.unit {u : SfuUnit} (h : OffUnit l s₀ s) : OffUnit l s₀ { s with sfu := u } := h

theorem State.OffUnit.ite {c : Prop} [Decidable c] (hs : OffUnit l s₀ s) (ht : OffUnit l s₀ t) :
    OffUnit l s₀ (if c then s else t) := by
  split
  · exact hs
  · exact ht

theorem State.OffUnit.setInput (h : OffUnit l s₀ s) (hl : R.SFU_SIN ∈ l) : OffUnit l s₀ (s.setInput b lvl) :=
  .unit (h.setB (by cases b <;> exact hl))

theorem State.OffUnit.demandEnd {cause pos : Nat} (h : OffUnit l s₀ s) (hl : R.SFU_STATUS ∈ l) :
    OffUnit l s₀ (s.demandEnd cause pos) := h.unit.setF hl

theorem State.setInput_spec : (s.setInput b lvl).fb (inField b) = lvl ∧
    (s.setInput b lvl).fb (inField (!b)) = s.fb (inField (!b)) ∧
    (s.setInput b lvl).fb F.SFU_SIN.SF2MAP = s.fb F.SFU_SIN.SF2MAP ∧
    SameRegsBut [R.SFU_SIN] s (s.setInput b lvl) ∧ (s.setInput b lvl).sfu.live = s.sfu.live := by
  have hregs : (s.setInput b lvl).regs = (s.setB (inField b) lvl).regs := rfl
  refine ⟨(State.fb_congr hregs _).trans ?_, (State.fb_congr hregs _).trans ?_, (State.fb_congr hregs _).trans ?_,
    fun a ha => (State.reg_congr hregs a).trans ?_, rfl⟩
  · cases b <;> exact State.fb_setB_same _ _ _ rfl (by decide)
  · cases b <;> exact State.fb_setB_apart _ _ _ _ (by decide)
  · cases b <;> exact State.fb_setB_apart _ _ _ _ (by decide)
  · refine State.reg_setReg_ne _ _ fun h => ha ?_
    cases b <;> exact List.mem_singleton.2 h

/-- Both inputs are high after one has risen where the other is. -/
theorem State.bothHigh (h : s.fb (inField b) = true) :
    (s.fb F.SFU_SIN.INA && s.fb F.SFU_SIN.INB) = s.fb (inField (!b)) := by
  cases b
  · rw [show s.fb F.SFU_SIN.INA = true from h, Bool.true_and]
    rfl
  · rw [show s.fb F.SFU_SIN.INB = true from h, Bool.and_true]
    rfl

/-! ### SAFE_INPUT_DEMAND -/

/-- The channels' demands noted after an input fell. -/
def State.inputFallen (s : State) (b chA chB : Bool) : State :=
  (s.setInput b false).noteMade ((s.setInput b false).demandFuncs (if s.fb F.SFU_SIN.SF2MAP then 3 else 1)) chA chB

theorem State.safeInputDemand_of_seen {chA chB : Bool} (hlive : s.live = true) (hseen : chA = true ∨ chB = true) :
    s.safeInputDemand b chA chB =
      (s.inputFallen b chA chB).demandLevel (if s.fb F.SFU_SIN.SF2MAP then 3 else 1) (if b then 2 else 1) 0 false := by
  obtain ⟨-, -, hmap, -⟩ := s.setInput_spec (b := b) (lvl := false)
  rw [State.inputFallen, ← hmap]
  exact if_pos (by simp [State.sfuOn, hlive, hseen])

theorem State.inputFallen_spec {chA chB : Bool} : let t := s.inputFallen b chA chB
    t.fb (inField b) = false ∧ SameRegsBut [R.SFU_SIN] s t ∧ t.sfu.live = s.sfu.live ∧ OffUnit [R.SFU_SIN] s t := by
  obtain ⟨hlow, -, -, hregs, hlive⟩ := s.setInput_spec (b := b) (lvl := false)
  have hoff : OffUnit [R.SFU_SIN] s (s.setInput b false) := OffUnit.refl.setInput List.mem_cons_self
  rw [State.inputFallen]
  generalize s.setInput b false = u at *
  intro t
  exact ⟨(State.fb_congr rfl _).trans hlow, fun a ha => (State.reg_congr rfl a).trans (hregs a ha), hlive, hoff.unit⟩

/-- What an input demands. -/
theorem State.inputFuncs : s.demandFuncs (if s.fb F.SFU_SIN.SF2MAP then 3 else 1) =
    if s.fb F.SFU_SIN.SF2MAP = true ∨ (s.f F.SFU_SFCFG.TRIP).testBit 0 = true then 3 else 1 := by
  by_cases h : s.fb F.SFU_SIN.SF2MAP = true
  · rw [if_pos h, if_pos (.inl h), State.demandFuncs_three]
  · rw [if_neg h, State.demandFuncs_sf1]
    exact ite_congr (propext (or_iff_right h).symm) (fun _ => rfl) fun _ => rfl

/-! ### SAFE_INPUT_RELEASE -/

/-- The input is high, and its source is live no more. -/
def State.inputRisen (s : State) (b : Bool) : State := (s.setInput b true).demandEnd (if b then 2 else 1) 0

theorem State.safeInputRelease_of_live (hlive : s.live = true) : s.safeInputRelease b =
    if (s.inputRisen b).fb F.SFU_SIN.INA && (s.inputRisen b).fb F.SFU_SIN.INB then
      (s.inputRisen b).setB F.SFU_STATUS.SINDISC false
    else s.inputRisen b := if_pos hlive

theorem State.inputRisen_spec : let t := s.inputRisen b
    t.fb (inField b) = true ∧ t.fb (inField (!b)) = s.fb (inField (!b)) ∧ t.held = s.held ∧
      t.isLive (if b then 2 else 1) 0 = false ∧ t.fb F.SFU_STATUS.SINDISC = s.fb F.SFU_STATUS.SINDISC ∧
      OffUnit [R.SFU_SIN, R.SFU_STATUS] s t := by
  obtain ⟨hhigh, hother, -, hregs, -⟩ := s.setInput_spec (b := b) (lvl := true)
  have hoff : OffUnit [R.SFU_SIN, R.SFU_STATUS] s (s.setInput b true) := OffUnit.refl.setInput List.mem_cons_self
  rw [State.inputRisen]
  generalize s.setInput b true = u at *
  obtain ⟨hheld, hend, -, hsame, -⟩ := u.demandEnd_spec (cause := if b then 2 else 1) (pos := 0)
  have hdisc := u.sindisc_demandEnd (cause := if b then 2 else 1) (pos := 0)
  have hsin (x : Field) (hx : x.addr = R.SFU_SIN) : (u.demandEnd (if b then 2 else 1) 0).fb x = u.fb x :=
    congrArg (bitAt · x.lo) (hsame _ (hx ▸ by decide))
  refine ⟨(hsin _ (by cases b <;> rfl)).trans hhigh, (hsin _ (by cases b <;> rfl)).trans hother, hheld.trans ?_, hend,
    hdisc.trans ?_, hoff.demandEnd (List.mem_cons_of_mem _ List.mem_cons_self)⟩
  · exact congrArg (fld · 23 20) (hregs R.SFU_STATUS (by decide))
  · exact congrArg (bitAt · 25) (hregs R.SFU_STATUS (by decide))

end

section
variable {s t u : State} {b : Bool}

/-- SINDISC cleared leaves the rest of a release. -/
theorem State.sindisc_spec (hset : t = u.setB F.SFU_STATUS.SINDISC false) : t.fb F.SFU_STATUS.SINDISC = false ∧
    t.fb (inField b) = u.fb (inField b) ∧ t.held = u.held ∧ t.sfu = u.sfu := by
  subst hset
  refine ⟨State.fb_setB_same _ _ _ rfl (by decide), ?_, State.f_setB_apart _ _ _ _ (by decide), rfl⟩
  cases b <;> exact State.fb_setB_apart _ _ _ _ (by decide)

/-- A release ends the input's demand and leaves HELD. -/
theorem State.safeInputRelease_spec (hlive : s.live = true) (ht : t = s.safeInputRelease b) :
    t.fb (inField b) = true ∧ t.held = s.held ∧ t.isLive (if b then 2 else 1) 0 = false ∧
      t.fb F.SFU_STATUS.SINDISC = (s.fb F.SFU_STATUS.SINDISC && !s.fb (inField (!b))) ∧
      OffUnit [R.SFU_SIN, R.SFU_STATUS] s t := by
  rw [State.safeInputRelease_of_live hlive] at ht
  obtain ⟨hhigh, hother, hheld, hend, hdisc, hoff⟩ := s.inputRisen_spec (b := b)
  generalize s.inputRisen b = u at *
  rw [State.bothHigh hhigh, hother] at ht
  cases hboth : s.fb (inField (!b))
  · rw [hboth] at ht
    rw [show t = u from ht]
    exact ⟨hhigh, hheld, hend, by rw [hdisc, Bool.not_false, Bool.and_true], hoff⟩
  · rw [hboth, if_pos rfl] at ht
    have hset : OffUnit [R.SFU_SIN, R.SFU_STATUS] s (u.setB F.SFU_STATUS.SINDISC false) :=
      hoff.setB (List.mem_cons_of_mem _ List.mem_cons_self)
    rw [← ht] at hset
    obtain ⟨hclear, hsin, hkept, hsfu⟩ := State.sindisc_spec (b := b) ht
    refine ⟨hsin.trans hhigh, hkept.trans hheld, (State.isLive_congr (by rw [hsfu])).trans hend, ?_, hset⟩
    rw [hclear, Bool.not_true, Bool.and_false]

end

/-! ## Firmware demands (13 R381) -/

/-- An invariant of the operations over 0 to n − 1. -/
theorem State.forAll_range_invariant {s : State} {op : State → Nat → State} (P : Nat → State → Prop) {n : Nat} (h0 : P 0 s)
    (hstep : ∀ i t, i < n → P i t → P (i + 1) (op t i)) : P n (s.forAll (List.range n) op) := by
  induction n with
  | zero => exact h0
  | succ n ih =>
    rw [State.forAll_range_succ]
    exact hstep n _ (Nat.lt_succ_self n) (ih fun i t hi => hstep i t (Nat.lt_succ_of_lt hi))

section
variable {s t : State} {old v n : Nat}

/-- What a write of FWDEM does for bit n: a rise demands, a 0 ends. -/
def fwdemStep (old v : Nat) (u : State) (n : Nat) : State :=
  if v.testBit n && !old.testBit n then u.demandLevel (2 ^ n) 3 n false
  else if !v.testBit n then u.demandEnd 3 n else u

/-- The functions that bit n demands. -/
def State.fwdemPart (s : State) (old v n : Nat) : Nat :=
  if v.testBit n && !old.testBit n then s.demandFuncs (2 ^ n) else 0

/-- The bits below n have demanded or ended. -/
structure State.FwdemDone (s : State) (old v n : Nat) (t : State) : Prop where
  spares : Spares haltWrites s t
  new : ∀ k, n ≤ k → k < 4 → t.isLive 3 k = false
  held : t.held = (List.range n).foldl (fun h k => h ||| s.fwdemPart old v k) s.held

theorem sfcfg_not_haltWrites : ¬ haltWrites R.SFU_SFCFG := by
  unfold haltWrites stopWrites
  decide

theorem State.FwdemDone.step (h : FwdemDone s old v n t) (hn : n < 4) : FwdemDone s old v (n + 1) (fwdemStep old v t n) := by
  have hfuncs : t.demandFuncs (2 ^ n) = s.demandFuncs (2 ^ n) := State.demandFuncs_of_sfcfg (h.spares.regs _ sfcfg_not_haltWrites) _
  have hheld (x : State) (hx : x.held = t.held ||| s.fwdemPart old v n) :
      x.held = (List.range (n + 1)).foldl (fun h k => h ||| s.fwdemPart old v k) s.held := by
    rw [List.range_succ, List.foldl_append, ← h.held]
    exact hx
  unfold fwdemStep
  by_cases hrise : (v.testBit n && !old.testBit n) = true
  · have hpart : s.fwdemPart old v n = s.demandFuncs (2 ^ n) := if_pos hrise
    rw [if_pos hrise]
    obtain ⟨hlatch, hspares⟩ := State.demandLevel_held (m := 2 ^ n) (safe := false) (h.new n (Nat.le_refl n) hn)
    exact ⟨h.spares.trans hspares, fun k hk hk4 => (State.isLive_demandLevel (Nat.ne_of_gt hk)).trans
      (h.new k (Nat.le_of_succ_le hk) hk4), hheld _ (by rw [hlatch, hfuncs, hpart])⟩
  · have hpart : s.fwdemPart old v n = 0 := if_neg hrise
    rw [if_neg hrise]
    by_cases hzero : (!v.testBit n) = true
    · obtain ⟨hkept, -, hothers, -, hspares⟩ := t.demandEnd_spec (cause := 3) (pos := n)
      rw [if_pos hzero]
      exact ⟨h.spares.trans hspares, fun k hk hk4 => hothers 3 k (h.new k (Nat.le_of_succ_le hk) hk4),
        hheld _ (by rw [hkept, hpart, Nat.or_zero])⟩
    · rw [if_neg hzero]
      exact ⟨h.spares, fun k hk => h.new k (Nat.le_of_succ_le hk), hheld _ (by rw [hpart, Nat.or_zero])⟩

theorem State.fwdemWrite_of_pair (hon : s.on 2 = true) : s.fwdemWrite .pair v =
    (s.setF F.SFU_CTRL.FWDEM v).forAll (List.range 4) (fwdemStep (s.f F.SFU_CTRL.FWDEM) v) :=
  (if_pos hon).trans (if_pos rfl)

theorem ctrl_not_haltWrites : ¬ haltWrites R.SFU_CTRL := by
  unfold haltWrites stopWrites
  decide

/-- A write of FWDEM by the pair demands the functions of the bits that rise. -/
theorem State.fwdemWrite_spec (hon : s.on 2 = true) (hv : v < 16) (hnew : ∀ k, k < 4 → s.isLive 3 k = false) :
    let t := s.fwdemWrite .pair v
    t.f F.SFU_CTRL.FWDEM = v ∧
      t.held = (List.range 4).foldl (fun h k => h ||| s.fwdemPart (s.f F.SFU_CTRL.FWDEM) v k) s.held ∧
      t.procs = s.procs ∧ t.tm = s.tm := by
  intro t
  have ht : t = _ := State.fwdemWrite_of_pair hon
  have hset : OnlyRegs [R.SFU_CTRL] s (s.setF F.SFU_CTRL.FWDEM v) := .setF .refl List.mem_cons_self
  have hfield : (s.setF F.SFU_CTRL.FWDEM v).f F.SFU_CTRL.FWDEM = v :=
    (State.f_setF_same _ _ _ (by decide)).trans (Nat.mod_eq_of_lt hv)
  generalize s.setF F.SFU_CTRL.FWDEM v = u at *
  have hstart : FwdemDone u (s.f F.SFU_CTRL.FWDEM) v 0 u :=
    ⟨.refl, fun k _ hk => (State.isLive_congr (congrArg (·.sfu.live) hset.1 :)).trans (hnew k hk), rfl⟩
  have hdone : FwdemDone u (s.f F.SFU_CTRL.FWDEM) v 4 t :=
    ht ▸ State.forAll_range_invariant (FwdemDone u (s.f F.SFU_CTRL.FWDEM) v) hstart fun _ _ hi hu => hu.step hi
  have hpart (k : Nat) : u.fwdemPart (s.f F.SFU_CTRL.FWDEM) v k = s.fwdemPart (s.f F.SFU_CTRL.FWDEM) v k := by
    rw [State.fwdemPart, State.fwdemPart, State.demandFuncs_of_sfcfg (hset.2 _ (by decide))]
  have hheld : u.held = s.held := congrArg (fld · 23 20) (hset.2 R.SFU_STATUS (by decide))
  refine ⟨?_, ?_, hdone.spares.procs.trans (congrArg State.procs hset.1 :), hdone.spares.tm.trans (congrArg State.tm hset.1 :)⟩
  · exact (congrArg (fld · 3 0) (hdone.spares.regs _ ctrl_not_haltWrites)).trans hfield
  · rw [hdone.held, hheld]
    simp only [hpart]

end

/-! ## The monitors of channel B (13 R388, R389) -/

section
variable {s t u : State} {m j v : Nat}

theorem State.bmonValue_lt {raw : Word} : s.bmonValue m raw < 2 ^ 18 := by
  have htop (n : Nat) : min (2 ^ 18 - 1) n < 2 ^ 18 := Nat.lt_of_le_of_lt (Nat.min_le_left _ _) (by decide)
  unfold State.bmonValue
  extract_lets sc top
  split
  · exact htop _
  · split
    · decide
    · exact htop _
  · exact htop _

/-- The violation of threshold j shows. -/
def State.violShown (s : State) (m j : Nat) (hit : Bool) : State :=
  s.setReg (R.SFU_BVAL m) (setFld (s.reg (R.SFU_BVAL m)) (28 + j) (28 + j) (b2n hit))

/-- The timer and the count of threshold key follow. -/
def State.violTimed (s : State) (key : Nat) (hit : Bool) : State :=
  { s with sfu := { s.sfu with
      viol := tblSet (fun _ => (0 : Nat)) s.sfu.viol key (if hit then
        (if tblGet (fun _ => (0 : Nat)) s.sfu.viol key = 0 then s.tm.refclk + 1 else tblGet (fun _ => (0 : Nat)) s.sfu.viol key)
        else 0)
      ovl := tblSet (fun _ => (0 : Nat)) s.sfu.ovl key (if hit then tblGet (fun _ => (0 : Nat)) s.sfu.ovl key + 1 else 0) } }

/-- What a measure does for threshold j. -/
def bmonStep (m v : Nat) (u : State) (j : Nat) : State :=
  if u.bmonViol m j v then (u.violShown m j (u.bmonViol m j v)).violTimed (4 * m + j) (u.bmonViol m j v)
  else ((u.violShown m j (u.bmonViol m j v)).violTimed (4 * m + j) (u.bmonViol m j v)).demandEnd (0x10 + (4 * m + j)) 0

theorem State.bmonUpdate_of_on {raw : Word} (hlive : s.live = true) (hen : s.fb (F.SFU_BMON.EN m) = true)
    (hmode : s.f (F.SFU_BMON.MODE m) ≠ 3) : s.bmonUpdate m raw =
      (s.setF (F.SFU_BVAL.VALUE m) (s.bmonValue m raw)).forAll (List.range 4) (bmonStep m (s.bmonValue m raw)) :=
  if_pos (by simp [State.sfuOn, hlive, hen, hmode])

/-- The count of violations of threshold key. -/
def State.ovlOf (s : State) (key : Nat) : Nat := tblGet (fun _ => (0 : Nat)) s.sfu.ovl key

theorem State.violTimed_spec {key : Nat} {hit : Bool} : (s.violTimed key hit).ovlOf key = (if hit then s.ovlOf key + 1 else 0) ∧
    (∀ k, k ≠ key → (s.violTimed key hit).ovlOf k = s.ovlOf k) ∧ (s.violTimed key hit).regs = s.regs ∧
    (s.violTimed key hit).mem = s.mem :=
  ⟨tblGet_tblSet_same _ _ _ _, fun _ hk => tblGet_tblSet_ne _ _ _ hk, rfl, rfl⟩

theorem State.ovlOf_congr (h : t.sfu.ovl = s.sfu.ovl) (key : Nat) : t.ovlOf key = s.ovlOf key :=
  congrArg (tblGet (fun _ => (0 : Nat)) · key) h

theorem bval_ne_status (m : Nat) : R.SFU_BVAL m ≠ R.SFU_STATUS := by
  unfold R.SFU_BVAL R.SFU_STATUS
  omega

theorem State.demandEnd_kept {c p : Nat} : (s.demandEnd c p).reg (R.SFU_BVAL m) = s.reg (R.SFU_BVAL m) ∧
    (s.demandEnd c p).sfu.ovl = s.sfu.ovl ∧ (s.demandEnd c p).mem = s.mem :=
  ⟨State.reg_setReg_ne _ _ (bval_ne_status m), rfl, rfl⟩

/-- What a measure leaves of the violations to date. -/
structure State.BmonStepped (m j : Nat) (hit : Bool) (s t : State) : Prop where
  frame : Touches [R.SFU_BVAL m, R.SFU_STATUS] s t
  held : t.held = s.held
  word : t.reg (R.SFU_BVAL m) = setFld (s.reg (R.SFU_BVAL m)) (28 + j) (28 + j) (b2n hit)
  count : t.ovlOf (4 * m + j) = if hit then s.ovlOf (4 * m + j) + 1 else 0
  counts : ∀ k, k ≠ 4 * m + j → t.ovlOf k = s.ovlOf k

theorem State.violations_spec (hit : Bool) : BmonStepped m j hit s ((s.violShown m j hit).violTimed (4 * m + j) hit) := by
  have hset : OnlyRegs [R.SFU_BVAL m, R.SFU_STATUS] s (s.violShown m j hit) := .setReg .refl List.mem_cons_self
  have hword : (s.violShown m j hit).reg (R.SFU_BVAL m) = _ := State.reg_setReg_same _ _ _
  have hheld : (s.violShown m j hit).held = s.held :=
    congrArg (fld · 23 20) (State.reg_setReg_ne _ _ (bval_ne_status m).symm)
  have hovl : (s.violShown m j hit).sfu.ovl = s.sfu.ovl := (congrArg (·.sfu.ovl) hset.1 :)
  generalize s.violShown m j hit = u at *
  obtain ⟨hcount, hcounts, hregs, hmem⟩ := u.violTimed_spec (key := 4 * m + j) (hit := hit)
  refine ⟨hset.touches.update hregs hmem, ?_, (State.reg_congr hregs _).trans hword, ?_, fun k hk => ?_⟩
  · rw [← hheld, State.held, State.held, State.f_congr hregs]
  · rw [hcount, State.ovlOf_congr hovl]
  · rw [hcounts k hk, State.ovlOf_congr hovl]

theorem State.BmonStepped.ended {hit : Bool} {c p : Nat} (h : BmonStepped m j hit s t) :
    BmonStepped m j hit s (t.demandEnd c p) := by
  obtain ⟨hword, hovl, hmem⟩ := t.demandEnd_kept (m := m) (c := c) (p := p)
  obtain ⟨hheld, -, -, hregs, -⟩ := t.demandEnd_spec (cause := c) (pos := p)
  refine ⟨h.frame.trans ⟨fun a ha => hregs a fun hs => ha (List.mem_cons_of_mem _ hs), hmem⟩, hheld.trans h.held,
    hword.trans h.word, (State.ovlOf_congr hovl _).trans h.count, fun k hk => (State.ovlOf_congr hovl k).trans (h.counts k hk)⟩

theorem bmonStep_spec : State.BmonStepped m j (u.bmonViol m j v) u (bmonStep m v u j) := by
  have h := u.violations_spec (m := m) (j := j) (u.bmonViol m j v)
  unfold bmonStep
  split
  · exact h
  · exact h.ended

/-- The thresholds below n have followed the measure v. -/
structure State.BmonDone (m v n : Nat) (s t : State) : Prop where
  frame : Touches [R.SFU_BVAL m, R.SFU_STATUS] s t
  held : t.held = s.held
  value : t.f (F.SFU_BVAL.VALUE m) = s.f (F.SFU_BVAL.VALUE m)
  shown : ∀ j, j < n → bitAt (t.reg (R.SFU_BVAL m)) (28 + j) = s.bmonViol m j v
  counted : ∀ j, j < n → t.ovlOf (4 * m + j) = if s.bmonViol m j v then s.ovlOf (4 * m + j) + 1 else 0
  rest : ∀ j, n ≤ j → t.ovlOf (4 * m + j) = s.ovlOf (4 * m + j)

theorem State.bmonViol_touches (h : Touches [R.SFU_BVAL m, R.SFU_STATUS] s t) (hj : j < 4) :
    t.bmonViol m j v = s.bmonViol m j v := by
  have hreg : t.reg (R.SFU_BTHR m j) = s.reg (R.SFU_BTHR m j) := by
    refine h.regs _ ?_
    simp only [List.mem_cons, List.not_mem_nil, or_false, not_or]
    unfold R.SFU_BTHR R.SFU_BVAL R.SFU_STATUS
    omega
  have hen : t.fb (F.SFU_BTHR.EN m j) = s.fb (F.SFU_BTHR.EN m j) := congrArg (bitAt · 31) hreg
  have hdir : t.fb (F.SFU_BTHR.DIR m j) = s.fb (F.SFU_BTHR.DIR m j) := congrArg (bitAt · 30) hreg
  have hlevel : t.f (F.SFU_BTHR.LEVEL m j) = s.f (F.SFU_BTHR.LEVEL m j) := congrArg (fld · 17 0) hreg
  rw [State.bmonViol, State.bmonViol, hen, hdir, hlevel]

theorem State.BmonDone.step {n : Nat} (h : BmonDone m v n s t) (hn : n < 4) : BmonDone m v (n + 1) s (bmonStep m v t n) := by
  have hstep := bmonStep_spec (m := m) (v := v) (u := t) (j := n)
  rw [State.bmonViol_touches h.frame hn] at hstep
  generalize bmonStep m v t n = x at *
  refine ⟨h.frame.trans hstep.frame, hstep.held.trans h.held, ?_, fun j hj => ?_, fun j hj => ?_, fun j hj => ?_⟩
  · refine Eq.trans ?_ h.value
    exact (congrArg (fld · 17 0) hstep.word).trans (fld_setFld_apart _ _ _ _ _ _ (by omega))
  · rw [hstep.word]
    rcases Nat.lt_succ_iff_lt_or_eq.1 hj with hlt | rfl
    · rw [bitAt_setFld_apart _ _ _ _ _ (by omega)]
      exact h.shown j hlt
    · rw [bitAt_setFld_same _ _ _ (by omega), testBit_b2n]
  · rcases Nat.lt_succ_iff_lt_or_eq.1 hj with hlt | rfl
    · rw [hstep.counts _ (by omega)]
      exact h.counted j hlt
    · rw [hstep.count, h.rest j (Nat.le_refl j)]
  · rw [hstep.counts _ (by omega)]
    exact h.rest j (Nat.le_of_succ_le hj)

/-- A measure is stored with its violations, and each count follows. -/
theorem State.bmonUpdate_spec {raw : Word} (hlive : s.live = true) (hen : s.fb (F.SFU_BMON.EN m) = true)
    (hmode : s.f (F.SFU_BMON.MODE m) ≠ 3) (ht : t = s.bmonUpdate m raw) :
    t.f (F.SFU_BVAL.VALUE m) = s.bmonValue m raw ∧ t.held = s.held ∧ Touches [R.SFU_BVAL m, R.SFU_STATUS] s t ∧
      ∀ j, j < 4 → bitAt (t.reg (R.SFU_BVAL m)) (28 + j) = s.bmonViol m j (s.bmonValue m raw) ∧
        t.ovlOf (4 * m + j) = if s.bmonViol m j (s.bmonValue m raw) then s.ovlOf (4 * m + j) + 1 else 0 := by
  have hlt := s.bmonValue_lt (m := m) (raw := raw)
  rw [State.bmonUpdate_of_on hlive hen hmode] at ht
  generalize s.bmonValue m raw = v at *
  have hset : OnlyRegs [R.SFU_BVAL m, R.SFU_STATUS] s (s.setF (F.SFU_BVAL.VALUE m) v) := .setF .refl List.mem_cons_self
  have hvalue : (s.setF (F.SFU_BVAL.VALUE m) v).f (F.SFU_BVAL.VALUE m) = v :=
    (State.f_setF_same _ _ _ (by decide : 17 < 32)).trans (Nat.mod_eq_of_lt hlt)
  have hheld : (s.setF (F.SFU_BVAL.VALUE m) v).held = s.held :=
    congrArg (fld · 23 20) (State.reg_setReg_ne _ _ (bval_ne_status m).symm)
  have hovl : (s.setF (F.SFU_BVAL.VALUE m) v).sfu.ovl = s.sfu.ovl := (congrArg (·.sfu.ovl) hset.1 :)
  generalize s.setF (F.SFU_BVAL.VALUE m) v = u at *
  have hstart : BmonDone m v 0 u u := ⟨.refl, rfl, rfl, fun _ h => absurd h (Nat.not_lt_zero _),
    fun _ h => absurd h (Nat.not_lt_zero _), fun _ _ => rfl⟩
  have hdone : BmonDone m v 4 u t :=
    ht ▸ State.forAll_range_invariant (BmonDone m v · u) hstart fun _ _ hi hu => hu.step hi
  refine ⟨hdone.value.trans hvalue, hdone.held.trans hheld, hset.touches.trans hdone.frame, fun j hj => ?_⟩
  have hviol : u.bmonViol m j v = s.bmonViol m j v := State.bmonViol_touches hset.touches hj
  rw [hdone.shown j hj, hdone.counted j hj, hviol, State.ovlOf_congr hovl]
  exact ⟨rfl, rfl⟩

/-! ### A violation confirmed -/

/-- The cycle since which a threshold is violated, with 1 added. -/
def State.violOf (s : State) (key : Nat) : Nat := tblGet (fun _ => (0 : Nat)) s.sfu.viol key

theorem State.monitorDemand_of_ovl (hlive : s.live = true) (hen : s.fb (F.SFU_BMON.EN m) = true)
    (hviol : s.violOf (4 * m + j) ≠ 0) (hmode : s.f (F.SFU_BMON.MODE m) = 2)
    (hconf : s.f (F.SFU_BMON.CONF m) ≤ s.ovlOf (4 * m + j)) :
    s.monitorDemand m j = s.demandLevel 8 (0x10 + (4 * m + j)) 0 false := by
  have hfunc : s.bmonFunc m = 8 := if_pos hmode
  refine (if_pos (by rw [State.sfuOn, hlive, hen, ← State.violOf, decide_eq_true hviol]; rfl)).trans <|
    (if_pos hmode).trans <| (if_pos hconf).trans ?_
  rw [hfunc]

theorem State.monitorDemand_of_delay (hlive : s.live = true) (hen : s.fb (F.SFU_BMON.EN m) = true)
    (hviol : s.violOf (4 * m + j) ≠ 0) (hmode : s.f (F.SFU_BMON.MODE m) ≠ 2) : s.monitorDemand m j =
      (s.untilCycle (s.violOf (4 * m + j) - 1 + s.f (F.SFU_BTHR.DELAY m j) * 200000)).demandLevel 4
        (0x10 + (4 * m + j)) 0 false := by
  have hfunc : s.bmonFunc m = 4 := if_neg hmode
  refine (if_pos (by rw [State.sfuOn, hlive, hen, ← State.violOf, decide_eq_true hviol]; rfl)).trans <|
    (if_neg hmode).trans ?_
  rw [hfunc]
  rfl

end

/-- Settles O41: a demand keeps all but its words until SF1 acts, and each part of the stop is one pass over its list. -/
theorem safetyDemandsAndStop : Obligations.SafetyDemandsAndStop := by
  refine ⟨fun s cause pos hlive hcause => ?_, fun s b chA chB hlive hseen => ⟨fun hnew => ?_, fun hold => ?_⟩,
    fun s b hlive => ?_, fun s v hon hnew => ?_, fun s m raw hlive hen hmode => ?_,
    fun s m j hlive hen hviol hnew => ⟨fun hmode hconf => ?_, fun hmode => ?_⟩⟩
  · obtain ⟨hheld, hfirst, hpos, hstop, hdisc, hports, hprocs, htm⟩ :=
      State.sf1Demand_spec hlive hcause cause.isLt pos.isLt
    have heq (n : BitVec 8) : cause.toNat = n.toNat ↔ cause = n := BitVec.toNat_inj
    refine .intro rfl rfl ⟨hheld.trans (by rw [State.demandFuncs_sf1]), hfirst, hpos.trans ?_, hstop,
      fun h6 => ⟨(hdisc h6).command, (hdisc h6).busy, (hdisc h6).returns⟩, hports, hprocs, htm⟩
    exact if_congr Iff.rfl (if_congr (or_congr (heq 5#8) (heq 7#8)) rfl rfl) rfl
  · obtain ⟨hlow, hregs, hsame, -⟩ := s.inputFallen_spec (b := b) (chA := chA) (chB := chB)
    refine .intro rfl (State.safeInputDemand_of_seen hlive hseen) ?_
    generalize s.inputFallen b chA chB = u at *
    have hfuncs := (State.demandFuncs_of_sfcfg (hregs R.SFU_SFCFG (by decide)) _).trans s.inputFuncs
    have hf : u.demandFuncs (if s.fb F.SFU_SIN.SF2MAP then 3 else 1) ≠ 0 := by
      rw [hfuncs]
      split <;> decide
    obtain ⟨hheld, hlist, hdem, hspares⟩ := State.demandLevel_spec (safe := false)
      ((State.isLive_congr hsame).trans hnew : u.isLive (if b then 2 else 1) 0 = false) hf
    rw [hfuncs] at hheld hlist hdem
    have hsin : ¬ haltWrites R.SFU_SIN := by
      unfold haltWrites stopWrites
      decide
    refine ⟨?_, hheld.trans (congrArg (· ||| _) (congrArg (fld · 23 20) (hregs R.SFU_STATUS (by decide)))), hdem,
      hlist.trans (by rw [hsame])⟩
    cases b
    · exact (congrArg (bitAt · 0) (hspares.regs _ hsin)).trans hlow
    · exact (congrArg (bitAt · 1) (hspares.regs _ hsin)).trans hlow
  · obtain ⟨hlow, -, hsame, hoff⟩ := s.inputFallen_spec (b := b) (chA := chA) (chB := chB)
    refine .intro rfl (State.safeInputDemand_of_seen hlive hseen) ?_
    rw [State.demandLevel_of_live ((State.isLive_congr hsame).trans hold)]
    exact ⟨hlow, hsame, hoff⟩
  · obtain ⟨hhigh, hheld, hend, hdisc, hoff⟩ := State.safeInputRelease_spec (b := b) hlive rfl
    refine .intro rfl rfl ⟨hhigh, hheld, hend, hdisc.trans ?_, hoff⟩
    cases b <;> rfl
  · obtain ⟨hfield, hheld, hprocs, htm⟩ := State.fwdemWrite_spec hon v.isLt hnew
    exact .intro rfl rfl ⟨hfield, hheld, hprocs, htm⟩
  · obtain ⟨hvalue, hheld, hframe, hshown⟩ := State.bmonUpdate_spec (raw := raw) hlive hen hmode rfl
    exact .intro rfl rfl ⟨hvalue, hheld, hframe.regs, hframe.sameMem, hshown⟩
  · exact .intro rfl (State.monitorDemand_of_ovl hlive hen hviol hmode hconf) (State.demandLevel_held hnew).1
  · refine .intro rfl (State.monitorDemand_of_delay hlive hen hviol hmode) ?_
    have hregs := s.regs_untilCycle (s.violOf (4 * m + j) - 1 + s.f (F.SFU_BTHR.DELAY m j) * 200000)
    have hsfu := s.sfu_untilCycle (s.violOf (4 * m + j) - 1 + s.f (F.SFU_BTHR.DELAY m j) * 200000)
    rw [← State.violOf]
    generalize s.untilCycle (s.violOf (4 * m + j) - 1 + s.f (F.SFU_BTHR.DELAY m j) * 200000) = u at *
    obtain ⟨hheld, hspares⟩ := State.demandLevel_held (m := 4) (safe := false)
      ((State.isLive_congr (congrArg _ hsfu)).trans hnew : u.isLive (0x10 + (4 * m.val + j.val)) 0 = false)
    refine ⟨hheld.trans ?_, State.now_of_tm hspares.tm⟩
    rw [State.demandFuncs_congr hregs, State.held, State.held, State.f_congr hregs]

end Sys2Proof.Machine

/-! The safety reset, ARM, and the reports of the comparisons (13 R382, R383, R387, R390, R401). -/

namespace Sys2Proof.Machine

/-! ## Rejected writes (13 R401) -/

section
variable {s : State} {req : Requester}

theorem State.sfuWrite_of_pair {h : State → State} (hon : s.on 2 = true) : s.sfuWrite .pair h = h s :=
  (if_pos hon).trans (if_pos rfl)

theorem State.sfuWrite_of_other {h : State → State} (hon : s.on 2 = true) (hreq : req ≠ .pair) :
    s.sfuWrite req h = s.incF F.SFU_CTRL.WREJ 1 := (if_pos hon).trans (if_neg hreq)

theorem State.wrej_spec : (s.incF F.SFU_CTRL.WREJ 1).f F.SFU_CTRL.WREJ = (s.f F.SFU_CTRL.WREJ + 1) % 256 ∧
    (s.incF F.SFU_CTRL.WREJ 1).f F.SFU_CTRL.FWDEM = s.f F.SFU_CTRL.FWDEM ∧
    OnlyRegs [R.SFU_CTRL] s (s.incF F.SFU_CTRL.WREJ 1) :=
  ⟨State.f_incF_same _ _ _ (by decide), State.f_setF_apart _ _ _ _ (by decide), .incF .refl List.mem_cons_self⟩

/-- A write of another requester than the pair is counted, whichever it is. -/
theorem exec_of_other {c : Instr} {v : BitVec 4} {mac : Bool} (hon : s.on 2 = true) (hreq : req ≠ .pair)
    (hc : c ∈ [Instr.fwdemWrite req v, .safetyReset req, .sfuArm req, .requal req, .esubSubmit req mac]) :
    exec c s = .next (s.incF F.SFU_CTRL.WREJ 1) := by
  have hrej (h : State → State) : (Host.Outcome.next (s.sfuWrite req h) : Out) = .next (s.incF F.SFU_CTRL.WREJ 1) :=
    congrArg Host.Outcome.next (State.sfuWrite_of_other hon hreq)
  simp only [List.mem_cons, List.not_mem_nil, or_false] at hc
  obtain rfl | rfl | rfl | rfl | rfl := hc <;> exact hrej _

end

/-! ## The safety reset (13 R383, R392, R393) -/

section
variable {s t : State}

/-- The conditions of the safety reset. -/
def State.ResetReady (s : State) : Prop :=
  s.f F.SFU_STATUS.DEM = 0 ∧ s.fb F.SFU_SIN.INA = true ∧ s.fb F.SFU_SIN.INB = true ∧ s.fb F.SFU_STATUS.DEGA = false ∧
    s.fb F.SFU_STATUS.DEGB = false ∧ s.sfu.tdegExp = false ∧ (∀ w ∈ s.sfu.windows, 2 ≤ w.copies.length) ∧
    s.fb F.SFU_STATUS.ARMED = true

theorem ite_some_eq_none_iff {α : Type} {p : Prop} [Decidable p] {a : α} {o : Option α} :
    (if p then some a else o) = none ↔ ¬ p ∧ o = none := by
  by_cases h : p <;> simp [h]

theorem State.sresetCond_iff : s.sresetCond = none ↔ s.ResetReady := by
  have hwin : ¬ (s.sfu.windows.any fun w => decide (w.copies.length < 2)) = true ↔
      ∀ w ∈ s.sfu.windows, 2 ≤ w.copies.length := by
    simp only [List.any_eq_true, decide_eq_true_eq, not_exists, not_and, Nat.not_lt]
  simp only [State.sresetCond, State.ResetReady, ite_some_eq_none_iff, hwin]
  simp [and_assoc]

/-! ### A refusal -/

/-- A refused request shows RSTREJ, and writes its record. -/
theorem State.sfuRefuse_spec {n : Nat} (ht : t = s.sfuRefuse n) : t.fb F.SFU_STATUS.RSTREJ = true ∧ t.held = s.held ∧
    OnlyNoted [R.SFU_STATUS, R.FCU_LDGLOST] s t := by
  have hset : OnlyNoted [R.SFU_STATUS, R.FCU_LDGLOST] s (s.setB F.SFU_STATUS.RSTREJ true) :=
    OnlyNoted.refl.setB List.mem_cons_self
  have hflag : (s.setB F.SFU_STATUS.RSTREJ true).fb F.SFU_STATUS.RSTREJ = true := State.fb_setB_same _ _ _ rfl (by decide)
  have hheld : (s.setB F.SFU_STATUS.RSTREJ true).held = s.held := State.f_setB_apart _ _ _ _ (by decide)
  rw [State.sfuRefuse] at ht
  generalize s.setB F.SFU_STATUS.RSTREJ true = u at *
  have hnote : OnlyNoted [R.FCU_LDGLOST] u t := ht ▸ OnlyNoted.refl.note List.mem_cons_self
  exact ⟨(hnote.2.fb (by decide)).trans hflag, (hnote.2.f (by decide)).trans hheld,
    hset.trans (hnote.mono (List.subset_cons_self _ _))⟩

theorem OnlyNoted.sfu {l : List Nat} (h : OnlyNoted l s t) : t.sfu = s.sfu := (congrArg State.sfu h.1 :)

/-! ### A reset that is granted -/

/-- HELD, SAFE and the cause are clear. -/
def State.latchCleared (s : State) : State :=
  ((s.setF F.SFU_STATUS.HELD 0).setB F.SFU_STATUS.SAFE false).setReg R.SFU_CAUSE 0

theorem State.latchCleared_spec (ht : t = s.latchCleared) : t.held = 0 ∧ t.fb F.SFU_STATUS.SAFE = false ∧
    t.reg R.SFU_CAUSE = 0 ∧ t.fb F.SFU_STATUS.ARMED = s.fb F.SFU_STATUS.ARMED ∧ OnlyRegs [R.SFU_STATUS, R.SFU_CAUSE] s t := by
  have hcause (u : State) (x : Field) (hx : x.addr ≠ R.SFU_CAUSE) : (u.setReg R.SFU_CAUSE 0).f x = u.f x :=
    State.f_setReg_ne _ _ _ _ hx
  have hcauseb (u : State) (x : Field) (hx : x.addr ≠ R.SFU_CAUSE) : (u.setReg R.SFU_CAUSE 0).fb x = u.fb x :=
    State.fb_setReg_ne _ _ _ _ hx
  rw [State.latchCleared] at ht
  refine ⟨?_, ?_, ?_, ?_, ?_⟩
  · rw [ht, State.held, hcause _ _ (by decide), State.f_setB_apart _ _ _ _ (by decide), State.f_setF_same _ _ _ (by decide)]
    rfl
  · rw [ht, hcauseb _ _ (by decide), State.fb_setB_same _ _ _ rfl (by decide)]
  · rw [ht, State.reg_setReg_same]
  · rw [ht, hcauseb _ _ (by decide), State.fb_setB_apart _ _ _ _ (by decide), State.fb_setF_apart _ _ _ _ (by decide)]
  · rw [ht]
    exact .setReg (.setB (.setF .refl List.mem_cons_self) List.mem_cons_self)
      (List.mem_cons_of_mem R.SFU_STATUS List.mem_cons_self)

/-- The registers of the eight bridge channels. -/
abbrev statRegs : List Nat := (List.range 8).map R.BRP_STAT

/-- SAFEHOLD of a channel is clear. -/
def State.holdCleared (s : State) (c : Nat) : State :=
  if s.fb (F.BRP_STAT.SAFEHOLD c) then s.setB (F.BRP_STAT.SAFEHOLD c) false else s

theorem State.holdCleared_same {c : Nat} : (s.holdCleared c).fb (F.BRP_STAT.SAFEHOLD c) = false := by
  unfold State.holdCleared
  split
  · exact State.fb_setB_same _ _ _ rfl (by decide : 27 < 32)
  · next h => exact Bool.eq_false_iff.2 h

theorem State.holdCleared_ne {c d : Nat} (h : d ≠ c) :
    (s.holdCleared c).fb (F.BRP_STAT.SAFEHOLD d) = s.fb (F.BRP_STAT.SAFEHOLD d) := by
  have hne : R.BRP_STAT d ≠ R.BRP_STAT c := by
    unfold R.BRP_STAT
    omega
  unfold State.holdCleared
  split
  · exact State.fb_setB_apart _ _ _ _ (.inl hne)
  · rfl

/-- SAFEHOLD of every channel is clear. -/
def State.holdsCleared (s : State) : State := s.forAll (List.range 8) State.holdCleared

theorem State.holdsCleared_spec : (∀ c, c < 8 → s.holdsCleared.fb (F.BRP_STAT.SAFEHOLD c) = false) ∧
    OnlyRegs statRegs s s.holdsCleared := by
  refine ⟨fun c hc => ?_, ?_⟩
  · exact State.forAll_range_reads (op := State.holdCleared) (read := fun t c => t.fb (F.BRP_STAT.SAFEHOLD c))
      (v := fun _ => false) (fun _ _ => State.holdCleared_same) (fun _ _ _ hij _ => State.holdCleared_ne (Nat.ne_of_lt hij)) hc
  · refine State.forAll_keeps (OnlyRegs statRegs s) _ _ s .refl fun t c hmem ht => ?_
    unfold State.holdCleared
    split
    · exact ht.setB (List.mem_map_of_mem hmem)
    · exact ht

/-- The comparison of the channels starts anew. -/
def State.comparisonReset (s : State) : State :=
  { s with sfu := { s.sfu with madeA := 0, madeB := 0, xAge := 0, xNoted := 0, resetHold := false } }

theorem State.comparisonReset_spec : s.comparisonReset.sfu.resetHold = false ∧ s.comparisonReset.regs = s.regs ∧
    s.comparisonReset.mem = s.mem ∧ s.comparisonReset.tm = s.tm := ⟨rfl, rfl, rfl, rfl⟩

/-- The instant of the first scheduled test of an output. -/
def State.firstTest (s : State) (o : Nat) : Nat :=
  if s.fb (F.SFU_PTCFG.EN o) then s.tm.refclk + (1000 * s.f (F.SFU_PTCFG.INTV o) + 100 * o) * 200000 + 1 else 0

/-- The next scheduled test of an output. -/
def State.nextTest (s : State) (o : Nat) : Nat := tblGet (fun _ => (0 : Nat)) s.sfu.ptNext o

/-- The next scheduled test of an output is set. -/
def State.testSet (s : State) (o n : Nat) : State :=
  { s with sfu := { s.sfu with ptNext := tblSet (fun _ => (0 : Nat)) s.sfu.ptNext o n } }

theorem State.testSet_spec (o n : Nat) : (s.testSet o n).nextTest o = n ∧ (∀ p, p ≠ o → (s.testSet o n).nextTest p = s.nextTest p) ∧
    (s.testSet o n).regs = s.regs ∧ (s.testSet o n).mem = s.mem ∧ (s.testSet o n).tm = s.tm ∧
    (s.testSet o n).sfu.resetHold = s.sfu.resetHold :=
  ⟨tblGet_tblSet_same _ _ _ _, fun _ hp => tblGet_tblSet_ne _ _ _ hp, rfl, rfl, rfl, rfl⟩

theorem State.ptSchedule_parts : s.ptSchedule = s.forAll (List.range 6) fun t o => t.testSet o (t.firstTest o) := rfl

/-- The schedule concerns nothing but the instants of the tests. -/
theorem State.ptSchedule_spec (ht : t = s.ptSchedule) : (∀ o, o < 6 → t.nextTest o = s.firstTest o) ∧ t.regs = s.regs ∧
    t.mem = s.mem ∧ t.sfu.resetHold = s.sfu.resetHold := by
  have hkept (l : List Nat) : (s.forAll l fun t o => t.testSet o (t.firstTest o)).regs = s.regs ∧
      (s.forAll l fun t o => t.testSet o (t.firstTest o)).tm = s.tm ∧
      (s.forAll l fun t o => t.testSet o (t.firstTest o)).mem = s.mem ∧
      (s.forAll l fun t o => t.testSet o (t.firstTest o)).sfu.resetHold = s.sfu.resetHold :=
    State.forAll_keeps (fun t => t.regs = s.regs ∧ t.tm = s.tm ∧ t.mem = s.mem ∧ t.sfu.resetHold = s.sfu.resetHold) l _ s
      ⟨rfl, rfl, rfl, rfl⟩ fun _ _ _ hu => hu
  rw [State.ptSchedule_parts] at ht
  obtain ⟨hregs, -, hmem, hhold⟩ := ht ▸ hkept (List.range 6)
  refine ⟨fun o ho => ?_, hregs, hmem, hhold⟩
  rw [ht]
  refine State.forAll_range_reads (op := fun t o => t.testSet o (t.firstTest o)) (read := fun t o => t.nextTest o)
    (v := s.firstTest) (fun i _ => ?_) (fun t i j hij _ => (t.testSet_spec j _).2.1 i (Nat.ne_of_lt hij)) ho
  obtain ⟨hregs, htm, -⟩ := hkept (List.range i)
  refine (State.testSet_spec _ _).1.trans ?_
  rw [State.firstTest, State.firstTest, State.fb_congr hregs, State.f_congr hregs, htm]

/-- What a granted safety reset gives before its record. -/
def State.resetGiven (s : State) : State := s.latchCleared.holdsCleared.comparisonReset.ptSchedule

theorem State.safetyReset_of_ready (hon : s.on 2 = true) (h : s.ResetReady) :
    s.safetyReset .pair = s.resetGiven.note 6 2 0 := by
  refine (State.sfuWrite_of_pair hon).trans ?_
  rw [State.sresetCond_iff.2 h]
  rfl

theorem State.safetyReset_of_not_ready (hon : s.on 2 = true) (h : ¬ s.ResetReady) :
    ∃ n, s.safetyReset .pair = s.sfuRefuse n := by
  obtain ⟨n, hn⟩ := Option.ne_none_iff_exists'.1 fun hnone => h (State.sresetCond_iff.1 hnone)
  refine ⟨n, (State.sfuWrite_of_pair hon).trans ?_⟩
  rw [hn]

/-- The registers that the safety reset writes. -/
abbrev resetRegs : List Nat := [R.SFU_STATUS, R.SFU_CAUSE, R.FCU_LDGLOST] ++ statRegs

theorem sfuPtcfg_not_mem {o : Nat} (ho : o < 6) : R.SFU_PTCFG o ∉ resetRegs := by
  revert o
  decide

theorem State.resetGiven_spec (ht : t = s.resetGiven) : t.held = 0 ∧ t.fb F.SFU_STATUS.SAFE = false ∧
    t.reg R.SFU_CAUSE = 0 ∧ t.fb F.SFU_STATUS.ARMED = s.fb F.SFU_STATUS.ARMED ∧
    (∀ c, c < 8 → t.fb (F.BRP_STAT.SAFEHOLD c) = false) ∧ t.sfu.resetHold = false ∧
    (∀ o, o < 6 → t.nextTest o = s.firstTest o) ∧ Touches resetRegs s t := by
  rw [State.resetGiven] at ht
  obtain ⟨hheld, hsafe, hcause, harmed, hlatch⟩ := State.latchCleared_spec (s := s) rfl
  generalize s.latchCleared = u at *
  obtain ⟨hholds, hclear⟩ := u.holdsCleared_spec
  generalize u.holdsCleared = v at *
  obtain ⟨hreset, hregs, hmem, htm⟩ := v.comparisonReset_spec
  generalize v.comparisonReset = w at *
  obtain ⟨htests, hregs', hmem', hhold⟩ := State.ptSchedule_spec ht
  have hsame := hregs'.trans hregs
  have hlow {x : Field} (hx : x.addr ≤ R.SFU_FRCNT) : x.addr ∉ statRegs := fun h => by
    obtain ⟨c, -, hc⟩ := List.mem_map.1 h
    exact absurd hx (Nat.not_le.2 (hc ▸ frcnt_lt_brpStat c))
  have hf {x : Field} (hx : x.addr ≤ R.SFU_FRCNT) : t.f x = u.f x := (State.f_congr hsame x).trans (hclear.2.f (hlow hx))
  have hfb {x : Field} (hx : x.addr ≤ R.SFU_FRCNT) : t.fb x = u.fb x := (State.fb_congr hsame x).trans (hclear.2.fb (hlow hx))
  have hframe : Touches resetRegs s w :=
    ((hlatch.touches.mono (by simp)).trans (hclear.touches.mono (List.subset_append_right _ _))).update hregs hmem
  refine ⟨(hf (by decide)).trans hheld, (hfb (by decide)).trans hsafe, ?_, (hfb (by decide)).trans harmed,
    fun c hc => (State.fb_congr hsame _).trans (hholds c hc), hhold.trans hreset, fun o ho => (htests o ho).trans ?_,
    hframe.update hregs' hmem'⟩
  · exact (State.reg_congr hsame _).trans ((hclear.2 _ (hlow (x := F.SFU_CAUSE.CAUSE) (by decide))).trans hcause)
  · have htime : w.tm = s.tm := htm.trans ((congrArg State.tm hclear.1 :).trans (congrArg State.tm hlatch.1 :))
    have hcfg : w.reg (R.SFU_PTCFG o) = s.reg (R.SFU_PTCFG o) := hframe.regs _ (sfuPtcfg_not_mem ho)
    have hen : w.fb (F.SFU_PTCFG.EN o) = s.fb (F.SFU_PTCFG.EN o) := congrArg (bitAt · 31) hcfg
    have hintv : w.f (F.SFU_PTCFG.INTV o) = s.f (F.SFU_PTCFG.INTV o) := congrArg (fld · 23 16) hcfg
    rw [State.firstTest, State.firstTest, hen, hintv, htime]

end

/-! ## ARM (13 R390) -/

section
variable {s t : State}

/-- The monitors in use. -/
def State.monitors (s : State) : List Nat := (List.range 6).filter fun m => s.fb (F.SFU_BMON.EN m)

/-- The conditions of R390 with their codes, each true where it fails. -/
def State.armConds (s : State) : List (Nat × Bool) := [
  (1, decide (s.f F.SFU_SIN.FILT < 1 ∨ 160 < s.f F.SFU_SIN.FILT)),
  (2, s.monitors.any fun m => !decide (s.f (F.SFU_BMON.MODE m) = 2) && (List.range 4).any fun j =>
    s.fb (F.SFU_BTHR.EN m j) && decide (1950 < s.f (F.SFU_BTHR.DELAY m j))),
  (3, s.monitors.any fun m => decide (s.f (F.SFU_BMON.MODE m) = 2) && decide
    (3700 < (3 + s.f (F.SFU_BMON.CONF m)) * s.bmonOsr m * s.f (F.CLK_MCLK.DIV (s.sdClk (s.f (F.SFU_BMON.SD m)))))),
  (4, (List.range 6).any fun o => s.fb (F.SFU_PTCFG.EN o) && decide (s.f (F.SFU_PTCFG.TPW o) < 10 ∨
    300 < s.f (F.SFU_PTCFG.TPW o) ∨ s.f (F.SFU_PTCFG.INTV o) < 1 ∨ 60 < s.f (F.SFU_PTCFG.INTV o))),
  (5, decide (s.f F.SFU_TDEG.SECS < 1 ∨ 259200 < s.f F.SFU_TDEG.SECS)),
  (6, s.monitors.any fun m => !s.fb (F.CLK_MCLK.EN (s.sdClk (s.f (F.SFU_BMON.SD m)))) ||
    (decide (s.f (F.SFU_BMON.MODE m) = 2) && decide (s.f (F.SFU_BMON.CONF m) = 0)))]

theorem State.cfgErr_parts : s.cfgErr = (s.armConds.find? (·.2)).map (·.1) := rfl

/-- What a monitor in use must meet. -/
def State.MonitorOk (s : State) (m : Nat) : Prop :=
  s.fb (F.CLK_MCLK.EN (s.f (F.MSR_SDCFG.CLK (s.f (F.SFU_BMON.SD m))))) = true ∧
    (s.f (F.SFU_BMON.MODE m) = 2 → s.f (F.SFU_BMON.CONF m) ≠ 0 ∧
      (3 + s.f (F.SFU_BMON.CONF m)) * (16 * 2 ^ min 4 (s.f (F.SFU_BMON.OSRC m))) *
        s.f (F.CLK_MCLK.DIV (s.f (F.MSR_SDCFG.CLK (s.f (F.SFU_BMON.SD m))))) ≤ 3700) ∧
    (s.f (F.SFU_BMON.MODE m) ≠ 2 → ∀ j, j < 4 → s.fb (F.SFU_BTHR.EN m j) = true → s.f (F.SFU_BTHR.DELAY m j) ≤ 1950)

/-- What R390 asks of the configuration. -/
def State.ArmReady (s : State) : Prop :=
  (1 ≤ s.f F.SFU_SIN.FILT ∧ s.f F.SFU_SIN.FILT ≤ 160) ∧
    (∀ m, m < 6 → s.fb (F.SFU_BMON.EN m) = true → s.MonitorOk m) ∧
    (∀ o, o < 6 → s.fb (F.SFU_PTCFG.EN o) = true → 10 ≤ s.f (F.SFU_PTCFG.TPW o) ∧ s.f (F.SFU_PTCFG.TPW o) ≤ 300 ∧
      1 ≤ s.f (F.SFU_PTCFG.INTV o) ∧ s.f (F.SFU_PTCFG.INTV o) ≤ 60) ∧
    (1 ≤ s.f F.SFU_TDEG.SECS ∧ s.f F.SFU_TDEG.SECS ≤ 259200)

/-- A list of numbers below n of which none that is in use fails. -/
theorem any_filter_range_false {n : Nat} {p q : Nat → Bool} :
    ((List.range n).filter p).any q = false ↔ ∀ m, m < n → p m = true → q m = false := by
  simp only [List.any_eq_false, List.mem_filter, List.mem_range, and_imp, Bool.not_eq_true]

theorem any_range_false {n : Nat} {q : Nat → Bool} : (List.range n).any q = false ↔ ∀ m, m < n → q m = false := by
  simp only [List.any_eq_false, List.mem_range, Bool.not_eq_true]

theorem State.cfgErr_iff : s.cfgErr = none ↔ s.ArmReady := by
  have hnone : s.cfgErr = none ↔ ∀ x ∈ s.armConds, x.2 = false := by
    simp only [State.cfgErr_parts, Option.map_eq_none_iff, List.find?_eq_none, Bool.not_eq_true]
  rw [hnone]
  simp only [State.armConds, List.forall_mem_cons, List.not_mem_nil, false_imp_iff, implies_true, and_true,
    State.monitors, any_filter_range_false, any_range_false, decide_eq_false_iff_not, Bool.and_eq_false_imp,
    Bool.not_eq_true', Bool.or_eq_false_iff, Bool.not_eq_false', decide_eq_true_eq, not_or, Nat.not_lt]
  constructor
  · rintro ⟨hfilt, hdelay, hconf, htests, hsecs, hclk⟩
    exact ⟨hfilt, fun m hm hen => ⟨(hclk m hm hen).1, fun hovl => ⟨(hclk m hm hen).2 hovl, hconf m hm hen hovl⟩,
      fun hovl => hdelay m hm hen hovl⟩, htests, hsecs⟩
  · rintro ⟨hfilt, hmon, htests, hsecs⟩
    exact ⟨hfilt, fun m hm hen hovl => (hmon m hm hen).2.2 hovl, fun m hm hen hovl => ((hmon m hm hen).2.1 hovl).2, htests,
      hsecs, fun m hm hen => ⟨(hmon m hm hen).1, fun hovl => ((hmon m hm hen).2.1 hovl).1⟩⟩

/-- The code of a condition that fails is one of six. -/
theorem State.cfgErr_range {n : Nat} (h : s.cfgErr = some n) : 1 ≤ n ∧ n ≤ 6 := by
  rw [State.cfgErr_parts, Option.map_eq_some_iff] at h
  obtain ⟨x, hfind, rfl⟩ := h
  have hcode : x.1 ∈ s.armConds.map (·.1) := List.mem_map_of_mem (List.mem_of_find?_eq_some hfind)
  simp only [State.armConds, List.map_cons, List.map_nil, List.mem_cons, List.not_mem_nil, or_false] at hcode
  omega

/-- The configuration is locked. -/
def State.armed (s : State) : State :=
  { s.setB F.SFU_STATUS.ARMED true with
    sfu := { s.sfu with armedAt := s.tm.refclk, hbOk := true, hbMiss := 0, lastOk := [], silent := [] } }

theorem State.armed_spec : s.armed.fb F.SFU_STATUS.ARMED = true ∧ OffUnit [R.SFU_STATUS] s s.armed :=
  ⟨State.fb_setB_same s _ _ rfl (by decide), (OffUnit.refl.setB List.mem_cons_self).unit⟩

theorem State.sfuArm_of_ready (hon : s.on 2 = true) (h : s.ArmReady) :
    s.sfuArm .pair = if s.fb F.SFU_STATUS.ARMED then s else s.armed := by
  refine (State.sfuWrite_of_pair hon).trans ?_
  rw [State.cfgErr_iff.2 h]
  rfl

theorem State.sfuArm_of_not_ready (hon : s.on 2 = true) (h : ¬ s.ArmReady) :
    ∃ n, (1 ≤ n ∧ n ≤ 6) ∧ s.sfuArm .pair = s.setF F.SFU_STATUS.CFGERR n := by
  obtain ⟨n, hn⟩ := Option.ne_none_iff_exists'.1 fun hnone => h (State.cfgErr_iff.1 hnone)
  refine ⟨n, State.cfgErr_range hn, (State.sfuWrite_of_pair hon).trans ?_⟩
  rw [hn]

theorem State.cfgErrShown_spec {n : Nat} (hn : n ≤ 6) : (s.setF F.SFU_STATUS.CFGERR n).f F.SFU_STATUS.CFGERR = n ∧
    (s.setF F.SFU_STATUS.CFGERR n).fb F.SFU_STATUS.ARMED = s.fb F.SFU_STATUS.ARMED ∧
    OnlyRegs [R.SFU_STATUS] s (s.setF F.SFU_STATUS.CFGERR n) :=
  ⟨(State.f_setF_same _ _ _ (by decide)).trans (Nat.mod_eq_of_lt (Nat.lt_of_le_of_lt hn (by decide))),
    State.fb_setF_apart _ _ _ _ (by decide), .setF .refl List.mem_cons_self⟩

end

/-! ## XDIS and SINDISC (13 R382, R387) -/

section
variable {s t : State}

/-- A bit of SFU_STATUS other than HELD is set with a record. -/
theorem State.flagNoted_spec {x : Field} {code data : Nat} (hx : x = F.SFU_STATUS.XDIS ∨ x = F.SFU_STATUS.SINDISC)
    (ht : t = (s.setB x true).note 6 code data) : t.fb x = true ∧ t.held = s.held ∧ t.tm = s.tm ∧
      Touches [R.SFU_STATUS, R.FCU_LDGLOST] s t := by
  have haddr : x.addr = R.SFU_STATUS := by obtain rfl | rfl := hx <;> rfl
  have hset : OnlyRegs [R.SFU_STATUS, R.FCU_LDGLOST] s (s.setB x true) := .setB .refl (haddr ▸ List.mem_cons_self)
  have hflag : (s.setB x true).fb x = true := by obtain rfl | rfl := hx <;> exact State.fb_setB_same _ _ _ rfl (by decide)
  have hheld : (s.setB x true).held = s.held := by obtain rfl | rfl := hx <;> exact State.f_setB_apart _ _ _ _ (by decide)
  have htm : (s.setB x true).tm = s.tm := (congrArg State.tm hset.1 :)
  generalize s.setB x true = u at *
  have hnote : OnlyNoted [R.FCU_LDGLOST] u t := ht ▸ OnlyNoted.refl.note List.mem_cons_self
  exact ⟨(hnote.2.fb (haddr ▸ by decide)).trans hflag, (hnote.2.f (by decide)).trans hheld,
    (congrArg State.tm hnote.1 :).trans htm, hset.touches.trans (hnote.touches.mono (List.subset_cons_self _ _))⟩

/-- The functions that differ are reported. -/
def State.differenceNoted (s : State) : State := { s with sfu := { s.sfu with xNoted := s.sfu.xNoted ||| s.xDiff } }

theorem State.differenceNoted_spec : s.differenceNoted.regs = s.regs ∧ s.differenceNoted.mem = s.mem := ⟨rfl, rfl⟩

theorem State.xdis_of_late (hlive : s.live = true) (hdiff : s.xDiff ≠ 0) (hage : s.f F.SFU_XWIN.PER ≤ s.sfu.xAge) :
    s.xdis = (s.differenceNoted.setB F.SFU_STATUS.XDIS true).note 6 8 s.xDiff :=
  if_pos (by simp [State.sfuOn, hlive, hdiff, hage])

theorem State.sindisc_of_since {c : Nat} (hlive : s.live = true) (hsince : s.sfu.discSince = some c)
    (hnew : s.fb F.SFU_STATUS.SINDISC = false) : s.sindisc =
      ((s.untilCycle (c + s.f F.SFU_SIN.DISC * 200000 + 1)).setB F.SFU_STATUS.SINDISC true).note 6 7 0 := by
  unfold State.sindisc
  rw [hsince]
  exact if_pos (by simp [State.sfuOn, hlive, hnew])

end

end Sys2Proof.Machine

/-! The loss of a channel, T_deg, the requalification and the pulse tests (13 R384 to R386, R391 to R394). -/

namespace Sys2Proof.Machine

/-! ## What a demand of a level source leaves -/

section
variable {s t : State} {m cause pos o f : Nat} {safe : Bool}

/-- A bit of SFU_STATUS that no demand writes. -/
abbrev IsFlag (x : Field) : Prop := x.addr = R.SFU_STATUS ∧ (x.lo < 16 ∨ 23 < x.lo) ∧ (x.lo < 30 ∨ 30 < x.lo)

theorem isFlag_deg (b : Bool) : IsFlag (degField b) := by cases b <;> decide

theorem State.fb_causeShown {x : Field} (hx : x.addr ≠ R.SFU_CAUSE) : (s.causeShown cause pos).fb x = s.fb x :=
  congrArg (bitAt · x.lo) (State.reg_causeShown hx)

theorem State.fb_demandShown {x : Field} (hx : IsFlag x) : (s.demandShown f cause pos safe).fb x = s.fb x := by
  obtain ⟨haddr, hlow, hsafe⟩ := hx
  have hheld : x.lo < 20 ∨ 23 < x.lo := by omega
  have hcause : ((s.heldShown f).causeShown cause pos).fb x = s.fb x :=
    (State.fb_causeShown (haddr ▸ by decide)).trans (State.fb_setF_apart _ _ _ _ (.inr hheld))
  rw [State.demandShown_parts]
  cases safe
  · exact hcause
  · exact (State.fb_setB_apart _ _ _ _ (.inr hsafe)).trans hcause

theorem State.sourceShown_flag {x : Field} (hx : IsFlag x) : (s.sourceAdded cause pos f).showDem.fb x = s.fb x :=
  (State.fb_setF_apart _ _ _ _ (.inr (hx.2.1.imp id fun h => Nat.lt_of_le_of_lt (by decide) h))).trans (State.fb_congr rfl _)

theorem status_not_stopWrites : ¬ stopWrites R.SFU_STATUS := by
  unfold stopWrites
  decide

/-- A demand keeps the flags. -/
theorem State.fb_demandLevel {x : Field} (hx : IsFlag x) : (s.demandLevel m cause pos safe).fb x = s.fb x := by
  cases hnew : s.isLive cause pos
  · by_cases hf : s.demandFuncs m = 0
    · rw [State.demandLevel_of_none hf]
    · rw [State.demandLevel_of_new hnew hf, ← State.sourceShown_flag (s := s) (cause := cause) (pos := pos) (f := s.demandFuncs m) hx]
      generalize (s.sourceAdded cause pos (s.demandFuncs m)).showDem = u
      by_cases hu : u.demandFuncs m = 0
      · rw [State.demand_of_none hu]
      · exact ((State.demand_shown hu).fb (hx.1 ▸ status_not_stopWrites)).trans (State.fb_demandShown hx)
  · rw [State.demandLevel_of_live hnew]

theorem State.sourceShown_kept : let u := (s.sourceAdded cause pos f).showDem
    (u.sfu.tdegEnd, u.sfu.tdegExp, u.sfu.requal) = (s.sfu.tdegEnd, s.sfu.tdegExp, s.sfu.requal) := rfl

/-- A demand keeps T_deg and a requalification. -/
theorem State.kept_demandLevel : let t := s.demandLevel m cause pos safe
    (t.sfu.tdegEnd, t.sfu.tdegExp, t.sfu.requal) = (s.sfu.tdegEnd, s.sfu.tdegExp, s.sfu.requal) := by
  cases hnew : s.isLive cause pos
  · by_cases hf : s.demandFuncs m = 0
    · rw [State.demandLevel_of_none hf]
    · rw [State.demandLevel_of_new hnew hf]
      exact (State.Halts.refl.demand (s := (s.sourceAdded cause pos (s.demandFuncs m)).showDem)).tdeg.trans State.sourceShown_kept
  · rw [State.demandLevel_of_live hnew]

theorem State.spares_demandLevel : Spares haltWrites s (s.demandLevel m cause pos safe) := by
  cases hnew : s.isLive cause pos
  · exact (State.demandLevel_held hnew).2
  · rw [State.demandLevel_of_live hnew]
    exact .refl

/-- A new source of the safe state brings it. -/
theorem State.safe_demandLevel (hnew : s.isLive cause pos = false) : (s.demandLevel 3 cause pos true).fb F.SFU_STATUS.SAFE = true := by
  rw [State.demandLevel_of_new hnew (by rw [State.demandFuncs_three]; decide)]
  exact State.safe_demand (by rw [State.demandFuncs_three]; decide)

/-! ### The result of a failed test during a demand -/

/-- Output o shows a failed test, and none in progress. -/
def State.TestFailed (t : State) (o : Nat) : Prop := t.fb (F.SFU_PTSTAT.FAIL o) = true ∧ t.fb (F.SFU_PTSTAT.RUNNING o) = false

theorem State.TestFailed.congr (h : t.reg (R.SFU_PTSTAT o) = s.reg (R.SFU_PTSTAT o)) (hs : s.TestFailed o) : t.TestFailed o :=
  ⟨(congrArg (bitAt · 30) h).trans hs.1, (congrArg (bitAt · 31) h).trans hs.2⟩

/-- The abort of output p counts and stops it. -/
def State.abortShown (s : State) (p : Nat) : State := (s.incF (F.SFU_PTSTAT.ABORTS p) 1).setB (F.SFU_PTSTAT.RUNNING p) false

theorem State.regs_ptAbort {p : Nat} : (s.ptAbort p).regs = if (s.ptRunning p).isSome then (s.abortShown p).regs else s.regs := by
  unfold State.ptAbort
  split <;> rfl

theorem State.TestFailed.abortShown {p : Nat} (h : s.TestFailed o) : (s.abortShown p).TestFailed o := by
  by_cases hp : o = p
  · subst hp
    exact ⟨(State.fb_setB_apart _ _ _ _ (.inr (.inl (by decide : 30 < 31)))).trans <|
      (State.fb_setF_apart _ _ _ _ (.inr (.inr (by decide : 23 < 30)))).trans h.1,
      State.fb_setB_same _ _ _ rfl (by decide : 31 < 32)⟩
  · have hne : R.SFU_PTSTAT o ≠ R.SFU_PTSTAT p := by
      unfold R.SFU_PTSTAT
      omega
    exact .congr ((State.reg_setReg_ne _ _ hne).trans (State.reg_setReg_ne _ _ hne)) h

theorem State.TestFailed.ptAbort {p : Nat} (h : s.TestFailed o) : (s.ptAbort p).TestFailed o := by
  have hregs := State.regs_ptAbort (s := s) (p := p)
  split at hregs
  · exact .congr (State.reg_congr hregs _) h.abortShown
  · exact .congr (State.reg_congr hregs _) h

theorem ptstat_not_actWrites (ho : o < 6) : ¬ actWrites (R.SFU_PTSTAT o) := by
  unfold actWrites R.CS_CMDSTAT R.SFU_PTSTAT
  omega

theorem sfuPtstat_ne (o : Nat) : R.SFU_PTSTAT o ≠ R.SFU_STATUS ∧ R.SFU_PTSTAT o ≠ R.SFU_CAUSE ∧ R.SFU_PTSTAT o ≠ R.FCU_LDGLOST := by
  unfold R.SFU_PTSTAT R.SFU_STATUS R.SFU_CAUSE R.FCU_LDGLOST
  omega

/-- The words of a demand and its record are others than the pulse tests'. -/
theorem State.demandNoted_reg : ((s.demandShown f cause pos safe).note 6 1 (f * 256 + cause)).reg (R.SFU_PTSTAT o) =
    s.reg (R.SFU_PTSTAT o) := by
  obtain ⟨hstatus, hcause, hlost⟩ := sfuPtstat_ne o
  have hshown : Halts (fun a => a = R.SFU_STATUS ∨ a = R.SFU_CAUSE ∨ a = R.FCU_LDGLOST) s
      ((s.demandShown f cause pos safe).note 6 1 (f * 256 + cause)) :=
    (Halts.refl.demandShown (.inl rfl) (.inr (.inl rfl))).note (.inr (.inr rfl))
  exact hshown.regs _ (by simp [hstatus, hcause, hlost])

theorem State.TestFailed.demandTaken (h : s.TestFailed o) : (s.demandTaken f cause pos safe).TestFailed o :=
  State.forAll_keeps (TestFailed · o) _ _ _ (.congr State.demandNoted_reg h) fun _ _ _ hu => hu.ptAbort

theorem State.TestFailed.demand (h : s.TestFailed o) (ho : o < 6) : (s.demand m cause pos safe).TestFailed o := by
  by_cases hf : s.demandFuncs m = 0
  · rwa [State.demand_of_none hf]
  · rw [State.demand_of_funcs hf]
    split
    · exact .congr (Halts.refl.sf1Act.regs _ (ptstat_not_actWrites ho)) h.demandTaken
    · exact h.demandTaken

theorem State.TestFailed.demandLevel (h : s.TestFailed o) (ho : o < 6) : (s.demandLevel m cause pos safe).TestFailed o := by
  cases hnew : s.isLive cause pos
  · by_cases hf : s.demandFuncs m = 0
    · rwa [State.demandLevel_of_none hf]
    · rw [State.demandLevel_of_new hnew hf]
      refine State.TestFailed.demand (.congr ?_ h) ho
      exact (State.reg_setReg_ne _ _ (sfuPtstat_ne o).1).trans (State.reg_congr rfl _)
  · rwa [State.demandLevel_of_live hnew]

end

/-! ## Losing a channel (13 R384, R385) -/

theorem State.onlyNoted_rose {s u : State} {src : Nat} (h : u.Records src) : OnlyNoted (assertRegs src) u (s.rose u [src]) := by
  rw [State.rose_one]
  exact .ite (State.onlyNoted_raiseUnit h) .refl

section
variable {s t u : State} {b : Bool} {r : Nat}

/-- What stays of the Safety unit's own state while a channel is lost. -/
structure SfuUnit.Same (x y : SfuUnit) : Prop where
  live : y.live = x.live
  requal : y.requal = x.requal
  run : y.ptRun = x.ptRun

theorem SfuUnit.Same.refl {x : SfuUnit} : x.Same x := ⟨rfl, rfl, rfl⟩

theorem SfuUnit.Same.trans {x y z : SfuUnit} (h : x.Same y) (h' : y.Same z) : x.Same z :=
  ⟨h'.live.trans h.live, h'.requal.trans h.requal, h'.run.trans h.run⟩

/-! ### T_deg -/

theorem State.tdegStart_frame : Touches [R.SFU_TDEGREM] s s.tdegStart ∧ s.sfu.Same s.tdegStart.sfu := by
  have hset : OnlyRegs [R.SFU_TDEGREM] s (s.setF F.SFU_TDEGREM.SECS (s.f F.SFU_TDEG.SECS)) := .setF .refl List.mem_cons_self
  unfold State.tdegStart
  split
  · exact ⟨.refl, .refl⟩
  · exact ⟨hset.touches.update rfl rfl, ⟨rfl, rfl, rfl⟩⟩

/-- T_deg runs for SFU_TDEG seconds. -/
def State.TdegRuns (s t : State) : Prop :=
  t.f F.SFU_TDEGREM.SECS = s.f F.SFU_TDEG.SECS ∧ t.sfu.tdegEnd = some (s.f F.SYSC_BSEC.SECS + s.f F.SFU_TDEG.SECS)

theorem State.tdegStart_runs (hend : s.sfu.tdegEnd = none) (hexp : s.sfu.tdegExp = false) : s.TdegRuns s.tdegStart := by
  unfold State.tdegStart
  rw [if_neg (by simp [hend, hexp])]
  exact ⟨(State.f_setF_same s _ _ (by decide)).trans (Nat.mod_eq_of_lt (fld_lt _ 17 0)), rfl⟩

theorem State.TdegRuns.congr {s₀ : State} (h : s.TdegRuns t) (htdeg : s₀.f F.SFU_TDEG.SECS = s.f F.SFU_TDEG.SECS)
    (hsec : s₀.f F.SYSC_BSEC.SECS = s.f F.SYSC_BSEC.SECS) (hrem : u.reg R.SFU_TDEGREM = t.reg R.SFU_TDEGREM)
    (hend : u.sfu.tdegEnd = t.sfu.tdegEnd) : s₀.TdegRuns u :=
  ⟨(congrArg (fld · 17 0) hrem).trans (h.1.trans htdeg.symm), hend.trans (by rw [h.2, htdeg, hsec])⟩

/-! ### The loss -/

/-- A cause of the loss of a channel is seen: its 64 periods begin anew. -/
def State.causeSeen (s : State) (b : Bool) : State :=
  { s with sfu := { s.sfu with cleanA := if b then s.sfu.cleanA else 0, cleanB := if b then 0 else s.sfu.cleanB } }

/-- The channel's flag, its record and T_deg. -/
def State.degShown (s : State) (b : Bool) (r : Nat) : State :=
  ((s.setB (degField b) true).note 6 4 (b2n b * 256 + r)).tdegStart

/-- A channel lost, before both are looked at. -/
def State.channelDegraded (s : State) (b : Bool) (r : Nat) : State :=
  (s.causeSeen b).rose ((s.causeSeen b).degShown b r) [27]

/-- Both channels lost bring the safe state. -/
def State.bothLooked (s : State) : State :=
  if s.fb F.SFU_STATUS.DEGA && s.fb F.SFU_STATUS.DEGB then s.demandLevel 3 9 0 true else s

theorem State.causeSeen_spec : (s.causeSeen b).regs = s.regs ∧ (s.causeSeen b).mem = s.mem ∧ s.sfu.Same (s.causeSeen b).sfu ∧
    (s.causeSeen b).sfu.tdegEnd = s.sfu.tdegEnd ∧ (s.causeSeen b).sfu.tdegExp = s.sfu.tdegExp :=
  ⟨rfl, rfl, ⟨rfl, rfl, rfl⟩, rfl, rfl⟩

theorem State.channelLoss_of_new (h : s.fb (degField b) = false) :
    s.channelLoss b r = (s.channelDegraded b r).bothLooked :=
  if_neg (show ¬ (s.causeSeen b).fb (degField b) = true by
    rw [State.fb_congr State.causeSeen_spec.1, h]
    decide)

theorem State.channelLoss_of_lost (h : s.fb (degField b) = true) : s.channelLoss b r = s.causeSeen b :=
  if_pos ((State.fb_congr (t := s.causeSeen b) rfl _).trans h)

theorem State.degShown_spec (ht : t = s.degShown b r) : t.fb (degField b) = true ∧
    (∀ x : Field, x.addr = R.SFU_STATUS → x.lo ≠ (degField b).lo → t.fb x = s.fb x) ∧ t.held = s.held ∧
    Touches [R.SFU_STATUS, R.FCU_LDGLOST, R.SFU_TDEGREM] s t ∧ s.sfu.Same t.sfu ∧
    (s.sfu.tdegEnd = none → s.sfu.tdegExp = false → s.TdegRuns t) := by
  have haddr : (degField b).addr = R.SFU_STATUS := by cases b <;> rfl
  have hset : OnlyNoted [R.SFU_STATUS] s (s.setB (degField b) true) := .setB .refl (haddr ▸ List.mem_cons_self)
  have hflag : (s.setB (degField b) true).fb (degField b) = true := by
    cases b <;> exact State.fb_setB_same _ _ _ rfl (by decide)
  have hothers (x : Field) (hx : x.lo ≠ (degField b).lo) : (s.setB (degField b) true).fb x = s.fb x := by
    refine State.fb_setB_apart _ _ _ _ (.inr ?_)
    cases b
    · exact Nat.lt_or_gt_of_ne hx
    · exact Nat.lt_or_gt_of_ne hx
  have hheld : (s.setB (degField b) true).held = s.held := by cases b <;> exact State.f_setB_apart _ _ _ _ (by decide)
  rw [State.degShown] at ht
  generalize s.setB (degField b) true = u at *
  have hnote : OnlyNoted [R.FCU_LDGLOST] u (u.note 6 4 (b2n b * 256 + r)) := OnlyNoted.refl.note List.mem_cons_self
  generalize u.note 6 4 (b2n b * 256 + r) = v at *
  obtain ⟨hframe, hsame⟩ := v.tdegStart_frame
  have hruns := v.tdegStart_runs
  rw [← ht] at hframe hsame hruns
  have hbefore : OnlyNoted [R.SFU_STATUS, R.FCU_LDGLOST] s v :=
    (hset.mono (by simp)).trans (hnote.mono (by simp))
  have hstatus {x : Field} (hx : x.addr = R.SFU_STATUS) : t.reg x.addr = u.reg x.addr :=
    (hframe.regs _ (hx ▸ by decide)).trans (hnote.2 _ (hx ▸ by decide))
  rw [hbefore.sfu] at hsame hruns
  refine ⟨(congrArg (bitAt · (degField b).lo) (hstatus haddr)).trans hflag,
    fun x hx hlo => (congrArg (bitAt · x.lo) (hstatus hx)).trans (hothers x hlo), ?_,
    (hbefore.touches.mono (by simp)).trans (hframe.mono (by simp)), hsame, fun hend hexp => ?_⟩
  · exact (congrArg (fld · 23 20) (hstatus (x := F.SFU_STATUS.HELD) rfl)).trans hheld
  · exact (hruns hend hexp).congr (hbefore.2.f (by decide)).symm (hbefore.2.f (by decide)).symm rfl rfl

/-- The registers that the loss of a channel writes. -/
abbrev lossRegs : List Nat := [R.SFU_STATUS, R.FCU_LDGLOST, R.SFU_TDEGREM] ++ assertRegs 27

/-- A channel is lost with its flag, source 27 and T_deg. -/
theorem State.channelDegraded_spec (hreact : s.f (F.FCU_REACT.REACT 27) ≠ 4) (ht : t = s.channelDegraded b r) :
    t.fb (degField b) = true ∧ (∀ x : Field, x.addr = R.SFU_STATUS → x.lo ≠ (degField b).lo → t.fb x = s.fb x) ∧
      t.held = s.held ∧ Touches lossRegs s t ∧ s.sfu.Same t.sfu ∧
      (s.sfu.tdegEnd = none → s.sfu.tdegExp = false → s.TdegRuns t) := by
  obtain ⟨hregs, hmem, hseen, hend, hexp⟩ := s.causeSeen_spec (b := b)
  rw [State.channelDegraded] at ht
  generalize s.causeSeen b = u at *
  obtain ⟨hflag, hothers, hheld, hframe, hsame, hruns⟩ := State.degShown_spec (s := u) (b := b) (r := r) rfl
  generalize u.degShown b r = v at *
  have hv : v.f (F.FCU_REACT.REACT 27) ≠ 4 := by
    rw [hframe.f (by decide), State.f_congr hregs]
    exact hreact
  have hrose : OnlyNoted (assertRegs 27) v t := ht ▸ State.onlyNoted_rose (.inr ⟨hv, by decide, by decide⟩)
  have hstatus {x : Field} (hx : x.addr = R.SFU_STATUS) : t.reg x.addr = v.reg x.addr := hrose.2 _ (hx ▸ by decide)
  refine ⟨(congrArg (bitAt · (degField b).lo) (hstatus (by cases b <;> rfl))).trans hflag,
    fun x hx hlo => (congrArg (bitAt · x.lo) (hstatus hx)).trans ((hothers x hx hlo).trans (State.fb_congr hregs x)), ?_,
    (Touches.refl.update hregs hmem).trans ((hframe.mono (List.subset_append_left _ _)).trans
      (hrose.touches.mono (List.subset_append_right _ _))), ?_, fun he hx => ?_⟩
  · exact (congrArg (fld · 23 20) (hstatus (x := F.SFU_STATUS.HELD) rfl)).trans
      (hheld.trans (congrArg (fld · 23 20) (State.reg_congr hregs R.SFU_STATUS)))
  · rw [hrose.sfu]
    exact hseen.trans hsame
  · exact (hruns (hend.trans he) (hexp.trans hx)).congr (State.f_congr hregs _).symm (State.f_congr hregs _).symm
      (hrose.2 _ (by decide)) (congrArg (·.tdegEnd) hrose.sfu)

/-- Looking at both channels keeps the flags, T_deg, the requalification and a failed test. -/
theorem State.bothLooked_spec : (∀ x, IsFlag x → s.bothLooked.fb x = s.fb x) ∧
    s.bothLooked.reg R.SFU_TDEGREM = s.reg R.SFU_TDEGREM ∧
    (s.bothLooked.sfu.tdegEnd, s.bothLooked.sfu.tdegExp, s.bothLooked.sfu.requal) =
      (s.sfu.tdegEnd, s.sfu.tdegExp, s.sfu.requal) ∧
    ∀ o, o < 6 → s.TestFailed o → s.bothLooked.TestFailed o := by
  have hrem : ¬ haltWrites R.SFU_TDEGREM := by
    unfold haltWrites stopWrites
    decide
  unfold State.bothLooked
  split
  · exact ⟨fun _ hx => State.fb_demandLevel hx, State.spares_demandLevel.regs _ hrem, State.kept_demandLevel,
      fun o ho h => h.demandLevel ho⟩
  · exact ⟨fun _ _ => rfl, rfl, rfl, fun _ _ h => h⟩

end

end Sys2Proof.Machine

/-! CHANNEL_LOST, TDEG_EXPIRY, REQUAL and the pulse tests as commands (13 R384 to R386, R391 to R394). -/

namespace Sys2Proof.Machine

/-! ## CHANNEL_LOST (13 R384, R385) -/

section
variable {s t : State} {b : Bool} {r : Nat}

theorem State.channelLost_of_cause (hlive : s.live = true) (harmed : s.fb F.SFU_STATUS.ARMED = true)
    (hcause : s.lossCause b r = true) : s.channelLost b r = s.channelLoss b r :=
  if_pos (by rw [State.sfuOn, hlive, harmed, hcause]; decide)

theorem State.lossCause_iff : s.lossCause b r = true ↔ if b then r = 1 ∨ r = 2 else (r = 1 ∧ 2 ≤ s.sfu.hbMiss) ∨
    (r = 2 ∧ s.fb (F.FCU_WDT.EXP 4) = true) ∨ (r = 3 ∧ (s.proc 4).run = .stopped) := by
  cases b
  · by_cases h1 : r = 1
    · simp [State.lossCause, h1]
    · by_cases h2 : r = 2
      · simp [State.lossCause, h2]
      · simp [State.lossCause, h1, h2]
  · simp [State.lossCause]

theorem State.bothLooked_of_one (hflag : s.fb (degField b) = true) (hother : s.fb (degField (!b)) = false) :
    s.bothLooked = s := by
  refine if_neg ?_
  cases b
  · rw [show s.fb F.SFU_STATUS.DEGB = false from hother, Bool.and_false]
    decide
  · rw [show s.fb F.SFU_STATUS.DEGA = false from hother, Bool.false_and]
    decide

theorem State.bothLooked_of_both (hflag : s.fb (degField b) = true) (hother : s.fb (degField (!b)) = true) :
    s.bothLooked = s.demandLevel 3 9 0 true := by
  refine if_pos ?_
  cases b
  · exact Bool.and_eq_true_iff.2 ⟨hflag, hother⟩
  · exact Bool.and_eq_true_iff.2 ⟨hother, hflag⟩

/-- The loss of a channel shows its flag and T_deg, and both lost bring the safe state. -/
theorem State.channelLoss_spec (hreact : s.f (F.FCU_REACT.REACT 27) ≠ 4) (hnew : s.fb (degField b) = false)
    (ht : t = s.channelLoss b r) : t.fb (degField b) = true ∧
      (s.sfu.tdegEnd = none → s.sfu.tdegExp = false → s.TdegRuns t) ∧
      (s.fb (degField (!b)) = false → t.held = s.held) ∧
      (s.fb (degField (!b)) = true → s.isLive 9 0 = false → t.fb F.SFU_STATUS.SAFE = true ∧ t.held = s.held ||| 3) := by
  rw [State.channelLoss_of_new hnew] at ht
  obtain ⟨hflag, hothers, hheld, -, hsame, hruns⟩ := State.channelDegraded_spec (b := b) (r := r) hreact rfl
  generalize s.channelDegraded b r = v at *
  obtain ⟨hflags, hrem, hkept, -⟩ := v.bothLooked_spec
  have hother : v.fb (degField (!b)) = s.fb (degField (!b)) := hothers _ (by cases b <;> rfl) (by cases b <;> decide)
  rw [← ht] at hflags hrem hkept
  refine ⟨(hflags _ (isFlag_deg b)).trans hflag, fun hend hexp => ?_, fun hone => ?_, fun hboth hlive => ?_⟩
  · exact (hruns hend hexp).congr rfl rfl hrem (congrArg Prod.fst hkept)
  · rw [ht, State.bothLooked_of_one hflag (hother.trans hone)]
    exact hheld
  · rw [ht, State.bothLooked_of_both hflag (hother.trans hboth)]
    have hlive' : v.isLive 9 0 = false := (State.isLive_congr hsame.live).trans hlive
    exact ⟨State.safe_demandLevel hlive',
      (State.demandLevel_held hlive').1.trans (by rw [State.demandFuncs_three, hheld])⟩

/-- The loss of a channel whose test has failed keeps the result and what is not of the loss. -/
theorem State.channelLoss_kept (hreact : s.f (F.FCU_REACT.REACT 27) ≠ 4) (ht : t = s.channelLoss b r) :
    t.fb (degField b) = true ∧ (∀ x, IsFlag x → x.lo ≠ (degField b).lo → t.fb x = s.fb x) ∧
      t.sfu.requal = s.sfu.requal ∧ ∀ o, o < 6 → s.TestFailed o → t.TestFailed o := by
  cases hnew : s.fb (degField b)
  · rw [State.channelLoss_of_new hnew] at ht
    obtain ⟨hflag, hothers, -, hframe, hsame, -⟩ := State.channelDegraded_spec (b := b) (r := r) hreact rfl
    generalize s.channelDegraded b r = v at *
    obtain ⟨hflags, -, hkept, hfailed⟩ := v.bothLooked_spec
    rw [← ht] at hflags hkept hfailed
    have hstat {o : Nat} (ho : o < 6) : R.SFU_PTSTAT o ∉ lossRegs := by
      revert o
      decide
    exact ⟨(hflags _ (isFlag_deg b)).trans hflag, fun x hx hlo => (hflags x hx).trans (hothers x hx.1 hlo),
      (congrArg (·.2.2) hkept).trans hsame.requal, fun o ho h => hfailed o ho (.congr (hframe.regs _ (hstat ho)) h)⟩
  · rw [State.channelLoss_of_lost hnew] at ht
    obtain ⟨hregs, -, hsame, -⟩ := s.causeSeen_spec (b := b)
    rw [← ht] at hregs hsame
    exact ⟨(State.fb_congr hregs _).trans hnew, fun x _ _ => State.fb_congr hregs x, hsame.requal,
      fun o _ h => .congr (State.reg_congr hregs _) h⟩

end

/-! ## TDEG_EXPIRY (13 R385) -/

section
variable {s t : State} {e : Nat}

/-- T_deg has expired. -/
def State.tdegEnded (s : State) : State :=
  { s.setF F.SFU_TDEGREM.SECS 0 with sfu := { s.sfu with tdegEnd := none, tdegExp := true } }

theorem State.tdegExpiry_of_run (hlive : s.live = true) (hend : s.sfu.tdegEnd = some e) :
    s.tdegExpiry = (s.untilSecond e).tdegEnded.demandLevel 3 8 0 true := by
  unfold State.tdegExpiry
  rw [hend]
  exact if_pos hlive

theorem State.untilSecond_spec : SameRegsBut [R.SYSC_BSEC] s (s.untilSecond e) ∧ (s.untilSecond e).sfu = s.sfu := by
  unfold State.untilSecond
  split
  · exact ⟨(SameRegsBut.ofRegs (s := s) rfl).setF (x := F.SYSC_BSEC.SECS) List.mem_cons_self, rfl⟩
  · exact ⟨fun _ _ => rfl, rfl⟩

theorem State.tdegEnded_spec : s.tdegEnded.f F.SFU_TDEGREM.SECS = 0 ∧ s.tdegEnded.held = s.held ∧
    s.tdegEnded.sfu.tdegEnd = none ∧ s.tdegEnded.sfu.tdegExp = true ∧ s.tdegEnded.sfu.live = s.sfu.live :=
  ⟨State.f_setF_same s _ 0 (by decide), State.f_setF_apart s _ _ 0 (by decide), rfl, rfl, rfl⟩

theorem State.tdegExpiry_spec (hlive : s.live = true) (hend : s.sfu.tdegEnd = some e) (hnew : s.isLive 8 0 = false)
    (ht : t = s.tdegExpiry) : t.fb F.SFU_STATUS.SAFE = true ∧ t.held = s.held ||| 3 ∧ t.sfu.tdegEnd = none ∧
      t.sfu.tdegExp = true ∧ t.f F.SFU_TDEGREM.SECS = 0 := by
  rw [State.tdegExpiry_of_run hlive hend] at ht
  obtain ⟨hregs, hsfu⟩ := s.untilSecond_spec (e := e)
  generalize s.untilSecond e = u at *
  obtain ⟨hrem, hheld, hnone, hexp, hlist⟩ := u.tdegEnded_spec
  generalize u.tdegEnded = v at *
  have hv : v.isLive 8 0 = false := (State.isLive_congr (hlist.trans (congrArg (·.live) hsfu))).trans hnew
  have hkept := State.kept_demandLevel (s := v) (m := 3) (cause := 8) (pos := 0) (safe := true)
  have hword : ¬ haltWrites R.SFU_TDEGREM := by
    unfold haltWrites stopWrites
    decide
  have hspares := State.spares_demandLevel (s := v) (m := 3) (cause := 8) (pos := 0) (safe := true)
  have hsafe := State.safe_demandLevel hv
  have hlatch := (State.demandLevel_held (m := 3) (safe := true) hv).1
  rw [← ht] at hkept hspares hsafe hlatch
  refine ⟨hsafe, ?_, (congrArg (·.1) hkept).trans hnone, (congrArg (·.2.1) hkept).trans hexp,
    (congrArg (fld · 17 0) (hspares.regs _ hword)).trans hrem⟩
  rw [hlatch, State.demandFuncs_three, hheld]
  exact congrArg (· ||| 3) (congrArg (fld · 23 20) (hregs R.SFU_STATUS (by decide)))

end

/-! ## Pulses (13 R391 to R393) -/

section
variable {s t u : State} {o : Nat}

/-- The cycle in which the pulse of an output began, with 1 added; 0 where none runs. -/
def State.runOf (s : State) (o : Nat) : Nat := tblGet (fun _ => (0 : Nat)) s.sfu.ptRun o

theorem State.ptRunning_of_zero (h : s.runOf o = 0) : s.ptRunning o = none := by
  unfold State.ptRunning
  rw [show tblGet _ s.sfu.ptRun o = 0 from h]

theorem State.ptRunning_of_succ {c : Nat} (h : s.runOf o = c + 1) : s.ptRunning o = some c := by
  unfold State.ptRunning
  rw [show tblGet _ s.sfu.ptRun o = c + 1 from h]

theorem State.ptStop_spec : (s.ptStop o).fb (F.SFU_PTSTAT.RUNNING o) = false ∧
    (s.ptStop o).f (F.SFU_PTSTAT.TESTS o) = s.f (F.SFU_PTSTAT.TESTS o) ∧ Touches [R.SFU_PTSTAT o] s (s.ptStop o) ∧
    (s.ptStop o).sfu.requal = s.sfu.requal := by
  have hset : OnlyRegs [R.SFU_PTSTAT o] s (s.setB (F.SFU_PTSTAT.RUNNING o) false) := .setB .refl List.mem_cons_self
  have hregs : (s.ptStop o).regs = (s.setB (F.SFU_PTSTAT.RUNNING o) false).regs := rfl
  exact ⟨(State.fb_congr hregs _).trans (State.fb_setB_same _ _ _ rfl (by decide : 31 < 32)),
    (State.f_congr hregs _).trans (State.f_setB_apart _ _ _ _ (.inr (.inl (by decide : 15 < 31)))),
    hset.touches.update hregs rfl, rfl⟩

theorem State.ptBegin_spec : (s.ptBegin o).fb (F.SFU_PTSTAT.RUNNING o) = true ∧ Touches [R.SFU_PTSTAT o] s (s.ptBegin o) ∧
    (s.ptBegin o).sfu.requal = s.sfu.requal ∧ (s.ptBegin o).sfu.ptNext = s.sfu.ptNext := by
  have hset : OnlyRegs [R.SFU_PTSTAT o] s (s.setB (F.SFU_PTSTAT.RUNNING o) true) := .setB .refl List.mem_cons_self
  have hregs : (s.ptBegin o).regs = (s.setB (F.SFU_PTSTAT.RUNNING o) true).regs := rfl
  exact ⟨(State.fb_congr hregs _).trans (State.fb_setB_same _ _ _ rfl (by decide : 31 < 32)),
    hset.touches.update hregs rfl, rfl, rfl⟩

/-- An output whose pulse runs stands at trip level. -/
theorem State.outTrip_of_running (h : s.fb (F.SFU_PTSTAT.RUNNING o) = true) : s.outTrip o = true := by
  rw [State.outTrip, h]
  simp

/-! ## REQUAL (13 R386, R394) -/

/-- No pulse of the listed outputs runs. -/
def State.testsStopped (s : State) (l : List Nat) : State :=
  s.forAll l fun x o => if (x.ptRunning o).isSome then x.ptStop o else x

/-- The tests of a requalification wait. -/
def State.requalSet (s : State) (b : Bool) : State := { s with sfu := { s.sfu with requal := some (b, chanOuts b) } }

/-- A requalification of a channel begins with its first output. -/
def State.requalBegun (s : State) (b : Bool) : State :=
  ((s.testsStopped (chanOuts b)).requalSet b).ptBegin (if b then 1 else 0)

theorem State.testsStopped_frame {l : List Nat} : Touches (l.map R.SFU_PTSTAT) s (s.testsStopped l) :=
  Touches.refl.forAll fun u x hx hu =>
    .ite (hu.trans (u.ptStop_spec (o := x).2.2.1.mono (List.cons_subset.2 ⟨List.mem_map_of_mem hx, List.nil_subset _⟩))) hu

theorem State.requalBegun_spec {b : Bool} (ht : t = s.requalBegun b) : t.sfu.requal = some (b, chanOuts b) ∧
    t.fb (F.SFU_PTSTAT.RUNNING (if b then 1 else 0)) = true ∧ t.fb F.SFU_STATUS.DEGA = s.fb F.SFU_STATUS.DEGA := by
  have hstop : Touches ((chanOuts b).map R.SFU_PTSTAT) s (s.testsStopped (chanOuts b)) := State.testsStopped_frame
  rw [State.requalBegun] at ht
  generalize s.testsStopped (chanOuts b) = u at *
  obtain ⟨hrun, hframe, hrequal, -⟩ := (u.requalSet b).ptBegin_spec (o := if b then 1 else 0)
  rw [← ht] at hrun hframe hrequal
  refine ⟨hrequal.trans rfl, hrun, ?_⟩
  have hstatus : R.SFU_STATUS ∉ (chanOuts b).map R.SFU_PTSTAT := by cases b <;> decide
  have hfirst : R.SFU_STATUS ∉ [R.SFU_PTSTAT (if b then 1 else 0)] := by cases b <;> decide
  exact (hframe.fb (x := F.SFU_STATUS.DEGA) hfirst).trans ((State.fb_congr rfl _).trans (hstop.fb (x := F.SFU_STATUS.DEGA) hstatus))

theorem State.requal_of_none (hon : s.on 2 = true) (ha : s.fb F.SFU_STATUS.DEGA = false)
    (hb : s.fb F.SFU_STATUS.DEGB = false) : s.requalWrite .pair = s.sfuRefuse 0x11 :=
  (State.sfuWrite_of_pair hon).trans (if_pos (by rw [ha, hb]; decide))

theorem State.requal_of_a (hon : s.on 2 = true) (ha : s.fb F.SFU_STATUS.DEGA = true) (hclean : 64 ≤ s.sfu.cleanA)
    (hfree : s.sfu.requal = none) : s.requalWrite .pair = s.requalBegun false := by
  refine (State.sfuWrite_of_pair hon).trans ((if_neg (by rw [ha]; simp)).trans ?_)
  rw [ha, decide_eq_true hclean, hfree]
  exact if_pos (by simp [hclean])

theorem State.requal_of_b (hon : s.on 2 = true) (ha : s.fb F.SFU_STATUS.DEGA = false) (hb : s.fb F.SFU_STATUS.DEGB = true)
    (hclean : 64 ≤ s.sfu.cleanB) (hfree : s.sfu.requal = none) : s.requalWrite .pair = s.requalBegun true := by
  refine (State.sfuWrite_of_pair hon).trans ((if_neg (by rw [ha, hb]; decide)).trans ?_)
  rw [ha, hb, hfree]
  exact if_pos (by simp [hclean])

/-! ## PULSE_TEST_START and PULSE_TEST_RESULT (13 R391, R392) -/

/-- The instant from which a scheduled test may start. -/
def State.testStart (s : State) (o : Nat) : Nat :=
  max (s.nextTest o - 1) (if tblGet (fun _ => (0 : Nat)) s.sfu.ptEnd (ptOther o) = 0 then 0
    else tblGet (fun _ => (0 : Nat)) s.sfu.ptEnd (ptOther o) - 1 + msCycles 10)

theorem State.pulseTestStart_of_due (hlive : s.live = true) (hfree : s.sfu.requal = none)
    (harmed : s.fb F.SFU_STATUS.ARMED = true) (hen : s.fb (F.SFU_PTCFG.EN o) = true) (hnext : s.nextTest o ≠ 0)
    (htrip : s.outTrip o = false) (hrun : s.runOf o = 0) (hother : s.runOf (ptOther o) = 0) : s.pulseTestStart o =
      ((s.untilCycle (s.testStart o)).ptBegin o).testSet o
        (s.nextTest o + msCycles (1000 * ((s.untilCycle (s.testStart o)).ptBegin o).f (F.SFU_PTCFG.INTV o))) := by
  unfold State.pulseTestStart
  rw [State.ptRunning_of_zero hrun, State.ptRunning_of_zero hother, hfree]
  refine (if_pos (by rw [State.sfuOn, hlive]; rfl)).trans ?_
  exact if_pos (by rw [harmed, hen, htrip, ← State.nextTest, decide_eq_true hnext]; rfl)

theorem State.pulseTestStart_spec (hu : u = (s.untilCycle (s.testStart o)).ptBegin o)
    (ht : t = u.testSet o (s.nextTest o + msCycles (1000 * u.f (F.SFU_PTCFG.INTV o)))) :
    t.fb (F.SFU_PTSTAT.RUNNING o) = true ∧ t.outTrip o = true ∧
      t.nextTest o = s.nextTest o + s.f (F.SFU_PTCFG.INTV o) * 200000000 ∧ Touches [R.SFU_PTSTAT o] s t := by
  have hregs := s.regs_untilCycle (s.testStart o)
  have hmem := s.mem_untilCycle (s.testStart o)
  generalize s.untilCycle (s.testStart o) = v at *
  obtain ⟨hrun, hframe, -⟩ := v.ptBegin_spec (o := o)
  rw [← hu] at hrun hframe
  have hne : R.SFU_PTCFG o ∉ [R.SFU_PTSTAT o] := by
    rw [List.mem_singleton]
    unfold R.SFU_PTCFG R.SFU_PTSTAT
    omega
  have hintv : u.f (F.SFU_PTCFG.INTV o) = s.f (F.SFU_PTCFG.INTV o) :=
    (hframe.f (x := F.SFU_PTCFG.INTV o) hne).trans (State.f_congr hregs _)
  obtain ⟨hnext, -, hregs', hmem', -⟩ := u.testSet_spec o (s.nextTest o + msCycles (1000 * u.f (F.SFU_PTCFG.INTV o)))
  rw [← ht] at hnext hregs' hmem'
  have hrun' := (State.fb_congr hregs' _).trans hrun
  refine ⟨hrun', State.outTrip_of_running hrun', hnext.trans ?_, ((Touches.refl.update hregs hmem).trans hframe).update hregs' hmem'⟩
  rw [hintv, msCycles]
  omega

theorem State.sfu_incF (x : Field) (d : Nat) : (s.incF x d).sfu = s.sfu := rfl

/-- A test passed counts. -/
theorem State.pulseTestResult_of_pass {c : Nat} (hlive : s.live = true) (hrun : s.runOf o = c + 1) (hfree : s.sfu.requal = none) :
    s.pulseTestResult o true =
      ((s.untilCycle (c + usCycles (s.f (F.SFU_PTCFG.TPW o)))).ptStop o).incF (F.SFU_PTSTAT.TESTS o) 1 := by
  have hkept : (((s.untilCycle (c + usCycles (s.f (F.SFU_PTCFG.TPW o)))).ptStop o).incF (F.SFU_PTSTAT.TESTS o) 1).sfu.requal =
      none := by
    rw [State.sfu_incF, State.ptStop_spec.2.2.2, s.sfu_untilCycle, hfree]
  unfold State.pulseTestResult
  rw [State.ptRunning_of_succ hrun]
  refine (if_pos hlive).trans ?_
  simp only [if_true]
  rw [hkept]

/-- The words of a failed test. -/
def State.testFailed (s : State) (o : Nat) : State :=
  ((s.setB F.SFU_STATUS.PTFAIL true).setB (F.SFU_PTSTAT.FAIL o) true).note 6 6 o

theorem State.passed_spec {w : Nat} (hu : u = s.untilCycle w) (ht : t = (u.ptStop o).incF (F.SFU_PTSTAT.TESTS o) 1) :
    t.f (F.SFU_PTSTAT.TESTS o) = (s.f (F.SFU_PTSTAT.TESTS o) + 1) % 65536 ∧ t.fb (F.SFU_PTSTAT.RUNNING o) = false ∧
      Touches [R.SFU_PTSTAT o] s t := by
  have hregs : u.regs = s.regs := hu ▸ s.regs_untilCycle w
  have hmem : u.mem = s.mem := hu ▸ s.mem_untilCycle w
  obtain ⟨hrun, htests, hframe, -⟩ := u.ptStop_spec (o := o)
  generalize u.ptStop o = v at *
  have hset : OnlyRegs [R.SFU_PTSTAT o] v t := ht ▸ .incF .refl List.mem_cons_self
  refine ⟨?_, ?_, ((Touches.refl.update hregs hmem).trans hframe).trans hset.touches⟩
  · rw [ht, State.f_incF_same _ _ _ (by decide : 15 < 32), htests, State.f_congr hregs]
    rfl
  · rw [ht]
    exact (State.fb_setF_apart _ _ _ _ (.inr (.inr (by decide : 15 < 31)))).trans hrun

/-- The words of a failed test show it, and keep what else is of the unit. -/
theorem State.testFailed_spec (hrun : s.fb (F.SFU_PTSTAT.RUNNING o) = false) (ht : t = s.testFailed o) :
    t.fb F.SFU_STATUS.PTFAIL = true ∧ t.TestFailed o ∧ OnlyNoted [R.SFU_STATUS, R.SFU_PTSTAT o, R.FCU_LDGLOST] s t := by
  obtain ⟨hstat, -, hlost⟩ := sfuPtstat_ne o
  have hset : OnlyRegs [R.SFU_STATUS, R.SFU_PTSTAT o, R.FCU_LDGLOST] s
      ((s.setB F.SFU_STATUS.PTFAIL true).setB (F.SFU_PTSTAT.FAIL o) true) :=
    .setB (.setB .refl List.mem_cons_self) (List.mem_cons_of_mem R.SFU_STATUS List.mem_cons_self)
  have hflag : ((s.setB F.SFU_STATUS.PTFAIL true).setB (F.SFU_PTSTAT.FAIL o) true).fb F.SFU_STATUS.PTFAIL = true :=
    (State.fb_setB_apart _ _ _ _ (.inl hstat.symm)).trans (State.fb_setB_same _ _ _ rfl (by decide))
  have hfailed : ((s.setB F.SFU_STATUS.PTFAIL true).setB (F.SFU_PTSTAT.FAIL o) true).TestFailed o :=
    ⟨State.fb_setB_same _ _ _ rfl (by decide : 30 < 32),
      (State.fb_setB_apart _ _ _ _ (.inr (.inr (by decide : 30 < 31)))).trans
        ((State.fb_setB_apart _ _ _ _ (.inl hstat)).trans hrun)⟩
  rw [State.testFailed] at ht
  generalize (s.setB F.SFU_STATUS.PTFAIL true).setB (F.SFU_PTSTAT.FAIL o) true = u at *
  have hnote : OnlyNoted [R.FCU_LDGLOST] u t := ht ▸ OnlyNoted.refl.note List.mem_cons_self
  exact ⟨(hnote.2.fb (by decide)).trans hflag, .congr (hnote.2 _ fun h => hlost (List.mem_singleton.1 h)) hfailed,
    hset.noted.trans (hnote.mono (by simp))⟩

theorem State.pulseTestResult_of_fail {c : Nat} (hlive : s.live = true) (hrun : s.runOf o = c + 1)
    (hkept : (((((s.untilCycle (c + usCycles 20)).ptStop o).testFailed o).channelLoss (decide (o % 2 = 1))
      (if decide (o % 2 = 1) then 3 else 4)).sfu.requal = none)) : s.pulseTestResult o false =
      (((s.untilCycle (c + usCycles 20)).ptStop o).testFailed o).channelLoss (decide (o % 2 = 1))
        (if decide (o % 2 = 1) then 3 else 4) := by
  unfold State.pulseTestResult
  rw [State.ptRunning_of_succ hrun]
  refine (if_pos hlive).trans ?_
  simp only [Bool.false_eq_true, if_false]
  rw [← State.testFailed, hkept]

theorem fcuReact_not_mem_failed (ho : o < 6) : R.FCU_REACT 27 ∉ [R.SFU_STATUS, R.SFU_PTSTAT o, R.FCU_LDGLOST] ∧
    R.FCU_REACT 27 ∉ [R.SFU_PTSTAT o] := by
  revert o
  decide

/-- A failed test shows and loses its channel. -/
theorem State.pulseTestResult_fail_spec {c : Nat} (ho : o < 6) (hlive : s.live = true) (hrun : s.runOf o = c + 1)
    (hfree : s.sfu.requal = none) (hreact : s.f (F.FCU_REACT.REACT 27) ≠ 4) (ht : t = s.pulseTestResult o false) :
    t.fb F.SFU_STATUS.PTFAIL = true ∧ t.TestFailed o ∧ t.fb (degField (decide (o % 2 = 1))) = true := by
  have hresult := State.pulseTestResult_of_fail hlive hrun
  have hregs := s.regs_untilCycle (c + usCycles 20)
  have hsfu := s.sfu_untilCycle (c + usCycles 20)
  generalize s.untilCycle (c + usCycles 20) = u at *
  obtain ⟨hstopped, -, hframe, hrequal⟩ := u.ptStop_spec (o := o)
  generalize u.ptStop o = v at *
  obtain ⟨hflag, hfailed, hnoted⟩ := State.testFailed_spec hstopped rfl
  generalize v.testFailed o = x at *
  have hreg := fcuReact_not_mem_failed ho
  have hx : x.f (F.FCU_REACT.REACT 27) ≠ 4 := by
    rw [hnoted.2.f (x := F.FCU_REACT.REACT 27) hreg.1, hframe.f (x := F.FCU_REACT.REACT 27) hreg.2, State.f_congr hregs]
    exact hreact
  obtain ⟨hdeg, hflags, hkept, hfails⟩ := State.channelLoss_kept (b := decide (o % 2 = 1))
    (r := if decide (o % 2 = 1) then 3 else 4) hx rfl
  have hnone := hkept.trans ((congrArg (·.requal) hnoted.sfu).trans (hrequal.trans ((congrArg (·.requal) hsfu).trans hfree)))
  rw [ht, hresult hnone]
  refine ⟨(hflags F.SFU_STATUS.PTFAIL (by decide) ?_).trans hflag, hfails o ho hfailed, hdeg⟩
  cases decide (o % 2 = 1) <;> decide

end

/-- Settles O42: each command is one equation on its condition, and the loss of a channel keeps what a test has shown. -/
theorem safetyResetArmAndChannels : Obligations.SafetyResetArmAndChannels := by
  refine ⟨fun s req v mac hon hreq c hc => ?_, fun s hon => ⟨fun hok => ?_, fun hbad => ?_⟩,
    fun s hon => ⟨fun hok => ?_, fun hbad => ?_⟩, fun s b row hlive harmed hreact hnew hcause => ?_,
    fun s e hlive hend hnew => ?_, fun s hlive hdiff hage => ?_, fun s c hlive hsince hnew => ?_,
    fun s hon => ⟨fun ha hb => ?_, fun ha hclean hfree => ?_, fun ha hb hclean hfree => ?_⟩,
    fun s o hlive hfree harmed hen hnext htrip hrun hother => ?_,
    fun s o c hlive hrun hfree => ⟨?_, fun hreact => ?_⟩⟩
  · exact .intro (exec_of_other hon hreq hc) rfl s.wrej_spec
  · obtain ⟨hheld, hsafe, hcause, harmed, hholds, hhold, htests, hframe⟩ := State.resetGiven_spec (s := s) rfl
    refine .intro rfl (State.safetyReset_of_ready hon hok) ?_
    generalize s.resetGiven = u at *
    have hnote : OnlyNoted [R.FCU_LDGLOST] u (u.note 6 2 0) := OnlyNoted.refl.note List.mem_cons_self
    generalize u.note 6 2 0 = t at *
    have hstat (c : Nat) (hc : c < 8) : R.BRP_STAT c ∉ [R.FCU_LDGLOST] := by
      revert c
      decide
    exact ⟨(hnote.2.f (by decide)).trans hheld, (hnote.2.fb (by decide)).trans hsafe, (hnote.2 _ (by decide)).trans hcause,
      (hnote.2.fb (by decide)).trans (harmed.trans hok.2.2.2.2.2.2.2),
      fun c hc => (hnote.2.fb (x := F.BRP_STAT.SAFEHOLD c) (hstat c hc)).trans (hholds c hc),
      (congrArg (·.resetHold) hnote.sfu).trans hhold,
      fun o ho => (congrArg (fun x : SfuUnit => tblGet (fun _ => (0 : Nat)) x.ptNext o) hnote.sfu).trans (htests o ho),
      (hframe.trans (hnote.touches.mono (by simp))).regs, (hframe.trans (hnote.touches.mono (by simp))).sameMem⟩
  · obtain ⟨n, hrefuse⟩ := State.safetyReset_of_not_ready hon hbad
    obtain ⟨hflag, hheld, hframe⟩ := State.sfuRefuse_spec (s := s) (n := n) rfl
    exact .intro rfl hrefuse ⟨hflag, hheld, hframe.2, hframe.touches.sameMem, hframe.sfu⟩
  · refine .intro rfl (State.sfuArm_of_ready hon hok) ?_
    split
    · next h => exact ⟨h, State.OffUnit.refl⟩
    · exact s.armed_spec
  · obtain ⟨n, hn, hcode⟩ := State.sfuArm_of_not_ready hon hbad
    obtain ⟨hfield, harmed, hframe⟩ := s.cfgErrShown_spec hn.2
    exact .intro rfl hcode ⟨hfield.symm ▸ hn.1, hfield.symm ▸ hn.2, harmed, hframe⟩
  · obtain ⟨hflag, hruns, hone, hboth⟩ := State.channelLoss_spec (r := row) hreact hnew rfl
    refine .intro rfl (State.channelLost_of_cause hlive harmed (State.lossCause_iff.2 hcause)) ?_
    generalize s.channelLoss b row = t at *
    cases b
    · exact ⟨hflag, hruns, hone, hboth⟩
    · exact ⟨hflag, hruns, hone, hboth⟩
  · exact .intro rfl rfl (State.tdegExpiry_spec hlive hend hnew rfl)
  · obtain ⟨hregs, hmem⟩ := s.differenceNoted_spec
    refine .intro rfl (State.xdis_of_late hlive hdiff hage) ?_
    generalize s.differenceNoted = u at *
    obtain ⟨hflag, hheld, -, hframe⟩ := State.flagNoted_spec (s := u) (code := 8) (data := s.xDiff) (.inl rfl) rfl
    have hall := (State.Touches.refl.update hregs hmem).trans hframe
    exact ⟨hflag, hheld.trans (State.f_congr hregs _), hall.regs, hall.sameMem⟩
  · have hregs := s.regs_untilCycle (c + s.f F.SFU_SIN.DISC * 200000 + 1)
    have hmem := s.mem_untilCycle (c + s.f F.SFU_SIN.DISC * 200000 + 1)
    refine .intro rfl (State.sindisc_of_since hlive hsince hnew) ?_
    generalize s.untilCycle (c + s.f F.SFU_SIN.DISC * 200000 + 1) = u at *
    obtain ⟨hflag, hheld, htm, hframe⟩ := State.flagNoted_spec (s := u) (code := 7) (data := 0) (.inr rfl) rfl
    have hall := (State.Touches.refl.update hregs hmem).trans hframe
    exact ⟨hflag, hheld.trans (State.f_congr hregs _), hall.regs, hall.sameMem, State.now_of_tm htm⟩
  · obtain ⟨hflag, -, hframe⟩ := State.sfuRefuse_spec (s := s) (n := 0x11) rfl
    exact .intro rfl (State.requal_of_none hon ha hb) ⟨hflag, hframe.sfu, hframe.2⟩
  · obtain ⟨hrequal, hrun, hdeg⟩ := State.requalBegun_spec (s := s) (b := false) rfl
    exact .intro rfl (State.requal_of_a hon ha hclean hfree) ⟨hrequal, hrun, hdeg.trans ha⟩
  · obtain ⟨hrequal, hrun, -⟩ := State.requalBegun_spec (s := s) (b := true) rfl
    exact .intro rfl (State.requal_of_b hon ha hb hclean hfree) ⟨hrequal, hrun⟩
  · obtain ⟨hrunning, hlevel, hplan, hframe⟩ := State.pulseTestStart_spec (s := s) (o := o) rfl rfl
    exact .intro rfl (State.pulseTestStart_of_due hlive hfree harmed hen hnext htrip hrun hother)
      ⟨hrunning, hlevel, hplan, hframe.regs, hframe.sameMem⟩
  · obtain ⟨htests, hrunning, hframe⟩ :=
      State.passed_spec (s := s) (o := o) (w := c + usCycles (s.f (F.SFU_PTCFG.TPW o))) rfl rfl
    exact .intro rfl (State.pulseTestResult_of_pass hlive hrun hfree) ⟨htests, hrunning, hframe.regs, hframe.sameMem⟩
  · obtain ⟨hflag, hfailed, hdeg⟩ := State.pulseTestResult_fail_spec o.isLt hlive hrun hfree hreact rfl
    refine .intro rfl rfl ⟨hflag, hfailed.1, hfailed.2, ?_⟩
    rcases Nat.mod_two_eq_zero_or_one o.val with h | h
    · rw [h] at hdeg ⊢
      exact hdeg
    · rw [h] at hdeg ⊢
      exact hdeg

end Sys2Proof.Machine

/-! PTP events, domain time, time pulses, MDIO and the link (14 R402, R415, R416, R419, R421). -/

namespace Sys2Proof.Machine

/-! ## Words -/

theorem fld_setWidth (w : Word) (hi lo : Nat) : fld (w.setWidth 64) hi lo = fld w hi lo := by
  have hlt := w.isLt
  rw [fld, fld, BitVec.toNat_setWidth, Nat.mod_eq_of_lt (show w.toNat < 2 ^ 64 by omega)]

theorem bitAt_setWidth {w : Word} {i : Nat} (hi : i < 32) : bitAt (w.setWidth 64) i = bitAt w i := by
  rw [bitAt, bitAt, BitVec.getLsbD_setWidth, decide_eq_true (by omega), Bool.true_and]

theorem fld_or (w c : Word) (hi lo : Nat) : fld (w ||| c) hi lo = fld w hi lo ||| fld c hi lo := by
  refine Nat.eq_of_testBit_eq fun i => ?_
  rw [Nat.testBit_or, testBit_fld, testBit_fld, testBit_fld, BitVec.getLsbD_or, Bool.and_or_distrib_left]

theorem bitAt_or (w c : Word) (i : Nat) : bitAt (w ||| c) i = (bitAt w i || bitAt c i) := BitVec.getLsbD_or

theorem bitAt_of_fld {w : Word} {i : Nat} {b : Bool} (h : fld w i i = b2n b) : bitAt w i = b := by
  rw [← testBit_fld_bit, h, testBit_b2n]

/-- A mask that keeps the bits of a field keeps the field. -/
theorem fld_and_mask {w m : Word} {hi lo : Nat} (h : ∀ i, i < hi + 1 - lo → m.getLsbD (lo + i) = true) :
    fld (w &&& m) hi lo = fld w hi lo := by
  refine Nat.eq_of_testBit_eq fun i => ?_
  rw [testBit_fld, testBit_fld, BitVec.getLsbD_and]
  by_cases hi' : i < hi + 1 - lo
  · rw [h i hi', Bool.and_true]
  · rw [decide_eq_false hi', Bool.false_and, Bool.false_and]

/-! ## The MACs -/

section
variable {s t : State} {m : Nat} {h : MacUnit → MacUnit}

theorem State.mac_modMac_same : (s.modMac m h).mac m = h (s.mac m) := by
  unfold State.modMac State.mac
  by_cases hm : m = 0
  · rw [if_pos hm, if_pos hm, if_pos hm]
  · rw [if_neg hm, if_neg hm, if_neg hm]

theorem State.modMac_frame : (s.modMac m h).regs = s.regs ∧ (s.modMac m h).mem = s.mem ∧ (s.modMac m h).tm = s.tm ∧
    (s.modMac m h).queues = s.queues := by
  unfold State.modMac
  split <;> exact ⟨rfl, rfl, rfl, rfl⟩

theorem State.mac_congr (heth : t.eth = s.eth) (m : Nat) : t.mac m = s.mac m := by rw [State.mac, State.mac, heth]

theorem OnlyRegs.eth {l : List Nat} (h : OnlyRegs l s t) : t.eth = s.eth := (congrArg State.eth h.1 :)

end

/-! ## PTP events (14 R415, R416) -/

section
variable {s t : State} {m : Nat}

/-- A record enters the FIFO of a MAC. -/
def State.eventQueued (s : State) (m : Nat) (tx : Bool) (mtype seq : Nat) : State :=
  s.modMac m fun c => { c with
    ts := (s.mac m).ts ++ [wN (b2n tx * 2 ^ 30 + b2n (!(s.mac m).ts.isEmpty) * 2 ^ 29 + mtype * 2 ^ 24 + seq)]
    tsSince := if (s.mac m).ts.isEmpty then s.tm.refclk else c.tsSince }

theorem State.ptpPass_of_room {tx : Bool} {mtype seq : Nat} (hon : s.macOn m = true) (htype : mtype ≤ 3)
    (hroom : (s.mac m).ts.length < 4) :
    s.ptpPass m tx mtype seq = (s.eventQueued m tx mtype seq).setB (F.ETH_MSTAT.TSEV m) true :=
  (if_pos (by simp [hon, htype])).trans (if_pos hroom)

theorem State.ptpPass_of_full {tx : Bool} {mtype seq : Nat} (hon : s.macOn m = true) (htype : mtype ≤ 3)
    (hfull : 4 ≤ (s.mac m).ts.length) : s.ptpPass m tx mtype seq = s.incF (F.ETH_TSINFO.TSLOST m) 1 :=
  (if_pos (by simp [hon, htype])).trans (if_neg (Nat.not_lt.2 hfull))

/-- The FIFO of a MAC changes, and TSEV with it. -/
theorem State.tsev_spec {u : State} {b : Bool} (hframe : u.regs = s.regs ∧ u.mem = s.mem)
    (ht : t = u.setB (F.ETH_MSTAT.TSEV m) b) : (t.mac m).ts = (u.mac m).ts ∧ t.fb (F.ETH_MSTAT.TSEV m) = b ∧
      Touches [R.ETH_MSTAT m] s t := by
  have hset : OnlyRegs [R.ETH_MSTAT m] u t := ht ▸ .setB .refl List.mem_cons_self
  exact ⟨by rw [State.mac_congr hset.eth], ht ▸ State.fb_setB_same _ _ _ rfl (by decide : 26 < 32),
    (Touches.refl.update hframe.1 hframe.2).trans hset.touches⟩

/-! ### A read of ETH_TSINFO -/

/-- The answer of a register read stands on the bus. -/
def State.answered (s : State) (w : Word) : State := { s with busOut := w.setWidth 64 }

/-- A record read says that it is valid, whether it waited too long, and how many were lost. -/
def State.tsFlags (s : State) (m : Nat) : Word :=
  wN (2 ^ 31 + b2n (decide ((s.mac m).tsSince + 40 < s.tm.refclk)) * 2 ^ 28 + s.f (F.ETH_TSINFO.TSLOST m) * 2 ^ 16)

theorem State.tsinfoRead_of_empty (hon : s.on 10 = true) (hempty : (s.mac m).ts = []) :
    s.tsinfoReadCmd m = s.answered (wN (s.f (F.ETH_TSINFO.TSLOST m) * 2 ^ 16)) := by
  refine (if_pos hon).trans ?_
  rw [State.tsinfoRead, hempty]
  rfl

theorem State.tsinfoRead_of_record {w : Word} {l : List Word} (hon : s.on 10 = true) (hts : (s.mac m).ts = w :: l) :
    s.tsinfoReadCmd m =
      ((s.modMac m fun c => { c with ts := l }).setB (F.ETH_MSTAT.TSEV m) (!l.isEmpty)).answered (w ||| s.tsFlags m) := by
  refine (if_pos hon).trans ?_
  rw [State.tsinfoRead, hts]
  rfl

theorem State.answered_spec (w : Word) : (s.answered w).busOut = w.setWidth 64 ∧ (s.answered w).regs = s.regs ∧
    (s.answered w).mem = s.mem ∧ (s.answered w).eth = s.eth := ⟨rfl, rfl, rfl, rfl⟩

theorem State.tsLost_lt : s.f (F.ETH_TSINFO.TSLOST m) < 2 ^ 8 := fld_lt _ 23 16

theorem State.fld_tsFlags (hi lo : Nat) : fld (s.tsFlags m) hi lo =
    (2 ^ 31 + b2n (decide ((s.mac m).tsSince + 40 < s.tm.refclk)) * 2 ^ 28 + s.f (F.ETH_TSINFO.TSLOST m) * 2 ^ 16) /
      2 ^ lo % 2 ^ (hi + 1 - lo) := by
  have hlost := s.tsLost_lt (m := m)
  have hslow : b2n (decide ((s.mac m).tsSince + 40 < s.tm.refclk)) < 2 := by
    cases decide ((s.mac m).tsSince + 40 < s.tm.refclk) <;> decide
  exact fld_wN _ _ _ (by omega)

/-- The fields of a record stand in the word read, which is valid. -/
theorem State.record_read (w : Word) : bitAt ((w ||| s.tsFlags m).setWidth 64) 31 = true ∧
    fld ((w ||| s.tsFlags m).setWidth 64) 15 0 = fld w 15 0 ∧ fld ((w ||| s.tsFlags m).setWidth 64) 27 24 = fld w 27 24 ∧
    bitAt ((w ||| s.tsFlags m).setWidth 64) 30 = bitAt w 30 := by
  have hlost := s.tsLost_lt (m := m)
  have hslow : b2n (decide ((s.mac m).tsSince + 40 < s.tm.refclk)) < 2 := by
    cases decide ((s.mac m).tsSince + 40 < s.tm.refclk) <;> decide
  have hvalid : bitAt (s.tsFlags m) 31 = true := bitAt_of_fld (by rw [State.fld_tsFlags, show b2n true = 1 from rfl]; omega)
  have hdir : bitAt (s.tsFlags m) 30 = false := bitAt_of_fld (by rw [State.fld_tsFlags, show b2n false = 0 from rfl]; omega)
  have hseq : fld (s.tsFlags m) 15 0 = 0 := by rw [State.fld_tsFlags]; omega
  have htype : fld (s.tsFlags m) 27 24 = 0 := by rw [State.fld_tsFlags]; omega
  refine ⟨?_, ?_, ?_, ?_⟩
  · rw [bitAt_setWidth (by decide), bitAt_or, hvalid, Bool.or_true]
  · rw [fld_setWidth, fld_or, hseq, Nat.or_zero]
  · rw [fld_setWidth, fld_or, htype, Nat.or_zero]
  · rw [bitAt_setWidth (by decide), bitAt_or, hdir, Bool.or_false]

end

/-! ## Domain time (14 R419) -/

section
variable {s : State} {i : Nat}

/-- The shadow map is committed. -/
def State.mapTaken (s : State) : State :=
  { s with eth := { s.eth with dmap := { dref := s.reg R.ETH_DREFHI ++ s.reg R.ETH_DREFLO,
                                         dns := s.reg R.ETH_DNSHI ++ s.reg R.ETH_DNSLO, drate := s.reg R.ETH_DRATE } } }

theorem State.domainCommit_of_on (hon : s.on 10 = true) : s.domainCommit = s.mapTaken.setB F.ETH_DMAPCTL.VALID true :=
  if_pos hon

theorem State.mapTaken_frame : s.mapTaken.regs = s.regs ∧ s.mapTaken.mem = s.mem := ⟨rfl, rfl⟩

/-- Domain time as a requester reads it: 0 without a map. -/
def State.domainNow (s : State) : DWord := if s.fb F.ETH_DMAPCTL.VALID then domainTime s.eth.dmap s.tm.count else 0

/-- The high word of domain time is latched for a requester, and the low word stands on the bus. -/
def State.domainLatched (s : State) (i : Nat) (v : DWord) : State :=
  State.answered { s with eth := { s.eth with
    domLatch := tblSet (fun _ => (0 : Word)) s.eth.domLatch i (v.extractLsb' 32 32) } } (v.extractLsb' 0 32)

theorem State.dtimeRead_of_on {req : Requester} (hon : s.on 10 = true) :
    s.dtimeReadCmd req = s.domainLatched (reqIdx req) s.domainNow := if_pos hon

theorem State.domainLatched_spec (v : DWord) : (s.domainLatched i v).busOut = (v.extractLsb' 0 32).setWidth 64 ∧
    (s.domainLatched i v).regs = s.regs ∧ (s.domainLatched i v).mem = s.mem ∧
    tblGet (fun _ => (0 : Word)) (s.domainLatched i v).eth.domLatch i = v.extractLsb' 32 32 :=
  ⟨rfl, rfl, rfl, tblGet_tblSet_same _ _ _ _⟩

/-- The words of a number of 64 bits. -/
theorem toNat_ofInt_words (v : Int) : (((BitVec.ofInt 64 v).extractLsb' 0 32).toNat : Int) = v % 2 ^ 32 ∧
    (((BitVec.ofInt 64 v).extractLsb' 32 32).toNat : Int) = v / 2 ^ 32 % 2 ^ 32 := by
  have hv : (((BitVec.ofInt 64 v).toNat : Nat) : Int) = v % 2 ^ 64 := by
    rw [BitVec.toNat_ofInt]
    omega
  rw [BitVec.extractLsb'_toNat, BitVec.extractLsb'_toNat, Nat.shiftRight_zero, Nat.shiftRight_eq_div_pow]
  omega

theorem domainTime_eq (d : DomainMap) (c : DWord) : domainTime d c = BitVec.ofInt 64 ((d.dns.toNat : Int) +
    (((c.toNat : Int) - (d.dref.toNat : Int)) * 5 * (2 ^ 40 + d.drate.toInt)) / 2 ^ 46) := by
  unfold domainTime fdiv sg
  norm_num

end

/-! ## Time pulses (14 R421) -/

section
variable {s : State} {n e : Nat}

/-- No pulse of an output runs. -/
def State.pulseEnded (s : State) (n : Nat) : State :=
  { s with eth := { s.eth with tpo := tblSet (fun _ => (none : Option Nat)) s.eth.tpo n none } }

theorem State.tpoEnd_of_run (h : tblGet (fun _ => (none : Option Nat)) s.eth.tpo n = some e) :
    s.tpoEnd n = (s.untilCycle e).pulseEnded n := by
  unfold State.tpoEnd
  rw [h]
  rfl

theorem State.pulseEnded_spec : (s.pulseEnded n).tpoActive n = false ∧ (s.pulseEnded n).regs = s.regs ∧
    (s.pulseEnded n).mem = s.mem ∧ (s.pulseEnded n).tm = s.tm := by
  have hnone : tblGet (fun _ => (none : Option Nat)) (s.pulseEnded n).eth.tpo n = none := tblGet_tblSet_same _ _ _ _
  refine ⟨?_, rfl, rfl, rfl⟩
  rw [State.tpoActive, hnone, Option.isSome_none, Bool.and_false]

end

/-! ## MDIO (14 R402) -/

section
variable {s t : State} {m : Nat}

theorem State.mdioGo_of_busy {read : Bool} {phy reg data : Nat} (hgo : s.fb (F.ETH_MDIO.GO m) = true) :
    s.mdioGo m read phy reg data = s := if_neg (by simp [hgo])

/-- The word of a transaction. -/
def mdioWord (read : Bool) (phy reg data : Nat) : Word :=
  wN (2 ^ 31 + b2n read * 2 ^ 30 + phy * 2 ^ 25 + reg * 2 ^ 20 + data) &&& 0xFFF0FFFF#32

theorem State.mdioGo_of_free {read : Bool} {phy reg data : Nat} (hon : s.on 10 = true) (hgo : s.fb (F.ETH_MDIO.GO m) = false) :
    s.mdioGo m read phy reg data = s.setReg (R.ETH_MDIO m) (mdioWord read phy reg data) := if_pos (by simp [hon, hgo])

/-- The fields of a transaction. -/
theorem mdioWord_spec {read : Bool} {phy reg data : Nat} (hphy : phy < 32) (hreg : reg < 32) (hdata : data < 65536) :
    bitAt (mdioWord read phy reg data) 31 = true ∧ bitAt (mdioWord read phy reg data) 30 = read ∧
      fld (mdioWord read phy reg data) 29 25 = phy ∧ fld (mdioWord read phy reg data) 24 20 = reg ∧
      fld (mdioWord read phy reg data) 15 0 = data := by
  have hread : b2n read < 2 := by cases read <;> decide
  have hfld (hi lo : Nat) (hmask : ∀ i, i < hi + 1 - lo → (0xFFF0FFFF#32).getLsbD (lo + i) = true) :
      fld (mdioWord read phy reg data) hi lo =
        (2 ^ 31 + b2n read * 2 ^ 30 + phy * 2 ^ 25 + reg * 2 ^ 20 + data) / 2 ^ lo % 2 ^ (hi + 1 - lo) :=
    (fld_and_mask hmask).trans (fld_wN _ _ _ (by omega))
  refine ⟨bitAt_of_fld ?_, bitAt_of_fld ?_, ?_, ?_, ?_⟩
  · rw [hfld 31 31 (by decide), show b2n true = 1 from rfl]
    omega
  · rw [hfld 30 30 (by decide)]
    omega
  · rw [hfld 29 25 (by decide)]
    omega
  · rw [hfld 24 20 (by decide)]
    omega
  · rw [hfld 15 0 (by decide)]
    omega

theorem State.mdioDone_of_go {data : Nat} (hon : s.on 10 = true) (hgo : s.fb (F.ETH_MDIO.GO m) = true) :
    s.mdioDone m data = if s.fb (F.ETH_MDIO.READ m) then (s.setB (F.ETH_MDIO.GO m) false).setF (F.ETH_MDIO.DATA m) data
      else s.setB (F.ETH_MDIO.GO m) false := by
  have hread : (s.setB (F.ETH_MDIO.GO m) false).fb (F.ETH_MDIO.READ m) = s.fb (F.ETH_MDIO.READ m) :=
    State.fb_setB_apart _ _ _ _ (.inr (.inl (by decide : 30 < 31)))
  rw [← hread]
  exact if_pos (by simp [hon, hgo])

theorem State.mdioDone_spec {data : Nat} (hon : s.on 10 = true) (hgo : s.fb (F.ETH_MDIO.GO m) = true) (hdata : data < 65536)
    (ht : t = s.mdioDone m data) : t.fb (F.ETH_MDIO.GO m) = false ∧
      t.f (F.ETH_MDIO.DATA m) = (if s.fb (F.ETH_MDIO.READ m) then data else s.f (F.ETH_MDIO.DATA m)) ∧
      t.f (F.ETH_MDIO.REGAD m) = s.f (F.ETH_MDIO.REGAD m) ∧ OnlyRegs [R.ETH_MDIO m] s t := by
  rw [State.mdioDone_of_go hon hgo] at ht
  have hset : OnlyRegs [R.ETH_MDIO m] s (s.setB (F.ETH_MDIO.GO m) false) := .setB .refl List.mem_cons_self
  have hclear : (s.setB (F.ETH_MDIO.GO m) false).fb (F.ETH_MDIO.GO m) = false :=
    State.fb_setB_same _ _ _ rfl (by decide : 31 < 32)
  have hreg : (s.setB (F.ETH_MDIO.GO m) false).f (F.ETH_MDIO.REGAD m) = s.f (F.ETH_MDIO.REGAD m) :=
    State.f_setB_apart _ _ _ _ (.inr (.inl (by decide : 24 < 31)))
  have hkept : (s.setB (F.ETH_MDIO.GO m) false).f (F.ETH_MDIO.DATA m) = s.f (F.ETH_MDIO.DATA m) :=
    State.f_setB_apart _ _ _ _ (.inr (.inl (by decide : 15 < 31)))
  generalize s.setB (F.ETH_MDIO.GO m) false = u at *
  by_cases hread : s.fb (F.ETH_MDIO.READ m) = true
  · rw [if_pos hread] at ht ⊢
    rw [ht]
    exact ⟨(State.fb_setF_apart _ _ _ _ (.inr (.inr (by decide : 15 < 31)))).trans hclear,
      (State.f_setF_same _ _ _ (by decide : 15 < 32)).trans (Nat.mod_eq_of_lt hdata),
      (State.f_setF_apart _ _ _ _ (.inr (.inr (by decide : 15 < 20)))).trans hreg, hset.setF List.mem_cons_self⟩
  · rw [if_neg hread] at ht ⊢
    rw [ht]
    exact ⟨hclear, hkept, hreg, hset⟩

end

/-! ## The link (14 R402) -/

section
variable {s t : State} {m sp : Nat} {up bad : Bool}

/-- The speed and the refusal of a link show. -/
def State.speedShown (s : State) (m sp : Nat) (bad : Bool) : State :=
  (s.setF (F.ETH_MSTAT.PSPEED m) sp).setB (F.ETH_MSTAT.LINKBAD m) bad

/-- The link shows, with LINKCHG and a record where it changed. -/
def State.linkShown (s : State) (m : Nat) (same up : Bool) : State :=
  if same then s else ((s.setB (F.ETH_MSTAT.LINK m) up).setB (F.ETH_MSTAT.LINKCHG m) true).note 13 1 (m * 256 + b2n up)

/-- A refused link is recorded once. -/
def State.badNoted (s : State) (m : Nat) (new : Bool) : State := if new then s.note 13 2 m else s

theorem State.linkChange_of_auto {half : Bool} (hlive : s.live = true) (hon : s.on 10 = true)
    (hen : s.fb (F.ETH_MCFG.EN m) = true) (hauto : s.fb (F.ETH_MCFG.AUTO m) = true) : s.linkChange m up sp half =
      ((s.speedShown m (min 2 sp) (up && half)).linkShown m (s.fb (F.ETH_MSTAT.LINK m) == up) up).badNoted m
        ((up && half) && !s.fb (F.ETH_MSTAT.LINKBAD m)) := if_pos (by simp [hlive, hon, hen, hauto])

/-- The registers of a link change. -/
abbrev linkRegs (m : Nat) : List Nat := [R.ETH_MSTAT m, R.FCU_LDGLOST]

theorem State.speedShown_spec (hsp : sp < 4) (ht : t = s.speedShown m sp bad) : t.f (F.ETH_MSTAT.PSPEED m) = sp ∧
    t.fb (F.ETH_MSTAT.LINKBAD m) = bad ∧ t.fb (F.ETH_MSTAT.LINK m) = s.fb (F.ETH_MSTAT.LINK m) ∧
    OnlyRegs (linkRegs m) s t := by
  rw [State.speedShown] at ht
  refine ⟨?_, ?_, ?_, ht ▸ .setB (.setF .refl List.mem_cons_self) List.mem_cons_self⟩
  · rw [ht]
    exact (State.f_setB_apart _ _ _ _ (.inr (.inr (by decide : 28 < 29)))).trans <|
      (State.f_setF_same _ _ _ (by decide : 30 < 32)).trans (Nat.mod_eq_of_lt hsp)
  · rw [ht]
    exact State.fb_setB_same _ _ _ rfl (by decide : 28 < 32)
  · rw [ht]
    exact (State.fb_setB_apart _ _ _ _ (.inr (.inr (by decide : 28 < 31)))).trans <|
      State.fb_setF_apart _ _ _ _ (.inr (.inr (by decide : 30 < 31)))

theorem mstat_ne_lost (m : Nat) : R.ETH_MSTAT m ∉ [R.FCU_LDGLOST] := by
  rw [List.mem_singleton]
  unfold R.ETH_MSTAT R.FCU_LDGLOST
  omega

/-- A record leaves MSTAT. -/
theorem State.mstat_note (m code data : Nat) : (s.note 13 code data).reg (R.ETH_MSTAT m) = s.reg (R.ETH_MSTAT m) :=
  (OnlyNoted.note (l := [R.FCU_LDGLOST]) .refl List.mem_cons_self).2 _ (mstat_ne_lost m)

theorem State.linkShown_spec (hlink : s.fb (F.ETH_MSTAT.LINK m) = b) (ht : t = s.linkShown m (b == up) up) :
    t.fb (F.ETH_MSTAT.LINK m) = up ∧ (b ≠ up → t.fb (F.ETH_MSTAT.LINKCHG m) = true) ∧
      t.f (F.ETH_MSTAT.PSPEED m) = s.f (F.ETH_MSTAT.PSPEED m) ∧
      t.fb (F.ETH_MSTAT.LINKBAD m) = s.fb (F.ETH_MSTAT.LINKBAD m) ∧ Touches (linkRegs m) s t := by
  by_cases hsame : b = up
  · rw [State.linkShown, if_pos (by rw [hsame]; exact beq_self_eq_true up)] at ht
    rw [ht]
    exact ⟨hlink.trans hsame, fun hne => absurd hsame hne, rfl, rfl, .refl⟩
  · rw [State.linkShown, if_neg (by simpa using hsame)] at ht
    have hset : OnlyRegs (linkRegs m) s ((s.setB (F.ETH_MSTAT.LINK m) up).setB (F.ETH_MSTAT.LINKCHG m) true) :=
      .setB (.setB .refl List.mem_cons_self) List.mem_cons_self
    have hreg := State.mstat_note (s := (s.setB (F.ETH_MSTAT.LINK m) up).setB (F.ETH_MSTAT.LINKCHG m) true) m 1 (m * 256 + b2n up)
    rw [← ht] at hreg
    refine ⟨(congrArg (bitAt · 31) hreg).trans ?_, fun _ => (congrArg (bitAt · 24) hreg).trans ?_,
      (congrArg (fld · 30 29) hreg).trans ?_, (congrArg (bitAt · 28) hreg).trans ?_,
      ht ▸ (hset.touches.note (List.mem_cons_of_mem _ List.mem_cons_self))⟩
    · exact (State.fb_setB_apart _ (F.ETH_MSTAT.LINKCHG m) (F.ETH_MSTAT.LINK m) _ (.inr (.inr (by decide : 24 < 31)))).trans
        (State.fb_setB_same _ _ _ rfl (by decide : 31 < 32))
    · exact State.fb_setB_same _ (F.ETH_MSTAT.LINKCHG m) _ rfl (by decide : 24 < 32)
    · exact (State.f_setB_apart _ (F.ETH_MSTAT.LINKCHG m) (F.ETH_MSTAT.PSPEED m) _ (.inr (.inr (by decide : 24 < 29)))).trans
        (State.f_setB_apart _ _ _ _ (.inr (.inl (by decide : 30 < 31))))
    · exact (State.fb_setB_apart _ (F.ETH_MSTAT.LINKCHG m) (F.ETH_MSTAT.LINKBAD m) _ (.inr (.inr (by decide : 24 < 28)))).trans
        (State.fb_setB_apart _ _ _ _ (.inr (.inl (by decide : 28 < 31))))

theorem State.badNoted_spec {new : Bool} (ht : t = s.badNoted m new) : t.reg (R.ETH_MSTAT m) = s.reg (R.ETH_MSTAT m) ∧
    Touches (linkRegs m) s t := by
  rw [State.badNoted] at ht
  split at ht
  · rw [ht]
    exact ⟨State.mstat_note m 2 m, Touches.refl.note (List.mem_cons_of_mem _ List.mem_cons_self)⟩
  · rw [ht]
    exact ⟨rfl, .refl⟩

end

/-- Settles O45: each command is one equation, and a word read is its record with the flags beside it. -/
theorem networkTimePulsesAndPhy : Obligations.NetworkTimePulsesAndPhy := by
  refine ⟨fun s m tx mt seq hon htype => ⟨fun hroom => ?_, fun hfull => ?_⟩,
    fun s m hon => ⟨fun hempty => ?_, fun w l hts => ?_⟩, fun s hon => ?_, fun s req hon => ⟨fun hvalid => ?_, fun hvalid => ?_⟩,
    fun s n e hrun => ?_, fun s m read phy reg data hon => ⟨fun hgo => ?_, fun hgo => ?_⟩, fun s m data hon hgo => ?_,
    fun s m up speed half hlive hon hen hauto => ?_⟩
  · have hts : ((s.eventQueued m tx mt.toNat seq.toNat).mac m).ts = _ := congrArg MacUnit.ts State.mac_modMac_same
    obtain ⟨hregs, hmem, -⟩ : _ ∧ _ := State.modMac_frame (s := s) (m := m) (h := fun c => { c with
      ts := (s.mac m).ts ++ [wN (b2n tx * 2 ^ 30 + b2n (!(s.mac m).ts.isEmpty) * 2 ^ 29 + mt.toNat * 2 ^ 24 + seq.toNat)]
      tsSince := if (s.mac m).ts.isEmpty then s.tm.refclk else c.tsSince })
    obtain ⟨hkept, hflag, hframe⟩ := State.tsev_spec (s := s) (m := m) (b := true)
      (u := s.eventQueued m tx mt.toNat seq.toNat) ⟨hregs, hmem⟩ rfl
    exact .intro rfl (State.ptpPass_of_room hon htype hroom) ⟨hkept.trans hts, hflag, hframe.regs, hframe.sameMem⟩
  · exact .intro rfl (State.ptpPass_of_full hon htype hfull)
      ⟨State.f_incF_same _ _ _ (by decide : 23 < 32), .incF .refl List.mem_cons_self⟩
  · have hlost := s.tsLost_lt (m := m)
    refine .intro rfl (State.tsinfoRead_of_empty hon hempty) ⟨?_, rfl⟩
    rw [(s.answered_spec _).1, BitVec.toNat_setWidth, wN, BitVec.toNat_ofNat]
    omega
  · obtain ⟨hvalid, hseq, htype, hdir⟩ := s.record_read (m := m) w
    have hrest : ((s.modMac m fun c => { c with ts := l }).mac m).ts = l := congrArg MacUnit.ts State.mac_modMac_same
    obtain ⟨hregs, hmem, -⟩ := State.modMac_frame (s := s) (m := m) (h := fun c => { c with ts := l })
    refine .intro rfl (State.tsinfoRead_of_record hon hts) ?_
    obtain ⟨hkept, hflag, hframe⟩ := State.tsev_spec (s := s) (m := m) (b := !l.isEmpty) ⟨hregs, hmem⟩ rfl
    generalize (s.modMac m fun c => { c with ts := l }).setB (F.ETH_MSTAT.TSEV m) (!l.isEmpty) = u at *
    obtain ⟨hbus, hregs', hmem', heth⟩ := u.answered_spec (w ||| s.tsFlags m)
    have hall := hframe.update hregs' hmem'
    rw [hbus]
    exact ⟨(congrArg MacUnit.ts (State.mac_congr heth m)).trans (hkept.trans hrest), (State.fb_congr hregs' _).trans hflag,
      hvalid, fun _ => ⟨hseq, htype, hdir⟩, hall.regs, hall.sameMem⟩
  · obtain ⟨hregs, hmem⟩ := s.mapTaken_frame
    have hset : OnlyRegs [R.ETH_DMAPCTL] s.mapTaken (s.mapTaken.setB F.ETH_DMAPCTL.VALID true) := .setB .refl List.mem_cons_self
    have hframe := (State.Touches.refl.update hregs hmem).trans hset.touches
    exact .intro rfl (State.domainCommit_of_on hon)
      ⟨State.fb_setB_same _ _ _ rfl (by decide), hset.eth, hframe.regs, hframe.sameMem⟩
  · obtain ⟨hbus, hregs, hmem, hlatch⟩ := s.domainLatched_spec (i := reqIdx req) s.domainNow
    refine .intro rfl (State.dtimeRead_of_on hon) ?_
    generalize s.domainLatched (reqIdx req) s.domainNow = t at *
    have hnow : s.domainNow = _ := (if_pos hvalid).trans (domainTime_eq _ _)
    obtain ⟨hlow, hhigh⟩ := toNat_ofInt_words ((s.eth.dmap.dns.toNat : Int) +
      (((s.tm.count.toNat : Int) - (s.eth.dmap.dref.toNat : Int)) * 5 * (2 ^ 40 + s.eth.dmap.drate.toInt)) / 2 ^ 46)
    rw [← hnow] at hlow hhigh
    have hread : t.dtimeHi (reqIdx req) = _ := (if_pos ((State.fb_congr hregs _).trans hvalid)).trans hlatch
    refine ⟨?_, ?_, State.reg_congr hregs, State.ldb_congr hmem⟩
    · rw [hbus, BitVec.toNat_setWidth_of_le (by decide)]
      exact hlow
    · rw [hread]
      exact hhigh
  · obtain ⟨hbus, hregs, hmem, -⟩ := s.domainLatched_spec (i := reqIdx req) s.domainNow
    refine .intro rfl (State.dtimeRead_of_on hon) ?_
    generalize s.domainLatched (reqIdx req) s.domainNow = t at *
    have hnow : s.domainNow = 0 := if_neg (by rw [hvalid]; decide)
    refine ⟨?_, if_neg (by rw [State.fb_congr hregs, hvalid]; decide), State.reg_congr hregs, State.ldb_congr hmem⟩
    rw [hbus, hnow]
    rfl
  · have hregs := s.regs_untilCycle e
    have hmem := s.mem_untilCycle e
    refine .intro rfl (State.tpoEnd_of_run hrun) ?_
    generalize s.untilCycle e = u at *
    obtain ⟨hidle, hregs', hmem', htm⟩ := u.pulseEnded_spec (n := n)
    exact ⟨hidle, State.now_of_tm htm, State.reg_congr (hregs'.trans hregs), State.ldb_congr (hmem'.trans hmem)⟩
  · exact congrArg Host.Outcome.next (State.mdioGo_of_busy hgo)
  · obtain ⟨hstart, hread, hphy, hreg, hdata⟩ := mdioWord_spec (read := read) phy.isLt reg.isLt data.isLt
    have hword := State.reg_setReg_same s (R.ETH_MDIO m) (mdioWord read phy.toNat reg.toNat data.toNat)
    exact .intro rfl (State.mdioGo_of_free hon hgo) ⟨(congrArg (bitAt · 31) hword).trans hstart,
      (congrArg (bitAt · 30) hword).trans hread, (congrArg (fld · 29 25) hword).trans hphy,
      (congrArg (fld · 24 20) hword).trans hreg, (congrArg (fld · 15 0) hword).trans hdata,
      .setReg .refl List.mem_cons_self⟩
  · exact .intro rfl rfl (State.mdioDone_spec hon hgo data.isLt rfl)
  · refine .intro rfl (State.linkChange_of_auto hlive hon hen hauto) ?_
    obtain ⟨hspeed, hbad, hlink, hset⟩ := State.speedShown_spec (s := s) (m := m) (sp := min 2 speed.toNat)
      (bad := up && half) (by omega) rfl
    generalize s.speedShown m (min 2 speed.toNat) (up && half) = u at *
    obtain ⟨hup, hchg, hspeed', hbad', hframe⟩ := State.linkShown_spec (up := up) hlink rfl
    generalize u.linkShown m (s.fb (F.ETH_MSTAT.LINK m) == up) up = v at *
    obtain ⟨hreg, hframe'⟩ := State.badNoted_spec (s := v) (m := m) (new := (up && half) && !s.fb (F.ETH_MSTAT.LINKBAD m)) rfl
    have hall := (hset.touches.trans hframe).trans hframe'
    exact ⟨(congrArg (bitAt · 31) hreg).trans hup, (congrArg (fld · 30 29) hreg).trans (hspeed'.trans hspeed),
      (congrArg (bitAt · 28) hreg).trans (hbad'.trans hbad), fun hne => (congrArg (bitAt · 24) hreg).trans (hchg hne),
      hall.regs, hall.sameMem⟩

end Sys2Proof.Machine

/-! Ethernet frames received, stored and launched (14 R402 to R413). -/

namespace Sys2Proof.Machine

/-! ## What a store of words and the end of a wait leave -/

theorem State.putWords_frame (l : List Word) : ∀ (s : State) (a : Nat), s.putWords a l = { s with mem := (s.putWords a l).mem } := by
  induction l with
  | nil => exact fun _ _ => rfl
  | cons w l ih => exact fun s a => ih (s.stw a w) (a + 4)

theorem State.advanceTo_of_past {s : State} {n : Nat} (h : n ≤ s.now) : s.advanceTo n = s := if_neg (Nat.not_lt.2 h)

theorem State.untilCycle_of_past {s : State} {c : Nat} (h : c ≤ s.tm.refclk) : s.untilCycle c = s := by
  rw [State.untilCycle, Nat.sub_eq_zero_of_le h, State.advanceCycles, Nat.mul_zero]
  exact State.advanceTo_of_past (Nat.le_refl _)

/-! ## Acceptance (14 R403, R404) -/

section
variable {s t : State} {m : Nat} {l : List Byte} {fcsOk : Bool}

/-- A frame is accepted. -/
def State.FrameOk (s : State) (m : Nat) (l : List Byte) (fcsOk : Bool) : Prop :=
  fcsOk = true ∧ (60 ≤ l.length ∧ l.length ≤ 1532) ∧ s.destOk m l = true ∧ s.vlanOk m l = true

theorem State.frameOk_iff : (fcsOk && decide (60 ≤ l.length ∧ l.length ≤ 1532) && s.destOk m l && s.vlanOk m l) = true ↔
    s.FrameOk m l fcsOk := by
  simp only [Bool.and_eq_true, decide_eq_true_eq, State.FrameOk, and_assoc]

theorem State.ethReceive_of_off (h : s.macOn m = false ∨ s.fb (F.ETH_MCFG.RXEN m) = false) : s.ethReceive m l fcsOk = s := by
  refine if_neg ?_
  obtain h | h := h
  · rw [h, Bool.false_and]
    decide
  · rw [h, Bool.and_false]
    decide

theorem State.ethReceive_of_bad (hon : s.macOn m = true) (hrx : s.fb (F.ETH_MCFG.RXEN m) = true)
    (hbad : ¬ s.FrameOk m l fcsOk) : s.ethReceive m l fcsOk = s.ethDrop m fcsOk := by
  refine (if_pos (by rw [hon, hrx]; rfl)).trans (if_pos ?_)
  rw [Bool.eq_false_iff.2 fun h => hbad (State.frameOk_iff.1 h)]
  rfl

/-- An accepted frame without a PRP trailer. -/
theorem State.ethReceive_of_ok (hon : s.macOn m = true) (hrx : s.fb (F.ETH_MCFG.RXEN m) = true) (hok : s.FrameOk m l fcsOk)
    (hprp : prpTrailer l = none) : s.ethReceive m l fcsOk =
      if b16At l (typeAt l) = s.f (F.ETH_SAFETYPE.TYPE m) then s.ethSafety m l none else s.ethStore m l none false := by
  refine (if_pos (by rw [hon, hrx]; rfl)).trans ((if_neg ?_).trans ?_)
  · rw [State.frameOk_iff.2 hok]
    decide
  · rw [hprp]

theorem State.ethDrop_spec (ht : t = s.ethDrop m fcsOk) : t.f (F.ETH_CNT.RXDROP m) = (s.f (F.ETH_CNT.RXDROP m) + 1) % 65536 ∧
    t.f (F.ETH_CNT.FCSERR m) = (s.f (F.ETH_CNT.FCSERR m) + b2n (!fcsOk)) % 65536 ∧ OnlyRegs [R.ETH_CNT m] s t := by
  have hdrop : (s.incF (F.ETH_CNT.RXDROP m) 1).f (F.ETH_CNT.RXDROP m) = (s.f (F.ETH_CNT.RXDROP m) + 1) % 65536 :=
    State.f_incF_same _ _ _ (by decide : 31 < 32)
  have hfcs : (s.incF (F.ETH_CNT.RXDROP m) 1).f (F.ETH_CNT.FCSERR m) = s.f (F.ETH_CNT.FCSERR m) :=
    State.f_setF_apart _ _ _ _ (.inr (.inl (by decide : 15 < 16)))
  have hset : OnlyRegs [R.ETH_CNT m] s (s.incF (F.ETH_CNT.RXDROP m) 1) := .incF .refl List.mem_cons_self
  have hlt : s.f (F.ETH_CNT.FCSERR m) < 65536 := fld_lt _ 15 0
  rw [State.ethDrop] at ht
  generalize s.incF (F.ETH_CNT.RXDROP m) 1 = u at *
  cases fcsOk
  · rw [show t = u.incF (F.ETH_CNT.FCSERR m) 1 from ht]
    refine ⟨(State.f_setF_apart _ _ _ _ (.inr (.inr (by decide : 15 < 16)))).trans hdrop, ?_, hset.incF List.mem_cons_self⟩
    rw [State.f_incF_same _ _ _ (by decide : 15 < 32), hfcs]
    rfl
  · rw [show t = u from ht]
    exact ⟨hdrop, hfcs.trans (Nat.mod_eq_of_lt hlt).symm, hset⟩

/-! ## The receive ring (14 R405) -/

/-- A slot of the ring is taken. -/
def State.rxSlotTaken (s : State) (m n k : Nat) : State :=
  s.modMac m fun c => { c with rxSlot := (n + 1) % k, rxUsed := c.rxUsed + 1 }

/-- The entry of a frame without a PRP trailer. -/
def frameEntry (l : List Byte) (n : Nat) : Nat :=
  b2n (vlanTag l) * 2 ^ 60 + b2n (ptpEvent l).isSome * 2 ^ 59 + l.length * 2 ^ 48 + n * 2 ^ 32 +
    (if vlanTag l then b16At l 14 else 0)

/-- The PRP bits of an entry are 0 for a frame without a trailer. -/
theorem frameEntry_of_plain {prp dup lan seq n : Nat} (hprp : prp = 0) (hdup : dup = 0) (hlan : lan = 0) (hseq : seq = 0)
    (hlen : l.length < 2048) : prp * 2 ^ 63 + dup * 2 ^ 62 + lan * 2 ^ 61 + b2n (vlanTag l) * 2 ^ 60 +
      b2n (ptpEvent l).isSome * 2 ^ 59 + l.length % 2048 * 2 ^ 48 + n * 2 ^ 32 + seq * 2 ^ 16 +
      (if vlanTag l then b16At l 14 else 0) = frameEntry l n := by
  rw [frameEntry, hprp, hdup, hlan, hseq, Nat.mod_eq_of_lt hlen]
  omega

/-- The place of the next frame. -/
def State.slotAddr (s : State) (m : Nat) : Nat := (s.reg (R.ETH_RXBASE m)).toNat + (s.mac m).rxSlot * 2048

theorem State.ethStore_of_full (hfull : s.rxSlots m ≤ (s.mac m).rxUsed) :
    s.ethStore m l none false = s.incF (F.ETH_CNT.RXDROP m) 1 := if_pos (Nat.sub_eq_zero_of_le hfull)

theorem State.ethStore_of_room (hroom : (s.mac m).rxUsed < s.rxSlots m) (hlen : l.length ≤ 1532) :
    s.ethStore m l none false = (((s.netStore (s.slotAddr m) l).rxSlotTaken m (s.mac m).rxSlot (s.rxSlots m)).showRxLow m).hwPush
      (20 + m) (BitVec.ofNat 64 (frameEntry l (s.mac m).rxSlot)) := by
  unfold State.ethStore
  rw [if_neg (show ¬ s.rxFree m = 0 from Nat.sub_ne_zero_of_lt hroom)]
  extract_lets n r e t u
  have hentry : e = frameEntry l n := frameEntry_of_plain rfl rfl rfl rfl (by omega)
  rw [hentry]
  rfl

theorem State.rxSlotTaken_spec {n k : Nat} : ((s.rxSlotTaken m n k).mac m).rxSlot = (n + 1) % k ∧
    ((s.rxSlotTaken m n k).mac m).rxUsed = (s.mac m).rxUsed + 1 ∧ (s.rxSlotTaken m n k).regs = s.regs ∧
    (s.rxSlotTaken m n k).mem = s.mem ∧ (s.rxSlotTaken m n k).queues = s.queues := by
  obtain ⟨hregs, hmem, -, hqueues⟩ := State.modMac_frame (s := s) (m := m)
    (h := fun c => { c with rxSlot := (n + 1) % k, rxUsed := c.rxUsed + 1 })
  exact ⟨congrArg MacUnit.rxSlot State.mac_modMac_same, congrArg MacUnit.rxUsed State.mac_modMac_same, hregs, hmem, hqueues⟩

theorem State.onlyRegs_showRxLow : OnlyRegs [R.ETH_MSTAT m] s (s.showRxLow m) := .setB .refl List.mem_cons_self

theorem queueRegs_below_eth (hm : m < 2) : ∀ a ∈ queueRegs (20 + m), a ∉ [R.ETH_MSTAT m] := by
  intro a ha h
  have hlow : a < 0x400D0000 := by
    revert a
    revert m
    decide
  rw [List.mem_singleton.1 h] at hlow
  unfold R.ETH_MSTAT at hlow
  omega

/-- A frame stored in the ring stands in its slot with its entry. -/
theorem State.stored_spec {n k : Nat} {a : Nat} {e : DWord} (hm : m < 2)
    (ht : t = (((s.netStore a l).rxSlotTaken m n k).showRxLow m).hwPush (20 + m) e) :
    (∀ b, t.ldb b = (s.netStore a l).ldb b) ∧ (t.mac m).rxSlot = (n + 1) % k ∧ (t.mac m).rxUsed = (s.mac m).rxUsed + 1 ∧
      Pushed (20 + m) s t e ∧ SameRegsBut [R.ETH_MSTAT m, R.HQ_DROP (20 + m), R.HQ_STAT (20 + m)] s t := by
  obtain ⟨hstore, -, -⟩ := s.netStore_spec a l
  have hregs₁ : (s.netStore a l).regs = s.regs := (congrArg State.regs hstore :)
  have heth₁ : (s.netStore a l).eth = s.eth := (congrArg State.eth hstore :)
  have hqueues₁ : (s.netStore a l).queues = s.queues := (congrArg State.queues hstore :)
  generalize s.netStore a l = u at *
  obtain ⟨hslot, hused, hregs₂, hmem₂, hqueues₂⟩ := u.rxSlotTaken_spec (m := m) (n := n) (k := k)
  generalize u.rxSlotTaken m n k = v at *
  have hlow := v.onlyRegs_showRxLow (m := m)
  generalize v.showRxLow m = w at *
  have hqueues₃ : w.queues = v.queues := (congrArg State.queues hlow.1 :)
  obtain ⟨hframe, hsame⟩ := State.hwPush_frame (s := w) (q := 20 + m) (e := e)
  rw [← ht] at hframe hsame
  have hmac : t.mac m = v.mac m := (State.mac_congr (congrArg State.eth hframe :) m).trans (State.mac_congr hlow.eth m)
  have hbefore : SameRegsBut [R.ETH_MSTAT m] s w := fun a ha =>
    (hlow.2 a ha).trans (State.reg_congr (hregs₂.trans hregs₁) a)
  refine ⟨fun b => ?_, (congrArg MacUnit.rxSlot hmac).trans hslot, ?_, ?_, fun a ha => ?_⟩
  · exact State.ldb_congr (((congrArg State.mem hframe :) : t.mem = w.mem).trans (hlow.touches.mem.trans hmem₂)) b
  · rw [hmac, hused, State.mac_congr heth₁]
  · rw [ht]
    exact State.pushed_hwPush (State.queue_congr (hqueues₃.trans (hqueues₂.trans hqueues₁)) _) hbefore (queueRegs_below_eth hm)
  · obtain ⟨hstat, hqueue⟩ := List.ne_and_not_mem_of_not_mem_cons ha
    exact (hsame a hqueue).trans (hbefore a fun h => hstat (List.mem_singleton.1 h))

/-! ## Safety frames (14 R413) -/

/-- Word k of the message of a safety frame. -/
def frameWord (l : List Byte) (k : Nat) : Word :=
  wN (bAt l (typeAt l + 2 + 4 * k) + bAt l (typeAt l + 2 + 4 * k + 1) * 256 + bAt l (typeAt l + 2 + 4 * k + 2) * 65536 +
    bAt l (typeAt l + 2 + 4 * k + 3) * 2 ^ 24)

/-- The message of a safety frame, and its last word. -/
def frameWords (l : List Byte) : List Word := (List.range 13).map (frameWord l) ++ [0x80000000#32]

/-- The slot of the next safety frame. -/
def State.safeAddr (s : State) (m : Nat) : Nat := 0x3307F000 + m * 0x200 + (s.mac m).safeSlot * 0x40

/-- The slot of a safety frame is taken. -/
def State.safeTaken (s : State) (m n : Nat) : State :=
  (s.setB (F.ETH_MSTAT.SAFERX m) true).modMac m fun c => { c with safeSlot := (n + 1) % 8 }

theorem State.ethSafety_of_full (hfull : bitAt (s.ldw (s.safeAddr m + 52)) 31 = true) :
    s.ethSafety m l none = (s.incF (F.ETH_SAFETYPE.SAFEDROP m) 1).note 13 3 m := if_pos hfull

theorem State.ethSafety_of_free (hfree : bitAt (s.ldw (s.safeAddr m + 52)) 31 = false) :
    s.ethSafety m l none = (s.putWords (s.safeAddr m) (frameWords l)).safeTaken m (s.mac m).safeSlot :=
  if_neg (by rw [← State.safeAddr, hfree]; decide)

theorem State.safeDropped_spec (ht : t = (s.incF (F.ETH_SAFETYPE.SAFEDROP m) 1).note 13 3 m) :
    t.f (F.ETH_SAFETYPE.SAFEDROP m) = (s.f (F.ETH_SAFETYPE.SAFEDROP m) + 1) % 65536 ∧ SameMem s t := by
  have hcount : (s.incF (F.ETH_SAFETYPE.SAFEDROP m) 1).f (F.ETH_SAFETYPE.SAFEDROP m) =
      (s.f (F.ETH_SAFETYPE.SAFEDROP m) + 1) % 65536 := State.f_incF_same _ _ _ (by decide : 31 < 32)
  have hset : OnlyRegs [R.ETH_SAFETYPE m] s (s.incF (F.ETH_SAFETYPE.SAFEDROP m) 1) := .incF .refl List.mem_cons_self
  generalize s.incF (F.ETH_SAFETYPE.SAFEDROP m) 1 = u at *
  have hnote : OnlyNoted [R.FCU_LDGLOST] u t := ht ▸ OnlyNoted.refl.note List.mem_cons_self
  have hne : R.ETH_SAFETYPE m ∉ [R.FCU_LDGLOST] := by
    rw [List.mem_singleton]
    unfold R.ETH_SAFETYPE R.FCU_LDGLOST
    omega
  exact ⟨(hnote.2.f (x := F.ETH_SAFETYPE.SAFEDROP m) hne).trans hcount, State.ldb_congr (hnote.mem.trans hset.touches.mem)⟩

theorem bAt_lt (n : Nat) : bAt l n < 256 := BitVec.isLt _

theorem toNat_frameWord (k : Nat) : let p := typeAt l + 2 + 4 * k
    (frameWord l k).toNat = bAt l p + bAt l (p + 1) * 2 ^ 8 + bAt l (p + 2) * 2 ^ 16 + bAt l (p + 3) * 2 ^ 24 := by
  intro p
  have h0 := bAt_lt (l := l) p
  have h1 := bAt_lt (l := l) (p + 1)
  have h2 := bAt_lt (l := l) (p + 2)
  have h3 := bAt_lt (l := l) (p + 3)
  rw [frameWord, wN, BitVec.toNat_ofNat]
  change (bAt l p + bAt l (p + 1) * 256 + bAt l (p + 2) * 65536 + bAt l (p + 3) * 2 ^ 24) % 2 ^ 32 = _
  omega

theorem State.safeTaken_spec {n : Nat} (ht : t = s.safeTaken m n) : t.fb (F.ETH_MSTAT.SAFERX m) = true ∧
    (t.mac m).safeSlot = (n + 1) % 8 ∧ Touches [R.ETH_MSTAT m] s t := by
  have hset : OnlyRegs [R.ETH_MSTAT m] s (s.setB (F.ETH_MSTAT.SAFERX m) true) := .setB .refl List.mem_cons_self
  have hflag : (s.setB (F.ETH_MSTAT.SAFERX m) true).fb (F.ETH_MSTAT.SAFERX m) = true :=
    State.fb_setB_same _ _ _ rfl (by decide : 27 < 32)
  rw [State.safeTaken] at ht
  generalize s.setB (F.ETH_MSTAT.SAFERX m) true = u at *
  obtain ⟨hregs, hmem, -⟩ := State.modMac_frame (s := u) (m := m) (h := fun c => { c with safeSlot := (n + 1) % 8 })
  rw [← ht] at hregs hmem
  exact ⟨(State.fb_congr hregs _).trans hflag, ht ▸ congrArg MacUnit.safeSlot State.mac_modMac_same,
    hset.touches.update hregs hmem⟩

/-- A safety frame stands in its slot. -/
theorem State.safeStored_spec {a n : Nat} (ht : t = (s.putWords a (frameWords l)).safeTaken m n) :
    t.fb (F.ETH_MSTAT.SAFERX m) = true ∧ (t.mac m).safeSlot = (n + 1) % 8 ∧
      (∀ k, k < 13 → t.ldw (a + 4 * k) = frameWord l k) ∧ t.ldw (a + 52) = 0x80000000#32 ∧
      (∀ x, x < a ∨ a + 56 ≤ x → t.ldb x = s.ldb x) ∧ SameRegsBut [R.ETH_MSTAT m] s t := by
  have hlen : (frameWords l).length = 14 := by
    rw [frameWords, List.length_append, List.length_map, List.length_range]
    rfl
  have hregs : (s.putWords a (frameWords l)).regs = s.regs := (congrArg State.regs (State.putWords_frame (frameWords l) s a) :)
  have hread {j : Nat} (hj : j < 14) := State.ldw_putWords (frameWords l) s a (hlen.symm ▸ hj : j < (frameWords l).length)
  have hout {x : Nat} (hx : x < a ∨ a + 56 ≤ x) := State.ldb_putWords_ne (frameWords l) s a (b := x) (by rw [hlen]; exact hx)
  generalize s.putWords a (frameWords l) = u at *
  obtain ⟨hflag, hslot, hframe⟩ := State.safeTaken_spec ht
  refine ⟨hflag, hslot, fun k hk => ?_, ?_, fun x hx => (hframe.sameMem x).trans (hout hx),
    fun b hb => (hframe.regs b hb).trans (State.reg_congr hregs b)⟩
  · rw [State.ldw_congr hframe.mem, hread (Nat.lt_succ_of_lt hk)]
    simp [frameWords, hk]
  · rw [State.ldw_congr hframe.mem, show 52 = 4 * 13 from rfl, hread (by decide)]
    simp [frameWords]

/-! ## Slots returned (14 R405) -/

/-- Slots of the ring are free again. -/
def State.slotsFreed (s : State) (m n : Nat) : State := s.modMac m fun c => { c with rxUsed := c.rxUsed - n }

theorem State.rxRelease_of_on {n : Nat} (hon : s.on 10 = true) : s.rxRelease m n = (s.slotsFreed m n).showRxLow m := if_pos hon

theorem State.rxRelease_spec {n : Nat} (hon : s.on 10 = true) (ht : t = s.rxRelease m n) :
    (t.mac m).rxUsed = (s.mac m).rxUsed - n ∧ (t.mac m).rxSlot = (s.mac m).rxSlot ∧
      t.fb (F.ETH_MSTAT.RXLOW m) = decide (s.rxSlots m - ((s.mac m).rxUsed - n) < 4) ∧ Touches [R.ETH_MSTAT m] s t := by
  rw [State.rxRelease_of_on hon] at ht
  have hmac : (s.slotsFreed m n).mac m = _ := State.mac_modMac_same
  obtain ⟨hregs, hmem, -⟩ := State.modMac_frame (s := s) (m := m) (h := fun c => { c with rxUsed := c.rxUsed - n })
  rw [← State.slotsFreed] at hregs hmem
  generalize s.slotsFreed m n = u at *
  have hlow : OnlyRegs [R.ETH_MSTAT m] u t := ht ▸ u.onlyRegs_showRxLow
  have hflag : t.fb (F.ETH_MSTAT.RXLOW m) = decide (u.rxFree m < 4) := ht ▸ State.fb_setB_same _ _ _ rfl (by decide : 25 < 32)
  have hslots : u.rxSlots m = s.rxSlots m := by rw [State.rxSlots, State.rxSlots, State.f_congr hregs]
  have hkept : t.mac m = u.mac m := State.mac_congr hlow.eth m
  refine ⟨?_, ?_, ?_, (Touches.refl.update hregs hmem).trans hlow.touches⟩
  · rw [hkept, hmac]
  · rw [hkept, hmac]
  · rw [hflag, State.rxFree, hslots, hmac]

end

end Sys2Proof.Machine

/-! The transmit queues of a MAC (14 R407, R409 to R412), and the statement that the Ethernet commands settle. -/

namespace Sys2Proof.Machine

section
variable {s t : State} {m h : Nat} {e : DWord} {l : List DWord}

/-- The PRP counter of a MAC. -/
def seqField (m : Nat) : Field := if m = 0 then F.ETH_PRPSET.SEQ0 else F.ETH_PRPSET.SEQ1

theorem seqField_spec (m : Nat) : (seqField m).addr = R.ETH_PRPSET ∧ (seqField m).hi < 32 ∧
    (seqField m).hi + 1 - (seqField m).lo = 16 := by
  unfold seqField
  split <;> decide

/-- The PRP counter advances for a PRP entry. -/
def State.seqAdvanced (s : State) (m : Nat) (e : DWord) : State := if bitAt e 62 then s.incF (seqField m) 1 else s

theorem State.seqAdvanced_spec (ht : t = s.seqAdvanced m e) :
    t.f (seqField m) = (s.f (seqField m) + b2n (bitAt e 62)) % 65536 ∧ OnlyRegs [R.ETH_PRPSET] s t := by
  obtain ⟨haddr, hhi, hwidth⟩ := seqField_spec m
  rw [State.seqAdvanced] at ht
  cases hprp : bitAt e 62
  · have hlt : s.f (seqField m) < 65536 := by
      have := fld_lt (s.reg (seqField m).addr) (seqField m).hi (seqField m).lo
      rwa [hwidth] at this
    rw [hprp] at ht
    rw [show t = s from ht]
    exact ⟨(Nat.mod_eq_of_lt hlt).symm, .refl⟩
  · rw [hprp] at ht
    rw [show t = s.incF (seqField m) 1 from ht, State.f_incF_same _ _ _ hhi, hwidth]
    exact ⟨rfl, .incF .refl (haddr ▸ List.mem_cons_self)⟩

/-- The head of a transmit queue is done. -/
def State.headDone (s : State) (m h : Nat) (l : List DWord) : State :=
  (s.setQueue (16 + 2 * m + h) l).incF (F.ETH_TXQ.DONE m h) 1

theorem State.txPop_of_head (hq : s.qOn (16 + 2 * m + h) = true) (hl : s.queue (16 + 2 * m + h) = e :: l) :
    s.txPop m h e = (s.headDone m h l).seqAdvanced m e := by
  unfold State.txPop
  rw [State.hwPop_of_entry hq hl]
  rfl

theorem txq_ne_prpset (m h : Nat) : R.ETH_TXQ m h ≠ R.ETH_PRPSET := by
  unfold R.ETH_TXQ R.ETH_PRPSET
  omega

theorem State.setQueue_frame {q : Nat} : (s.setQueue q l).regs = s.regs ∧ (s.setQueue q l).mem = s.mem ∧
    (s.setQueue q l).eth = s.eth := ⟨rfl, rfl, rfl⟩

/-- The head popped counts in DONE, and a PRP entry advances its counter. -/
theorem State.txPop_spec (hq : s.qOn (16 + 2 * m + h) = true) (hl : s.queue (16 + 2 * m + h) = e :: l)
    (hdone : s.f (F.ETH_TXQ.DONE m h) < 65535) (ht : t = s.txPop m h e) :
    t.queue (16 + 2 * m + h) = l ∧ t.f (F.ETH_TXQ.DONE m h) = s.f (F.ETH_TXQ.DONE m h) + 1 ∧
      t.f (F.ETH_TXQ.DISC m h) = s.f (F.ETH_TXQ.DISC m h) ∧
      t.f (seqField m) = (s.f (seqField m) + b2n (bitAt e 62)) % 65536 ∧ t.eth = s.eth ∧
      Touches [R.ETH_TXQ m h, R.ETH_PRPSET] s t := by
  rw [State.txPop_of_head hq hl] at ht
  obtain ⟨hregs, hmem, heth⟩ := s.setQueue_frame (q := 16 + 2 * m + h) (l := l)
  have hqueue : (s.setQueue (16 + 2 * m + h) l).queue (16 + 2 * m + h) = l := State.queue_setQueue_same _ _
  rw [State.headDone] at ht
  generalize s.setQueue (16 + 2 * m + h) l = u at *
  have hcount : (u.incF (F.ETH_TXQ.DONE m h) 1).f (F.ETH_TXQ.DONE m h) = s.f (F.ETH_TXQ.DONE m h) + 1 := by
    rw [State.f_incF_same _ _ _ (by decide : 15 < 32), State.f_congr hregs]
    exact Nat.mod_eq_of_lt (by omega : s.f (F.ETH_TXQ.DONE m h) + 1 < 65536)
  have hdisc : (u.incF (F.ETH_TXQ.DONE m h) 1).f (F.ETH_TXQ.DISC m h) = s.f (F.ETH_TXQ.DISC m h) :=
    (State.f_setF_apart _ _ _ _ (.inr (.inr (by decide : 15 < 24)))).trans (State.f_congr hregs _)
  have hset : OnlyRegs [R.ETH_TXQ m h] u (u.incF (F.ETH_TXQ.DONE m h) 1) := .incF .refl List.mem_cons_self
  generalize u.incF (F.ETH_TXQ.DONE m h) 1 = v at *
  obtain ⟨hseq, hprp⟩ := State.seqAdvanced_spec ht
  have hne := txq_ne_prpset m h
  have htxq : R.ETH_TXQ m h ∉ [R.ETH_PRPSET] := fun hin => hne (List.mem_singleton.1 hin)
  have hkept : v.f (seqField m) = s.f (seqField m) := by
    refine (hset.2.f (x := seqField m) ?_).trans (State.f_congr hregs _)
    rw [(seqField_spec m).1]
    exact fun hin => hne (List.mem_singleton.1 hin).symm
  refine ⟨?_, (hprp.2.f (x := F.ETH_TXQ.DONE m h) htxq).trans hcount, (hprp.2.f (x := F.ETH_TXQ.DISC m h) htxq).trans hdisc,
    by rw [hseq, hkept], hprp.eth.trans (hset.eth.trans heth),
    ((Touches.refl.update hregs hmem).trans (hset.touches.mono (by simp))).trans (hprp.touches.mono (by simp))⟩
  have hqueues : t.queues = u.queues := (congrArg State.queues hprp.1 :).trans (congrArg State.queues hset.1 :)
  rw [State.queue_congr hqueues, hqueue]

/-! ## A frame discarded -/

theorem State.ethLaunch_of_bad (hon : s.macOn m = true) (htx : s.fb (F.ETH_MCFG.TXEN m) = true)
    (hq : s.qOn (16 + 2 * m + h) = true) (hl : s.queue (16 + 2 * m + h) = e :: l)
    (hlen : fld e 58 48 < 14 ∨ 1518 < fld e 58 48) :
    s.ethLaunch m h = (s.txPop m h e).incF (F.ETH_TXQ.DISC m h) 1 := by
  unfold State.ethLaunch
  rw [if_pos (by rw [hon, htx, hq]; rfl), hl]
  exact if_pos hlen

theorem State.discarded_spec {u : State} (hdisc : u.f (F.ETH_TXQ.DISC m h) < 255)
    (ht : t = u.incF (F.ETH_TXQ.DISC m h) 1) : t.f (F.ETH_TXQ.DISC m h) = u.f (F.ETH_TXQ.DISC m h) + 1 ∧
      t.f (F.ETH_TXQ.DONE m h) = u.f (F.ETH_TXQ.DONE m h) ∧ OnlyRegs [R.ETH_TXQ m h, R.ETH_PRPSET] u t := by
  rw [ht]
  refine ⟨?_, State.f_setF_apart _ _ _ _ (.inr (.inl (by decide : 15 < 24))), .incF .refl List.mem_cons_self⟩
  rw [State.f_incF_same _ _ _ (by decide : 31 < 32)]
  exact Nat.mod_eq_of_lt (by omega : u.f (F.ETH_TXQ.DISC m h) + 1 < 256)

/-! ## A frame launched -/

/-- The frame of an entry is under way. -/
def State.frameSent (s : State) (m : Nat) (out : List Byte) (n : Nat) : State :=
  s.modMac m fun c => { c with out := out, txEnd := n }

theorem State.launchLate_of_now (h : bitAt e 63 = false) : s.launchLate e = 0 := if_neg (by rw [h]; decide)

theorem State.lowMay_of_empty (hempty : s.queue (16 + 2 * m) = []) : s.lowMay m e = true := by
  unfold State.lowMay
  rw [hempty]

/-- An entry without LAUNCH leaves when it is reached. -/
theorem State.ethLaunch_of_now (hon : s.macOn m = true) (htx : s.fb (F.ETH_MCFG.TXEN m) = true)
    (hq : s.qOn (16 + 2 * m + h) = true) (hl : s.queue (16 + 2 * m + h) = e :: l) (hlow : 14 ≤ fld e 58 48)
    (hhigh : fld e 58 48 ≤ 1518) (hnow : bitAt e 63 = false) (hend : (s.mac m).txEnd ≤ s.tm.refclk)
    (hmay : h = 1 → s.queue (16 + 2 * m) = []) : s.ethLaunch m h =
      (s.txPop m h e).frameSent m (s.txFrame m (s.f (seqField m)) e) (s.tm.refclk + s.txCycles m (txBytes e)) := by
  have hlen : ¬ (fld e 58 48 < 14 ∨ 1518 < fld e 58 48) := by omega
  have hlate (u : State) : u.launchLate e = 0 := State.launchLate_of_now hnow
  have hwait : s.advanceTo (s.now + (-(s.launchLate e)).toNat) = s := by
    rw [hlate]
    exact State.advanceTo_of_past (Nat.le_refl _)
  have hstart : ¬ (decide (h = 1) && !s.lowMay m e) = true := by
    by_cases h1 : h = 1
    · rw [State.lowMay_of_empty (hmay h1), Bool.not_true, Bool.and_false]
      decide
    · rw [decide_eq_false h1, Bool.false_and]
      decide
  unfold State.ethLaunch
  rw [if_pos (by rw [hon, htx, hq]; rfl), hl]
  refine (if_neg hlen).trans ?_
  rw [State.untilCycle_of_past hend]
  simp only [hwait]
  refine (if_neg hstart).trans ?_
  rw [hlate]
  exact (if_neg (by omega)).trans (if_neg (by decide))

theorem State.frameSent_spec {out : List Byte} {n : Nat} (ht : t = s.frameSent m out n) : (t.mac m).out = out ∧
    (t.mac m).txEnd = n ∧ t.regs = s.regs ∧ t.mem = s.mem ∧ t.queues = s.queues := by
  obtain ⟨hregs, hmem, -, hqueues⟩ := State.modMac_frame (s := s) (m := m) (h := fun c => { c with out := out, txEnd := n })
  rw [State.frameSent] at ht
  exact ⟨ht ▸ congrArg MacUnit.out State.mac_modMac_same, ht ▸ congrArg MacUnit.txEnd State.mac_modMac_same, ht ▸ hregs,
    ht ▸ hmem, ht ▸ hqueues⟩

/-! ## PRPSET_WRITE (14 R407) -/

theorem State.prpsetWrite_of_on {v : Nat} (hon : s.on 10 = true) :
    s.prpsetWrite v = (s.setF F.ETH_PRPSET.SEQ0 v).setF F.ETH_PRPSET.SEQ1 v := if_pos hon

theorem State.prpset_spec {v : Nat} (hv : v < 65536) (ht : t = (s.setF F.ETH_PRPSET.SEQ0 v).setF F.ETH_PRPSET.SEQ1 v) :
    t.f F.ETH_PRPSET.SEQ0 = v ∧ t.f F.ETH_PRPSET.SEQ1 = v ∧ OnlyRegs [R.ETH_PRPSET] s t := by
  rw [ht]
  exact ⟨(State.f_setF_apart _ _ _ _ (by decide)).trans ((State.f_setF_same _ _ _ (by decide)).trans (Nat.mod_eq_of_lt hv)),
    (State.f_setF_same _ _ _ (by decide)).trans (Nat.mod_eq_of_lt hv),
    .setF (.setF .refl List.mem_cons_self) List.mem_cons_self⟩

end

/-- Settles O44: a frame is dropped, stored in the ring or kept for the safety slots, and the head of a queue is discarded
or sent. -/
theorem ethernetReceiveAndTransmit : Obligations.EthernetReceiveAndTransmit := by
  refine ⟨fun s m l fcsOk hoff => congrArg Host.Outcome.next (State.ethReceive_of_off hoff),
    fun s m l fcsOk hon hrx => ⟨fun hbad => ?_, fun hok hunsafe hprp hroom ha hb h3 => ?_, fun hok hunsafe hprp hfull => ?_,
      fun hok hsafe hprp => ⟨fun hfull => ?_, fun hfree => ?_⟩⟩,
    fun s m n hon => ?_, fun s m low e l hon htx hq hl hdone hdisc => ⟨fun hlen => ?_, fun hlow hhigh hnow hend hmay => ?_⟩,
    fun s v hon => ?_⟩
  · exact .intro rfl (State.ethReceive_of_bad hon hrx hbad) (State.ethDrop_spec rfl)
  · obtain ⟨-, hout, hin⟩ := s.netStore_spec (s.slotAddr m) l
    obtain ⟨hbytes, hslot, hused, hpush, hframe⟩ := State.stored_spec (s := s) (t := _) (l := l) (n := (s.mac m).rxSlot)
      (k := s.rxSlots m) (a := s.slotAddr m) (e := BitVec.ofNat 64 (frameEntry l (s.mac m).rxSlot)) m.isLt rfl
    exact .intro rfl ((State.ethReceive_of_ok hon hrx hok hprp).trans
        ((if_neg hunsafe).trans (State.ethStore_of_room hroom hok.2.1.2)))
      ⟨fun i hi => (hbytes _).trans (hin h3 ha hb i hi), fun b hout' => (hbytes b).trans (hout b hout'), hslot, hused,
        hpush, hframe⟩
  · exact .intro rfl ((State.ethReceive_of_ok hon hrx hok hprp).trans ((if_neg hunsafe).trans (State.ethStore_of_full hfull)))
      ⟨State.f_incF_same _ _ _ (by decide : 31 < 32), .incF .refl List.mem_cons_self⟩
  · exact .intro rfl ((State.ethReceive_of_ok hon hrx hok hprp).trans ((if_pos hsafe).trans (State.ethSafety_of_full hfull)))
      (State.safeDropped_spec rfl)
  · obtain ⟨hflag, hslot, hwords, hlast, hout, hframe⟩ := State.safeStored_spec (s := s) (m := m) (l := l)
      (a := s.safeAddr m) (n := (s.mac m).safeSlot) rfl
    exact .intro rfl ((State.ethReceive_of_ok hon hrx hok hprp).trans ((if_pos hsafe).trans (State.ethSafety_of_free hfree)))
      ⟨hflag, hslot, fun k hk => (congrArg BitVec.toNat (hwords k hk)).trans (toNat_frameWord k), hlast, hout, hframe⟩
  · obtain ⟨hused, hslot, hflag, hframe⟩ := State.rxRelease_spec (s := s) (m := m) (n := n.toNat) hon rfl
    exact .intro rfl rfl ⟨hused, hslot, hflag, hframe.regs, hframe.sameMem⟩
  · obtain ⟨hqueue, hcount, hkept, -, heth, hframe⟩ := State.txPop_spec hq hl hdone rfl
    refine .intro rfl (State.ethLaunch_of_bad hon htx hq hl hlen) ?_
    generalize s.txPop m low e = u at *
    obtain ⟨hdropped, hsame, hset⟩ := State.discarded_spec (hkept.symm ▸ hdisc) rfl
    have hall := hframe.trans hset.touches
    exact ⟨(State.queue_congr (congrArg State.queues hset.1 :) _).trans hqueue, hdropped.trans (by rw [hkept]),
      hsame.trans hcount, congrArg MacUnit.out (State.mac_congr (hset.eth.trans heth) m), hall.regs, hall.sameMem⟩
  · obtain ⟨hqueue, hcount, hkept, hseq, -, hframe⟩ := State.txPop_spec hq hl hdone rfl
    refine .intro rfl (State.ethLaunch_of_now hon htx hq hl hlow hhigh hnow hend ?_) ?_
    · exact fun h1 => hmay.resolve_left fun h0 => absurd (h0.symm.trans h1) (by decide)
    have hnumber (x : State) : x.f (seqField m) = if m.val = 0 then x.f F.ETH_PRPSET.SEQ0 else x.f F.ETH_PRPSET.SEQ1 := by
      rw [seqField, apply_ite x.f]
    rw [hnumber s] at hseq ⊢
    generalize s.txPop m low e = u at *
    obtain ⟨hout, hends, hregs, hmem, hqueues⟩ := State.frameSent_spec (s := u) (m := m)
      (out := s.txFrame m (if m.val = 0 then s.f F.ETH_PRPSET.SEQ0 else s.f F.ETH_PRPSET.SEQ1) e)
      (n := s.tm.refclk + s.txCycles m (txBytes e)) rfl
    have hall := hframe.update hregs hmem
    have hnext := (hnumber _).symm.trans ((State.f_congr hregs (seqField m)).trans hseq)
    exact ⟨(State.queue_congr hqueues _).trans hqueue, hout, hends, (State.f_congr hregs _).trans hcount,
      (State.f_congr hregs _).trans hkept, hnext, hall.regs, hall.sameMem⟩
  · exact .intro rfl (State.prpsetWrite_of_on hon) (State.prpset_spec v.isLt rfl)

end Sys2Proof.Machine
